-- ==== Sys2Proof/Word.lean ====
section
/-! DEFINITION. The word types of the SC-9648: 32-bit registers (R12), bytes, 64-bit counters. -/

namespace Sys2Proof

/-- A register, or one 32-bit word of a queue record (R12, R291). -/
abbrev Word := BitVec 32

/-- A byte of memory. -/
abbrev Byte := BitVec 8

/-- A 64-bit value: the timebase (R44), most mailbox selectors (R286). -/
abbrev DWord := BitVec 64

end Sys2Proof
end

