-- ==== Sys2Proof/Syntax.lean ====
section
/-! DEFINITION. The commands of the SC-9648: one constructor for each row of the table of operations and events,
with the operands the row carries (log 8). -/

namespace Sys2Proof

/-- What a relock of the main PLL finds on the unit when lock is declared (R36, R39): values the spec leaves to the unit. -/
structure LockInfo where
  /-- Band code found or used. -/
  code : BitVec 6
  /-- Hold-DAC seed. -/
  seed : BitVec 20
  /-- Duration of the halt in microseconds (R44). -/
  gapUs : Nat
  /-- Residue at which the aligned boundaries fall, modulo A (R34). -/
  align : BitVec 7
  deriving DecidableEq, Repr

/-- The state that a comparator pair resolves (R193). -/
inductive Comp where
  | low | mid | high
  deriving DecidableEq, Repr

/-- One strobe of a bank: pin `p`, vector `v`, the pin's voltage there in microvolts, as the comparator pair sees it (R193, R196). -/
structure Strobe where
  p : Fin 32
  v : Fin 8
  uv : Int
  deriving DecidableEq, Repr

/-- One bank-tick to be captured: the comparator states of the bank's pins, vector by vector (R206). -/
structure CaptTick where
  bank : Fin 4
  tick : Nat
  states : List Strobe
  deriving DecidableEq, Repr

/-- What requesters other than the segment readers and the capture buffers ask of one DRAM channel in a timeline row, in granules
(R139, R144). -/
structure RowDemand where
  ch : Fin 8
  stg : List Nat
  capr : Nat
  ingest : Nat
  mgmt : Nat
  deriving DecidableEq, Repr

/-- `count` yields that arise from one tick to the next below this model's grain (R166): the winning and the yielding rung, the resource,
the index of the channel or port, 255 if none. -/
structure YieldReport where
  win : Nat
  lose : Nat
  res : Nat
  idx : Nat
  count : Nat
  deriving DecidableEq, Repr

/-- What arises in one 16-tick row: the requests at each channel, the bank-ticks to capture, and yields over track memory, data ports
and the on-chip network. -/
structure RowReport where
  demands : List RowDemand
  capture : List CaptTick
  others : List YieldReport
  deriving DecidableEq, Repr

/-- A received Ethernet frame, its bytes from the destination address on, without the FCS. -/
structure RxFrame where
  bytes : List Byte
  deriving DecidableEq, Repr

/-- A frame that a link does not accept: its bytes, and whether its FCS is wrong (R247). -/
structure DroppedFrame where
  frame : RxFrame
  fcs : Bool
  deriving DecidableEq, Repr

/-- How a transition of a trigger input stays: for how many samples its level holds, and the filtered level of the ball at sample 7 of
the tick (R116, R117). -/
structure Stay where
  held : Nat
  at7 : Bool
  deriving DecidableEq, Repr

/-- A register read: whether it is privileged (R274), its width in bytes, and the first of them in the containing register (R275). -/
structure BusRead where
  p : Bool
  bytes : Nat
  ofs : Nat
  deriving DecidableEq, Repr

/-- A scan of DBG_ACCESS (R329): the bits of its data register, and, where it reads CAPQ_RD or LOGQ_RD, whether the word is corrected or
uncorrectable (R295). -/
structure DbgScan where
  dr : BitVec 64
  corrected : Bool
  uncorr : Bool
  deriving DecidableEq, Repr

/-- A read of CAPQ_RD: the read, whether the word it takes is corrected, and whether it is uncorrectable (R295). -/
structure CapqLook where
  p : BusRead
  corrected : Bool
  uncorr : Bool
  deriving DecidableEq, Repr

/-- A refresh of a channel in free mode, and the yields of what waited for it (R146, R166). -/
structure FreeRefresh where
  c : Fin 8
  waited : List YieldReport
  deriving DecidableEq, Repr

/-- What start-up finds (R308): the RECOVERY strap; the halves whose records are unreadable; whether the reference qualifies;
the lock of the main PLL; the CH_SIZE code each DRAM channel reports, none where it does not respond; which channels train;
the clusters and banks that do not report ready, in bits 0-7 and 8-11; the rails in mV; the read-back codes; the readings of the
thermal sensors in eighths of a degree as stage 5 finds them; whether a relock with the stored band entry misses its 25 µs. -/
structure StartEnv where
  recovery : Bool
  storeBad : BitVec 2
  ref : Bool
  lock : LockInfo
  density : List (Option (Fin 3))
  trained : List Bool
  late : BitVec 12
  rails : List Int
  codes : List Int
  temps : List Int
  miss : Bool
  deriving DecidableEq, Repr

/-- The outcome of a SYNC round-trip measurement (R338). -/
inductive CalResult where
  | none
  | rt (rt spread : Nat)
  deriving DecidableEq, Repr

/-- The body of an IDENT frame (R343). -/
structure MirIdent where
  unitId : BitVec 64
  planId : BitVec 64
  fabricId : BitVec 64
  planN : BitVec 8
  role : BitVec 2
  heat : BitVec 3
  deriving DecidableEq, Repr

/-- A leader's decision (R346); `ctrl`: a command of SEQ_CTRL, not of a sequencer's queue. -/
structure MirDecision where
  sq : Fin 8
  ctrl : Bool
  kind : BitVec 2
  d : BitVec 48
  arg : BitVec 64
  deriving DecidableEq, Repr

/-- One LAP_MARK frame (R347). -/
inductive MirLapMark where
  | time (heat tb : BitVec 48)
  | sq (n : Fin 8) (state : BitVec 3) (entry : BitVec 16) (lap : BitVec 24) (ofs : Nat) (ext : Byte) (under : Bool)
      (latches : BitVec 64)
  deriving DecidableEq, Repr

/-- An update frame (R374): its UDP payload and the source addresses and port of what carried it, all zero on the mirror link;
a word of it that UPDQ finds uncorrectable, and how many it corrects (R295). -/
structure UpdFrame where
  bytes : List Byte
  srcMac : BitVec 48
  srcIp : BitVec 128
  srcPort : BitVec 16
  ecc : Option (Fin 16)
  corrected : Nat
  deriving DecidableEq, Repr

/-- A TFTP message to the boot ROM (R385): its UDP payload, its source addresses and port. -/
structure TftpFrame where
  bytes : List Byte
  srcMac : BitVec 48
  srcIp : BitVec 32
  srcPort : BitVec 16
  deriving DecidableEq, Repr

/-- The commands. `w` is the word a register write carries and `p` whether the access is privileged (R274); a value that
the device measures or receives is an operand. -/
inductive Instr where
  /-- A write to a register that has no row of its own passes the presence, wake, width, privilege, key and lock checks and then acts under its field types (R276). -/
  | registerWrite (a : BitVec 24) (w : Word) (bytes : Nat) (p : Bool)
  /-- A stalled register access reaches 100 µs, so a read returns zero, a write is dropped, and BUS_TIMEOUT and ERR_ADDR are set (R277). -/
  | busTimeout
  /-- A write to GLB_KEY arms the key with 0x0000_C41A, restarts it, or disarms it with any other value (R280). -/
  | glbKeyWrite (w : Word) (p : Bool)
  /-- The armed key disarms 4 µs after arming when no guarded write has consumed it (R280). -/
  | keyExpiry
  /-- A write to MBX_SEL with WRITE = 0 takes the selector value in one cycle of the target domain into the data words (R286). -/
  | mailboxRead (sel : BitVec 16) (p : Bool)
  /-- A write to MBX_SEL with WRITE = 1 applies the data words to the selector, subject to its range and lock checks (R286). -/
  | mailboxWrite (sel : BitVec 16) (p : Bool)
  /-- A mailbox operation whose target domain is not ready within 100 µs completes with TIMEOUT (R287). -/
  | mailboxTimeout
  /-- A write of 1 to a bit of UPD_STROBE issues an update strobe of that group, copying the shadows of every block that obeys it (R285). -/
  | updateStrobe (w : Word) (p : Bool)
  /-- The values copied by a strobe issued in tick k take effect at the fine outputs and vector pins from output tick k + 48 (R189). -/
  | strobeEffect
  /-- A write to a persistent word commits it to its cell in 15 µs while the bus stalls, or is skipped, refused for range, or refused as worn (R303). -/
  | pvWrite (i : Fin 8160) (w : Word) (p : Bool)
  /-- OTP_CMD.PROG starts programming OTP_PDATA into the selected one-time word (R307). -/
  | prog (w : Word) (p : Bool)
  /-- One-time programming ends after 200 µs with OK, CRC or another status after read-back (R307). -/
  | progDone (readBack : Word)
  /-- FABRIC_CTRL.LOAD copies and checks the fabric image at FABRIC_ADDR in order and refuses it with the status of the first failed check (R300). -/
  | fabricLoad (w : Word) (p : Bool)
  /-- A fabric image that passes is applied within 100 µs: the plan is unloaded, absent units go to the hold path and the structure takes its new values (R301). -/
  | fabricApplied
  /-- The reference monitor declares loss, and the loop coasts on the hold DAC while CD_REF and CD_AO switch to holdover and the RC oscillator (R48). -/
  | refLoss (ctl : BitVec 20)
  /-- The coasting time passes COAST_ALARM, so COAST_LONG is set and an event record is written (R49). -/
  | coastLong
  /-- A returned reference that has stayed valid for 100 µs is qualified, and CD_AO returns to it (R50). -/
  | refQualified (good : Bool)
  /-- Within 10 µs of qualification the phase step and frequency offset are measured, REF_BACK is set and the return policy of R52 is applied (R50). -/
  | refBack (step : Int) (fofs : Int) (coastUs : Nat)
  /-- Under RET_POLICY REALIGN the device makes a hard relock once no sequencer is running, and sets ARM (R52). -/
  | realignHardRelock
  /-- CLK_PLL.SOFT_GO starts a soft relock through the phase rotator, or completes with STATE outside the window (R53). -/
  | softGo (w : Word) (p : Bool)
  /-- When the remaining step falls below 1 ps the rotator is bypassed, LOCK is declared, COAST clears and CD_REF returns to the reference (R53). -/
  | softRelockDone
  /-- CLK_PLL.HOP hands the outputs to the hold path, holds the timebase and relocks the main PLL at PLAN_N (R38). -/
  | hop (w : Word) (p : Bool)
  /-- Lock is declared during a hop, so the tick divider is set, the clocks restart, the timebase resumes and a HOP record is written (R38). -/
  | hopLock (l : LockInfo)
  /-- A hop that has not locked within 5 ms completes with TIMEOUT while the PLL keeps trying (R38). -/
  | hopTimeout
  /-- CLK_PLL.BAND_SEARCH runs a cold band search at the present N with the outputs on the hold path and the timebase held (R39). -/
  | bandSearch (w : Word) (p : Bool)
  /-- Lock is declared during a band search, so the band entry is rewritten, the relock is counted and a HOP record is written (R39). -/
  | bandSearchLock (l : LockInfo)
  /-- A band search that has not locked within 5 ms completes with TIMEOUT and clears the entry's valid bit (R39). -/
  | bandSearchTimeout
  /-- A relock with a stored band entry has not locked within 25 µs, so BAND_MISS is set and a cold band search begins (R37). -/
  | bandMiss
  /-- CLK_BAND.BAND_SAVE writes the selected band entry's changed words to the PV block in the background, or completes with WORN (R36). -/
  | bandSave (w : Word) (p : Bool)
  /-- CLK_PLL.HARD_RELOCK pauses the sequencers, sends the outputs to rest, holds the timebase and relocks the PLL (R54). -/
  | hardRelock (w : Word) (p : Bool)
  /-- Lock is declared during a hard relock, so the tick divider is set, the clocks restart and the timebase resumes while the sequencers stay paused (R54). -/
  | hardRelockLock (l : LockInfo)
  /-- An unlock with a qualified reference is a clock fault that sends every output to the hold path and stops every sequencer (R35). -/
  | unlock (phaseErr : Int)
  /-- After a clock fault the main PLL relocks without a command, and on lock a RELOCKED record of kind 2 is written (R322). -/
  | faultRelock (l : LockInfo)
  /-- A write to CLK_REF.REF_SEL is ignored, refused as busy, or taken with a hard relock at the same N (R55). -/
  | refSelWrite (w : Word) (p : Bool)
  /-- A rising STARTER edge is captured with its tick and phase, STARTER_SEEN is set, and the start tick is derived or the edge is ignored as extra (R47). -/
  | starterEdge (phase : BitVec 9) (refPhase : BitVec 14) (missed : Bool)
  /-- At the start tick the timebase takes TB_PRESET when ARM is set, and the STARTER update strobes are issued (R47). -/
  | startTick
  /-- TB_CTRL.LOAD_NOW loads TB_PRESET into the timebase at the next tick boundary when no sequencer runs (R44). -/
  | loadNow (w : Word) (p : Bool)
  /-- The timebase equals an enabled alarm value, so the alarm fires and a periodic alarm advances by its period (R119). -/
  | alarm (a : Fin 8)
  /-- The filter of a trigger input accepts a transition, making the routed event seen and writing a TRIG record when STAMP is set (R117). -/
  | triggerEdge (ti : Fin 16) (high : Bool) (phase : BitVec 9) (stay : Stay)
  /-- A write of 1 to a bit of EVT_SW_PULSE pulses a SOFTWARE pulse event, or is ignored with SW_IGN (R120). -/
  | evtSwPulse (hi : Bool) (w : Word) (p : Bool)
  /-- A write to EVT_SW_LEVEL sets the level of SOFTWARE level events (R120). -/
  | evtSwLevel (hi : Bool) (w : Word) (p : Bool)
  /-- An event seen at t switches a fine channel to its hop profile from output tick t + 48 (R174). -/
  | eventHop (fc : Fin 64)
  /-- A scheduled pennant fire places its active edge at the set tick and phase, or restarts the width of an active pulse (R123). -/
  | pennantFire (pn : Fin 32)
  /-- A pennant pulse ends after WIDTH + 1 ticks at the phase at which it began (R124). -/
  | pennantPulseEnd (pn : Fin 32)
  /-- When the EVQ holding buffer frees space after drops, a LOST record giving the number dropped enters first (R127). -/
  | evqLostRecord
  /-- A read of EVQ_RD returns the next word of the head record, stalling while EVQ is empty, and the record leaves with its fourth word (R128). -/
  | evqRead (p : BusRead) (mism : Bool)
  /-- SEQ_CTRL.START is checked in order, and on acceptance the heat's sequencers become ARMED and the wake schedule begins (R87). -/
  | start (w : Word) (p : Bool)
  /-- At the heat's start tick the latches and extension counts clear, each heat sequencer enters its start entry and becomes RUNNING, and START records are written (R89). -/
  | heatStart
  /-- SEQ_CTRL.PAUSE stands the heat after tick k, freezes the pipelines and holds or rests the outputs (R107). -/
  | pause (w : Word) (p : Bool)
  /-- SEQ_CTRL.RESUME chooses the resumption tick from RESUME_SRC, or is refused (R108). -/
  | resume (w : Word) (p : Bool)
  /-- At the resumption tick the heat tick becomes k + 1, the pipelines continue and a RESUME record is written (R108). -/
  | resumption
  /-- SEQ_CTRL.ABORT sends every output of the heat to rest through the hold path at k + 1 and ends the heat (R109). -/
  | abort (w : Word) (p : Bool)
  /-- A write to SQn_CMDQ_WR appends one word of a command record, waiting while the queue is full (R110). -/
  | cmdqWordWrite (n : Fin 8) (w : Word) (p : Bool) (mism : Bool)
  /-- A STOP record sets when the sequencer stops, at k + 48, at a lap end or at the visit end, with the outputs held or at rest (R112). -/
  | stop (n : Fin 8)
  /-- A stop reaches the outputs, so the sequencer becomes STOPPED, leaves RUN_MASK and a STOP record is written (R86). -/
  | stopTakesEffect (n : Fin 8)
  /-- A LATCH_CLR record clears the named pulse latches at its acceptance tick (R112). -/
  | latchClr (n : Fin 8)
  /-- A HOLD_END record decides the FALLBACK outcome for a held sequencer at k, to apply at k + 48 (R112). -/
  | holdEnd (n : Fin 8)
  /-- A MARK record completes with OK, confirming that every earlier record has been accepted (R112). -/
  | mark (n : Fin 8)
  /-- At the commit tick of an opportunity the sequencer selects the jump or natural continuation and checks the READY bit of the selected continuation (R93). -/
  | commitDecision (n : Fin 8)
  /-- At the opportunity the exchange selector passes on the selected continuation and the other front end is released (R95). -/
  | exchange (n : Fin 8)
  /-- A lap ends, so the next lap begins or END_ACT applies with the successor, a stop at rest or a hold (R90). -/
  | lapEnd (n : Fin 8)
  /-- The FALLBACK outcome applies at o, starting the fallback visit or stopping the sequencer at rest, and a FALLBACK record is written (R101). -/
  | fallback (n : Fin 8)
  /-- The awaited segment of a held sequencer becomes READY, and the resumption tick is set at the next multiple of 16 (R102). -/
  | holdReady (n : Fin 8)
  /-- The held continuation's first output appears at s + 48 and a HOLD_END record gives the hold's length (R102). -/
  | holdResume (n : Fin 8)
  /-- A hold reaches LIMIT16 × 16 ticks, so the FALLBACK outcome is decided to apply 48 ticks later (R102). -/
  | holdLimit (n : Fin 8)
  /-- A lane's line buffer lacks a tick's data, so the lane repeats its last sample or plays X and an UNDERRUN record is written (R105). -/
  | underrun (n : Fin 8) (lane : BitVec 8) (missing : Nat)
  /-- An uncorrectable error in course or directory memory read by a running sequencer rests its outputs, stops it and writes a fault record (R66). -/
  | seqEcc (n : Fin 8) (word : Word) (dir : Bool)
  /-- A domain has not reported ready by its first scheduled use, so its outputs stay at rest and a LATE_WAKE record is written (R27). -/
  | lateWake (d : BitVec 6) (firstUse : Nat)
  /-- A wake-schedule record is reached at its heat tick and wakes or releases its domain (R155). -/
  | wakeRecord
  /-- CRS_CMD.READ copies the selected course entry into CRS_D0–CRS_D7 (R81). -/
  | crsRead (w : Word) (p : Bool)
  /-- CRS_CMD.WRITE replaces a course entry after the state, range and lock checks (R81). -/
  | crsWrite (w : Word) (p : Bool)
  /-- SEGD_CMD.READ copies the selected segment descriptor into SEGD_D0–SEGD_D3 (R62). -/
  | segdRead (w : Word) (p : Bool)
  /-- SEGD_CMD.SET_READY completes a generation of a refillable segment, setting READY and incrementing GEN (R76). -/
  | setReady (w : Word) (p : Bool)
  /-- SEGD_CMD.CLR_READY clears READY of an inactive refillable segment (R76). -/
  | clrReady (w : Word) (p : Bool)
  /-- A read of SEGW_DATA returns the selected word of the segment and increments SEGW_OFS (R82). -/
  | segwRead (p : BusRead)
  /-- A write of SEGW_DATA stores a word into an inactive segment, or is ignored as active or out of range, and increments SEGW_OFS (R82). -/
  | segwWrite (w : Word) (p : Bool)
  /-- PLAN_CTRL.LOAD runs the plan checks in order and refuses the plan with the first failing status (R161). -/
  | load (w : Word) (p : Bool)
  /-- A plan that passes every check is written section by section and HEAT becomes LOADED, or the write pass fails and no plan is left (R162). -/
  | writePass
  /-- PLAN_CTRL.UNLOAD empties every course, releases the staging region and schedule domains and sets HEAT to NONE (R164). -/
  | unload (w : Word) (p : Bool)
  /-- Each 16-tick row of the heat issues its refresh commands, serves each requester's allotment and serves open capacity in ladder order (R231). -/
  | timelineRow (r : RowReport)
  /-- The prefetcher completes the copy of a starting block, which becomes resident (R150). -/
  | blockCopyDone (n : Fin 8)
  /-- The starting block of a refillable segment in the current group is copied once its READY becomes 1 (R151). -/
  | lateCopy (n : Fin 8)
  /-- A write of FCn_DLY sets a new delay trim that the output stage approaches by one step per fine sample (R182). -/
  | fineTrimWrite (fc : Fin 64) (w : Word) (p : Bool)
  /-- A write of FCn_CFG.BW outside a heat plays the rest code until the new interpolation filter is in place (R177). -/
  | bwWrite (fc : Fin 64) (w : Word) (p : Bool)
  /-- FCn_PCMD.READ copies the selected profile into the holding registers and FC_FTWn (R171). -/
  | profileRead (fc : Fin 64) (w : Word) (p : Bool)
  /-- FCn_PCMD.WRITE writes the holding registers into the selected profile of the table (R171). -/
  | profileWrite (fc : Fin 64) (w : Word) (p : Bool)
  /-- FCn_CAL.RUN starts calibration, driving three codes while the monitor ADC measures the leg currents (R183). -/
  | calRun (fc : Fin 64) (w : Word) (p : Bool)
  /-- Calibration ends 1.0 ms after acceptance, applying the trims to FCn_CALRES and returning the output to rest (R183). -/
  | calDone (fc : Fin 64) (gain : Int) (ofs : Int)
  /-- FCn_CAL.SAVE writes the calibration trims to the channel's persistent words in the background, or completes with WORN (R183). -/
  | calSave (fc : Fin 64) (w : Word) (p : Bool)
  /-- FCn_RB.RUN starts a read-back check of a channel at rest (R187). -/
  | rbRun (fc : Fin 64) (w : Word) (p : Bool)
  /-- After 64 conversions the read-back result is stored and PASS is set, or RB_FAIL is set and a fault record is written (R187). -/
  | rbDone (fc : Fin 64) (code : Int)
  /-- A write of a drive or strobe trim of a pin sets a new value that is approached by one step per vector (R197). -/
  | pinTrimWrite (vp : Fin 128) (strobe : Bool) (w : Word) (p : Bool)
  /-- The compare results of output tick T are reported at T + 16 through fail counters, the fail log and compare-fail events (R202). -/
  | compareReport (b : Fin 4) (tick : Nat) (strobes : List Strobe)
  /-- A pending FAIL, SUMMARY or SPAN record enters CAPQ, at most one per tick in rank and stamp order (R205). -/
  | failRecordEnter
  /-- When a bank's fail-log buffer frees after drops, a SUMMARY record is queued first (R205). -/
  | summary (b : Fin 4)
  /-- A capture span closes at a visit end, hold, pause, stop, lost tick or after 4,096 ticks, producing a SPAN record (R209). -/
  | spanClose (b : Fin 4) (capture : List CaptTick)
  /-- A software write of CAPT_RING_RD advances the read pointer, or is ignored under OUTBOUND or for range (R208). -/
  | ringRdWrite (b : Fin 4) (w : Word) (p : Bool)
  /-- A write of CAPT_RING_SIZE sets the ring length and resets WR and RD to 0 (R208). -/
  | ringSizeWrite (b : Fin 4) (w : Word) (p : Bool)
  /-- A read of CAPQ_RD returns the next word of the head record, or returns zero with LOCK_VIOL while OUTBOUND is 1 (R215). -/
  | capqRead (x : CapqLook)
  /-- A read of TRK_WDATA returns a track-memory word and increments TRK_WADDR (R222). -/
  | trackWindowRead (p : BusRead)
  /-- A write of TRK_WDATA stores a word, or is refused as active or pinned, and increments TRK_WADDR (R222). -/
  | trackWindowWrite (w : Word) (p : Bool) (collide : Bool)
  /-- A track-memory bank idle for IDLE_US enters retention (R223). -/
  | bankRetention (m : Fin 512)
  /-- An access to a bank in retention wakes it, and the waiting access proceeds when it is ready (R224). -/
  | bankWake (m : Fin 512)
  /-- A real-time port's lead falls below MARK, so it enters panic and a PANIC record is written (R233). -/
  | panicEntry (n : Fin 8) (lead : BitVec 16)
  /-- A port's lead reaches MARK + 16 or it stops having a lead, so it leaves panic and a PANIC record is written (R233). -/
  | panicExit (n : Fin 8) (lead : Option (BitVec 16))
  /-- An owed refresh is issued at the first moment no real-time request waits on its channel (R235). -/
  | owedRefresh (c : Fin 8)
  /-- The owed count would exceed POST_MAX, so the oldest owed refresh is forced and a REFRESH_FORCED record is written (R235). -/
  | refreshForced (c : Fin 8)
  /-- Every 1 ms the controller reads each channel's refresh-rate multiplier, owes extra refreshes and flags HOT when needed (R236). -/
  | dramTempPoll (mult : List Nat) (beyond : List Bool)
  /-- A channel idle for IDLE_US enters self-refresh and its domain sleeps (R237). -/
  | selfRefreshEntry (c : Fin 8)
  /-- A channel woken by a request completes its PHY wake and self-refresh exit and serves the request (R237). -/
  | selfRefreshExit (c : Fin 8)
  /-- A channel without a request for 64 CD_DRAMC cycles enters power-down (R238). -/
  | powerDownEntry (c : Fin 8)
  /-- DRAM_TRAIN.TRAIN starts full training of every enabled channel when no plan is loaded (R239). -/
  | train (w : Word) (p : Bool)
  /-- Full training ends with each channel trained or fenced, completing with OK or FENCED (R239). -/
  | trainDone (ok : List Bool)
  /-- DRAM_TRAIN.RETRAIN starts retraining of channel CH after its checks (R240). -/
  | retrain (w : Word) (p : Bool)
  /-- WCK oscillator tracking finds drift beyond its range and starts a retraining of the channel (R240). -/
  | trackingDrift (c : Fin 8)
  /-- Retraining ends with a new or last-known-good setting returning the channel to service, or with a failed check (R240). -/
  | retrainDone (c : Fin 8) (newOk : Bool) (lkgOk : Bool)
  /-- DRAM_TRAIN.UNFENCE fully trains a fenced channel, returning it with undefined contents or leaving it fenced (R243). -/
  | unfence (w : Word) (p : Bool) (ok : Bool)
  /-- DRAM_TRAIN.SAVE writes the last known good settings to the PV block in the background, or completes with WORN (R239). -/
  | dramSave (w : Word) (p : Bool)
  /-- A reserve access meets an uncorrectable error or an unreachable fenced part and raises a management fault (R229). -/
  | resErr (c : Fin 8) (unreachable : Bool) (addr : BitVec 48)
  /-- NETp_CTRL.EN written 1 wakes the port's domain and starts its SerDes (R249). -/
  | portEnable (pt : Fin 2) (w : Word) (p : Bool)
  /-- NETp_CTRL.EN written 0 puts the port to sleep after the frame in transmission, losing queued frames (R249). -/
  | portDisable (pt : Fin 2) (w : Word) (p : Bool)
  /-- A write of NETp_CTRL.MODE while EN is 0 changes the link split and clears outbound destinations on links that no longer exist (R267). -/
  | modeChange (pt : Fin 2) (w : Word) (p : Bool)
  /-- The port's SerDes reports READY within 200 µs of its wake (R249). -/
  | portReady (pt : Fin 2)
  /-- PD_BAT accepts frames 20 µs after it starts to wake (R249). -/
  | batonReady
  /-- A link's PCS aligns with its partner and the link reports LINK_UP (R249). -/
  | linkUp (pt : Fin 2) (k : Fin 4)
  /-- A received ARP request for the link's IPv4 address is answered (R247). -/
  | arpRequest (pt : Fin 2) (k : Fin 4) (f : RxFrame)
  /-- A received IPv6 neighbour solicitation for the link's address is answered (R247). -/
  | neighbourSolicitation (pt : Fin 2) (k : Fin 4) (f : RxFrame)
  /-- A received PAUSE or PFC XOFF stops the frames of its priority for the time it states (R248). -/
  | pauseFrame (pt : Fin 2) (k : Fin 4) (pfc : Bool) (prio : BitVec 8) (quanta : BitVec 16)
  /-- A received frame that the link does not accept is dropped and counted (R247). -/
  | frameDrop (pt : Fin 2) (k : Fin 4) (x : DroppedFrame)
  /-- Under back-pressure the XOFF is repeated when half its pause quanta have elapsed (R248). -/
  | xoffRepeat (pt : Fin 2)
  /-- A Baton frame with a wrong MAGIC, VERSION, HCRC or TYPE is dropped without an answer (R252). -/
  | badFrame (pt : Fin 2) (k : Fin 4) (f : RxFrame)
  /-- An OPEN frame is checked and admits, resumes or refuses a session, answered by one OPEN_ACK (R258). -/
  | openSession (pt : Fin 2) (k : Fin 4) (f : RxFrame)
  /-- A DATA frame is dropped, answered as duplicate, gap or range error, or placed in the ingest buffer (R260). -/
  | dataFrame (pt : Fin 2) (k : Fin 4) (f : RxFrame)
  /-- A CLOSE frame retires its session with cause 0 and is answered by a CLOSE_ACK (R259). -/
  | closeSession (pt : Fin 2) (k : Fin 4) (f : RxFrame)
  /-- A QUERY frame is answered by an ACK and restarts the session's idle time (R262). -/
  | batonQuery (pt : Fin 2) (k : Fin 4) (f : RxFrame)
  /-- A buffered DATA frame commits to DRAM as one write and advances ACKED, or is refused as ACTIVE or FENCED (R261). -/
  | dataCommit (pt : Fin 2)
  /-- A commit unacknowledged for TIME_US causes an ACK to be sent (R262). -/
  | ackTimer (skey : Word)
  /-- A session without a matching frame for IDLE_MS is retired with cause 2 (R259). -/
  | sessionIdle (skey : Word)
  /-- A write to BATQ_WR appends one word of a BATQ record, waiting while the queue is full (R254). -/
  | batqWordWrite (w : Word) (p : Bool)
  /-- A GRANT_SEG record places a segment grant in a slot after its checks (R255). -/
  | grantSeg (ecc : Option (Fin 16))
  /-- A GRANT_REGION record places a region grant over heat-space bytes after its checks (R255). -/
  | grantRegion (ecc : Option (Fin 16))
  /-- A REVOKE record retires the grant's sessions and discards its ranges and buffered frames (R256). -/
  | revoke (ecc : Option (Fin 16))
  /-- A RETIRE record retires the session with the given SKEY with cause 3 (R259). -/
  | retire (ecc : Option (Fin 16))
  /-- An OUT_DEST record sets or removes the destination of an outbound stream (R267). -/
  | outDest (ecc : Option (Fin 16))
  /-- A MARK record in BATQ completes with OK (R254). -/
  | batqMark (ecc : Option (Fin 16))
  /-- BAT_CTRL.EN written 0 retires every session with cause 7 and discards the ingest buffers (R259). -/
  | engineDisable (w : Word) (p : Bool)
  /-- An OUT_REC frame of CAPQ records is sent when full or FLUSH_US after its first record (R268). -/
  | outRec (corrected : Nat) (uncorr : Option (Fin 16))
  /-- An OUT_RING frame of ring data is sent when enough is pending or after FLUSH_US, and RD advances (R268). -/
  | outRing (b : Fin 4)
  /-- Release of power-on reset runs the start-up stages in order, from the always-on island to READY (R308). -/
  | startUp (e : StartEnv)
  /-- A watched rail below 92 % for 1 µs sends the outputs to the hold path, drops OUT_EN and enters power-on reset (R392). -/
  | brownOut
  /-- SUP_RESET.WARM puts the outputs on the hold path and performs a warm reset that restarts start-up at stage 2 (R331). -/
  | warm (w : Word) (p : Bool)
  /-- SUP_PWR.SLEEP is accepted in STANDBY and waits for every core to execute WFI (R313). -/
  | sleep (w : Word) (p : Bool)
  /-- Every core has reached WFI, so the DRAM enters self-refresh and every domain but PD_AO sleeps (R313). -/
  | enterAsleep
  /-- The cores have not all reached WFI within 10 ms, so SLEEP completes with TIMEOUT (R313). -/
  | sleepTimeout
  /-- A falling edge on WAKE_N wakes the device from ASLEEP (R314). -/
  | wakePin
  /-- The wake timer expires and wakes the device from ASLEEP (R314). -/
  | wakeTimer
  /-- A JTAG access outside the DBG block wakes the device from ASLEEP (R314). -/
  | wakeJtag
  /-- SUP_DOM_CMD WAKE starts the wake of one domain, which then stays awake until released (R316). -/
  | domainWake (w : Word) (p : Bool)
  /-- A woken domain reports ready, completing its wake command and releasing stalled accesses (R316). -/
  | domainReady (d : BitVec 6) (l : LockInfo)
  /-- A domain wake not ready within 5 ms completes with TIMEOUT while the domain goes on waking (R316). -/
  | domainWakeTimeout
  /-- SUP_DOM_CMD SLEEP puts one domain to sleep, or is refused with STATE (R316). -/
  | domainSleep (w : Word) (p : Bool)
  /-- Every 10 µs the sixteen thermal sensors are converted and the over-temperature flag is set or cleared (R317). -/
  | sensorConversion (temps : List Int)
  /-- A sensor reaches 120 °C, sending every output to the hold path, stopping every sequencer and unloading the plan (R319). -/
  | trip (sensor : Fin 16) (temp : Int)
  /-- A loss of framing on the die bridge is a device fault that rests every output and stops every sequencer (R322). -/
  | bridge (up : Bool)
  /-- SUP_MON_CMD.SUPPLY_CHECK starts 16 conversions of each rail against its tolerance (R310). -/
  | supplyCheck (w : Word) (p : Bool)
  /-- The supply check ends, writing a SUPPLY record for each rail out of tolerance and setting PASS (R310). -/
  | supplyCheckDone (mv : List Int)
  /-- When the LOGQ holding buffer frees space after drops, a LOST record enters first (R324). -/
  | logqLostRecord
  /-- A read of LOGQ_RD returns the next word of the head fault record, which leaves with its eighth word (R323). -/
  | logqRead (p : BusRead) (corrected : Bool) (uncorr : Bool)
  /-- FREEZE_N sampled low on two CD_AO cycles enters freeze, putting outputs on the hold path, DRAM in self-refresh and stopping the clocks (R325). -/
  | freezePin
  /-- DBG_FREEZE.FREEZE written 1 enters freeze (R325). -/
  | freeze (w : Word) (p : Bool)
  /-- A rising edge of FREEZE_N with FRZ_REG clear releases the freeze by a warm reset (R330). -/
  | freezePinRelease
  /-- DBG_CTRL.RELEASE with FREEZE_N high releases the freeze by a warm reset (R330). -/
  | release (w : Word) (p : Bool)
  /-- A read of DBG_RING_DATA returns the selected state-ring word and increments DBG_RING_ADDR (R327). -/
  | ringDataRead (p : BusRead)
  /-- TRST_N or five TCK cycles with TMS high reset the test access port to Test-Logic-Reset with IDCODE selected (R328). -/
  | tapReset
  /-- The EXTEST instruction drives the boundary register while frozen, and acts as BYPASS otherwise (R328). -/
  | extest
  /-- The IDCODE instruction selects the 32-bit identification register (R328). -/
  | idcode
  /-- The SAMPLE/PRELOAD instruction selects the boundary register for capture and preload (R328). -/
  | samplePreload (bits : List Bool)
  /-- The STATE_RING instruction captures the 4,096-bit state ring for shifting out (R328). -/
  | stateRing
  /-- An Update-DR of DBG_ACCESS starts a privileged register access from JTAG (R329). -/
  | dbgAccess (d : DbgScan)
  /-- The BYPASS instruction, or any unlisted opcode, selects the one-bit bypass register (R328). -/
  | bypass (op : Byte)
  /-- SYNC_CTRL.ALIGN drives every output through edges, times them and stores each align trim within 30 ms (R337). -/
  | align (w : Word) (p : Bool)
  /-- SYNC_CTRL.CAL starts 1,024 SYNC_OUT edges to measure the round trip (R338). -/
  | cal (w : Word) (p : Bool)
  /-- CAL ends with RT and SPREAD stored, or with TIMEOUT or RANGE (R338). -/
  | calComplete (r : CalResult)
  /-- SYNC_CTRL.SAVE writes OFS and the align trims to the PV block in the background, or completes with WORN (R341). -/
  | syncSave (w : Word) (p : Bool)
  /-- A write of MIR_CTRL.ROLE outside a heat sets the mirror role and drives OUT_EN accordingly (R342). -/
  | roleWrite (w : Word) (p : Bool)
  /-- The mirror link comes up, measures its one-way latency and pairing is evaluated (R343). -/
  | mirrorLinkUp (latNs : BitVec 10) (shown : Fin 21)
  /-- Every 64 ticks a HEARTBEAT frame with role, PAIR and fault bit is sent to the partner (R343). -/
  | heartbeatSend
  /-- Every 1 ms and at each plan load an IDENT frame is sent to the partner (R343). -/
  | identSend
  /-- A received IDENT frame updates the partner's identity and the PAIR state (R344). -/
  | ident (id : MirIdent)
  /-- A received HEARTBEAT frame restores the heartbeat and clears PFAULT_NOW when its fault bit is clear (R348). -/
  | heartbeat (role : BitVec 2) (pair : BitVec 3) (fault : Bool) (peerEn : Bool)
  /-- A received DECISION frame gives the leader's decision, which the follower compares and adopts where they differ (R346). -/
  | decision (dc : MirDecision)
  /-- A leader decision not arrived by d + 11 leaves the follower's own decision in force and counts as unconfirmed (R346). -/
  | decisionTimeout (n : Fin 8)
  /-- At every heat tick that is a multiple of 64 the leader sends nine LAP_MARK frames (R347). -/
  | lapMarkSend
  /-- The follower compares a received lap mark with its own state, taking the leader's latches or becoming BROKEN (R347). -/
  | lapMark (m : MirLapMark)
  /-- A received FAULT frame sets PFAULT_NOW and raises the partner-fault event (R348). -/
  | mirFault (src : Byte) (code : Byte)
  /-- No valid frame from the partner for 16 µs sets HB_NOW and raises the heartbeat-lost event (R348). -/
  | heartbeatLost
  /-- A live leader that receives TAKE drops OUT_EN at the next tick boundary (R349). -/
  | take
  /-- MIR_CTRL.TAKEOVER sends TAKE and starts a takeover on a paired follower (R349). -/
  | takeover (w : Word) (p : Bool)
  /-- PEER_EN is sampled in the present tick. Low in this tick and the one before, it fixes T_k as the tick that follows, where the follower becomes
  LEADER, sets TAKEOVER and writes a TAKEOVER record (R349). -/
  | takeoverTick (peerEn : Bool)
  /-- The new leader's OUT_EN rises GAP ticks after T_k (R349). -/
  | outEnRise
  /-- A write to MIR_TX_WR appends one word of a record for the partner's MIRQ (R352). -/
  | mirTxWordWrite (w : Word) (p : Bool)
  /-- Received MSG frames deliver a 32-byte record into MIRQ (R352). -/
  | msg (words : List Word)
  /-- A read of MIRQ_RD returns the next word of the head MIRQ record (R290). -/
  | mirqRead (p : BusRead) (mism : Bool)
  /-- A received management-port frame fills an owned receive descriptor, or is dropped when none is owned (R362). -/
  | mgmtRxFrame (f : RxFrame) (bad : Bool)
  /-- MGMT_PORT.TX_GO resumes transmission of owned transmit descriptors (R362). -/
  | txGo (w : Word) (p : Bool)
  /-- A transmit descriptor is sent and its OWN cleared, asserting line 16 (R362). -/
  | mgmtTxDone
  /-- MGMT_MDIO.GO starts a Clause 22 MDIO frame to the PHY (R360). -/
  | mdioGo (w : Word) (p : Bool)
  /-- The MDIO frame completes and BUSY clears with read data in DATA (R360). -/
  | mdioDone (data : BitVec 16)
  /-- A CLAIM update frame takes the updater lock and starts or resumes the download of a package (R375). -/
  | claim (f : UpdFrame)
  /-- A FRAG update frame delivers 1,024 bytes of the next chunk, or is dropped (R376). -/
  | frag (f : UpdFrame)
  /-- A chunk with all 64 fragments is erased, programmed and read back, its bit programmed and a REPLY sent (R376). -/
  | chunkProgrammed (ok : Bool)
  /-- A STAGE frame with stage 2 runs the package checks and builds the result into the other slot (R377). -/
  | verify (f : UpdFrame)
  /-- VERIFY ends with STAGE VERIFIED, or returns to DOWNLOAD with the status of the failed step (R377). -/
  | verifyDone
  /-- A STAGE frame with stage 4 copies the persistent half and writes a TENTATIVE record for the new slot (R378). -/
  | activate (f : UpdFrame)
  /-- A STAGE frame with stage 0 aborts the update and frees the lock (R375). -/
  | updAbort (f : UpdFrame)
  /-- A RELEASE update frame frees the updater lock (R375). -/
  | updRelease (f : UpdFrame)
  /-- A QUERY update frame is answered with the present progress (R375). -/
  | updQuery (f : UpdFrame)
  /-- Received UPD mirror frames deliver forwarded update traffic as source 1, or a partner REPLY sent on to the host with PEER (R381). -/
  | mirUpdFrame (f : UpdFrame)
  /-- The updater lock is freed after IDLE_S seconds without a valid frame from its holder (R373). -/
  | lockIdle
  /-- UPD_CMD.CONFIRM writes a record that confirms the tentative image (R379). -/
  | confirm (w : Word) (p : Bool)
  /-- UPD_CMD.REVERT writes a record that boots the other slot from the next boot (R379). -/
  | revert (w : Word) (p : Bool)
  /-- UPD_CMD.BREAK frees the updater lock (R373). -/
  | breakLock (w : Word) (p : Bool)
  /-- In recovery mode a TFTP write request starts a transfer, or is answered with an error (R385). -/
  | tftpWriteRequest (f : TftpFrame)
  /-- A TFTP data block is checked and written to the target slot, with the record written after the last block (R385). -/
  | tftpData (f : TftpFrame)
  /-- A recovery transfer without a block for 5 s is abandoned (R385). -/
  | tftpTimeout
  /-- After a successful recovery the ROM samples RECOVERY every 100 ms and performs a warm reset once it reads low (R385). -/
  | recoverySample (low : Bool)
  /-- POR_N is taken low, or power is removed, and the device is held in power-on reset until POR_N rises again (R391). -/
  | porNLow
  /-- A data-port link loses PCS alignment, for example when its partner stops or PORT_REFCLK is lost, and LINK_UP clears so that streams on it wait (R249). -/
  | linkDown (pt : Fin 2) (k : Fin 4)
  /-- The mirror link goes down, PAIR becomes DOWN and LINK_UP clears, and records written to MIR_TX_WR are then discarded (R344). -/
  | mirrorLinkDown
  /-- The SGMII in-band status reports the management link going up or down, or at a new speed, updating MGMT_PORT.LINK and SPEED (R360). -/
  | mgmtLinkChange (up : Bool) (speed : BitVec 2)
  /-- The time stated by a received PAUSE or PFC XOFF runs out, and the frames of its priority are sent again (R248). -/
  | pauseTimeExpiry (pt : Fin 2) (k : Fin 4) (prio : BitVec 3)
  /-- A background hardware save completes the 15 µs commit of a persistent word, and after the last word its block's BUSY flag clears (R304). -/
  | saveWordCommit
  /-- ACTIVATE finishes copying the persistent half and writing the tentative record, frees the lock and sets STAGE to ACTIVATED (R378). -/
  | activateDone
  /-- Alignment completes within 30 ms, storing the align trims, returning the outputs to rest and OUT_EN to its level, with OK or RANGE (R337). -/
  | alignDone (trims : List Int)
  /-- A hard relock or a hop whose reference is lost does not lock within 5 ms and completes with TIMEOUT while the outputs stay at rest (R55). -/
  | hardRelockTimeout
  /-- While no heat runs, the controller issues refresh to each awake channel at the rate JESD209-6 requires for its present temperature (R146). -/
  | freeModeRefresh (x : FreeRefresh)
  /-- An update frame with a wrong MAGIC, VERSION or HCRC is dropped and counted in UPD_DROP (R374). -/
  | updateFrameDrop (mirror : Bool)
  /-- A mirror-link frame with a bad CRC-16 is dropped and counted in CRC_COUNT (R343). -/
  | mirrorCrcDrop
  /-- In recovery mode, an ARP request on the management port for the recovery IPv4 address is answered by the boot ROM (R385). -/
  | recoveryArp (f : RxFrame)
  deriving DecidableEq, Repr

end Sys2Proof
end

