-- ==== Sys2Proof/Decode.lean ====
section
/-! DEFINITION. The command that a word of the table spells. The table of this block gives no row any bits: its commands are
register accesses and events, not encoded words. -/

namespace Sys2Proof

/-- The command spelled by a word of `nbits` bits: none, since the table gives no row bits. -/
def decodeTableWord (_nbits _w : Nat) : Option Instr := none

end Sys2Proof
end

