-- ==== Sys2Proof/Config.lean ====
section
/-! DEFINITION. What the spec leaves to the implementation or to a standard it cites, and the free values. -/

namespace Sys2Proof.Config

/-- The postponement limit of JESD209-6 for all-bank refresh, which R235 takes as POST_MAX's limit and reset value.
PRESUMED (log 2): the spec cites the standard and states no number. -/
def postLimit : Nat := 8

/-- The base refresh interval of JESD209-6 in picoseconds (R145). PRESUMED (log 2). -/
def trefiPs : Nat := 3904000

/-- What the NCO's phase-to-amplitude stage adds to the cosine, and to the sine, of the upper 24 bits of the phase, in units of 2^−40
of full scale: a free value within the bound of its spurious products (R173; log 5). -/
opaque cosSpur : BitVec 24 → Int

@[inherit_doc cosSpur] opaque sinSpur : BitVec 24 → Int

/-- Sample `j = 1` of a CARRIER lane's 2x envelope interpolation, from the envelope samples about it, earliest first: 32 up to the
tick's own and 32 after it. A free value (log 5): R169 gives the half-band filter's bounds, no coefficients. -/
opaque halfBand : List Int → Int

/-- The microseconds that the always-on count (AO_US, R323) has gone on from the fault record before to the n-th. A free value
(log 6): no command of the table brings them. -/
opaque aoUs : Nat → BitVec 64

/-- The n-th number that the spec leaves open and no function of the operands gives: what a torn write leaves (R302), and
such. A free value (log 7). -/
opaque freeNat : Nat → Nat

/-- The highest multiple of the base refresh rate that JESD209-6 gives (R236). PRESUMED (log 2). -/
def maxRefMult : Nat := 8

/-- The byte at a key of DRAM whose channel's contents have been lost `e` times (R243, R325): a free value (log 4). -/
opaque dramByte : Nat → Nat → BitVec 8

/-- The self-refresh exit time of JESD209-6 in picoseconds (R237). A free value (log 2): the spec cites the standard and states
no number. -/
opaque srExitPs : Nat

/-- The 16x interpolator before its saturation (R177, R178): the code at sample `m` of a tick's 32 samples at f_mod, for the filter
selected and the latest codes at its input, newest first. A free value (log 5): the spec bounds the filters and gives no
coefficients. -/
opaque interp : Nat → List Int → Nat → Int

end Sys2Proof.Config
end

