-- ==== Sys2Proof/Machine/Sparse.lean ====
section
/-! DEFINITION. Sparse maps from numbers to values in one canonical form, and bit fields of a register.
Every memory and register file of the model is such a map: addresses strictly rising, and no entry equal to
what an unlisted address reads as. -/

namespace Sys2Proof.Machine

/-- A sparse map: what an unlisted key reads as is given at each use. -/
abbrev Sp (α : Type) := List (Nat × α)

/-- The value at a key; `d` is what an unlisted key reads as. -/
def Sp.get {α : Type} (d : Nat → α) (m : Sp α) (k : Nat) : α :=
  match m.find? (fun c => c.1 == k) with
  | some c => c.2
  | none => d k

/-- Write one key. Writing what an unlisted key reads as removes the entry, so that equal maps are equal data. -/
def Sp.set {α : Type} [DecidableEq α] (d : Nat → α) (m : Sp α) (k : Nat) (v : α) : Sp α :=
  m.filter (fun c => decide (c.1 < k)) ++
    ((if v = d k then [] else [(k, v)]) ++ m.filter (fun c => decide (k < c.1)))

/-- The canonical form: keys strictly rising, no entry equal to what an unlisted key reads as. -/
def Sp.wf {α : Type} [DecidableEq α] (d : Nat → α) (m : Sp α) : Bool :=
  decide (m.Pairwise (fun a b => a.1 < b.1)) && m.all (fun c => decide (c.2 ≠ d c.1))

/-- Write a list of values at consecutive keys from `k`. -/
def Sp.setMany {α : Type} [DecidableEq α] (d : Nat → α) : Sp α → Nat → List α → Sp α
  | m, _, [] => m
  | m, k, v :: vs => Sp.setMany d (Sp.set d m k v) (k + 1) vs

/-- Read `n` consecutive keys from `k`. -/
def Sp.getMany {α : Type} (d : Nat → α) (m : Sp α) (k : Nat) : Nat → List α
  | 0 => []
  | n + 1 => Sp.get d m k :: Sp.getMany d m (k + 1) n

/-- Bits [lo + w − 1 : lo] of a word, as a number. -/
def getBits (lo w : Nat) (x : Word) : Nat := (x.toNat >>> lo) % 2 ^ w

/-- A word with bits [lo + w − 1 : lo] replaced by `v` (modulo 2^w). -/
def setBits (lo w : Nat) (v : Nat) (x : Word) : Word :=
  (x &&& ~~~ (BitVec.ofNat 32 (2 ^ w - 1) <<< lo)) ||| (BitVec.ofNat 32 (v % 2 ^ w) <<< lo)

/-- The signed value of the low `w` bits of `v` (two's complement, R58). -/
def signed (w v : Nat) : Int := if v % 2 ^ w < 2 ^ (w - 1) then (v % 2 ^ w : Nat) else (v % 2 ^ w : Nat) - (2 ^ w : Int)

/-- The `w`-bit two's complement pattern of an integer. -/
def unsigned (w : Nat) (v : Int) : Nat := (v % (2 ^ w : Int)).toNat

/-- Bit `i` of a number. -/
def bitOf (x i : Nat) : Bool := x.testBit i

/-- A number with bit `i` set to `b`. -/
def putBit (x i : Nat) (b : Bool) : Nat := if x.testBit i = b then x else x ^^^ (2 ^ i)

/-- A Boolean as a one-bit field. -/
def b2n (b : Bool) : Nat := if b then 1 else 0

/-- The little-endian number of a list of bytes (R10). -/
def leNat : List Byte → Nat
  | [] => 0
  | b :: bs => b.toNat + 256 * leNat bs

/-- `n` bytes of a number, least significant first (R10). -/
def leBytes : Nat → Nat → List Byte
  | 0, _ => []
  | n + 1, v => BitVec.ofNat 8 v :: leBytes n (v / 256)

/-- The network-order number of a list of bytes (R10: Baton headers). -/
def beNat (bs : List Byte) : Nat := leNat bs.reverse

/-- `n` bytes of a number, most significant first. -/
def beBytes (n v : Nat) : List Byte := (leBytes n v).reverse

/-- The 32-bit words of a byte list, four bytes to a word, lowest first (R291). -/
def wordsOf : List Byte → List Word
  | a :: b :: c :: d :: r => BitVec.ofNat 32 (leNat [a, b, c, d]) :: wordsOf r
  | [] => []
  | r => [BitVec.ofNat 32 (leNat r)]

end Sys2Proof.Machine
end

