-- ==== Sys2Proof/Machine/RegMap.lean ====
section
/-! DEFINITION. The register map: every register of the field tables of the spec, its instances, its reset value,
and which of its bits a plain write changes (RW), clears (W1C) or sends to a shadow (R13, R284). Written from the tables
Bits | Field | Type | Reset of each chapter. -/

namespace Sys2Proof.Machine

/-- One register family: instance `i`, `j` lies at `base + s1 * i + s2 * j` for `i < n1`, `j < n2`. -/
structure RegRow where
  base : Nat
  s1 : Nat
  n1 : Nat
  s2 : Nat
  n2 : Nat
  /-- The reset value; a field whose reset the table leaves to the fabric image, the one-time cells, the PV block or a strap
  counts as 0 until it is loaded (log 3). -/
  rst : Nat
  /-- The RW bits. -/
  rw : Nat
  /-- The W1C bits. -/
  w1c : Nat
  /-- The bits that go to a shadow under CFG_MODE.BUFFERED = 1 (R284). -/
  buf : Nat
  deriving DecidableEq, Repr

/-- Whether a byte address is one of the family's registers. -/
def RegRow.has (r : RegRow) (a : Nat) : Bool :=
  decide (r.base ≤ a) && decide ((a - r.base) / r.s1 < r.n1) && decide ((a - r.base) % r.s1 % r.s2 = 0) &&
    decide ((a - r.base) % r.s1 / r.s2 < r.n2)

/-- Registers of the block at 0x00_0000. -/
def regs00 : List RegRow :=
  [⟨0x0, 16777216, 1, 4, 1, 0x5C009648, 0x0, 0x0, 0x0⟩ /- GLB_ID -/,
   ⟨0x10, 16777216, 1, 4, 1, 0x0, 0xFFFFFFFF, 0x0, 0x0⟩ /- GLB_KEY -/,
   ⟨0x20, 16777216, 1, 4, 1, 0x0, 0x1FFFF, 0x0, 0x0⟩ /- MBX_SEL -/,
   ⟨0x24, 16777216, 1, 4, 1, 0x0, 0x0, 0x0, 0x0⟩ /- MBX_STAT -/,
   ⟨0x28, 4, 4, 4, 1, 0x0, 0xFFFFFFFF, 0x0, 0x0⟩ /- MBX_DATA -/,
   ⟨0x40, 16777216, 1, 4, 1, 0x0, 0xFFFF0000, 0x0, 0x0⟩ /- UPD_STROBE -/,
   ⟨0x50, 16777216, 1, 4, 1, 0x0, 0x0, 0x0, 0x0⟩ /- ERR_ADDR -/,
   ⟨0x54, 16777216, 1, 4, 1, 0x0, 0xFFFF0000, 0x7F, 0x0⟩ /- GLB_ERR -/]

/-- Registers of the block at 0x01_0000. -/
def regs01 : List RegRow :=
  [⟨0x10000, 16777216, 1, 4, 1, 0x0, 0x73, 0x0, 0x30⟩ /- CLK_REF -/,
   ⟨0x10004, 16777216, 1, 4, 1, 0x250, 0x37F, 0x0, 0x0⟩ /- CLK_PLL -/,
   ⟨0x10008, 16777216, 1, 4, 1, 0x0, 0x0, 0xFF00, 0x0⟩ /- CLK_STAT -/,
   ⟨0x1000C, 16777216, 1, 4, 1, 0x201F4, 0x1F0FFF, 0x0, 0x1F0FFF⟩ /- CLK_WIN -/,
   ⟨0x10010, 16777216, 1, 4, 1, 0x0, 0x0, 0x0, 0x0⟩ /- CLK_REF_STEP -/,
   ⟨0x10014, 16777216, 1, 4, 1, 0x0, 0x0, 0x0, 0x0⟩ /- CLK_COAST -/,
   ⟨0x10018, 16777216, 1, 4, 1, 0x64, 0xFFFF, 0x0, 0x0⟩ /- CLK_LIMIT -/,
   ⟨0x10020, 16777216, 1, 4, 1, 0x10, 0x1F, 0x0, 0x0⟩ /- CLK_BAND -/,
   ⟨0x10024, 16777216, 1, 4, 1, 0x0, 0x0, 0x0, 0x0⟩ /- CLK_BAND_SEED -/,
   ⟨0x10030, 16777216, 1, 4, 1, 0x0, 0x0, 0x0, 0x0⟩ /- CLK_DIST -/,
   ⟨0x1003C, 16777216, 1, 4, 1, 0x0, 0x1, 0x0, 0x0⟩ /- CLK_CFG_MODE -/,
   ⟨0x10040, 16777216, 1, 4, 1, 0x0, 0xFFFFFFFF, 0x0, 0x0⟩ /- CLK_LOSS_CNT -/,
   ⟨0x10100, 16777216, 1, 4, 1, 0x0, 0x1, 0x0, 0x0⟩ /- TB_CTRL -/,
   ⟨0x10104, 16777216, 1, 4, 1, 0x0, 0x0, 0x300, 0x0⟩ /- TB_STAT -/,
   ⟨0x10108, 16777216, 1, 4, 1, 0x0, 0x0, 0x0, 0x0⟩ /- TB_LOW -/,
   ⟨0x1010C, 16777216, 1, 4, 1, 0x0, 0xFFFF, 0x0, 0x0⟩ /- TB_HALT -/,
   ⟨0x10110, 16777216, 1, 4, 1, 0x0, 0x0, 0x0, 0x0⟩ /- TB_GAP -/]

/-- Registers of the block at 0x02_0000. -/
def regs02 : List RegRow :=
  [⟨0x28000, 16777216, 1, 4, 1, 0x0, 0x7FFFF, 0x0, 0x0⟩ /- CRS_SEL -/,
   ⟨0x28004, 4, 8, 4, 1, 0x0, 0xFFFFFFFF, 0x0, 0x0⟩ /- CRS_D -/,
   ⟨0x28024, 16777216, 1, 4, 1, 0x0, 0x4, 0x0, 0x0⟩ /- CRS_CMD -/,
   ⟨0x28030, 16777216, 1, 4, 1, 0x0, 0xFFFF, 0x10000, 0x0⟩ /- SEQ_ECC -/,
   ⟨0x28040, 16777216, 1, 4, 1, 0x0, 0xFFFF, 0x0, 0x0⟩ /- SEGD_SEL -/,
   ⟨0x28044, 4, 4, 4, 1, 0x0, 0x0, 0x0, 0x0⟩ /- SEGD_D -/,
   ⟨0x28054, 16777216, 1, 4, 1, 0x0, 0x0, 0x0, 0x0⟩ /- SEGD_CMD -/,
   ⟨0x28080, 16777216, 1, 4, 1, 0x0, 0xFFFF, 0x0, 0x0⟩ /- SEGW_SEG -/,
   ⟨0x28084, 16777216, 1, 4, 1, 0x0, 0xFFFFFFFF, 0x0, 0x0⟩ /- SEGW_OFS -/,
   ⟨0x28088, 16777216, 1, 4, 1, 0x0, 0xFFFFFFFF, 0x0, 0x0⟩ /- SEGW_DATA -/,
   ⟨0x2808C, 16777216, 1, 4, 1, 0x0, 0xFFFF0000, 0x300, 0x0⟩ /- SEGW_STAT -/,
   ⟨0x20000, 16777216, 1, 4, 1, 0x0, 0x1F0, 0x0, 0x0⟩ /- SEQ_CTRL -/,
   ⟨0x20004, 16777216, 1, 4, 1, 0x0, 0x0, 0x1000000, 0x0⟩ /- SEQ_STAT -/,
   ⟨0x2003C, 16777216, 1, 4, 1, 0x0, 0x1, 0x0, 0x0⟩ /- SEQ_CFG_MODE -/,
   ⟨0x20100, 64, 8, 4, 1, 0x0, 0x0, 0x0, 0x0⟩ /- SQ_STAT -/,
   ⟨0x20104, 64, 8, 4, 1, 0x0, 0x0, 0x0, 0x0⟩ /- SQ_POS -/,
   ⟨0x20108, 64, 8, 4, 1, 0x0, 0x0, 0x3F, 0x0⟩ /- SQ_FLAGS -/,
   ⟨0x2010C, 64, 8, 4, 1, 0x0, 0xFFFFFFFF, 0x0, 0x0⟩ /- SQ_CNT -/,
   ⟨0x20110, 64, 8, 4, 1, 0x0, 0x0, 0x0, 0x0⟩ /- SQ_LATCH_LO -/,
   ⟨0x20114, 64, 8, 4, 1, 0x0, 0x0, 0x0, 0x0⟩ /- SQ_LATCH_HI -/,
   ⟨0x20118, 64, 8, 4, 1, 0x0, 0xFFFFFF, 0x0, 0xFFFFFF⟩ /- SQ_HOLD_LIMIT -/,
   ⟨0x2011C, 64, 8, 4, 1, 0x0, 0xFFFF, 0x0, 0xFFFF⟩ /- SQ_START -/,
   ⟨0x20120, 64, 8, 4, 1, 0x0, 0xFFFFFFFF, 0x0, 0x0⟩ /- SQ_CMDQ_WR -/,
   ⟨0x20124, 64, 8, 4, 1, 0x1000, 0xFF003F00, 0x10000, 0x0⟩ /- SQ_CMDQ_LVL -/,
   ⟨0x20128, 64, 8, 4, 1, 0x0, 0x0, 0x0, 0x0⟩ /- SQ_CMD_DONE -/]

/-- Registers of the block at 0x03_0000. -/
def regs03 : List RegRow :=
  [⟨0x30000, 16777216, 1, 4, 1, 0x0, 0xFFFF0000, 0xF, 0x0⟩ /- EVT_STAT -/,
   ⟨0x30010, 16777216, 1, 4, 1, 0x0, 0x0, 0x0, 0x0⟩ /- EVT_SW_PULSE_LO -/,
   ⟨0x30014, 16777216, 1, 4, 1, 0x0, 0x0, 0x0, 0x0⟩ /- EVT_SW_PULSE_HI -/,
   ⟨0x30018, 16777216, 1, 4, 1, 0x0, 0xFFFFFFFF, 0x0, 0x0⟩ /- EVT_SW_LEVEL_LO -/,
   ⟨0x3001C, 16777216, 1, 4, 1, 0x0, 0xFFFFFFFF, 0x0, 0x0⟩ /- EVT_SW_LEVEL_HI -/,
   ⟨0x3003C, 16777216, 1, 4, 1, 0x0, 0x1, 0x0, 0x0⟩ /- EVT_CFG_MODE -/,
   ⟨0x30040, 16777216, 1, 4, 1, 0x0, 0x0, 0x0, 0x0⟩ /- EVQ_RD -/,
   ⟨0x30044, 16777216, 1, 4, 1, 0x8000000, 0x1FFF0000, 0x20000000, 0x0⟩ /- EVQ_LVL -/,
   ⟨0x30048, 16777216, 1, 4, 1, 0x0, 0xFFFFFF, 0x0, 0x0⟩ /- EVQ_LOST -/,
   ⟨0x30080, 16777216, 1, 4, 1, 0x0, 0xFF, 0x0, 0x0⟩ /- EVT_ALARM_CTRL -/,
   ⟨0x300A0, 4, 8, 4, 1, 0x0, 0xFFFFFFFF, 0x0, 0x0⟩ /- EVT_APER -/,
   ⟨0x30100, 4, 64, 4, 1, 0x0, 0x0, 0x0, 0x0⟩ /- EVT_MAP -/,
   ⟨0x30200, 4, 16, 4, 1, 0x0, 0xFF, 0x0, 0x0⟩ /- EVT_TI_CFG -/,
   ⟨0x30400, 16, 32, 4, 1, 0x0, 0xFFFF0000, 0x0, 0x0⟩ /- PN_CFG -/,
   ⟨0x30404, 16, 32, 4, 1, 0x0, 0x3FFFFFF, 0x0, 0x3FFFFFF⟩ /- PN_TIME -/,
   ⟨0x30408, 16, 32, 4, 1, 0x0, 0x1FFF, 0x0, 0x1FFF⟩ /- PN_TRIM -/]

/-- Registers of the block at 0x04_0000. -/
def regs04 : List RegRow :=
  [⟨0x40000, 16777216, 1, 4, 1, 0x0, 0x0, 0x0, 0x0⟩ /- PLAN_CTRL -/,
   ⟨0x40004, 16777216, 1, 4, 1, 0x0, 0x0, 0x70000, 0x0⟩ /- PLAN_STAT -/,
   ⟨0x40008, 16777216, 1, 4, 1, 0x0, 0x0, 0x0, 0x0⟩ /- PLAN_ERR -/,
   ⟨0x4000C, 16777216, 1, 4, 1, 0x0, 0x0, 0x0, 0x0⟩ /- PLAN_ERR_POS -/,
   ⟨0x40010, 16777216, 1, 4, 1, 0x0, 0xFFFFFFFF, 0x0, 0x0⟩ /- PLAN_LEN -/,
   ⟨0x40014, 16777216, 1, 4, 1, 0x0, 0x0, 0x0, 0x0⟩ /- PLAN_INFO -/,
   ⟨0x40018, 16777216, 1, 4, 1, 0x100, 0x0, 0x0, 0x0⟩ /- PLAN_TL -/,
   ⟨0x40020, 16777216, 1, 4, 1, 0x0, 0xFFFF, 0x0, 0x0⟩ /- PLAN_YIELD -/]

/-- Registers of the block at 0x08_0000. -/
def regs08 : List RegRow :=
  [⟨0x80000, 1024, 64, 4, 1, 0x0, 0x1F7, 0x0, 0x0⟩ /- FC_CFG -/,
   ⟨0x80004, 1024, 64, 4, 1, 0xC07, 0x0, 0x3F0000, 0x0⟩ /- FC_STAT -/,
   ⟨0x80008, 1024, 64, 4, 1, 0x20000, 0x3FFFF, 0x0, 0x3FFFF⟩ /- FC_GAIN -/,
   ⟨0x8000C, 1024, 64, 4, 1, 0x0, 0xFFFFF, 0x0, 0xFFFFF⟩ /- FC_OFS -/,
   ⟨0x80010, 1024, 64, 4, 1, 0x0, 0x1FFF, 0x0, 0x1FFF⟩ /- FC_DLY -/,
   ⟨0x80014, 1024, 64, 4, 1, 0x0, 0x3FFF, 0x0, 0x0⟩ /- FC_HOP -/,
   ⟨0x80018, 1024, 64, 4, 1, 0x0, 0x3F, 0x0, 0x0⟩ /- FC_PSEL -/,
   ⟨0x8001C, 1024, 64, 4, 1, 0x0, 0xFFFFFFFF, 0x0, 0x0⟩ /- FC_PPHASE -/,
   ⟨0x80020, 1024, 64, 4, 1, 0x0, 0xFFFFF, 0x0, 0x0⟩ /- FC_PAMP -/,
   ⟨0x80024, 1024, 64, 4, 1, 0x0, 0x0, 0x0, 0x0⟩ /- FC_PCMD -/,
   ⟨0x80028, 1024, 64, 4, 1, 0x0, 0x0, 0x0, 0x0⟩ /- FC_CAL -/,
   ⟨0x8002C, 1024, 64, 4, 1, 0x0, 0x0, 0x0, 0x0⟩ /- FC_CALRES -/,
   ⟨0x80030, 1024, 64, 4, 1, 0x0, 0x0, 0x0, 0x0⟩ /- FC_RB -/,
   ⟨0x80034, 1024, 64, 4, 1, 0x0, 0x0, 0x0, 0x0⟩ /- FC_RB_VAL -/,
   ⟨0x80038, 1024, 64, 4, 1, 0x0, 0xFFFFFFFF, 0x0, 0x0⟩ /- FC_CNT -/,
   ⟨0x8003C, 1024, 64, 4, 1, 0x0, 0x1, 0x0, 0x0⟩ /- FC_CFG_MODE -/,
   ⟨0x80040, 1024, 64, 4, 1, 0x400, 0xFFFF, 0x0, 0x0⟩ /- FC_RB_TOL -/]

/-- Registers of the block at 0x09_0000. -/
def regs09 : List RegRow :=
  [⟨0x90000, 256, 128, 4, 1, 0x2000, 0x31FF3F, 0x0, 0x0⟩ /- VP_CFG -/,
   ⟨0x90004, 256, 128, 4, 1, 0x4B00000, 0xFFF0FFF, 0x0, 0xFFF0FFF⟩ /- VP_LVL -/,
   ⟨0x90008, 256, 128, 4, 1, 0x3200190, 0xFFF0FFF, 0x0, 0xFFF0FFF⟩ /- VP_VTH -/,
   ⟨0x9000C, 256, 128, 4, 1, 0x0, 0x1FFF, 0x0, 0x1FFF⟩ /- VP_DRV_TRIM -/,
   ⟨0x90010, 256, 128, 4, 1, 0x0, 0x1FFF, 0x0, 0x1FFF⟩ /- VP_STB_TRIM -/,
   ⟨0x90014, 256, 128, 4, 1, 0x32, 0x0, 0x30000, 0x0⟩ /- VP_STAT -/,
   ⟨0x90018, 256, 128, 4, 1, 0x0, 0xFFFFFFFF, 0x0, 0x0⟩ /- VP_FCNT -/,
   ⟨0x98000, 64, 4, 4, 1, 0x0, 0xF77, 0x0, 0x0⟩ /- VB_CFG -/,
   ⟨0x98004, 64, 4, 4, 1, 0x0, 0x0, 0x10000, 0x0⟩ /- VB_STAT -/,
   ⟨0x9803C, 64, 4, 4, 1, 0x0, 0x1, 0x0, 0x0⟩ /- VB_CFG_MODE -/]

/-- Registers of the block at 0x0A_0000. -/
def regs0A : List RegRow :=
  [⟨0xA0000, 16777216, 1, 4, 1, 0x1, 0xF3, 0x0, 0x0⟩ /- CAPT_CTRL -/,
   ⟨0xA0004, 16777216, 1, 4, 1, 0x0, 0x0, 0xF, 0x0⟩ /- CAPT_STAT -/,
   ⟨0xA0010, 4, 4, 4, 1, 0x0, 0xFFFFFFFF, 0x0, 0xFFFFFFFF⟩ /- CAPT_FLMASK -/,
   ⟨0xA003C, 16777216, 1, 4, 1, 0x0, 0x1, 0x0, 0x0⟩ /- CAPT_CFG_MODE -/,
   ⟨0xA0040, 16777216, 1, 4, 1, 0x0, 0x0, 0x0, 0x0⟩ /- CAPQ_RD -/,
   ⟨0xA0044, 16777216, 1, 4, 1, 0x10000000, 0x3FFF0000, 0x40000000, 0x0⟩ /- CAPQ_LVL -/,
   ⟨0xA0048, 16777216, 1, 4, 1, 0x0, 0xFFFFFF, 0x0, 0x0⟩ /- CAPQ_CNT -/,
   ⟨0xA0050, 4, 4, 4, 1, 0x0, 0xFFFFFFFF, 0x0, 0x0⟩ /- CAPT_FLDROP -/,
   ⟨0xA0100, 32, 4, 4, 1, 0x0, 0xFFFFFFFF, 0x0, 0x0⟩ /- CAPT_RING_SIZE -/,
   ⟨0xA0104, 32, 4, 4, 1, 0x0, 0x0, 0x0, 0x0⟩ /- CAPT_RING_WR -/,
   ⟨0xA0108, 32, 4, 4, 1, 0x0, 0xFFFFFFFF, 0x0, 0x0⟩ /- CAPT_RING_RD -/,
   ⟨0xA010C, 32, 4, 4, 1, 0x0, 0x0, 0x0, 0x0⟩ /- CAPT_RING_LVL -/,
   ⟨0xA0110, 32, 4, 4, 1, 0x0, 0xFFFFFFFF, 0x0, 0x0⟩ /- CAPT_RING_MARK -/,
   ⟨0xA0114, 32, 4, 4, 1, 0x0, 0xFF00, 0x3, 0x0⟩ /- CAPT_RING_FLAGS -/,
   ⟨0xA0118, 32, 4, 4, 1, 0x0, 0xFFFFFFFF, 0x0, 0x0⟩ /- CAPT_RING_LOST -/]

/-- Registers of the block at 0x0B_0000. -/
def regs0B : List RegRow :=
  [⟨0xB0000, 16777216, 1, 4, 1, 0x0, 0x0, 0x0, 0x0⟩ /- DRAM_STAT -/,
   ⟨0xB0004, 16777216, 1, 4, 1, 0x0, 0x0, 0x0, 0x0⟩ /- DRAM_CFG -/,
   ⟨0xB0008, 16777216, 1, 4, 1, 0x4, 0x77, 0x0, 0x0⟩ /- DRAM_TRAIN -/,
   ⟨0xB000C, 16777216, 1, 4, 1, 0x20, 0x3F, 0x0, 0x3F⟩ /- DRAM_PANIC -/,
   ⟨0xB0010, 16777216, 1, 4, 1, 0x8, 0xF, 0x0, 0x0⟩ /- DRAM_REF -/,
   ⟨0xB0014, 16777216, 1, 4, 1, 0x0, 0x0, 0x0, 0x0⟩ /- DRAM_TEMP -/,
   ⟨0xB0018, 16777216, 1, 4, 1, 0x3E8, 0xFFFFF, 0x0, 0x0⟩ /- DRAM_SR -/,
   ⟨0xB001C, 16777216, 1, 4, 1, 0x0, 0x0, 0x3F, 0x0⟩ /- DRAM_FLAGS -/,
   ⟨0xB0020, 16777216, 1, 4, 1, 0x0, 0xFFFFFFFF, 0x0, 0x0⟩ /- DRAM_CNT -/,
   ⟨0xB0024, 16777216, 1, 4, 1, 0x0, 0xFFFFFFFF, 0x0, 0x0⟩ /- DRAM_RETRAIN -/,
   ⟨0xB0028, 16777216, 1, 4, 1, 0x0, 0xFFFF, 0x10000, 0x0⟩ /- DRAM_ECC -/,
   ⟨0xB003C, 16777216, 1, 4, 1, 0x0, 0x1, 0x0, 0x0⟩ /- DRAM_CFG_MODE -/,
   ⟨0xB0100, 4, 8, 4, 1, 0x20000, 0x0, 0x0, 0x0⟩ /- DRAM_PORT -/]

/-- Registers of the block at 0x0C_0000. -/
def regs0C : List RegRow :=
  [⟨0xC0000, 16777216, 1, 4, 1, 0x0, 0x0, 0x30000, 0x0⟩ /- TRK_STAT -/,
   ⟨0xC0004, 16777216, 1, 4, 1, 0x100064, 0x1FFFFF, 0x0, 0x1FFFFF⟩ /- TRK_RET -/,
   ⟨0xC0008, 16777216, 1, 4, 1, 0x0, 0xFFFFFFFF, 0x0, 0x0⟩ /- TRK_LOST -/,
   ⟨0xC0010, 4, 10, 4, 1, 0x0, 0xFFFFFFFF, 0x0, 0x0⟩ /- TRK_CONF -/,
   ⟨0xC003C, 16777216, 1, 4, 1, 0x0, 0x1, 0x0, 0x0⟩ /- TRK_CFG_MODE -/,
   ⟨0xC0040, 4, 16, 4, 1, 0xFFFFFFFF, 0x0, 0x0, 0x0⟩ /- TRK_RETMAP -/,
   ⟨0xC0080, 16777216, 1, 4, 1, 0x0, 0x3FFFFFF, 0x0, 0x0⟩ /- TRK_WADDR -/,
   ⟨0xC0084, 16777216, 1, 4, 1, 0x0, 0xFFFFFFFF, 0x0, 0x0⟩ /- TRK_WDATA -/,
   ⟨0xC0088, 16777216, 1, 4, 1, 0x0, 0xFFFF0000, 0x100, 0x0⟩ /- TRK_WSTAT -/]

/-- Registers of the block at 0x0D_0000. -/
def regs0D : List RegRow :=
  [⟨0xD0000, 16777216, 1, 4, 1, 0x2, 0x3, 0x0, 0x0⟩ /- BAT_CTRL -/,
   ⟨0xD0004, 16777216, 1, 4, 1, 0x0, 0x0, 0x7F0000, 0x0⟩ /- BAT_STAT -/,
   ⟨0xD0008, 16777216, 1, 4, 1, 0xA0040, 0xFF00FF, 0x0, 0xFF00FF⟩ /- BAT_ACK -/,
   ⟨0xD000C, 16777216, 1, 4, 1, 0x400, 0x7FFF, 0x0, 0x7FFF⟩ /- BAT_WIN -/,
   ⟨0xD0010, 16777216, 1, 4, 1, 0x64, 0xFFFF, 0x0, 0x0⟩ /- BAT_IDLE -/,
   ⟨0xD0014, 16777216, 1, 4, 1, 0xBA70, 0xFFFF, 0x0, 0x0⟩ /- BAT_UDP -/,
   ⟨0xD0018, 16777216, 1, 4, 1, 0x10001800, 0x3FFF3FFF, 0x0, 0x3FFF3FFF⟩ /- BAT_BUF -/,
   ⟨0xD001C, 16777216, 1, 4, 1, 0x508, 0xFF0F, 0x0, 0xFF0F⟩ /- BAT_OUT -/,
   ⟨0xD0020, 16777216, 1, 4, 1, 0x0, 0xFFFFFFFF, 0x0, 0x0⟩ /- BAT_CNT0 -/,
   ⟨0xD0024, 16777216, 1, 4, 1, 0x0, 0xFFFFFFFF, 0x0, 0x0⟩ /- BAT_CNT1 -/,
   ⟨0xD003C, 16777216, 1, 4, 1, 0x0, 0x1, 0x0, 0x0⟩ /- BAT_CFG_MODE -/,
   ⟨0xD0040, 16777216, 1, 4, 1, 0x0, 0xFFFFFFFF, 0x0, 0x0⟩ /- BATQ_WR -/,
   ⟨0xD0044, 16777216, 1, 4, 1, 0x800000, 0x1FF0000, 0x2000000, 0x0⟩ /- BATQ_LVL -/,
   ⟨0xD0048, 16777216, 1, 4, 1, 0x0, 0xFFFFFF, 0x0, 0x0⟩ /- BATQ_CNT -/,
   ⟨0xD004C, 16777216, 1, 4, 1, 0x0, 0x0, 0x0, 0x0⟩ /- BAT_QDONE -/,
   ⟨0xD0080, 16777216, 1, 4, 1, 0x0, 0x3FF, 0x0, 0x0⟩ /- BAT_GSEL -/,
   ⟨0xD0084, 16777216, 1, 4, 1, 0x0, 0x0, 0x0, 0x0⟩ /- BAT_GSTAT -/,
   ⟨0xD0088, 16777216, 1, 4, 1, 0x0, 0x0, 0x0, 0x0⟩ /- BAT_GDONE -/,
   ⟨0xD00C0, 16777216, 1, 4, 1, 0x0, 0x0, 0x0, 0x0⟩ /- BAT_OSTAT -/,
   ⟨0xD00C4, 4, 5, 4, 1, 0x0, 0xFFFFFFFF, 0x0, 0x0⟩ /- BAT_OCNT -/]

/-- Registers of the block at 0x0E_0000. -/
def regs0E : List RegRow :=
  [⟨0xE0000, 4096, 2, 4, 1, 0xFFFF0660, 0xFFFF07FF, 0x0, 0x0⟩ /- NET_CTRL -/,
   ⟨0xE0004, 4096, 2, 4, 1, 0x0, 0x0, 0x1F00, 0x0⟩ /- NET_STAT -/,
   ⟨0xE0008, 4096, 2, 4, 1, 0x0, 0xFFFFFFFF, 0x0, 0x0⟩ /- NET_FEC_CORR -/,
   ⟨0xE000C, 4096, 2, 4, 1, 0x0, 0xFFFFFFFF, 0x0, 0x0⟩ /- NET_FEC_UNCORR -/,
   ⟨0xE0010, 4096, 2, 4, 1, 0x0, 0xFFFFFFFF, 0x0, 0x0⟩ /- NET_FCS -/,
   ⟨0xE0014, 4096, 2, 4, 1, 0x0, 0xFFFFFFFF, 0x0, 0x0⟩ /- NET_DROP -/,
   ⟨0xE0018, 4096, 2, 4, 1, 0x0, 0xFFFF, 0x0, 0xFFFF⟩ /- NET_MC_EN -/,
   ⟨0xE003C, 4096, 2, 4, 1, 0x0, 0x1, 0x0, 0x0⟩ /- NET_CFG_MODE -/,
   ⟨0xE0100, 4096, 2, 32, 4, 0x0, 0xFFFFFFFF, 0x0, 0x0⟩ /- NETL_IPV4 -/,
   ⟨0xE0104, 4096, 2, 32, 4, 0x0, 0x7FFF, 0x0, 0x0⟩ /- NETL_CFG -/]

/-- Registers of the block at 0x0F_0000. -/
def regs0F : List RegRow :=
  [⟨0xF0000, 16777216, 1, 4, 1, 0x1, 0xFF, 0x0, 0x0⟩ /- MGMT_CORE -/,
   ⟨0xF0004, 16777216, 1, 4, 1, 0x0, 0x0, 0x0, 0x0⟩ /- MGMT_IRQ_STAT -/,
   ⟨0xF0008, 16777216, 1, 4, 1, 0x0, 0x3FFFF, 0x0, 0x0⟩ /- MGMT_IRQ_EN -/,
   ⟨0xF000C, 16777216, 1, 4, 1, 0x0, 0xFFFF0018, 0x0, 0x0⟩ /- MGMT_PORT -/,
   ⟨0xF0010, 16777216, 1, 4, 1, 0x0, 0x7FFFFFF, 0x0, 0x0⟩ /- MGMT_MDIO -/,
   ⟨0xF0014, 16777216, 1, 4, 1, 0x0, 0xFFFFFFFF, 0x0, 0x0⟩ /- MGMT_IPV4 -/]

/-- Registers of the block at 0x10_0000. -/
def regs10 : List RegRow :=
  [⟨0x100000, 16777216, 1, 4, 1, 0x0, 0x0, 0x30000, 0x0⟩ /- PV_STAT -/,
   ⟨0x100004, 16777216, 1, 4, 1, 0x0, 0x0, 0x0, 0x0⟩ /- PV_WORN_ADDR -/,
   ⟨0x100008, 16777216, 1, 4, 1, 0x0, 0x3FFF, 0x0, 0x0⟩ /- PV_WSEL -/,
   ⟨0x100010, 16777216, 1, 4, 1, 0x0, 0x3FF, 0x0, 0x0⟩ /- OTP_ADDR -/,
   ⟨0x100014, 16777216, 1, 4, 1, 0x0, 0x0, 0x0, 0x0⟩ /- OTP_DATA -/,
   ⟨0x100018, 16777216, 1, 4, 1, 0x0, 0xFFFFFFFF, 0x0, 0x0⟩ /- OTP_PDATA -/,
   ⟨0x10001C, 16777216, 1, 4, 1, 0x0, 0x0, 0x0, 0x0⟩ /- OTP_CMD -/,
   ⟨0x100100, 4, 8160, 4, 1, 0x0, 0x0, 0x0, 0x0⟩ /- PV_W -/]

/-- Registers of the block at 0x11_0000. -/
def regs11 : List RegRow :=
  [⟨0x110000, 16777216, 1, 4, 1, 0x1E00, 0xFF01, 0x0, 0x0⟩ /- UPD_CTRL -/,
   ⟨0x110004, 16777216, 1, 4, 1, 0x0, 0x0, 0x1000000, 0x0⟩ /- UPD_STAT -/,
   ⟨0x110008, 16777216, 1, 4, 1, 0x0, 0x0, 0x0, 0x0⟩ /- UPD_CMD -/,
   ⟨0x11000C, 16777216, 1, 4, 1, 0x0, 0x0, 0x0, 0x0⟩ /- UPD_LOCK -/,
   ⟨0x110010, 16777216, 1, 4, 1, 0x0, 0x0, 0x0, 0x0⟩ /- UPD_LOCK_SID -/,
   ⟨0x110014, 16777216, 1, 4, 1, 0x0, 0x0, 0x0, 0x0⟩ /- UPD_PROG -/,
   ⟨0x110018, 16777216, 1, 4, 1, 0x0, 0xFFFFFFFF, 0x0, 0x0⟩ /- UPD_DROP -/,
   ⟨0x110044, 16777216, 1, 4, 1, 0x4000000, 0xFFF0000, 0x10000000, 0x0⟩ /- UPDQ_LVL -/,
   ⟨0x110048, 16777216, 1, 4, 1, 0x0, 0xFFFFFF, 0x0, 0x0⟩ /- UPDQ_CNT -/]

/-- Registers of the block at 0x12_0000. -/
def regs12 : List RegRow :=
  [⟨0x120000, 16777216, 1, 4, 1, 0x1, 0x0, 0xFF0000, 0x0⟩ /- SUP_STAT -/,
   ⟨0x120004, 16777216, 1, 4, 1, 0x0, 0x0, 0x0, 0x0⟩ /- SUP_RESET -/,
   ⟨0x120008, 16777216, 1, 4, 1, 0x780500, 0xFF0000FF, 0x0, 0xFF⟩ /- SUP_THERM -/,
   ⟨0x12000C, 16777216, 1, 4, 1, 0x0, 0x0, 0x0, 0x0⟩ /- SUP_MON_CMD -/,
   ⟨0x120010, 16777216, 1, 4, 1, 0x0, 0x0, 0x0, 0x0⟩ /- SUP_RB_FAIL_LO -/,
   ⟨0x120014, 16777216, 1, 4, 1, 0x0, 0x0, 0x0, 0x0⟩ /- SUP_RB_FAIL_HI -/,
   ⟨0x12003C, 16777216, 1, 4, 1, 0x0, 0x1, 0x0, 0x0⟩ /- SUP_CFG_MODE -/,
   ⟨0x120040, 16777216, 1, 4, 1, 0x0, 0x0, 0x0, 0x0⟩ /- LOGQ_RD -/,
   ⟨0x120044, 16777216, 1, 4, 1, 0x2000000, 0x7FF0000, 0x8000000, 0x0⟩ /- LOGQ_LVL -/,
   ⟨0x120048, 16777216, 1, 4, 1, 0x0, 0xFFFFFF, 0x0, 0x0⟩ /- LOGQ_CNT -/,
   ⟨0x12004C, 16777216, 1, 4, 1, 0x0, 0xFFFF, 0x0, 0x0⟩ /- LOGQ_LOST -/,
   ⟨0x120050, 16777216, 1, 4, 1, 0x0, 0x0, 0x0, 0x0⟩ /- SUP_PWR -/,
   ⟨0x120054, 16777216, 1, 4, 1, 0x0, 0x3F, 0x0, 0x0⟩ /- SUP_DOM_CMD -/,
   ⟨0x120058, 16777216, 1, 4, 1, 0x0, 0x0, 0x0, 0x0⟩ /- SUP_AWAKE_LO -/,
   ⟨0x12005C, 16777216, 1, 4, 1, 0x0, 0x0, 0x0, 0x0⟩ /- SUP_AWAKE_HI -/,
   ⟨0x120060, 16777216, 1, 4, 1, 0x5, 0x7, 0x0, 0x0⟩ /- SUP_WAKE -/,
   ⟨0x120064, 16777216, 1, 4, 1, 0x0, 0xFFFFFFFF, 0x0, 0x0⟩ /- SUP_WAKE_TIMER -/,
   ⟨0x120080, 4, 16, 4, 1, 0x0, 0x0, 0x0, 0x0⟩ /- SUP_TEMP -/]

/-- Registers of the block at 0x13_0000. -/
def regs13 : List RegRow :=
  [⟨0x130000, 16777216, 1, 4, 1, 0x0, 0x1F3, 0x0, 0x0⟩ /- MIR_CTRL -/,
   ⟨0x130004, 16777216, 1, 4, 1, 0x0, 0x0, 0x7F0000, 0x0⟩ /- MIR_STAT -/,
   ⟨0x130008, 16777216, 1, 4, 1, 0x0, 0x0, 0x0, 0x0⟩ /- MIR_LAT -/,
   ⟨0x13000C, 16777216, 1, 4, 1, 0x0, 0xFFFFFFFF, 0x0, 0x0⟩ /- MIR_CNT -/,
   ⟨0x130010, 16777216, 1, 4, 1, 0x0, 0xFFFFFF, 0x0, 0x0⟩ /- MIR_ERR -/,
   ⟨0x130040, 16777216, 1, 4, 1, 0x0, 0xFFFFFFFF, 0x0, 0x0⟩ /- MIR_TX_WR -/,
   ⟨0x130044, 16777216, 1, 4, 1, 0x0, 0x0, 0x0, 0x0⟩ /- MIRQ_RD -/,
   ⟨0x130048, 16777216, 1, 4, 1, 0x800000, 0x1FF0000, 0x2000000, 0x0⟩ /- MIRQ_LVL -/,
   ⟨0x13004C, 16777216, 1, 4, 1, 0x0, 0xFF, 0x0, 0x0⟩ /- MIRQ_CNT -/]

/-- Registers of the block at 0x14_0000. -/
def regs14 : List RegRow :=
  [⟨0x140000, 16777216, 1, 4, 1, 0x0, 0x1, 0x0, 0x0⟩ /- SYNC_CTRL -/,
   ⟨0x140004, 16777216, 1, 4, 1, 0x0, 0x0, 0x1F00, 0x0⟩ /- SYNC_STAT -/,
   ⟨0x140008, 16777216, 1, 4, 1, 0x0, 0x0, 0x0, 0x0⟩ /- SYNC_RT -/,
   ⟨0x14000C, 16777216, 1, 4, 1, 0x0, 0x1FFF, 0x0, 0x1FFF⟩ /- SYNC_DEV_OFS -/,
   ⟨0x140010, 16777216, 1, 4, 1, 0x0, 0x0, 0x0, 0x0⟩ /- SYNC_START -/,
   ⟨0x140014, 16777216, 1, 4, 1, 0x0, 0xFFFFFFFF, 0x0, 0x0⟩ /- SYNC_CNT -/,
   ⟨0x140018, 16777216, 1, 4, 1, 0x0, 0x1FF, 0x0, 0x0⟩ /- SYNC_ASEL -/,
   ⟨0x14001C, 16777216, 1, 4, 1, 0x0, 0x0, 0x0, 0x0⟩ /- SYNC_ADATA -/,
   ⟨0x14003C, 16777216, 1, 4, 1, 0x0, 0x1, 0x0, 0x0⟩ /- SYNC_CFG_MODE -/]

/-- Registers of the block at 0x15_0000. -/
def regs15 : List RegRow :=
  [⟨0x150000, 16777216, 1, 4, 1, 0x0, 0x0, 0x0, 0x0⟩ /- FABRIC_CTRL -/,
   ⟨0x150004, 16777216, 1, 4, 1, 0x0, 0x0, 0x30000, 0x0⟩ /- FABRIC_STAT -/,
   ⟨0x150008, 16777216, 1, 4, 1, 0x0, 0x0, 0x0, 0x0⟩ /- FABRIC_ERR -/,
   ⟨0x15000C, 16777216, 1, 4, 1, 0x0, 0x1FFFF, 0x0, 0x0⟩ /- FABRIC_LEN -/,
   ⟨0x150010, 16777216, 1, 4, 1, 0x0, 0x0, 0x0, 0x0⟩ /- FABRIC_UNITS -/,
   ⟨0x1500C0, 4, 8, 4, 1, 0x0, 0x0, 0x0, 0x0⟩ /- FABRIC_FCSQ -/,
   ⟨0x150040, 4, 16, 4, 1, 0x0, 0x0, 0x0, 0x0⟩ /- FABRIC_VPSQ -/,
   ⟨0x150080, 4, 16, 4, 1, 0x0, 0x0, 0x0, 0x0⟩ /- FABRIC_PDGRP -/]

/-- Registers of the block at 0x16_0000. -/
def regs16 : List RegRow :=
  [⟨0x160000, 16777216, 1, 4, 1, 0x0, 0x0, 0x10000, 0x0⟩ /- DBG_STAT -/,
   ⟨0x160004, 16777216, 1, 4, 1, 0x0, 0x0, 0x0, 0x0⟩ /- DBG_CTRL -/,
   ⟨0x160008, 16777216, 1, 4, 1, 0x0, 0x0, 0x0, 0x0⟩ /- DBG_FREEZE -/,
   ⟨0x16000C, 16777216, 1, 4, 1, 0x0, 0x7F, 0x0, 0x0⟩ /- DBG_RING_ADDR -/,
   ⟨0x160010, 16777216, 1, 4, 1, 0x0, 0x0, 0x0, 0x0⟩ /- DBG_RING_DATA -/]

/-- The registers of the block that holds an address (R272). -/
def blockRegs (a : Nat) : List RegRow :=
  match a / 0x10000 with
  | 0x00 => regs00
  | 0x01 => regs01
  | 0x02 => regs02
  | 0x03 => regs03
  | 0x04 => regs04
  | 0x08 => regs08
  | 0x09 => regs09
  | 0x0A => regs0A
  | 0x0B => regs0B
  | 0x0C => regs0C
  | 0x0D => regs0D
  | 0x0E => regs0E
  | 0x0F => regs0F
  | 0x10 => regs10
  | 0x11 => regs11
  | 0x12 => regs12
  | 0x13 => regs13
  | 0x14 => regs14
  | 0x15 => regs15
  | 0x16 => regs16
  | _ => []

/-- The register family at a byte address, if any register is implemented there (R12). -/
def findReg (a : Nat) : Option RegRow := (blockRegs a).find? (fun r => r.has a)

/-- What a register holds at reset (R12: an unimplemented location reads as zero). -/
def resetOf (a : Nat) : Word :=
  match findReg a with
  | some r => BitVec.ofNat 32 r.rst
  | none => 0

/-- A field of a register: byte address, lowest bit, width. -/
structure Fld where
  a : Nat
  lo : Nat
  w : Nat
  deriving DecidableEq, Repr

namespace F

abbrev CLK_REF_REF_SEL : Fld := ⟨0x10000, 0, 2⟩
abbrev CLK_REF_RET_POLICY : Fld := ⟨0x10000, 4, 2⟩
abbrev CLK_REF_AO_FORCE_RC : Fld := ⟨0x10000, 6, 1⟩
abbrev CLK_PLL_PLAN_N : Fld := ⟨0x10004, 0, 7⟩
abbrev CLK_PLL_LOOP_BW : Fld := ⟨0x10004, 8, 2⟩
abbrev CLK_PLL_HOP : Fld := ⟨0x10004, 16, 1⟩
abbrev CLK_PLL_HARD_RELOCK : Fld := ⟨0x10004, 17, 1⟩
abbrev CLK_PLL_SOFT_GO : Fld := ⟨0x10004, 18, 1⟩
abbrev CLK_PLL_BAND_SEARCH : Fld := ⟨0x10004, 19, 1⟩
abbrev CLK_STAT_LOCK : Fld := ⟨0x10008, 0, 1⟩
abbrev CLK_STAT_COAST : Fld := ⟨0x10008, 1, 1⟩
abbrev CLK_STAT_REF_VALID : Fld := ⟨0x10008, 2, 1⟩
abbrev CLK_STAT_SOFT_ACTIVE : Fld := ⟨0x10008, 3, 1⟩
abbrev CLK_STAT_AO_ON_RC : Fld := ⟨0x10008, 4, 1⟩
abbrev CLK_STAT_REF_LOSS : Fld := ⟨0x10008, 8, 1⟩
abbrev CLK_STAT_REF_BACK : Fld := ⟨0x10008, 9, 1⟩
abbrev CLK_STAT_STEP_OUT : Fld := ⟨0x10008, 10, 1⟩
abbrev CLK_STAT_UNLOCK : Fld := ⟨0x10008, 11, 1⟩
abbrev CLK_STAT_BAND_MISS : Fld := ⟨0x10008, 12, 1⟩
abbrev CLK_STAT_RANGE_ERR : Fld := ⟨0x10008, 13, 1⟩
abbrev CLK_STAT_COAST_LONG : Fld := ⟨0x10008, 14, 1⟩
abbrev CLK_STAT_REF_BAD : Fld := ⟨0x10008, 15, 1⟩
abbrev CLK_STAT_CMD_STATUS : Fld := ⟨0x10008, 16, 8⟩
abbrev CLK_STAT_CMD_BUSY : Fld := ⟨0x10008, 24, 1⟩
abbrev CLK_WIN_CAP_WIN : Fld := ⟨0x1000C, 0, 12⟩
abbrev CLK_WIN_SLEW : Fld := ⟨0x1000C, 16, 5⟩
abbrev CLK_REF_STEP_STEP : Fld := ⟨0x10010, 0, 16⟩
abbrev CLK_REF_STEP_FOFS : Fld := ⟨0x10010, 16, 16⟩
abbrev CLK_COAST_COAST_TIME : Fld := ⟨0x10014, 0, 32⟩
abbrev CLK_LIMIT_COAST_ALARM : Fld := ⟨0x10018, 0, 16⟩
abbrev CLK_BAND_BAND_IDX : Fld := ⟨0x10020, 0, 5⟩
abbrev CLK_BAND_BAND_CODE : Fld := ⟨0x10020, 8, 6⟩
abbrev CLK_BAND_BAND_SAVE : Fld := ⟨0x10020, 14, 1⟩
abbrev CLK_BAND_VALID : Fld := ⟨0x10020, 15, 1⟩
abbrev CLK_BAND_LEARN_TEMP : Fld := ⟨0x10020, 16, 8⟩
abbrev CLK_BAND_SEED_HOLD_SEED : Fld := ⟨0x10024, 0, 20⟩
abbrev CLK_DIST_TREE_K : Fld := ⟨0x10030, 0, 8⟩
abbrev CLK_DIST_TREE_VB : Fld := ⟨0x10030, 8, 4⟩
abbrev CLK_DIST_ABSENT_K : Fld := ⟨0x10030, 12, 8⟩
abbrev CLK_DIST_ABSENT_VB : Fld := ⟨0x10030, 20, 4⟩
abbrev CLK_CFG_MODE_BUFFERED : Fld := ⟨0x1003C, 0, 1⟩
abbrev CLK_LOSS_CNT_LOSS_COUNT : Fld := ⟨0x10040, 0, 16⟩
abbrev CLK_LOSS_CNT_RELOCK_COUNT : Fld := ⟨0x10040, 16, 16⟩
abbrev TB_CTRL_ARM : Fld := ⟨0x10100, 0, 1⟩
abbrev TB_CTRL_LOAD_NOW : Fld := ⟨0x10100, 1, 1⟩
abbrev TB_STAT_COUNTING : Fld := ⟨0x10104, 0, 1⟩
abbrev TB_STAT_HALTED : Fld := ⟨0x10104, 1, 1⟩
abbrev TB_STAT_STARTER_SEEN : Fld := ⟨0x10104, 8, 1⟩
abbrev TB_STAT_STARTER_EXTRA : Fld := ⟨0x10104, 9, 1⟩
abbrev TB_STAT_START_PHASE : Fld := ⟨0x10104, 16, 9⟩
abbrev TB_STAT_TB_ALIGN : Fld := ⟨0x10104, 25, 7⟩
abbrev TB_LOW_TB_LOW : Fld := ⟨0x10108, 0, 32⟩
abbrev TB_HALT_HALT_COUNT : Fld := ⟨0x1010C, 0, 16⟩
abbrev TB_GAP_GAP_US : Fld := ⟨0x10110, 0, 32⟩
abbrev CRS_SEL_ENTRY : Fld := ⟨0x28000, 0, 16⟩
abbrev CRS_SEL_SQ : Fld := ⟨0x28000, 16, 3⟩
abbrev CRS_D_WORD (i : Nat) : Fld := ⟨0x28004 + 0x4 * i, 0, 32⟩
abbrev CRS_CMD_READ : Fld := ⟨0x28024, 0, 1⟩
abbrev CRS_CMD_WRITE : Fld := ⟨0x28024, 1, 1⟩
abbrev CRS_CMD_AUTO_INC : Fld := ⟨0x28024, 2, 1⟩
abbrev CRS_CMD_STATUS : Fld := ⟨0x28024, 8, 8⟩
abbrev CRS_CMD_BUSY : Fld := ⟨0x28024, 16, 1⟩
abbrev SEQ_ECC_CORR_COUNT : Fld := ⟨0x28030, 0, 16⟩
abbrev SEQ_ECC_UNCORR : Fld := ⟨0x28030, 16, 1⟩
abbrev SEQ_ECC_UNCORR_SQ : Fld := ⟨0x28030, 17, 3⟩
abbrev SEGD_SEL_SEG : Fld := ⟨0x28040, 0, 16⟩
abbrev SEGD_D_WORD (i : Nat) : Fld := ⟨0x28044 + 0x4 * i, 0, 32⟩
abbrev SEGD_CMD_READ : Fld := ⟨0x28054, 0, 1⟩
abbrev SEGD_CMD_SET_READY : Fld := ⟨0x28054, 1, 1⟩
abbrev SEGD_CMD_CLR_READY : Fld := ⟨0x28054, 2, 1⟩
abbrev SEGD_CMD_STATUS : Fld := ⟨0x28054, 8, 8⟩
abbrev SEGD_CMD_BUSY : Fld := ⟨0x28054, 16, 1⟩
abbrev SEGW_SEG_SEG : Fld := ⟨0x28080, 0, 16⟩
abbrev SEGW_OFS_WORD_OFS : Fld := ⟨0x28084, 0, 32⟩
abbrev SEGW_DATA_DATA : Fld := ⟨0x28088, 0, 32⟩
abbrev SEGW_STAT_LAST_STATUS : Fld := ⟨0x2808C, 0, 8⟩
abbrev SEGW_STAT_ACTIVE_HIT : Fld := ⟨0x2808C, 8, 1⟩
abbrev SEGW_STAT_RANGE_HIT : Fld := ⟨0x2808C, 9, 1⟩
abbrev SEGW_STAT_ACTIVE_COUNT : Fld := ⟨0x2808C, 16, 16⟩
abbrev SEQ_CTRL_START : Fld := ⟨0x20000, 0, 1⟩
abbrev SEQ_CTRL_PAUSE : Fld := ⟨0x20000, 1, 1⟩
abbrev SEQ_CTRL_RESUME : Fld := ⟨0x20000, 2, 1⟩
abbrev SEQ_CTRL_ABORT : Fld := ⟨0x20000, 3, 1⟩
abbrev SEQ_CTRL_START_SRC : Fld := ⟨0x20000, 4, 2⟩
abbrev SEQ_CTRL_RESUME_SRC : Fld := ⟨0x20000, 6, 2⟩
abbrev SEQ_CTRL_PAUSE_OUT : Fld := ⟨0x20000, 8, 1⟩
abbrev SEQ_CTRL_STATUS : Fld := ⟨0x20000, 16, 8⟩
abbrev SEQ_STAT_HEAT : Fld := ⟨0x20004, 0, 3⟩
abbrev SEQ_STAT_RUN_MASK : Fld := ⟨0x20004, 8, 8⟩
abbrev SEQ_STAT_HEAT_MASK : Fld := ⟨0x20004, 16, 8⟩
abbrev SEQ_STAT_HEAT_END : Fld := ⟨0x20004, 24, 1⟩
abbrev SEQ_CFG_MODE_BUFFERED : Fld := ⟨0x2003C, 0, 1⟩
abbrev SQ_STAT_STATE (n : Nat) : Fld := ⟨0x20100 + 0x40 * n, 0, 3⟩
abbrev SQ_STAT_HELD (n : Nat) : Fld := ⟨0x20100 + 0x40 * n, 3, 1⟩
abbrev SQ_STAT_PENDING (n : Nat) : Fld := ⟨0x20100 + 0x40 * n, 4, 1⟩
abbrev SQ_STAT_ZONE (n : Nat) : Fld := ⟨0x20100 + 0x40 * n, 5, 1⟩
abbrev SQ_STAT_FAULT (n : Nat) : Fld := ⟨0x20100 + 0x40 * n, 6, 1⟩
abbrev SQ_STAT_ENTRY (n : Nat) : Fld := ⟨0x20100 + 0x40 * n, 16, 16⟩
abbrev SQ_POS_LAP (n : Nat) : Fld := ⟨0x20104 + 0x40 * n, 0, 24⟩
abbrev SQ_POS_EXT (n : Nat) : Fld := ⟨0x20104 + 0x40 * n, 24, 8⟩
abbrev SQ_FLAGS_SHORTFALL (n : Nat) : Fld := ⟨0x20108 + 0x40 * n, 0, 1⟩
abbrev SQ_FLAGS_FALLBACK (n : Nat) : Fld := ⟨0x20108 + 0x40 * n, 1, 1⟩
abbrev SQ_FLAGS_HOLD_SEEN (n : Nat) : Fld := ⟨0x20108 + 0x40 * n, 2, 1⟩
abbrev SQ_FLAGS_UNDERRUN (n : Nat) : Fld := ⟨0x20108 + 0x40 * n, 3, 1⟩
abbrev SQ_FLAGS_CMD_REFUSED (n : Nat) : Fld := ⟨0x20108 + 0x40 * n, 4, 1⟩
abbrev SQ_FLAGS_LATCH_MERGE (n : Nat) : Fld := ⟨0x20108 + 0x40 * n, 5, 1⟩
abbrev SQ_CNT_SHORT_COUNT (n : Nat) : Fld := ⟨0x2010C + 0x40 * n, 0, 16⟩
abbrev SQ_CNT_MERGE_COUNT (n : Nat) : Fld := ⟨0x2010C + 0x40 * n, 16, 16⟩
abbrev SQ_LATCH_LO_LATCH (n : Nat) : Fld := ⟨0x20110 + 0x40 * n, 0, 32⟩
abbrev SQ_LATCH_HI_LATCH (n : Nat) : Fld := ⟨0x20114 + 0x40 * n, 0, 32⟩
abbrev SQ_HOLD_LIMIT_LIMIT16 (n : Nat) : Fld := ⟨0x20118 + 0x40 * n, 0, 24⟩
abbrev SQ_START_ENTRY (n : Nat) : Fld := ⟨0x2011C + 0x40 * n, 0, 16⟩
abbrev SQ_CMDQ_WR_WORD (n : Nat) : Fld := ⟨0x20120 + 0x40 * n, 0, 32⟩
abbrev SQ_CMDQ_LVL_LEVEL (n : Nat) : Fld := ⟨0x20124 + 0x40 * n, 0, 6⟩
abbrev SQ_CMDQ_LVL_MARK (n : Nat) : Fld := ⟨0x20124 + 0x40 * n, 8, 6⟩
abbrev SQ_CMDQ_LVL_XING (n : Nat) : Fld := ⟨0x20124 + 0x40 * n, 16, 1⟩
abbrev SQ_CMDQ_LVL_XING_COUNT (n : Nat) : Fld := ⟨0x20124 + 0x40 * n, 24, 8⟩
abbrev SQ_CMD_DONE_OPCODE (n : Nat) : Fld := ⟨0x20128 + 0x40 * n, 0, 8⟩
abbrev SQ_CMD_DONE_STATUS (n : Nat) : Fld := ⟨0x20128 + 0x40 * n, 8, 8⟩
abbrev SQ_CMD_DONE_TAG (n : Nat) : Fld := ⟨0x20128 + 0x40 * n, 16, 16⟩
abbrev EVT_STAT_LOST : Fld := ⟨0x30000, 0, 1⟩
abbrev EVT_STAT_SW_IGN : Fld := ⟨0x30000, 1, 1⟩
abbrev EVT_STAT_ALARM_SKIP : Fld := ⟨0x30000, 2, 1⟩
abbrev EVT_STAT_RANGE_ERR : Fld := ⟨0x30000, 3, 1⟩
abbrev EVT_STAT_EDGE_MERGE : Fld := ⟨0x30000, 16, 16⟩
abbrev EVT_SW_PULSE_LO_PULSE : Fld := ⟨0x30010, 0, 32⟩
abbrev EVT_SW_PULSE_HI_PULSE : Fld := ⟨0x30014, 0, 32⟩
abbrev EVT_SW_LEVEL_LO_LEVEL : Fld := ⟨0x30018, 0, 32⟩
abbrev EVT_SW_LEVEL_HI_LEVEL : Fld := ⟨0x3001C, 0, 32⟩
abbrev EVT_CFG_MODE_BUFFERED : Fld := ⟨0x3003C, 0, 1⟩
abbrev EVQ_RD_WORD : Fld := ⟨0x30040, 0, 32⟩
abbrev EVQ_LVL_LEVEL : Fld := ⟨0x30044, 0, 13⟩
abbrev EVQ_LVL_MARK : Fld := ⟨0x30044, 16, 13⟩
abbrev EVQ_LVL_XING : Fld := ⟨0x30044, 29, 1⟩
abbrev EVQ_LOST_LOST_COUNT : Fld := ⟨0x30048, 0, 16⟩
abbrev EVQ_LOST_XING_COUNT : Fld := ⟨0x30048, 16, 8⟩
abbrev EVT_ALARM_CTRL_EN : Fld := ⟨0x30080, 0, 8⟩
abbrev EVT_APER_PERIOD (a : Nat) : Fld := ⟨0x300A0 + 0x4 * a, 0, 32⟩
abbrev EVT_MAP_SRC (n : Nat) : Fld := ⟨0x30100 + 0x4 * n, 0, 8⟩
abbrev EVT_MAP_KIND (n : Nat) : Fld := ⟨0x30100 + 0x4 * n, 8, 1⟩
abbrev EVT_MAP_ROUTE (n : Nat) : Fld := ⟨0x30100 + 0x4 * n, 16, 8⟩
abbrev EVT_TI_CFG_FILT (m : Nat) : Fld := ⟨0x30200 + 0x4 * m, 0, 4⟩
abbrev EVT_TI_CFG_INVERT (m : Nat) : Fld := ⟨0x30200 + 0x4 * m, 4, 1⟩
abbrev EVT_TI_CFG_EDGE (m : Nat) : Fld := ⟨0x30200 + 0x4 * m, 5, 2⟩
abbrev EVT_TI_CFG_STAMP (m : Nat) : Fld := ⟨0x30200 + 0x4 * m, 7, 1⟩
abbrev PN_CFG_MODE (n : Nat) : Fld := ⟨0x30400 + 0x10 * n, 0, 2⟩
abbrev PN_CFG_OWNER (n : Nat) : Fld := ⟨0x30400 + 0x10 * n, 2, 3⟩
abbrev PN_CFG_EVSRC (n : Nat) : Fld := ⟨0x30400 + 0x10 * n, 5, 6⟩
abbrev PN_CFG_FIRE_COUNT (n : Nat) : Fld := ⟨0x30400 + 0x10 * n, 16, 8⟩
abbrev PN_CFG_MERGE_COUNT (n : Nat) : Fld := ⟨0x30400 + 0x10 * n, 24, 8⟩
abbrev PN_TIME_WIDTH (n : Nat) : Fld := ⟨0x30404 + 0x10 * n, 0, 8⟩
abbrev PN_TIME_DELAY (n : Nat) : Fld := ⟨0x30404 + 0x10 * n, 8, 8⟩
abbrev PN_TIME_PHASE (n : Nat) : Fld := ⟨0x30404 + 0x10 * n, 16, 9⟩
abbrev PN_TIME_POL (n : Nat) : Fld := ⟨0x30404 + 0x10 * n, 25, 1⟩
abbrev PN_TRIM_TRIM (n : Nat) : Fld := ⟨0x30408 + 0x10 * n, 0, 13⟩
abbrev PLAN_CTRL_LOAD : Fld := ⟨0x40000, 0, 1⟩
abbrev PLAN_CTRL_UNLOAD : Fld := ⟨0x40000, 1, 1⟩
abbrev PLAN_STAT_PHASE : Fld := ⟨0x40004, 0, 2⟩
abbrev PLAN_STAT_BUSY : Fld := ⟨0x40004, 2, 1⟩
abbrev PLAN_STAT_PRESENT : Fld := ⟨0x40004, 3, 1⟩
abbrev PLAN_STAT_STATUS : Fld := ⟨0x40004, 8, 8⟩
abbrev PLAN_STAT_LOADED : Fld := ⟨0x40004, 16, 1⟩
abbrev PLAN_STAT_REFUSED : Fld := ⟨0x40004, 17, 1⟩
abbrev PLAN_STAT_WRITE_FAIL : Fld := ⟨0x40004, 18, 1⟩
abbrev PLAN_ERR_STATUS : Fld := ⟨0x40008, 0, 8⟩
abbrev PLAN_ERR_STEP : Fld := ⟨0x40008, 8, 4⟩
abbrev PLAN_ERR_SECTION : Fld := ⟨0x40008, 16, 16⟩
abbrev PLAN_ERR_POS_ENTRY : Fld := ⟨0x4000C, 0, 16⟩
abbrev PLAN_ERR_POS_SQ : Fld := ⟨0x4000C, 16, 3⟩
abbrev PLAN_ERR_POS_POS_VALID : Fld := ⟨0x4000C, 19, 1⟩
abbrev PLAN_LEN_LEN : Fld := ⟨0x40010, 0, 32⟩
abbrev PLAN_INFO_PLAN_N : Fld := ⟨0x40014, 0, 7⟩
abbrev PLAN_INFO_SW_START : Fld := ⟨0x40014, 7, 1⟩
abbrev PLAN_INFO_TL_ROWS : Fld := ⟨0x40014, 8, 9⟩
abbrev PLAN_INFO_LOOKAHEAD16 : Fld := ⟨0x40014, 17, 8⟩
abbrev PLAN_TL_ROW : Fld := ⟨0x40018, 0, 8⟩
abbrev PLAN_TL_FREE : Fld := ⟨0x40018, 8, 1⟩
abbrev PLAN_YIELD_YIELD_COUNT : Fld := ⟨0x40020, 0, 16⟩
abbrev FC_CFG_BW (n : Nat) : Fld := ⟨0x80000 + 0x400 * n, 0, 1⟩
abbrev FC_CFG_DEM (n : Nat) : Fld := ⟨0x80000 + 0x400 * n, 1, 2⟩
abbrev FC_CFG_STRB_GRP (n : Nat) : Fld := ⟨0x80000 + 0x400 * n, 4, 4⟩
abbrev FC_CFG_PROF_ON_STROBE (n : Nat) : Fld := ⟨0x80000 + 0x400 * n, 8, 1⟩
abbrev FC_STAT_FORMAT (n : Nat) : Fld := ⟨0x80004 + 0x400 * n, 0, 3⟩
abbrev FC_STAT_PROF (n : Nat) : Fld := ⟨0x80004 + 0x400 * n, 3, 6⟩
abbrev FC_STAT_RULE (n : Nat) : Fld := ⟨0x80004 + 0x400 * n, 9, 1⟩
abbrev FC_STAT_AT_REST (n : Nat) : Fld := ⟨0x80004 + 0x400 * n, 10, 1⟩
abbrev FC_STAT_ON_HOLD (n : Nat) : Fld := ⟨0x80004 + 0x400 * n, 11, 1⟩
abbrev FC_STAT_SAT (n : Nat) : Fld := ⟨0x80004 + 0x400 * n, 16, 1⟩
abbrev FC_STAT_INTERP_SAT (n : Nat) : Fld := ⟨0x80004 + 0x400 * n, 17, 1⟩
abbrev FC_STAT_HOP_DROP (n : Nat) : Fld := ⟨0x80004 + 0x400 * n, 18, 1⟩
abbrev FC_STAT_RB_FAIL (n : Nat) : Fld := ⟨0x80004 + 0x400 * n, 19, 1⟩
abbrev FC_STAT_RANGE_ERR (n : Nat) : Fld := ⟨0x80004 + 0x400 * n, 20, 1⟩
abbrev FC_STAT_CAL_DONE (n : Nat) : Fld := ⟨0x80004 + 0x400 * n, 21, 1⟩
abbrev FC_GAIN_GAIN (n : Nat) : Fld := ⟨0x80008 + 0x400 * n, 0, 18⟩
abbrev FC_OFS_OFFSET (n : Nat) : Fld := ⟨0x8000C + 0x400 * n, 0, 20⟩
abbrev FC_DLY_TRIM (n : Nat) : Fld := ⟨0x80010 + 0x400 * n, 0, 13⟩
abbrev FC_HOP_EVT (n : Nat) : Fld := ⟨0x80014 + 0x400 * n, 0, 6⟩
abbrev FC_HOP_EN (n : Nat) : Fld := ⟨0x80014 + 0x400 * n, 6, 1⟩
abbrev FC_HOP_PHASE (n : Nat) : Fld := ⟨0x80014 + 0x400 * n, 7, 1⟩
abbrev FC_HOP_PROF (n : Nat) : Fld := ⟨0x80014 + 0x400 * n, 8, 6⟩
abbrev FC_PSEL_PROF (n : Nat) : Fld := ⟨0x80018 + 0x400 * n, 0, 6⟩
abbrev FC_PPHASE_POFS (n : Nat) : Fld := ⟨0x8001C + 0x400 * n, 0, 32⟩
abbrev FC_PAMP_AMP (n : Nat) : Fld := ⟨0x80020 + 0x400 * n, 0, 20⟩
abbrev FC_PCMD_READ (n : Nat) : Fld := ⟨0x80024 + 0x400 * n, 0, 1⟩
abbrev FC_PCMD_WRITE (n : Nat) : Fld := ⟨0x80024 + 0x400 * n, 1, 1⟩
abbrev FC_PCMD_STATUS (n : Nat) : Fld := ⟨0x80024 + 0x400 * n, 8, 8⟩
abbrev FC_PCMD_BUSY (n : Nat) : Fld := ⟨0x80024 + 0x400 * n, 16, 1⟩
abbrev FC_CAL_RUN (n : Nat) : Fld := ⟨0x80028 + 0x400 * n, 0, 1⟩
abbrev FC_CAL_SAVE (n : Nat) : Fld := ⟨0x80028 + 0x400 * n, 1, 1⟩
abbrev FC_CAL_STATUS (n : Nat) : Fld := ⟨0x80028 + 0x400 * n, 8, 8⟩
abbrev FC_CAL_BUSY (n : Nat) : Fld := ⟨0x80028 + 0x400 * n, 16, 1⟩
abbrev FC_CALRES_TRIM_G (n : Nat) : Fld := ⟨0x8002C + 0x400 * n, 0, 16⟩
abbrev FC_CALRES_TRIM_O (n : Nat) : Fld := ⟨0x8002C + 0x400 * n, 16, 16⟩
abbrev FC_RB_RUN (n : Nat) : Fld := ⟨0x80030 + 0x400 * n, 0, 1⟩
abbrev FC_RB_PASS (n : Nat) : Fld := ⟨0x80030 + 0x400 * n, 1, 1⟩
abbrev FC_RB_STATUS (n : Nat) : Fld := ⟨0x80030 + 0x400 * n, 8, 8⟩
abbrev FC_RB_BUSY (n : Nat) : Fld := ⟨0x80030 + 0x400 * n, 16, 1⟩
abbrev FC_RB_VAL_CODE (n : Nat) : Fld := ⟨0x80034 + 0x400 * n, 0, 20⟩
abbrev FC_CNT_SAT_COUNT (n : Nat) : Fld := ⟨0x80038 + 0x400 * n, 0, 16⟩
abbrev FC_CNT_ISAT_COUNT (n : Nat) : Fld := ⟨0x80038 + 0x400 * n, 16, 16⟩
abbrev FC_CFG_MODE_BUFFERED (n : Nat) : Fld := ⟨0x8003C + 0x400 * n, 0, 1⟩
abbrev FC_RB_TOL_TOL (n : Nat) : Fld := ⟨0x80040 + 0x400 * n, 0, 16⟩
abbrev VP_CFG_DRV_POS (n : Nat) : Fld := ⟨0x90000 + 0x100 * n, 0, 6⟩
abbrev VP_CFG_STB_POS (n : Nat) : Fld := ⟨0x90000 + 0x100 * n, 8, 9⟩
abbrev VP_CFG_CAPT (n : Nat) : Fld := ⟨0x90000 + 0x100 * n, 20, 1⟩
abbrev VP_CFG_CAPT1_LO (n : Nat) : Fld := ⟨0x90000 + 0x100 * n, 21, 1⟩
abbrev VP_LVL_VDL (n : Nat) : Fld := ⟨0x90004 + 0x100 * n, 0, 12⟩
abbrev VP_LVL_VDH (n : Nat) : Fld := ⟨0x90004 + 0x100 * n, 16, 12⟩
abbrev VP_VTH_VTH_LO (n : Nat) : Fld := ⟨0x90008 + 0x100 * n, 0, 12⟩
abbrev VP_VTH_VTH_HI (n : Nat) : Fld := ⟨0x90008 + 0x100 * n, 16, 12⟩
abbrev VP_DRV_TRIM_TRIM (n : Nat) : Fld := ⟨0x9000C + 0x100 * n, 0, 13⟩
abbrev VP_STB_TRIM_TRIM (n : Nat) : Fld := ⟨0x90010 + 0x100 * n, 0, 13⟩
abbrev VP_STAT_DRIVE (n : Nat) : Fld := ⟨0x90014 + 0x100 * n, 0, 2⟩
abbrev VP_STAT_COMP (n : Nat) : Fld := ⟨0x90014 + 0x100 * n, 2, 2⟩
abbrev VP_STAT_AT_REST (n : Nat) : Fld := ⟨0x90014 + 0x100 * n, 4, 1⟩
abbrev VP_STAT_ON_HOLD (n : Nat) : Fld := ⟨0x90014 + 0x100 * n, 5, 1⟩
abbrev VP_STAT_RANGE_ERR (n : Nat) : Fld := ⟨0x90014 + 0x100 * n, 16, 1⟩
abbrev VP_STAT_FAIL (n : Nat) : Fld := ⟨0x90014 + 0x100 * n, 17, 1⟩
abbrev VP_FCNT_FAILS (n : Nat) : Fld := ⟨0x90018 + 0x100 * n, 0, 32⟩
abbrev VB_CFG_CAPT_ON (b : Nat) : Fld := ⟨0x98000 + 0x40 * b, 0, 1⟩
abbrev VB_CFG_CAPT_2BIT (b : Nat) : Fld := ⟨0x98000 + 0x40 * b, 1, 1⟩
abbrev VB_CFG_FL_ON (b : Nat) : Fld := ⟨0x98000 + 0x40 * b, 2, 1⟩
abbrev VB_CFG_CAPT_SQ (b : Nat) : Fld := ⟨0x98000 + 0x40 * b, 4, 3⟩
abbrev VB_CFG_STRB_GRP (b : Nat) : Fld := ⟨0x98000 + 0x40 * b, 8, 4⟩
abbrev VB_STAT_OWNERS (b : Nat) : Fld := ⟨0x98004 + 0x40 * b, 0, 8⟩
abbrev VB_STAT_FAIL (b : Nat) : Fld := ⟨0x98004 + 0x40 * b, 16, 1⟩
abbrev VB_CFG_MODE_BUFFERED (b : Nat) : Fld := ⟨0x9803C + 0x40 * b, 0, 1⟩
abbrev CAPT_CTRL_OUTBOUND : Fld := ⟨0xA0000, 0, 1⟩
abbrev CAPT_CTRL_FOLLOWER_RUN : Fld := ⟨0xA0000, 1, 1⟩
abbrev CAPT_CTRL_STRB_GRP : Fld := ⟨0xA0000, 4, 4⟩
abbrev CAPT_STAT_FL_DROP : Fld := ⟨0xA0004, 0, 1⟩
abbrev CAPT_STAT_CAPT_LOST : Fld := ⟨0xA0004, 1, 1⟩
abbrev CAPT_STAT_RING_BAD : Fld := ⟨0xA0004, 2, 1⟩
abbrev CAPT_STAT_RANGE_ERR : Fld := ⟨0xA0004, 3, 1⟩
abbrev CAPT_FLMASK_MASK (b : Nat) : Fld := ⟨0xA0010 + 0x4 * b, 0, 32⟩
abbrev CAPT_CFG_MODE_BUFFERED : Fld := ⟨0xA003C, 0, 1⟩
abbrev CAPQ_RD_WORD : Fld := ⟨0xA0040, 0, 32⟩
abbrev CAPQ_LVL_LEVEL : Fld := ⟨0xA0044, 0, 14⟩
abbrev CAPQ_LVL_MARK : Fld := ⟨0xA0044, 16, 14⟩
abbrev CAPQ_LVL_XING : Fld := ⟨0xA0044, 30, 1⟩
abbrev CAPQ_CNT_CORR_COUNT : Fld := ⟨0xA0048, 0, 16⟩
abbrev CAPQ_CNT_XING_COUNT : Fld := ⟨0xA0048, 16, 8⟩
abbrev CAPT_FLDROP_DROPPED (b : Nat) : Fld := ⟨0xA0050 + 0x4 * b, 0, 32⟩
abbrev CAPT_RING_SIZE_SIZE (b : Nat) : Fld := ⟨0xA0100 + 0x20 * b, 0, 32⟩
abbrev CAPT_RING_WR_WR (b : Nat) : Fld := ⟨0xA0104 + 0x20 * b, 0, 32⟩
abbrev CAPT_RING_RD_RD (b : Nat) : Fld := ⟨0xA0108 + 0x20 * b, 0, 32⟩
abbrev CAPT_RING_LVL_LEVEL (b : Nat) : Fld := ⟨0xA010C + 0x20 * b, 0, 32⟩
abbrev CAPT_RING_MARK_MARK (b : Nat) : Fld := ⟨0xA0110 + 0x20 * b, 0, 32⟩
abbrev CAPT_RING_FLAGS_XING (b : Nat) : Fld := ⟨0xA0114 + 0x20 * b, 0, 1⟩
abbrev CAPT_RING_FLAGS_LOST (b : Nat) : Fld := ⟨0xA0114 + 0x20 * b, 1, 1⟩
abbrev CAPT_RING_FLAGS_XING_COUNT (b : Nat) : Fld := ⟨0xA0114 + 0x20 * b, 8, 8⟩
abbrev CAPT_RING_LOST_LOST_TICKS (b : Nat) : Fld := ⟨0xA0118 + 0x20 * b, 0, 32⟩
abbrev TRK_STAT_AWAKE : Fld := ⟨0xC0000, 0, 10⟩
abbrev TRK_STAT_WR_LOST : Fld := ⟨0xC0000, 16, 1⟩
abbrev TRK_STAT_RET_HIT : Fld := ⟨0xC0000, 17, 1⟩
abbrev TRK_RET_IDLE_US : Fld := ⟨0xC0004, 0, 20⟩
abbrev TRK_RET_EN : Fld := ⟨0xC0004, 20, 1⟩
abbrev TRK_LOST_LOST_COUNT : Fld := ⟨0xC0008, 0, 32⟩
abbrev TRK_CONF_WAITS (m : Nat) : Fld := ⟨0xC0010 + 0x4 * m, 0, 32⟩
abbrev TRK_CFG_MODE_BUFFERED : Fld := ⟨0xC003C, 0, 1⟩
abbrev TRK_RETMAP_RET (w : Nat) : Fld := ⟨0xC0040 + 0x4 * w, 0, 32⟩
abbrev TRK_WADDR_WORD : Fld := ⟨0xC0080, 0, 26⟩
abbrev TRK_WDATA_DATA : Fld := ⟨0xC0084, 0, 32⟩
abbrev TRK_WSTAT_LAST_STATUS : Fld := ⟨0xC0088, 0, 8⟩
abbrev TRK_WSTAT_ACTIVE_HIT : Fld := ⟨0xC0088, 8, 1⟩
abbrev TRK_WSTAT_ACTIVE_COUNT : Fld := ⟨0xC0088, 16, 16⟩
abbrev DRAM_STAT_TRAINED : Fld := ⟨0xB0000, 0, 8⟩
abbrev DRAM_STAT_FENCED : Fld := ⟨0xB0000, 8, 8⟩
abbrev DRAM_STAT_SELF_REF : Fld := ⟨0xB0000, 16, 8⟩
abbrev DRAM_STAT_RETRAINING : Fld := ⟨0xB0000, 24, 8⟩
abbrev DRAM_CFG_CH_EN : Fld := ⟨0xB0004, 0, 8⟩
abbrev DRAM_CFG_MAP_ORDER : Fld := ⟨0xB0004, 8, 8⟩
abbrev DRAM_CFG_RES_GIB : Fld := ⟨0xB0004, 16, 5⟩
abbrev DRAM_CFG_RES_MIRROR : Fld := ⟨0xB0004, 21, 1⟩
abbrev DRAM_CFG_CH_SIZE : Fld := ⟨0xB0004, 22, 2⟩
abbrev DRAM_CFG_MAPPED : Fld := ⟨0xB0004, 24, 8⟩
abbrev DRAM_TRAIN_RATE : Fld := ⟨0xB0008, 0, 3⟩
abbrev DRAM_TRAIN_CH : Fld := ⟨0xB0008, 4, 3⟩
abbrev DRAM_TRAIN_TRAIN : Fld := ⟨0xB0008, 8, 1⟩
abbrev DRAM_TRAIN_RETRAIN : Fld := ⟨0xB0008, 9, 1⟩
abbrev DRAM_TRAIN_UNFENCE : Fld := ⟨0xB0008, 10, 1⟩
abbrev DRAM_TRAIN_SAVE : Fld := ⟨0xB0008, 11, 1⟩
abbrev DRAM_TRAIN_STATUS : Fld := ⟨0xB0008, 16, 8⟩
abbrev DRAM_TRAIN_BUSY : Fld := ⟨0xB0008, 24, 1⟩
abbrev DRAM_PANIC_MARK : Fld := ⟨0xB000C, 0, 6⟩
abbrev DRAM_REF_POST_MAX : Fld := ⟨0xB0010, 0, 4⟩
abbrev DRAM_TEMP_MULT : Fld := ⟨0xB0014, 0, 16⟩
abbrev DRAM_SR_IDLE_US : Fld := ⟨0xB0018, 0, 20⟩
abbrev DRAM_FLAGS_PANIC_SEEN : Fld := ⟨0xB001C, 0, 1⟩
abbrev DRAM_FLAGS_REF_FORCED : Fld := ⟨0xB001C, 1, 1⟩
abbrev DRAM_FLAGS_FENCE_EV : Fld := ⟨0xB001C, 2, 1⟩
abbrev DRAM_FLAGS_HOT : Fld := ⟨0xB001C, 3, 1⟩
abbrev DRAM_FLAGS_FENCE_HIT : Fld := ⟨0xB001C, 4, 1⟩
abbrev DRAM_FLAGS_RANGE_ERR : Fld := ⟨0xB001C, 5, 1⟩
abbrev DRAM_CNT_PANIC_COUNT : Fld := ⟨0xB0020, 0, 16⟩
abbrev DRAM_CNT_FORCED_COUNT : Fld := ⟨0xB0020, 16, 16⟩
abbrev DRAM_RETRAIN_RETRAIN_COUNT : Fld := ⟨0xB0024, 0, 16⟩
abbrev DRAM_RETRAIN_LKG_COUNT : Fld := ⟨0xB0024, 16, 16⟩
abbrev DRAM_ECC_CORR_COUNT : Fld := ⟨0xB0028, 0, 16⟩
abbrev DRAM_ECC_UNCORR : Fld := ⟨0xB0028, 16, 1⟩
abbrev DRAM_CFG_MODE_BUFFERED : Fld := ⟨0xB003C, 0, 1⟩
abbrev DRAM_PORT_LEAD (n : Nat) : Fld := ⟨0xB0100 + 0x4 * n, 0, 16⟩
abbrev DRAM_PORT_PANIC (n : Nat) : Fld := ⟨0xB0100 + 0x4 * n, 16, 1⟩
abbrev DRAM_PORT_NO_LEAD (n : Nat) : Fld := ⟨0xB0100 + 0x4 * n, 17, 1⟩
abbrev BAT_CTRL_EN : Fld := ⟨0xD0000, 0, 1⟩
abbrev BAT_CTRL_FOLLOWER_ACK : Fld := ⟨0xD0000, 1, 1⟩
abbrev BAT_STAT_SESSIONS : Fld := ⟨0xD0004, 0, 13⟩
abbrev BAT_STAT_BP : Fld := ⟨0xD0004, 13, 1⟩
abbrev BAT_STAT_OPEN_REF : Fld := ⟨0xD0004, 16, 1⟩
abbrev BAT_STAT_SRC_DROP : Fld := ⟨0xD0004, 17, 1⟩
abbrev BAT_STAT_CRC_DROP : Fld := ⟨0xD0004, 18, 1⟩
abbrev BAT_STAT_BUF_DROP : Fld := ⟨0xD0004, 19, 1⟩
abbrev BAT_STAT_NACK : Fld := ⟨0xD0004, 20, 1⟩
abbrev BAT_STAT_QREFUSED : Fld := ⟨0xD0004, 21, 1⟩
abbrev BAT_STAT_RANGE_ERR : Fld := ⟨0xD0004, 22, 1⟩
abbrev BAT_ACK_BYTES_KIB : Fld := ⟨0xD0008, 0, 8⟩
abbrev BAT_ACK_TIME_US : Fld := ⟨0xD0008, 16, 8⟩
abbrev BAT_WIN_WINDOW_KIB : Fld := ⟨0xD000C, 0, 15⟩
abbrev BAT_IDLE_IDLE_MS : Fld := ⟨0xD0010, 0, 16⟩
abbrev BAT_UDP_PORT : Fld := ⟨0xD0014, 0, 16⟩
abbrev BAT_BUF_XOFF_KIB : Fld := ⟨0xD0018, 0, 14⟩
abbrev BAT_BUF_XON_KIB : Fld := ⟨0xD0018, 16, 14⟩
abbrev BAT_OUT_OUT_PAYLOAD_KIB : Fld := ⟨0xD001C, 0, 4⟩
abbrev BAT_OUT_FLUSH_US : Fld := ⟨0xD001C, 8, 8⟩
abbrev BAT_CNT0_OPEN_REFUSED : Fld := ⟨0xD0020, 0, 12⟩
abbrev BAT_CNT0_QREF_COUNT : Fld := ⟨0xD0020, 12, 8⟩
abbrev BAT_CNT0_NACK_COUNT : Fld := ⟨0xD0020, 20, 12⟩
abbrev BAT_CNT1_SRC_DROPS : Fld := ⟨0xD0024, 0, 16⟩
abbrev BAT_CNT1_BUF_DROPS : Fld := ⟨0xD0024, 16, 16⟩
abbrev BAT_CFG_MODE_BUFFERED : Fld := ⟨0xD003C, 0, 1⟩
abbrev BATQ_WR_WORD : Fld := ⟨0xD0040, 0, 32⟩
abbrev BATQ_LVL_LEVEL : Fld := ⟨0xD0044, 0, 9⟩
abbrev BATQ_LVL_MARK : Fld := ⟨0xD0044, 16, 9⟩
abbrev BATQ_LVL_XING : Fld := ⟨0xD0044, 25, 1⟩
abbrev BATQ_CNT_CORR_COUNT : Fld := ⟨0xD0048, 0, 16⟩
abbrev BATQ_CNT_XING_COUNT : Fld := ⟨0xD0048, 16, 8⟩
abbrev BAT_QDONE_OPCODE : Fld := ⟨0xD004C, 0, 8⟩
abbrev BAT_QDONE_STATUS : Fld := ⟨0xD004C, 8, 8⟩
abbrev BAT_QDONE_TAG : Fld := ⟨0xD004C, 16, 16⟩
abbrev BAT_GSEL_SLOT : Fld := ⟨0xD0080, 0, 10⟩
abbrev BAT_GSTAT_KIND : Fld := ⟨0xD0084, 0, 2⟩
abbrev BAT_GSTAT_RANGES : Fld := ⟨0xD0084, 2, 5⟩
abbrev BAT_GSTAT_ATTACHED : Fld := ⟨0xD0084, 7, 5⟩
abbrev BAT_GSTAT_GENS : Fld := ⟨0xD0084, 16, 16⟩
abbrev BAT_GDONE_DONE_GRANULES : Fld := ⟨0xD0088, 0, 32⟩
abbrev BAT_OSTAT_DEST : Fld := ⟨0xD00C0, 0, 5⟩
abbrev BAT_OSTAT_WAITING : Fld := ⟨0xD00C0, 8, 5⟩
abbrev BAT_OCNT_FRAMES (s : Nat) : Fld := ⟨0xD00C4 + 0x4 * s, 0, 32⟩
abbrev NET_CTRL_EN (p : Nat) : Fld := ⟨0xE0000 + 0x1000 * p, 0, 1⟩
abbrev NET_CTRL_MODE (p : Nat) : Fld := ⟨0xE0000 + 0x1000 * p, 1, 2⟩
abbrev NET_CTRL_FC (p : Nat) : Fld := ⟨0xE0000 + 0x1000 * p, 3, 2⟩
abbrev NET_CTRL_ING_PRIO (p : Nat) : Fld := ⟨0xE0000 + 0x1000 * p, 5, 3⟩
abbrev NET_CTRL_CTRL_PRIO (p : Nat) : Fld := ⟨0xE0000 + 0x1000 * p, 8, 3⟩
abbrev NET_CTRL_QUANTA (p : Nat) : Fld := ⟨0xE0000 + 0x1000 * p, 16, 16⟩
abbrev NET_STAT_LINK_UP (p : Nat) : Fld := ⟨0xE0004 + 0x1000 * p, 0, 4⟩
abbrev NET_STAT_READY (p : Nat) : Fld := ⟨0xE0004 + 0x1000 * p, 4, 1⟩
abbrev NET_STAT_FCS_ERR (p : Nat) : Fld := ⟨0xE0004 + 0x1000 * p, 8, 1⟩
abbrev NET_STAT_OVERSIZE (p : Nat) : Fld := ⟨0xE0004 + 0x1000 * p, 9, 1⟩
abbrev NET_STAT_FEC_UNCORR (p : Nat) : Fld := ⟨0xE0004 + 0x1000 * p, 10, 1⟩
abbrev NET_STAT_PAUSED (p : Nat) : Fld := ⟨0xE0004 + 0x1000 * p, 11, 1⟩
abbrev NET_STAT_DROP (p : Nat) : Fld := ⟨0xE0004 + 0x1000 * p, 12, 1⟩
abbrev NET_FEC_CORR_CODEWORDS (p : Nat) : Fld := ⟨0xE0008 + 0x1000 * p, 0, 32⟩
abbrev NET_FEC_UNCORR_CODEWORDS (p : Nat) : Fld := ⟨0xE000C + 0x1000 * p, 0, 32⟩
abbrev NET_FCS_FRAMES (p : Nat) : Fld := ⟨0xE0010 + 0x1000 * p, 0, 32⟩
abbrev NET_DROP_FRAMES (p : Nat) : Fld := ⟨0xE0014 + 0x1000 * p, 0, 32⟩
abbrev NET_MC_EN_EN (p : Nat) : Fld := ⟨0xE0018 + 0x1000 * p, 0, 16⟩
abbrev NET_CFG_MODE_BUFFERED (p : Nat) : Fld := ⟨0xE003C + 0x1000 * p, 0, 1⟩
abbrev NETL_IPV4_ADDR (p : Nat) (k : Nat) : Fld := ⟨0xE0100 + 0x1000 * p + 0x20 * k, 0, 32⟩
abbrev NETL_CFG_VID (p : Nat) (k : Nat) : Fld := ⟨0xE0104 + 0x1000 * p + 0x20 * k, 0, 12⟩
abbrev NETL_CFG_VLAN_EN (p : Nat) (k : Nat) : Fld := ⟨0xE0104 + 0x1000 * p + 0x20 * k, 12, 1⟩
abbrev NETL_CFG_V4_EN (p : Nat) (k : Nat) : Fld := ⟨0xE0104 + 0x1000 * p + 0x20 * k, 13, 1⟩
abbrev NETL_CFG_V6_EN (p : Nat) (k : Nat) : Fld := ⟨0xE0104 + 0x1000 * p + 0x20 * k, 14, 1⟩
abbrev GLB_ID_DEV_TYPE : Fld := ⟨0x0, 0, 16⟩
abbrev GLB_ID_STEP : Fld := ⟨0x0, 16, 8⟩
abbrev GLB_ID_FAMILY : Fld := ⟨0x0, 24, 8⟩
abbrev GLB_KEY_KEY : Fld := ⟨0x10, 0, 32⟩
abbrev MBX_SEL_SEL : Fld := ⟨0x20, 0, 16⟩
abbrev MBX_SEL_WRITE : Fld := ⟨0x20, 16, 1⟩
abbrev MBX_STAT_VALID : Fld := ⟨0x24, 0, 1⟩
abbrev MBX_STAT_BUSY : Fld := ⟨0x24, 1, 1⟩
abbrev MBX_STAT_STATUS : Fld := ⟨0x24, 8, 8⟩
abbrev MBX_DATA_DATA (i : Nat) : Fld := ⟨0x28 + 0x4 * i, 0, 32⟩
abbrev UPD_STROBE_STROBE : Fld := ⟨0x40, 0, 16⟩
abbrev UPD_STROBE_STARTER_GRP : Fld := ⟨0x40, 16, 16⟩
abbrev ERR_ADDR_ADDR : Fld := ⟨0x50, 0, 24⟩
abbrev ERR_ADDR_KIND : Fld := ⟨0x50, 24, 4⟩
abbrev ERR_ADDR_WRITE : Fld := ⟨0x50, 28, 1⟩
abbrev ERR_ADDR_PRIV : Fld := ⟨0x50, 29, 1⟩
abbrev GLB_ERR_LOCK_VIOL : Fld := ⟨0x54, 0, 1⟩
abbrev GLB_ERR_KEY_MISS : Fld := ⟨0x54, 1, 1⟩
abbrev GLB_ERR_BUS_TIMEOUT : Fld := ⟨0x54, 2, 1⟩
abbrev GLB_ERR_SIZE_ERR : Fld := ⟨0x54, 3, 1⟩
abbrev GLB_ERR_PRIV_ERR : Fld := ⟨0x54, 4, 1⟩
abbrev GLB_ERR_QPTR_ERR : Fld := ⟨0x54, 5, 1⟩
abbrev GLB_ERR_QECC_ERR : Fld := ⟨0x54, 6, 1⟩
abbrev GLB_ERR_Q_IDX : Fld := ⟨0x54, 8, 4⟩
abbrev GLB_ERR_ERR_COUNT : Fld := ⟨0x54, 16, 16⟩
abbrev FABRIC_CTRL_LOAD : Fld := ⟨0x150000, 0, 1⟩
abbrev FABRIC_STAT_PHASE : Fld := ⟨0x150004, 0, 2⟩
abbrev FABRIC_STAT_BUSY : Fld := ⟨0x150004, 2, 1⟩
abbrev FABRIC_STAT_DEFAULT : Fld := ⟨0x150004, 3, 1⟩
abbrev FABRIC_STAT_STATUS : Fld := ⟨0x150004, 8, 8⟩
abbrev FABRIC_STAT_LOADED : Fld := ⟨0x150004, 16, 1⟩
abbrev FABRIC_STAT_REFUSED : Fld := ⟨0x150004, 17, 1⟩
abbrev FABRIC_ERR_STEP : Fld := ⟨0x150008, 0, 4⟩
abbrev FABRIC_ERR_SECTION : Fld := ⟨0x150008, 16, 16⟩
abbrev FABRIC_LEN_LEN : Fld := ⟨0x15000C, 0, 17⟩
abbrev FABRIC_UNITS_CLUSTERS : Fld := ⟨0x150010, 0, 8⟩
abbrev FABRIC_UNITS_BANKS : Fld := ⟨0x150010, 8, 4⟩
abbrev FABRIC_UNITS_OTHER : Fld := ⟨0x150010, 12, 4⟩
abbrev FABRIC_UNITS_QPRIV : Fld := ⟨0x150010, 16, 4⟩
abbrev FABRIC_FCSQ_OWN (w : Nat) : Fld := ⟨0x1500C0 + 0x4 * w, 0, 32⟩
abbrev FABRIC_VPSQ_OWN (w : Nat) : Fld := ⟨0x150040 + 0x4 * w, 0, 32⟩
abbrev FABRIC_PDGRP_GRP (w : Nat) : Fld := ⟨0x150080 + 0x4 * w, 0, 32⟩
abbrev PV_STAT_HALF : Fld := ⟨0x100000, 0, 1⟩
abbrev PV_STAT_LAST_STATUS : Fld := ⟨0x100000, 8, 8⟩
abbrev PV_STAT_PV_WORN : Fld := ⟨0x100000, 16, 1⟩
abbrev PV_STAT_RANGE_ERR : Fld := ⟨0x100000, 17, 1⟩
abbrev PV_WORN_ADDR_INDEX : Fld := ⟨0x100004, 0, 13⟩
abbrev PV_WSEL_WORD : Fld := ⟨0x100008, 0, 14⟩
abbrev OTP_ADDR_WORD : Fld := ⟨0x100010, 0, 10⟩
abbrev OTP_DATA_DATA : Fld := ⟨0x100014, 0, 32⟩
abbrev OTP_PDATA_DATA : Fld := ⟨0x100018, 0, 32⟩
abbrev OTP_CMD_PROG : Fld := ⟨0x10001C, 0, 1⟩
abbrev OTP_CMD_STATUS : Fld := ⟨0x10001C, 8, 8⟩
abbrev OTP_CMD_BUSY : Fld := ⟨0x10001C, 16, 1⟩
abbrev PV_W_WORD (i : Nat) : Fld := ⟨0x100100 + 0x4 * i, 0, 32⟩
abbrev SUP_STAT_STAGE : Fld := ⟨0x120000, 0, 4⟩
abbrev SUP_STAT_PSTATE : Fld := ⟨0x120000, 4, 2⟩
abbrev SUP_STAT_RECOVERY : Fld := ⟨0x120000, 6, 1⟩
abbrev SUP_STAT_OT_NOW : Fld := ⟨0x120000, 7, 1⟩
abbrev SUP_STAT_TRIP_NOW : Fld := ⟨0x120000, 8, 1⟩
abbrev SUP_STAT_OT_SEEN : Fld := ⟨0x120000, 16, 1⟩
abbrev SUP_STAT_TRIP : Fld := ⟨0x120000, 17, 1⟩
abbrev SUP_STAT_RB_FAIL : Fld := ⟨0x120000, 18, 1⟩
abbrev SUP_STAT_SUPPLY_ERR : Fld := ⟨0x120000, 19, 1⟩
abbrev SUP_STAT_BRIDGE : Fld := ⟨0x120000, 20, 1⟩
abbrev SUP_STAT_MGMT_FAULT : Fld := ⟨0x120000, 21, 1⟩
abbrev SUP_STAT_LOG_LOST : Fld := ⟨0x120000, 22, 1⟩
abbrev SUP_STAT_RANGE_ERR : Fld := ⟨0x120000, 23, 1⟩
abbrev SUP_RESET_WARM : Fld := ⟨0x120004, 0, 1⟩
abbrev SUP_RESET_CAUSE : Fld := ⟨0x120004, 8, 2⟩
abbrev SUP_THERM_OT_THRESH : Fld := ⟨0x120008, 0, 8⟩
abbrev SUP_THERM_OT_HYST : Fld := ⟨0x120008, 8, 8⟩
abbrev SUP_THERM_TRIP_TEMP : Fld := ⟨0x120008, 16, 8⟩
abbrev SUP_THERM_OT_COUNT : Fld := ⟨0x120008, 24, 8⟩
abbrev SUP_MON_CMD_SUPPLY_CHECK : Fld := ⟨0x12000C, 0, 1⟩
abbrev SUP_MON_CMD_PASS : Fld := ⟨0x12000C, 1, 1⟩
abbrev SUP_MON_CMD_STATUS : Fld := ⟨0x12000C, 8, 8⟩
abbrev SUP_MON_CMD_BUSY : Fld := ⟨0x12000C, 16, 1⟩
abbrev SUP_RB_FAIL_LO_FAIL : Fld := ⟨0x120010, 0, 32⟩
abbrev SUP_RB_FAIL_HI_FAIL : Fld := ⟨0x120014, 0, 32⟩
abbrev SUP_CFG_MODE_BUFFERED : Fld := ⟨0x12003C, 0, 1⟩
abbrev LOGQ_RD_WORD : Fld := ⟨0x120040, 0, 32⟩
abbrev LOGQ_LVL_LEVEL : Fld := ⟨0x120044, 0, 11⟩
abbrev LOGQ_LVL_MARK : Fld := ⟨0x120044, 16, 11⟩
abbrev LOGQ_LVL_XING : Fld := ⟨0x120044, 27, 1⟩
abbrev LOGQ_CNT_CORR_COUNT : Fld := ⟨0x120048, 0, 16⟩
abbrev LOGQ_CNT_XING_COUNT : Fld := ⟨0x120048, 16, 8⟩
abbrev LOGQ_LOST_LOST_COUNT : Fld := ⟨0x12004C, 0, 16⟩
abbrev SUP_PWR_SLEEP : Fld := ⟨0x120050, 0, 1⟩
abbrev SUP_PWR_STATUS : Fld := ⟨0x120050, 8, 8⟩
abbrev SUP_PWR_BUSY : Fld := ⟨0x120050, 16, 1⟩
abbrev SUP_DOM_CMD_DOMAIN : Fld := ⟨0x120054, 0, 6⟩
abbrev SUP_DOM_CMD_WAKE : Fld := ⟨0x120054, 8, 1⟩
abbrev SUP_DOM_CMD_SLEEP : Fld := ⟨0x120054, 9, 1⟩
abbrev SUP_DOM_CMD_STATUS : Fld := ⟨0x120054, 16, 8⟩
abbrev SUP_DOM_CMD_BUSY : Fld := ⟨0x120054, 24, 1⟩
abbrev SUP_AWAKE_LO_AWAKE : Fld := ⟨0x120058, 0, 32⟩
abbrev SUP_AWAKE_HI_AWAKE : Fld := ⟨0x12005C, 0, 32⟩
abbrev SUP_WAKE_PIN_EN : Fld := ⟨0x120060, 0, 1⟩
abbrev SUP_WAKE_TIMER_EN : Fld := ⟨0x120060, 1, 1⟩
abbrev SUP_WAKE_JTAG_EN : Fld := ⟨0x120060, 2, 1⟩
abbrev SUP_WAKE_LAST : Fld := ⟨0x120060, 8, 2⟩
abbrev SUP_WAKE_TIMER_MS : Fld := ⟨0x120064, 0, 32⟩
abbrev SUP_TEMP_TEMP (s : Nat) : Fld := ⟨0x120080 + 0x4 * s, 0, 16⟩
abbrev DBG_STAT_FROZEN : Fld := ⟨0x160000, 0, 1⟩
abbrev DBG_STAT_FRZ_PIN : Fld := ⟨0x160000, 1, 1⟩
abbrev DBG_STAT_FRZ_REG : Fld := ⟨0x160000, 2, 1⟩
abbrev DBG_STAT_RING_VALID : Fld := ⟨0x160000, 3, 1⟩
abbrev DBG_STAT_ASLEEP : Fld := ⟨0x160000, 4, 1⟩
abbrev DBG_STAT_ACC_FROZEN : Fld := ⟨0x160000, 16, 1⟩
abbrev DBG_CTRL_RELEASE : Fld := ⟨0x160004, 0, 1⟩
abbrev DBG_CTRL_STATUS : Fld := ⟨0x160004, 8, 8⟩
abbrev DBG_FREEZE_FREEZE : Fld := ⟨0x160008, 0, 1⟩
abbrev DBG_RING_ADDR_WORD : Fld := ⟨0x16000C, 0, 7⟩
abbrev DBG_RING_DATA_DATA : Fld := ⟨0x160010, 0, 32⟩
abbrev SYNC_CTRL_GRID : Fld := ⟨0x140000, 0, 1⟩
abbrev SYNC_CTRL_CAL : Fld := ⟨0x140000, 1, 1⟩
abbrev SYNC_CTRL_ALIGN : Fld := ⟨0x140000, 2, 1⟩
abbrev SYNC_CTRL_SAVE : Fld := ⟨0x140000, 3, 1⟩
abbrev SYNC_CTRL_STATUS : Fld := ⟨0x140000, 8, 8⟩
abbrev SYNC_CTRL_BUSY : Fld := ⟨0x140000, 16, 1⟩
abbrev SYNC_STAT_CAL_VALID : Fld := ⟨0x140004, 0, 1⟩
abbrev SYNC_STAT_ALIGN_VALID : Fld := ⟨0x140004, 1, 1⟩
abbrev SYNC_STAT_GRID_MISS : Fld := ⟨0x140004, 8, 1⟩
abbrev SYNC_STAT_CLAMP : Fld := ⟨0x140004, 9, 1⟩
abbrev SYNC_STAT_RET_NONE : Fld := ⟨0x140004, 10, 1⟩
abbrev SYNC_STAT_RANGE_ERR : Fld := ⟨0x140004, 11, 1⟩
abbrev SYNC_STAT_ALIGN_OOR : Fld := ⟨0x140004, 12, 1⟩
abbrev SYNC_STAT_ALIGN_IDX : Fld := ⟨0x140004, 16, 9⟩
abbrev SYNC_RT_RT : Fld := ⟨0x140008, 0, 16⟩
abbrev SYNC_RT_SPREAD : Fld := ⟨0x140008, 16, 16⟩
abbrev SYNC_DEV_OFS_OFS : Fld := ⟨0x14000C, 0, 13⟩
abbrev SYNC_START_REF_PHASE : Fld := ⟨0x140010, 0, 14⟩
abbrev SYNC_START_SLIP : Fld := ⟨0x140010, 16, 5⟩
abbrev SYNC_CNT_SLIP_COUNT : Fld := ⟨0x140014, 0, 16⟩
abbrev SYNC_CNT_CAL_COUNT : Fld := ⟨0x140014, 16, 16⟩
abbrev SYNC_ASEL_IDX : Fld := ⟨0x140018, 0, 9⟩
abbrev SYNC_ADATA_TRIM : Fld := ⟨0x14001C, 0, 16⟩
abbrev SYNC_CFG_MODE_BUFFERED : Fld := ⟨0x14003C, 0, 1⟩
abbrev MIR_CTRL_ROLE : Fld := ⟨0x130000, 0, 2⟩
abbrev MIR_CTRL_GAP : Fld := ⟨0x130000, 4, 4⟩
abbrev MIR_CTRL_AUTO_TAKE : Fld := ⟨0x130000, 8, 1⟩
abbrev MIR_CTRL_TAKEOVER : Fld := ⟨0x130000, 16, 1⟩
abbrev MIR_CTRL_BUSY : Fld := ⟨0x130000, 17, 1⟩
abbrev MIR_CTRL_STATUS : Fld := ⟨0x130000, 24, 8⟩
abbrev MIR_STAT_PAIR : Fld := ⟨0x130004, 0, 3⟩
abbrev MIR_STAT_LINK_UP : Fld := ⟨0x130004, 3, 1⟩
abbrev MIR_STAT_PEER_EN : Fld := ⟨0x130004, 4, 1⟩
abbrev MIR_STAT_OUT_EN : Fld := ⟨0x130004, 5, 1⟩
abbrev MIR_STAT_HB_NOW : Fld := ⟨0x130004, 6, 1⟩
abbrev MIR_STAT_PFAULT_NOW : Fld := ⟨0x130004, 7, 1⟩
abbrev MIR_STAT_WHY : Fld := ⟨0x130004, 8, 4⟩
abbrev MIR_STAT_DIVERGE : Fld := ⟨0x130004, 16, 1⟩
abbrev MIR_STAT_HB_LOST : Fld := ⟨0x130004, 17, 1⟩
abbrev MIR_STAT_PARTNER_FAULT : Fld := ⟨0x130004, 18, 1⟩
abbrev MIR_STAT_TAKEOVER : Fld := ⟨0x130004, 19, 1⟩
abbrev MIR_STAT_BLOCKED : Fld := ⟨0x130004, 20, 1⟩
abbrev MIR_STAT_BROKEN : Fld := ⟨0x130004, 21, 1⟩
abbrev MIR_STAT_TX_DROP : Fld := ⟨0x130004, 22, 1⟩
abbrev MIR_LAT_LAT_NS : Fld := ⟨0x130008, 0, 10⟩
abbrev MIR_LAT_LAT_TICKS : Fld := ⟨0x130008, 16, 5⟩
abbrev MIR_CNT_DIVERGE_COUNT : Fld := ⟨0x13000C, 0, 16⟩
abbrev MIR_CNT_UNCONF_COUNT : Fld := ⟨0x13000C, 16, 16⟩
abbrev MIR_ERR_CRC_COUNT : Fld := ⟨0x130010, 0, 16⟩
abbrev MIR_ERR_TAKE_COUNT : Fld := ⟨0x130010, 16, 8⟩
abbrev MIR_TX_WR_WORD : Fld := ⟨0x130040, 0, 32⟩
abbrev MIRQ_RD_WORD : Fld := ⟨0x130044, 0, 32⟩
abbrev MIRQ_LVL_LEVEL : Fld := ⟨0x130048, 0, 9⟩
abbrev MIRQ_LVL_MARK : Fld := ⟨0x130048, 16, 9⟩
abbrev MIRQ_LVL_XING : Fld := ⟨0x130048, 25, 1⟩
abbrev MIRQ_CNT_XING_COUNT : Fld := ⟨0x13004C, 0, 8⟩
abbrev MGMT_CORE_EN : Fld := ⟨0xF0000, 0, 8⟩
abbrev MGMT_IRQ_STAT_CAUSE : Fld := ⟨0xF0004, 0, 18⟩
abbrev MGMT_IRQ_EN_EN : Fld := ⟨0xF0008, 0, 18⟩
abbrev MGMT_PORT_LINK : Fld := ⟨0xF000C, 0, 1⟩
abbrev MGMT_PORT_SPEED : Fld := ⟨0xF000C, 1, 2⟩
abbrev MGMT_PORT_RX_EN : Fld := ⟨0xF000C, 3, 1⟩
abbrev MGMT_PORT_TX_EN : Fld := ⟨0xF000C, 4, 1⟩
abbrev MGMT_PORT_TX_GO : Fld := ⟨0xF000C, 5, 1⟩
abbrev MGMT_PORT_DROP_COUNT : Fld := ⟨0xF000C, 16, 16⟩
abbrev MGMT_MDIO_DATA : Fld := ⟨0xF0010, 0, 16⟩
abbrev MGMT_MDIO_REG : Fld := ⟨0xF0010, 16, 5⟩
abbrev MGMT_MDIO_PHY : Fld := ⟨0xF0010, 21, 5⟩
abbrev MGMT_MDIO_WRITE : Fld := ⟨0xF0010, 26, 1⟩
abbrev MGMT_MDIO_GO : Fld := ⟨0xF0010, 27, 1⟩
abbrev MGMT_MDIO_BUSY : Fld := ⟨0xF0010, 28, 1⟩
abbrev MGMT_IPV4_ADDR : Fld := ⟨0xF0014, 0, 32⟩
abbrev UPD_CTRL_FORWARD : Fld := ⟨0x110000, 0, 1⟩
abbrev UPD_CTRL_IDLE_S : Fld := ⟨0x110000, 8, 8⟩
abbrev UPD_STAT_STAGE : Fld := ⟨0x110004, 0, 4⟩
abbrev UPD_STAT_SLOT : Fld := ⟨0x110004, 4, 1⟩
abbrev UPD_STAT_TENTATIVE : Fld := ⟨0x110004, 5, 1⟩
abbrev UPD_STAT_TENT_COUNT : Fld := ⟨0x110004, 6, 2⟩
abbrev UPD_STAT_PREV_VALID : Fld := ⟨0x110004, 8, 1⟩
abbrev UPD_STAT_REVERTED : Fld := ⟨0x110004, 9, 1⟩
abbrev UPD_STAT_STATUS : Fld := ⟨0x110004, 16, 8⟩
abbrev UPD_STAT_STAGE_DONE : Fld := ⟨0x110004, 24, 1⟩
abbrev UPD_CMD_CONFIRM : Fld := ⟨0x110008, 0, 1⟩
abbrev UPD_CMD_REVERT : Fld := ⟨0x110008, 1, 1⟩
abbrev UPD_CMD_BREAK : Fld := ⟨0x110008, 2, 1⟩
abbrev UPD_CMD_STATUS : Fld := ⟨0x110008, 8, 8⟩
abbrev UPD_CMD_BUSY : Fld := ⟨0x110008, 16, 1⟩
abbrev UPD_LOCK_HELD : Fld := ⟨0x11000C, 0, 1⟩
abbrev UPD_LOCK_SRC : Fld := ⟨0x11000C, 1, 1⟩
abbrev UPD_LOCK_SID_SID : Fld := ⟨0x110010, 0, 32⟩
abbrev UPD_PROG_ACKED : Fld := ⟨0x110014, 0, 10⟩
abbrev UPD_PROG_TOTAL : Fld := ⟨0x110014, 16, 10⟩
abbrev UPD_DROP_FRAMES : Fld := ⟨0x110018, 0, 32⟩
abbrev UPDQ_LVL_LEVEL : Fld := ⟨0x110044, 0, 12⟩
abbrev UPDQ_LVL_MARK : Fld := ⟨0x110044, 16, 12⟩
abbrev UPDQ_LVL_XING : Fld := ⟨0x110044, 28, 1⟩
abbrev UPDQ_CNT_CORR_COUNT : Fld := ⟨0x110048, 0, 16⟩
abbrev UPDQ_CNT_XING_COUNT : Fld := ⟨0x110048, 16, 8⟩

end F

end Sys2Proof.Machine
end

