-- ==== Sys2Proof/Machine/State.lean ====
section
/-! DEFINITION. The state of the SC-9648, as plain data, and its state at power-on reset. Registers are held by byte
address in one sparse map (what an unlisted address reads as is `resetOf`, RegMap.lean); what no register shows is held
in the records below. -/

namespace Sys2Proof.Machine

/-- A queue record: 32-bit words, lowest bytes first (R291). -/
abbrev Rec := List Word

/-- One queue (R290, R291): its records, oldest first; the words of the record being written at its port; the number of
words of the head record already read. -/
structure Q where
  recs : List Rec := []
  part : List Word := []
  rd : Nat := 0
  deriving DecidableEq, Repr

/-- An empty queue. -/
def Q.empty : Q := ⟨[], [], 0⟩

/-- One access on the register bus (R274). -/
structure Access where
  a : Nat
  wr : Bool
  data : Word
  bytes : Nat
  p : Bool
  jtag : Bool
  /-- The word it takes of a protected queue is corrected, or uncorrectable (R295). -/
  corrected : Bool
  uncorr : Bool
  deriving DecidableEq, Repr

/-- The clock command in execution (R14, CLK_STAT.CMD_BUSY). -/
inductive ClkCmd where
  | idle | hop | search | hard | refSel | save
  deriving DecidableEq, Repr

/-- The relock of the main PLL in progress: by a hop (R38), a band search (R39), a hard relock by command, by REF_SEL or
by the REALIGN policy (R54, R55, R52), after a clock fault (R322), or at a wake of PD_PLL (R316). -/
inductive Relock where
  | none | hop | search | hard | refSel | realign | fault | wake
  deriving DecidableEq, Repr

/-- Clock synthesis beyond its registers. -/
structure Clk where
  /-- N to which the main PLL is locked, or from whose lock it coasts; 0 before the first lock. -/
  lockN : Nat := 0
  /-- N to which the relock in progress goes. -/
  target : Nat := 0
  /-- The command in execution. -/
  cmd : ClkCmd := .idle
  /-- The relock in progress. -/
  relock : Relock := .none
  /-- The command of the relock in progress has completed with TIMEOUT (R38, R39, R55). -/
  late : Bool := false
  /-- The relock in progress searches from cold (R37, R39). -/
  cold : Bool := false
  /-- Band memory (R36): word 2e as PV word 328 + 2e, word 2e + 1 as PV word 329 + 2e. -/
  band : Sp Word := []
  /-- The hold DAC's value. -/
  hold : Nat := 0
  /-- REALIGN policy: a hard relock is due once no sequencer runs (R52). -/
  realign : Bool := false
  /-- The returned reference is qualified and its step is being measured (R50). -/
  measuring : Bool := false
  /-- The step of the last return has been measured since the last loss (R50). -/
  measured : Bool := false
  deriving DecidableEq, Repr

/-- A stretch of the heat that is over (R84, R107): its heat ticks lie before `stop`; timebase less heat tick in it, as a preset has
moved it since and as it was; whether a pause ended it. -/
structure Stretch where
  stop : Nat
  base : Int
  stamp : Int
  pause : Bool
  deriving DecidableEq, Repr

/-- Timebase, heat clock and what is scheduled on them. -/
structure Tm where
  /-- The timebase (R44). -/
  tb : Nat := 0
  /-- The heat tick (R84). -/
  heat : Nat := 0
  /-- The pending start tick of a STARTER edge (R47). -/
  starter : Option Nat := none
  /-- The heat's start tick, once fixed (R87). -/
  startAt : Option Nat := none
  /-- The heat waits for STARTER (R87). -/
  startWait : Bool := false
  /-- START_SRC of the accepted START. -/
  startSrc : Nat := 0
  /-- The resumption tick, once fixed (R108). -/
  resAt : Option Nat := none
  /-- RESUME_SRC of the accepted RESUME. -/
  resSrc : Nat := 0
  /-- A RESUME waits for STARTER. -/
  resWait : Bool := false
  /-- The stretches of the present or last heat that are over, newest first. -/
  past : List Stretch := []
  /-- Timebase of heat tick k at the pause (R107); a preset of the timebase moves it with the present. -/
  pausedAt : Int := 0
  /-- The pause rests the outputs (PAUSE_OUT = REST, R54, R107). -/
  pauseRest : Bool := false
  /-- Alarms that have fired for their present value (R119), one bit each. -/
  fired : Nat := 0
  /-- The timebase tick up to which every fine channel on its datapath has been fed (R168): the ticks before it have gone through its
  interpolator and modulator. -/
  fed : Nat := 0
  /-- A LOAD_NOW that awaits the next tick boundary of a held timebase (R44): its value. -/
  load : Option Nat := none
  /-- The conflict counters TRK_CONF0 to 8 that may have counted since they were last looked at, one bit each: those of the readers and the
  prefetcher, which a heat sets to work (R218). -/
  conf : Nat := 0
  /-- The sequencers that stopped in the tick `stopTb`, one bit each (HEAT_END's source, R130). -/
  stops : Nat := 0
  /-- The timebase at the last stop of a sequencer. -/
  stopTb : Nat := 0
  deriving DecidableEq, Repr

/-- A continuation that a decision has selected (R92, R99–R102, R112). -/
inductive Cont where
  /-- The visit goes on: a further lap, or the rest of the lap. -/
  | go
  /-- A visit to an entry, by succession (false) or by a jump (true). -/
  | visit (e : Nat) (jump : Bool)
  /-- A stop: outputs at rest (true) or held, and the STOP record's cause (R130). -/
  | stop (rest : Bool) (cause : Nat)
  /-- A hold that awaits an entry (R102). -/
  | hold (e : Nat)
  /-- The FALLBACK outcome: the entry it goes to, or none for a stop at rest with a STOP cause; and the FALLBACK cause. -/
  | fallback (dst : Option Nat) (cause : Nat) (stopCause : Nat)
  deriving DecidableEq, Repr

/-- A decision and the heat tick at which it applies at the outputs. -/
structure Dec where
  o : Nat
  c : Cont
  deriving DecidableEq, Repr

/-- A visit (R90): its entry, its first output tick, the last boundary whose decision has been made, and the byte address in track
memory of the starting block from which its first ticks are read, if they are (R98). -/
structure Visit where
  entry : Nat
  f : Nat
  cur : Nat
  blk : Option Nat := none
  deriving DecidableEq, Repr

/-- What a visit of this heat has played: the visit, the first tick that it did not play (its end, or the start of its hold), and its
extra laps (R90, R102, R204). -/
structure Past where
  v : Visit
  stop : Nat
  ext : Nat
  deriving DecidableEq, Repr

/-- A hold (R102): where it began, the entry it awaits, its limit in ticks (0: none), whether an exit is decided. -/
structure Hold where
  o : Nat
  e : Nat
  limit : Nat
  exit : Bool
  deriving DecidableEq, Repr

/-- One sequencer beyond its registers. -/
structure Sq where
  visit : Option Visit := none
  /-- The visits before, newest first: what played at the outputs. -/
  past : List Past := []
  /-- First tick of the lap in progress. -/
  lapAt : Nat := 0
  /-- Decisions made and not yet applied, in order. -/
  next : List Dec := []
  /-- The entry pending under EXTEND (R100), and whether a jump selected it. -/
  pend : Option Nat := none
  pendJump : Bool := false
  /-- An IMMEDIATE condition of this visit has been met (R97). -/
  imm : Bool := false
  hold : Option Hold := none
  /-- A resolved hold: the resumption tick s, in which the strobes and the profile load of the continuation are still to come (R91,
  R102). -/
  prep : Option Nat := none
  /-- Starts that the shadow front end carries, one for each open exchange zone: the opportunity's tick and the target (R95, R96). -/
  shadow : List (Nat × Nat) := []
  /-- A STOP at LAP_END (1) or VISIT_END (2) waits; whether it holds the outputs; its acceptance tick. -/
  stopReq : Option (Nat × Bool × Nat) := none
  /-- Off the timeline until the heat ends (R103). -/
  off : Bool := false
  /-- Staging records (index in the plan's list) being copied, in record order (R150). -/
  loads : List Nat := []
  /-- Staging records whose refillable segment was not READY when the group was entered (R151). -/
  late : List Nat := []
  /-- The late copy in progress (R151): its staging record, and the heat tick at which it began. -/
  lateFrom : Option (Nat × Nat) := none
  /-- Staging records resident. -/
  resident : List Nat := []
  /-- Granules that the segment reader has asked for under PRI and that are still to come: output tick and channel (R140). -/
  want : List (Nat × Nat) := []
  /-- ALT work: granules of the tail of a continuation begun by a decision, still to come (R141, R142). -/
  tail : List (Nat × Nat) := []
  /-- The lead as last read in the present pause (R232). -/
  lead : Option Nat := none
  /-- Runs of missing ticks of the heat (R105): lane index, first heat tick, count. -/
  gaps : List (Nat × Nat × Nat) := []
  deriving DecidableEq, Repr

/-- A strobe's or a write's value on its way to the outputs (R189, R201): from which tick, which register, what value. -/
structure Eff where
  tick : Nat
  a : Nat
  v : Word
  deriving DecidableEq, Repr

/-- A pennant fire or pulse end (R123, R124): pennant, tick, phase, whether the tick is a heat tick (R125), and the pennant's trim
in 0.5 ps steps at its active edge (R126). -/
structure PnEv where
  pn : Nat
  tick : Nat
  phase : Nat
  heat : Bool
  trim : Int := 0
  deriving DecidableEq, Repr

/-- A profile switch on its way to the outputs (R173, R174, R189): kind 0 a visit's, 1 an event hop, 2 a strobe reload, 3 the
start entry's under PROF_EN = 1, 4 that to profile 0 with which a heat starts otherwise; the output tick (a timebase tick for
kind 2, else a heat tick), the profile, its rule, and the words loaded. -/
structure Sw where
  kind : Nat
  tick : Nat
  prof : Nat
  rule : Nat
  ftw : Nat
  pofs : Nat
  amp : Nat
  deriving DecidableEq, Repr

/-- One fine channel beyond its registers (R170, R171, R173). -/
structure Fc where
  /-- The working copy of the active profile. -/
  ftw : Nat := 0
  pofs : Nat := 0
  amp : Nat := 0
  /-- Accumulator value at sample `n0`, for the continuous rule. -/
  acc : Nat := 0
  n0 : Nat := 0
  /-- The output sample held (R102, R105, R107). -/
  z : Int := 0
  /-- The delay the output stage had reached when its present target took effect, in 0.5 ps steps, and the fine sample
  at which it did (R182). -/
  dlyFrom : Int := 0
  dlyN0 : Nat := 0
  /-- Profile switches on their way to the outputs. -/
  sw : List Sw := []
  /-- What the monitor ADC does for the channel: 0 nothing, 1 a calibration, 2 a read-back check (R183, R187). -/
  job : Nat := 0
  /-- The timebase at which the calibration's codes began (R183); none until the cluster and the monitor are awake. -/
  calAt : Option Int := none
  /-- The latest codes at the interpolator's input, newest first (R177; log 5). -/
  hist : List Int := []
  /-- The last interpolated code (R178), the unit elements in use, and the pointer into them (R179). -/
  code : Int := 0
  elems : List Nat := []
  ptr : Nat := 0
  deriving DecidableEq, Repr

/-- One vector pin beyond its registers: the trims its edges had reached when their present targets took effect, and
the vectors at which they did (R197). -/
structure Vp where
  drvFrom : Int := 0
  drvN0 : Nat := 0
  stbFrom : Int := 0
  stbN0 : Nat := 0
  /-- The drive state with which the present visit found the pin: 0 low, 1 high, 2 off (R192, R215). -/
  base : Nat := 2
  /-- The drive state that the course leaves the pin in a hold or a pause while the pin itself is at rest: the end of a pause with
  outputs at rest brings it back where its sequencer is held (R108), and a pin that becomes ready joins with it (R27). -/
  kept : Nat := 2
  deriving DecidableEq, Repr

/-- The event unit beyond its registers. -/
structure Ev where
  /-- Filtered values of the trigger inputs, one bit each, and as level events see them: at sample 7 of the tick (R117). -/
  ti : Nat := 0
  tiLvl : Nat := 0
  /-- Values of the level events when last looked at, one bit each; and as the heat last saw them: those of a pause count as seen at
  its end (R107). -/
  lvl : Nat := 0
  lvlHeat : Nat := 0
  /-- Pulse events that have come in the pause, one bit each: their hops are due at its end (R107, R174). -/
  paused : Nat := 0
  /-- In a pause, the pulse events seen in heat tick k; once the heat goes on, those that count as seen at k + 1, in the timebase tick
  `pauseTick` (R107, R112). -/
  pauseSeen : Nat := 0
  pauseTick : Nat := 0
  /-- The tick of `seen`. -/
  seenTick : Nat := 0
  /-- Pulse events seen in that tick, one bit each (R116). -/
  seen : Nat := 0
  fires : List PnEv := []
  on : List PnEv := []
  deriving DecidableEq, Repr

/-- A wake record of the run plan (R153). -/
structure WakeRec where
  tick : Nat
  dom : Nat
  release : Bool
  index : Nat
  use : Nat
  deriving DecidableEq, Repr

/-- A starting-block record of the run plan (R148). -/
structure StgRec where
  seg : Nat
  sq : Nat
  grp : Nat
  ofs : Nat
  size : Nat
  deriving DecidableEq, Repr

/-- The loaded plan beyond registers and course memory. -/
structure Plan where
  dcMask : Nat := 0
  refMult : Nat := 1
  look : Nat := 0
  rows : Nat := 0
  wakeLead : Nat := 0
  /-- Format codes of the lanes (R57); 0xFF: unused. -/
  lanes : Sp Nat := []
  /-- Start entries, 16 for each sequencer; 0xFFFF: unused. -/
  starts : Sp Nat := []
  /-- The timeline, byte by byte (R139). -/
  tl : Sp Byte := []
  wake : List WakeRec := []
  /-- Wake records not yet reached. -/
  wakeLeft : List WakeRec := []
  stg : List StgRec := []
  /-- Staging group of entry e of SQn, at 65,536 n + e. -/
  grp : Sp Nat := []
  /-- Entries in each course. -/
  crsLen : Sp Nat := []
  /-- The next row of the heat (R137). -/
  row : Nat := 0
  /-- Open capacity that the present row leaves to register windows, by channel (R144, R167). -/
  openLeft : Sp Nat := []
  /-- The first output tick whose data no row has asked for yet (R140). -/
  asked : Nat := 0
  /-- LOAD waits for PD_PLL (R161); it has passed its checks and the write pass is to run. -/
  waitPll : Bool := false
  writing : Bool := false
  /-- The image's address, and its header and directory as checked (R161, R162). -/
  addr : Nat := 0
  head : List Byte := []
  deriving DecidableEq, Repr

/-- Memories (R8, R62, R66, R302, R306). -/
structure Mem where
  /-- DRAM by channel and offset in it: 2^34 × channel + offset. -/
  dram : Sp Byte := []
  /-- Track memory, byte by byte. -/
  track : Sp Byte := []
  /-- Course memory: word w of entry e of SQn at 8 (65,536 n + e) + w. -/
  course : Sp Word := []
  /-- Directory memory: word w of segment s at 4 s + w. -/
  dir : Sp Word := []
  /-- Profile tables: word w of profile p of FCn at 256 n + 4 p + w, words as R176. -/
  prof : Sp Word := []
  /-- Persistent cells, by physical word (R302), and their write counts (R304). -/
  pv : Sp Word := []
  wear : Sp Nat := []
  /-- The last register write to a cell: its physical word, the value before it, and the timebase. For 15 µs it is a commit in
  progress, which a loss of power can cut (R303). -/
  pvCut : Option (Nat × Word × Int) := none
  /-- One-time cells (R306), and words locked by a failed or cut programming (R307). -/
  otp : Sp Word := []
  otpLock : List Nat := []
  /-- The programming in progress: word and value (R307). -/
  otpJob : Option (Nat × Word) := none
  /-- The xSPI flash (R364). -/
  flash : Sp Byte := []
  deriving DecidableEq, Repr

/-- The queues of R290 and what stands in front of them. -/
structure Qs where
  cmdq : Sp Q := []
  evq : Q := {}
  mirq : Q := {}
  batq : Q := {}
  capq : Q := {}
  logq : Q := {}
  updq : Q := {}
  /-- Holding buffers of EVQ and LOGQ (R127, R324), and records dropped since the last LOST record. -/
  evHold : List Rec := []
  evDrop : Nat := 0
  /-- The source numbers of the records written in the tick `evTb` (R127). -/
  evSrcs : List Nat := []
  evTb : Nat := 0
  logHold : List Rec := []
  logDrop : Nat := 0
  /-- AO_US as the last fault record holds it (R323; log 6). -/
  aoUs : Nat := 0
  /-- The last four records to enter EVQ and LOGQ, newest first (R327). -/
  evLast : List Rec := []
  logLast : List Rec := []
  /-- Privileged queues whose two copies of a pointer have come to disagree, one bit each (R294). -/
  upset : Nat := 0
  /-- The timebase tick in which SQn last took a record (R111). -/
  took : Sp (Option Nat) := []
  /-- The word last written to a write port (a read returns it): SQn_CMDQ_WR at n, BATQ_WR at 10, MIR_TX_WR at 14. -/
  lastWr : Sp Word := []
  deriving DecidableEq, Repr

/-- Background hardware saves (R304): words still to commit. -/
structure SaveJob where
  /-- Address and lowest bit of the BUSY flag's register. -/
  busyA : Nat
  busyLo : Nat
  /-- Status field of the block: address, lowest bit. -/
  stA : Nat
  stLo : Nat
  /-- Words still to commit: index i of the active half, value. -/
  todo : List (Nat × Word)
  deriving DecidableEq, Repr

/-- One DRAM channel beyond its registers (R225–R243). -/
structure Dch where
  /-- Refreshes owed (R235). -/
  owed : Nat := 0
  /-- In power-down (R238). -/
  pd : Bool := false
  /-- Refresh commands issued, and picoseconds of added refresh time not yet owed (R234–R236). -/
  refs : Nat := 0
  extra : Nat := 0
  /-- The last report showed the DRAM beyond its operating range (R236). -/
  beyond : Bool := false
  /-- Times that the channel's contents have become undefined (R242, R243, R325). -/
  epoch : Nat := 0
  /-- The lowest bytes, a reserve copy rewritten from a partner (R243): how many, and the channel and count whose
  undefined contents they hold. -/
  resTop : Nat := 0
  resCh : Nat := 0
  resEpoch : Nat := 0
  /-- The last known good setting, 32 words, or none (R239). -/
  lkg : List Word := []
  deriving DecidableEq, Repr

/-- A capture span in progress (R209): stamp, entry, width, first output tick of its visit, ticks, byte offset in the ring,
CONT, ticks lost before it, and the half granule not yet written. -/
structure Span where
  stamp : Nat
  entry : Nat
  two : Bool
  f : Nat
  ticks : Nat
  ofs : Nat
  cont : Bool
  lost : Nat
  half : List Byte
  deriving DecidableEq, Repr

/-- Capture and fail log of one bank (R202–R210). -/
structure CaptBank where
  /-- The next output tick of the heat to look at. -/
  next : Nat := 0
  span : Option Span := none
  /-- First output tick of the visit of the last span. -/
  lastF : Option Nat := none
  /-- Ticks lost since the last span, and the cause of the first. -/
  lost : Nat := 0
  cause : Nat := 0
  /-- Granules in the write buffer, oldest first: granule offset in the ring, captured ticks that it holds, bytes. -/
  wbuf : List (Nat × Nat × List Byte) := []
  /-- SPAN records in front of CAPQ, and one that waits for space among them: stamp and record. -/
  spans : List (Nat × Rec) := []
  wait : Option (Nat × Rec) := none
  /-- FAIL and SUMMARY records in front of CAPQ. -/
  fails : List (Nat × Rec) := []
  /-- FAIL records dropped since the last SUMMARY: count, failing vectors, first and last stamp. -/
  drops : Nat := 0
  dropFails : Nat := 0
  dropFirst : Nat := 0
  dropLast : Nat := 0
  /-- FAIL records were dropped since the previous FAIL record. -/
  dropped : Bool := false
  /-- The heat tick from which the bank's pins play in the present or last heat (R27): none while it has not been ready. -/
  joined : Option Nat := some 0
  deriving DecidableEq, Repr

/-- Capture and fail log. -/
structure Cap where
  banks : Sp CaptBank := []
  /-- Timebase at which the last record entered CAPQ (R205). -/
  tick : Option Nat := none
  deriving DecidableEq, Repr

/-- The training command in execution (R239, R240). -/
inductive DramJob where
  | idle | train (rate : Nat) | retrain (c : Nat) | unfence (c : Nat) | save
  deriving DecidableEq, Repr

/-- The LPDDR6 controller beyond its registers. -/
structure Dram where
  ch : Sp Dch := []
  job : DramJob := .idle
  /-- The rate code at which the channels are trained, once they are. -/
  rate : Option Nat := none
  /-- Yields not yet reported, and the timebase of the last YIELD record, by combination (R166):
  winning rung + 8 × yielding rung + 64 × resource + 256 × index. -/
  yields : Sp (Nat × Option Int) := []
  deriving DecidableEq, Repr

/-- A range of a grant (R257): its start, its end, and ACKED. -/
structure Range where
  a : Nat
  e : Nat
  acked : Nat
  deriving DecidableEq, Repr

/-- A landing grant (R254, R255): kind 0 empty, 1 segment, 2 region. -/
structure Grant where
  kind : Nat := 0
  seg : Nat := 0
  key : Nat := 0
  maxRanges : Nat := 0
  base : Nat := 0
  len : Nat := 0
  gens : Nat := 0
  ranges : List Range := []
  deriving DecidableEq, Repr

/-- A session (R257–R262). -/
structure Sess where
  skey : Nat
  epoch : Nat
  slot : Nat
  a : Nat
  e : Nat
  /-- Source address and port. -/
  ip : Nat
  port : Nat
  /-- Source MAC, port and link of the most recent accepted frame. -/
  mac : Nat
  pt : Nat
  link : Nat
  /-- The next expected offset. -/
  rx : Nat
  /-- ACKED of the last ACK. -/
  last : Nat
  /-- A commit is unacknowledged. -/
  due : Bool
  /-- Timebase at the last DUP or GAP acknowledgement (R260), and at the last accepted frame (R262); a preset of the timebase moves
  both with the present. -/
  told : Option Int
  got : Option Int
  deriving DecidableEq, Repr

/-- A DATA frame in an ingest buffer (R260). -/
structure Buffered where
  skey : Nat
  ofs : Nat
  data : List Byte
  deriving DecidableEq, Repr

/-- Destination of an outbound stream (R254, R267). -/
structure Dest where
  pt : Nat
  link : Nat
  pcp : Nat
  vlan : Bool
  vid : Nat
  port : Nat
  skey : Nat
  epoch : Nat
  mac : Nat
  ip : Nat
  src : Nat
  deriving DecidableEq, Repr

/-- A frame that waits in a data port: link, priority, bytes. -/
structure TxFrame where
  link : Nat
  prio : Nat
  bytes : List Byte
  deriving DecidableEq, Repr

/-- A data port beyond its registers. -/
structure Port where
  /-- The ingest buffer, oldest first. -/
  buf : List Buffered := []
  /-- Timebase at which back-pressure began, while in it (R263). -/
  bp : Option Int := none
  /-- Frames that wait to be sent. -/
  tx : List TxFrame := []
  /-- Priorities that a received XOFF stops, 8 × link + priority (R248). -/
  paused : List Nat := []
  deriving DecidableEq, Repr

/-- The Baton engine and the data ports beyond their registers. -/
structure Bat where
  grants : Sp Grant := []
  /-- Sessions, in the order of their admission. -/
  sess : List Sess := []
  ports : Sp Port := []
  dests : Sp (Option Dest) := []
  /-- Records sent on stream 0 since its destination was given (R267). -/
  recs : Nat := 0
  deriving DecidableEq, Repr

/-- Supervision, power and debug beyond their registers. -/
structure Sup where
  /-- Domains kept awake by a command or a register access (R316), as a bit mask over the codes of R154. -/
  stay : Nat := 0
  /-- Domains owned by the wake schedule (R26), and track-memory banks it holds awake (R223). -/
  owned : Nat := 0
  ownedBanks : Nat := 0
  /-- Track-memory banks whose wake is in progress (R223, R224). -/
  wakingBanks : Nat := 0
  /-- Domains whose wake is in progress. -/
  waking : Nat := 0
  /-- The SUP_DOM_CMD WAKE in execution: its domain. -/
  domJob : Option Nat := none
  /-- The state ring (R327), 128 words. -/
  ring : Sp Word := []
  /-- Power-on reset is held, or start-up has not begun (R391). -/
  por : Bool := true
  /-- A wake from ASLEEP waits for the reference to qualify (R314). -/
  wakeWait : Bool := false
  /-- FREEZE_N is low. -/
  frzLow : Bool := false
  /-- OUT_EN pin level. -/
  outEn : Bool := false
  /-- JTAG: the instruction in force, the boundary register, and the last DBG_ACCESS: address, data, DONE, ERROR. -/
  ir : Nat := 1
  /-- What the last Capture-IR loaded, and shifted out while the instruction came in (R328). -/
  irOut : Nat := 1
  boundary : List Bool := []
  boundaryDrive : Bool := false
  dr : Nat := 0
  accA : Nat := 0
  accD : Word := 0
  accDone : Bool := true
  accErr : Bool := false
  /-- A trip has just put the main PLL, which was locked, to sleep: a clock fault detected in the same tick still has its record (R332). -/
  tripLock : Bool := false
  /-- The mailbox operation in progress was written privileged (R287). -/
  mbxP : Bool := false
  deriving DecidableEq, Repr

/-- A frame the device has sent: port (0, 1 data ports; 2 mirror link; 3 management port; 4 MDIO), link, bytes. -/
structure Sent where
  port : Nat
  link : Nat
  bytes : List Byte
  deriving DecidableEq, Repr

/-- A decision of this device that the mirror link compares (R346): sequencer, kind, heat tick, argument. -/
structure MyDec where
  sq : Nat
  kind : Nat
  d : Nat
  arg : Nat
  deriving DecidableEq, Repr

/-- The mirror link and the alignment beyond their registers. -/
structure Mir where
  /-- SEQ of the next frame (R343). -/
  txSeq : Nat := 0
  /-- The partner's last IDENT: UNIT_ID, PLAN_ID, FABRIC_ID, PLAN_N, role, SEQ_STAT.HEAT; none before the first. -/
  peer : Option (List Nat) := none
  /-- A fault of R348 stands: OUT_EN is down on its account. -/
  fault : Bool := false
  /-- OUT_EN is held low by ALIGN (R337). -/
  enLow : Bool := false
  /-- This device's own decisions, not yet matched with the leader's (follower, R346). -/
  mine : List MyDec := []
  /-- A takeover trigger is registered (R349): 0 heartbeat, 1 fault, 2 command. -/
  trig : Option Nat := none
  /-- The tick at which OUT_EN rises after a takeover. -/
  riseAt : Option Nat := none
  /-- OUT_EN has risen after a takeover and the role has not been written since (R349). -/
  rose : Bool := false
  /-- A leader has received TAKE (R349): its OUT_EN is down. -/
  taken : Bool := false
  /-- PAIR when the link went down, while it is down (R344, R354). -/
  before : Nat := 0
  /-- The words of the record being written at MIR_TX_WR, and the transmit buffer, oldest first (R352). -/
  txPart : List Word := []
  txBuf : List (List Word) := []
  /-- The tick of the last sample of PEER_EN, and for how many ticks up to it the samples have been low (R342, R349). -/
  peerAt : Option Nat := none
  lowFor : Nat := 0
  /-- The takeover in progress was commanded (R349). -/
  byCmd : Bool := false
  /-- The heat tick T_k from which a new leader compares and captures (R351). -/
  tookAt : Option Nat := none
  /-- The last heat tick that is a multiple of 64 which a follower in lockstep has passed, and STATE and the latches of each sequencer as
  they were there (R347). -/
  markAt : Nat := 0
  marks : List (Nat × Nat) := []
  /-- The timebase at which CAL began, while it runs (R338). -/
  calAt : Option Nat := none
  /-- Align trims (R341), index j, in 0.5 ps steps. -/
  align : Sp Int := []
  /-- The command of SYNC_CTRL in execution: 0 none, 1 CAL, 2 ALIGN, 3 SAVE. -/
  job : Nat := 0
  deriving DecidableEq, Repr

/-- A TFTP transfer of the boot ROM (R385): the client's address and port, and the bytes received. -/
structure Tftp where
  mac : Nat
  ip : Nat
  port : Nat
  /-- The boot ROM's own port of the transfer. -/
  tid : Nat
  got : List Byte
  /-- The file is complete and judged good; the number of its last block. -/
  last : Option Nat
  deriving DecidableEq, Repr

/-- Where an update frame came from: its source (0 the management port, 1 the mirror partner), and the addresses and port for the answer. -/
structure UpdFrom where
  src : Nat
  mac : Nat
  ip : Nat
  port : Nat
  deriving DecidableEq, Repr

/-- The management complex, the updater and the boot ROM beyond their registers, the store and the flash. -/
structure Mgmt where
  /-- The next descriptor of the receive and the transmit ring (R362). -/
  rx : Nat := 0
  tx : Nat := 0
  /-- A transmit descriptor with OWN = 0 has been met: transmission waits for TX_GO. -/
  txWait : Bool := false
  /-- A descriptor has completed (line 16, R358). -/
  done : Bool := false
  /-- Received frames that wait for a DRAM channel which serves nothing, oldest first (R240, R362). -/
  rxq : List (List Byte) := []
  /-- The MDIO frame in progress is a write (R360): what WRITE held when GO was taken. -/
  mdioWr : Bool := false
  /-- The updater's lock holder: its source address, port and MAC (R373). -/
  ip : Nat := 0
  port : Nat := 0
  mac : Nat := 0
  /-- Fragments of the next chunk that have arrived (R376). -/
  frags : List (Nat × List Byte) := []
  /-- The timebase of the last REPLY to a fragment of another chunk (R376). -/
  dropAt : Option Int := none
  /-- The source and SID of the STAGE frame whose VERIFY or ACTIVATE is in progress: its REPLY is still to come (R375). -/
  asked : Option (UpdFrom × Nat) := none
  /-- The frames whose records stand in UPDQ, in their order, each with its source (R382). -/
  updHeld : List (Nat × UpdFrame) := []
  /-- The frame that a writer path, by source, holds while UPDQ has no room for it (R382). -/
  updWait : List (Nat × UpdFrame) := []
  /-- The tag beside each record of UPDQ (R382): the source in bit 0, the first record of a frame in bit 1. -/
  updTags : List (BitVec 2) := []
  /-- Words of the active half that ACTIVATE has copied so far (R378, R380). -/
  copied : Nat := 0
  /-- The skip latch of the always-on island: the slot it is set for (R367, R368). -/
  skip : Option Nat := none
  tftp : Option Tftp := none
  /-- A recovery has succeeded (R385). -/
  recovered : Bool := false
  deriving DecidableEq, Repr

/-- The state of the device. -/
structure State where
  /-- Commands waiting, first in, first out. -/
  pending : List Instr := []
  /-- Registers by byte address (unlisted: the reset value). -/
  regs : Sp Word := []
  /-- Shadows of buffered configuration, by byte address (R284). -/
  shadow : Sp (Option Word) := []
  /-- Mailbox selectors that hold a value (R289), by number. -/
  sel : Sp DWord := []
  /-- Accesses on the register bus: the head is stalled, the others wait behind it (R274, R277). -/
  bus : List Access := []
  /-- What the last read on the register bus returned. -/
  rdata : Word := 0
  tm : Tm := {}
  clk : Clk := {}
  ev : Ev := {}
  q : Qs := {}
  sq : Sp Sq := []
  plan : Plan := {}
  mem : Mem := {}
  fc : Sp Fc := []
  vp : Sp Vp := []
  /-- Values on their way to the outputs, and the values in force there. -/
  eff : List Eff := []
  outs : Sp Word := []
  /-- Values in force at the outputs before: up to which timebase tick, which register, what value; newest first (R189, R201). -/
  was : List (Int × Nat × Word) := []
  saves : List SaveJob := []
  dram : Dram := {}
  cap : Cap := {}
  bat : Bat := {}
  /-- The fabric image the loader has copied and checked (R300). -/
  fab : List Byte := []
  sup : Sup := {}
  mir : Mir := {}
  mg : Mgmt := {}
  /-- The model's own output log: frames sent, in order (log 10). -/
  sent : List Sent := []
  /-- The model's own field: the number of free values taken so far. -/
  free : Nat := 0
  deriving DecidableEq, Repr

/-- The state at power-on reset (R308): every register at its reset value, every memory with nothing listed. -/
def State.reset : State := {}

/-- Faults: no command of this block ends in one. -/
inductive Fault where
  /-- Raised by nothing: the spec gives every command of the table an effect. Safe. -/
  | none
  deriving DecidableEq, Repr

/-- Refusals. -/
inductive Refusal where
  /-- Raised by an arm of `exec` whose command has no meaning yet: a stop where the device goes on. Safe. -/
  | notModelled (mnemonic : String)
  deriving DecidableEq, Repr

end Sys2Proof.Machine
end

