-- ==== Sys2Proof/Machine/Ops.lean ====
section
/-! DEFINITION. The shared operations: registers and their fields, mailbox selectors, counters and statuses, the queues
and their records (R290–R295, R127, R324), the errors of the register bus (R278), and time. -/

namespace Sys2Proof.Machine

/-- Status codes of R14. -/
abbrev stOk : Nat := 0x00
abbrev stState : Nat := 0x01
abbrev stRange : Nat := 0x02
abbrev stBusy : Nat := 0x03
abbrev stLocked : Nat := 0x04
abbrev stKey : Nat := 0x05
abbrev stActive : Nat := 0x06
abbrev stBudget : Nat := 0x07
abbrev stBinding : Nat := 0x08
abbrev stCrc : Nat := 0x09
abbrev stTimeout : Nat := 0x0A
abbrev stFenced : Nat := 0x0B
abbrev stWorn : Nat := 0x0C

/-- The working value of a register. -/
def State.rd (s : State) (a : Nat) : Word := Sp.get resetOf s.regs a

/-- Set a register's working value. -/
def State.wr (s : State) (a : Nat) (v : Word) : State := { s with regs := Sp.set resetOf s.regs a v }

/-- A field of a register. -/
def State.fld (s : State) (f : Fld) : Nat := getBits f.lo f.w (s.rd f.a)

/-- Set a field of a register; its other bits keep their values. -/
def State.put (s : State) (f : Fld) (v : Nat) : State := s.wr f.a (setBits f.lo f.w v (s.rd f.a))

/-- A one-bit field as a Boolean. -/
def State.flag (s : State) (f : Fld) : Bool := decide (s.fld f ≠ 0)

/-- Set a one-bit field to 1. -/
def State.raise (s : State) (f : Fld) : State := s.put f 1

/-- Add to a counter, saturating at its largest value (R283). -/
def State.addTo (s : State) (f : Fld) (n : Nat) : State := s.put f (min (s.fld f + n) (2 ^ f.w - 1))

/-- Count one in a saturating counter. -/
def State.bump (s : State) (f : Fld) : State := s.addTo f 1

/-- A mailbox selector's value (R289). -/
def State.getSel (s : State) (n : Nat) : Nat := (Sp.get (fun _ => (0 : DWord)) s.sel n).toNat

/-- Set a mailbox selector's value. -/
def State.setSel (s : State) (n v : Nat) : State :=
  { s with sel := Sp.set (fun _ => (0 : DWord)) s.sel n (BitVec.ofNat 64 v) }

/-- The value of a shadow, if the block is buffered (R284). -/
def State.shadowOf (s : State) (a : Nat) : Option Word := Sp.get (fun _ => none) s.shadow a

/-- Set or drop a shadow. -/
def State.setShadow (s : State) (a : Nat) (v : Option Word) : State :=
  { s with shadow := Sp.set (fun _ => none) s.shadow a v }

/-- The record of one sequencer. -/
def State.sqn (s : State) (n : Nat) : Sq := Sp.get (fun _ => ({} : Sq)) s.sq n

/-- Set the record of one sequencer. -/
def State.setSq (s : State) (n : Nat) (q : Sq) : State := { s with sq := Sp.set (fun _ => ({} : Sq)) s.sq n q }

/-- The record of one fine channel. -/
def State.fcn (s : State) (n : Nat) : Fc := Sp.get (fun _ => ({} : Fc)) s.fc n

/-- Set the record of one fine channel. -/
def State.setFc (s : State) (n : Nat) (c : Fc) : State := { s with fc := Sp.set (fun _ => ({} : Fc)) s.fc n c }

/-! ### Queues -/

/-- The queue with index `i` of R290. -/
def State.getQ (s : State) (i : Nat) : Q :=
  match i with
  | 8 => s.q.evq
  | 9 => s.q.mirq
  | 10 => s.q.batq
  | 11 => s.q.capq
  | 12 => s.q.logq
  | 13 => s.q.updq
  | n => Sp.get (fun _ => Q.empty) s.q.cmdq n

/-- Set the queue with index `i`. -/
def State.setQ (s : State) (i : Nat) (v : Q) : State :=
  match i with
  | 8 => { s with q := { s.q with evq := v } }
  | 9 => { s with q := { s.q with mirq := v } }
  | 10 => { s with q := { s.q with batq := v } }
  | 11 => { s with q := { s.q with capq := v } }
  | 12 => { s with q := { s.q with logq := v } }
  | 13 => { s with q := { s.q with updq := v } }
  | n => { s with q := { s.q with cmdq := Sp.set (fun _ => Q.empty) s.q.cmdq n v } }

/-- Depth of a queue in records (R290). -/
def qDepth (i : Nat) : Nat :=
  match i with
  | 8 => 4096 | 9 => 256 | 10 => 256 | 11 => 8192 | 12 => 1024 | 13 => 2048 | _ => 32

/-- Words in a record of a queue (R290). -/
def qWords (i : Nat) : Nat :=
  match i with
  | 8 => 4 | 9 => 8 | 10 => 16 | 11 => 16 | 12 => 8 | 13 => 16 | _ => 4

/-- The MARK, XING and XING_COUNT fields of a queue (R293). -/
def qMark (i : Nat) : Fld :=
  match i with
  | 8 => F.EVQ_LVL_MARK | 9 => F.MIRQ_LVL_MARK | 10 => F.BATQ_LVL_MARK | 11 => F.CAPQ_LVL_MARK
  | 12 => F.LOGQ_LVL_MARK | 13 => F.UPDQ_LVL_MARK | n => F.SQ_CMDQ_LVL_MARK n

@[inherit_doc qMark] def qXing (i : Nat) : Fld :=
  match i with
  | 8 => F.EVQ_LVL_XING | 9 => F.MIRQ_LVL_XING | 10 => F.BATQ_LVL_XING | 11 => F.CAPQ_LVL_XING
  | 12 => F.LOGQ_LVL_XING | 13 => F.UPDQ_LVL_XING | n => F.SQ_CMDQ_LVL_XING n

@[inherit_doc qMark] def qXcnt (i : Nat) : Fld :=
  match i with
  | 8 => F.EVQ_LOST_XING_COUNT | 9 => F.MIRQ_CNT_XING_COUNT | 10 => F.BATQ_CNT_XING_COUNT
  | 11 => F.CAPQ_CNT_XING_COUNT | 12 => F.LOGQ_CNT_XING_COUNT | 13 => F.UPDQ_CNT_XING_COUNT
  | n => F.SQ_CMDQ_LVL_XING_COUNT n

/-- The count of records of a queue (LEVEL, R293). -/
def State.level (s : State) (i : Nat) : Nat := (s.getQ i).recs.length

/-- Whether a queue is full. -/
def State.qFull (s : State) (i : Nat) : Bool := decide (qDepth i ≤ s.level i)

/-- A record enters a queue, its pointers not yet compared; an upward crossing of MARK sets XING and counts (R291, R293). -/
def State.enter (s : State) (i : Nat) (r : Rec) : State :=
  let q := s.getQ i
  let s1 := s.setQ i { q with recs := q.recs ++ [r] }
  if q.recs.length + 1 = s.fld (qMark i) then (s1.raise (qXing i)).bump (qXcnt i) else s1

/-- The head record leaves a queue, its pointers not yet compared. -/
def State.leave (s : State) (i : Nat) : State :=
  let q := s.getQ i
  s.setQ i { q with recs := q.recs.tail, rd := 0 }

/-! ### Records -/

/-- A 16-byte event record (R127–R130): stamp, source, code, data bytes 8–15 as one little-endian number. -/
def evRec (stamp src code data : Nat) : Rec :=
  [BitVec.ofNat 32 stamp,
   BitVec.ofNat 32 ((stamp / 2 ^ 32) % 2 ^ 16 + 2 ^ 16 * (src % 256) + 2 ^ 24 * (code % 256)),
   BitVec.ofNat 32 data, BitVec.ofNat 32 (data / 2 ^ 32)]

/-- A record enters EVQ itself; the last four are kept for the state ring (R327). -/
def State.evEnter (s : State) (r : Rec) : State :=
  let s1 := s.enter 8 r
  { s1 with q := { s1.q with evLast := (r :: s1.q.evLast).take 4 } }

/-- Move records from the holding buffer into EVQ while it has space (R127). -/
def State.evDrain : Nat → State → State
  | 0, s => s
  | k + 1, s =>
    match s.q.evHold with
    | [] => s
    | r :: rs => if s.qFull 8 then s else
        State.evDrain k (({ s with q := { s.q with evHold := rs } }).evEnter r)

/-- A 32-byte fault record (R323). -/
def logRec (stamp src code cls unit ao detail : Nat) : Rec :=
  [BitVec.ofNat 32 stamp,
   BitVec.ofNat 32 ((stamp / 2 ^ 32) % 2 ^ 16 + 2 ^ 16 * (src % 256) + 2 ^ 24 * (code % 256)),
   BitVec.ofNat 32 (cls % 256 + 256 * (unit % 256)), 0,
   BitVec.ofNat 32 ao, BitVec.ofNat 32 (ao / 2 ^ 32), BitVec.ofNat 32 detail, BitVec.ofNat 32 (detail / 2 ^ 32)]

/-- A record enters LOGQ itself. -/
def State.logEnter (s : State) (r : Rec) : State :=
  let s1 := s.enter 12 r
  { s1 with q := { s1.q with logLast := (r :: s1.q.logLast).take 4 } }

/-- Move records from the holding buffer into LOGQ while it has space (R324). -/
def State.logDrain : Nat → State → State
  | 0, s => s
  | k + 1, s =>
    match s.q.logHold with
    | [] => s
    | r :: rs => if s.qFull 12 then s else
        State.logDrain k (({ s with q := { s.q with logHold := rs } }).logEnter r)

/-- Take a fresh free value's index. -/
def State.takeFree (s : State) : State := { s with free := s.free + 1 }

/-- AO_US goes on to the moment of a fault record (R323): by a free number, never back (log 6). -/
def State.aoTick (s : State) : State :=
  { s with q := { s.q with aoUs := s.q.aoUs + (Config.aoUs s.free).toNat }, free := s.free + 1 }

/-- A record enters the holding buffer of LOGQ, or LOGQ at once. -/
def State.logPut (s : State) (r : Rec) : State :=
  if s.q.logHold.isEmpty && !s.qFull 12 then s.logEnter r
  else { s with q := { s.q with logHold := s.q.logHold ++ [r] } }

/-- Space for one more record in front of or in LOGQ (R324). -/
def State.logSpace (s : State) : Bool := (s.q.logHold.isEmpty && !s.qFull 12) || decide (s.q.logHold.length < 64)

/-- The LOST record of LOGQ enters first once space has freed (R321, R324). -/
def State.logLost (s : State) : State :=
  if 0 < s.q.logDrop && s.logSpace then
    let s0 := s.aoTick
    let s1 := s0.logPut (logRec s.tm.tb 0x14 0x08 0 0 s0.q.aoUs (s.q.logDrop % 2 ^ 32))
    { s1 with q := { s1.q with logDrop := 0 } }
  else s

/-- Write a fault record (R321–R324): it enters, waits, or is dropped and counted. -/
def State.log (s : State) (src code cls unit detail : Nat) : State :=
  let s1 := s.logLost
  if s1.logSpace && decide (s1.q.logDrop = 0) then
    s1.aoTick.logPut (logRec s1.tm.tb src code cls unit s1.aoTick.q.aoUs detail)
  else
    let s2 := (s1.bump F.LOGQ_LOST_LOST_COUNT).raise F.SUP_STAT_LOG_LOST
    { s2 with q := { s2.q with logDrop := s2.q.logDrop + 1 } }

/-- Reset a queue and its partial records (R292). -/
def State.resetQ (s : State) (i : Nat) : State := s.setQ i Q.empty

/-- A queue is reset, and the copies of its pointers agree again. -/
def State.clearQ (s : State) (i : Nat) : State :=
  let s1 := s.resetQ i
  { s1 with q := { s1.q with upset := putBit s1.q.upset i false } }

/-- The LOST record of EVQ: code 3 of the event unit, bytes 8–11 the records dropped (R130). -/
def State.evLostRec (s : State) : Rec := evRec s.tm.tb 0x10 0x03 (s.q.evDrop % 2 ^ 32)

/-- The `n` records that EVQ discards count as lost (R294): their LOST record is the first to enter afterwards, and what the holding
buffer holds moves up behind it (R127). -/
def State.evDiscard (s : State) (n : Nat) : State :=
  let s1 := s.addTo F.EVQ_LOST_LOST_COUNT n
  let s2 := { s1 with q := { s1.q with evDrop := s1.q.evDrop + n, evSrcs := [] } }
  let s3 := if s2.q.evDrop = 0 ∨ s2.qFull 8 then s2
    else ({ s2 with q := { s2.q with evDrop := 0 } }).evEnter s2.evLostRec
  State.evDrain 256 s3

/-- A pointer mismatch of a privileged queue (R294): the queue is reset, QPTR_ERR and Q_IDX set, a QPTR fault record written. -/
def State.ptrMismatch (s : State) (i : Nat) : State :=
  let s1 := if i = 8 then (s.clearQ 8).evDiscard (s.level 8) else s.clearQ i
  (((s1.raise F.GLB_ERR_QPTR_ERR).put F.GLB_ERR_Q_IDX i).bump F.GLB_ERR_ERR_COUNT).log 0x14 0x05 2 i 0

/-- The copies of a privileged queue's pointers are compared, after an entry or a removal (R294). -/
def State.ptrCheck (s : State) (i : Nat) : State := if bitOf s.q.upset i then s.ptrMismatch i else s

/-- An uncorrectable word of a queue (R295): QECC_ERR and Q_IDX set; a QECC fault record unless the queue is LOGQ. -/
def State.eccBad (s : State) (i word : Nat) : State :=
  let s1 := ((s.raise F.GLB_ERR_QECC_ERR).put F.GLB_ERR_Q_IDX i).bump F.GLB_ERR_ERR_COUNT
  if i = 12 then s1 else s1.log 0x14 0x06 1 i word

/-! ### Event records (R127) -/

/-- Put `r` before the last `k` elements of a list. -/
def insertBack {α : Type} (k : Nat) (r : α) (l : List α) : List α := l.take (l.length - k) ++ r :: l.drop (l.length - k)

/-- The source number of an event record. -/
def evSource (r : Rec) : Nat := (r.getD 1 0).toNat / 2 ^ 16 % 256

/-- The records of the present tick that have a higher source number stand behind a record of source `src` (R127). A record that has
left EVQ, or whose first words have been read, stands before it (R291). -/
def State.evBehind (s : State) (src : Nat) : Nat :=
  let l := s.q.evq.recs ++ s.q.evHold
  let m := min s.q.evSrcs.length (l.length - (if s.q.evq.rd = 0 then 0 else 1))
  if s.q.evTb = s.tm.tb then ((l.reverse.take m).takeWhile (fun r => decide (src < evSource r))).length else 0

/-- A record enters the holding buffer, or EVQ at once where nothing stands before it, before the last `k` records. -/
def State.evPlace (s : State) (k : Nat) (r : Rec) : State :=
  if s.q.evHold.isEmpty && !s.qFull 8 then
    let s1 := s.evEnter r
    State.ptrCheck { s1 with q := { s1.q with evq := { s.q.evq with recs := insertBack k r s.q.evq.recs },
                                              evLast := (s.q.evLast.take k ++ r :: s.q.evLast.drop k).take 4 } } 8
  else
    let n := s.q.evq.recs.length
    let l := insertBack k r (s.q.evq.recs ++ s.q.evHold)
    { s with q := { s.q with evq := { s.q.evq with recs := l.take n }, evHold := l.drop n } }

/-- A record enters in front of EVQ or EVQ itself: the records of one tick in ascending order of source number (R127). DESIGN CHOICE
(log 31): all the time for which the timebase is held counts as one tick. -/
def State.evPut (s : State) (r : Rec) : State :=
  let old := if s.q.evTb = s.tm.tb then s.q.evSrcs else []
  State.evPlace { s with q := { s.q with evSrcs := evSource r :: old, evTb := s.tm.tb } } (s.evBehind (evSource r)) r

/-- Space for one more record in front of or in EVQ (R127). -/
def State.evSpace (s : State) : Bool := (s.q.evHold.isEmpty && !s.qFull 8) || decide (s.q.evHold.length < 256)

/-- The LOST record enters first once space has freed (R127). -/
def State.evLost (s : State) : State :=
  if 0 < s.q.evDrop && s.evSpace then
    State.evPlace { s with q := { s.q with evDrop := 0, evSrcs := [] } } 0 s.evLostRec
  else s

/-- Write an event record (R127): it enters, waits in the holding buffer, or is dropped and counted. -/
def State.event (s : State) (r : Rec) : State :=
  let s1 := s.evLost
  if s1.evSpace && decide (s1.q.evDrop = 0) then s1.evPut r
  else
    let s2 := (s1.bump F.EVQ_LOST_LOST_COUNT).raise F.EVT_STAT_LOST
    { s2 with q := { s2.q with evDrop := s2.q.evDrop + 1 } }

/-- Write an event record stamped with the present timebase. -/
def State.eventNow (s : State) (src code data : Nat) : State := s.event (evRec s.tm.tb src code data)

/-- At least `us` microseconds have passed since the timebase `t`: a tick is 320,000 / N ps (R3, log 12). -/
def State.usPast (s : State) (t : Int) (us : Nat) : Bool :=
  decide (((1000000 * us * s.clk.lockN : Nat) : Int) ≤ ((s.tm.tb : Int) - t) * 320000)

/-! ### Yields (R165, R166) -/

/-- `k` yields of rung `lo` to rung `hi` over resource `res` with index `idx`: counted, and a YIELD record at most once in 1,024
ticks. What counts as one yield, the spec does not say: one granule or one request that waits or is refused (log 25). -/
def State.yieldOn (s : State) (hi lo res idx k : Nat) : State :=
  if k = 0 then s
  else
    let key := hi + 8 * lo + 64 * res + 256 * idx
    let y := Sp.get (fun _ => (0, none)) s.dram.yields key
    let s1 := s.addTo F.PLAN_YIELD_YIELD_COUNT k
    let set := fun (t : State) (v : Nat × Option Int) =>
      { t with dram := { t.dram with yields := Sp.set (fun _ => (0, none)) t.dram.yields key v } }
    let due := match y.2 with | none => true | some t => decide (t + 1024 ≤ (s1.tm.tb : Int))
    if due then
      set (s1.eventNow 0x13 0x03 (hi + 2 ^ 8 * lo + 2 ^ 16 * res + 2 ^ 24 * idx + 2 ^ 32 * ((y.1 + k) % 2 ^ 32))) (0, some (s1.tm.tb : Int))
    else set s1 (y.1 + k, y.2)

/-- Yields over DRAM channel `c`. -/
def State.yieldRungs (s : State) (hi lo c k : Nat) : State := s.yieldOn hi lo 0 c k

/-- Yields as they are reported. -/
def State.yieldsOf (s : State) (l : List YieldReport) : State := l.foldl (fun t y => t.yieldOn y.win y.lose y.res y.idx y.count) s

/-! ### Errors of the register bus (R278) -/

/-- The locked bits of a register that is locked as a whole (R281): it ignores writes. -/
abbrev wholeLock : Word := 0xFFFFFFFF

/-- The GLB_ERR flag of an error kind of ERR_ADDR.KIND. -/
def errFlag (kind : Nat) : Fld :=
  match kind with
  | 1 => F.GLB_ERR_LOCK_VIOL
  | 2 => F.GLB_ERR_KEY_MISS
  | 3 => F.GLB_ERR_BUS_TIMEOUT
  | 4 => F.GLB_ERR_SIZE_ERR
  | _ => F.GLB_ERR_PRIV_ERR

/-- An error of R275–R281: load ERR_ADDR, set the flag, count (R278). -/
def State.busErr (s : State) (kind : Nat) (x : Access) : State :=
  let s1 := s.wr 0x50 (BitVec.ofNat 32 (x.a % 2 ^ 24 + 2 ^ 24 * kind + 2 ^ 28 * b2n x.wr + 2 ^ 29 * b2n x.p))
  (s1.raise (errFlag kind)).bump F.GLB_ERR_ERR_COUNT

/-- A reserve access fails (R229, R321): a management fault. `kind`: 0 uncorrectable, 1 unreachable. -/
def State.resErr (s : State) (c kind addr : Nat) : State :=
  (s.raise F.SUP_STAT_MGMT_FAULT).log 0x15 0x04 1 c (kind + 2 ^ 16 * (addr % 2 ^ 48))

/-! ### Time -/

/-- The timebase advances by one tick, and the heat tick with it while the heat runs (R44, R84). -/
def State.tick1 (s : State) : State :=
  if s.flag F.TB_STAT_COUNTING then
    { s with tm := { s.tm with tb := (s.tm.tb + 1) % 2 ^ 64,
                               heat := if s.fld F.SEQ_STAT_HEAT = 3 then s.tm.heat + 1 else s.tm.heat } }
  else s

/-- Let the timebase reach tick `t`, if it has not: the moment of an event whose tick the state fixes (log 1). -/
def State.toTick (s : State) (t : Nat) : State :=
  if s.tm.tb < t then
    { s with tm := { s.tm with tb := t,
                               heat := if s.fld F.SEQ_STAT_HEAT = 3 then s.tm.heat + (t - s.tm.tb) else s.tm.heat } }
  else s

/-- Timebase tick `t` comes, or has come: a held timebase reaches none (R44). -/
def State.comes (s : State) (t : Nat) : Bool := s.flag F.TB_STAT_COUNTING || decide (t ≤ s.tm.tb)

/-- Let the heat reach heat tick `h`, if it has not. -/
def State.toHeat (s : State) (h : Nat) : State := s.toTick (s.tm.tb + (h - s.tm.heat))

/-- The timebase of a heat tick of the present stretch of the heat. -/
def State.tbOf (s : State) (h : Nat) : Nat := s.tm.tb + h - s.tm.heat

/-- A counter whose events no command of the table brings: a look at it finds it raised by as many as have come since the last, a
free number (log 36). -/
def State.countFree (s : State) (f : Fld) : State := (s.takeFree).addTo f (Config.freeNat s.free)

/-- A halt of the timebase begins (R44). The held timebase reads the number of the tick in progress, which R44 completes and counts:
whether it reads that number or the next is the model's choice (log 33). -/
def State.holdTb (s : State) : State :=
  if s.flag F.TB_STAT_COUNTING then
    ((s.put F.TB_STAT_COUNTING 0).raise F.TB_STAT_HALTED).bump F.TB_HALT_HALT_COUNT
  else s

/-- The timebase resumes from its held value; TB_GAP takes the halt's length in microseconds (R44). -/
def State.resumeTb (s : State) (us : Nat) : State :=
  let s1 := if s.flag F.TB_STAT_HALTED then s.put F.TB_GAP_GAP_US (min us (2 ^ 32 - 1)) else s
  (s1.put F.TB_STAT_HALTED 0).raise F.TB_STAT_COUNTING

/-- A = N / gcd(32, N): ticks between aligned boundaries (R34). -/
def alignPeriod (n : Nat) : Nat := n / Nat.gcd 32 n

/-- The first aligned boundary at or after `t` (R34, R47): a tick whose residue modulo A is TB_ALIGN. -/
def firstAligned (n align t : Nat) : Nat :=
  let a := max (alignPeriod n) 1
  t + (align % a + a - t % a) % a

/-- Iterate over a list of indices, changing the state. -/
def State.each (s : State) (l : List Nat) (f : State → Nat → State) : State := l.foldl f s

end Sys2Proof.Machine
end

