-- ==== Sys2Proof/Machine/Power.lean ====
section
/-! DEFINITION. The fabric's structure, the persistent words, outputs at rest, and the power domains (R24–R26, R154,
R184, R212, R302, R312–R316, R404). -/

namespace Sys2Proof.Machine

/-! ### Persistent words -/

/-- The physical word of word `i` of half `h` (R302). -/
def pvPhys (h i : Nat) : Nat := if h = 0 then 64 + i else 8224 + i

/-- Word `i` of the active half (R302). -/
def State.pvWord (s : State) (i : Nat) : Word :=
  Sp.get (fun _ => (0 : Word)) s.mem.pv (pvPhys (s.fld F.PV_STAT_HALF) i)

/-- The write count of a physical word (R304). -/
def State.pvWear (s : State) (k : Nat) : Nat := Sp.get (fun _ => 0) s.mem.wear k

/-- Commit a value to a word of the active half: stored, and its write counted (R303, R304). -/
def State.pvCommit (s : State) (i : Nat) (v : Word) : State :=
  let k := pvPhys (s.fld F.PV_STAT_HALF) i
  { s with mem := { s.mem with pv := Sp.set (fun _ => (0 : Word)) s.mem.pv k v,
                               wear := Sp.set (fun _ => 0) s.mem.wear k (s.pvWear k + 1) } }

/-- A word of the active half is worn (R304). -/
def State.pvWorn (s : State) (i : Nat) : Bool := decide (1000000 ≤ s.pvWear (pvPhys (s.fld F.PV_STAT_HALF) i))

/-! ### The structure of the fabric image -/

/-- Cluster `k` is present. -/
def State.hasK (s : State) (k : Nat) : Bool := bitOf (s.fld F.FABRIC_UNITS_CLUSTERS) k

/-- Bank `b` is present. -/
def State.hasVb (s : State) (b : Nat) : Bool := bitOf (s.fld F.FABRIC_UNITS_BANKS) b

/-- Unit bit of OTHER: 0 NET0, 1 NET1, 2 mirror link, 3 capture and fail log. -/
def State.hasOther (s : State) (i : Nat) : Bool := bitOf (s.fld F.FABRIC_UNITS_OTHER) i

/-- A power domain is present (R404); codes as R154 and R316. -/
def State.domPresent (s : State) (d : Nat) : Bool :=
  if d = 1 ∨ d = 2 ∨ d = 0x14 ∨ d = 0x25 then true
  else if 0x08 ≤ d ∧ d ≤ 0x0F then s.hasK (d - 8)
  else if 0x10 ≤ d ∧ d ≤ 0x13 then s.hasVb (d - 16)
  else if 0x18 ≤ d ∧ d ≤ 0x1F then bitOf (s.fld F.DRAM_CFG_CH_EN) (d - 24)
  else if d = 0x20 ∨ d = 0x21 then s.hasOther (d - 0x20)
  else if d = 0x22 then s.hasOther 0 || s.hasOther 1
  else if d = 0x23 then s.hasOther 3
  else if d = 0x24 then s.hasOther 2
  else false

/-- The sequencer that owns a fine channel, if any (FABRIC_FCSQ). -/
def State.fcOwner (s : State) (n : Nat) : Option Nat :=
  let v := getBits (4 * (n % 8)) 4 (s.rd (F.FABRIC_FCSQ_OWN (n / 8)).a)
  if 8 ≤ v then some (v - 8) else none

/-- The sequencer that owns a vector pin, if any (FABRIC_VPSQ). -/
def State.vpOwner (s : State) (n : Nat) : Option Nat :=
  let v := getBits (4 * (n % 8)) 4 (s.rd (F.FABRIC_VPSQ_OWN (n / 8)).a)
  if 8 ≤ v then some (v - 8) else none

/-- The fine channels of a sequencer, in ascending order. -/
def State.fcsOf (s : State) (n : Nat) : List Nat := (List.range 64).filter (fun c => s.fcOwner c == some n)

/-- The pins of a sequencer, in ascending order. -/
def State.vpsOf (s : State) (n : Nat) : List Nat := (List.range 128).filter (fun c => s.vpOwner c == some n)

/-- The sequencer owns a pin of bank `b`. -/
def State.ownsBank (s : State) (n b : Nat) : Bool :=
  (List.range 32).any (fun p => s.vpOwner (32 * b + p) == some n)

/-! ### Outputs at rest and on the hold path -/

/-- The SUP_AWAKE bit of a domain. -/
def awakeBit (d : Nat) : Fld := if d < 32 then ⟨0x120058, d, 1⟩ else ⟨0x12005C, d - 32, 1⟩

/-- A domain is awake. -/
def State.awake (s : State) (d : Nat) : Bool := s.flag (awakeBit d)

/-- Drive state that a rest word gives a pin (R305): Z off, D0 low, D1 high. -/
def restDrive (w : Word) : Nat :=
  match getBits 0 2 w with
  | 1 => 0
  | 2 => 1
  | _ => 2

/-- A fine channel goes to rest, through the datapath or on the hold path, where it stays while its cluster sleeps (R184). -/
def State.restFc (s : State) (hold : Bool) (n : Nat) : State :=
  (s.put (F.FC_STAT_AT_REST n) 1).put (F.FC_STAT_ON_HOLD n) (b2n (hold || !s.awake (8 + n / 8)))

/-- A vector pin goes to rest, through the datapath or on the hold path, where it stays while its bank sleeps (R212). -/
def State.restVp (s : State) (hold : Bool) (n : Nat) : State :=
  ((s.put (F.VP_STAT_AT_REST n) 1).put (F.VP_STAT_ON_HOLD n) (b2n (hold || !s.awake (16 + n / 32)))).put (F.VP_STAT_DRIVE n)
    (restDrive (s.pvWord (192 + n)))

/-- The rest code of a channel (R305): 0 until the persistent store has been read during start-up (R185). -/
def State.restCode (s : State) (n : Nat) : Int :=
  if s.fld F.SUP_STAT_STAGE < 2 then 0 else signed 20 (getBits 0 20 (s.pvWord n))

/-- A fine channel leaves the hold path: its datapath has played its rest code, which the interpolator has settled to (R184; log 5). -/
def State.offHold (s : State) (n : Nat) : State :=
  if s.flag (F.FC_STAT_ON_HOLD n) then
    (s.setFc n { s.fcn n with hist := List.replicate 72 (s.restCode n), code := s.restCode n }).put (F.FC_STAT_ON_HOLD n) 0
  else s

/-- Fine channels and pins go to rest. -/
def State.restOuts (s : State) (hold : Bool) (fcs vps : List Nat) : State :=
  let s1 := fcs.foldl (fun t n => t.restFc hold n) s
  vps.foldl (fun t n => t.restVp hold n) s1

/-- Every fine output and vector pin goes to rest on the hold path. -/
def State.allToHold (s : State) : State := s.restOuts true (List.range 64) (List.range 128)

/-- Every pennant goes inactive and its fires are cancelled (R125). -/
def State.pennantsOff (s : State) : State := { s with ev := { s.ev with fires := [], on := [] } }

/-- An output leaves the hold path for its datapath, still at rest (R184, R212). -/
def State.handOver (s : State) (fcs vps : List Nat) : State :=
  let s1 := fcs.foldl (fun t n => t.offHold n) s
  vps.foldl (fun t n => t.put (F.VP_STAT_ON_HOLD n) 0) s1

/-! ### Domains -/

/-- PD_MGMT is awake: from stage 2 of start-up on, and not in ASLEEP (R308, R312). -/
def State.mgmtAwake (s : State) : Bool :=
  !s.sup.por && !s.flag F.DBG_STAT_ASLEEP && decide (2 ≤ s.fld F.SUP_STAT_STAGE)

/-- The device runs: neither held in power-on reset, nor ASLEEP, nor frozen. -/
def State.live (s : State) : Bool := s.mgmtAwake && !s.flag F.DBG_STAT_FROZEN

/-- A domain that runs from the main PLL and keeps it awake (R24, R315). -/
def needsPll (d : Nat) : Bool :=
  decide (d = 2) || (decide (0x08 ≤ d) && decide (d ≤ 0x13)) || decide (d = 0x23) || decide (d = 0x24)

/-- The channels of a cluster's domain and the pins of a bank's domain. -/
def domFcs (d : Nat) : List Nat := if 0x08 ≤ d ∧ d ≤ 0x0F then (List.range 8).map (fun j => 8 * (d - 8) + j) else []

@[inherit_doc domFcs] def domVps (d : Nat) : List Nat :=
  if 0x10 ≤ d ∧ d ≤ 0x13 then (List.range 32).map (fun j => 32 * (d - 16) + j) else []

/-- The group of a domain (FABRIC_PDGRP). -/
def State.pdGroup (s : State) (d : Nat) : Nat := getBits (8 * (d % 4)) 8 (s.rd (F.FABRIC_PDGRP_GRP (d / 4)).a)

/-- The present domains that wake and sleep with a domain (R25). -/
def State.groupOf (s : State) (d : Nat) : List Nat :=
  if s.pdGroup d = 0 then [d]
  else (List.range 64).filter (fun e => (decide (s.pdGroup e = s.pdGroup d) && s.domPresent e) || decide (e = d))

/-- The temperature of sensor 12 in whole °C, in eighths (R317). -/
def State.pllTemp (s : State) : Int := signed 16 (s.fld (F.SUP_TEMP_TEMP 12))

/-- Band entry `e` = N − 64: its code and temperature word, its seed word (R36). -/
def State.bandWord (s : State) (k : Nat) : Word := Sp.get (fun _ => (0 : Word)) s.clk.band k

/-- A relock at N uses the stored entry (R37): valid, and within ±40 °C of its learning temperature. -/
def State.useStored (s : State) (n : Nat) : Bool :=
  let w := s.bandWord (2 * (n - 64))
  decide (getBits 16 1 w = 1) && decide ((s.pllTemp - 8 * (getBits 8 8 w : Nat)).natAbs ≤ 320)

/-- A relock of the main PLL at N begins (R37). -/
def State.beginRelock (s : State) (n : Nat) : State :=
  let s1 := s.put F.CLK_STAT_LOCK 0
  { s1 with clk := { s1.clk with target := n, cold := !s.useStored n } }

/-- Mark a domain as waking, with its group (R25). -/
def State.markWaking (s : State) (d : Nat) : State :=
  { s with sup := { s.sup with waking := (s.groupOf d).foldl (fun m e => putBit m e true) s.sup.waking } }

/-- Start the wake of PD_PLL, and of PD_SEQ with it (R24, R316). -/
def State.wakePll (s : State) : State :=
  if s.awake 1 || bitOf s.sup.waking 1 then s
  else
    let s1 := (s.markWaking 1).markWaking 2
    let s2 := s1.beginRelock (s1.fld F.CLK_PLL_PLAN_N)
    { s2 with clk := { s2.clk with relock := .wake }, sup := { s2.sup with tripLock := false } }

/-- PD_BAT wakes with the first data port to wake (R249). -/
def State.wakeBat (s : State) (d : Nat) : State :=
  if (d = 0x20 ∨ d = 0x21) ∧ !s.awake 0x22 then s.markWaking 0x22 else s

/-- Start the wake of a domain and of its group (R24–R26): nothing where it is absent or awake. A member that runs from the main
PLL wakes PD_PLL. -/
def State.startWake (s : State) (d : Nat) : State :=
  if !s.domPresent d || s.awake d then s
  else
    let g := s.groupOf d
    let s1 := if g.any (fun e => needsPll e || decide (e = 1)) then s.wakePll else s
    g.foldl (fun t e => t.wakeBat e) (s1.markWaking d)

/-- A domain's outputs leave the hold path when it wakes (R184, R212). -/
def State.wakeOuts (s : State) (d : Nat) : State := s.handOver (domFcs d) (domVps d)

/-- The codes of an accepted calibration begin once the channel's cluster and the monitor are awake (R183): until then the output stays
at rest. -/
def State.calStart (s : State) : State :=
  (List.range 64).foldl (fun t n =>
    if decide ((t.fcn n).job = 1) && decide ((t.fcn n).calAt = none) && t.awake (8 + n / 8) && t.awake 0x25 then
      (t.setFc n { t.fcn n with calAt := some (t.tm.tb : Int) }).put (F.FC_STAT_AT_REST n) 0
    else t) s

/-- Outputs leave rest for the edges of ALIGN (R337). -/
def State.alignOuts (s : State) (fcs vps : List Nat) : State :=
  let s1 := fcs.foldl (fun t c => (t.offHold c).put (F.FC_STAT_AT_REST c) 0) s
  vps.foldl (fun t c => (t.put (F.VP_STAT_AT_REST c) 0).put (F.VP_STAT_ON_HOLD c) 0) s1

/-- A domain is awake from now on. While ALIGN runs, its outputs take part (R337). -/
def State.setAwake (s : State) (d : Nat) : State :=
  let s1 := (s.put (awakeBit d) 1).wakeOuts d
  let s2 := ({ s1 with sup := { s1.sup with waking := putBit s1.sup.waking d false } }).calStart
  if decide (s.mir.job = 2) && s.domPresent d then s2.alignOuts (domFcs d) (domVps d) else s2

/-- A DRAM channel's domain sleeps through self-refresh, with its record (R237, R316); how long the channel was idle is
not stated here (log 7). -/
def State.selfRefresh (s : State) (d : Nat) : State :=
  let f : Fld := ⟨0xB0000, 16 + (d - 24), 1⟩
  if 0x18 ≤ d ∧ d ≤ 0x1F ∧ s.awake d ∧ !s.flag f then
    ((s.takeFree).eventNow 0x15 0x04 (d - 24 + 2 ^ 32 * (Config.freeNat s.free % 2 ^ 32))).put f 1
  else s

/-- A domain's sleep: its outputs go to the hold path (R184, R212). -/
def State.sleepOne (s : State) (d : Nat) : State :=
  let s1 := ((s.selfRefresh d).put (awakeBit d) 0).restOuts true (domFcs d) (domVps d)
  { s1 with sup := { s1.sup with stay := putBit s1.sup.stay d false, waking := putBit s1.sup.waking d false } }

/-- The DRAM PLL has a source (R32): the reference is qualified, or the main PLL coasts. -/
def State.refOk (s : State) : Bool := s.flag F.CLK_STAT_REF_VALID || s.flag F.CLK_STAT_COAST

/-- Without a source the DRAM PLL does not run, and the DRAM channels stay in self-refresh (R32). -/
def State.dramNoRef (s : State) : State :=
  if s.refOk then s
  else (List.range 8).foldl (fun t c => if t.awake (0x18 + c) then t.sleepOne (0x18 + c) else t) s

/-- The main PLL sleeps, PD_SEQ with it, every output goes to the hold path, and the timebase is held (R24, R44, R184,
R212). It coasts no longer, and without a reference the DRAM PLL stands (R32). -/
def State.sleepPll (s : State) : State :=
  let s1 := (((s.sleepOne 1).sleepOne 2).allToHold).put F.CLK_STAT_LOCK 0
  let s2 := (s1.holdTb.put F.CLK_STAT_COAST 0).dramNoRef
  { s2 with clk := { s2.clk with relock := .none, late := false } }

/-- A domain sleeps, with its group (R25); PD_PLL takes PD_SEQ with it. -/
def State.sleepDom (s : State) (d : Nat) : State :=
  if d = 1 then s.sleepPll else (s.groupOf d).foldl (fun t e => t.sleepOne e) s

/-- Every output of a domain is at rest. A cluster or bank that holds an output stays awake (R86; log 9). -/
def State.domAtRest (s : State) (d : Nat) : Bool :=
  (domFcs d).all (fun n => s.flag (F.FC_STAT_AT_REST n)) && (domVps d).all (fun n => s.flag (F.VP_STAT_AT_REST n))

/-- A calibration or read-back check uses a domain (R183, R187, R316). -/
def State.monUses (s : State) (d : Nat) : Bool :=
  (List.range 64).any (fun n => decide ((s.fcn n).job ≠ 0) && (decide (d = 0x25) ||
    (decide ((s.fcn n).job = 1) && decide (d = 8 + n / 8))))

/-- A trip, clock fault or freeze ends a calibration at once with TIMEOUT (R183). -/
def State.calAbort (s : State) : State :=
  (List.range 64).foldl (fun t n =>
    if (t.fcn n).job = 1 then
      ((t.setFc n { t.fcn n with job := 0 }).put (F.FC_CAL_BUSY n) 0).put (F.FC_CAL_STATUS n) stTimeout
    else t) s

/-- The power state follows plan and heat (R312): READY with a plan, HEAT from START to the heat's end, else STANDBY. -/
def State.setPstate (s : State) : State :=
  if s.fld F.SUP_STAT_PSTATE = 0 then s
  else
    let h := s.fld F.SEQ_STAT_HEAT
    s.put F.SUP_STAT_PSTATE (if h = 0 then 1 else if h = 1 then 2 else 3)

/-! ### Commands with a status -/

/-- A clock command completes: CMD_STATUS and CMD_BUSY (R14). -/
def State.clkDone (s : State) (st : Nat) : State :=
  let s1 := (s.put F.CLK_STAT_CMD_STATUS st).put F.CLK_STAT_CMD_BUSY 0
  { s1 with clk := { s1.clk with cmd := .idle } }

/-- A hardware save begins (R304): none of its words may be worn where its value would change; unchanged words are
skipped; BUSY reads 1 until the last word is committed. -/
def State.beginSave (s : State) (busy st : Fld) (ws : List (Nat × Word)) : State :=
  let ch := ws.filter (fun x => decide (s.pvWord x.1 ≠ x.2))
  if ch.any (fun x => s.pvWorn x.1) then s.put st stWorn
  else if ch.isEmpty then s.put st stOk
  else
    let s1 := s.put busy 1
    { s1 with saves := s1.saves ++ [⟨busy.a, busy.lo, st.a, st.lo, ch⟩] }

end Sys2Proof.Machine
end

