-- ==== Sys2Proof/Machine/Memory.lean ====
section
/-! DEFINITION. Track memory, the DRAM address space and its mapping onto channels (R63, R216, R227, R228), and where a
segment's data lie (R56–R64). -/

namespace Sys2Proof.Machine

/-! ### DRAM addresses -/

/-- Positions of the bits set in an 8-bit mask, ascending. -/
def bits8 (m : Nat) : List Nat := (List.range 8).filter (fun i => bitOf m i)

/-- The channels the fabric image enables. -/
def State.enabled (s : State) : List Nat := bits8 (s.fld F.DRAM_CFG_CH_EN)

/-- The mapped set of channels (R228), as DRAM_CFG.MAPPED reports it. -/
def State.mappedNow (s : State) : List Nat := bits8 (s.fld F.DRAM_CFG_MAPPED)

/-- The fitted size of a channel in bytes (DRAM_CFG.CH_SIZE). -/
def State.chSize (s : State) : Nat := 2 ^ (32 + s.fld F.DRAM_CFG_CH_SIZE)

/-- RES: bytes of the management reserve (R227). -/
def State.resBytes (s : State) : Nat := s.fld F.DRAM_CFG_RES_GIB * 2 ^ 30

/-- S: bytes each channel sets aside for the reserve (R227). -/
def resShare (e resGib : Nat) (mirror : Bool) : Nat :=
  let u := resGib * 2 ^ 18
  let u' := if mirror then 2 * u else u
  (u' + e - 1) / e * 4096

@[inherit_doc resShare] def State.share (s : State) : Nat :=
  resShare s.enabled.length (s.fld F.DRAM_CFG_RES_GIB) (s.flag F.DRAM_CFG_RES_MIRROR)

/-- G: the grain of the heat space (R228). -/
def grainOf (order : Nat) : Nat :=
  match order % 4 with
  | 0 => 256
  | 1 => 1024
  | _ => 4096

/-- Channel and offset of heat-space byte `a` (counted from RES) over a mapped set (R228). -/
def heatLoc (chs : List Nat) (order share a : Nat) : Option (Nat × Nat) :=
  let g := grainOf order
  let d := chs.length
  let u := a / g
  let i := if bitOf order 2 then (u + u / d) % d else u % d
  match chs[i]? with
  | some c => some (c, share + u / d * g + a % g)
  | none => none

/-- Bytes of the heat space: D × (C − S − 64 KiB) (R228). -/
def State.heatBytes (s : State) : Nat := s.mappedNow.length * (s.chSize - s.share - 65536)

/-- Channels and offsets that hold a DRAM byte address: none beyond the configured DRAM; two for a mirrored reserve,
copy A first (R227, R228). -/
def State.dramLocs (s : State) (a : Nat) : List (Nat × Nat) :=
  let en := s.enabled
  let e := en.length
  if e = 0 then []
  else if a < s.resBytes then
    let r := a / 4096
    if s.flag F.DRAM_CFG_RES_MIRROR then
      let h := e / 2
      let ofs := r / h * 4096 + a % 4096
      [(en.getD (2 * (r % h)) 0, ofs), (en.getD (2 * (r % h) + 1) 0, ofs)]
    else [(en.getD (r % e) 0, r / e * 4096 + a % 4096)]
  else if a - s.resBytes < s.heatBytes then
    match heatLoc s.mappedNow (s.fld F.DRAM_CFG_MAP_ORDER) s.share (a - s.resBytes) with
    | some l => [l]
    | none => []
  else []

/-- A channel's bit in DRAM_STAT: TRAINED, FENCED, SELF_REF, RETRAINING. -/
def trainedBit (c : Nat) : Fld := ⟨0xB0000, c, 1⟩

@[inherit_doc trainedBit] def fencedBit (c : Nat) : Fld := ⟨0xB0000, 8 + c, 1⟩

@[inherit_doc trainedBit] def selfRef (c : Nat) : Fld := ⟨0xB0000, 16 + c, 1⟩

@[inherit_doc trainedBit] def retrainBit (c : Nat) : Fld := ⟨0xB0000, 24 + c, 1⟩

/-- A channel's domain wakes and sleeps with others (R25). -/
def State.chGrouped (s : State) (c : Nat) : Bool := decide ((s.groupOf (0x18 + c)).length ≠ 1)

/-- Requests to a channel wait: it retrains (R240), or stays in self-refresh because the DRAM PLL has no reference (R32) or because its
group becomes ready as one (R25). -/
def State.chWaits (s : State) (c : Nat) : Bool :=
  s.flag (retrainBit c) || (s.flag (selfRef c) && (!s.refOk || s.chGrouped c))

/-- A channel is fenced. -/
def State.fenced (s : State) (c : Nat) : Bool := bitOf (s.fld F.DRAM_STAT_FENCED) c

/-- The channel that serves a DRAM byte address, if one exists and is not fenced. -/
def State.dramCh (s : State) (a : Nat) : Option Nat := ((s.dramLocs a).find? (fun l => !s.fenced l.1)).map (fun l => l.1)

/-- The key of a channel's byte in `mem.dram`. -/
def dramKey (l : Nat × Nat) : Nat := l.1 * 2 ^ 34 + l.2

/-- One DRAM channel's record. -/
def State.dch (s : State) (c : Nat) : Dch := Sp.get (fun _ => ({} : Dch)) s.dram.ch c

/-- Set one DRAM channel's record. -/
def State.setDch (s : State) (c : Nat) (d : Dch) : State :=
  { s with dram := { s.dram with ch := Sp.set (fun _ => ({} : Dch)) s.dram.ch c d } }

/-- What a byte of DRAM that nothing has written reads as: 0 until its channel's contents are first lost, then a free value
(log 4). -/
def lostByte (e c ofs : Nat) : Byte := if e = 0 then 0 else Config.dramByte e (c * 2 ^ 34 + ofs)

@[inherit_doc lostByte] def State.dramDef (s : State) (k : Nat) : Byte :=
  let c := k / 2 ^ 34
  let ofs := k % 2 ^ 34
  let d := s.dch c
  if ofs < d.resTop then lostByte d.resEpoch d.resCh ofs else lostByte d.epoch c ofs

/-- Read one DRAM byte: from the first copy whose channel is not fenced; none where no channel holds it. -/
def State.dramRead (s : State) (a : Nat) : Option Byte :=
  match (s.dramLocs a).find? (fun l => !s.fenced l.1) with
  | some l => some (Sp.get s.dramDef s.mem.dram (dramKey l))
  | none => none

/-- Write one DRAM byte, in every copy whose channel is not fenced (R227, R242). -/
def State.dramWrite (s : State) (a : Nat) (v : Byte) : State :=
  { s with mem := { s.mem with
      dram := ((s.dramLocs a).filter (fun l => !s.fenced l.1)).foldl (fun m l => Sp.set s.dramDef m (dramKey l) v) s.mem.dram } }

/-- Read `n` DRAM bytes; a byte that no reachable channel holds reads as 0. -/
def State.dramBytes (s : State) (a : Nat) : Nat → List Byte
  | 0 => []
  | n + 1 => (s.dramRead a).getD 0 :: State.dramBytes s (a + 1) n

/-- Write DRAM bytes from address `a`. -/
def State.dramPut (s : State) (a : Nat) : List Byte → State
  | [] => s
  | b :: bs => State.dramPut (s.dramWrite a b) (a + 1) bs

/-- A DRAM byte range reaches only reachable channels. -/
def State.dramOk (s : State) (a n : Nat) : Bool :=
  (List.range ((n + 63) / 64)).all (fun g => (s.dramRead (a + 64 * g)).isSome) && (n = 0 || (s.dramRead (a + n - 1)).isSome)

/-! ### Track memory (R216) -/

/-- Bytes of track memory. -/
def trackBytes : Nat := 268435456

/-- The first granule of the starting-block region. -/
def regionGranule : Nat := 3932160

/-- Read one byte of track memory. -/
def State.trackRead (s : State) (a : Nat) : Byte := Sp.get (fun _ => (0 : Byte)) s.mem.track a

/-- Write one byte of track memory. -/
def State.trackWrite (s : State) (a : Nat) (v : Byte) : State :=
  { s with mem := { s.mem with track := Sp.set (fun _ => (0 : Byte)) s.mem.track a v } }

/-- Write track-memory bytes from address `a`. -/
def State.trackPut (s : State) (a : Nat) : List Byte → State
  | [] => s
  | b :: bs => State.trackPut (s.trackWrite a b) (a + 1) bs

/-- A track-memory bank is in retention (TRK_RETMAP). -/
def retFld (m : Nat) : Fld := ⟨0xC0040 + 4 * (m / 32), m % 32, 1⟩

/-- A track-memory bank leaves retention. -/
def State.bankAwake (s : State) (m : Nat) : State :=
  ((s.put (retFld m) 0).put F.TRK_STAT_AWAKE (min (s.fld F.TRK_STAT_AWAKE + 1) 512)).put (awakeBit 0x14) 1

/-- An access finds its bank in retention, and wakes it (R224). -/
def State.wakeBank (s : State) (m : Nat) : State :=
  if s.flag (retFld m) then (s.bankAwake m).raise F.TRK_STAT_RET_HIT else s

/-- Wake the banks of a byte range of track memory. -/
def State.wakeBanks (s : State) (a n : Nat) : State :=
  if n = 0 then s
  else ((List.range 512).filter (fun m => decide (a / 524288 ≤ m) && decide (m ≤ (a + n - 1) / 524288))).foldl
    (fun t m => t.wakeBank m) s

/-! ### Segments -/

/-- Word `w` of a segment's descriptor (R62). -/
def State.dirWord (s : State) (seg w : Nat) : Word := Sp.get (fun _ => (0 : Word)) s.mem.dir (4 * seg + w)

/-- Set a word of a descriptor. -/
def State.setDir (s : State) (seg w : Nat) (v : Word) : State :=
  { s with mem := { s.mem with dir := Sp.set (fun _ => (0 : Word)) s.mem.dir (4 * seg + w) v } }

/-- A segment descriptor (R62). -/
structure Seg where
  base : Nat
  dram : Bool
  refill : Bool
  ready : Bool
  staged : Bool
  owner : Nat
  slen16 : Nat
  gen : Nat
  deriving DecidableEq, Repr

/-- The descriptor that four words spell. -/
def segOf (d0 d1 d2 : Word) : Seg :=
  ⟨d0.toNat, getBits 0 1 d1 = 1, getBits 1 1 d1 = 1, getBits 2 1 d1 = 1, getBits 3 1 d1 = 1, getBits 4 3 d1,
    getBits 8 24 d1, getBits 0 16 d2⟩

/-- The descriptor of a segment. -/
def State.seg (s : State) (k : Nat) : Seg := segOf (s.dirWord k 0) (s.dirWord k 1) (s.dirWord k 2)

/-- A lane of a sequencer (R56): a fine channel with its format, or a bank. -/
inductive Lane where
  | fine (fc fmt : Nat)
  | vec (b : Nat)
  deriving DecidableEq, Repr

/-- Bytes per tick of a format code (R57). -/
def fmtBytes (c : Nat) : Nat :=
  match c with
  | 1 => 4 | 2 => 5 | 3 => 4 | 4 => 5 | 5 => 96 | _ => 0

/-- Bytes per tick of a lane. -/
def Lane.bytes : Lane → Nat
  | .fine _ c => fmtBytes c
  | .vec _ => 96

/-- The format the plan gives a fine channel (0xFF: unused). -/
def State.fmt (s : State) (fc : Nat) : Nat := Sp.get (fun _ => 255) s.plan.lanes fc

/-- The lanes of a sequencer, in lane order (R56). -/
def State.lanesOf (s : State) (n : Nat) : List Lane :=
  ((s.fcsOf n).filter (fun c => decide (s.fmt c ≠ 255))).map (fun c => Lane.fine c (s.fmt c)) ++
    ((List.range 4).filter (fun b => s.ownsBank n b)).map Lane.vec

/-- B: bytes per tick of a sequencer (R61). -/
def lanesBytes (ls : List Lane) : Nat := (ls.map Lane.bytes).sum

/-- A sequencer has an S20 or ENV20 lane (R60). -/
def wide20 (ls : List Lane) : Bool := ls.any (fun l => match l with | .fine _ c => decide (c = 2) || decide (c = 4) | _ => false)

/-- Start of lane `j`'s track within a segment of `len` ticks (R61). -/
def trackStart (ls : List Lane) (len j : Nat) : Nat := len * lanesBytes (ls.take j)

/-- The segment is held in DRAM: MEM = 1 and some lane holds data (R62). -/
def State.segInDram (s : State) (k : Nat) : Bool :=
  let g := s.seg k
  g.dram && decide (0 < lanesBytes (s.lanesOf g.owner))

/-- Bytes of a segment's data (R61). -/
def State.segBytes (s : State) (k : Nat) : Nat :=
  let g := s.seg k
  16 * g.slen16 * lanesBytes (s.lanesOf g.owner)

/-- Read one byte of a segment's data. -/
def State.segRead (s : State) (k ofs : Nat) : Byte :=
  let g := s.seg k
  if s.segInDram k then (s.dramRead (64 * g.base + ofs)).getD 0 else s.trackRead (64 * g.base + ofs)

/-- Write one byte of a segment's data. -/
def State.segWrite (s : State) (k ofs : Nat) (v : Byte) : State :=
  let g := s.seg k
  if s.segInDram k then s.dramWrite (64 * g.base + ofs) v else s.trackWrite (64 * g.base + ofs) v

/-- A DRAM segment touches a channel (R106): some granule of it lies there. -/
def State.segTouches (s : State) (k c : Nat) : Bool :=
  s.segInDram k &&
    (List.range ((s.segBytes k + 63) / 64)).any (fun g =>
      ((s.dramLocs (64 * (s.seg k).base + 64 * g)).any (fun l => decide (l.1 = c))))

/-- A DRAM segment touches a fenced channel. -/
def State.segFenced (s : State) (k : Nat) : Bool :=
  decide (s.fld F.DRAM_STAT_FENCED ≠ 0) && (List.range 8).any (fun c => s.fenced c && s.segTouches k c)

end Sys2Proof.Machine
end

