-- ==== Sys2Proof/Machine/Course.lean ====
section
/-! DEFINITION. Course entries (R67), boundaries and opportunities (R68, R90, R92), activity of segments (R78), staging
(R148–R151), event levels and latches (R115, R116, R121). -/

namespace Sys2Proof.Machine

/-- A course entry (R67). -/
structure Entry where
  seg : Nat
  succ : Nat
  target : Nat
  fallback : Nat
  laps : Nat
  maxExt : Nat
  len16 : Nat
  jmode : Nat
  jsense : Bool
  latch : Nat
  refill : Nat
  jevt : Nat
  endAct : Nat
  prof : Nat
  profEn : Bool
  phase : Bool
  pspace16 : Nat
  pen : Nat
  strobe : Nat
  penLap : Bool
  report : Bool
  captEn : Bool
  consume : Bool
  fbRest : Bool
  valid : Bool
  deriving DecidableEq, Repr

/-- The entry that eight words spell (R67). -/
def entryOf (w : Nat → Word) : Entry where
  seg := getBits 0 16 (w 0)
  succ := getBits 16 16 (w 0)
  target := getBits 0 16 (w 1)
  fallback := getBits 16 16 (w 1)
  laps := getBits 0 24 (w 2)
  maxExt := getBits 24 8 (w 2)
  len16 := getBits 0 24 (w 3)
  jmode := getBits 24 3 (w 3)
  jsense := getBits 27 1 (w 3) = 1
  latch := getBits 28 2 (w 3)
  refill := getBits 30 2 (w 3)
  jevt := getBits 0 6 (w 4)
  endAct := getBits 6 2 (w 4)
  prof := getBits 8 6 (w 4)
  profEn := getBits 14 1 (w 4) = 1
  phase := getBits 15 1 (w 4) = 1
  pspace16 := getBits 16 16 (w 4)
  pen := (w 5).toNat
  strobe := getBits 0 16 (w 6)
  penLap := getBits 16 1 (w 6) = 1
  report := getBits 17 1 (w 6) = 1
  captEn := getBits 18 1 (w 6) = 1
  consume := getBits 19 1 (w 6) = 1
  fbRest := getBits 20 1 (w 6) = 1
  valid := getBits 31 1 (w 6) = 1

/-- Played length of an entry in ticks. -/
def Entry.len (e : Entry) : Nat := 16 * e.len16

/-- Word `w` of entry `e` of SQn's course. -/
def State.crsWord (s : State) (n e w : Nat) : Word :=
  Sp.get (fun _ => (0 : Word)) s.mem.course (8 * (65536 * n + e) + w)

/-- Entry `e` of SQn's course. -/
def State.entry (s : State) (n e : Nat) : Entry := entryOf (s.crsWord n e)

/-- The count of entries of SQn's course. -/
def State.crsCount (s : State) (n : Nat) : Nat := Sp.get (fun _ => 0) s.plan.crsLen n

/-- Staging group of an entry (R148). -/
def State.grpOf (s : State) (n e : Nat) : Nat := Sp.get (fun _ => 0) s.plan.grp (65536 * n + e)

/-- States of SQn_STAT.STATE and of SEQ_STAT.HEAT (R86). -/
abbrev sqIdle : Nat := 0
abbrev sqLoaded : Nat := 1
abbrev sqArmed : Nat := 2
abbrev sqRunning : Nat := 3
abbrev sqPaused : Nat := 4
abbrev sqStopped : Nat := 5

/-- State of a sequencer. -/
def State.sqState (s : State) (n : Nat) : Nat := s.fld (F.SQ_STAT_STATE n)

/-- A sequencer counts as running: ARMED, RUNNING or PAUSED (R86). -/
def State.sqActive (s : State) (n : Nat) : Bool := decide (2 ≤ s.sqState n) && decide (s.sqState n ≤ 4)

/-- Some sequencer is ARMED, RUNNING or PAUSED. -/
def State.anyActive (s : State) : Bool := (List.range 8).any (fun n => s.sqActive n)

/-- SQn belongs to the heat of the loaded plan (R83). -/
def State.inHeat (s : State) (n : Nat) : Bool := bitOf (s.fld F.SEQ_STAT_HEAT_MASK) n

/-- The sequencers of the heat, ascending. -/
def State.heatSqs (s : State) : List Nat := (List.range 8).filter (fun n => s.inHeat n)

/-- The heat tick at which an event registered now counts as seen (R107: k + 1 while paused). -/
def State.seenAt (s : State) : Nat := if s.fld F.SEQ_STAT_HEAT = 4 then s.tm.heat + 1 else s.tm.heat

/-! ### Boundaries -/

/-- Spacing of the opportunities of AT_POINT (R68). -/
def Entry.point (e : Entry) : Nat := 16 * e.pspace16

/-- First tick of the lap that follows position `cur` of a visit. -/
def lapStartAt (e : Entry) (f cur : Nat) : Nat := f + (cur - f) / (max e.len 1) * (max e.len 1)

/-- The next boundary after position `cur`: the lap's end, or an AT_POINT opportunity before it. -/
def nextBoundary (e : Entry) (f cur : Nat) : Nat :=
  let ls := lapStartAt e f cur
  let le := ls + max e.len 1
  if e.jmode = 3 ∧ e.pspace16 ≠ 0 then min le (ls + ((cur - ls) / e.point + 1) * e.point) else le

/-- A boundary is the end of a lap. -/
def isLapEnd (e : Entry) (f o : Nat) : Bool := decide ((o - f) % (max e.len 1) = 0)

/-- A boundary is the end of the last lap (R90); LAPS = 0 has none (R69). -/
def isLastEnd (e : Entry) (f o : Nat) : Bool := decide (e.laps ≠ 0) && decide (o = f + e.laps * e.len)

/-- A boundary is an opportunity of the visit (R68, R92): its commit tick is not before the visit. -/
def isOpp (e : Entry) (f o : Nat) : Bool :=
  decide (f + 48 ≤ o) &&
    match e.jmode with
    | 1 => isLastEnd e f o
    | 2 => isLapEnd e f o
    | 3 => decide (e.pspace16 ≠ 0) && decide ((o - lapStartAt e f (o - 1)) % e.point = 0)
    | _ => false

/-! ### Staging (R148–R151) -/

/-- A segment's starting block is resident for SQn. -/
def State.blockResident (s : State) (n seg : Nat) : Bool :=
  (s.sqn n).resident.any (fun i => match s.plan.stg[i]? with | some r => decide (r.seg = seg) | none => false)

/-- Byte ranges of a segment's starting block (R64): for each lane, its offset in the segment, its offset in the block, its
length. -/
def State.blockParts (s : State) (k : Nat) : List (Nat × Nat × Nat) :=
  let g := s.seg k
  let ls := s.lanesOf g.owner
  let len := 16 * g.slen16
  (List.range ls.length).map (fun j =>
    (trackStart ls len j, trackStart ls (min 256 len) j, min 256 len * ((ls[j]?.map Lane.bytes).getD 0)))

/-- A starting block's source reaches a fenced channel (R106, R242). -/
def State.blockFenced (s : State) (k : Nat) : Bool :=
  (s.blockParts k).any (fun p => decide (p.2.2 ≠ 0) && !s.dramOk (64 * (s.seg k).base + p.1) p.2.2)

/-- The segment of a staging record passes `p`. -/
def State.stgSeg (s : State) (i : Nat) (p : Nat → Bool) : Bool :=
  match s.plan.stg[i]? with
  | some r => p r.seg
  | none => false

/-- The block of a staging record may be copied as READY stands (R151). -/
def State.copyable (s : State) (i : Nat) : Bool := s.stgSeg i (fun k => !(s.seg k).refill || (s.seg k).ready)

/-- READY of the check of R77: READY = 1 of a refillable segment, the starting block resident (R151), and no part of the
segment on a fenced channel (R106). -/
def State.contReady (s : State) (n e : Nat) : Bool :=
  let k := (s.entry n e).seg
  let g := s.seg k
  (!g.refill || g.ready) && (!g.staged || s.blockResident n k) && !s.segFenced k

/-- Staging records of SQn's group `g`, in record order. -/
def State.grpRecs (s : State) (n g : Nat) : List Nat :=
  (List.range s.plan.stg.length).filter (fun i =>
    match s.plan.stg[i]? with | some r => decide (r.sq = n) && decide (r.grp = g) | none => false)

/-- A record's block is the one another record names: same segment and offset. -/
def sameBlock (l : List StgRec) (i j : Nat) : Bool :=
  match l[i]?, l[j]? with
  | some a, some b => decide (a.seg = b.seg) && decide (a.ofs = b.ofs)
  | _, _ => false

/-- The prefetcher starts loading group `g` of SQn (R150, R151), behind what it still loads of the group being left: blocks not
already resident, in record order; a refillable segment that is not READY waits for its READY, and a block on a fenced channel is
not loaded (R242). -/
def State.stageLoad (s : State) (n g : Nat) : State :=
  if g = 0 then s
  else
    let q := s.sqn n
    let held := fun i => q.resident.any (fun j => sameBlock s.plan.stg i j)
    let recs := (s.grpRecs n g).filter (fun i => !held i && !q.loads.contains i && !q.late.contains i
      && !s.stgSeg i (fun k => s.blockFenced k))
    let kept := (s.grpRecs n g).filter (fun i => held i && !q.resident.contains i)
    s.setSq n { q with loads := q.loads ++ recs.filter (fun i => s.copyable i),
                       late := q.late ++ recs.filter (fun i => !s.copyable i), resident := q.resident ++ kept }

/-- Blocks of the group being left are released when the visit begins, unless the entered group or group 0 holds them. -/
def State.stageRelease (s : State) (n g : Nat) : State :=
  let q := s.sqn n
  let keep := s.grpRecs n 0 ++ s.grpRecs n g
  let kept := fun i => keep.any (fun j => decide (j = i) || sameBlock s.plan.stg i j)
  s.setSq n { q with resident := q.resident.filter kept, loads := q.loads.filter kept, late := q.late.filter kept }

/-- The staging group of the entry a sequencer plays. -/
def State.curGrp (s : State) (n : Nat) : Nat :=
  match (s.sqn n).visit with
  | some v => s.grpOf n v.entry
  | none => 0

/-- A record's group is SQn's current group, or that of a visit it has decided on (R150, R151). -/
def State.grpCurrent (s : State) (n g : Nat) : Bool :=
  decide (s.curGrp n = g) || (s.sqn n).next.any (fun d => match d.c with
    | .visit e _ => decide (s.grpOf n e = g)
    | .fallback (some e) _ _ => decide (s.grpOf n e = g)
    | _ => false)

/-- Record `i` of SQn may have its late copy (R151): its segment is READY, its group current, every block ahead copied. -/
def State.lateOk (s : State) (n i : Nat) : Bool :=
  match s.plan.stg[i]? with
  | none => false
  | some r => (s.seg r.seg).ready && s.grpCurrent n r.grp &&
      (s.grpRecs n r.grp).all (fun j => decide (i ≤ j) || (s.sqn n).resident.any (fun k =>
        decide (k = j) || sameBlock s.plan.stg j k))

/-- The staging record whose block SQn's load copies now: the first that READY allows (R150, R151). -/
def State.nextLoad (s : State) (n : Nat) : Option Nat := (s.sqn n).loads.find? (fun i => s.copyable i)

/-- The late copy of SQn that is due. -/
def State.nextLate (s : State) (n : Nat) : Option Nat := (s.sqn n).late.find? (fun i => s.lateOk n i)

/-- SQn's late copy begins as soon as it is due (R151), in a heat. -/
def State.lateNote (s : State) (n : Nat) : State :=
  let q := s.sqn n
  if q.late.isEmpty && q.lateFrom.isNone then s
  else
    let h := s.fld F.SEQ_STAT_HEAT
    match (if h = 3 ∨ h = 4 then s.nextLate n else none) with
    | none => s.setSq n { q with lateFrom := none }
    | some i =>
      if q.lateFrom.any (fun x => decide (x.1 = i)) then s else s.setSq n { q with lateFrom := some (i, s.tm.heat) }

/-- What has become due of every sequencer's late copies begins in the present tick, before time passes. -/
def State.lateNotes (s : State) : State := (List.range 8).foldl (fun t n => t.lateNote n) s

/-- Staging records of SQn whose copy has begun (R150, R151): while the heat runs, for the prefetcher makes no fetch otherwise (R146). -/
def State.copying (s : State) (n : Nat) : List Nat :=
  if s.fld F.SEQ_STAT_HEAT = 3 ∨ s.fld F.SEQ_STAT_HEAT = 4 then (s.nextLoad n).toList ++ (s.nextLate n).toList else []

/-- Staging records of SQn whose blocks are pinned: resident, or being copied (R78, R151). -/
def State.pinnedRecs (s : State) (n : Nat) : List Nat := (s.sqn n).resident ++ s.copying n

/-- A segment's starting block is held or being copied by some sequencer: pinned (R78, R151). -/
def State.pinned (s : State) (seg : Nat) : Bool :=
  (List.range 8).any (fun n => (s.pinnedRecs n).any (fun i =>
    match s.plan.stg[i]? with | some r => decide (r.seg = seg) | none => false))

/-! ### Activity (R78) -/

/-- Segments that the timeline reads ahead for natural successors: the walk from tick `o` to entry `e`, while the first
output lies within the lookahead (R140). -/
def State.lookaheadSegs (s : State) (n : Nat) : Nat → Nat → Nat → List Nat
  | 0, _, _ => []
  | k + 1, o, e =>
    if s.tm.heat + s.plan.look < o then []
    else
      let x := s.entry n e
      x.seg :: (if x.laps = 0 ∨ x.endAct ≠ 0 then [] else State.lookaheadSegs s n k (o + x.laps * x.len) x.succ)

/-- The visits that SQn has decided to begin: entry and first output tick. -/
def State.decided (s : State) (n : Nat) : List (Nat × Nat) :=
  (s.sqn n).next.filterMap (fun d => match d.c with
    | .visit e _ => some (e, d.o)
    | .fallback (some e) _ _ => some (e, d.o)
    | _ => none)

/-- Segments active on account of SQn (R78): playing, decided, or within the lookahead of its natural continuation, which goes on from
the last visit decided. -/
def State.sqSegs (s : State) (n : Nat) : List Nat :=
  if !(decide (s.sqState n = sqRunning) || decide (s.sqState n = sqPaused)) then []
  else
    let q := s.sqn n
    let after := fun (e o : Nat) => let x := s.entry n e
      if x.laps = 0 ∨ x.endAct ≠ 0 then [] else s.lookaheadSegs n 130 (o + x.laps * x.len) x.succ
    let decided := (s.decided n).map (fun d => (s.entry n d.1).seg)
    let leaving := q.next.any (fun d => match d.c with | .go => false | _ => true)
    let ahead := match (s.decided n).getLast?, q.visit with
      | some d, _ => after d.1 d.2
      | none, some v =>
        if leaving ∨ q.hold ≠ none then []
        else match q.pend with
          | some e => s.lookaheadSegs n 130 (lapStartAt (s.entry n v.entry) v.f v.cur + max (s.entry n v.entry).len 1) e
          | none => after v.entry v.f
      | none, none => []
    (match q.visit with
      | some v => if v.f ≤ s.tm.heat ∧ q.hold = none then [(s.entry n v.entry).seg] else []
      | none => []) ++ decided ++ ahead

/-- A segment is active (R78). -/
def State.segActive (s : State) (seg : Nat) : Bool :=
  s.pinned seg || (List.range 8).any (fun n => (s.sqSegs n).contains seg)

/-! ### READY (R76) -/

/-- A generation of a refillable segment completes: READY is set and GEN increases by one. -/
def State.completeGen (s : State) (k : Nat) : State :=
  let s1 := s.setDir k 1 (setBits 2 1 1 (s.dirWord k 1))
  s1.setDir k 2 (setBits 0 16 ((s.seg k).gen + 1) (s1.dirWord k 2))

/-- READY of a segment is cleared. -/
def State.clearReady (s : State) (k : Nat) : State := s.setDir k 1 (setBits 2 1 0 (s.dirWord k 1))

/-! ### Events -/

/-- Source, kind and route of EVn (EVT_MAP, R114). -/
def State.evSrc (s : State) (n : Nat) : Nat := s.fld (F.EVT_MAP_SRC n)

@[inherit_doc State.evSrc] def State.evLevelKind (s : State) (n : Nat) : Bool := s.flag (F.EVT_MAP_KIND n)

@[inherit_doc State.evSrc] def State.evRouted (s : State) (n sq : Nat) : Bool := bitOf (s.fld (F.EVT_MAP_ROUTE n)) sq

/-- The value of a level source in the present tick (R115). -/
def State.srcLevel (s : State) (n src : Nat) : Bool :=
  if 0x01 ≤ src ∧ src ≤ 0x10 then bitOf s.ev.tiLvl (src - 1)
  else match src with
    | 0x20 => bitOf (s.rd (if n < 32 then 0x30018 else 0x3001C)).toNat (n % 32)
    | 0x40 => s.flag F.MIR_STAT_PFAULT_NOW
    | 0x41 => s.flag F.MIR_STAT_HB_NOW
    | 0x50 => s.flag F.SUP_STAT_OT_NOW
    | 0x51 => s.flag F.CLK_STAT_COAST
    | 0x52 => (List.range 8).any (fun p => s.flag (F.DRAM_PORT_PANIC p))
    | _ => if 0x58 ≤ src ∧ src ≤ 0x5F then s.flag (F.SQ_STAT_HELD (src - 0x58)) else false

/-- The value of a level event as a sequencer sees it. -/
def State.evLevel (s : State) (n : Nat) : Bool := s.evLevelKind n && s.srcLevel n (s.evSrc n)

/-- The latch bit of EVn in SQn (SQn_LATCH). -/
def latchFld (sq ev : Nat) : Fld :=
  if ev < 32 then ⟨0x20110 + 0x40 * sq, ev, 1⟩ else ⟨0x20114 + 0x40 * sq, ev - 32, 1⟩

/-- A pulse of EVn counts as seen in the present heat tick (R72, R107, R112): in a pause, whose acceptance tick is k, one of tick k or of
the pause, which counts as seen at k + 1. -/
def State.justSeen (s : State) (ev : Nat) : Bool :=
  if s.fld F.SEQ_STAT_HEAT = 4 then bitOf s.ev.paused ev || bitOf s.ev.pauseSeen ev
  else (decide (s.ev.seenTick = s.tm.tb) && bitOf s.ev.seen ev) || (decide (s.ev.pauseTick = s.tm.tb) && bitOf s.ev.pauseSeen ev)

/-- SQn's latch of a pulse event is set. -/
def State.latched (s : State) (sq ev : Nat) : Bool := s.flag (latchFld sq ev)

/-- The condition of an entry is met at a commit tick (R93): a set latch, or a level that matches JSENSE. -/
def State.condMet (s : State) (n : Nat) (e : Entry) : Bool :=
  if !s.evRouted e.jevt n then (s.evLevelKind e.jevt && !e.jsense)
  else if s.evLevelKind e.jevt then decide (s.evLevel e.jevt = e.jsense)
  else s.latched n e.jevt

/-- A pulse seen by SQn latches, or merges with a set latch (R93). -/
def State.latchPulse (s : State) (n ev : Nat) : State :=
  if s.latched n ev then (s.bump (F.SQ_CNT_MERGE_COUNT n)).raise (F.SQ_FLAGS_LATCH_MERGE n)
  else s.raise (latchFld n ev)


end Sys2Proof.Machine
end

