-- ==== Sys2Proof/Machine/Operands.lean ====
section
/-! DEFINITION. The arithmetic of the outputs: sample formats (R58), NCO, gain and offset (R169–R173), vector codes and
comparator states (R192–R194), delays that approach their trims (R182, R197). -/

namespace Sys2Proof.Machine

/-- sat20 (R169): limit to −524,288 … +524,287. -/
def sat20 (v : Int) : Int := max (-524288) (min 524287 v)

/-- Round a quotient to the nearest integer, ties away from zero (R169); the divisor is positive. -/
def roundDiv (a b : Int) : Int := if 0 ≤ a then (2 * a + b) / (2 * b) else -((2 * (-a) + b) / (2 * b))

/-- Gain and offset (R170). -/
def gainOfs (y : Int) (gain : Nat) (ofs : Int) : Int := sat20 (roundDiv (y * gain) 131072 + ofs)

/-- Whether R170 saturates. -/
def gainSat (y : Int) (gain : Nat) (ofs : Int) : Bool := decide (roundDiv (y * gain) 131072 + ofs ≠ gainOfs y gain ofs)

/-- A field of a track treated as one little-endian value: `w` bits from bit `lo` (R58). `rb` reads the track's bytes. -/
def trackBits (rb : Nat → Byte) (lo w : Nat) : Nat :=
  let b0 := lo / 8
  let n := (lo + w + 7) / 8 - b0
  (leNat ((List.range n).map (fun i => rb (b0 + i))) >>> (lo % 8)) % 2 ^ w

/-- Sample `i` of a DIRECT track (R58): S16 values are times 16. -/
def directSample (rb : Nat → Byte) (fmt i : Nat) : Int :=
  if fmt = 1 then 16 * signed 16 (trackBits rb (16 * i) 16)
  else signed 20 (trackBits (fun x => rb (320 * (i / 128) + x)) (20 * (i % 128)) 20)

/-- Envelope sample `i` of a CARRIER track (R58): its I and Q. -/
def envSample (rb : Nat → Byte) (fmt i : Nat) : Int × Int :=
  if fmt = 3 then (16 * signed 16 (trackBits rb (32 * i) 16), 16 * signed 16 (trackBits rb (32 * i + 16) 16))
  else
    let rb' := fun x => rb (320 * (i / 64) + x)
    (signed 20 (trackBits rb' (40 * (i % 64)) 20), signed 20 (trackBits rb' (40 * (i % 64) + 20) 20))

/-- Code of pin `p` in vector `v` of tick `t` of a VEC track (R58). -/
def vecCode (rb : Nat → Byte) (t v p : Nat) : Nat := trackBits (fun x => rb (12 * (8 * t + v) + x)) (3 * p) 3

/-- The track of lane `j` in a segment, byte by byte (R61); `ls` are the lanes of the segment's owner. -/
def State.trackOf (s : State) (ls : List Lane) (k j : Nat) : Nat → Byte :=
  fun x => s.segRead k (trackStart ls (16 * (s.seg k).slen16) j + x)

/-! ### What a sequencer plays -/

/-- What SQn plays at output tick `h` of the heat: the visit, and the ticks since its first; none while it holds or does not play. -/
def State.playedAt (s : State) (n h : Nat) : Option (Visit × Nat) :=
  let q := s.sqn n
  let before := (q.past.find? (fun p => decide (p.v.f ≤ h) && decide (h < p.stop))).map (fun p => (p.v, h - p.v.f))
  match q.visit with
  | some v =>
    if v.f ≤ h then (if (match q.hold with | some d => decide (h < d.o) | none => true) then some (v, h - v.f) else none) else before
  | none => before

/-- The track of lane `j` of SQn in the lap of visit `v` that holds the visit's tick `d` (R98): the first min(256, L) ticks of the
first lap of a visit begun other than as a natural successor come from the starting block. -/
def State.lapTrack (s : State) (n : Nat) (ls : List Lane) (v : Visit) (d j : Nat) : Nat → Byte :=
  let e := s.entry n v.entry
  let first := min 256 e.len
  let t := ((ls[j]?).map Lane.bytes).getD 0
  let blk := min 256 (16 * (s.seg e.seg).slen16)
  match v.blk with
  | some a =>
    if d < e.len then fun x => if x < first * t then s.trackRead (a + trackStart ls blk j + x) else s.trackOf ls e.seg j x
    else s.trackOf ls e.seg j
  | none => s.trackOf ls e.seg j

/-- Offset in its lap of a visit's tick `d`. -/
def State.lapOfs (s : State) (n : Nat) (v : Visit) (d : Nat) : Nat := d % max (s.entry n v.entry).len 1

/-- Timebase of heat tick `h`, as a preset has moved it since. -/
def State.tickNow (s : State) (h : Nat) : Int :=
  match s.tm.past.reverse.find? (fun x => decide (h < x.stop)) with
  | some x => x.base + h
  | none => (s.tm.tb : Int) - s.tm.heat + h

/-- Timebase of heat tick `h`, as it was in that tick. -/
def State.tickThen (s : State) (h : Nat) : Nat :=
  match s.tm.past.reverse.find? (fun x => decide (h < x.stop)) with
  | some x => (x.stamp + h).toNat
  | none => s.tm.tb + h - s.tm.heat

/-- The value of a register in force at the outputs at output tick `h` of the heat (R189, R201). -/
def State.outAt (s : State) (a h : Nat) : Word :=
  match (s.was.filter (fun x => decide (x.2.1 = a) && decide (s.tickNow h < x.1))).getLast? with
  | some x => x.2.2
  | none => Sp.get resetOf s.outs a

/-! ### The NCO -/

/-- 2^64 × 2π. -/
def twoPi64 : Int := 115904311329233965478

/-- The power series of cosine or sine, in units of 2^−64: `k` terms from term `t` of order `i`. -/
def series (x : Int) : Nat → Nat → Int → Int
  | 0, _, _ => 0
  | k + 1, i, t => t + series x k (i + 2) (-(t * x / 2 ^ 64 * x / 2 ^ 64) / ((i + 1) * (i + 2)))

/-- Cosine and sine of `a` × 2^−24 turn, up to an eighth of a turn, in units of 2^−40. -/
def octant (a : Nat) : Int × Int :=
  let x := twoPi64 * a / 2 ^ 24
  (series x 14 0 (2 ^ 64) / 2 ^ 24, series x 14 1 x / 2 ^ 24)

/-- Cosine and sine of `p` × 2^−24 turn in units of 2^−40, to within 2^−38 (R169). -/
def cosSin (p : Nat) : Int × Int :=
  let q := p / 2 ^ 21 % 8
  let r := p % 2 ^ 21
  let (c, d) := octant (if q % 2 = 0 then r else 2 ^ 21 - r)
  let (u, v) := if q % 4 = 0 ∨ q % 4 = 3 then (c, d) else (d, c)
  (if q = 2 ∨ q = 3 ∨ q = 4 ∨ q = 5 then -u else u, if 4 ≤ q then -v else v)

/-- A spurious product below −140 dBFS, in units of 2^−40 (R173). -/
def spur (v : Int) : Int := max (-109951) (min 109951 v)

/-- The phase-to-amplitude stage (R169, R173), in units of 2^−40 of full scale: the cosine and the sine of the upper 24 bits of θ, with
what its spurious products add (log 5). -/
def cosStage (p : BitVec 24) : Int := (cosSin p.toNat).1 + spur (Config.cosSpur p)

@[inherit_doc cosStage] def sinStage (p : BitVec 24) : Int := (cosSin p.toNat).2 + spur (Config.sinSpur p)

/-- The NCO accumulator at fine sample `n` (R173): coherent from the timebase, or carried on from `n0`, also to the sample before it. -/
def Fc.accAt (c : Fc) (rule : Nat) (n : Int) : Nat :=
  if rule = 0 then ((c.ftw * n) % 2 ^ 48).toNat else ((c.acc + c.ftw * (n - c.n0)) % 2 ^ 48).toNat

/-- θ (R173). -/
def Fc.theta (c : Fc) (rule n : Nat) : Nat := (c.accAt rule n / 2 ^ 16 + c.pofs) % 2 ^ 32

/-- The upper 24 bits of θ that the phase-to-amplitude stage uses (R173). -/
def Fc.phase24 (c : Fc) (rule n : Nat) : BitVec 24 := BitVec.ofNat 24 (c.theta rule n / 256)

/-- TONE before sat20 (R169): round(a × 524,288 × cos), a = AMP / 2^20. -/
def Fc.tone (c : Fc) (rule n : Nat) : Int := roundDiv (c.amp * cosStage (c.phase24 rule n)) (2 ^ 41)

/-- CARRIER before sat20 (R169): round(a (i cos − q sin)). -/
def Fc.carrier (c : Fc) (rule n : Nat) (i q : Int) : Int :=
  roundDiv (c.amp * (i * cosStage (c.phase24 rule n) - q * sinStage (c.phase24 rule n))) (2 ^ 60)

/-- The envelope samples about output tick `h` of lane `j` of SQn, earliest first: 32 up to the tick's own, as they were played, and
32 after it, as if the lap were played again and again. Which samples the half-band filter of R169 looks at, the spec does not say:
the model's choice (log 5). -/
def State.envAbout (s : State) (n j fmt h : Nat) : List (Int × Int) :=
  let ls := s.lanesOf n
  let at' := fun (x : Visit × Nat) => envSample (s.lapTrack n ls x.1 x.2 j) fmt (s.lapOfs n x.1 x.2)
  (List.range 32).map (fun i => match (if i + h < 31 then none else s.playedAt n (i + h - 31)) with
    | some x => at' x
    | none => (0, 0)) ++
  (List.range 32).map (fun i => match s.playedAt n h with
    | some x => at' (x.1, x.2 + 1 + i)
    | none => (0, 0))

/-- y before sat20 (R169) of channel `fc`, lane `j` of SQn with format `fmt`, for sample `b` of output tick `h`, in which SQn plays
tick `d` of visit `v`. -/
def State.fineY (s : State) (n fc fmt j h : Nat) (v : Visit) (d b : Nat) : Int :=
  let c := s.fcn fc
  let rule := s.fld (F.FC_STAT_RULE fc)
  let m := 2 * s.tickThen h + b
  if fmt = 0 then c.tone rule m
  else
    let rb := s.lapTrack n (s.lanesOf n) v d j
    let t := s.lapOfs n v d
    if fmt = 1 ∨ fmt = 2 then directSample rb fmt (2 * t + b)
    else if b = 0 then
      let e := envSample rb fmt t
      c.carrier rule m e.1 e.2
    else
      let l := s.envAbout n j fmt h
      c.carrier rule m (Config.halfBand (l.map (fun x => x.1))) (Config.halfBand (l.map (fun x => x.2)))

/-- GAIN and OFFSET of a channel as in force at output tick `h` (R170, R189). -/
def State.gainOf (s : State) (fc h : Nat) : Nat × Int :=
  (getBits 0 18 (s.outAt (F.FC_GAIN_GAIN fc).a h), signed 20 (getBits 0 20 (s.outAt (F.FC_OFS_OFFSET fc).a h)))

/-- The output sample z (R169, R170), and whether sat20 acts on it. -/
def State.fineZ (s : State) (n fc fmt j h : Nat) (v : Visit) (d b : Nat) : Int × Bool :=
  let y := s.fineY n fc fmt j h v d b
  let g := s.gainOf fc h
  (gainOfs (sat20 y) g.1 g.2, decide (y ≠ sat20 y) || gainSat (sat20 y) g.1 g.2)

/-! ### Interpolation, modulator and legs (R177–R180) -/

/-- The codes that the 16x interpolator gives in a tick, before its saturation; `hist` are the latest codes at its input, newest first. -/
def interpRaw (bw : Nat) (hist : List Int) : List Int := (List.range 32).map (fun m => Config.interp bw hist m)

/-- The unit elements that a level uses, and the pointer after it (R179): DWA, DWA with a dither of 0 or 1, or fixed order. -/
def demStep (dem ptr level dither : Nat) : List Nat × Nat :=
  if dem = 2 then (List.range level, ptr)
  else
    let p := if dem = 1 then ptr + dither else ptr
    ((List.range level).map (fun i => (p + i) % 7), (p + level) % 7)

/-- The elements of one tick: a level and a dither for each of its samples. -/
def demTick (dem : Nat) (ptr : Nat) (l : List (Nat × Nat)) : List Nat × Nat :=
  l.foldl (fun x d => demStep dem x.2 d.1 d.2) ([], ptr)

/-- Ideal leg currents of an interpolated code, in mA (R180): P and N. -/
def legs (c : Int) : Rat × Rat := (10 * (1 + (c : Rat) / 524288), 10 * (1 - (c : Rat) / 524288))

/-- A delay that approaches its trim by one step per sample or vector (R182, R197). -/
def ramp (start target : Int) (n0 n : Nat) : Int :=
  if start ≤ target then min target (start + (n - n0 : Nat)) else max target (start - (n - n0 : Nat))

/-- The drive state after a vector code (R192): 0 low, 1 high, 2 off. -/
def driveAfter (code drive : Nat) : Nat :=
  match code with
  | 0 => 0
  | 1 => 1
  | 2 => 2
  | 3 => drive
  | 7 => drive
  | _ => 2

/-- The state that a comparator pair resolves for a voltage in microvolts at the pin, from thresholds in millivolts (R193): MID unless
both comparators agree on HIGH or on LOW. -/
def compOf (lo hi : Nat) (uv : Int) : Comp :=
  if (1000 * hi : Int) < uv then (if uv < 1000 * lo then .mid else .high) else if uv < 1000 * lo then .low else .mid

/-- A code is compared (R192). -/
def compared (code : Nat) : Bool := decide (4 ≤ code) && decide (code ≤ 6)

/-- A compared vector fails (R194): the state resolved is not the expected one. -/
def fails (code : Nat) (st : Comp) : Bool :=
  match code, st with
  | 4, .low => false
  | 5, .high => false
  | 6, .mid => false
  | 4, _ => true
  | 5, _ => true
  | 6, _ => true
  | _, _ => false

/-- The COMP code of a comparator state (VPn_STAT). -/
def compCode : Comp → Nat
  | .low => 0
  | .mid => 1
  | .high => 3

end Sys2Proof.Machine
end

