-- ==== Sys2Proof/Machine/Strobe.lean ====
section
/-! DEFINITION. Buffered configuration and update strobes (R284, R285, R189, R201), and profile switches (R173–R175). -/

namespace Sys2Proof.Machine

/-- A block or instance with buffered configuration (R273, R284): its CFG_MODE register and the registers that hold
buffered fields. -/
structure BufInst where
  mode : Nat
  addrs : List Nat
  deriving DecidableEq, Repr

/-- The fine channel's instance. -/
def bufFc (n : Nat) : BufInst := ⟨0x8003C + 0x400 * n, [0x80008 + 0x400 * n, 0x8000C + 0x400 * n, 0x80010 + 0x400 * n]⟩

/-- The bank's instance: levels, thresholds and trims of its pins. -/
def bufVb (b : Nat) : BufInst :=
  ⟨0x9803C + 0x40 * b, (List.range 32).flatMap (fun j =>
    let a := 0x90000 + 0x100 * (32 * b + j)
    [a + 0x04, a + 0x08, a + 0x0C, a + 0x10])⟩

/-- Capture and fail log: the fail-log masks. -/
def bufCapt : BufInst := ⟨0xA003C, [0xA0010, 0xA0014, 0xA0018, 0xA001C]⟩

/-- The blocks that obey group 0 (R284): CLK, SEQ, EVT, TRACK, DRAM, BATON, the data ports, SUP, SYNC. -/
def bufGroup0 : List BufInst :=
  [⟨0x1003C, [0x1000C, 0x10000]⟩,
   ⟨0x2003C, (List.range 8).flatMap (fun n => [0x20118 + 0x40 * n, 0x2011C + 0x40 * n])⟩,
   ⟨0x3003C, (List.range 32).flatMap (fun n => [0x30404 + 0x10 * n, 0x30408 + 0x10 * n])⟩,
   ⟨0xC003C, [0xC0004]⟩, ⟨0xB003C, [0xB000C]⟩, ⟨0xD003C, [0xD0008, 0xD000C, 0xD0018, 0xD001C]⟩,
   ⟨0xE003C, [0xE0018]⟩, ⟨0xE103C, [0xE1018]⟩, ⟨0x12003C, [0x120008]⟩, ⟨0x14003C, [0x14000C]⟩]

/-- Every instance. -/
def bufAll : List BufInst :=
  bufGroup0 ++ (List.range 64).map bufFc ++ (List.range 4).map bufVb ++ [bufCapt]

/-- The instance whose CFG_MODE lies at an address, or whose buffered registers include it. -/
def bufOfMode (a : Nat) : Option BufInst := bufAll.find? (fun b => b.mode == a)

@[inherit_doc bufOfMode] def bufOfReg (a : Nat) : Option BufInst := bufAll.find? (fun b => b.addrs.contains a)

/-- The buffered bits of a register. -/
def bufMask (a : Nat) : Word :=
  match findReg a with
  | some r => BitVec.ofNat 32 r.buf
  | none => 0

/-- A register whose copied or written value reaches the outputs 48 ticks later (R189, R201). -/
def atOutputs (a : Nat) : Bool :=
  (decide (0x80000 ≤ a) && decide (a < 0x90000) && ((a % 0x400) == 0x08 || (a % 0x400) == 0x0C || (a % 0x400) == 0x10)) ||
  (decide (0x90000 ≤ a) && decide (a < 0x98000) &&
    ((a % 0x100) == 0x04 || (a % 0x100) == 0x08 || (a % 0x100) == 0x0C || (a % 0x100) == 0x10)) ||
  (decide (0xA0010 ≤ a) && decide (a < 0xA0020))

/-- A working value takes effect at the outputs from output tick `k + 48` for a write or strobe of timebase tick `k`. -/
def State.schedule (s : State) (k a : Nat) (v : Word) : State :=
  if atOutputs a then { s with eff := s.eff ++ [⟨k + 48, a, v⟩] } else s

/-- A register takes the buffered bits of its shadow in tick `k` (R284). -/
def State.copyShadow (s : State) (k a : Nat) : State :=
  match s.shadowOf a with
  | none => s
  | some v =>
    let w := (s.rd a &&& ~~~ bufMask a) ||| (v &&& bufMask a)
    (s.wr a w).schedule k a w

/-- A strobe of tick `k` copies every shadow of an instance at once, where it is buffered. -/
def State.copyInst (s : State) (k : Nat) (b : BufInst) : State :=
  if getBits 0 1 (s.rd b.mode) = 1 then b.addrs.foldl (fun t a => t.copyShadow k a) s else s

/-- Profile `p` of FCn as the table holds it: FTW, POFS, AMP (R171, R176). -/
def State.profWord (s : State) (n p w : Nat) : Word := Sp.get (fun _ => (0 : Word)) s.mem.prof (256 * n + 4 * p + w)

/-- A switch to a profile, loaded from the table as it stands now (R173). -/
def State.mkSw (s : State) (n kind tick prof rule : Nat) : Sw :=
  ⟨kind, tick, prof, rule, (s.profWord n prof 0).toNat + 2 ^ 32 * getBits 0 16 (s.profWord n prof 1),
    (s.profWord n prof 2).toNat, getBits 0 20 (s.profWord n prof 3)⟩

/-- Append a switch to a channel's list. -/
def State.addSw (s : State) (n : Nat) (w : Sw) : State :=
  let c := s.fcn n
  s.setFc n { c with sw := c.sw ++ [w] }

/-- A switch takes effect at fine sample 2 × `tb` (R173): working copy, rule, and the accumulator of the continuous rule. In a pause of
its sequencer a continuous lane's accumulator stands (R175): the switch acts on the sample with which it goes on. -/
def State.applySw (s : State) (n tb : Nat) (w : Sw) : State :=
  let c := s.fcn n
  let rule := s.fld (F.FC_STAT_RULE n)
  let stands := decide (rule ≠ 0) && s.fld F.SEQ_STAT_HEAT = 4 &&
    match s.fcOwner n with | some q => decide (s.fld (F.SQ_STAT_STATE q) = 4) | none => false
  let n1 := if stands then c.n0 else 2 * tb
  let acc := if w.rule = 0 ∨ w.kind = 3 then 0 else (c.accAt rule ((n1 : Int) - 1) + w.ftw) % 2 ^ 48
  let s1 := s.setFc n { c with ftw := w.ftw, pofs := w.pofs, amp := w.amp, acc := acc, n0 := n1,
                               sw := c.sw.filter (fun x => decide (x ≠ w)) }
  (s1.put (F.FC_STAT_PROF n) w.prof).put (F.FC_STAT_RULE n) w.rule

/-- Whether a channel runs its NCO: a TONE or CARRIER lane of the loaded plan (R73, R174). -/
def State.usesNco (s : State) (n : Nat) : Bool :=
  decide (s.fmt n = 0) || decide (s.fmt n = 3) || decide (s.fmt n = 4)

/-! ### Delay elements (R182, R197, R339) -/

/-- Align trim of index `j`, in 0.5 ps steps (R341). -/
def State.alignTrim (s : State) (j : Nat) : Int := Sp.get (fun _ => (0 : Int)) s.mir.align j

/-- The user trim of index `j` of R341, as in force at the outputs: FCj, the drive of VP(j − 64), the strobe of VP(j − 192), or
PN(j − 320). -/
def State.userTrim (s : State) (j : Nat) : Int :=
  let t := fun (f : Fld) => signed 13 (getBits 0 13 (Sp.get resetOf s.outs f.a))
  if j < 64 then t (F.FC_DLY_TRIM j)
  else if j < 192 then t (F.VP_DRV_TRIM_TRIM (j - 64))
  else if j < 320 then t (F.VP_STB_TRIM_TRIM (j - 192))
  else signed 13 (s.fld (F.PN_TRIM_TRIM (j - 320)))

/-- The sum of the three trims of an output (R339). -/
def State.trimSum (s : State) (j : Nat) : Int := s.alignTrim j + s.userTrim j + signed 13 (s.fld F.SYNC_DEV_OFS_OFS)

/-- The setting of a delay element: the sum, limited to ±2 ns. -/
def State.trimTarget (s : State) (j : Nat) : Int := max (-4000) (min 4000 (s.trimSum j))

/-- Start the move of output `j`'s delay towards a new setting at tick `k`; `old` is the state before the change. -/
def State.moveDelay (s : State) (old : State) (j k : Nat) : State :=
  if j < 64 then
    let c := s.fcn j
    s.setFc j { c with dlyFrom := ramp c.dlyFrom (old.trimTarget j) c.dlyN0 (2 * k), dlyN0 := 2 * k }
  else if j < 320 then
    let n := (j - 64) % 128
    let c := Sp.get (fun _ => ({} : Vp)) s.vp n
    let c' := if j < 192 then
        { c with drvFrom := ramp c.drvFrom (old.trimTarget j) c.drvN0 (8 * k), drvN0 := 8 * k }
      else { c with stbFrom := ramp c.stbFrom (old.trimTarget j) c.stbN0 (8 * k), stbN0 := 8 * k }
    { s with vp := Sp.set (fun _ => ({} : Vp)) s.vp n c' }
  else s

/-- The delay elements follow the trims that have changed since `old`, from tick `k`; a clamped sum sets CLAMP (R339). -/
def State.retrim (s : State) (old : State) (k : Nat) : State :=
  (List.range 352).foldl (fun t j =>
    if s.trimSum j = old.trimSum j then t
    else
      let t1 := t.moveDelay old j k
      if 4000 < (s.trimSum j).natAbs then t1.raise F.SYNC_STAT_CLAMP else t1) s

/-- The profile and rule that a channel will have at output tick k + 48 by the switches that stand now: those on their way take
effect before (R189); in a pause none of them does. -/
def State.profAhead (s : State) (n : Nat) : Nat × Nat :=
  match (if s.fld F.SEQ_STAT_HEAT = 4 then [] else (s.fcn n).sw.filter (fun w => decide (w.kind ≠ 2))).getLast? with
  | some w => (w.prof, w.rule)
  | none => (s.fld (F.FC_STAT_PROF n), s.fld (F.FC_STAT_RULE n))

/-- A strobe of group `g` in timebase tick `k` (R285): the fine channels and banks that name it, the fail-log masks, and every other
block if it is group 0. A channel with PROF_ON_STROBE reloads its active profile from output tick k + 48 (R189). -/
def State.strobe (s : State) (k g : Nat) : State :=
  let s1 := if g = 0 then (bufGroup0.foldl (fun t b => t.copyInst k b) s).retrim s k else s
  let s2 := (List.range 64).foldl (fun t n =>
    if t.fld (F.FC_CFG_STRB_GRP n) = g then
      let t1 := t.copyInst k (bufFc n)
      if t1.flag (F.FC_CFG_PROF_ON_STROBE n) && t1.usesNco n then
        t1.addSw n (t1.mkSw n 2 (k + 48) (t1.profAhead n).1 (t1.profAhead n).2)
      else t1
    else t) s1
  let s3 := (List.range 4).foldl (fun t b =>
    if t.fld (F.VB_CFG_STRB_GRP b) = g then t.copyInst k (bufVb b) else t) s2
  if s3.fld F.CAPT_CTRL_STRB_GRP = g then s3.copyInst k bufCapt else s3

/-- Strobes in timebase tick `k` of every group in a mask, each once (R285). -/
def State.strobesAt (s : State) (k m : Nat) : State :=
  ((List.range 16).filter (fun g => bitOf m g)).foldl (fun t g => t.strobe k g) s

/-- Strobes of every group in a mask in the present tick. -/
def State.strobes (s : State) (m : Nat) : State := s.strobesAt s.tm.tb m

/-- Writing CFG_MODE (R284): BUFFERED = 0 copies pending shadows at once; BUFFERED = 1 loads the shadows from the working
values. -/
def State.setMode (s : State) (b : BufInst) (on : Bool) : State :=
  if on then (b.addrs.foldl (fun t a => t.setShadow a (some (t.rd a))) s).wr b.mode 1
  else
    let s1 := s.copyInst s.tm.tb b
    ((b.addrs.foldl (fun t a => t.setShadow a none) s1).wr b.mode 0).retrim s s.tm.tb

/-- A configuration write whose value has passed its checks: to the shadow where the instance is buffered, else to the
working register and, for an output's register, to the outputs 48 ticks later (R284, R189, R201). The bits that are not
buffered act at once. -/
def State.cfgWrite (s : State) (a : Nat) (v : Word) : State :=
  match s.shadowOf a with
  | none => (s.wr a v).schedule s.tm.tb a v
  | some sh =>
    let m := bufMask a
    let s1 := s.setShadow a (some ((sh &&& ~~~ m) ||| (v &&& m)))
    s1.wr a ((s1.rd a &&& m) ||| (v &&& ~~~ m))

/-- What a read of a register with buffered fields returns: the shadow of those fields (R284). -/
def State.cfgRead (s : State) (a : Nat) : Word :=
  match s.shadowOf a with
  | none => s.rd a
  | some sh => (s.rd a &&& ~~~ bufMask a) ||| (sh &&& bufMask a)

/-- A word written to a register under its field types (R13): RW bits take the value, W1C bits clear where 1 is written,
every other bit keeps its value. -/
def mergeWrite (r : RegRow) (old v : Word) : Word :=
  let rw := BitVec.ofNat 32 r.rw
  let w1c := BitVec.ofNat 32 r.w1c
  (old &&& ~~~ rw &&& ~~~ w1c) ||| (v &&& rw) ||| (old &&& w1c &&& ~~~ v)

/-- A write that acts under the field types alone (R13, R284). -/
def State.plain (s : State) (a : Nat) (v : Word) : State :=
  match findReg a with
  | none => s
  | some r => s.cfgWrite a (mergeWrite r (s.cfgRead a) v)

/-- Command bits of a written word: the positions of `l` that are 1 (R282). -/
def cmdBits (l : List Nat) (v : Word) : List Nat := l.filter (fun i => bitOf v.toNat i)

/-- The judgement of R282 for a unit's command bits: more than one, RANGE; BUSY; else the command itself. -/
def State.command (s : State) (st : Fld) (busy : Bool) (l : List Nat) (v : Word) (run : Nat → State → State) : State :=
  match cmdBits l v with
  | [] => s
  | [i] => if busy then s.put st stBusy else run i s
  | _ => s.put st stRange

/-- One bank of capture and fail log. -/
def State.capt (s : State) (b : Nat) : CaptBank := Sp.get (fun _ => ({} : CaptBank)) s.cap.banks b

/-- Set one bank of capture and fail log. -/
def State.setCapt (s : State) (b : Nat) (c : CaptBank) : State :=
  { s with cap := { s.cap with banks := Sp.set (fun _ => ({} : CaptBank)) s.cap.banks b c } }

/-- A value due at the outputs takes effect there; delays start towards their new trims. -/
def State.applyEff (s : State) (x : Eff) : State :=
  ({ s with outs := Sp.set resetOf s.outs x.a x.v,
            was := ((x.tick : Int), x.a, Sp.get resetOf s.outs x.a) :: s.was }).retrim s x.tick

end Sys2Proof.Machine
end

