-- ==== Sys2Proof/Machine/Frames.lean ====
section
/-! DEFINITION. Frames the device sends, checks over them (R133, R343), and the level of OUT_EN (R342, R348). -/

namespace Sys2Proof.Machine

/-- One bit of a reflected CRC-32C (R133: polynomial 0x1EDC_6F41). -/
def crc32cBit (c : Nat) : Nat := if c % 2 = 1 then (c / 2) ^^^ 0x82F63B78 else c / 2

/-- One byte of a CRC-32C. -/
def crc32cByte (c : Nat) (b : Byte) : Nat := (List.range 8).foldl (fun x _ => crc32cBit x) (c ^^^ b.toNat)

/-- A CRC-32C over bytes, one after the other; each remainder is a number before the next byte is taken, so that the kernel
evaluates a long list in small steps. -/
def crc32cFold : List Byte → Nat → Nat
  | [], c => c
  | b :: bs, c =>
    match crc32cByte c b with
    | 0 => crc32cFold bs 0
    | n + 1 => crc32cFold bs (n + 1)

/-- CRC-32C: initial value and final exclusive-OR 0xFFFF_FFFF (R133). -/
def crc32c (bs : List Byte) : BitVec 32 := BitVec.ofNat 32 (crc32cFold bs 0xFFFFFFFF) ^^^ 0xFFFFFFFF#32

/-- One byte of the mirror link's CRC-16: polynomial 0x1021, most significant bit first (R343). -/
def crc16Byte (c : BitVec 16) (b : Byte) : BitVec 16 :=
  (List.range 8).foldl (fun x _ => if x.getLsbD 15 then (x <<< 1) ^^^ 0x1021#16 else x <<< 1) (c ^^^ (b.setWidth 16 <<< 8))

/-- CRC-16 with initial value 0xFFFF (R343). -/
def crc16 (bs : List Byte) : BitVec 16 := bs.foldl crc16Byte 0xFFFF#16

/-- Pad or cut a byte list to a length. -/
def padTo (n : Nat) (bs : List Byte) : List Byte := (bs ++ List.replicate n 0).take n

/-- A frame leaves the device. -/
def State.send (s : State) (port link : Nat) (bs : List Byte) : State := { s with sent := s.sent ++ [⟨port, link, bs⟩] }

/-- A mirror frame of a type with its body (bytes 2–29) is sent while the link is up (R343), `gap` frames after the last. -/
def State.mirFrame (s : State) (type : Nat) (body : List Byte) (gap : Nat) : State :=
  if s.flag F.MIR_STAT_LINK_UP then
    let q := (s.mir.txSeq + gap) % 256
    let b := BitVec.ofNat 8 type :: BitVec.ofNat 8 q :: padTo 28 body
    let s1 := s.send 2 0 (b ++ leBytes 2 (crc16 b).toNat)
    { s1 with mir := { s1.mir with txSeq := (q + 1) % 256 } }
  else s

/-- A mirror frame is sent behind the IDLE frames that have filled the link since the last, which count in SEQ (R343): a free number of
them (log 27). -/
def State.mirSend (s : State) (type : Nat) (body : List Byte) : State := (s.takeFree).mirFrame type body (Config.freeNat s.free)

/-- A mirror frame follows the last one at once. -/
def State.mirNext (s : State) (type : Nat) (body : List Byte) : State := s.mirFrame type body 0

/-- A record of the transmit buffer goes to the partner in two MSG frames (R352). -/
def State.mirMsg (s : State) (ws : List Word) : State :=
  let b := ws.flatMap (fun x => leBytes 4 x.toNat)
  (s.mirSend 0x07 (b.take 16)).mirNext 0x07 (b.drop 16)

/-- `k` ticks have passed: the link has taken a record of the transmit buffer in each (DESIGN CHOICE, log 13: R352 gives no rate). -/
def State.mirDrain (s : State) (k : Nat) : State :=
  if s.mir.txBuf.isEmpty then s
  else (s.mir.txBuf.take k).foldl (fun t r => t.mirMsg r) { s with mir := { s.mir with txBuf := s.mir.txBuf.drop k } }

/-- An IDENT frame (R343): UNIT_ID, PLAN_ID, FABRIC_ID, PLAN_N, role, SEQ_STAT.HEAT. -/
def State.sendIdent (s : State) : State :=
  s.mirSend 0x02 (leBytes 8 (s.getSel 0) ++ leBytes 8 (s.getSel 0x1001) ++ leBytes 8 (s.getSel 0x5400) ++
    [BitVec.ofNat 8 (s.fld F.CLK_PLL_PLAN_N), BitVec.ofNat 8 (s.fld F.MIR_CTRL_ROLE), BitVec.ofNat 8 (s.fld F.SEQ_STAT_HEAT)])

/-- Roles and pair states (MIR_CTRL.ROLE, MIR_STAT.PAIR). -/
abbrev roleSingle : Nat := 0
abbrev roleLeader : Nat := 1
abbrev roleFollower : Nat := 2
abbrev pairDown : Nat := 0
abbrev pairLinked : Nat := 1
abbrev pairPaired : Nat := 2
abbrev pairLockstep : Nat := 3
abbrev pairBroken : Nat := 4

/-- The mirror role. -/
def State.role (s : State) : Nat := s.fld F.MIR_CTRL_ROLE

/-- The pair state. -/
def State.pair (s : State) : Nat := s.fld F.MIR_STAT_PAIR

/-- This device and, by its last frame, its partner are both LEADER (R354). -/
def State.twoLeaders (s : State) : Bool :=
  decide (s.role = roleLeader) && s.mir.peer.any (fun l => decide (l.getD 4 0 = roleLeader))

/-- OUT_EN takes the level of R342: high while SINGLE, or LEADER with PAIR not LINKED, or after a takeover; low as FOLLOWER,
before stage 2, and while R337, R348 or R349 holds it low. Where both devices are LEADER it is high although PAIR is LINKED (R354). Frozen, it
keeps its level (R325). -/
def State.driveOutEn (s : State) : State :=
  if s.flag F.DBG_STAT_FROZEN then s
  else
    let up := s.mgmtAwake && !s.mir.fault && !s.mir.enLow && !s.mir.taken && s.mir.riseAt.isNone &&
      (decide (s.role = roleSingle) || (decide (s.role = roleLeader) && (decide (s.pair ≠ pairLinked) || s.mir.rose || s.twoLeaders)))
    let s1 := s.put F.MIR_STAT_OUT_EN (b2n up)
    { s1 with sup := { s1.sup with outEn := up } }

/-- The first rule of R344 that fails, 0 if none: the roles, PLAN_ID, FABRIC_ID, PLAN_N, the latency. -/
def State.pairWhy (s : State) : Nat :=
  match s.mir.peer with
  | none => 1
  | some l =>
    let r := l.getD 4 0
    if !((decide (s.role = roleLeader) && decide (r = roleFollower)) || (decide (s.role = roleFollower) && decide (r = roleLeader)))
      then 1
    else if l.getD 1 0 ≠ s.getSel 0x1001 then 2
    else if l.getD 2 0 ≠ s.getSel 0x5400 then 3
    else if l.getD 3 0 ≠ s.fld F.CLK_PLL_PLAN_N then 4
    else if 10 < s.fld F.MIR_LAT_LAT_TICKS then 5
    else 0

/-- PAIR and WHY follow R344 while the link is up; a paired heat keeps LOCKSTEP or BROKEN, and the state the takeover left. -/
def State.pairEval (s : State) : State :=
  if !s.flag F.MIR_STAT_LINK_UP ∨ s.pair = pairLockstep ∨ s.pair = pairBroken then s
  else
    let why := s.pairWhy
    ((s.put F.MIR_STAT_PAIR (if why = 0 then pairPaired else pairLinked)).put F.MIR_STAT_WHY why).driveOutEn

/-- The link is gone (R344): PAIR is DOWN; what the pair was stays known for R349 and for the rest of its heat (R347). Records of the transmit
buffer are discarded (R352). -/
def State.linkLost (s : State) : State :=
  if s.flag F.MIR_STAT_LINK_UP then
    let s0 := if s.mir.txBuf.isEmpty then s else s.raise F.MIR_STAT_TX_DROP
    let s1 := { s0 with mir := { s0.mir with before := s.pair, peer := none, txBuf := [] } }
    (((s1.put F.MIR_STAT_LINK_UP 0).put F.MIR_STAT_PAIR pairDown).put F.MIR_STAT_WHY 0).driveOutEn
  else s

/-- A class-3 fault, or a fault of a sequencer of the heat (R348): OUT_EN drops, FAULT is sent. -/
def State.mirrorFault (s : State) (src code : Nat) : State :=
  let s1 := { s with mir := { s.mir with fault := true } }
  (s1.driveOutEn).mirSend 0x05 [BitVec.ofNat 8 src, BitVec.ofNat 8 code]

/-- A latency in units of 0.1 ns as whole ticks of 320,000 / N ps, rounded up (MIR_LAT). -/
def State.latTicks (s : State) (lat : Nat) : Nat := (lat * s.clk.lockN + 3199) / 3200

/-- LAT_NS and LAT_TICKS show a latency. What LAT_TICKS shows of a number that it cannot hold is not stated: `shown`, above the ten
ticks of R344 as the latency is (log 7). -/
def State.showLat (s : State) (lat shown : Nat) : State :=
  let s1 := s.put F.MIR_LAT_LAT_NS lat
  let n := s.latTicks lat
  s1.put F.MIR_LAT_LAT_TICKS (if n < 32 then n else 11 + shown)

/-- The latency in ticks follows the plan's N while the link is up (R343). -/
def State.latAgain (s : State) : State :=
  if s.flag F.MIR_STAT_LINK_UP then (s.takeFree).showLat (s.fld F.MIR_LAT_LAT_NS) (Config.freeNat s.free % 21) else s

/-- The leader of a pair sends its decision in two consecutive frames (R346); a follower keeps its own for comparison. -/
def State.mirDecision (s : State) (n kind d arg : Nat) : State :=
  if s.role = roleLeader ∧ s.pair = pairLockstep then
    let body := [BitVec.ofNat 8 n, BitVec.ofNat 8 kind] ++ leBytes 6 d ++ leBytes 8 arg
    (s.mirSend 0x03 body).mirNext 0x03 body
  else if s.role = roleFollower ∧ s.pair = pairLockstep then
    { s with mir := { s.mir with mine := s.mir.mine ++ [⟨n, kind, d, arg⟩] } }
  else s

end Sys2Proof.Machine
end

