-- ==== Sys2Proof/Machine/Domains.lean ====
section
/-! DEFINITION. When a power domain may sleep (R24–R26, R155). -/

namespace Sys2Proof.Machine

/-- Index of a lane among a sequencer's lanes. -/
def laneIdx (ls : List Lane) (l : Lane) : Nat := ls.findIdx (fun x => decide (x = l))

/-- A segment of SQn holds a compare code (R192) on a pin of the sequencer. -/
def State.segCompares (s : State) (n k : Nat) : Bool :=
  let ls := s.lanesOf n
  let len := 16 * (s.seg k).slen16
  (s.vpsOf n).any (fun p => (List.range len).any (fun t => (List.range 8).any (fun v =>
    compared (vecCode (s.trackOf ls k (laneIdx ls (.vec (p / 32)))) t v (p % 32)))))

/-- SQn's course has compare codes or capture (R24, R206). -/
def State.usesCap (s : State) (n : Nat) : Bool :=
  !(s.vpsOf n).isEmpty && (List.range (s.crsCount n)).any (fun e =>
    (s.entry n e).valid && ((s.entry n e).captEn || s.segCompares n (s.entry n e).seg))

/-- A visit to entry `e` of SQn captures or compares. -/
def State.entryCap (s : State) (n e : Nat) : Bool :=
  !(s.vpsOf n).isEmpty && ((s.entry n e).captEn || s.segCompares n (s.entry n e).seg)

/-- The natural continuation from a visit to entry `e` at output tick `o` has compare codes or capture in a visit that begins before
output tick `w`. -/
def State.capWalk (s : State) (n w : Nat) : Nat → Nat → Nat → Bool
  | 0, _, _ => true
  | k + 1, o, e =>
    if w ≤ o then false
    else
      let x := s.entry n e
      s.entryCap n e || (decide (x.laps ≠ 0) && decide (x.endAct = 0) && State.capWalk s n w k (o + x.laps * x.len) x.succ)

/-- SQn plays compare codes or capture before output tick `w`, as decisions stand: in the present visit, in one decided, or in the natural
continuation of the last (log 32). -/
def State.capBefore (s : State) (n w : Nat) : Bool :=
  let q := s.sqn n
  match q.visit with
  | none => s.capWalk n w 1024 48 (s.fld (F.SQ_START_ENTRY n))
  | some v =>
    s.entryCap n v.entry || (s.decided n).any (fun d => decide (d.2 < w) && s.entryCap n d.1) ||
      match (s.decided n).getLast?, q.pend with
      | some d, _ => s.capWalk n w 1024 d.2 d.1
      | none, some e => s.capWalk n w 1024 (lapStartAt (s.entry n v.entry) v.f v.cur + max (s.entry n v.entry).len 1) e
      | none, none => s.capWalk n w 1024 v.f v.entry

/-- Compare codes or capture are to come before the next scheduled wake of PD_CAP (R24): the heat goes on, and a sequencer that has not
stopped plays them before the first such wake that is left, or, where none is left, has them in its course (log 32). -/
def State.capNeeded (s : State) : Bool :=
  decide (2 ≤ s.fld F.SEQ_STAT_HEAT) && decide (s.fld F.SEQ_STAT_HEAT ≤ 4) &&
    s.heatSqs.any (fun n => s.sqActive n &&
      match s.plan.wakeLeft.find? (fun r => decide (r.dom = 0x23) && !r.release) with
      | some r => s.capBefore n (r.tick + 48)
      | none => s.usesCap n)

/-- Compare results of the heat that has just ended are still to be reported (R202, R215): a bank and PD_CAP are used until then, 16
ticks after the last tick played (log 32). -/
def State.reportsDue (s : State) : Bool :=
  decide (s.fld F.SEQ_STAT_HEAT = 1) && s.heatSqs.any (fun n => !(s.vpsOf n).isEmpty) &&
    match s.tm.past with
    | x :: _ => decide ((s.tm.tb : Int) < x.base + x.stop + 15)
    | [] => false

/-- The sleep condition of R24 for a domain that the schedule may own or that sleeps of itself. A cluster or bank counts as unused
while its outputs are at rest (log 9); DRAM channels sleep by their idle time alone (R237). -/
def State.unused (s : State) (d : Nat) : Bool :=
  if 0x08 ≤ d ∧ d ≤ 0x13 then s.domAtRest d && !s.monUses d && !(decide (0x10 ≤ d) && s.reportsDue)
  else if d = 0x20 ∨ d = 0x21 then !s.flag (F.NET_CTRL_EN (d - 0x20))
  else if d = 0x22 then [0x20, 0x21].all (fun e => !s.awake e && !bitOf s.sup.waking e)
  else if d = 0x23 then !s.capNeeded && !s.reportsDue
  else if d = 0x24 then decide (s.role = roleSingle)
  else if d = 0x25 then !s.monUses 0x25 && !s.flag F.SUP_MON_CMD_BUSY
  else false

/-- A domain may sleep: R24's condition holds, the schedule does not own it, nothing keeps it awake (R26, R316). -/
def State.maySleep (s : State) (d : Nat) : Bool := !bitOf s.sup.owned d && !bitOf s.sup.stay d && s.unused d

/-- A domain sleeps where each awake member of its group may sleep (R25). -/
def State.trySleep (s : State) (d : Nat) : State :=
  if s.awake d && (s.groupOf d).all (fun e => !s.awake e || s.maySleep e) then
    (if (s.groupOf d).contains 0x24 then s.linkLost else s).sleepDom d
  else s

/-- The domains that sleep of themselves under R24. -/
def idleDoms : List Nat := (List.range 12).map (fun i => 8 + i) ++ [0x23, 0x20, 0x21, 0x22, 0x24, 0x25]

/-- Every domain whose condition of R24 holds sleeps. -/
def State.sleepIdle (s : State) : State := idleDoms.foldl (fun t d => t.trySleep d) s

/-- PD_PLL sleeps when its conditions of R24 hold. -/
def State.pllIdle (s : State) : State :=
  let busy := (List.range 12).any (fun i => s.awake (8 + i) || bitOf s.sup.waking (8 + i)) || s.awake 0x23 || s.awake 0x24
    || bitOf s.sup.waking 0x23 || bitOf s.sup.waking 0x24
  let stage := s.fld F.SUP_STAT_STAGE
  if s.awake 1 && decide (s.fld F.SEQ_STAT_HEAT = 0) && !s.plan.writing && !s.plan.waitPll && !busy
      && !(decide (5 ≤ stage) && decide (stage ≤ 8)) && decide (s.clk.cmd = .idle) && decide (s.clk.relock = .none)
      && !bitOf s.sup.stay 1 && !bitOf s.sup.stay 2 then s.sleepPll
  else s

/-- Banks and PD_CAP whose last reports are made sleep (R24, R215). -/
def State.sleepLate (s : State) : State :=
  if s.fld F.SEQ_STAT_HEAT = 1 ∧ !s.tm.past.isEmpty ∧ !s.reportsDue then
    ([0x10, 0x11, 0x12, 0x13, 0x23].foldl (fun t d => t.trySleep d) s).pllIdle
  else s

/-- The schedule releases domains (R155, R316): it owns them no longer, what kept them awake before is past, and each sleeps under
R24. -/
def State.release (s : State) (ds : List Nat) : State :=
  let s1 := { s with sup := { s.sup with owned := ds.foldl (fun m d => putBit m d false) s.sup.owned,
                                         stay := ds.foldl (fun m d => putBit m d false) s.sup.stay } }
  ds.foldl (fun t d => t.trySleep d) s1

end Sys2Proof.Machine
end

