-- ==== Sys2Proof/Machine/Samples.lean ====
section
/-! DEFINITION. The samples and drive states that the outputs play, tick by tick (R102, R105, R168–R180, R183–R185, R192). -/

namespace Sys2Proof.Machine

/-- A heat tick lies in a run of missing ticks of lane `j` (R105): the run's first tick. -/
def Sq.gapAt (q : Sq) (j h : Nat) : Option Nat :=
  (q.gaps.find? (fun g => decide (g.1 = j) && decide (g.2.1 ≤ h) && decide (h < g.2.1 + g.2.2))).map (fun g => g.2.1)

/-! ### Fine channels -/

/-- The code that a calibration drives at the interpolator's input in timebase tick `t` (R183): three codes for 320 µs each, which are
1,000 N ticks of 320,000 / N ps, then the rest code. -/
def State.calCode (s : State) (n : Nat) (t : Int) : Int :=
  match (s.fcn n).calAt with
  | none => s.restCode n
  | some t0 =>
    let d := t - t0
    let p : Int := 1000 * s.clk.lockN
    if d < p then -393216 else if d < 2 * p then 0 else if d < 3 * p then 393216 else s.restCode n

/-- The code at the legs of a channel (R168, R180): on the hold path the rest code, else what the interpolator gave last. -/
def State.legCode (s : State) (n : Nat) : Int := if s.flag (F.FC_STAT_ON_HOLD n) then s.restCode n else (s.fcn n).code

/-- The leg currents of a channel, in mA (R180). -/
def State.legCurrents (s : State) (n : Nat) : Rat × Rat := legs (s.legCode n)

/-- The fine lanes of the heat: sequencer, channel, format, lane index. -/
def State.fineLanes (s : State) : List (Nat × Nat × Nat × Nat) :=
  s.heatSqs.flatMap (fun n =>
    let ls := s.lanesOf n
    (List.range ls.length).filterMap (fun j => match ls[j]? with
      | some (Lane.fine fc fmt) => some (n, fc, fmt, j)
      | _ => none))

/-- The codes that reach the interpolator of channel `fc` in timebase tick `t`, latest first, and whether R170 saturates: the rest code
at rest (R168), a calibration's code (R183), rest or +0.5 of full scale while ALIGN runs, at free moments (R337; log 27), the samples of
steps 1 to 3 where the lane plays a tick of the heat (R169, R170), else the sample held (R102, R105, R107, R112). -/
def State.fineIn (s : State) (ls : List (Nat × Nat × Nat × Nat)) (fc t : Nat) : List Int × Bool :=
  let all := fun (z : Int) => ([z, z], false)
  if s.flag (F.FC_STAT_AT_REST fc) then all (s.restCode fc)
  else if (s.fcn fc).job = 1 then all (s.calCode fc t)
  else if s.mir.job = 2 then all (if Config.freeNat (s.free + 2) % 2 = 0 then s.restCode fc else 262144)
  else
    let h := s.tm.heat + t - s.tm.tb
    let lane := if s.fld F.SEQ_STAT_HEAT = 3 then ls.find? (fun l => decide (l.2.1 = fc)) else none
    let play := match lane with
      | some (n, _, fmt, j) => if ((s.sqn n).gapAt j h).isSome then none else (s.playedAt n h).map (fun p => (n, fmt, j, p))
      | none => none
    match play with
    | some (n, fmt, j, v, d) =>
      let a := s.fineZ n fc fmt j h v d 0
      let b := s.fineZ n fc fmt j h v d 1
      ([b.1, a.1], a.2 || b.2)
    | none => all (s.fcn fc).z

/-- The levels of the quantiser and the dithers of a tick's 32 samples (R179), from free number `k` on: free values (log 5). -/
def modLevels (k : Nat) : List (Nat × Nat) :=
  (List.range 32).map (fun m => (Config.freeNat k / 8 ^ m % 8, Config.freeNat (k + 1) / 2 ^ m % 2))

/-- The registers of a channel after a tick in which R170 saturated (`sat`) and the interpolator did (`isat`): each flag is set and each
counter counted once (R170, R178). -/
def State.satRegs (s : State) (fc : Nat) (sat isat : Bool) : Sp Word :=
  let s2 := if sat then (s.raise (F.FC_STAT_SAT fc)).bump (F.FC_CNT_SAT_COUNT fc) else s
  (if isat then (s2.raise (F.FC_STAT_INTERP_SAT fc)).bump (F.FC_CNT_ISAT_COUNT fc) else s2).regs

/-- Timebase tick `t` of channel `fc` goes through the chain of R168: what reaches the interpolator, interpolation (R178), modulator and
elements (R179). The interpolator looks at the latest 72 codes, 36 ticks, twice its longer latency (DESIGN CHOICE, log 5: R177 gives no
length). -/
def State.fineTick (s : State) (ls : List (Nat × Nat × Nat × Nat)) (fc t : Nat) : State :=
  let c := s.fcn fc
  let x := s.fineIn ls fc t
  let hist := (x.1 ++ c.hist).take 72
  let raw := interpRaw (s.fld (F.FC_CFG_BW fc)) hist
  let e := demTick (s.fld (F.FC_CFG_DEM fc)) c.ptr (modLevels s.free)
  let c' : Fc := { c with hist := hist, code := sat20 (raw.getLastD 0), elems := e.1, ptr := e.2 }
  { s with fc := Sp.set (fun _ => ({} : Fc)) s.fc fc c', free := s.free + 3,
           regs := s.satRegs fc x.2 (raw.any (fun r => decide (r ≠ sat20 r))) }

/-- The channels on their datapaths. A channel on the hold path is fed nothing (R184). -/
def State.onPath (s : State) : List Nat := (List.range 64).filter (fun n => !s.flag (F.FC_STAT_ON_HOLD n))

/-- The ticks before timebase tick `t` that have not gone through the channels on their datapaths do so, as things stand: what changes
what is played there calls this first. A timebase that has passed its end begins anew. -/
def State.fineUp (s : State) (t : Nat) : State :=
  if t ≤ s.tm.fed ∧ s.tm.fed ≤ t + 1 then s
  else if t < s.tm.fed then { s with tm := { s.tm with fed := t } }
  else
    let cs := s.onPath
    let ls := if cs.isEmpty then [] else s.fineLanes
    let ts := if cs.isEmpty then [] else (List.range (t - s.tm.fed)).map (fun i => s.tm.fed + i)
    let s1 := ts.foldl (fun u k => cs.foldl (fun v c => v.fineTick ls c k) u) s
    { s1 with tm := { s1.tm with fed := t } }

/-- The ticks before the present one have been played. -/
def State.fineNow (s : State) : State := s.fineUp s.tm.tb

/-! ### What a visit leaves behind -/

/-- Drive state of pin `p` of lane `j` after the first `k` ticks of visit `v`, from drive state `d` (R192); missing ticks play X and
leave it unchanged (R105). -/
def State.driveOver (s : State) (n : Nat) (ls : List Lane) (v : Visit) (j p : Nat) : Nat → Nat → Nat
  | 0, d => d
  | k + 1, d =>
    let d0 := State.driveOver s n ls v j p k d
    if ((s.sqn n).gapAt j (v.f + k)).isSome then d0
    else (List.range 8).foldl (fun x i => driveAfter (vecCode (s.lapTrack n ls v k j) (s.lapOfs n v k) i p) x) d0

/-- The output sample z of lane `j`, channel `c`, at tick `o` − 1 (R170): its second sample. In a run of missing ticks it is the sample
before the run, which was taken as the run began (R105). A channel at rest has its sample too: where it becomes ready it joins with it
(R27). -/
def State.captureFine (s a : State) (n c fmt j o : Nat) : State :=
  if ((s.sqn n).gapAt j (o - 1)).isSome then a
  else match s.playedAt n (o - 1) with
    | some (v, d) => a.setFc c { a.fcn c with z := (s.fineZ n c fmt j (o - 1) v d 1).1 }
    | none => a

/-- A pin's drive state after its course: at the pin, or kept while the pin itself is at rest (R27, R192). -/
def State.leaveDrive (s : State) (p d : Nat) : State :=
  if s.flag (F.VP_STAT_AT_REST p) then
    { s with vp := Sp.set (fun _ => ({} : Vp)) s.vp p { Sp.get (fun _ => ({} : Vp)) s.vp p with kept := d } }
  else s.put (F.VP_STAT_DRIVE p) d

/-- Pin and channel values that a visit leaves behind at tick `o` (R170, R192): each fine lane's last sample, each pin's drive state. In
a hold they stand (R102). -/
def State.capture (s : State) (n o : Nat) : State :=
  let q := s.sqn n
  match q.visit with
  | none => s
  | some v =>
    if o ≤ v.f ∨ q.hold.isSome then s
    else
      let ls := s.lanesOf n
      let s1 := ls.foldl (fun a l => match l with
        | Lane.fine c f => s.captureFine a n c f (laneIdx ls l) o
        | .vec _ => a) s
      (s.vpsOf n).foldl (fun a p => a.leaveDrive p (s.driveOver n ls v (laneIdx ls (.vec (p / 32))) (p % 32) (o - v.f)
        (Sp.get (fun _ => ({} : Vp)) s.vp p).base)) s1

/-- A run of missing ticks of lane `j` of SQn begins at heat tick `h` (R105): a fine lane keeps its last output sample. -/
def State.gapBegin (s : State) (n j h count : Nat) : State :=
  let s1 := match (s.lanesOf n)[j]? with
    | some (.fine c f) => s.captureFine s n c f j h
    | _ => s
  s1.setSq n { s1.sqn n with gaps := (s1.sqn n).gaps ++ [(j, h, count)] }

end Sys2Proof.Machine
end

