-- ==== Sys2Proof/Machine/Reader.lean ====
section
/-! DEFINITION. The segment readers: what the timeline fetches for a continuation (R140–R142, R144), the tail of a continuation begun by
a decision, and track-memory banks that a reader finds in retention (R27, R219, R224). -/

namespace Sys2Proof.Machine

/-- The natural continuation from a visit to entry `e` that begins at `o` (R90, R140): the entry that plays output tick `h`, the ticks
since its visit's first, and whether the visit begins by a decision. -/
def State.contAt (s : State) (n h : Nat) : Nat → Nat → Nat → Bool → Option (Nat × Nat × Bool)
  | 0, _, _, _ => none
  | k + 1, o, e, dec =>
    let x := s.entry n e
    if h < o then none
    else if x.laps = 0 ∨ h < o + x.laps * x.len then some (e, h - o, dec)
    else if x.endAct ≠ 0 then none
    else State.contAt s n h k (o + x.laps * x.len) x.succ false

/-- What SQn's reader takes for output tick `h`, as decisions stand (R140): from the last visit decided for `h` or before, else from the
visit that plays, whose pending continuation begins at the end of its lap. Nothing beyond a decision to stop, and in a hold nothing
before its continuation is decided. -/
def State.readAt (s : State) (n h : Nat) : Option (Nat × Nat × Bool) :=
  let q := s.sqn n
  let due := q.next.filter (fun d => decide (d.o ≤ h) && (match d.c with | .go => false | _ => true))
  match due.getLast? with
  | some d => match d.c with
    | .visit e jump => s.contAt n h 130 d.o e jump
    | .fallback (some e) _ _ => s.contAt n h 130 d.o e true
    | _ => none
  | none => match q.visit with
    | none => none
    | some v =>
      let x := s.entry n v.entry
      if q.hold.isSome then none
      else match q.pend with
        | some e =>
          let stop := lapStartAt x v.f v.cur + max x.len 1
          if h < stop then some (v.entry, h - v.f, v.blk.isSome) else s.contAt n h 130 stop e false
        | none => s.contAt n h 130 v.f v.entry v.blk.isSome

/-- Tick `d` of a visit to `e` comes from track memory or from a starting block (R98, R141): it is not fetched. -/
def State.fromBlock (s : State) (n e d : Nat) (dec : Bool) : Bool :=
  let x := s.entry n e
  !s.segInDram x.seg || (dec && (s.seg x.seg).staged && decide (d < min 256 x.len))

/-- The granules that tick `t` of a lap of segment `k` needs and the tick before did not (R61): the byte address of each. -/
def State.tickGrans (s : State) (n k t : Nat) : List Nat :=
  let ls := s.lanesOf n
  let len := 16 * (s.seg k).slen16
  (List.range ls.length).flatMap (fun j =>
    let b := ((ls[j]?).map Lane.bytes).getD 0
    let a := 64 * (s.seg k).base + trackStart ls len j
    if b = 0 then []
    else
      let lo := if t = 0 then a / 64 else (a + t * b - 1) / 64 + 1
      let hi := (a + (t + 1) * b - 1) / 64
      (List.range (hi + 1 - lo)).map (fun i => 64 * (lo + i)))

/-- The fetches that SQn's reader asks of the controller for output tick `h`: tick and channel of each granule, but for fenced channels
(R140, R242). -/
def State.readGrans (s : State) (n h : Nat) : List (Nat × Nat) :=
  match s.readAt n h with
  | none => []
  | some (e, d, dec) =>
    let x := s.entry n e
    if s.fromBlock n e d dec then []
    else (s.tickGrans n x.seg (d % max x.len 1)).filterMap (fun a => (s.dramCh a).map (fun c => (h, c)))

/-- The fetches for output ticks `a` to `b` − 1. -/
def State.readSpan (s : State) (n a b : Nat) : List (Nat × Nat) := (List.range (b - a)).flatMap (fun i => s.readGrans n (a + i))

/-- The requests of the row that begins at heat tick `h0`: the data of the ticks LOOKAHEAD later, each asked for once (R137, R140). A
sequencer that does not run asks for nothing. -/
def State.rowWants (s : State) (h0 : Nat) : State :=
  let stop := h0 + 16 + s.plan.look
  let s1 := (List.range 8).foldl (fun t n =>
    if t.sqState n = sqRunning then
      t.setSq n { t.sqn n with want := (t.sqn n).want ++ t.readSpan n (max s.plan.asked (h0 + s.plan.look)) stop }
    else t) s
  { s1 with plan := { s1.plan with asked := max s.plan.asked stop } }

/-- The tail of the continuation begun by a decision with its first output tick at `o` (R141): output ticks o + 256 to o + LOOKAHEAD − 49
through ALT; PRI goes on with the tick LOOKAHEAD − 48, as far as rows have asked already. An earlier tail is dropped (R142), and so is
what was asked for the natural continuation from `o` on (R140). A natural succession keeps the tail, which covers following entries:
DEDUCED (log 37). -/
def State.takeTail (s : State) (n o : Nat) : State :=
  let q := s.sqn n
  s.setSq n { q with tail := s.readSpan n (o + 256) (o + s.plan.look - 48),
                     want := q.want.filter (fun g => decide (g.1 < o)) ++ s.readSpan n (o + s.plan.look - 48) s.plan.asked }

/-- Granules of a list on channel `c`. -/
def onCh (l : List (Nat × Nat)) (c : Nat) : Nat := (l.filter (fun g => decide (g.2 = c))).length

/-- The list without its first `k` granules on channel `c`: they have been served, in tick order. -/
def served (c : Nat) : Nat → List (Nat × Nat) → List (Nat × Nat)
  | _, [] => []
  | 0, l => l
  | k + 1, g :: l => if g.2 = c then served c k l else g :: served c (k + 1) l

/-- Granules of SQn on channel `c` that PRI serves, that ALT serves, and that only open capacity serves: those of a sequencer that has
held (R103, R144). -/
def State.priOn (s : State) (n c : Nat) : Nat := if (s.sqn n).off then 0 else onCh (s.sqn n).want c

@[inherit_doc State.priOn] def State.altOn (s : State) (n c : Nat) : Nat := if (s.sqn n).off then 0 else onCh (s.sqn n).tail c

@[inherit_doc State.priOn] def State.openOn (s : State) (n c : Nat) : Nat :=
  if (s.sqn n).off then onCh (s.sqn n).want c + onCh (s.sqn n).tail c else 0

/-- Channel `c` serves SQn `p` running and `a` tail granules. -/
def State.serve (s : State) (n c p a : Nat) : State :=
  if p = 0 ∧ a = 0 then s
  else
    let q := s.sqn n
    s.setSq n { q with want := served c p q.want, tail := served c a q.tail }

/-- Channel `c` serves SQn up to `k` granules, running before tail: the state, and how many are left of `k`. -/
def State.serveUp (s : State) (n c k : Nat) : State × Nat :=
  let p := min k (onCh (s.sqn n).want c)
  let a := min (k - p) (onCh (s.sqn n).tail c)
  (s.serve n c p a, k - p - a)

/-- Channel `c` serves up to `k` granules to the sequencers that pass `ok`, in ascending index (R166). -/
def State.serveAll (s : State) (c k : Nat) (ok : Nat → Bool) : State :=
  (((List.range 8).filter ok).foldl (fun (x : State × Nat) n => x.1.serveUp n c x.2) (s, k)).1

/-- Requests to a channel fenced now are refused (R242). -/
def State.refuseFetches (s : State) (c : Nat) : State :=
  (List.range 8).foldl (fun t n =>
    let q := t.sqn n
    if onCh q.want c + onCh q.tail c = 0 then t
    else t.setSq n { q with want := q.want.filter (fun g => decide (g.2 ≠ c)), tail := q.tail.filter (fun g => decide (g.2 ≠ c)) }) s

/-! ### Banks in retention -/

/-- The track-memory banks from which a visit to entry `e` reads lane `j` for the visit's tick `d` (R61, R216). The reader is judged at the
output tick that its read feeds: DEDUCED (log 37), for how far ahead of it a reader reads, R219 bounds only from below. -/
def State.laneBanks (s : State) (n e j d : Nat) : List Nat :=
  let x := s.entry n e
  let ls := s.lanesOf n
  let b := ((ls[j]?).map Lane.bytes).getD 0
  let a := 64 * (s.seg x.seg).base + trackStart ls (16 * (s.seg x.seg).slen16) j + b * (d % max x.len 1)
  if s.segInDram x.seg ∨ b * x.len = 0 then []
  else (List.range ((a + b - 1) / 524288 + 1 - a / 524288)).map (fun i => a / 524288 + i)

/-- The present tick of the visit that SQn plays. -/
def State.visitTick (s : State) (n : Nat) : Nat :=
  match (s.sqn n).visit with
  | some v => s.tm.heat - v.f
  | none => 0

/-- A lane waits for a bank in retention (R224), from which its present tick is read. -/
def State.laneDark (s : State) (n e j : Nat) : Bool := (s.laneBanks n e j (s.visitTick n)).any (fun m => s.flag (retFld m))

/-- The fine channels and pins of SQn whose lanes wait for a bank, as entry `e` reads it. -/
def State.darkFcs (s : State) (n e : Nat) : List Nat :=
  let ls := s.lanesOf n
  (s.fcsOf n).filter (fun c => decide (s.fmt c ≠ 255) && s.laneDark n e (laneIdx ls (.fine c (s.fmt c))))

@[inherit_doc State.darkFcs] def State.darkVps (s : State) (n e : Nat) : List Nat :=
  let ls := s.lanesOf n
  (s.vpsOf n).filter (fun p => s.laneDark n e (laneIdx ls (.vec (p / 32))))

/-- The reader of the visit to `e` that plays tick `o` finds banks in retention (R224): each begins to wake, RET_HIT is set, and the lanes it feeds are
at rest as after a late wake, with its record for `o` where the schedule does not hold the bank (R27). -/
def State.darkLanes (s : State) (n e o : Nat) : State :=
  let banks := ((List.range (s.lanesOf n).length).flatMap (fun j => s.laneBanks n e j (s.visitTick n))).filter (fun m => s.flag (retFld m))
  if banks.isEmpty then s
  else
    let s1 := banks.foldl (fun t m => { t with sup := { t.sup with wakingBanks := putBit t.sup.wakingBanks m true } })
      (s.raise F.TRK_STAT_RET_HIT)
    let s2 := s1.restOuts false (s1.darkFcs n e) (s1.darkVps n e)
    if banks.all (fun m => bitOf s2.sup.ownedBanks m) then s2 else s2.event (evRec (s2.tbOf o) 0x14 0x01 0x14)

end Sys2Proof.Machine
end

