-- ==== Sys2Proof/Machine/Heat.lean ====
section
/-! DEFINITION. The sequencers at work: decisions, visits, laps, shortfalls, holds, fallbacks, stops and the heat's end
(R83–R106). Ticks are heat ticks at the outputs (R85). -/

namespace Sys2Proof.Machine

/-- Event record of a sequencer, stamped with the timebase of heat tick `o` (R130). -/
def State.sqRec (s : State) (n code data o : Nat) : State := s.event (evRec (s.tbOf o) n code data)

/-- Add a decision to a sequencer's list. -/
def State.addDec (s : State) (n : Nat) (d : Dec) : State :=
  let q := s.sqn n
  s.setSq n { q with next := q.next ++ [d] }

/-- The TONE and CARRIER lanes of a sequencer (R73). -/
def State.ncoLanes (s : State) (n : Nat) : List Nat := (s.fcsOf n).filter (fun c => s.usesNco c)

/-- What a decision to begin a visit to `e` at `o` does in its own tick, 48 before: its strobes (R91), the load of its profile
(R173). -/
def State.prepOuts (s : State) (n e o : Nat) : State :=
  let x := s.entry n e
  let s1 := s.strobesAt (s.tbOf (o - 48)) x.strobe
  if x.profEn then (s1.ncoLanes n).foldl (fun t c => t.addSw c (t.mkSw c 0 o x.prof (b2n x.phase))) s1 else s1

/-- The staging of the group of an entry that a decision selects (R150). -/
def State.prepGroup (s : State) (n e : Nat) : State :=
  if s.grpOf n e = s.curGrp n then s else s.stageLoad n (s.grpOf n e)

/-- A decision to begin a visit to `e` at `o`, in its own tick. -/
def State.prepVisit (s : State) (n e o : Nat) : State := (s.prepOuts n e o).prepGroup n e

/-- The FALLBACK outcome of a visit to `e` is decided, to apply at `o` (R101): the visit to FALLBACK, or a stop at rest under FB_REST, where
the fallback's block is not resident (R151), or where its segment touches a fenced channel (R106). -/
def State.fallbackOf (s : State) (n e o cause stopCause : Nat) : State :=
  let x := s.entry n e
  let g := s.seg (s.entry n x.fallback).seg
  if x.fbRest || (g.staged && !s.blockResident n (s.entry n x.fallback).seg)
      || s.segFenced (s.entry n x.fallback).seg then
    s.addDec n ⟨o, .fallback none cause stopCause⟩
  else ((s.prepVisit n x.fallback o).addDec n ⟨o, .fallback (some x.fallback) cause stopCause⟩).takeTail n o

/-- The FALLBACK outcome of the present visit is decided, to apply at `o` (R101). -/
def State.decideFallback (s : State) (n o cause stopCause : Nat) : State :=
  match (s.sqn n).visit with
  | none => s
  | some v => s.fallbackOf n v.entry o cause stopCause

/-- A shortfall under EXTEND of a visit leads to FALLBACK (R100): EXT equals MAX_EXT while a continuation is pending, or MAX_EXT = 0. -/
def State.extFull (s : State) (n : Nat) (x : Entry) : Bool :=
  match (s.sqn n).pend with
  | some _ => decide (s.fld (F.SQ_POS_EXT n) = x.maxExt)
  | none => decide (x.maxExt = 0)

/-- A shortfall at a commit tick (R99–R102): counted, recorded; the entry's REFILL acts. `jump`: the continuation that lacks READY is a
jump's. -/
def State.shortfall (s : State) (n o e : Nat) (jump : Bool) : State :=
  match (s.sqn n).visit with
  | none => s
  | some v =>
    let x := s.entry n v.entry
    let ext := s.fld (F.SQ_POS_EXT n)
    let s1 := ((s.bump (F.SQ_CNT_SHORT_COUNT n)).raise (F.SQ_FLAGS_SHORTFALL n)).sqRec n 0x04
      (v.entry + 2 ^ 16 * e + 2 ^ 32 * ext + 2 ^ 40 * x.refill) s.tm.heat
    match x.refill with
    | 0 =>
      if s1.extFull n x then s1.decideFallback n o 0 2
      else
        let q := s1.sqn n
        ((s1.setSq n { q with pend := some e, pendJump := jump }).raise (F.SQ_STAT_PENDING n)).addDec n ⟨o, .go⟩
    | 2 => s1.addDec n ⟨o, .hold e⟩
    | _ => s1.decideFallback n o 0 2

/-- The continuation decided for `o` is the visit to `e`; a jump's has its tail (R141). -/
def State.goTo (s : State) (n o e : Nat) (jump : Bool) : State :=
  let s1 := (s.prepVisit n e o).addDec n ⟨o, .visit e jump⟩
  if jump then s1.takeTail n o else s1

/-- The continuation selected for `o` is the visit to `e`: READY is checked (R77, R99). -/
def State.select (s : State) (n o e : Nat) (jump : Bool) : State :=
  if s.contReady n e then s.goTo n o e jump else s.shortfall n o e jump

/-- The outcome of a check of READY that the leader of a pair sends in ARG [15:8] (R346): 0 ready, else the shortfall's outcome, 1 EXTEND,
2 FALLBACK, 3 HOLD. -/
def State.shortOut (s : State) (n : Nat) (x : Entry) (ok : Bool) : Nat :=
  if ok then 0 else if x.refill = 0 ∧ s.extFull n x then 2 else x.refill + 1

/-- A decision that leaves the visit. -/
def Dec.leaves (d : Dec) : Bool := match d.c with | .go => false | _ => true

/-- The FALLBACK outcome that a fence has brought (R106). -/
def Dec.fenced (d : Dec) : Bool := match d.c with | .fallback _ 3 _ => true | _ => false

/-- A stop decision. -/
def Dec.isStop (d : Dec) : Bool := match d.c with | .stop _ _ => true | _ => false

/-- A STOP at LAP_END or VISIT_END that waits applies at boundary `o` of visit `v` (R112): whether it holds the outputs. -/
def State.stopAt (s : State) (n : Nat) (v : Visit) (o : Nat) : Option Bool :=
  let x := s.entry n v.entry
  match (s.sqn n).stopReq with
  | some (w, hold, k) =>
    if isLapEnd x v.f o && decide (k + 48 ≤ o) &&
        (decide (w = 1) || decide (x.laps = 0) || isLastEnd x v.f o || decide (0 < s.fld (F.SQ_POS_EXT n))) then some hold
    else none
  | none => none

/-- A stop takes effect at tick `o` or before (R113): it replaces what would be decided for `o`. -/
def State.stopBy (s : State) (n o : Nat) : Bool :=
  (s.sqn n).next.any (fun d => d.isStop && decide (d.o ≤ o)) ||
    match (s.sqn n).visit with
    | some v => (s.stopAt n v o).isSome
    | none => false

/-- The condition of an IMMEDIATE entry met at heat tick `t` brings its target (R97): the natural end does not come before t + 48, nor a
stop by then. -/
def State.immFits (s : State) (n t : Nat) : Bool :=
  !s.stopBy n (t + 48) && match (s.sqn n).visit with
    | none => false
    | some v => let x := s.entry n v.entry; decide (x.laps = 0) || decide (t + 48 ≤ v.f + x.laps * x.len)

/-- SQn_STAT.ZONE follows the starts that the shadow front end carries (R95, R96). -/
def State.zones (s : State) (n : Nat) (l : List (Nat × Nat)) : State :=
  (s.setSq n { s.sqn n with shadow := l }).put (F.SQ_STAT_ZONE n) (b2n (!l.isEmpty))

/-- The condition of an IMMEDIATE entry is met at heat tick `t` (R97): the shadow front end starts the target, which begins at t + 48,
and a pulse is consumed; where it does not fit, a pulse stays latched. -/
def State.immediate (s : State) (n t : Nat) : State :=
  let q := s.sqn n
  match q.visit with
  | none => s
  | some v =>
    let x := s.entry n v.entry
    let s1 := s.setSq n { q with imm := true }
    if s.immFits n t then
      let s2 := if s1.evLevelKind x.jevt then s1 else s1.put (latchFld n x.jevt) 0
      let s3 := s2.setSq n { s2.sqn n with next := q.next.filter (fun d => decide (d.o < t + 48) || d.isStop) }
      ((s3.zones n [(t + 48, x.target)]).mirDecision n 1 t 0).select n (t + 48) x.target true
    else s1

/-- SQn can still meet the condition of an IMMEDIATE entry: its visit plays, and no continuation is pending, held or
already chosen by one (R97, R113). -/
def State.immOpen (s : State) (n t : Nat) : Bool :=
  let q := s.sqn n
  match q.visit with
  | none => false
  | some v =>
    decide ((s.entry n v.entry).jmode = 4) && decide (v.f ≤ t) && !q.imm && q.pend.isNone && q.hold.isNone &&
      !q.next.any (fun d => match d.c with | .fallback _ _ _ => true | .hold _ => true | _ => false)

/-! ### Outputs of a sequencer -/

/-- Outputs of SQn whose domains are awake, and whose track-memory banks are, play its course (R27, R191, R224). -/
def State.playOuts (s : State) (n : Nat) : State :=
  let e := match (s.sqn n).visit with | some v => v.entry | none => 0
  let fcs := (s.fcsOf n).filter (fun c => decide (s.fmt c ≠ 255) && s.awake (8 + c / 8) && !(s.darkFcs n e).contains c)
  let vps := (s.vpsOf n).filter (fun c => s.awake (16 + c / 32) && !(s.darkVps n e).contains c)
  let s1 := fcs.foldl (fun t c => (t.put (F.FC_STAT_AT_REST c) 0).offHold c) s
  vps.foldl (fun t c => (t.put (F.VP_STAT_AT_REST c) 0).put (F.VP_STAT_ON_HOLD c) 0) s1

/-- A visit begins with each pin's drive state as it stands (R215). -/
def State.basePins (s : State) (n : Nat) : State :=
  (s.vpsOf n).foldl (fun a p =>
    { a with vp := Sp.set (fun _ => ({} : Vp)) a.vp p { Sp.get (fun _ => ({} : Vp)) a.vp p with base := a.fld (F.VP_STAT_DRIVE p) } }) s

/-- Fire the pennants of a mask that SEGMENT mode gives to SQn, for a lap start at heat tick `o` (R122, R123). -/
def State.firePens (s : State) (n pen o : Nat) : State :=
  let ps := (List.range 32).filter (fun i => bitOf pen i && decide (s.fld (F.PN_CFG_MODE i) = 1)
    && decide (s.fld (F.PN_CFG_OWNER i) = n))
  { s with ev := { s.ev with fires := s.ev.fires ++ ps.map (fun i =>
      ⟨i, o + s.fld (F.PN_TIME_DELAY i), s.fld (F.PN_TIME_PHASE i), true, 0⟩) } }

/-- Clear SQn's latch of the entry's event, unless its pulse is seen in this very tick (R72), or in the pause before it (R107). -/
def State.clearLatch (s : State) (n ev : Nat) : State :=
  if s.evLevelKind ev || (s.justSeen ev && s.evRouted ev n) then s
  else s.put (latchFld n ev) 0

/-- SQn leaves its visit at `o`, by whatever route (R76): CONSUME clears READY where a tick has played. In a hold, the visit is left
as the hold is: whether READY clears as the hold begins, the spec does not say (log 30). -/
def State.leaveVisit (s : State) (n o : Nat) : State :=
  let q := s.sqn n
  match q.visit with
  | none => s
  | some v =>
    let x := s.entry n v.entry
    let s1 := if x.consume && decide (v.f < o) then s.clearReady x.seg else s
    let stop := match q.hold with | some h => h.o | none => o
    s1.setSq n { s1.sqn n with past := ⟨v, stop, s1.fld (F.SQ_POS_EXT n)⟩ :: q.past,
                               gaps := q.gaps.map (fun g => if g.2.1 < stop then (g.1, g.2.1, min g.2.2 (stop - g.2.1)) else g) }

/-- Profile switches at a visit's first output tick (R73, R174, R175, R190): the entry's switch applies; a hop due in the
same tick is dropped and a reload is not carried out. The switch to profile 0 with which a heat starts leaves a hop of its tick (R175). -/
def State.visitSwitch (s : State) (n o : Nat) : State :=
  (s.ncoLanes n).foldl (fun t c =>
    match ((t.fcn c).sw.find? (fun w => (decide (w.kind = 0) || decide (w.kind = 3) || decide (w.kind = 4)) && decide (w.tick = o))) with
    | none => t
    | some w => if w.kind = 4 then t.applySw c (t.tbOf o) w else
      let drop := (t.fcn c).sw.any (fun x => decide (x.kind = 1) && decide (x.tick = o))
      let t1 := if drop then t.raise (F.FC_STAT_HOP_DROP c) else t
      let t2 := t1.setFc c { t1.fcn c with sw := (t1.fcn c).sw.filter (fun x =>
        !(decide (x.kind = 1) && decide (x.tick = o)) && !(decide (x.kind = 2) && decide (x.tick = t1.tbOf o))) }
      t2.applySw c (t2.tbOf o) w) s

/-- The starting block from which a visit begun other than as a natural successor reads its first ticks: a resident block of its
DRAM segment (R98). -/
def State.blockFor (s : State) (n e : Nat) : Option Nat :=
  let k := (s.entry n e).seg
  if s.segInDram k then
    ((s.sqn n).resident.findSome? (fun i => match s.plan.stg[i]? with
      | some r => if r.seg = k then some (64 * (regionGranule + r.ofs)) else none
      | none => none))
  else none

/-- A visit to entry `e` of SQn begins at `o` (R90, R91), as a natural successor or not. A fallback after a fence stands beyond a visit
that began before it (R106). -/
def State.beginVisit (s : State) (n e o : Nat) (natural : Bool) : State :=
  let x := s.entry n e
  let old := s.curGrp n
  let s1 := ((s.capture n o).leaveVisit n o)
  let q := s1.sqn n
  let s2 := s1.setSq n { q with visit := some ⟨e, o, o, if natural then none else s1.blockFor n e⟩, lapAt := o, pend := none, pendJump := false,
                                imm := false, hold := none, prep := none,
                                next := q.next.filter (fun d => d.isStop || d.fenced) }
  let s3 := (((s2.put (F.SQ_STAT_ENTRY n) e).put (F.SQ_STAT_HELD n) 0).put (F.SQ_STAT_PENDING n) 0).zones n []
  let s4 := (s3.put (F.SQ_POS_LAP n) 1).put (F.SQ_POS_EXT n) 0
  let s5 := if x.latch = 1 ∨ x.latch = 2 then s4.clearLatch n x.jevt else s4
  let s6 := if x.report then s5.sqRec n 0x03 (e + 2 ^ 16 * x.seg) o else s5
  let s7 := (((s6.firePens n x.pen o).visitSwitch n o).darkLanes n e o).playOuts n
  let s8 := (if s7.grpOf n e = old then s7 else s7.stageRelease n (s7.grpOf n e)).basePins n
  let met := if s8.evLevelKind x.jevt then decide (s8.evLevel x.jevt = x.jsense) else s8.latched n x.jevt
  if x.jmode = 4 ∧ met then s8.immediate n o else s8

/-- A lap ends at `o` and the next begins (R90, R100): an extra lap where a continuation is pending. -/
def State.nextLap (s : State) (n o : Nat) : State :=
  let q := s.sqn n
  match q.visit with
  | none => s
  | some v =>
    let x := s.entry n v.entry
    let s1 := (s.setSq n { q with lapAt := o }).bump (F.SQ_POS_LAP n)
    let s2 := if q.pend.isSome then s1.put (F.SQ_POS_EXT n) (s1.fld (F.SQ_POS_EXT n) + 1) else s1
    let s3 := if x.latch = 2 then s2.clearLatch n x.jevt else s2
    if x.penLap then s3.firePens n x.pen o else s3

/-- Domains the schedule owns are released, and the sleep conditions of R24 apply (R155). -/
def State.releaseOwned (s : State) : State :=
  (({ s with sup := { s.sup with ownedBanks := 0 }, plan := { s.plan with wakeLeft := [] } }).release
    ((List.range 64).filter (fun d => bitOf s.sup.owned d))).sleepIdle

/-- The pair state outside a heat (R344). -/
def State.pairAfterHeat (s : State) : State :=
  if s.pair = pairLockstep ∨ s.pair = pairBroken then s.put F.MIR_STAT_PAIR pairPaired
  else if s.mir.before = pairLockstep ∨ s.mir.before = pairBroken then { s with mir := { s.mir with before := pairPaired } }
  else s

/-- The heat ends (R83): a HEAT_END record with the source of the sequencer whose stop ended it, HEAT LOADED, every heat
sequencer LOADED, the timeline stopped (R146), the schedule's domains released (R155). Pennant edges still to come keep their
moments (R125). -/
def State.endHeat (s : State) (n cause : Nat) : State :=
  let m := s.fld F.SEQ_STAT_HEAT_MASK
  let s0 := s.fineNow
  let s1 := (s0.eventNow n 0x0B (m + 2 ^ 8 * cause)).raise F.SEQ_STAT_HEAT_END
  let s2 := (s1.put F.SEQ_STAT_HEAT 1).put F.SEQ_STAT_RUN_MASK 0
  let s3 := s2.heatSqs.foldl (fun t i =>
    let t1 := t.put (F.SQ_STAT_STATE i) sqLoaded
    t1.setSq i { past := (t1.sqn i).past, gaps := (t1.sqn i).gaps,
                 resident := (t1.sqn i).resident.filter (fun j => (t1.grpRecs i 0).contains j) }) s2
  let base := (s.tm.tb : Int) - s.tm.heat
  let run := s.fld F.SEQ_STAT_HEAT = 3
  let keep := fun (f : PnEv) => if f.heat then { f with heat := false, tick := (base + f.tick).toNat } else f
  let s4 := { s3 with tm := { s3.tm with startAt := none, startWait := false, resAt := none, resWait := false,
                                         past := if run then ⟨s.tm.heat + 1, base, base, true⟩ :: s3.tm.past else s3.tm.past },
                      ev := { s3.ev with fires := s3.ev.fires.map keep, on := s3.ev.on.map keep, paused := 0 } }
  (((s4.raise F.PLAN_TL_FREE).releaseOwned).pairAfterHeat).setPstate

/-- SQn has stopped in the present tick. -/
def State.noteStop (s : State) (n : Nat) : State :=
  let m := if s.tm.stopTb = s.tm.tb then s.tm.stops else 0
  { s with tm := { s.tm with stops := putBit m n true, stopTb := s.tm.tb } }

/-- The lowest-numbered sequencer that stopped in the tick of the last stop: the source of HEAT_END (R130). -/
def State.endSource (s : State) : Nat := ((List.range 8).find? (fun n => bitOf s.tm.stops n)).getD 0

/-- A stop takes effect at `o` (R86, R70, R112): outputs at rest or held, STOPPED, the STOP record; the heat ends with its
last sequencer. -/
def State.stopSq (s : State) (n : Nat) (rest : Bool) (cause o : Nat) : State :=
  let e := s.fld (F.SQ_STAT_ENTRY n)
  let s1 := (s.capture n o).leaveVisit n o
  let s2 := if rest then s1.restOuts false (s1.fcsOf n) (s1.vpsOf n) else s1
  let s3 := (((s2.put (F.SQ_STAT_STATE n) sqStopped).put (F.SQ_STAT_HELD n) 0).put (F.SQ_STAT_PENDING n) 0).put
    (F.SQ_STAT_ZONE n) 0
  let s4 := s3.put F.SEQ_STAT_RUN_MASK (putBit (s3.fld F.SEQ_STAT_RUN_MASK) n false)
  let q := s4.sqn n
  let s5 := s4.setSq n { past := q.past, gaps := q.gaps, resident := q.resident, lapAt := q.lapAt }
  let s6 := s5.sqRec n 0x09 (e + 2 ^ 16 * cause + 2 ^ 24 * b2n (!rest)) o
  let s7 := s6.noteStop n
  if s7.fld F.SEQ_STAT_RUN_MASK = 0 then s7.endHeat s7.endSource 0 else s7

/-- A hold begins at `o` (R102): outputs hold their values of o − 1; the limit is the working LIMIT16 of this tick. READY of an entry
with CONSUME = 1 stands until the hold is left (R76): whether it clears already here, the spec does not say (log 30). A fence's FALLBACK
that is still to apply resolves the hold (R106). -/
def State.beginHold (s : State) (n e o : Nat) : State :=
  let s1 := s.capture n o
  let q := s1.sqn n
  let entry := match q.visit with | some v => v.entry | none => 0
  let left := q.next.filter (fun d => d.isStop || d.fenced)
  let s2 := s1.setSq n { q with hold := some ⟨o, e, 16 * s.fld (F.SQ_HOLD_LIMIT_LIMIT16 n), left.any Dec.fenced⟩, off := true,
                                want := q.want.filter (fun g => decide (g.1 < o)),
                                tail := [],
                                next := left }
  (((s2.raise (F.SQ_STAT_HELD n)).raise (F.SQ_FLAGS_HOLD_SEEN n)).zones n []).sqRec n 0x06 (entry + 2 ^ 16 * e) o

/-- The FALLBACK outcome applies at `o` (R101). -/
def State.applyFallback (s : State) (n o : Nat) (dst : Option Nat) (cause stopCause : Nat) : State :=
  let left := match (s.sqn n).visit with | some v => v.entry | none => 0
  let fbe := (s.entry n left)
  let s1 := (s.raise (F.SQ_FLAGS_FALLBACK n)).sqRec n 0x05
    (left + 2 ^ 16 * (if fbe.fbRest then 0xFFFF else fbe.fallback) + 2 ^ 32 * cause) o
  match dst with
  | some e => s1.beginVisit n e o false
  | none => s1.stopSq n true stopCause o

/-- A decision applies at the outputs (R90, R95, R101, R102). -/
def State.applyDec (s : State) (n : Nat) (d : Dec) : State :=
  match d.c with
  | .go =>
    match (s.sqn n).visit with
    | none => s
    | some v =>
      let s1 := s.zones n ((s.sqn n).shadow.filter (fun z => decide (d.o < z.1)))
      if isLapEnd (s1.entry n v.entry) v.f d.o then s1.nextLap n d.o else s1
  | .visit e jump =>
    match (s.sqn n).hold with
    | some h => (s.sqRec n 0x07 ((d.o - h.o) % 2 ^ 32 + 2 ^ 32 * e) d.o).beginVisit n e d.o (!jump)
    | none => s.beginVisit n e d.o (!jump)
  | .stop rest cause => s.stopSq n rest cause d.o
  | .hold e => s.beginHold n e d.o
  | .fallback dst cause sc => s.applyFallback n d.o dst cause sc

/-- The decision that applies first: the earliest tick; a stop before another decision of the same tick (R113). -/
def firstDec : List Dec → Option Dec
  | [] => none
  | d :: ds =>
    match firstDec ds with
    | none => some d
    | some e => if e.o < d.o ∨ (e.o = d.o ∧ e.isStop) then some e else some d

/-- The strobes and the profile load of a continuation that resolves a hold, due since its resumption tick (R91, R102). -/
def State.holdPrep (s : State) (n : Nat) : State :=
  let q := s.sqn n
  match q.prep, q.next.findSome? (fun d => match d.c with | .visit e _ => some e | _ => none) with
  | some r, some e => if s.tm.heat < r then s else (s.setSq n { q with prep := none }).prepOuts n e (r + 48)
  | _, _ => s

/-- What time has brought by the present tick: resolved holds' resumption ticks. It runs before what could change what they load. -/
def State.holdPreps (s : State) : State :=
  if (List.range 8).any (fun n => (s.sqn n).prep.isSome) then (List.range 8).foldl (fun t n => t.holdPrep n) s else s

/-- SQn's latches, EV0 in bit 0. -/
def State.latches (s : State) (n : Nat) : Nat := (s.rd (latchFld n 0).a).toNat + 2 ^ 32 * (s.rd (latchFld n 32).a).toNat

/-- The heat has gone on from heat tick `h0`: a follower in lockstep keeps what it was at the last multiple of 64 that was passed (R347). -/
def State.markNote (s : State) (h0 : Nat) : State :=
  let h := s.tm.heat / 64 * 64
  if s.role = roleFollower ∧ s.pair = pairLockstep ∧ h0 < h then
    { s with mir := { s.mir with markAt := h, marks := (List.range 8).map (fun n => (s.sqState n, s.latches n)) } }
  else s

/-- What `k` ticks of time since heat tick `h0` bring at the mirror link (R347, R352). -/
def State.linkTime (s : State) (k h0 : Nat) : State := (s.mirDrain k).markNote h0

/-- What the time that has passed brings: what resolved holds load, and the ticks that the fine channels have played. -/
def State.passed (s : State) : State := s.holdPreps.fineNow

/-- The timebase reaches tick `t`: what is due on the way comes first. -/
def State.passTo (s : State) (t : Nat) : State := ((s.lateNotes.toTick t).linkTime (t - s.tm.tb) s.tm.heat).passed

/-- The heat reaches tick `h`: what is due on the way comes first. -/
def State.arrive (s : State) (h : Nat) : State := s.passTo (s.tm.tb + (h - s.tm.heat))

/-- Take the next decision from SQn's list and let it apply at its tick. -/
def State.applyFirst (s : State) (n : Nat) (d : Dec) : State :=
  let s1 := s.arrive d.o
  let q := s1.sqn n
  (s1.setSq n { q with next := q.next.filter (fun x => decide (x ≠ d) && !(d.isStop && decide (d.o ≤ x.o))) }).applyDec n d

/-- Apply every decision of SQn due by heat tick `h`, in order. -/
def State.applyDue : Nat → Nat → Nat → State → State
  | 0, _, _, s => s
  | k + 1, n, h, s =>
    match firstDec (s.sqn n).next with
    | some d => if d.o ≤ h then State.applyDue k n h (s.applyFirst n d) else s
    | none => s

/-- The decision at the commit tick of SQn's next boundary (R92, R93, R99, R100, R112). The exchange zone opens at every opportunity,
whatever the decision (R95); while a continuation is pending, its entry's opportunities bring no decision (R100). -/
def State.commit (s : State) (n : Nat) : State :=
  let q0 := s.sqn n
  match q0.visit with
  | none => s
  | some v0 =>
    if s.sqState n ≠ sqRunning ∨ q0.hold.isSome ∨ (q0.next.any (fun d => d.leaves && !d.isStop)) then s
    else
      let x := s.entry n v0.entry
      let o := nextBoundary x v0.f v0.cur
      let s1 := State.applyDue 8 n (o - 48) (s.arrive (o - 48))
      let q := s1.sqn n
      if q.visit ≠ some v0 then s1
      else
        let c := o - 48
        let s2 := s1.setSq n { q with visit := some { v0 with cur := o } }
        let lapEnd := isLapEnd x v0.f o
        let last := isLastEnd x v0.f o
        let opp := isOpp x v0.f o && q.pend.isNone
        let s3 := if opp then s2.zones n (q.shadow ++ [(o, x.target)]) else s2
        if q.next.any (fun d => d.isStop && decide (d.o ≤ o)) then s3
        else match s1.stopAt n v0 o with
        | some hold => (s3.setSq n { s3.sqn n with stopReq := none }).addDec n ⟨o, .stop (!hold) 1⟩
        | none => match q.pend with
          | some e =>
            if !lapEnd then s3.addDec n ⟨o, .go⟩
            else (s3.mirDecision n 0 c (2 ^ 8 * s3.shortOut n x (s3.contReady n e))).select n o e q.pendJump
          | none =>
            if opp && s3.condMet n x then
              let s4 := if s3.evLevelKind x.jevt then s3 else s3.put (latchFld n x.jevt) 0
              (s4.mirDecision n 0 c (1 + 2 ^ 8 * s4.shortOut n x (s4.contReady n x.target))).select n o x.target true
            else
              let short := s3.shortOut n x (!(last && decide (x.endAct = 0)) || s3.contReady n x.succ)
              let s4 := if opp || last then s3.mirDecision n 0 c (2 ^ 8 * short) else s3
              if !last then s4.addDec n ⟨o, .go⟩
              else match x.endAct with
                | 0 => s4.select n o x.succ false
                | 1 => s4.addDec n ⟨o, .stop true 0⟩
                | _ => s4.addDec n ⟨o, .stop false 0⟩

/-- A hold is resolved with resumption tick `r`: the continuation's first output is at r + 48, its strobes and its profile load come at r. It
begins from the starting block (R65, R98, R104). -/
def State.resumeAt (s : State) (n : Nat) (h : Hold) (r : Nat) : State :=
  let s1 := s.setSq n { s.sqn n with hold := some { h with exit := true }, prep := some r }
  (((s1.prepGroup n h.e).addDec n ⟨r + 48, .visit h.e true⟩).takeTail n (r + 48)).holdPrep n

/-- The awaited segment of a hold is READY at the present tick (R102): the resumption tick s is the next multiple of 16. -/
def State.holdReady (s : State) (n : Nat) : State :=
  let q := s.sqn n
  match q.hold with
  | none => s
  | some h =>
    if h.exit || !s.contReady n h.e then s
    else
      let y := s.seenAt
      let r := (y + 15) / 16 * 16
      (s.mirDecision n 2 r r).resumeAt n h r

/-- The FALLBACK outcome of a hold is decided at heat tick `k`, by its limit or by HOLD_END (R102); a hold that awaits a fenced segment
does not end so (R106). -/
def State.holdExit (s : State) (n k cause : Nat) : State :=
  let q := s.sqn n
  match q.hold with
  | none => s
  | some h => if h.exit || s.segFenced (s.entry n h.e).seg then s
    else (s.setSq n { q with hold := some { h with exit := true } }).decideFallback n (k + 48) cause 2

/-- The SEGMENT pennants of SQn go inactive, and their fires are cancelled (R125). -/
def State.cancelPens (s : State) (n : Nat) : State :=
  let other := fun (f : PnEv) => !(decide (s.fld (F.PN_CFG_MODE f.pn) = 1) && decide (s.fld (F.PN_CFG_OWNER f.pn) = n))
  { s with ev := { s.ev with fires := s.ev.fires.filter other, on := s.ev.on.filter other } }

/-- The pin takes the drive state kept for it, unless it is at rest (R27, R108). -/
def State.backDrive (s : State) (p : Nat) : State :=
  if s.flag (F.VP_STAT_AT_REST p) then s else s.put (F.VP_STAT_DRIVE p) (Sp.get (fun _ => ({} : Vp)) s.vp p).kept

/-- Outputs of SQn that have become ready join its course where it stands (R27): in a hold, at what is held since its start; in a pause, at
what is held since heat tick k. Both were kept then. -/
def State.joinSq (s : State) (n : Nat) : State :=
  let s1 := s.playOuts n
  if (s1.sqn n).hold.isSome ∨ s1.sqState n = sqPaused then
    ((s.vpsOf n).filter (fun p => s.flag (F.VP_STAT_AT_REST p))).foldl (fun t p => t.backDrive p) s1
  else s1

/-- What has become ready joins the courses of the heat's sequencers that play, or that a pause holds (R27). -/
def State.joinAll (s : State) : State :=
  s.heatSqs.foldl (fun t n =>
    if (t.sqn n).visit.isNone then t
    else if t.sqState n = sqRunning ∨ (t.sqState n = sqPaused ∧ !t.tm.pauseRest) then t.joinSq n
    else t) s.fineNow

/-- A sequencer fault stops SQn at once through the hold path (R66, R86); a pause has played its tick (R107). -/
def State.faultStop (s0 : State) (n cause : Nat) : State :=
  let s := s0.fineNow
  let e := s.fld (F.SQ_STAT_ENTRY n)
  let s1 := (s.leaveVisit n s.seenAt).restOuts true (s.fcsOf n) (s.vpsOf n)
  let s2 := ((((s1.put (F.SQ_STAT_STATE n) sqStopped).put (F.SQ_STAT_HELD n) 0).put (F.SQ_STAT_PENDING n) 0).put
    (F.SQ_STAT_ZONE n) 0)
  let s3 := s2.put F.SEQ_STAT_RUN_MASK (putBit (s2.fld F.SEQ_STAT_RUN_MASK) n false)
  let q := s3.sqn n
  let s4 := s3.setSq n { past := q.past, gaps := q.gaps, resident := q.resident, lapAt := q.lapAt }
  let s5 := s4.cancelPens n
  (s5.eventNow n 0x09 (e + 2 ^ 16 * cause)).noteStop n

/-- Every sequencer of a heat in progress stops by a device fault, with FAULT set, and the heat ends with cause 0
(R319, R322). -/
def State.faultStopAll (s : State) : State :=
  let act := s.heatSqs.filter (fun n => s.sqActive n)
  let s1 := act.foldl (fun t n => (t.faultStop n 4).raise (F.SQ_STAT_FAULT n)) s
  match act with
  | [] => s1
  | _ :: _ => s1.endHeat s1.endSource 0

/-- The loaded plan is discarded: every course empty, every sequencer IDLE, the segments unused, the staging region and the
schedule's domains released (R162, R164). -/
def State.emptyCourses (s : State) : State :=
  let s0 := s.releaseOwned
  let s1 := { s0 with plan := { writing := s.plan.writing, waitPll := s.plan.waitPll,
                                addr := s.plan.addr, head := s.plan.head },
                      mem := { s0.mem with course := [], dir := [] }, sq := [] }
  let s2 := (List.range 8).foldl (fun t n => (t.put (F.SQ_STAT_STATE n) sqIdle)) s1
  let s3 := (List.range 64).foldl (fun t n => t.put (F.FC_STAT_FORMAT n) 7) s2
  let s4 := ((s3.put F.SEQ_STAT_HEAT 0).put F.SEQ_STAT_HEAT_MASK 0).put F.SEQ_STAT_RUN_MASK 0
  let s5 := ((s4.put F.PLAN_STAT_PRESENT 0).wr 0x40014 0).raise F.PLAN_TL_FREE
  (s5.setSel 0x1001 0).setPstate

/-- The mapped set without a plan (R228): enabled channels that are not fenced. -/
def State.freeMapped (s : State) : Nat :=
  (List.range 8).foldl (fun m c => putBit m c (bitOf (s.fld F.DRAM_CFG_CH_EN) c && !s.fenced c)) 0

end Sys2Proof.Machine
end

