-- ==== Sys2Proof/Machine/Event.lean ====
section
/-! DEFINITION. The event unit (R114–R127): pulses and levels seen, hops, pennants, trigger inputs, alarms, software
events, STARTER's effect on what waits for it, and reads of EVQ. -/

namespace Sys2Proof.Machine

/-- SQn takes an event's pulse (R93, R97, R121): it meets an IMMEDIATE condition or is latched. In a pause it is latched, and counts as
seen at the pause's end (R107). -/
def State.pulseTo (s : State) (n ev : Nat) : State :=
  if !s.evRouted ev n || !(decide (s.sqState n = sqRunning) || decide (s.sqState n = sqPaused)) then s
  else
    let t := s.tm.heat
    let x := match (s.sqn n).visit with | some v => s.entry n v.entry | none => s.entry n 0
    if decide (s.fld F.SEQ_STAT_HEAT ≠ 4) && s.immOpen n t && decide (x.jevt = ev) then
      if s.immFits n t then s.immediate n t else (s.immediate n t).latchPulse n ev
    else s.latchPulse n ev

/-- EVENT-mode pennants of event `ev` fire for tick `t` while PD_SEQ is awake (R122, R123). DELAY and PHASE are those of this tick, or of
the lap's start: which moment's values hold for a fire, the spec does not say (log 31). -/
def State.pennantEvent (s : State) (ev t : Nat) : State :=
  let ps := (List.range 32).filter (fun i => s.awake 2 && decide (s.fld (F.PN_CFG_MODE i) = 2)
    && decide (s.fld (F.PN_CFG_EVSRC i) = ev))
  { s with ev := { s.ev with fires := s.ev.fires ++ ps.map (fun i =>
      ⟨i, t + 48 + s.fld (F.PN_TIME_DELAY i), s.fld (F.PN_TIME_PHASE i), false, 0⟩) } }

/-- Fine channels that hop on event `ev`, seen at heat tick t, are switched from output tick t + 48 (R174): while their owner is RUNNING
or PAUSED and the event is routed to it. What a pause brings counts as seen at its end (R107). -/
def State.hopEvent (s : State) (ev : Nat) : State :=
  (List.range 64).foldl (fun u c =>
    match u.fcOwner c with
    | none => u
    | some n =>
      if u.flag (F.FC_HOP_EN c) && decide (u.fld (F.FC_HOP_EVT c) = ev) && u.evRouted ev n && u.usesNco c
          && (decide (u.sqState n = sqRunning) || decide (u.sqState n = sqPaused)) then
        u.addSw c (u.mkSw c 1 (u.tm.heat + 48) (u.fld (F.FC_HOP_PROF c)) (u.fld (F.FC_HOP_PHASE c)))
      else u) s

/-- A pulse of EVn occurs in the present tick (R116, R121): a second in one tick merges into the first. -/
def State.pulse (s : State) (ev : Nat) : State :=
  let fresh := decide (s.ev.seenTick ≠ s.tm.tb)
  let seen := if fresh then 0 else s.ev.seen
  if bitOf seen ev then s.bump F.EVT_STAT_EDGE_MERGE
  else
    let s1 := { s with ev := { s.ev with seenTick := s.tm.tb, seen := putBit seen ev true } }
    let s2 := s1.pennantEvent ev s1.tm.tb
    let s3 := if s2.fld F.SEQ_STAT_HEAT = 4 then { s2 with ev := { s2.ev with paused := putBit s2.ev.paused ev true } }
      else s2.hopEvent ev
    (List.range 8).foldl (fun t n => t.pulseTo n ev) s3

/-- Every pulse event with a source is seen (R115). -/
def State.pulseSrc (s : State) (src : Nat) : State :=
  (List.range 64).foldl (fun t ev => if t.evSrc ev = src ∧ !t.evLevelKind ev then t.pulse ev else t) s

/-- The values of all level events, one bit each. -/
def State.levels (s : State) : Nat := (List.range 64).foldl (fun m ev => putBit m ev (s.evLevel ev)) 0

/-- The heat looks at the level events again (R97, R174): one that has risen hops its channels; one that has changed meets an IMMEDIATE
condition where it now matches JSENSE. In a pause it does not look (R107). -/
def State.heatLevels (s : State) (now : Nat) : State :=
  let old := s.ev.lvlHeat
  if s.fld F.SEQ_STAT_HEAT = 4 ∨ now = old then s
  else
    let s1 := { s with ev := { s.ev with lvlHeat := now } }
    (List.range 64).foldl (fun t ev =>
      if bitOf old ev = bitOf now ev then t
      else
        let t1 := if bitOf now ev then t.hopEvent ev else t
        (List.range 8).foldl (fun u n =>
          let x := match (u.sqn n).visit with | some v => u.entry n v.entry | none => u.entry n 0
          if u.evRouted ev n && u.immOpen n u.tm.heat && decide (x.jevt = ev) && decide (bitOf now ev = x.jsense)
            && decide (u.sqState n = sqRunning)
          then u.immediate n u.tm.heat else u) t1) s1

/-- Look at the level events again (R116, R122): one that has risen fires its pennants; the heat looks. The pair is judged afresh
before it (R344). -/
def State.noteLevels (s0 : State) : State :=
  let s := s0.pairEval
  let now := s.levels
  let old := s.ev.lvl
  let s1 := if now = old then s
    else (List.range 64).foldl (fun t ev => if !bitOf old ev && bitOf now ev then t.pennantEvent ev t.tm.tb else t)
      { s with ev := { s.ev with lvl := now } }
  s1.heatLevels now

/-- What the pause has brought counts as seen at heat tick k + 1 (R107): hops of the pulses, IMMEDIATE conditions that a latched pulse
meets. -/
def State.pauseSeen (s : State) : State :=
  let s0 := { s with ev := { s.ev with pauseSeen := s.ev.paused, pauseTick := s.tm.tb } }
  let s1 := (List.range 64).foldl (fun t ev => if bitOf s.ev.paused ev then t.hopEvent ev else t) s0
  (List.range 8).foldl (fun u n =>
    let x := match (u.sqn n).visit with | some v => u.entry n v.entry | none => u.entry n 0
    if u.immOpen n u.tm.heat && decide (u.sqState n = sqRunning) && !u.evLevelKind x.jevt && u.latched n x.jevt then
      u.immediate n u.tm.heat
    else u) { s1 with ev := { s1.ev with paused := 0 } }

/-- The transition that EDGE selects (R117). -/
def edgeSel (edge : Nat) (high : Bool) : Bool :=
  match edge with
  | 1 => !high
  | 2 => true
  | _ => high

/-- The sample, counted from the start of the tick of a physical edge at sub-tick `phase`, at which the filter of TIm accepts the new value
(R117). -/
def State.acceptAt (s : State) (m phase : Nat) : Nat := (phase + 63) / 64 + s.fld (F.EVT_TI_CFG_FILT m)

/-- The filter of TIm accepts the value `v`, level events seeing `lvl` (R117): a TRIG record where STAMP asks for one, with the sub-tick
phase of the transition, stamped with the tick in which it is seen (R118, R130), and a pulse where EDGE selects it. -/
def State.tiAccept (s : State) (m : Nat) (v lvl : Bool) (phase : Nat) : State :=
  let s1 := { s with ev := { s.ev with ti := putBit s.ev.ti m v, tiLvl := putBit s.ev.tiLvl m lvl } }
  let s2 :=
    if edgeSel (s1.fld (F.EVT_TI_CFG_EDGE m)) v then
      let s' := if s1.flag (F.EVT_TI_CFG_STAMP m) then
          s1.eventNow 0x10 0x01 (m + 2 ^ 16 * phase + 2 ^ 32 * (s1.acceptAt m phase / 8))
        else s1
      s'.pulseSrc (m + 1)
    else s1
  s2.noteLevels

/-- INVERT of TIm has been written with its other value (R117): it stands before the filter, which sees a transition at a free sub-tick
phase and accepts it within the tick in which it is seen: of a write's moment within its tick the spec says nothing (log 28). -/
def State.invertFlip (s : State) (m : Nat) : State :=
  let v := !bitOf s.ev.ti m
  s.takeFree.tiAccept m v v (Config.freeNat s.free % 512)

/-- A transition at TIm (R116–R118): to the level `high` at sub-tick `phase`, held for `held` samples. The filter accepts it where it
holds for FILT + 1 samples, in the present tick; `at7` is the filtered level of the ball at sample 7 of that tick, which level events
follow. -/
def State.triggerEdge (s : State) (m : Nat) (high : Bool) (phase held : Nat) (at7 : Bool) : State :=
  if !s.awake 2 || decide (held ≤ s.fld (F.EVT_TI_CFG_FILT m)) then s
  else
    let inv := s.flag (F.EVT_TI_CFG_INVERT m)
    let v := high != inv
    if bitOf s.ev.ti m = v then s else s.tiAccept m v (at7 != inv) phase

/-- TRIGGER_EDGE. -/
def execTriggerEdge (ti : Fin 16) (high : Bool) (phase : BitVec 9) (stay : Stay) (s : State) : Host.Outcome State Fault Refusal :=
  if s.live then .next (s.triggerEdge ti.val high phase.toNat stay.held stay.at7) else .next s

/-- ALARMa's selector (R289). -/
def alarmSel (a : Nat) : Nat := 0x0C00 + a

/-- ALARMa fires (R119): its pulse events are seen, an ALARM record is written, a periodic alarm advances. -/
def State.fireAlarm (s : State) (a : Nat) : State :=
  let per := s.fld (F.EVT_APER_PERIOD a)
  let s1 := (s.eventNow 0x10 0x02 a).pulseSrc (0x28 + a)
  if per = 0 then { s1 with tm := { s1.tm with fired := putBit s1.tm.fired a true } }
  else s1.setSel (alarmSel a) (s1.getSel (alarmSel a) + per)

/-- ALARM: the timebase reaches the value of an enabled alarm that has not fired for it (R119). -/
def State.alarm (s : State) (a : Nat) : State :=
  if !s.awake 2 || !bitOf (s.fld F.EVT_ALARM_CTRL_EN) a || bitOf s.tm.fired a || decide (s.getSel (alarmSel a) < s.tm.tb)
      || (!s.flag F.TB_STAT_COUNTING && decide (s.getSel (alarmSel a) ≠ s.tm.tb)) then s
  else (s.passTo (s.getSel (alarmSel a))).fireAlarm a

/-- ALARM. -/
def execAlarm (a : Fin 8) (s : State) : Host.Outcome State Fault Refusal :=
  if s.live then .next (s.alarm a.val) else .next s

/-- Moments fixed in timebase ticks keep their distance from the present across a preset from `old` to `v` (log 1); a start or a
resumption AT_TICK stays at the timebase value of SEQ_AT (R87, R108), and is lost where the preset passes over it (log 30). What has happened
in the present tick stays in it. -/
def State.shiftTb (s : State) (old v : Nat) : State :=
  let m := fun x => x + v - old
  let now := fun x => if x = old then some v else none
  let by_ := fun x : Int => x + v - old
  let ev := { s.ev with
    fires := s.ev.fires.map (fun f => if f.heat then f else { f with tick := m f.tick }),
    on := s.ev.on.map (fun f => if f.heat then f else { f with tick := m f.tick }),
    seen := if s.ev.seenTick = old then s.ev.seen else 0, seenTick := v,
    pauseSeen := if s.fld F.SEQ_STAT_HEAT = 4 ∨ s.ev.pauseTick = old then s.ev.pauseSeen else 0, pauseTick := v }
  let stretches := if s.fld F.SEQ_STAT_HEAT = 3 then
      ⟨s.tm.heat, (s.tm.tb : Int) - s.tm.heat, (s.tm.tb : Int) - s.tm.heat, false⟩ :: s.tm.past
    else s.tm.past
  let s1 := { s with
    ev := ev, eff := s.eff.map (fun x => { x with tick := m x.tick }),
    q := { s.q with evSrcs := if s.q.evTb = old then s.q.evSrcs else [], evTb := v,
                    took := s.q.took.map (fun x => (x.1, x.2.bind now)) },
    was := s.was.map (fun x => (x.1 + v - old, x.2)),
    tm := { s.tm with starter := s.tm.starter.map m, fed := m s.tm.fed,
                      startAt := if s.tm.startSrc = 1 then s.tm.startAt.filter (fun x => decide (v ≤ x)) else s.tm.startAt.map m,
                      resAt := if s.tm.resSrc = 1 then s.tm.resAt.filter (fun x => decide (v ≤ x)) else s.tm.resAt.map m,
                      pausedAt := s.tm.pausedAt + v - old,
                      past := stretches.map (fun x => { x with base := x.base + v - old }),
                      stops := if s.tm.stopTb = old then s.tm.stops else 0, stopTb := v },
    mir := { s.mir with riseAt := s.mir.riseAt.map m, calAt := s.mir.calAt.map m, peerAt := s.mir.peerAt.bind now },
    cap := { s.cap with tick := s.cap.tick.bind now },
    mem := { s.mem with pvCut := s.mem.pvCut.map (fun x => (x.1, x.2.1, by_ x.2.2)) },
    bat := { s.bat with ports := s.bat.ports.map (fun x => (x.1, { x.2 with bp := x.2.bp.map by_ })),
                        sess := s.bat.sess.map (fun x => { x with told := x.told.map by_, got := x.got.map by_ }) },
    dram := { s.dram with yields := s.dram.yields.map (fun x => (x.1, (x.2.1, x.2.2.map by_))) },
    mg := { s.mg with dropAt := s.mg.dropAt.map by_ } }
  let s2 := (List.range 64).foldl (fun t n =>
    let c := t.fcn n
    t.setFc n { c with dlyFrom := ramp c.dlyFrom (t.trimTarget n) c.dlyN0 (2 * old), dlyN0 := 2 * v,
                       calAt := c.calAt.map by_,
                       sw := c.sw.map (fun w => if w.kind = 2 then { w with tick := m w.tick } else w) }) s1
  (List.range 128).foldl (fun t n =>
    let c := Sp.get (fun _ => ({} : Vp)) t.vp n
    let d := t.trimTarget (64 + n)
    let e := t.trimTarget (192 + n)
    let c' : Vp := { c with drvFrom := ramp c.drvFrom d c.drvN0 (8 * old), drvN0 := 8 * v,
                            stbFrom := ramp c.stbFrom e c.stbN0 (8 * old), stbN0 := 8 * v }
    { t with vp := Sp.set (fun _ => ({} : Vp)) t.vp n c' }) s2

/-- A preset moves the timebase (R119, R175): enabled alarm values it jumps over do not fire; a periodic alarm
advances to its first value at or after the new timebase; continuous lanes carry on; the aligned boundaries keep their
place (R47). DESIGN CHOICE (log 31): a value of an alarm that EN does not enable sets no ALARM_SKIP, and its periodic alarm stands. -/
def State.presetTb (s : State) (v : Nat) : State :=
  let old := s.tm.tb
  let s := s.fineNow
  let s1 := (List.range 8).foldl (fun t a =>
    let x := t.getSel (alarmSel a)
    let per := t.fld (F.EVT_APER_PERIOD a)
    if bitOf (t.fld F.EVT_ALARM_CTRL_EN) a && !bitOf t.tm.fired a && decide (old ≤ x) && decide (x < v) then
      let t1 := t.raise F.EVT_STAT_ALARM_SKIP
      if per = 0 then t1 else t1.setSel (alarmSel a) (x + (v - x + per - 1) / per * per)
    else t) (s.shiftTb old v)
  let s2 := (List.range 64).foldl (fun t n =>
    if t.usesNco n && t.flag (F.FC_STAT_RULE n) && !(match t.fcOwner n with | some q => decide (t.sqState q = sqPaused) | none => false) then
      let c := t.fcn n
      t.setFc n { c with acc := c.accAt 1 (2 * old), n0 := 2 * v }
    else t) s1
  let a := max (alignPeriod s2.clk.lockN) 1
  ({ s2 with tm := { s2.tm with tb := v % 2 ^ 64 } }).put F.TB_STAT_TB_ALIGN ((s2.fld F.TB_STAT_TB_ALIGN + a - old % a + v) % a)

/-- A pulse written to EVT_SW_PULSE bit `ev` (R120). -/
def State.swPulse (s : State) (ev : Nat) : State :=
  if s.evSrc ev = 0x20 ∧ !s.evLevelKind ev then s.pulse ev else s.raise F.EVT_STAT_SW_IGN

/-- EVT_SW_PULSE_LO or _HI takes a word (R120). -/
def State.swPulses (s : State) (hi : Bool) (w : Word) : State :=
  ((List.range 32).filter (fun i => bitOf w.toNat i)).foldl (fun t i => t.swPulse (if hi then 32 + i else i)) s

/-- The earliest scheduled fire of a pennant. -/
def firstPn (l : List PnEv) (pn : Nat) : Option PnEv :=
  (l.filter (fun f => decide (f.pn = pn))).foldl (fun b f => match b with
    | none => some f
    | some g => if f.tick < g.tick then some f else some g) none

/-- Let the clock of a pennant event reach its tick. -/
def State.toPn (s : State) (f : PnEv) : State := if f.heat then s.arrive f.tick else s.passTo f.tick

/-- The tick of a pennant event comes, or has come: a pause stops the heat tick, on which what a paused sequencer has scheduled counts
(R125), a hold of the timebase both (R44). -/
def State.pnComes (s : State) (f : PnEv) : Bool :=
  if f.heat then decide (s.fld F.SEQ_STAT_HEAT ≠ 4) && (s.flag F.TB_STAT_COUNTING || decide (f.tick ≤ s.tm.heat))
  else s.comes f.tick

/-- A pennant's pulse is active at its output: a SEGMENT pennant of a paused sequencer goes inactive where the pause rests the outputs
(R125), and a pennant whose mode is OFF stays inactive (R122). -/
def State.pennantActive (s : State) (pn : Nat) : Bool :=
  s.ev.on.any (fun f => decide (f.pn = pn)) && decide (s.fld (F.PN_CFG_MODE pn) ≠ 0) &&
    !(decide (s.fld (F.PN_CFG_MODE pn) = 1) && s.tm.pauseRest && decide (s.sqState (s.fld (F.PN_CFG_OWNER pn)) = sqPaused))

/-- The level of a pennant (R122, R125): the inactive level is low, or high where POL = 1. While ALIGN drives edges through it, at moments that
the spec does not give, it is a free value (R337; log 27). -/
def State.pennantLevel (s : State) (pn : Nat) : Bool :=
  if s.mir.job = 2 then bitOf (Config.freeNat s.free) pn else s.pennantActive pn != s.flag (F.PN_TIME_POL pn)

/-- PENNANT_FIRE: the active edge of the pennant's next fire (R123, R124): a fire during an active pulse restarts its width and counts
as a merge. The trim of this moment shifts the edge and the pulse's end (R126, R339). A SEGMENT fire scheduled before a hold gives its
edge in the hold: R102 and R125 do not settle it (log 31). WIDTH is that of the active edge (log 31). A fire left of an earlier plan for a
pennant whose mode is OFF is none (R122). -/
def State.pennantFire (s : State) (pn : Nat) : State :=
  match firstPn s.ev.fires pn with
  | none => s
  | some f =>
    if !s.pnComes f then s
    else if s.fld (F.PN_CFG_MODE pn) = 0 then { s with ev := { s.ev with fires := s.ev.fires.erase f } }
    else
      let s1 := (s.toPn f).bump (F.PN_CFG_FIRE_COUNT pn)
      let busy := s1.ev.on.any (fun o => decide (o.pn = pn))
      let s2 := if busy then s1.bump (F.PN_CFG_MERGE_COUNT pn) else s1
      let s3 := if 4000 < (s2.trimSum (320 + pn)).natAbs then s2.raise F.SYNC_STAT_CLAMP else s2
      { s3 with ev := { s3.ev with
          fires := s3.ev.fires.erase f,
          on := s3.ev.on.filter (fun o => decide (o.pn ≠ pn)) ++
            [{ f with tick := f.tick + s3.fld (F.PN_TIME_WIDTH pn) + 1, trim := s3.trimTarget (320 + pn) }] } }

/-- PENNANT_FIRE. -/
def execPennantFire (pn : Fin 32) (s : State) : Host.Outcome State Fault Refusal :=
  if s.live then .next (s.pennantFire pn.val) else .next s

/-- PENNANT_PULSE_END: the pulse of a pennant ends at its tick and phase (R124). -/
def State.pennantEnd (s : State) (pn : Nat) : State :=
  match firstPn s.ev.on pn with
  | none => s
  | some f =>
    if !s.pnComes f then s
    else
      let s1 := s.toPn f
      { s1 with ev := { s1.ev with on := s1.ev.on.filter (fun o => decide (o.pn ≠ pn)) } }

/-- PENNANT_PULSE_END. -/
def execPennantPulseEnd (pn : Fin 32) (s : State) : Host.Outcome State Fault Refusal :=
  if s.live then .next (s.pennantEnd pn.val) else .next s

/-- EVENT_HOP: the channel's next event hop takes effect at its output tick (R174). A PROF_EN switch of that tick prevails (R175); the
switch to profile 0 with which a heat starts comes before it (R175); a reload of that tick is not carried out (R190). A hop seen while the
owner was RUNNING takes effect also where the owner has stopped since, while the heat goes on, and is lost with the heat's end: DESIGN
CHOICE (log 31). -/
def State.eventHop (s : State) (c : Nat) : State :=
  match (s.fcn c).sw.find? (fun w => decide (w.kind = 1)) with
  | none => s
  | some w =>
    let drop := fun (t : State) (p : Sw → Bool) => t.setFc c { t.fcn c with sw := (t.fcn c).sw.filter (fun x => !p x) }
    if s.fld F.SEQ_STAT_HEAT = 3 then
      let s1 := s.arrive w.tick
      if (s1.fcn c).sw.any (fun x => (decide (x.kind = 0) || decide (x.kind = 3)) && decide (x.tick = w.tick)) then
        (drop s1 (fun x => decide (x = w))).raise (F.FC_STAT_HOP_DROP c)
      else
        let s1 := match (s1.fcn c).sw.find? (fun x => decide (x.kind = 4) && decide (x.tick = w.tick)) with
          | some z => s1.applySw c (s1.tbOf w.tick) z
          | none => s1
        let s2 := drop s1 (fun x => decide (x.kind = 2) && decide (x.tick = s1.tbOf w.tick))
        s2.applySw c (s2.tbOf w.tick) w
    else if s.fld F.SEQ_STAT_HEAT = 4 then s
    else drop s (fun x => decide (x = w))

/-- EVENT_HOP. -/
def execEventHop (fc : Fin 64) (s : State) : Host.Outcome State Fault Refusal :=
  if s.live then .next (s.eventHop fc.val) else .next s

/-- EVQ_LOST_RECORD: the holding buffer has freed space after drops (R127). -/
def execEvqLostRecord (s : State) : Host.Outcome State Fault Refusal :=
  if s.live then .next s.evLost else .next s

/-- Word `i` of the head record of a queue. -/
def headWord (q : Q) : Word :=
  match q.recs with
  | r :: _ => r.getD q.rd 0
  | [] => 0

/-- Read the next word of a queue's head record (R291): the record leaves with its last word, and EVQ and LOGQ take what
waits in their holding buffers. -/
def State.readQ (s : State) (i : Nat) : Word × State :=
  let q := s.getQ i
  let w := headWord q
  if q.rd + 1 = qWords i then
    let s1 := (s.leave i).ptrCheck i
    (w, if i = 8 then State.evDrain 256 s1 else if i = 12 then State.logDrain 64 s1 else s1)
  else (w, s.setQ i { q with rd := q.rd + 1 })

/-- Append one word to the record being written at a queue port (R291): with its last word the record enters. -/
def State.writeQ (s : State) (i : Nat) (w : Word) : State :=
  let q := s.getQ i
  let part := q.part ++ [w]
  if part.length = qWords i then ((s.setQ i { q with part := [] }).enter i part).ptrCheck i
  else s.setQ i { q with part := part }

end Sys2Proof.Machine
end

