-- ==== Sys2Proof/Machine/Sequencer.lean ====
section
/-! DEFINITION. The heat and its sequencers (R83–R113): start, pause, resumption and abort, the command queues, the
decisions and their effects at the outputs, underruns and sequencer faults, and the wake schedule (R153–R155, R27). -/

namespace Sys2Proof.Machine

/-- SEQ_CTRL.STATUS. -/
def State.seqStatus (s : State) (st : Nat) : State := s.put F.SEQ_CTRL_STATUS st

/-- Ticks pass, where the timebase counts. -/
def State.advance (s : State) (n : Nat) : State :=
  if s.flag F.TB_STAT_COUNTING then s.passTo (s.tm.tb + n) else s

/-! ### The wake schedule -/

/-- A wake record for a track-memory bank (R223): the region's banks ignore it. A bank in retention begins to wake. -/
def State.bankRecord (s : State) (m : Nat) (release : Bool) : State :=
  if 480 ≤ m then s
  else
    let wake := !release && s.flag (retFld m)
    { s with sup := { s.sup with ownedBanks := putBit s.sup.ownedBanks m (!release),
                                 wakingBanks := if wake then putBit s.sup.wakingBanks m true else s.sup.wakingBanks } }

/-- A wake record acts (R155): a wake takes ownership (R26), and its DRAM channel is out of power-down (R238); a release gives
the domain back to R24. -/
def State.runWake (s : State) (r : WakeRec) : State :=
  if r.dom = 0x14 then s.bankRecord r.index r.release
  else if r.release then s.release [r.dom]
  else
    let s1 := { s with sup := { s.sup with owned := putBit s.sup.owned r.dom true } }
    let s2 := if 0x18 ≤ r.dom ∧ r.dom ≤ 0x1F then s1.setDch (r.dom - 0x18) { s1.dch (r.dom - 0x18) with pd := false } else s1
    s2.startWake r.dom

/-- The schedule begins (R87, R155): records with TICK = 0 act at once. -/
def State.beginSchedule (s : State) : State :=
  let s1 := { s with plan := { s.plan with wakeLeft := s.plan.wake.filter (fun r => decide (r.tick ≠ 0)) } }
  (s.plan.wake.filter (fun r => decide (r.tick = 0))).foldl (fun t r => t.runWake r) s1

/-- WAKE_RECORD: the next record of the schedule is reached at its heat tick (R155). -/
def execWakeRecord (s : State) : Host.Outcome State Fault Refusal :=
  match s.plan.wakeLeft with
  | [] => .next s
  | r :: rs =>
    if s.live && decide (s.fld F.SEQ_STAT_HEAT = 3) then
      let s1 := s.arrive r.tick
      .next (({ s1 with plan := { s1.plan with wakeLeft := rs } }).runWake r)
    else .next s

/-- What a wake record woke has not reported ready (R27): the domain, or for PD_TM the bank that the schedule owns. -/
def State.notReady (s : State) (r : WakeRec) : Bool :=
  if r.dom = 0x14 then bitOf s.sup.ownedBanks r.index && s.flag (retFld r.index)
  else bitOf s.sup.owned r.dom && !s.awake r.dom

/-- LATE_WAKE: a scheduled domain has not reported ready by its first use (R27). -/
def execLateWake (d : BitVec 6) (firstUse : Nat) (s : State) : Host.Outcome State Fault Refusal :=
  if s.live && decide (s.fld F.SEQ_STAT_HEAT = 3)
      && s.plan.wake.any (fun r => decide (r.dom = d.toNat) && !r.release && decide (r.use = firstUse) && s.notReady r) then
    let s1 := s.arrive firstUse
    .next (s1.event (evRec (s1.tbOf firstUse) 0x14 0x01 d.toNat))
  else .next s

/-! ### Starting a heat -/

/-- The start entries of SQn's course in the plan's start list (R89). -/
def State.starts (s : State) (n : Nat) : List Nat :=
  (List.range 16).map (fun i => Sp.get (fun _ => 0xFFFF) s.plan.starts (16 * n + i))

/-- The status of START's checks (R87), in their order. -/
def State.startCheck (s : State) : Nat :=
  let src := s.fld F.SEQ_CTRL_START_SRC
  if s.fld F.SEQ_STAT_HEAT ≠ 1 then stState
  else if src = 3 then stRange
  else if s.clk.relock ≠ .none ∨ !(s.flag F.CLK_STAT_LOCK || s.flag F.CLK_STAT_COAST) then stState
  else if s.clk.lockN ≠ s.fld F.PLAN_INFO_PLAN_N then stBinding
  else if s.role ≠ roleSingle ∧ src ≠ 0 then stState
  else if src ≠ 0 ∧ !s.flag F.PLAN_INFO_SW_START then stRange
  else if src = 1 ∧ s.getSel 0x0800 < s.tm.tb + 16 then stRange
  else if s.heatSqs.any (fun n => s.fld (F.SQ_START_ENTRY n) = 0xFFFF || !(s.starts n).contains (s.fld (F.SQ_START_ENTRY n)))
    then stRange
  else stOk

/-- START is accepted (R87): the heat's sequencers are ARMED, the start tick is set or awaits STARTER, and the schedule
begins; a partner hears of it in an IDENT (R345). A fault that held OUT_EN low is past (log 21). -/
def State.startAccept (s : State) : State :=
  let src := s.fld F.SEQ_CTRL_START_SRC
  let s1 := s.heatSqs.foldl (fun t n => (t.put (F.SQ_STAT_STATE n) sqArmed).put (F.SQ_STAT_FAULT n) 0) s
  let s2 := (s1.put F.SEQ_STAT_HEAT 2).put F.SEQ_STAT_RUN_MASK (s1.fld F.SEQ_STAT_HEAT_MASK)
  let at' := match src with
    | 1 => some (s2.getSel 0x0800)
    | 2 => some (firstAligned s2.clk.lockN (s2.fld F.TB_STAT_TB_ALIGN) (s2.tm.tb + 16))
    | _ => none
  let s3 := { s2 with tm := { s2.tm with startAt := at', startWait := decide (src = 0), startSrc := src },
                      mir := { s2.mir with fault := false, mine := [] } }
  (s3.beginSchedule.setPstate).driveOutEn.sendIdent

/-- SEQ_CTRL.START (R87). -/
def State.startCmd (s : State) : State :=
  let st := s.startCheck
  if st = stOk then s.startAccept.seqStatus stOk else s.seqStatus st

/-- The start tick of a STARTER edge (R47, R285): the timebase takes TB_PRESET where ARM is set, and STARTER's update
strobes are issued. -/
def State.startTick (s : State) : State :=
  match s.tm.starter with
  | none => s
  | some t =>
    let s1 := s.passTo t
    let s2 := { s1 with tm := { s1.tm with starter := none } }
    let s3 := if s2.flag F.TB_CTRL_ARM then
        (s2.presetTb (s2.getSel 0x0401)).put F.TB_CTRL_ARM 0
      else s2
    s3.strobes (s3.fld F.UPD_STROBE_STARTER_GRP)

/-- Switches left over from an earlier heat are gone. -/
def State.clearSw (s : State) (n : Nat) : State :=
  (s.ncoLanes n).foldl (fun t c => t.setFc c { t.fcn c with sw := [] }) s

/-- SQn enters its start entry (R89, R91, R174): the start counts as a decision of heat tick 0. -/
def State.enterStart (s : State) (n : Nat) : State :=
  let e := s.fld (F.SQ_START_ENTRY n)
  let x := s.entry n e
  let s1 := (s.wr (latchFld n 0).a 0).wr (latchFld n 32).a 0
  let s2 := (s1.put (F.SQ_POS_EXT n) 0).put (F.SQ_STAT_STATE n) sqRunning
  let s3 := s2.setSq n { resident := (s2.sqn n).resident }
  let s4 := s3.clearSw n
  let s5 := s4.prepVisit n e 48
  let s6 := (s5.ncoLanes n).foldl (fun t c =>
    let f := t.fcn c
    if x.profEn then t.setFc c { f with sw := f.sw.map (fun w => if w.kind = 0 then { w with kind := 3 } else w) }
    else t.addSw c (t.mkSw c 4 48 0 0)) s5
  (s6.addDec n ⟨48, .visit e false⟩).sqRec n 0x01 (e + 2 ^ 16 * s6.tm.startSrc) 0

/-- The partner's last IDENT reports ARMED (R345). -/
def State.peerArmed (s : State) : Bool :=
  match s.mir.peer with
  | some l => decide (l.getD 5 0 = 2)
  | none => false

/-- The heat is aborted (R109): every output of its sequencers goes to rest through the hold path, they stop, and the heat
ends with cause 1. -/
def State.abortHeat (s : State) : State :=
  let s0 := s.advance 1
  let s1 := s0.heatSqs.foldl (fun t n =>
    if t.sqActive n then t.faultStop n 5 else (t.restOuts true (t.fcsOf n) (t.vpsOf n)).cancelPens n) s0
  s1.endHeat (s1.heatSqs.headD 0) 1

/-- Capture looks at the heat from its first tick. -/
def State.captStart (s : State) : State :=
  (List.range 4).foldl (fun t b =>
    t.setCapt b { t.capt b with next := 0, lastF := none, joined := if t.awake (16 + b) then some 0 else none }) s

/-- The heat's start tick (R84, R89): a held timebase does not reach it (R44). -/
def State.heatStart (s : State) : State :=
  let s0 := if s.tm.starter.isSome && decide (s.tm.starter = s.tm.startAt) && s.flag F.TB_STAT_COUNTING then s.startTick else s
  match s0.tm.startAt with
  | none => s0
  | some t =>
    if s0.fld F.SEQ_STAT_HEAT ≠ 2 ∨ !s0.comes t then s0
    else
      let s1 := s0.passTo t
      let s2 := ({ s1 with tm := { s1.tm with startAt := none, heat := 0, past := [], conf := 511 }, was := [],
                           plan := { s1.plan with row := 0, asked := 0 } }).captStart
      let s3 := ((s2.setSel 0x0802 s2.tm.tb).put F.SEQ_STAT_HEAT 3).put F.PLAN_TL_FREE 0
      let s4 := s3.heatSqs.foldl (fun u n => u.enterStart n) s3
      if s4.role = roleFollower ∧ !s4.peerArmed then s4.abortHeat
      else if s4.role ≠ roleSingle ∧ s4.pair = pairPaired ∧ s4.peerArmed then s4.put F.MIR_STAT_PAIR pairLockstep
      else s4

/-- HEAT_START. -/
def execHeatStart (s : State) : Host.Outcome State Fault Refusal :=
  if s.live && !s.tm.startWait then .next s.heatStart.noteLevels else .next s

/-! ### Pause, resume and abort -/

/-- A decision due in the present tick is made before the heat stands (R113). -/
def State.commitNow (s : State) (n : Nat) : State :=
  match (s.sqn n).visit with
  | none => s
  | some v =>
    if nextBoundary (s.entry n v.entry) v.f v.cur = s.tm.heat + 48 then s.commit n else s

/-- `k` ticks pass, in each of which the sequencers' decisions apply and are made. -/
def State.runTicks : Nat → State → State
  | 0, s => s
  | k + 1, s =>
    let s1 := s.advance 1
    State.runTicks k (if s1.fld F.SEQ_STAT_HEAT = 3 then
        (s1.heatSqs.filter (fun n => s1.sqState n = sqRunning)).foldl (fun t n =>
          (State.applyDue 8 n t.tm.heat t).commitNow n) s1
      else s1)

/-- A leader registers a command of the heat (R345): the acceptance tick is 16 ticks later, and a command that it does not refuse for its
arguments is sent as a DECISION at registration. What is due at the outputs and at commit ticks until then comes first (R111). -/
def State.leaderDelay (s : State) (ok : Bool) (n arg : Nat) : State :=
  if s.role = roleLeader ∧ (s.fld F.SEQ_STAT_HEAT = 3 ∨ s.fld F.SEQ_STAT_HEAT = 4) then
    State.runTicks 16 (if ok then
      s.mirDecision n 3 (if s.fld F.SEQ_STAT_HEAT = 3 then s.tm.heat + 16 else s.tm.heat) arg else s)
  else s

/-- A continuous lane's accumulator stands while its sequencer is paused (R175): its value at the first sample after tick k. -/
def State.holdNco (s : State) (n : Nat) : State :=
  (s.ncoLanes n).foldl (fun t c => if t.flag (F.FC_STAT_RULE c) then
    t.setFc c { t.fcn c with acc := (t.fcn c).accAt 1 (2 * (t.tm.tb + 1)), n0 := 2 * (t.tm.tb + 1) } else t) s

/-- What the pins of a held sequencer drive is kept over a pause that rests the outputs (R108). -/
def State.keepDrives (s : State) (n : Nat) : State :=
  ((s.vpsOf n).filter (fun p => !s.flag (F.VP_STAT_AT_REST p))).foldl (fun a p =>
    { a with vp := Sp.set (fun _ => ({} : Vp)) a.vp p { Sp.get (fun _ => ({} : Vp)) a.vp p with kept := a.fld (F.VP_STAT_DRIVE p) } }) s

/-- What a SEGMENT pennant of a sequencer that is not paused has scheduled keeps its moments while the heat stands (R125): only that of a
paused one stands with the heat tick. `base` is the timebase less the heat tick. -/
def State.stoppedPens (base : Int) (s : State) : State :=
  let keep := fun (f : PnEv) => if f.heat && decide (s.sqState (s.fld (F.PN_CFG_OWNER f.pn)) ≠ sqPaused) then
    { f with heat := false, tick := (base + f.tick).toNat } else f
  { s with ev := { s.ev with fires := s.ev.fires.map keep, on := s.ev.on.map keep } }

/-- The heat stands after its present tick (R107), unless it has ended with a stop of that tick. -/
def State.pauseHeat (s : State) (rest : Bool) : State :=
  let k := s.tm.heat
  let s0 := (s.heatSqs.filter (fun n => s.sqState n = sqRunning)).foldl (fun t n => t.commitNow n) s
  if s0.fld F.SEQ_STAT_HEAT ≠ 3 then s0
  else
    let run := s0.heatSqs.filter (fun n => s0.sqState n = sqRunning)
    let base := (s0.tm.tb : Int) - k
    let s0' := s0.fineUp (s0.tm.tb + 1)
    let s1 := { s0' with
      ev := { s0'.ev with pauseSeen := if s0.ev.seenTick = s0.tm.tb then s0.ev.seen else 0 },
      tm := { s0'.tm with pausedAt := s0.tm.tb, pauseRest := rest, past := ⟨k + 1, base, base, true⟩ :: s0.tm.past } }
    let s2 := (s1.put F.SEQ_STAT_HEAT 4).put F.PLAN_TL_FREE 1
    State.stoppedPens base <| run.foldl (fun t n =>
      let t0 := if (t.sqn n).hold.isSome then t else t.capture n (k + 1)
      let t1 := (if rest then (t0.keepDrives n).restOuts false (t0.fcsOf n) (t0.vpsOf n) else t0).holdNco n
      (t1.put (F.SQ_STAT_STATE n) sqPaused).event (evRec s1.tm.tb n 0x0C k)) s2

/-- SEQ_CTRL.PAUSE (R107). -/
def State.pauseCmd (s : State) : State :=
  if s.role = roleFollower ∨ s.fld F.SEQ_STAT_HEAT ≠ 3 then s.seqStatus stState
  else
    let s1 := s.leaderDelay true 255 (2 + 2 ^ 8 * s.fld F.SEQ_CTRL_PAUSE_OUT)
    let s2 := s1.pauseHeat (s1.flag F.SEQ_CTRL_PAUSE_OUT)
    s2.seqStatus (if s2.fld F.SEQ_STAT_HEAT = 4 then stOk else stState)

/-- A resumption tick is chosen (R108). -/
def State.resumeFrom (s : State) (src : Nat) : State :=
  let at' := match src with
    | 1 => some (s.getSel 0x0800)
    | 2 => some (s.tm.tb + 1)
    | _ => none
  { s with tm := { s.tm with resAt := at', resSrc := src, resWait := decide (src = 0) } }

/-- SEQ_CTRL.RESUME (R108). -/
def State.resumeCmd (s : State) : State :=
  let src := s.fld F.SEQ_CTRL_RESUME_SRC
  if s.role = roleFollower ∨ s.fld F.SEQ_STAT_HEAT ≠ 4 ∨ s.tm.resAt.isSome ∨ s.tm.resWait then s.seqStatus stState
  else if src = 3 ∨ (src = 1 ∧ s.getSel 0x0800 < s.tm.tb + 16) then s.seqStatus stRange
  else ((s.leaderDelay true 255 (4 + 2 ^ 6 * src)).resumeFrom src).seqStatus stOk

/-- The pins of a held sequencer drive again what they drove before the pause (R108). -/
def State.backDrives (s : State) (n : Nat) : State := (s.vpsOf n).foldl (fun a p => a.backDrive p) s

/-- RESUMPTION: at the resumption tick the heat tick becomes k + 1 (R108, R175), in which what came in the pause counts as seen (R107). -/
def State.resumption (s : State) : State :=
  match s.tm.resAt with
  | none => s
  | some t =>
    if s.fld F.SEQ_STAT_HEAT ≠ 4 ∨ !s.flag F.TB_STAT_COUNTING then s
    else
      let s0 := if s.tm.starter = some t then s.startTick else s
      let s1 := s0.passTo (s0.tm.resAt.getD t)
      let gap := ((s1.tm.tb : Int) - (s1.tm.pausedAt + 1)).toNat
      let k1 := s1.tm.heat + 1
      let s2 := { s1 with tm := { s1.tm with resAt := none, heat := k1, pauseRest := false },
                          plan := { s1.plan with row := k1 / 16 } }
      let s3 := (s2.put F.SEQ_STAT_HEAT 3).put F.PLAN_TL_FREE 0
      let run := s3.heatSqs.filter (fun n => s3.sqState n = sqPaused)
      State.pauseSeen <| run.foldl (fun u n =>
        let u1 := (u.put (F.SQ_STAT_STATE n) sqRunning).setSq n { u.sqn n with lead := none }
        let u2 := (u1.ncoLanes n).foldl (fun a c => if a.flag (F.FC_STAT_RULE c) then
          a.setFc c { a.fcn c with n0 := 2 * a.tm.tb } else a) u1
        let u3 := if (u2.sqn n).visit.isSome then u2.playOuts n else u2
        let u4 := if s1.tm.pauseRest && (u3.sqn n).hold.isSome then u3.backDrives n else u3
        u4.event (evRec u4.tm.tb n 0x02 gap)) s3

/-- RESUMPTION. -/
def execResumption (s : State) : Host.Outcome State Fault Refusal :=
  if s.live && !s.tm.resWait then .next s.resumption.noteLevels else .next s

/-- SEQ_CTRL.ABORT (R109). -/
def State.abortCmd (s : State) : State :=
  let h := s.fld F.SEQ_STAT_HEAT
  if s.role = roleFollower ∨ !(decide (2 ≤ h) && decide (h ≤ 4)) then s.seqStatus stState
  else ((s.leaderDelay true 255 8).abortHeat).seqStatus stOk

/-! ### Command queues (R110–R112) -/

/-- The parts of a CMDQ record (R110). -/
structure Cmd where
  op : Nat
  flags : Nat
  tag : Nat
  arg0 : Nat
  arg1 : Nat
  deriving DecidableEq, Repr

/-- The command that a record spells. -/
def cmdOf (r : Rec) : Cmd :=
  let w := fun i => r.getD i 0
  ⟨getBits 0 8 (w 0), getBits 8 8 (w 0), getBits 16 16 (w 0), (w 1).toNat, (w 2).toNat + 2 ^ 32 * (w 3).toNat⟩

/-- The command at the head of CMDQn, where its opcode is `op`, or is reserved. -/
def State.cmdHead (s : State) (n op : Nat) : Option Cmd :=
  match (s.getQ n).recs with
  | [] => none
  | r :: _ =>
    let c := cmdOf r
    if c.op = op ∨ c.op = 0 ∨ 4 < c.op then some c else none

/-- A record completes (R111): one CMD_DONE record stamped with the acceptance tick, and the same values in SQn_CMD_DONE. DESIGN CHOICE
(log 30): in a pause the stamp is the present timebase, not that of heat tick k. -/
def State.cmdDone (s : State) (n : Nat) (c : Cmd) (st : Nat) : State :=
  let s1 := if st = stOk then s else s.raise (F.SQ_FLAGS_CMD_REFUSED n)
  let s2 := s1.wr (F.SQ_CMD_DONE_OPCODE n).a (BitVec.ofNat 32 (c.op + 2 ^ 8 * st + 2 ^ 16 * c.tag))
  s2.eventNow n 0x0A (c.op + 2 ^ 8 * st + 2 ^ 16 * c.tag + 2 ^ 32 * s2.fld (F.SQ_STAT_ENTRY n))

/-- The arguments of a record lie within its command's values (R110–R112). -/
def Cmd.argsOk (c : Cmd) : Bool :=
  decide (c.flags = 0) &&
    match c.op with
    | 1 => decide (c.arg0 < 8) && decide (c.arg0 % 4 ≠ 3) && decide (c.arg1 = 0)
    | 2 => decide (c.arg0 = 0)
    | 3 => decide (c.arg0 = 0) && decide (c.arg1 = 0)
    | 4 => decide (c.arg0 = 0) && decide (c.arg1 = 0)
    | _ => false

/-- SQn takes at most one record in a tick of the timebase (R111): a second waits for the next tick. -/
def State.nextTake (s : State) (n : Nat) : State :=
  let s1 := if Sp.get (fun _ => none) s.q.took n = some s.tm.tb then s.advance 1 else s
  { s1 with q := { s1.q with took := Sp.set (fun _ => none) s1.q.took n (some s1.tm.tb) } }

/-- A record is taken from CMDQn's head (R111): `legal` and `act` are its command's own condition and effect. -/
def State.takeCmd (s : State) (n op : Nat) (legal : State → Bool) (act : State → Cmd → State) : State :=
  match s.cmdHead n op with
  | none => s
  | some c =>
    if !s.live || !s.awake 2 || !s.flag F.TB_STAT_COUNTING then s
    else
      let s' := s.nextTake n
      let s0 := ((s'.leave n).ptrCheck n).leaderDelay c.argsOk n (c.op + 2 ^ 8 * c.flags + 2 ^ 16 * c.tag + 2 ^ 32 * c.arg0)
      if !c.argsOk then s0.cmdDone n c stRange
      else if c.op ≠ 4 ∧ s0.role = roleFollower then s0.cmdDone n c stState
      else if !legal s0 then s0.cmdDone n c stState
      else (act s0 c).cmdDone n c stOk

/-- RUNNING or PAUSED. -/
def State.runOrPaused (s : State) (n : Nat) : Bool := decide (s.sqState n = sqRunning) || decide (s.sqState n = sqPaused)

/-- STOP (R112). Which WHEN and OUT hold where a LAP_END or VISIT_END STOP is accepted while one waits, the spec does not say: a later
LAP_END replaces the one that waits, a later VISIT_END one of its kind (log 30). In a pause the acceptance tick is the standing heat tick
k, from which NOW counts: DEDUCED (log 30). -/
def State.stopAct (n : Nat) (s : State) (c : Cmd) : State :=
  let hold := bitOf c.arg0 2
  let q := s.sqn n
  match c.arg0 % 4 with
  | 0 => s.addDec n ⟨s.tm.heat + 48, .stop (!hold) 1⟩
  | 1 => s.setSq n { q with stopReq := some (1, hold, s.tm.heat) }
  | _ => match q.stopReq with
    | some (1, _, _) => s
    | _ => s.setSq n { q with stopReq := some (2, hold, s.tm.heat) }

/-- STOP. -/
def execStop (n : Fin 8) (s : State) : Host.Outcome State Fault Refusal :=
  .next (s.takeCmd n.val 1 (fun t => t.runOrPaused n.val) (State.stopAct n.val))

/-- LATCH_CLR (R112): a pulse seen at k stays latched, and so does one of a pause, which counts as seen at k + 1 (R107). -/
def State.latchClrAct (n : Nat) (s : State) (c : Cmd) : State :=
  ((List.range 64).filter (fun i => bitOf c.arg1 i && !(s.justSeen i && s.evRouted i n))).foldl (fun t i => t.put (latchFld n i) 0) s

/-- LATCH_CLR. -/
def execLatchClr (n : Fin 8) (s : State) : Host.Outcome State Fault Refusal :=
  .next (s.takeCmd n.val 2 (fun t => t.runOrPaused n.val) (State.latchClrAct n.val))

/-- HOLD_END is legal: RUNNING and held, with no exit decided (R112). -/
def State.holdOpen (s : State) (n : Nat) : Bool :=
  decide (s.sqState n = sqRunning) && match (s.sqn n).hold with | some h => !h.exit | none => false

/-- HOLD_END (R102, R112): readiness of the same tick prevails. -/
def State.holdEndAct (n : Nat) (s : State) (_ : Cmd) : State := (s.holdReady n).holdExit n s.tm.heat 2

/-- HOLD_END. -/
def execHoldEnd (n : Fin 8) (s : State) : Host.Outcome State Fault Refusal :=
  .next (s.takeCmd n.val 3 (fun t => t.holdOpen n.val) (State.holdEndAct n.val))

/-- MARK (R112): no effect; it completes with OK. -/
def execMark (n : Fin 8) (s : State) : Host.Outcome State Fault Refusal :=
  .next (s.takeCmd n.val 4 (fun _ => true) (fun t _ => t))

/-! ### Decisions and their effects -/

/-- The heat runs and SQn is RUNNING. -/
def State.plays (s : State) (n : Nat) : Bool :=
  s.live && decide (s.fld F.SEQ_STAT_HEAT = 3) && decide (s.sqState n = sqRunning)

/-- SQn's next decision applies at its tick, where it is one of a kind. -/
def State.applyIf (s : State) (n : Nat) (p : Dec → Bool) : State :=
  match firstDec (s.sqn n).next with
  | some d => if s.plays n && p d then (s.applyFirst n d).noteLevels else s
  | none => s

/-- COMMIT_DECISION (R92, R93, R99). -/
def execCommitDecision (n : Fin 8) (s : State) : Host.Outcome State Fault Refusal :=
  if s.plays n.val then .next (s.commit n.val).noteLevels else .next s

/-- EXCHANGE (R95): the selected continuation is passed on at the opportunity. -/
def execExchange (n : Fin 8) (s : State) : Host.Outcome State Fault Refusal :=
  .next (s.applyIf n.val (fun d => match d.c with
    | .go => true | .visit _ _ => (s.sqn n.val).hold.isNone | .hold _ => true | _ => false))

/-- LAP_END (R90): the next lap begins or END_ACT applies. -/
def execLapEnd (n : Fin 8) (s : State) : Host.Outcome State Fault Refusal :=
  .next (s.applyIf n.val (fun d => match d.c with
    | .go => match (s.sqn n.val).visit with
      | some v => isLapEnd (s.entry n.val v.entry) v.f d.o
      | none => false
    | .visit _ j => !j && (s.sqn n.val).hold.isNone
    | .stop _ cause => decide (cause = 0)
    | .hold _ => true
    | _ => false))

/-- FALLBACK (R101). -/
def execFallback (n : Fin 8) (s : State) : Host.Outcome State Fault Refusal :=
  .next (s.applyIf n.val (fun d => match d.c with | .fallback _ _ _ => true | _ => false))

/-- STOP_TAKES_EFFECT (R86). -/
def execStopTakesEffect (n : Fin 8) (s : State) : Host.Outcome State Fault Refusal :=
  .next (s.applyIf n.val Dec.isStop)

/-- HOLD_READY (R102). -/
def execHoldReady (n : Fin 8) (s : State) : Host.Outcome State Fault Refusal :=
  if s.plays n.val then .next (s.holdReady n.val) else .next s

/-- HOLD_RESUME (R102): the held continuation's first output. -/
def execHoldResume (n : Fin 8) (s : State) : Host.Outcome State Fault Refusal :=
  .next (s.applyIf n.val (fun d => match d.c with | .visit _ _ => (s.sqn n.val).hold.isSome | _ => false))

/-- HOLD_LIMIT (R102): the hold has lasted its limit; readiness of the same tick prevails. -/
def execHoldLimit (n : Fin 8) (s : State) : Host.Outcome State Fault Refusal :=
  match (s.sqn n.val).hold with
  | none => .next s
  | some h =>
    if s.plays n.val && !h.exit && decide (h.limit ≠ 0) then
      let s1 := s.arrive (h.o + h.limit)
      .next ((s1.holdReady n.val).holdExit n.val (h.o + h.limit) 1)
    else .next s

/-- UNDERRUN (R105): a run of missing ticks of a lane begins in the present tick. -/
def State.underrun (s : State) (n lane missing : Nat) : State :=
  match (s.sqn n).visit with
  | none => s
  | some v =>
    let x := s.entry n v.entry
    if s.plays n && decide (lane < (s.lanesOf n).length) && s.segInDram x.seg && (s.sqn n).hold.isNone then
      let s1 := (s.fineNow.gapBegin n lane s.tm.heat missing).raise (F.SQ_FLAGS_UNDERRUN n)
      (s1.sqRec n 0x08 (lane + 2 ^ 16 * missing) s1.tm.heat).pulseSrc 0x53
    else s

/-- UNDERRUN. -/
def execUnderrun (n : Fin 8) (lane : BitVec 8) (missing : Nat) (s : State) : Host.Outcome State Fault Refusal :=
  .next (s.underrun n.val lane.toNat missing)

/-- A fault of SQn (R66, R86, R348): it stops through the hold path; the heat ends with its last sequencer. -/
def State.seqFault (s : State) (n word : Nat) (dir : Bool) : State :=
  let s1 := (s.raise F.SEQ_ECC_UNCORR).put F.SEQ_ECC_UNCORR_SQ n
  let s2 := ((s1.faultStop n 4).raise (F.SQ_STAT_FAULT n)).log n 0x01 2 n (word + 2 ^ 32 * b2n dir)
  let s3 := s2.mirrorFault n 0x01
  if s3.fld F.SEQ_STAT_RUN_MASK = 0 then s3.endHeat s3.endSource 0 else s3

/-- SEQ_ECC. -/
def execSeqEcc (n : Fin 8) (word : Word) (dir : Bool) (s : State) : Host.Outcome State Fault Refusal :=
  if s.live && s.sqActive n.val then .next (s.seqFault n.val word.toNat dir).noteLevels else .next s

end Sys2Proof.Machine
end

