-- ==== Sys2Proof/Machine/Clock.lean ====
section
/-! DEFINITION. Clock synthesis and the timebase (R30–R55): hops, band searches, hard and soft relocks, clock faults,
reference loss and return, STARTER, and the CLK and TB registers. -/

namespace Sys2Proof.Machine

/-- CLK_STAT.CMD_STATUS. -/
def State.clkStatus (s : State) (st : Nat) : State := s.put F.CLK_STAT_CMD_STATUS st

/-- A clock command begins. -/
def State.clkBegin (s : State) (c : ClkCmd) : State :=
  let s1 := s.put F.CLK_STAT_CMD_BUSY 1
  { s1 with clk := { s1.clk with cmd := c } }

/-- The main PLL is retuned (R38, R39, R54, R322): every output on the hold path, the timebase held, a relock at `n`. -/
def State.retune (s : State) (k : Relock) (n : Nat) (cold : Bool) : State :=
  let s1 := ((s.allToHold.holdTb).beginRelock n).put F.CLK_STAT_SOFT_ACTIVE 0
  { s1 with clk := { s1.clk with relock := k, late := false, cold := s1.clk.cold || cold } }

/-- The N at which a relock of the locked, or once locked, PLL goes: that of the last lock, also where a hop has timed out, to whose
target the spec does not say that a HARD_RELOCK goes (log 33). -/
def State.nNow (s : State) : Nat := if s.clk.lockN = 0 then s.fld F.CLK_PLL_PLAN_N else s.clk.lockN

/-- The reading of sensor 12 in whole degrees, rounded down, as CLK_BAND.LEARN_TEMP holds it (R36). DESIGN CHOICE (log 33): a reading below
0 °C is stored as 0, for the field is unsigned. -/
def State.learnTemp (s : State) : Nat := (s.pllTemp / 8).toNat % 256

/-- A cold search writes its band entry (R36). -/
def State.learnBand (s : State) (n : Nat) (l : LockInfo) : State :=
  let z : Nat → Word := fun _ => 0
  let w0 := BitVec.ofNat 32 (l.code.toNat + 2 ^ 8 * s.learnTemp + 2 ^ 16)
  let b := Sp.set z s.clk.band (2 * (n - 64)) w0
  { s with clk := { s.clk with band := Sp.set z b (2 * (n - 64) + 1) (BitVec.ofNat 32 l.seed.toNat) } }

/-- Outputs of the clusters and banks that are awake return to their datapaths. -/
def State.outsBack (s : State) : State :=
  (List.range 12).foldl (fun t i => if t.awake (8 + i) then t.wakeOuts (8 + i) else t) s

/-- The timebase resumes (R44); a LOAD_NOW that has waited for its next tick boundary takes effect there. -/
def State.resumeLoad (s : State) (us : Nat) : State :=
  let s1 := s.resumeTb us
  match s1.tm.load with
  | none => s1
  | some v => ({ s1 with tm := { s1.tm with load := none } }).presetTb v

/-- Lock is declared (R33, R34, R37, R38): the tick divider is set, the clocks restart, the timebase resumes. -/
def State.lockAt (s : State) (l : LockInfo) : State :=
  let n := s.clk.target
  let s1 := if s.clk.cold then s.learnBand n l else s
  let s2 := ((s1.put F.CLK_STAT_LOCK 1).put F.CLK_STAT_COAST 0).put F.TB_STAT_TB_ALIGN (l.align.toNat % max (alignPeriod n) 1)
  let s3 := { s2 with clk := { s2.clk with
    lockN := n, relock := .none, late := false, cold := false, realign := false, measuring := false } }
  ((((s3.latAgain).setAwake 1).setAwake 2).outsBack).resumeLoad l.gapUs

/-- A relock of a kind locks: the reference is qualified. -/
def State.canLock (s : State) (p : Relock → Bool) : Bool := s.live && s.flag F.CLK_STAT_REF_VALID && p s.clk.relock

/-- The relock that has just locked counts (R39); its command completes with OK, unless it has timed out before. -/
def State.relocked (s : State) (late : Bool) : State :=
  (if late then s else s.clkDone stOk).bump F.CLK_LOSS_CNT_RELOCK_COUNT

/-- HOP record (R130). -/
def State.hopRec (s : State) (late : Bool) : State :=
  s.eventNow 0x11 0x05 (s.clk.lockN + 2 ^ 8 * (if late then stTimeout else stOk))

/-! ### Commands -/

/-- CLK_PLL.HOP (R38): refused while a sequencer runs; one that is ARMED or PAUSED counts as running, as R86 has it for R21 and R81:
DEDUCED (log 33). -/
def State.hopCmd (s : State) : State :=
  if s.anyActive || !s.flag F.CLK_STAT_LOCK || s.flag F.CLK_STAT_COAST then s.clkStatus stState
  else (s.clkBegin .hop).retune .hop (s.fld F.CLK_PLL_PLAN_N) false

/-- CLK_PLL.BAND_SEARCH (R39). -/
def State.bandSearchCmd (s : State) : State :=
  if s.anyActive || !s.flag F.CLK_STAT_LOCK || !s.flag F.CLK_STAT_REF_VALID || s.flag F.CLK_STAT_COAST then s.clkStatus stState
  else (s.clkBegin .search).retune .search s.nNow true

/-- The heat pauses with its outputs at rest, where it runs; a pause that holds its outputs gives them up (R54, R108). -/
def State.pauseForRelock (s : State) : State :=
  if s.fld F.SEQ_STAT_HEAT = 3 then s.pauseHeat true
  else if s.fld F.SEQ_STAT_HEAT = 4 ∧ !s.tm.pauseRest then
    let s1 := s.heatSqs.foldl (fun t n => t.keepDrives n) s
    { s1 with tm := { s1.tm with pauseRest := true } }
  else s

/-- CLK_PLL.HARD_RELOCK (R54). -/
def State.hardRelockCmd (s : State) : State :=
  if !s.flag F.CLK_STAT_REF_VALID then s.clkStatus stState
  else (s.pauseForRelock.clkBegin .hard).retune .hard s.nNow false

/-- The step lies inside the capture window (R51). -/
def State.inWindow (s : State) : Bool :=
  decide ((signed 16 (s.fld F.CLK_REF_STEP_STEP)).natAbs ≤ s.fld F.CLK_WIN_CAP_WIN) &&
    decide ((signed 16 (s.fld F.CLK_REF_STEP_FOFS)).natAbs ≤ 1000) &&
    decide (s.fld F.CLK_COAST_COAST_TIME ≤ 1000 * s.fld F.CLK_LIMIT_COAST_ALARM)

/-- CLK_PLL.SOFT_GO (R53): it completes once the soft relock has started (log 11). -/
def State.softGoCmd (s : State) : State :=
  if s.flag F.CLK_STAT_REF_VALID && s.flag F.CLK_STAT_COAST && s.clk.measured && decide (s.clk.relock = .none) && s.inWindow then
    (s.put F.CLK_STAT_SOFT_ACTIVE 1).clkStatus stOk
  else s.clkStatus stState

/-- CLK_BAND.BAND_SAVE (R36, R304). -/
def State.bandSaveCmd (s : State) : State :=
  let e := min (s.fld F.CLK_BAND_BAND_IDX) 16
  let s1 := s.beginSave F.CLK_STAT_CMD_BUSY F.CLK_STAT_CMD_STATUS
    [(328 + 2 * e, s.bandWord (2 * e)), (329 + 2 * e, s.bandWord (2 * e + 1))]
  if s1.flag F.CLK_STAT_CMD_BUSY then { s1 with clk := { s1.clk with cmd := .save } } else s1

/-- TB_CTRL.LOAD_NOW: the timebase takes TB_PRESET at the next tick boundary. A held timebase keeps its value (R44): it takes TB_PRESET
when it resumes, and the command completes with OK at once (DESIGN CHOICE, log 33). A sequencer that is ARMED or PAUSED counts as running,
as R86 has it for R21 and R81: DEDUCED (log 33). -/
def State.loadNowCmd (s : State) : State :=
  if s.anyActive then s.clkStatus stState
  else if !s.flag F.TB_STAT_COUNTING then
    ({ s with tm := { s.tm with load := some (s.getSel 0x0401) } }).clkStatus stOk
  else (((s.advance 1).presetTb (s.getSel 0x0401)).noteLevels).clkStatus stOk

/-- A clock command executes. -/
def State.clkBusy (s : State) : Bool := decide (s.clk.cmd ≠ .idle)

/-- The command of a bit of CLK_PLL. -/
def clkRun (i : Nat) (s : State) : State :=
  match i with
  | 16 => s.hopCmd
  | 17 => s.hardRelockCmd
  | 18 => s.softGoCmd
  | _ => s.bandSearchCmd

/-! ### Registers -/

/-- CD_AO runs from the RC oscillator without a qualified reference, or where it is forced (R31). -/
def State.aoSource (s : State) : State :=
  s.put F.CLK_STAT_AO_ON_RC (b2n (!s.flag F.CLK_STAT_REF_VALID || s.flag F.CLK_REF_AO_FORCE_RC))

/-- A write to CLK_REF: REF_SEL under R55. DESIGN CHOICE (log 33): a write that leaves the REF_SEL bits as they are is no write to
REF_SEL; a change that is taken leaves REF_VALID as it is, and before the first lock only stores the field. A sequencer that is ARMED or
PAUSED counts as running: DEDUCED (log 33). -/
def State.refWrite (s : State) (v : Word) : State :=
  let old := s.fld F.CLK_REF_REF_SEL
  let keep := setBits 0 2 old v
  if old = getBits 0 2 v then (s.plain 0x10000 v).aoSource
  else if s.anyActive then ((s.plain 0x10000 keep).aoSource).clkStatus stState
  else if s.clkBusy then ((s.plain 0x10000 keep).aoSource).clkStatus stBusy
  else
    let s1 := (s.plain 0x10000 v).aoSource
    if s1.clk.lockN = 0 then s1 else (s1.clkBegin .refSel).retune .refSel s1.clk.lockN false

/-- A write to a register of CLK or TB that has passed the checks of R276. A CLK_PLL write whose PLAN_N is out of range leaves PLAN_N alone:
its LOOP_BW applies, and its command bit acts with the old PLAN_N (DESIGN CHOICE, log 33: R38 does not say whether the field or the whole
write is ignored). -/
def State.clkWrite (s : State) (a : Nat) (v : Word) : State :=
  match a with
  | 0x10000 => s.refWrite v
  | 0x10004 =>
    let n := getBits 0 7 v
    let s1 := if 64 ≤ n ∧ n ≤ 80 then s.plain a v
      else (s.plain a (setBits 0 7 (s.fld F.CLK_PLL_PLAN_N) v)).raise F.CLK_STAT_RANGE_ERR
    s1.command F.CLK_STAT_CMD_STATUS s1.clkBusy [16, 17, 18, 19] v clkRun
  | 0x1000C =>
    let c := getBits 0 12 v
    let w := getBits 16 5 v
    if 10 ≤ c ∧ c ≤ 2000 ∧ 1 ≤ w ∧ w ≤ 20 then s.plain a v else s.raise F.CLK_STAT_RANGE_ERR
  | 0x10018 => if getBits 0 16 v = 0 then s else s.plain a v
  | 0x10020 => (s.plain a v).command F.CLK_STAT_CMD_STATUS s.clkBusy [14] v (fun _ t => t.bandSaveCmd)
  | 0x10100 => (s.plain a v).command F.CLK_STAT_CMD_STATUS s.clkBusy [1] v (fun _ t => t.loadNowCmd)
  | _ => s.plain a v

/-- A read of a register of CLK or TB. -/
def State.clkRead (s : State) (a : Nat) : Word :=
  match a with
  | 0x10020 =>
    let e := min (s.fld F.CLK_BAND_BAND_IDX) 16
    let w := s.bandWord (2 * e)
    BitVec.ofNat 32 (s.fld F.CLK_BAND_BAND_IDX + 2 ^ 8 * getBits 0 6 w + 2 ^ 15 * getBits 16 1 w + 2 ^ 16 * getBits 8 8 w)
  | 0x10024 => BitVec.ofNat 32 (getBits 0 20 (s.bandWord (2 * min (s.fld F.CLK_BAND_BAND_IDX) 16 + 1)))
  | 0x10108 => BitVec.ofNat 32 s.tm.tb
  | _ => s.cfgRead a

/-! ### Relocks -/

/-- HOP_LOCK (R38). -/
def execHopLock (l : LockInfo) (s : State) : Host.Outcome State Fault Refusal :=
  if s.canLock (fun k => decide (k = .hop)) then
    .next ((((s.lockAt l).relocked s.clk.late).hopRec s.clk.late).pllIdle).noteLevels
  else .next s

/-- A relock's command completes with TIMEOUT after 5 ms; the PLL keeps trying. -/
def State.clkTimeout (s : State) : State :=
  let s1 := s.clkDone stTimeout
  { s1 with clk := { s1.clk with late := true } }

/-- HOP_TIMEOUT (R38). -/
def execHopTimeout (s : State) : Host.Outcome State Fault Refusal :=
  if s.live && decide (s.clk.cmd = .hop) then .next s.clkTimeout else .next s

/-- BAND_SEARCH_LOCK (R39). -/
def execBandSearchLock (l : LockInfo) (s : State) : Host.Outcome State Fault Refusal :=
  if s.canLock (fun k => decide (k = .search)) then
    .next ((((s.lockAt l).relocked s.clk.late).hopRec s.clk.late).pllIdle).noteLevels
  else .next s

/-- BAND_SEARCH_TIMEOUT (R39): the entry's valid bit is cleared. -/
def execBandSearchTimeout (s : State) : Host.Outcome State Fault Refusal :=
  if s.live && decide (s.clk.cmd = .search) then
    let k := 2 * (s.clk.target - 64)
    let s1 := s.clkTimeout
    .next { s1 with clk := { s1.clk with band := Sp.set (fun _ => (0 : Word)) s1.clk.band k (setBits 16 1 0 (s1.bandWord k)) } }
  else .next s

/-- A relock with the stored entry has not locked within 25 µs (R37): BAND_MISS is set and a cold search follows. -/
def State.bandMiss (s : State) : State :=
  if s.clk.relock ≠ .none ∧ !s.clk.cold then
    let s1 := s.raise F.CLK_STAT_BAND_MISS
    { s1 with clk := { s1.clk with cold := true } }
  else s

/-- BAND_MISS. -/
def execBandMiss (s : State) : Host.Outcome State Fault Refusal := if s.live then .next s.bandMiss else .next s

/-- RELOCKED record (R130). -/
def State.relockedRec (s : State) (kind : Nat) : State := s.eventNow 0x11 0x03 kind

/-- A hard relock locks (R54, R52, R55). -/
def State.hardLock (s : State) (l : LockInfo) : State :=
  let k := s.clk.relock
  let s1 := s.lockAt l
  let s2 := if k = .realign then s1.bump F.CLK_LOSS_CNT_RELOCK_COUNT else s1.relocked s.clk.late
  (s2.relockedRec 1).pllIdle

/-- HARD_RELOCK_LOCK (R54): the sequencers stay paused. -/
def execHardRelockLock (l : LockInfo) (s : State) : Host.Outcome State Fault Refusal :=
  if s.canLock (fun k => decide (k = .hard) || decide (k = .refSel) || decide (k = .realign)) then
    .next (s.hardLock l).noteLevels
  else .next s

/-- HARD_RELOCK_TIMEOUT (R55): of a hard relock, or of a hop whose reference is lost. -/
def execHardRelockTimeout (s : State) : Host.Outcome State Fault Refusal :=
  if s.live && (decide (s.clk.cmd = .hard) || decide (s.clk.cmd = .refSel)
      || (decide (s.clk.cmd = .hop) && !s.flag F.CLK_STAT_REF_VALID)) then .next s.clkTimeout
  else .next s

/-- A device fault of clock or bridge (R322): outputs and pennants to rest on the hold path, every sequencer stopped, OUT_EN
down. -/
def State.deviceFault (s : State) (src code unit detail : Nat) : State :=
  let s1 := (s.calAbort.allToHold.pennantsOff).log src code 3 unit detail
  (s1.faultStopAll).mirrorFault src code

/-- UNLOCK (R35, R322). After a trip of the same tick the main PLL sleeps, with nothing that keeps it awake (R24): both records are
written, and nothing relocks (R332; log 33). -/
def State.unlock (s : State) (err : Int) : State :=
  let s0 := { s with sup := { s.sup with tripLock := false } }
  let s1 := (s0.raise F.CLK_STAT_UNLOCK).deviceFault 0x11 0x01 0 (unsigned 16 err)
  if s.awake 1 then s1.retune .fault s1.nNow false else s1

/-- UNLOCK. -/
def execUnlock (phaseErr : Int) (s : State) : Host.Outcome State Fault Refusal :=
  if s.live && (s.flag F.CLK_STAT_LOCK || s.sup.tripLock) && s.flag F.CLK_STAT_REF_VALID then .next (s.unlock phaseErr).noteLevels else .next s

/-- FAULT_RELOCK (R322). -/
def execFaultRelock (l : LockInfo) (s : State) : Host.Outcome State Fault Refusal :=
  if s.canLock (fun k => decide (k = .fault)) then
    .next ((((s.lockAt l).bump F.CLK_LOSS_CNT_RELOCK_COUNT).relockedRec 2).pllIdle).noteLevels
  else .next s

/-! ### Reference loss and return -/

/-- What the loop does at a loss (R48, R55): a relock coasts from the stored seed of its target; a soft relock coasts again from the
present hold value; a lock coasts; without a first lock, or with the PLL asleep, nothing coasts. R55 says so of a hop and a hard relock: that
a band search, a wake of PD_PLL and a relock after a fault do the same is DEDUCED (log 33). -/
def State.coastFrom (s : State) (ctl : Nat) : State :=
  if s.clk.relock ≠ .none ∧ s.clk.lockN ≠ 0 then
    let s1 := s.put F.CLK_STAT_COAST 1
    { s1 with clk := { s1.clk with hold := getBits 0 20 (s1.bandWord (2 * (s1.clk.target - 64) + 1)) } }
  else if s.flag F.CLK_STAT_COAST then s.put F.CLK_STAT_SOFT_ACTIVE 0
  else if s.flag F.CLK_STAT_LOCK then
    let s1 := (s.put F.CLK_STAT_COAST 1).put F.CLK_STAT_LOCK 0
    { s1 with clk := { s1.clk with hold := ctl } }
  else s

/-- REF_LOSS (R48). -/
def State.refLoss (s : State) (ctl : Nat) : State :=
  let s1 := (((s.put F.CLK_STAT_REF_VALID 0).aoSource).raise F.CLK_STAT_REF_LOSS).bump F.CLK_LOSS_CNT_LOSS_COUNT
  let s2 := (s1.coastFrom ctl).put F.CLK_COAST_COAST_TIME 0
  let s3 := { s2 with clk := { s2.clk with measuring := false, measured := false, realign := false } }
  (s3.eventNow 0x11 0x01 0).dramNoRef

/-- REF_LOSS. The reference monitor runs in PD_AO. -/
def execRefLoss (ctl : BitVec 20) (s : State) : Host.Outcome State Fault Refusal :=
  if !s.flag F.DBG_STAT_FROZEN && !(s.sup.por && decide (s.fld F.SUP_STAT_STAGE = 1)) && s.flag F.CLK_STAT_REF_VALID then
    .next (s.refLoss ctl.toNat).noteLevels
  else .next s

/-- The coasting time reaches `us` microseconds (R49): where it passes COAST_ALARM, COAST_LONG is set and recorded. -/
def State.coastTo (s : State) (us : Nat) : State :=
  let old := s.fld F.CLK_COAST_COAST_TIME
  let now := min (max old us) (2 ^ 32 - 1)
  let lim := 1000 * s.fld F.CLK_LIMIT_COAST_ALARM
  let s1 := s.put F.CLK_COAST_COAST_TIME now
  if old ≤ lim ∧ lim < now then (s1.raise F.CLK_STAT_COAST_LONG).eventNow 0x11 0x04 0 else s1

/-- A look at CLK_COAST: while the loop coasts, its count has gone on by a number that the always-on clock gives, a free number
(R31, R49; log 36). -/
def State.coastLook (s : State) : State :=
  if s.flag F.CLK_STAT_COAST then s.takeFree.coastTo (s.fld F.CLK_COAST_COAST_TIME + Config.freeNat s.free) else s

/-- COAST_LONG (R49): the coasting time passes COAST_ALARM. -/
def execCoastLong (s : State) : Host.Outcome State Fault Refusal :=
  let lim := 1000 * s.fld F.CLK_LIMIT_COAST_ALARM
  if s.live && s.flag F.CLK_STAT_COAST && decide (s.fld F.CLK_COAST_COAST_TIME ≤ lim) then
    .next (s.coastTo (lim + 1))
  else .next s

/-- A reference valid for 100 µs is qualified, or fails at another frequency (R50, R55). -/
def State.refQualified (s : State) (good : Bool) : State :=
  if s.flag F.CLK_STAT_REF_VALID then s
  else if !good then s.raise F.CLK_STAT_REF_BAD
  else
    let s1 := (s.raise F.CLK_STAT_REF_VALID).aoSource
    { s1 with clk := { s1.clk with measuring := s1.flag F.CLK_STAT_COAST } }

/-- REF_BACK (R50–R52): step and offset are measured, and the return policy acts, unless a relock is under way (R55; log 33). -/
def State.refBack (s : State) (step fofs : Int) (us : Nat) : State :=
  let st := (step + 5000) % 10000 - 5000
  let fo := max (-32767) (min 32767 fofs)
  let s1 := ((s.put F.CLK_REF_STEP_STEP (unsigned 16 st)).put F.CLK_REF_STEP_FOFS (unsigned 16 fo)).coastTo us
  let s2 := { s1.raise F.CLK_STAT_REF_BACK with clk := { s1.clk with measuring := false, measured := true } }
  let s3 := s2.eventNow 0x11 0x02 (unsigned 16 st + 2 ^ 16 * unsigned 16 fo)
  let s4 := if s3.inWindow then s3 else s3.raise F.CLK_STAT_STEP_OUT
  if s4.clk.relock ≠ .none then s4
  else match s4.fld F.CLK_REF_RET_POLICY with
  | 1 => if s4.inWindow then s4.put F.CLK_STAT_SOFT_ACTIVE 1 else s4
  | 2 => { s4 with clk := { s4.clk with realign := true } }
  | _ => s4

/-- REF_BACK. -/
def execRefBack (step fofs : Int) (coastUs : Nat) (s : State) : Host.Outcome State Fault Refusal :=
  if s.live && s.clk.measuring then .next (s.refBack step fofs coastUs) else .next s

/-- REALIGN_HARD_RELOCK (R52): no sequencer runs, so the device makes a hard relock and arms the timebase. A sequencer that is ARMED or
PAUSED counts as running: DEDUCED (log 33). -/
def execRealignHardRelock (s : State) : Host.Outcome State Fault Refusal :=
  if s.live && s.clk.realign && s.flag F.CLK_STAT_REF_VALID && !s.anyActive && !s.clkBusy && decide (s.clk.relock = .none) then
    let s1 := { s with clk := { s.clk with realign := false } }
    .next ((s1.put F.TB_CTRL_ARM 1).retune .realign s1.nNow false)
  else .next s

/-- SOFT_RELOCK_DONE (R53). -/
def execSoftRelockDone (s : State) : Host.Outcome State Fault Refusal :=
  if s.live && s.flag F.CLK_STAT_SOFT_ACTIVE then
    let s1 := ((s.put F.CLK_STAT_SOFT_ACTIVE 0).put F.CLK_STAT_COAST 0).put F.CLK_STAT_LOCK 1
    .next ((s1.bump F.CLK_LOSS_CNT_RELOCK_COUNT).relockedRec 0).noteLevels
  else .next s

/-! ### STARTER -/

/-- Reference periods in the aligned period: P_A (R334). -/
def alignRefs (n : Nat) : Nat := 32 / Nat.gcd 32 n

/-- Time of the reference edge `p` reference periods after E_s, for an edge captured in tick `c` at `phase`, `ref` picoseconds before E_s
(R333, R334), counted from timebase 0 in units of 1 / N ps: a tick is 320,000 of them, an edge step 625, a picosecond N. -/
def gridTime (n c phase ref p : Nat) : Nat := 320000 * c + phase * 625 + (ref + p * 10000) * n

/-- How far a time lies from the nearest aligned boundary of the grid, in the units of `gridTime`. -/
def gridOff (n align x : Nat) : Nat :=
  let per := 320000 * max (alignPeriod n) 1
  let d := (x + per - 320000 * align % per) % per
  min d (per - d)

/-- The aligned boundary nearest a time (R34). -/
def gridNear (n align x : Nat) : Nat :=
  let a := max (alignPeriod n) 1
  (x + 160000 * a + 320000 * (a - align % a)) / (320000 * a) * a + align % a - a

/-- R_s in reference periods (R334). -/
def gridWait (n : Nat) : Nat := alignRefs n * ((64 + alignRefs n - 1) / alignRefs n)

/-- s of R335: the reference periods by which the grid must slip to have an aligned boundary at E_s + R_s, 0 if it has one. The boundary
that the slip brings there lies s periods before it now. -/
def gridSlip (n align c phase ref : Nat) : Nat :=
  (List.range (alignRefs n)).foldl (fun b p =>
    if gridOff n align (gridTime n c phase ref (gridWait n - p)) < gridOff n align (gridTime n c phase ref (gridWait n - b)) then p else b) 0

/-- Every output of the device is at rest (R336). -/
def State.allAtRest (s : State) : Bool :=
  (List.range 64).all (fun n => s.flag (F.FC_STAT_AT_REST n)) && (List.range 128).all (fun n => s.flag (F.VP_STAT_AT_REST n))

/-- The start tick of an edge captured now, and the slip that brings it about (R47, R334–R336). -/
def State.starterAim (s : State) (phase ref : Nat) : Nat × State :=
  let n := s.clk.lockN
  let c := s.tm.tb
  let align := s.fld F.TB_STAT_TB_ALIGN
  if s.flag F.SYNC_CTRL_GRID && s.flag F.TB_CTRL_ARM then
    let r := gridWait n
    let sl := gridSlip n align c phase ref
    if sl = 0 then (gridNear n align (gridTime n c phase ref r), s.put F.SYNC_START_SLIP 0)
    else if s.allAtRest then
      (gridNear n align (gridTime n c phase ref (r - sl)),
        ((s.allToHold.outsBack).put F.SYNC_START_SLIP sl).bump F.SYNC_CNT_SLIP_COUNT)
    else (firstAligned n align ((gridTime n c phase ref r + 319999) / 320000), (s.put F.SYNC_START_SLIP 0).raise F.SYNC_STAT_GRID_MISS)
  else (firstAligned n align (c + 16), s.put F.SYNC_START_SLIP 0)

/-- STARTER_EDGE (R47): a rising edge captured in the present tick. -/
def State.starterEdge (s : State) (phase ref : Nat) : State :=
  let s0 := match s.tm.starter with
    | some t => if t ≤ s.tm.tb then s.startTick else s
    | none => s
  if s0.tm.starter.isSome then s0.raise F.TB_STAT_STARTER_EXTRA
  else
    let c := s0.tm.tb
    let (t, s1) := s0.starterAim phase ref
    let s2 := (((s1.put F.SYNC_START_REF_PHASE ref).put F.TB_STAT_START_PHASE phase).raise F.TB_STAT_STARTER_SEEN).setSel 0x0402 c
    let s3 := s2.event (evRec c 0x12 0x01 (phase + 2 ^ 16 * (t % 2 ^ 48)))
    { s3 with tm := { s3.tm with
        starter := some t,
        startAt := if s3.tm.startWait then some t else s3.tm.startAt,
        startWait := false,
        resAt := if s3.tm.resWait then some t else s3.tm.resAt,
        resWait := false } }

/-- STARTER_EDGE: where the edge has missed its window, the device registers it one reference period later (R333). -/
def execStarterEdge (phase : BitVec 9) (refPhase : BitVec 14) (missed : Bool) (s : State) : Host.Outcome State Fault Refusal :=
  if s.live && s.flag F.TB_STAT_COUNTING then .next (s.starterEdge phase.toNat (refPhase.toNat + 10000 * b2n missed)) else .next s

/-- START_TICK (R47, R285). -/
def execStartTick (s : State) : Host.Outcome State Fault Refusal :=
  if s.live && s.flag F.TB_STAT_COUNTING then .next s.startTick.noteLevels else .next s

end Sys2Proof.Machine
end

