-- ==== Sys2Proof/Machine/Windows.lean ====
section
/-! DEFINITION. The course, directory, segment and track windows (R76, R80–R82, R217–R224), and retention of the
track-memory banks. -/

namespace Sys2Proof.Machine

/-! ### The course window (R81) -/

/-- The bits of word `w` of a course entry that a window write may change. -/
def crsFree (w : Nat) : Word :=
  match w with
  | 3 => 0x38000000
  | 4 => 0x0000FF3F
  | 5 => 0xFFFFFFFF
  | 6 => 0x0003FFFF
  | _ => 0

/-- Reserved bits and reserved values of an entry's words (R67). -/
def entryReserved (w : Nat → Word) : Bool :=
  let e := entryOf w
  decide (getBits 21 10 (w 6) ≠ 0) || decide (w 7 ≠ 0) || decide (4 < e.jmode) || decide (e.latch = 3) ||
    decide (e.refill = 3) || decide (e.endAct = 3)

/-- Word `i` of the course window. -/
def State.crsD (s : State) (i : Nat) : Word := s.rd (0x28004 + 4 * i)

/-- The status of CRS_CMD.WRITE's checks, in their order (R81). -/
def State.crsCheck (s : State) : Nat :=
  let n := s.fld F.CRS_SEL_SQ
  let e := s.fld F.CRS_SEL_ENTRY
  if !s.flag F.PLAN_STAT_PRESENT || s.sqActive n then stState
  else if s.crsCount n ≤ e ∨ entryReserved s.crsD ∨ !s.evRouted (entryOf s.crsD).jevt n then stRange
  else if (List.range 8).any (fun i => (s.crsD i ^^^ s.crsWord n e i) &&& ~~~ crsFree i ≠ 0) then stLocked
  else stOk

/-- CRS_SEL.ENTRY advances under AUTO_INC. -/
def State.crsNext (s : State) : State :=
  if s.flag F.CRS_CMD_AUTO_INC then s.put F.CRS_SEL_ENTRY (s.fld F.CRS_SEL_ENTRY + 1) else s

/-- Set a word of a course entry. -/
def State.setCrs (s : State) (n e w : Nat) (v : Word) : State :=
  { s with mem := { s.mem with course := Sp.set (fun _ => (0 : Word)) s.mem.course (8 * (65536 * n + e) + w) v } }

/-- CRS_CMD.READ: the entry into CRS_D0–CRS_D7; zero beyond the course's count. -/
def State.crsRead (s : State) : State :=
  let n := s.fld F.CRS_SEL_SQ
  let e := s.fld F.CRS_SEL_ENTRY
  let s1 := (List.range 8).foldl (fun t i => t.wr (0x28004 + 4 * i) (if e < s.crsCount n then s.crsWord n e i else 0)) s
  (s1.crsNext).put F.CRS_CMD_STATUS stOk

/-- CRS_CMD.WRITE (R81). -/
def State.crsWrite (s : State) : State :=
  let st := s.crsCheck
  if st = stOk then
    let n := s.fld F.CRS_SEL_SQ
    let e := s.fld F.CRS_SEL_ENTRY
    let s1 := (List.range 8).foldl (fun t i => t.setCrs n e i (s.crsD i)) s
    (s1.crsNext).put F.CRS_CMD_STATUS stOk
  else s.put F.CRS_CMD_STATUS st

/-! ### The directory window (R76, R80) -/

/-- SEGD_CMD.READ. -/
def State.segdRead (s : State) : State :=
  let k := s.fld F.SEGD_SEL_SEG
  ((List.range 4).foldl (fun t i => t.wr (0x28044 + 4 * i) (s.dirWord k i)) s).put F.SEGD_CMD_STATUS stOk

/-- The state once the present tick's decisions are made and apply (R80, R92): the heat's start, the decisions due at the outputs, those of
the commit tick, waiting stops among them. What waits on the bus has no part in it. -/
def State.thisTick (s : State) : State :=
  let s0 := { s with bus := [] }
  if s.fld F.SEQ_STAT_HEAT = 2 then (if s.tm.startAt = some s.tm.tb then s0.heatStart else s0)
  else if s.fld F.SEQ_STAT_HEAT = 3 then
    (s0.heatSqs.filter (fun n => s0.sqState n = sqRunning)).foldl (fun t n => (State.applyDue 8 n t.tm.heat t).commitNow n) s0
  else s0

/-- A segment is active, or becomes so in this tick (R78, R80): what a write finds. An IMMEDIATE trigger of this tick comes before the write
where the queue has it before (log 1). -/
def State.segActiveNow (s : State) (k : Nat) : Bool := s.segActive k || s.thisTick.segActive k

/-- The status of SET_READY and CLR_READY (R80). -/
def State.readyCheck (s : State) : Nat :=
  let k := s.fld F.SEGD_SEL_SEG
  let g := s.seg k
  if !s.flag F.PLAN_STAT_PRESENT then stState
  else if !g.refill || decide (g.slen16 = 0) then stRange
  else if s.segActiveNow k then stState
  else stOk

/-- SEGD_CMD.SET_READY: a generation completes, where READY was 0 (R76, R80). -/
def State.setReadyCmd (s : State) : State :=
  let st := s.readyCheck
  let k := s.fld F.SEGD_SEL_SEG
  (if st = stOk ∧ !(s.seg k).ready then s.completeGen k else s).put F.SEGD_CMD_STATUS st

/-- SEGD_CMD.CLR_READY. -/
def State.clrReadyCmd (s : State) : State :=
  let st := s.readyCheck
  (if st = stOk then s.clearReady (s.fld F.SEGD_SEL_SEG) else s).put F.SEGD_CMD_STATUS st

/-- A command of the directory window; with no plan loaded, STATE. -/
def segdRun (i : Nat) (s : State) : State :=
  if !s.flag F.PLAN_STAT_PRESENT then s.put F.SEGD_CMD_STATUS stState
  else match i with
    | 0 => s.segdRead
    | 1 => s.setReadyCmd
    | _ => s.clrReadyCmd

/-! ### The segment window (R82) -/

/-- A channel leaves self-refresh, with its record (R237, R244). -/
def State.leaveSelfRef (s : State) (c : Nat) : State :=
  (((s.markWaking (0x18 + c)).put (selfRef c) 0).setAwake (0x18 + c)).eventNow 0x15 0x04 (c + 2 ^ 8)

/-- A request to a channel takes it out of self-refresh (R237) and out of power-down (R238); the wait is part of the access. A channel whose
domain is one of a group begins to wake with the group, and the request waits (R25). -/
def State.channelWake (s : State) (c : Nat) : State :=
  let s1 := if !s.flag (selfRef c) || s.fenced c || !s.refOk then s
    else if s.chGrouped c then s.startWake (0x18 + c) else s.leaveSelfRef c
  s1.setDch c { s1.dch c with pd := false }

/-- A register window takes one granule of the row's open capacity (R144). -/
def State.takeOpen (s : State) (c : Nat) : State :=
  { s with plan := { s.plan with openLeft := Sp.set (fun _ => 0) s.plan.openLeft c (Sp.get (fun _ => 0) s.plan.openLeft c - 1) } }

/-- Make ready what holds a word of a segment: a track-memory bank or a DRAM channel. -/
def State.segReach (s : State) (k ofs : Nat) : State :=
  let a := 64 * (s.seg k).base + ofs
  if s.segInDram k then
    match s.dramCh a with
    | some c => (s.channelWake c).takeOpen c
    | none => s.raise F.DRAM_FLAGS_FENCE_HIT
  else s.wakeBank (a / 524288)

/-- The access of SEGW_DATA lies within its segment's data. -/
def State.segwIn (s : State) : Bool :=
  let k := s.fld F.SEGW_SEG_SEG
  decide ((s.seg k).slen16 ≠ 0) && decide (4 * s.fld F.SEGW_OFS_WORD_OFS + 4 ≤ s.segBytes k)

/-- SEGW_OFS moves on. -/
def State.segwNext (s : State) : State := s.put F.SEGW_OFS_WORD_OFS (s.fld F.SEGW_OFS_WORD_OFS + 1)

/-- An access of SEGW_DATA beyond its segment's data. -/
def State.segwRange (s : State) : State :=
  ((s.put F.SEGW_STAT_LAST_STATUS stRange).raise F.SEGW_STAT_RANGE_HIT).segwNext

/-- A read of SEGW_DATA (R82). -/
def State.segwRead (s : State) : Word × State :=
  if s.segwIn then
    let k := s.fld F.SEGW_SEG_SEG
    let o := 4 * s.fld F.SEGW_OFS_WORD_OFS
    let s1 := s.segReach k o
    (BitVec.ofNat 32 (leNat ((List.range 4).map (fun i => s1.segRead k (o + i)))),
      (s1.put F.SEGW_STAT_LAST_STATUS stOk).segwNext)
  else (0, s.segwRange)

/-- A write of SEGW_DATA (R79, R82). Which outcome a write has that lies beyond the data of an active segment, the spec does not say: RANGE
(log 28). -/
def State.segwWrite (s : State) (v : Word) : State :=
  let k := s.fld F.SEGW_SEG_SEG
  if !s.segwIn then s.segwRange
  else if s.segActiveNow k then
    (((s.put F.SEGW_STAT_LAST_STATUS stActive).raise F.SEGW_STAT_ACTIVE_HIT).bump F.SEGW_STAT_ACTIVE_COUNT).segwNext
  else
    let o := 4 * s.fld F.SEGW_OFS_WORD_OFS
    let s1 := s.segReach k o
    let s2 := if s1.segInDram k && (s1.dramCh (64 * (s1.seg k).base + o)).isNone then s1
      else (List.range 4).foldl (fun t i => t.segWrite k (o + i) ((leBytes 4 v.toNat).getD i 0)) s1
    (s2.put F.SEGW_STAT_LAST_STATUS stOk).segwNext

/-- A write to a register of the windows of the SEQ block. -/
def State.windowWrite (s : State) (a : Nat) (v : Word) : State :=
  match a with
  | 0x28024 => (s.plain a v).command F.CRS_CMD_STATUS false [0, 1] v (fun i t => if i = 0 then t.crsRead else t.crsWrite)
  | 0x28054 => s.command F.SEGD_CMD_STATUS false [0, 1, 2] v segdRun
  | 0x28088 => s.segwWrite v
  | _ => s.plain a v

/-! ### The track window (R221, R222) -/

/-- The block of staging record `i` holds byte `a` of track memory. -/
def State.blockHas (s : State) (i a : Nat) : Bool := match s.plan.stg[i]? with
  | some r => decide (64 * (regionGranule + r.ofs) ≤ a) && decide (a < 64 * (regionGranule + r.ofs + r.size))
  | none => false

/-- A track-memory word lies in an active segment or a starting block that is resident or being copied (R151, R222); not in one whose
copy begins in this very cycle, `collide`. -/
def State.trackHeld (s : State) (a : Nat) (collide : Bool) : Bool :=
  (List.range 8).any (fun n =>
    (s.sqSegs n).any (fun k =>
      let g := s.seg k
      !s.segInDram k && decide (64 * g.base ≤ a) && decide (a < 64 * g.base + s.segBytes k)) ||
    (if collide then (s.sqn n).resident else s.pinnedRecs n).any (fun i => s.blockHas i a))

/-- The copy of a block that holds word `a` begins in this cycle (R221, R222): a record whose load or late copy comes first now. -/
def State.copyBegins (s : State) (a : Nat) : Bool := (List.range 8).any (fun n => (s.copying n).any (fun i => s.blockHas i a))

/-- TRK_WADDR moves on. -/
def State.trackNext (s : State) : State := s.put F.TRK_WADDR_WORD (s.fld F.TRK_WADDR_WORD + 1)

/-- A read of TRK_WDATA. -/
def State.trackWinRead (s : State) : Word × State :=
  let a := 4 * s.fld F.TRK_WADDR_WORD
  let s1 := s.wakeBank (a / 524288)
  (BitVec.ofNat 32 (leNat ((List.range 4).map (fun i => s1.trackRead (a + i)))), (s1.put F.TRK_WSTAT_LAST_STATUS stOk).trackNext)

/-- A write of TRK_WDATA; `collide`: the prefetcher begins the copy of the word's block in the same cycle, and writes it (R221). -/
def State.trackWinWrite (s : State) (v : Word) (collide : Bool) : State :=
  let a := 4 * s.fld F.TRK_WADDR_WORD
  if s.trackHeld a collide then
    (((s.put F.TRK_WSTAT_LAST_STATUS stActive).raise F.TRK_WSTAT_ACTIVE_HIT).bump F.TRK_WSTAT_ACTIVE_COUNT).trackNext
  else
    let s1 := (s.wakeBank (a / 524288)).put F.TRK_WSTAT_LAST_STATUS stOk
    let s2 := if collide && decide (64 * regionGranule ≤ a) then
        let s' := (s1.raise F.TRK_STAT_WR_LOST).bump F.TRK_LOST_LOST_COUNT
        s'.eventNow 0x16 0x01 (a - 64 * regionGranule + 2 ^ 32 * s'.fld F.TRK_LOST_LOST_COUNT)
      else s1.trackPut a (leBytes 4 v.toNat)
    s2.trackNext

/-- A write to a register of the TRACK block. -/
def State.trackBlockWrite (s : State) (a : Nat) (v : Word) : State :=
  match a with
  | 0xC0004 => if getBits 0 20 v = 0 ∨ 1000000 < getBits 0 20 v then s else s.plain a v
  | 0xC0084 => s.trackWinWrite v false
  | _ => s.plain a v

/-! ### Retention (R223, R224) -/

/-- BANK_RETENTION: bank `m` has been idle for IDLE_US. -/
def execBankRetention (m : Fin 512) (s : State) : Host.Outcome State Fault Refusal :=
  if s.live && s.flag F.TRK_RET_EN && !s.flag (retFld m.val) && !bitOf s.sup.ownedBanks m.val
      && !(decide (480 ≤ m.val) && s.flag F.PLAN_STAT_PRESENT) then
    let s1 := (s.put (retFld m.val) 1).put F.TRK_STAT_AWAKE (s.fld F.TRK_STAT_AWAKE - 1)
    .next (if s1.fld F.TRK_STAT_AWAKE = 0 then s1.put (awakeBit 0x14) 0 else s1)
  else .next s

/-- The sequencer and entry whose visit reads bank `m`, in the present tick of a running heat. -/
def State.bankReader (s : State) (m : Nat) : Option (Nat × Nat) :=
  if s.fld F.SEQ_STAT_HEAT ≠ 3 then none
  else s.heatSqs.findSome? (fun n => match (s.sqn n).visit with
    | some v => if s.sqState n = sqRunning ∧ (s.sqn n).hold.isNone ∧
        (List.range (s.lanesOf n).length).any (fun j => (s.laneBanks n v.entry j (s.tm.heat - v.f)).contains m)
        then some (n, v.entry) else none
    | none => none)

/-- BANK_WAKE (R223, R224): bank `m` is ready, whose wake is in progress, and the lanes that wait for it join their courses (R27); or an
access finds it in retention and wakes it: a segment reader's, after which its lanes wait, or another's. -/
def State.bankReady (s : State) (m : Nat) : State :=
  if bitOf s.sup.wakingBanks m then
    let s1 := { s with sup := { s.sup with wakingBanks := putBit s.sup.wakingBanks m false } }
    (if s1.flag (retFld m) then s1.bankAwake m else s1).joinAll
  else match s.bankReader m with
    | some (n, e) => s.fineNow.darkLanes n e s.tm.heat
    | none => s.wakeBank m

/-- BANK_WAKE. -/
def execBankWake (m : Fin 512) (s : State) : Host.Outcome State Fault Refusal :=
  if s.live then .next (s.bankReady m.val) else .next s

end Sys2Proof.Machine
end

