-- ==== Sys2Proof/Machine/Net.lean ====
section
/-! DEFINITION. The data ports NET0 and NET1 (R246–R249): links, flow control, the frames they send, ARP and neighbour
discovery, and the NET registers. -/

namespace Sys2Proof.Machine

/-- A data port's record. -/
def State.netPort (s : State) (p : Nat) : Port := Sp.get (fun _ => ({} : Port)) s.bat.ports p

/-- Set a data port's record. -/
def State.setPort (s : State) (p : Nat) (x : Port) : State :=
  { s with bat := { s.bat with ports := Sp.set (fun _ => ({} : Port)) s.bat.ports p x } }

/-- Link `k` exists under a MODE (R246). -/
def linkExists (mode k : Nat) : Bool :=
  match mode with
  | 0 => decide (k = 0)
  | 1 => decide (k < 2)
  | 2 => decide (k < 4)
  | _ => false

/-- NETp.Lk exists and is up. -/
def State.linkUp (s : State) (p k : Nat) : Bool :=
  s.flag (F.NET_CTRL_EN p) && bitOf (s.fld (F.NET_STAT_LINK_UP p)) k && linkExists (s.fld (F.NET_CTRL_MODE p)) k

/-- A link's frames of a priority are stopped by a received XOFF (R248). -/
def State.txStopped (s : State) (p k prio : Nat) : Bool := (s.netPort p).paused.contains (8 * k + prio % 8)

/-- Send a frame on a link, or let it wait while the link is down or its priority is stopped. -/
def State.netSend (s : State) (p k prio : Nat) (bs : List Byte) : State :=
  if !s.flag (F.NET_CTRL_EN p) then s
  else if s.linkUp p k && !s.txStopped p k prio then s.send p k bs
  else
    let x := s.netPort p
    s.setPort p { x with tx := x.tx ++ [⟨k, prio % 8, bs⟩] }

/-- Send what may be sent of the frames that wait in a port. -/
def State.netFlush (s : State) (p : Nat) : State :=
  let x := s.netPort p
  let go := fun f : TxFrame => s.linkUp p f.link && !s.txStopped p f.link f.prio
  let s1 := s.setPort p { x with tx := x.tx.filter (fun f => !go f) }
  (x.tx.filter go).foldl (fun t f => t.send p f.link f.bytes) s1

/-! ### Building frames -/

/-- MAC address of NETp.Lk. -/
def State.linkMac (s : State) (p k : Nat) : Nat := s.getSel (0x3800 + 4 * p + k) % 2 ^ 48

/-- IPv6 address of NETp.Lk. -/
def State.linkIp6 (s : State) (p k : Nat) : Nat := s.getSel (0x3810 + 4 * p + k) * 2 ^ 64 + s.getSel (0x3818 + 4 * p + k)

/-- IPv4 address of NETp.Lk. -/
def State.linkIp4 (s : State) (p k : Nat) : Nat := s.fld (F.NETL_IPV4_ADDR p k)

/-- An address in the IPv4-mapped form ::ffff:a.b.c.d. -/
def isV4 (ip : Nat) : Bool := decide (ip / 2 ^ 32 = 0xFFFF)

/-- The ones' complement sum of 16-bit words of a byte list. -/
def onesSum : List Byte → Nat
  | a :: b :: r => 256 * a.toNat + b.toNat + onesSum r
  | [a] => 256 * a.toNat
  | [] => 0

/-- The Internet checksum of a byte list. -/
def inetSum (bs : List Byte) : Nat :=
  let x := onesSum bs
  let y := x % 65536 + x / 65536
  0xFFFF - (y % 65536 + y / 65536) % 65536

/-- The Ethernet header: destination, source, an optional 802.1Q tag, the type. -/
def etherHead (dst src : Nat) (tag : Option (Nat × Nat)) (type : Nat) : List Byte :=
  beBytes 6 dst ++ beBytes 6 src ++
    (match tag with | some (pcp, vid) => beBytes 2 0x8100 ++ beBytes 2 (2 ^ 13 * (pcp % 8) + vid % 4096) | none => []) ++
    beBytes 2 type

/-- The UDP header and payload with its checksum over the pseudo-header of IPv4 or IPv6 (R247). -/
def udpPart (src dst sport dport : Nat) (bs : List Byte) : List Byte :=
  let len := 8 + bs.length
  let pseudo := if isV4 dst then beBytes 4 src ++ beBytes 4 dst ++ beBytes 2 17 ++ beBytes 2 len
    else beBytes 16 src ++ beBytes 16 dst ++ beBytes 4 len ++ beBytes 4 17
  let sum := inetSum (pseudo ++ beBytes 2 sport ++ beBytes 2 dport ++ beBytes 2 len ++ [0, 0] ++ bs)
  beBytes 2 sport ++ beBytes 2 dport ++ beBytes 2 len ++ beBytes 2 (if sum = 0 then 0xFFFF else sum) ++ bs

/-- An IP packet carrying UDP (R247): IPv4 with DF set and TTL 64, or IPv6 with hop limit 64. `h` gives the header bits that
the spec does not state: type of service and identification, or traffic class and flow label (log 7). -/
def ipPacket (h src dst : Nat) (udp : List Byte) : List Byte :=
  if isV4 dst then
    let a := [0x45, BitVec.ofNat 8 h] ++ beBytes 2 (20 + udp.length) ++ beBytes 2 (h / 256) ++ [0x40, 0, 64, 17]
    let b := beBytes 4 src ++ beBytes 4 dst
    a ++ beBytes 2 (inetSum (a ++ [0, 0] ++ b)) ++ b ++ udp
  else
    beBytes 4 (6 * 2 ^ 28 + h % 2 ^ 28) ++ beBytes 2 udp.length ++ [17, 64] ++ beBytes 16 src ++ beBytes 16 dst ++ udp

/-- A frame padded to the least length of an Ethernet frame, its FCS apart. -/
def minFrame (bs : List Byte) : List Byte := padTo (max 60 bs.length) bs

/-- The tag of a link's own frames: VID where VLAN_EN is set. -/
def State.linkTag (s : State) (p k prio : Nat) : Option (Nat × Nat) :=
  if s.flag (F.NETL_CFG_VLAN_EN p k) then some (prio, s.fld (F.NETL_CFG_VID p k)) else none

/-- Send a UDP payload from NETp.Lk. -/
def State.udpSend (s : State) (p k prio : Nat) (tag : Option (Nat × Nat)) (mac ip sport dport : Nat) (bs : List Byte) : State :=
  let src := if isV4 ip then s.linkIp4 p k else s.linkIp6 p k
  let h := Config.freeNat s.free
  let pkt := ipPacket h src ip (udpPart src ip sport dport bs)
  (s.takeFree).netSend p k prio (minFrame (etherHead mac (s.linkMac p k) tag (if isV4 ip then 0x0800 else 0x86DD) ++ pkt))

/-! ### Flow control (R248) -/

/-- One XOFF or release on a link: an 802.3x PAUSE frame, or a PFC frame of ING_PRIO; `quanta` 0 releases. -/
def State.xoffFrame (s : State) (p k quanta : Nat) : List Byte :=
  let pr := s.fld (F.NET_CTRL_ING_PRIO p)
  let head := etherHead 0x0180C2000001 (s.linkMac p k) none 0x8808
  padTo 60 (head ++
    if s.fld (F.NET_CTRL_FC p) = 1 then beBytes 2 0x0001 ++ beBytes 2 quanta
    else beBytes 2 0x0101 ++ beBytes 2 (2 ^ pr) ++
      (List.range 8).flatMap (fun i => beBytes 2 (if i = pr then quanta else 0)))

/-- Flow control is on: PAUSE or PFC. -/
def State.fcOn (s : State) (p : Nat) : Bool := decide (s.fld (F.NET_CTRL_FC p) = 1) || decide (s.fld (F.NET_CTRL_FC p) = 2)

/-- Send XOFF, or a release, on every link of a port that is up. -/
def State.sendXoff (s : State) (p quanta : Nat) : State :=
  if s.fcOn p then
    ((List.range 4).filter (fun k => s.linkUp p k)).foldl (fun t k => t.send p k (t.xoffFrame p k quanta)) s
  else s

/-- Longer than 9,216 bytes from destination address to FCS inclusive (R247). -/
def netLong (bs : List Byte) : Bool := decide (9216 < bs.length + 4)

/-- A frame dropped under R247, other than for its FCS; one that is too long sets OVERSIZE. -/
def State.netDrop (s : State) (p : Nat) (bs : List Byte) : State :=
  let s1 := if netLong bs then s.raise (F.NET_STAT_OVERSIZE p) else s
  (s1.raise (F.NET_STAT_DROP p)).bump (F.NET_DROP_FRAMES p)

/-- The priorities that a received XOFF names on a link: every one under PAUSE. -/
def offKeys (k : Nat) (pfc : Bool) (mask : Nat) : List Nat :=
  ((List.range 8).filter (fun i => !pfc || bitOf mask i)).map (fun i => 8 * k + i)

/-- PAUSE_FRAME (R248): an XOFF, or with 0 quanta a release; dropped while flow control is off or of the other kind. -/
def execPauseFrame (pt : Fin 2) (k : Fin 4) (pfc : Bool) (prio : BitVec 8) (quanta : BitVec 16) (s : State) :
    Host.Outcome State Fault Refusal :=
  let p := pt.val
  if !s.live || !s.linkUp p k.val then .next s
  else if s.fld (F.NET_CTRL_FC p) ≠ (if pfc then 2 else 1) then .next (s.netDrop p [])
  else
    let keys := offKeys k.val pfc prio.toNat
    let x := s.netPort p
    let rest := x.paused.filter (fun i => !keys.contains i)
    if quanta = 0 then .next ((s.setPort p { x with paused := rest }).netFlush p)
    else .next ((s.setPort p { x with paused := rest ++ keys }).raise (F.NET_STAT_PAUSED p))

/-- PAUSE_TIME_EXPIRY (R248): of one priority, or of all frames under PAUSE. -/
def execPauseTimeExpiry (pt : Fin 2) (k : Fin 4) (prio : BitVec 3) (s : State) : Host.Outcome State Fault Refusal :=
  let p := pt.val
  if !s.live then .next s
  else
    let keys := offKeys k.val (decide (s.fld (F.NET_CTRL_FC p) ≠ 1)) (2 ^ prio.toNat)
    let x := s.netPort p
    .next ((s.setPort p { x with paused := x.paused.filter (fun i => !keys.contains i) }).netFlush p)

/-- XOFF_REPEAT (R248): under back-pressure. -/
def execXoffRepeat (pt : Fin 2) (s : State) : Host.Outcome State Fault Refusal :=
  if s.live && (s.netPort pt.val).bp.isSome then .next (s.sendXoff pt.val (s.fld (F.NET_CTRL_QUANTA pt.val))) else .next s

/-! ### Links and frames -/

/-- PORT_READY (R249): the SerDes is ready; the domain's wake is complete. -/
def State.portReady (s : State) (p : Nat) : State :=
  if s.awake (0x20 + p) || bitOf s.sup.waking (0x20 + p) then (s.setAwake (0x20 + p)).raise (F.NET_STAT_READY p) else s

/-- LINK_UP (R249). -/
def execLinkUp (pt : Fin 2) (k : Fin 4) (s : State) : Host.Outcome State Fault Refusal :=
  let p := pt.val
  if s.live && s.flag (F.NET_CTRL_EN p) && s.flag (F.NET_STAT_READY p) && linkExists (s.fld (F.NET_CTRL_MODE p)) k.val then
    .next ((s.put (F.NET_STAT_LINK_UP p) (putBit (s.fld (F.NET_STAT_LINK_UP p)) k.val true)).netFlush p)
  else .next s

/-- LINK_DOWN (R249): LINK_UP clears; streams on the link wait. -/
def execLinkDown (pt : Fin 2) (k : Fin 4) (s : State) : Host.Outcome State Fault Refusal :=
  let p := pt.val
  if s.live then .next (s.put (F.NET_STAT_LINK_UP p) (putBit (s.fld (F.NET_STAT_LINK_UP p)) k.val false)) else .next s

/-- A received frame's type and body, where its length and its tag are ones the link accepts (R247), and whether it has a tag. -/
def State.untag (s : State) (p k : Nat) (bs : List Byte) : Option (Nat × List Byte × Bool) :=
  let t := beNat ((bs.drop 12).take 2)
  if netLong bs then none
  else if t = 0x8100 then
    if beNat ((bs.drop 14).take 2) % 4096 = s.fld (F.NETL_CFG_VID p k) then
      some (beNat ((bs.drop 16).take 2), bs.drop 18, true)
    else none
  else if s.flag (F.NETL_CFG_VLAN_EN p k) then none
  else some (t, bs.drop 14, false)

/-- The tag of an answer: as the request's; its priority is not stated (log 7). -/
def State.answerTag (s : State) (p k : Nat) (tagged : Bool) : Option (Nat × Nat) :=
  if tagged then some (Config.freeNat s.free % 8, s.fld (F.NETL_CFG_VID p k)) else none

/-- An answer to ARP or neighbour discovery leaves the link. -/
def State.answer (s : State) (p k : Nat) (dst type : Nat) (tagged : Bool) (body : List Byte) : State :=
  (s.takeFree).netSend p k (Config.freeNat s.free % 8)
    (minFrame (etherHead dst (s.linkMac p k) (s.answerTag p k tagged) type ++ body))

/-- An ARP request (RFC 826) for an address. -/
def arpFor (b : List Byte) (ip : Nat) : Bool :=
  decide (beNat (b.take 8) = 0x0001080006040001) && decide (beNat ((b.drop 24).take 4) = ip) && decide (28 ≤ b.length)

/-- The ARP reply to a request's body. -/
def arpReply (b : List Byte) (mac ip : Nat) : List Byte :=
  beBytes 8 0x0001080006040002 ++ beBytes 6 mac ++ beBytes 4 ip ++ (b.drop 8).take 10

/-- An enabled group of a port's table (R265): its IP address, an IPv4 group in the IPv4-mapped form. -/
def State.groups (s : State) (p : Nat) : List Nat :=
  ((List.range 16).filter (fun g => bitOf (s.fld (F.NET_MC_EN_EN p)) g)).map (fun g =>
    s.getSel (0x3840 + 16 * p + g) * 2 ^ 64 + s.getSel (0x3860 + 16 * p + g))

/-- The Ethernet multicast address of an IP group: of RFC 1112 or RFC 2464 (PRESUMED, log 22). -/
def groupMac (ip : Nat) : Nat := if isV4 ip then 0x01005E000000 + ip % 2 ^ 23 else 0x333300000000 + ip % 2 ^ 32

/-- A frame addressed to the link's MAC address or to that of an enabled group (R247). -/
def State.macOk (s : State) (p k : Nat) (bs : List Byte) : Bool :=
  decide (beNat (bs.take 6) = s.linkMac p k) || (s.groups p).any (fun g => decide (beNat (bs.take 6) = groupMac g))

/-- A UDP datagram of IPv4 or IPv6; an IPv4 address in the IPv4-mapped form. -/
structure Datagram where
  src : Nat
  dst : Nat
  sport : Nat
  dport : Nat
  body : List Byte
  deriving DecidableEq, Repr

/-- The datagram in the body of a frame of a type, where it is UDP, unfragmented, over IPv4 or directly over IPv6. -/
def udpOf (type : Nat) (b : List Byte) : Option Datagram :=
  let f := fun (q : List Byte) o n => beNat ((q.drop o).take n)
  let go := fun (src dst : Nat) (q : List Byte) => some (Datagram.mk src dst (f q 0 2) (f q 2 2) ((q.drop 8).take (f q 4 2 - 8)))
  if type = 0x0800 ∧ f b 0 1 / 16 = 4 ∧ f b 9 1 = 17 ∧ f b 6 2 % 2 ^ 14 = 0 then
    go (0xFFFF * 2 ^ 32 + f b 12 4) (0xFFFF * 2 ^ 32 + f b 16 4) (b.drop (4 * (f b 0 1 % 16)))
  else if type = 0x86DD ∧ f b 0 1 / 16 = 6 ∧ f b 6 1 = 17 then go (f b 8 16) (f b 24 16) (b.drop 40)
  else none

/-- The datagram that a link takes of a received frame (R247). -/
def State.datagram (s : State) (p k : Nat) (bs : List Byte) : Option Datagram :=
  match s.untag p k bs with
  | none => none
  | some (t, b, _) =>
    let ok := if t = 0x0800 then s.flag (F.NETL_CFG_V4_EN p k) && decide (beNat (b.take 1) = 0x45) else s.flag (F.NETL_CFG_V6_EN p k)
    let own := if t = 0x0800 then 0xFFFF * 2 ^ 32 + s.linkIp4 p k else s.linkIp6 p k
    (udpOf t b).filter (fun d => ok && s.macOk p k bs && (decide (d.dst = own) || (s.groups p).contains d.dst) &&
      decide (d.dport = s.fld F.BAT_UDP_PORT))

/-- A received frame is an ARP request that the link answers (R247): its type and body and whether it has a tag. -/
def State.arpIn (s : State) (p k : Nat) (bs : List Byte) : Option (List Byte × Bool) :=
  match s.untag p k bs with
  | none => none
  | some (t, b, tagged) =>
    if t = 0x0806 ∧ (beNat (bs.take 6) = 2 ^ 48 - 1 ∨ s.macOk p k bs = true) ∧ arpFor b (s.linkIp4 p k) then some (b, tagged) else none

/-- ARP_REQUEST (R247): answered where it is for the link, else a frame that the link drops. -/
def State.arpRequest (s : State) (p k : Nat) (bs : List Byte) : State :=
  match s.arpIn p k bs with
  | none => s.netDrop p bs
  | some (b, tagged) =>
    s.answer p k (beNat ((bs.drop 6).take 6)) 0x0806 tagged (arpReply b (s.linkMac p k) (s.linkIp4 p k))

/-- ARP_REQUEST. -/
def execArpRequest (pt : Fin 2) (k : Fin 4) (f : RxFrame) (s : State) : Host.Outcome State Fault Refusal :=
  if s.live && s.linkUp pt.val k.val then .next (s.arpRequest pt.val k.val f.bytes) else .next s

/-- An IPv6 neighbour solicitation for an address: Next Header 58, type 135, target. -/
def solicits (b : List Byte) (ip : Nat) : Bool :=
  decide (beNat ((b.drop 6).take 1) = 58) && decide (beNat ((b.drop 40).take 1) = 135) &&
    decide (beNat ((b.drop 48).take 16) = ip) && decide (64 ≤ b.length)

/-- The neighbour advertisement that answers: solicited and override, with the target's link-layer address. -/
def advert (b : List Byte) (mac ip : Nat) : List Byte :=
  let dst := beNat ((b.drop 8).take 16)
  let body := fun c : Nat => [136, 0] ++ beBytes 2 c ++ beBytes 4 0x60000000 ++ beBytes 16 ip ++ [2, 1] ++ beBytes 6 mac
  let sum := inetSum (beBytes 16 ip ++ beBytes 16 dst ++ beBytes 4 32 ++ beBytes 4 58 ++ body 0)
  beBytes 4 0x60000000 ++ beBytes 2 32 ++ [58, 255] ++ beBytes 16 ip ++ beBytes 16 dst ++ body sum

/-- The solicited-node multicast address of an IPv6 address (RFC 4291), to which a solicitation goes (PRESUMED, log 22). -/
def solicitedNode (ip : Nat) : Nat := 0xFF0200000000000000000001FF000000 + ip % 2 ^ 24

/-- A received frame is a neighbour solicitation that the link answers (R247). -/
def State.ndIn (s : State) (p k : Nat) (bs : List Byte) : Option (List Byte × Bool) :=
  match s.untag p k bs with
  | none => none
  | some (t, b, tagged) =>
    if t = 0x86DD ∧ (s.macOk p k bs = true ∨ beNat (bs.take 6) = groupMac (solicitedNode (s.linkIp6 p k))) ∧ solicits b (s.linkIp6 p k) then
      some (b, tagged)
    else none

/-- NEIGHBOUR_SOLICITATION (R247): answered where it is for the link, else a frame that the link drops. -/
def State.neighbour (s : State) (p k : Nat) (bs : List Byte) : State :=
  match s.ndIn p k bs with
  | none => s.netDrop p bs
  | some (b, tagged) =>
    s.answer p k (beNat ((bs.drop 6).take 6)) 0x86DD tagged (advert b (s.linkMac p k) (s.linkIp6 p k))

/-- NEIGHBOUR_SOLICITATION. -/
def execNeighbourSolicitation (pt : Fin 2) (k : Fin 4) (f : RxFrame) (s : State) : Host.Outcome State Fault Refusal :=
  if s.live && s.linkUp pt.val k.val then .next (s.neighbour pt.val k.val f.bytes) else .next s

/-- The link accepts a frame (R247): a datagram, an ARP request or a solicitation that it answers. -/
def State.accepts (s : State) (p k : Nat) (bs : List Byte) : Bool :=
  (s.datagram p k bs).isSome || (s.arpIn p k bs).isSome || (s.ndIn p k bs).isSome

/-- FRAME_DROP (R247): a frame with a bad FCS, or one that the link does not accept. -/
def execFrameDrop (pt : Fin 2) (k : Fin 4) (x : DroppedFrame) (s : State) : Host.Outcome State Fault Refusal :=
  let p := pt.val
  if s.live && s.linkUp p k.val then
    if x.fcs then .next ((s.raise (F.NET_STAT_FCS_ERR p)).bump (F.NET_FCS_FRAMES p))
    else if s.accepts p k.val x.frame.bytes then .next s
    else .next (s.netDrop p x.frame.bytes)
  else .next s

end Sys2Proof.Machine
end

