-- ==== Sys2Proof/Machine/Baton.lean ====
section
/-! DEFINITION. The Baton engine (R250–R271): frames, landing grants, sessions, ingest and its acknowledgement, outbound
streams, and the BATON registers. -/

namespace Sys2Proof.Machine

/-! ### Grants, sessions and back-pressure -/

/-- The grant in a slot. -/
def State.grant (s : State) (i : Nat) : Grant := Sp.get (fun _ => ({} : Grant)) s.bat.grants i

/-- Set the grant in a slot. -/
def State.setGrant (s : State) (i : Nat) (g : Grant) : State :=
  { s with bat := { s.bat with grants := Sp.set (fun _ => ({} : Grant)) s.bat.grants i g } }

/-- The session with a key (R257). -/
def State.session (s : State) (key : Nat) : Option Sess := s.bat.sess.find? (fun x => decide (x.skey = key))

/-- Replace the session with the same key. -/
def State.setSess (s : State) (x : Sess) : State :=
  { s with bat := { s.bat with sess := s.bat.sess.map (fun y => if y.skey = x.skey then x else y) } }

/-- Bytes in a port's ingest buffer. -/
def Port.fill (x : Port) : Nat := (x.buf.map (fun b => b.data.length)).sum

/-- GEN of a frame about a grant (R253): the segment's GEN, or the generation count of a region grant. -/
def State.grantGen (s : State) (g : Grant) : Nat := if g.kind = 1 then (s.seg g.seg).gen else g.gens

/-- A Baton header's fields that the device sets (R251). -/
structure BatHead where
  type : Nat
  skey : Nat
  epoch : Nat
  len : Nat
  ofs : Nat
  grant : Nat
  flags : Nat
  status : Nat
  deriving DecidableEq, Repr

/-- Bytes 0–27 of a header, in network byte order. -/
def BatHead.bytes (h : BatHead) : List Byte :=
  beBytes 2 0xBA70 ++ [1, BitVec.ofNat 8 h.type] ++ beBytes 4 h.skey ++ beBytes 2 h.epoch ++ beBytes 2 h.len ++
    beBytes 8 h.ofs ++ beBytes 4 h.grant ++ beBytes 2 h.flags ++ [BitVec.ofNat 8 h.status, 0]

/-- A whole frame: fixed part, HCRC, body; HCRC covers the body of types other than DATA and OUT_RING (R251). -/
def batFrame (h : BatHead) (body : List Byte) : List Byte :=
  let f := h.bytes
  f ++ beBytes 4 (crc32c (if h.type = 0x01 ∨ h.type = 0x11 then f else f ++ body)).toNat ++ body

/-- ROLE in FLAGS (R251, R265). -/
def State.roleFlags (s : State) : Nat := 2 ^ 8 * s.role

/-- Acknowledgements are sent: by a follower only under FOLLOWER_ACK (R266). -/
def State.acks (s : State) : Bool := decide (s.role ≠ roleFollower) || s.flag F.BAT_CTRL_FOLLOWER_ACK

/-- WINDOW and the BP flag on a port (R263). -/
def State.window (s : State) (p : Nat) : Nat :=
  if (s.netPort p).bp.isSome then 0 else 1024 * s.fld F.BAT_WIN_WINDOW_KIB

@[inherit_doc State.window] def State.bpFlag (s : State) (p : Nat) : Nat := if (s.netPort p).bp.isSome then 16 else 0

/-- Send an acknowledging frame on a link to a source (R262). -/
def State.ackSend (s : State) (p k mac ip port : Nat) (bs : List Byte) : State :=
  if s.acks then
    let pr := s.fld (F.NET_CTRL_CTRL_PRIO p)
    s.udpSend p k pr (s.linkTag p k pr) mac ip (s.fld F.BAT_UDP_PORT) port bs
  else s

/-- Body of an ACK or the first part of an OPEN_ACK: WINDOW, GEN, reserved (R253). -/
def ackBody (window gen : Nat) : List Byte := beBytes 4 window ++ beBytes 2 gen ++ [0, 0]

/-- ACKED of a session's range. -/
def State.acked (s : State) (x : Sess) : Nat :=
  match (s.grant x.slot).ranges.find? (fun r => decide (r.a = x.a) && decide (r.e = x.e)) with
  | some r => r.acked
  | none => x.a

/-- Send an ACK with flags and a status (R262). -/
def State.sendAck (s : State) (x : Sess) (flags status gen : Nat) : State :=
  let h : BatHead := ⟨0x04, x.skey, x.epoch, 8, s.acked x, x.slot, flags + s.bpFlag x.pt + s.roleFlags, status⟩
  (s.ackSend x.pt x.link x.mac x.ip x.port (batFrame h (ackBody (s.window x.pt) gen))).setSess
    { x with last := s.acked x, due := false }

/-- An ACK with the grant's present GEN. -/
def State.sendAck0 (s : State) (x : Sess) (flags status : Nat) : State :=
  s.sendAck x flags status (s.grantGen (s.grant x.slot))

/-- Microseconds of a number of ticks (log 12). -/
def State.usOf (s : State) (ticks : Nat) : Nat := ticks * 320000 / (max s.clk.lockN 1) / 1000000

/-- Something happened in the last BAT_ACK.TIME_US. -/
def State.inTime (s : State) (t : Option Int) : Bool :=
  match t with
  | none => false
  | some t => !s.usPast t (s.fld F.BAT_ACK_TIME_US)

/-- A port enters or leaves back-pressure as its ingest buffer stands (R263). -/
def State.checkBp (s : State) (p : Nat) : State :=
  let x := s.netPort p
  match x.bp with
  | none =>
    if 1024 * s.fld F.BAT_BUF_XOFF_KIB ≤ x.fill then
      ((s.setPort p { x with bp := some s.tm.tb }).sendXoff p (s.fld (F.NET_CTRL_QUANTA p))).eventNow 0x17 0x04 p
    else s
  | some t =>
    if x.fill ≤ 1024 * s.fld F.BAT_BUF_XON_KIB then
      let s1 := ((s.setPort p { x with bp := none }).sendXoff p 0).eventNow 0x17 0x04
        (p + 2 ^ 8 + 2 ^ 32 * (s.usOf ((s.tm.tb : Int) - t).toNat % 2 ^ 32))
      (s1.bat.sess.filter (fun y => decide (y.pt = p) && s1.inTime y.got)).foldl (fun t y => t.sendAck0 y 0 stOk) s1
    else s

/-- Both ports enter or leave back-pressure as their buffers and the present thresholds stand (R263: the comparison
follows a change of XOFF_KIB or XON_KIB as it follows a change of the buffer). -/
def State.checkBps (s : State) : State := (s.checkBp 0).checkBp 1

/-- A session's frames leave the ingest buffers, unwritten. -/
def State.dropFrames (s : State) (key : Nat) : State :=
  let s1 := (List.range 2).foldl (fun t p =>
    let x := t.netPort p
    t.setPort p { x with buf := x.buf.filter (fun b => decide (b.skey ≠ key)) }) s
  s1.checkBps

/-- A session is retired (R259): its slot is free, its frames are dropped, a SESSION_CLOSE record is written. -/
def State.retire (s : State) (x : Sess) (cause : Nat) : State :=
  let s1 := { s with bat := { s.bat with sess := s.bat.sess.filter (fun y => decide (y.skey ≠ x.skey)) } }
  (s1.dropFrames x.skey).eventNow 0x17 0x02 (x.skey + 2 ^ 32 * x.slot + 2 ^ 48 * cause)

/-- A grant is revoked (R256): its sessions are retired and its ranges are gone. -/
def State.revoke (s : State) (slot cause : Nat) : State :=
  ((s.bat.sess.filter (fun x => decide (x.slot = slot))).foldl (fun t x => t.retire x cause) s).setGrant slot {}

/-- Every grant is revoked with cause MAPPING (R256). -/
def State.revokeAll (s : State) : State := (s.bat.grants.map (fun c => c.1)).foldl (fun t i => t.revoke i 5) s

/-- The mapped set changes (R228, R256). -/
def State.remap (s : State) (m : Nat) : State :=
  if s.fld F.DRAM_CFG_MAPPED = m then s else (s.revokeAll).put F.DRAM_CFG_MAPPED m

/-! ### BATQ (R254–R256, R267) -/

/-- The bytes of a record. -/
def recBytes (r : Rec) : List Byte := r.flatMap (fun w => leBytes 4 w.toNat)

/-- A little-endian field of a byte list. -/
def leField (b : List Byte) (i n : Nat) : Nat := leNat ((b.drop i).take n)

/-- Every byte outside the listed spans is zero. -/
def zeroBut (b : List Byte) (keep : List (Nat × Nat)) : Bool :=
  (List.range b.length).all (fun i => decide (b.getD i 0 = 0) || keep.any (fun k => decide (k.1 ≤ i) && decide (i ≤ k.2)))

/-- Reserved bytes and bits of a BATQ record are zero (R254). -/
def batqClean (b : List Byte) : Bool :=
  match leField b 0 1 with
  | 1 => zeroBut b [(0, 0), (2, 12)]
  | 2 => zeroBut b [(0, 0), (2, 5), (8, 12), (16, 31)]
  | 3 => zeroBut b [(0, 0), (2, 5)]
  | 4 => zeroBut b [(0, 0), (2, 3), (8, 11)]
  | 5 => zeroBut b [(0, 0), (2, 6), (8, 41)] && decide (leField b 5 1 < 8) && decide (leField b 6 1 < 32) &&
      decide (leField b 8 2 < 4096)
  | 6 => zeroBut b [(0, 0), (2, 3)]
  | _ => false

/-- The record at BATQ's head, where its opcode is `op` or names no record. -/
def State.batqHead (s : State) (op : Nat) : Option (List Byte) :=
  match (s.getQ 10).recs with
  | [] => none
  | r :: _ =>
    let b := recBytes r
    let o := leField b 0 1
    if o = op ∨ o = 0 ∨ 6 < o then some b else none

/-- A record completes in BAT_QDONE (R254). -/
def State.batqDone (s : State) (b : List Byte) (st : Nat) : State :=
  let s1 := s.wr 0xD004C (BitVec.ofNat 32 (leField b 0 1 + 2 ^ 8 * st + 2 ^ 16 * leField b 2 2))
  if st = stOk then s1 else (s1.raise F.BAT_STAT_QREFUSED).bump F.BAT_CNT0_QREF_COUNT

/-- A block of the device takes the head record of a queue whose words are protected (R295): how many of its words it corrects, and
counts, is a free number (log 36). -/
def State.takeWords (s : State) (i : Nat) (corr : Fld) : State :=
  ((s.leave i).takeFree).addTo corr (Config.freeNat s.free % (qWords i + 1))

/-- The engine takes a record (R254, R295): `run` answers its status and its effect. -/
def State.takeBatq (s : State) (op : Nat) (ecc : Option (Fin 16)) (run : State → List Byte → Nat × State) : State :=
  match s.batqHead op with
  | none => s
  | some b =>
    if !s.live || !s.awake 0x22 then s
    else
      let s1 := s.takeWords 10 F.BATQ_CNT_CORR_COUNT
      match ecc with
      | some w => (s1.eccBad 10 w.val).batqDone b stCrc
      | none =>
        if !batqClean b then s1.batqDone b stRange
        else
          let (st, s2) := run s1 b
          s2.batqDone b st

/-- Segments whose descriptor is in use. -/
def State.usedSegs (s : State) : List Nat :=
  (s.mem.dir.filter (fun c => decide (c.1 % 4 = 1))).map (fun c => c.1 / 4) |>.filter (fun k => decide ((s.seg k).slen16 ≠ 0))

/-- GRANT_SEG (R255). -/
def grantSeg (s : State) (b : List Byte) : Nat × State :=
  let slot := leField b 4 2
  let k := leField b 6 2
  let mr := leField b 12 1
  if 1023 < slot ∨ mr = 0 ∨ 16 < mr then (stRange, s)
  else if !s.flag F.PLAN_STAT_PRESENT then (stState, s)
  else if (s.grant slot).kind ≠ 0 ∨ s.bat.grants.any (fun c => decide (c.2.kind = 1) && decide (c.2.seg = k)) then (stBusy, s)
  else if (s.seg k).slen16 = 0 ∨ !(s.seg k).dram then (stRange, s)
  else (stOk, s.setGrant slot ⟨1, k, leField b 8 4, mr, 64 * (s.seg k).base, s.segBytes k, 0, []⟩)

/-- GRANT_REGION (R255). -/
def grantRegion (s : State) (b : List Byte) : Nat × State :=
  let slot := leField b 4 2
  let mr := leField b 12 1
  let a := leField b 16 8
  let n := leField b 24 8
  if 1023 < slot ∨ mr = 0 ∨ 16 < mr ∨ a % 64 ≠ 0 ∨ n = 0 ∨ n % 64 ≠ 0 then (stRange, s)
  else if (s.grant slot).kind ≠ 0 then (stBusy, s)
  else if a < s.resBytes ∨ s.resBytes + s.heatBytes < a + n ∨
      s.usedSegs.any (fun k => s.segInDram k && decide (a < 64 * (s.seg k).base + s.segBytes k) &&
        decide (64 * (s.seg k).base < a + n)) then (stRange, s)
  else (stOk, s.setGrant slot ⟨2, 0, leField b 8 4, mr, a, n, 0, []⟩)

/-- REVOKE (R255, R256). -/
def revokeRec (s : State) (b : List Byte) : Nat × State :=
  let slot := leField b 4 2
  if 1023 < slot then (stRange, s)
  else if (s.grant slot).kind = 0 then (stState, s)
  else (stOk, s.revoke slot 4)

/-- RETIRE (R255, R259). -/
def retireRec (s : State) (b : List Byte) : Nat × State :=
  match s.session (leField b 8 4) with
  | none => (stState, s)
  | some x => (stOk, s.retire x 3)

/-- The destination of a stream. -/
def State.dest (s : State) (i : Nat) : Option Dest := Sp.get (fun _ => none) s.bat.dests i

/-- Set or clear the destination of a stream, with its bit of BAT_OSTAT.DEST. -/
def State.setDest (s : State) (i : Nat) (d : Option Dest) : State :=
  let s1 := s.put F.BAT_OSTAT_DEST (putBit (s.fld F.BAT_OSTAT_DEST) i d.isSome)
  { s1 with bat := { s1.bat with dests := Sp.set (fun _ => none) s1.bat.dests i d } }

/-- OUT_DEST (R267). -/
def outDest (s : State) (b : List Byte) : Nat × State :=
  let i := leField b 4 1
  let l := leField b 5 1
  let f := leField b 6 1
  if 4 < i ∨ !s.hasOther (l / 4) ∨ !linkExists (s.fld (F.NET_CTRL_MODE (l / 4))) (l % 4) then (stRange, s)
  else if bitOf f 4 then (stOk, s.setDest i none)
  else
    let s1 := s.setDest i (some ⟨l / 4, l % 4, f % 8, bitOf f 3, leField b 8 2, leField b 10 2, leField b 12 4, leField b 16 2,
      beNat ((b.drop 18).take 6), beNat ((b.drop 24).take 16), leField b 40 2⟩)
    (stOk, if i = 0 then { s1 with bat := { s1.bat with recs := 0 } } else s1)

/-- GRANT_SEG. -/
def execGrantSeg (ecc : Option (Fin 16)) (s : State) : Host.Outcome State Fault Refusal := .next (s.takeBatq 1 ecc grantSeg)

/-- GRANT_REGION. -/
def execGrantRegion (ecc : Option (Fin 16)) (s : State) : Host.Outcome State Fault Refusal := .next (s.takeBatq 2 ecc grantRegion)

/-- REVOKE. -/
def execRevoke (ecc : Option (Fin 16)) (s : State) : Host.Outcome State Fault Refusal := .next (s.takeBatq 3 ecc revokeRec)

/-- RETIRE. -/
def execRetire (ecc : Option (Fin 16)) (s : State) : Host.Outcome State Fault Refusal := .next (s.takeBatq 4 ecc retireRec)

/-- OUT_DEST. -/
def execOutDest (ecc : Option (Fin 16)) (s : State) : Host.Outcome State Fault Refusal := .next (s.takeBatq 5 ecc outDest)

/-- BATQ_MARK. -/
def execBatqMark (ecc : Option (Fin 16)) (s : State) : Host.Outcome State Fault Refusal :=
  .next (s.takeBatq 6 ecc (fun t _ => (stOk, t)))

/-! ### Received frames -/

/-- The fields of a received frame that a sender sets (R251). -/
structure BatIn where
  type : Nat
  skey : Nat
  epoch : Nat
  len : Nat
  ofs : Nat
  grant : Nat
  body : List Byte
  mac : Nat
  ip : Nat
  port : Nat
  deriving DecidableEq, Repr

/-- The length a frame's type requires of its body (R253): none states one for DATA here (R260 judges it). -/
def bodyLen (type : Nat) : Option Nat :=
  match type with
  | 0x02 => some 16
  | 0x05 => some 0
  | 0x07 => some 0
  | _ => none

/-- A frame that passes R252: its MAGIC, VERSION, HCRC and TYPE are right, and the bytes of its LENGTH are there. A type that only
a device sends is none that it knows (log 22). -/
def batonIn (mac : Nat) (d : Datagram) : Option BatIn :=
  let b := d.body
  let f := fun i n => beNat ((b.drop i).take n)
  let type := f 3 1
  let len := f 10 2
  let body := (b.drop 32).take len
  let fixed := b.take 28
  let crc := crc32c (if type = 0x01 then fixed else fixed ++ body)
  if b.length < 32 + len ∨ f 0 2 ≠ 0xBA70 ∨ f 2 1 ≠ 1 ∨ f 28 4 ≠ crc.toNat then none
  else if type = 0x01 ∨ bodyLen type = some len then
    some ⟨type, f 4 4, f 8 2, len, f 12 8, f 20 4, body, mac, d.src, d.sport⟩
  else none

/-- The engine takes frames from a link (R249, BAT_CTRL.EN). -/
def State.batonOn (s : State) (p k : Nat) : Bool :=
  s.live && s.linkUp p k && s.awake 0x22 && s.flag F.BAT_CTRL_EN

/-- What the engine reads of a frame that the link takes and that passes R252. -/
def State.frameIn (s : State) (p k : Nat) (f : RxFrame) : Option BatIn :=
  (s.datagram p k f.bytes).bind (batonIn (beNat ((f.bytes.drop 6).take 6)))

/-- A frame that fails R252 is dropped. -/
def State.badFrame (s : State) : State := (s.raise F.BAT_STAT_CRC_DROP).bump F.BAT_CNT1_SRC_DROPS

/-- A received frame of one type: dropped where the link does not take it (R247) or it fails R252; another type's frame is none of
this command's. An engine that is off drops it. -/
def State.onFrame (s : State) (p k type : Nat) (f : RxFrame) (run : State → BatIn → State) : State :=
  if !s.live || !s.linkUp p k then s
  else if (s.datagram p k f.bytes).isNone then s.netDrop p f.bytes
  else if !s.batonOn p k then s
  else match s.frameIn p k f with
    | none => s.badFrame
    | some x => if x.type = type then run s x else s

/-- BAD_FRAME (R252). -/
def execBadFrame (pt : Fin 2) (k : Fin 4) (f : RxFrame) (s : State) : Host.Outcome State Fault Refusal :=
  .next (s.onFrame pt.val k.val 0 f (fun t _ => t))

/-- The session of a frame: its SKEY, source and EPOCH match (R257, R260). -/
def State.match' (s : State) (x : BatIn) : Option Sess :=
  match s.session x.skey with
  | none => none
  | some y => if y.ip = x.ip ∧ y.port = x.port ∧ y.epoch = x.epoch then some y else none

/-- Ranges overlap. -/
def Range.meets (r : Range) (a e : Nat) : Bool := decide (a < r.e) && decide (r.a < e)

/-- A range has a session admitted. -/
def State.attached (s : State) (slot : Nat) (r : Range) : Bool :=
  s.bat.sess.any (fun x => decide (x.slot = slot) && decide (x.a = r.a) && decide (x.e = r.e))

/-- The checks of an OPEN, in their order (R258). -/
def State.openCheck (s : State) (slot key a e skey ip port : Nat) : Nat :=
  let g := s.grant slot
  let parked := g.ranges.any (fun r => decide (r.a = a) && decide (r.e = e) && !s.attached slot r)
  let same := match s.session skey with | some x => decide (x.ip = ip ∧ x.port = port) | none => false
  if g.kind = 0 then stState
  else if g.key ≠ key then stKey
  else if a % 64 ≠ 0 ∨ e % 64 ≠ 0 ∨ e ≤ a ∨ g.len < e then stRange
  else if !parked ∧ g.ranges.any (fun r => r.meets a e) then stRange
  else if !parked ∧ g.maxRanges ≤ g.ranges.length then stBudget
  else if (s.session skey).isSome ∧ !same then stBusy
  else if 4096 ≤ s.bat.sess.length ∧ !same then stBusy
  else stOk

/-- Send an OPEN_ACK (R253, R258). -/
def State.openAck (s : State) (p k : Nat) (x : BatIn) (ofs gen flags st : Nat) : State :=
  let h : BatHead := ⟨0x03, x.skey, x.epoch, 16, ofs, x.grant % 1024, flags + s.bpFlag p + s.roleFlags, st⟩
  s.ackSend p k x.mac x.ip x.port (batFrame h (ackBody (s.window p) gen ++ beBytes 8 (s.getSel 0)))

/-- An OPEN is refused: its OPEN_ACK gives the GEN of the slot's grant (R253). What it says of the offset, and of GEN where the slot holds
no grant, is not stated: free values (log 7). -/
def State.openRefuse (s : State) (p k : Nat) (x : BatIn) (st : Nat) : State :=
  let s1 := (s.raise F.BAT_STAT_OPEN_REF).bump F.BAT_CNT0_OPEN_REFUSED
  let g := s1.grant (x.grant % 1024)
  (s1.takeFree).openAck p k x (Config.freeNat s1.free)
    (if g.kind = 0 then Config.freeNat s1.free / 2 ^ 64 else s1.grantGen g) 0 st

/-- An OPEN passes: the session is admitted (R258). -/
def State.openAdmit (s : State) (p k : Nat) (x : BatIn) (slot a e : Nat) : State :=
  let s0 : State := match s.session x.skey with | some y => s.retire y 6 | none => s
  let g : Grant := s0.grant slot
  let old := g.ranges.find? (fun r => decide (r.a = a) && decide (r.e = e))
  let s1 := match old with
    | some _ => s0
    | none => s0.setGrant slot { g with ranges := g.ranges ++ [Range.mk a e a] }
  let acked := match old with | some r => r.acked | none => a
  let resumed := b2n old.isSome
  let sess : Sess := ⟨x.skey, x.epoch, slot, a, e, x.ip, x.port, x.mac, p, k, acked, acked, false, none, some s1.tm.tb⟩
  let s2 := { s1 with bat := { s1.bat with sess := s1.bat.sess ++ [sess] } }
  let s3 := s2.eventNow 0x17 0x01 (x.skey + 2 ^ 32 * slot + 2 ^ 48 * (4 * p + k) + 2 ^ 56 * resumed)
  let done := acked = e
  let s4 := s3.openAck p k x acked (s3.grantGen (s3.grant slot)) (32 * resumed + b2n (decide done)) stOk
  if done then s4.retire sess 1 else s4

/-- OPEN (R258). -/
def State.openFrame (p k : Nat) (s : State) (x : BatIn) : State :=
  let slot := x.grant % 1024
  let e := beNat ((x.body.drop 8).take 8)
  let st := s.openCheck slot (beNat (x.body.take 4)) x.ofs e x.skey x.ip x.port
  if st = stOk then s.openAdmit p k x slot x.ofs e else s.openRefuse p k x st

/-- OPEN. -/
def execOpenSession (pt : Fin 2) (k : Fin 4) (f : RxFrame) (s : State) : Host.Outcome State Fault Refusal :=
  .next (s.onFrame pt.val k.val 0x02 f (State.openFrame pt.val k.val))

/-- A DUP or GAP acknowledgement: at most one in TIME_US for a session (R260). -/
def State.tell (s : State) (y : Sess) (flag : Nat) : State :=
  if s.inTime y.told then s else s.sendAck0 { y with told := some s.tm.tb } flag stOk

/-- DATA (R260). -/
def State.dataFrame (p k : Nat) (s : State) (x : BatIn) : State :=
  match s.match' x with
  | none => (s.raise F.BAT_STAT_SRC_DROP).bump F.BAT_CNT1_SRC_DROPS
  | some y =>
    if x.len % 64 ≠ 0 ∨ x.len < 64 ∨ 8192 < x.len ∨ x.ofs % 64 ≠ 0 ∨ y.e < x.ofs + x.len then s.sendAck0 y 0 stRange
    else if x.ofs < y.rx then
      s.tell y 8
    else if y.rx < x.ofs then
      s.tell y 4
    else if 8388608 < (s.netPort p).fill + x.len then (s.raise F.BAT_STAT_BUF_DROP).bump F.BAT_CNT1_BUF_DROPS
    else
      let q := s.netPort p
      let s1 := s.setPort p { q with buf := q.buf ++ [Buffered.mk x.skey x.ofs x.body] }
      (s1.setSess { y with rx := y.rx + x.len, mac := x.mac, pt := p, link := k, got := some s1.tm.tb }).checkBp p

/-- DATA. -/
def execDataFrame (pt : Fin 2) (k : Fin 4) (f : RxFrame) (s : State) : Host.Outcome State Fault Refusal :=
  .next (s.onFrame pt.val k.val 0x01 f (State.dataFrame pt.val k.val))

/-- A frame that matches no session, other than DATA, is dropped and counted (BAT_CNT1). -/
def State.noSession (s : State) : State := s.bump F.BAT_CNT1_SRC_DROPS

/-- CLOSE (R259): answered by a CLOSE_ACK with the range's ACKED. -/
def State.closeFrame (p k : Nat) (s : State) (x : BatIn) : State :=
  match s.match' x with
  | none => s.noSession
  | some y =>
    let h : BatHead := ⟨0x06, y.skey, y.epoch, 0, s.acked y, y.slot, s.bpFlag p + s.roleFlags, stOk⟩
    (s.retire y 0).ackSend p k x.mac y.ip y.port (batFrame h [])

/-- CLOSE. -/
def execCloseSession (pt : Fin 2) (k : Fin 4) (f : RxFrame) (s : State) : Host.Outcome State Fault Refusal :=
  .next (s.onFrame pt.val k.val 0x05 f (State.closeFrame pt.val k.val))

/-- QUERY (R262). -/
def State.queryFrame (p k : Nat) (s : State) (x : BatIn) : State :=
  match s.match' x with
  | none => s.noSession
  | some y =>
    let y' := { y with mac := x.mac, pt := p, link := k, got := some s.tm.tb }
    (s.setSess y').sendAck0 y' 0 stOk

/-- BATON_QUERY. -/
def execBatonQuery (pt : Fin 2) (k : Fin 4) (f : RxFrame) (s : State) : Host.Outcome State Fault Refusal :=
  .next (s.onFrame pt.val k.val 0x07 f (State.queryFrame pt.val k.val))

/-! ### Commits -/

/-- Segments that may be active: decided, playing or read ahead, and those with a starting block (R78). -/
def State.activeSegs (s : State) : List Nat :=
  (List.range 8).flatMap (fun n => s.sqSegs n ++ (s.pinnedRecs n).filterMap (fun i =>
    (s.plan.stg[i]?).map (fun r => r.seg)))

/-- A DRAM byte range lands in an active segment. -/
def State.landsActive (s : State) (a n : Nat) : Bool :=
  (s.activeSegs ++ s.thisTick.activeSegs).any (fun k => s.segInDram k && decide (a < 64 * (s.seg k).base + s.segBytes k) &&
    decide (64 * (s.seg k).base < a + n))

/-- A DRAM byte range touches a fenced channel. -/
def State.landsFenced (s : State) (a n : Nat) : Bool :=
  (List.range ((n + 63) / 64)).any (fun g => (s.dramLocs (a + 64 * g)).any (fun l => s.fenced l.1))

/-- The first fenced channel that a DRAM byte range touches. -/
def State.fenceOf (s : State) (a n : Nat) : Nat :=
  ((List.range ((n + 63) / 64)).findSome? (fun g => ((s.dramLocs (a + 64 * g)).find? (fun l => s.fenced l.1)).map (fun l => l.1))).getD 0xFF

/-- A channel of a DRAM byte range serves nothing now: it retrains (R241), has no reference (R32), or is in self-refresh (R237). -/
def State.landsBusy (s : State) (a n : Nat) : Bool :=
  (List.range ((n + 63) / 64)).any (fun g => (s.dramLocs (a + 64 * g)).any (fun l => s.chWaits l.1 || s.flag (selfRef l.1)))

/-- A request that waits for a channel in self-refresh begins its wake (R237, R271), where it has a reference (R32). -/
def State.landsWake (s : State) (a n : Nat) : State :=
  (List.range ((n + 63) / 64)).foldl (fun t g => (t.dramLocs (a + 64 * g)).foldl (fun u l =>
    if u.flag (selfRef l.1) && !u.fenced l.1 && u.refOk then u.startWake (0x18 + l.1) else u) t) s

/-- A commit is refused (R261). -/
def State.nackCommit (s : State) (x : Sess) (st : Nat) : State :=
  let s1 := (s.raise F.BAT_STAT_NACK).bump F.BAT_CNT0_NACK_COUNT
  let y := { x with rx := s1.acked x }
  ((s1.setSess y).dropFrames x.skey).sendAck0 y 0 st

/-- Bytes of the complete ranges of a grant (R264). -/
def Grant.done (g : Grant) : Nat := ((g.ranges.filter (fun r => decide (r.acked = r.e))).map (fun r => r.e - r.a)).sum

/-- A generation of a grant completes (R264): an overwrite where READY of the segment was 1 before, as it always is for REFILL = 0
(R62). -/
def State.genComplete (s : State) (slot : Nat) : State :=
  let g := s.grant slot
  let s1 := s.setGrant slot { g with gens := (g.gens + 1) % 65536, ranges := [] }
  let sg := s.seg g.seg
  if g.kind = 1 then
    let s2 := if sg.refill then s1.completeGen g.seg else s1
    s2.eventNow 0x17 0x03 (slot + 2 ^ 16 * g.seg + 2 ^ 32 * (s2.seg g.seg).gen +
      2 ^ 48 * (b2n (!sg.refill || sg.ready) + 2 * b2n (!sg.refill)))
  else s1.eventNow 0x17 0x03 (slot + 2 ^ 16 * 0xFFFF + 2 ^ 32 * ((g.gens + 1) % 65536))

/-- What follows a commit (R262, R264): the generation, the ACK that is due, the end of the session. -/
def State.committed (s : State) (x : Sess) : State :=
  let acked := s.acked x
  if acked = x.e then
    let g := s.grant x.slot
    let whole := decide (g.done = g.len)
    let s1 := if whole then s.genComplete x.slot else s
    let gen := s1.grantGen (s1.grant x.slot)
    let h : BatHead := ⟨0x04, x.skey, x.epoch, 8, acked, x.slot, 1 + 2 * b2n whole + s1.bpFlag x.pt + s1.roleFlags, stOk⟩
    (s1.ackSend x.pt x.link x.mac x.ip x.port (batFrame h (ackBody (s1.window x.pt) gen))).retire x 1
  else if 1024 * s.fld F.BAT_ACK_BYTES_KIB ≤ acked - x.last then s.sendAck0 x 0 stOk
  else s.setSess { x with due := true }

/-- The oldest frame of a port's ingest buffer commits (R261). It waits while an earlier frame of its session stands in the other
port's buffer, and while a channel wakes or retrains (R237, R241, R271). -/
def State.dataCommit (s : State) (p : Nat) : State :=
  let q := s.netPort p
  match q.buf with
  | [] => s
  | b :: bs =>
    match s.session b.skey with
    | none => (s.setPort p { q with buf := bs }).checkBp p
    | some x =>
      let g := s.grant x.slot
      let a := g.base + b.ofs
      let n := b.data.length
      if b.ofs ≠ s.acked x then s
      else if s.landsActive a n ∨ (g.kind = 1 ∧ s.segActiveNow g.seg) then s.nackCommit x stActive
      else if s.landsFenced a n then (s.yieldRungs 2 5 (s.fenceOf a n) 1).nackCommit x stFenced
      else if s.landsBusy a n then s.landsWake a n
      else
        let s1 := (List.range ((n + 63) / 64)).foldl (fun t i =>
          match t.dramCh (a + 64 * i) with | some c => t.channelWake c | none => t) s
        let s2 := (s1.setPort p { q with buf := bs }).dramPut a b.data
        let s3 := s2.setGrant x.slot { g with ranges := g.ranges.map (fun r =>
          if r.a = x.a ∧ r.e = x.e then { r with acked := r.acked + n } else r) }
        (s3.committed x).checkBp p

/-- DATA_COMMIT. -/
def execDataCommit (pt : Fin 2) (s : State) : Host.Outcome State Fault Refusal :=
  if s.live && s.awake 0x22 then .next (s.dataCommit pt.val) else .next s

/-- ACK_TIMER (R262): TIME_US has passed for a commit that is unacknowledged. -/
def State.ackTimer (s : State) (x : Sess) : State := if x.due then s.sendAck0 x 0 stOk else s

/-- ACK_TIMER. -/
def execAckTimer (skey : Word) (s : State) : Host.Outcome State Fault Refusal :=
  match s.session skey.toNat with
  | none => .next s
  | some x => if s.live then .next (s.ackTimer x) else .next s

/-- SESSION_IDLE (R259). -/
def execSessionIdle (skey : Word) (s : State) : Host.Outcome State Fault Refusal :=
  match s.session skey.toNat with
  | none => .next s
  | some x => if s.live then .next (s.retire x 2) else .next s

/-! ### Outbound streams (R267–R269) -/

/-- A stream may send: OUTBOUND and EN are 1, and its destination's link and priority are free. -/
def State.streamOpen (s : State) (i : Nat) : Bool :=
  s.live && s.awake 0x22 && s.awake 0x23 && s.flag F.BAT_CTRL_EN && s.flag F.CAPT_CTRL_OUTBOUND &&
    match s.dest i with
    | some d => s.linkUp d.pt d.link && !s.txStopped d.pt d.link d.pcp
    | none => false

/-- Level of a bank's ring (R208). -/
def State.ringLvl (s : State) (b : Nat) : Nat :=
  let n := s.fld (F.CAPT_RING_SIZE_SIZE b)
  if n = 0 then 0 else (s.fld (F.CAPT_RING_WR_WR b) + n - s.fld (F.CAPT_RING_RD_RD b)) % n

/-- A stream has data. -/
def State.streamData (s : State) (i : Nat) : Bool :=
  if i = 0 then decide (0 < s.level 11) else decide (0 < s.ringLvl (i - 1))

/-- BAT_OSTAT.WAITING. -/
def State.waiting (s : State) : Nat :=
  (List.range 5).foldl (fun m i => putBit m i (s.flag F.CAPT_CTRL_OUTBOUND && s.streamData i && !s.streamOpen i)) 0

/-- Send one frame of a stream (R268). -/
def State.streamSend (s : State) (i type ofs : Nat) (body : List Byte) : State :=
  match s.dest i with
  | none => s
  | some d =>
    let h : BatHead := ⟨type, d.skey, d.epoch, body.length, ofs, i, 0, 0⟩
    (s.bump (F.BAT_OCNT_FRAMES i)).udpSend d.pt d.link d.pcp (if d.vlan then some (d.pcp, d.vid) else none) d.mac d.ip d.src
      d.port (batFrame h body)

/-- Largest outbound body in bytes. -/
def State.outMax (s : State) : Nat := 1024 * s.fld F.BAT_OUT_OUT_PAYLOAD_KIB

/-- Take `n` records from a queue. -/
def State.leaveN : Nat → Nat → State → State
  | 0, _, s => s
  | n + 1, i, s => State.leaveN n i (s.leave i)

/-- OUT_REC (R268). -/
def State.outRec (s : State) (corrected : Nat) (uncorr : Option (Fin 16)) : State :=
  let n := min (s.level 11) (s.outMax / 64)
  if !s.streamOpen 0 || decide (n = 0) then s
  else
    let body := ((s.getQ 11).recs.take n).flatMap recBytes
    let s1 := (State.leaveN n 11 s).addTo F.CAPQ_CNT_CORR_COUNT corrected
    let s2 := match uncorr with | some w => s1.eccBad 11 w.val | none => s1
    let s3 := s2.streamSend 0 0x10 (64 * s2.bat.recs) body
    { s3 with bat := { s3.bat with recs := s3.bat.recs + n } }

/-- OUT_REC. -/
def execOutRec (corrected : Nat) (uncorr : Option (Fin 16)) (s : State) : Host.Outcome State Fault Refusal :=
  .next (s.outRec corrected uncorr)

/-- OUT_RING (R268): a frame never crosses the end of the ring; RD advances by its length. It waits while a channel it reads serves
nothing (R241). -/
def State.outRing (s : State) (b : Nat) : State :=
  let size := s.fld (F.CAPT_RING_SIZE_SIZE b)
  let rd := s.fld (F.CAPT_RING_RD_RD b)
  let n := min (min (s.ringLvl b) (s.outMax / 64)) (size - rd)
  let a := s.getSel (0x2800 + b) + 64 * rd
  if !s.streamOpen (b + 1) || decide (n = 0) then s
  else if s.landsBusy a (64 * n) then s.landsWake a (64 * n)
  else
    let s1 := (List.range n).foldl (fun t i => match t.dramCh (a + 64 * i) with | some c => t.channelWake c | none => t) s
    let s2 := s1.streamSend (b + 1) 0x11 (64 * rd) (s1.dramBytes a (64 * n))
    s2.put (F.CAPT_RING_RD_RD b) ((rd + n) % size)

/-- OUT_RING. -/
def execOutRing (b : Fin 4) (s : State) : Host.Outcome State Fault Refusal := .next (s.outRing b.val)

/-! ### Registers -/

/-- BAT_CTRL.EN written 0 (R259, R271): every session is retired, the ingest buffers are discarded. -/
def State.engineOff (s : State) : State :=
  let s1 := s.bat.sess.foldl (fun t x => t.retire x 7) s
  let s2 := (List.range 2).foldl (fun t p => t.setPort p { t.netPort p with buf := [] }) s1
  s2.checkBps

/-- Locked bits of a register of BATON or NET, for a written value (R246, BAT_UDP, NETp_CTRL). -/
def State.netLocks (s : State) (a : Nat) (v : Word) : Word :=
  if a = 0xD0014 then (if s.flag F.BAT_CTRL_EN then 0xFFFF else 0)
  else if a % 0x1000 = 0 ∧ 0xE0000 ≤ a ∧ a < 0xF0000 then
    let en := getBits 0 1 (s.rd a) = 1
    if en then 6 else if getBits 1 2 v = 3 then 1 else 0
  else 0

/-- A buffered frame is lost with its port (R249): its session goes back to it, and the session's later frames are discarded (log 22). -/
def State.loseFrom (s : State) (key ofs : Nat) : State :=
  match s.session key with
  | none => s
  | some y =>
    let s1 := if ofs < y.rx then s.setSess { y with rx := ofs } else s
    (List.range 2).foldl (fun t p =>
      let x := t.netPort p
      t.setPort p { x with buf := x.buf.filter (fun b => decide (b.skey ≠ key) || decide (b.ofs < ofs)) }) s1

/-- A port is disabled (R249, R271): frames queued in it are lost; its domain sleeps unless the schedule owns it, and PD_BAT
with the last port. -/
def State.portOff (s : State) (p : Nat) : State :=
  let x := s.netPort p
  let s1 := s.setPort p { x with buf := [], tx := [], paused := [] }
  let s2 := x.buf.foldl (fun t b => t.loseFrom b.skey b.ofs) s1
  let s3 := ((s2.put (F.NET_STAT_LINK_UP p) 0).put (F.NET_STAT_READY p) 0).checkBps
  let s4 := { s3 with sup := { s3.sup with stay := putBit s3.sup.stay (0x20 + p) false } }
  (s4.trySleep (0x20 + p)).trySleep 0x22

/-- Outbound destinations on links that a port's MODE no longer has are cleared (R267). -/
def State.dropDests (s : State) (p : Nat) : State :=
  (List.range 5).foldl (fun t i => match t.dest i with
    | some d => if d.pt = p ∧ !linkExists (t.fld (F.NET_CTRL_MODE p)) d.link then t.setDest i none else t
    | none => t) s

/-- A write to NETp_CTRL whose locked fields keep their values. -/
def State.netCtrl (s : State) (p : Nat) (v : Word) : State :=
  let a := 0xE0000 + 0x1000 * p
  let was := s.flag (F.NET_CTRL_EN p)
  let s1 := (s.plain a v).dropDests p
  let now := s1.flag (F.NET_CTRL_EN p)
  if !was && now then s1.startWake (0x20 + p)
  else if was && !now then s1.portOff p
  else s1

/-- A BATON configuration write whose value is out of range is ignored (BAT_STAT.RANGE_ERR). -/
def State.batRange (s : State) (ok : Bool) (a : Nat) (v : Word) : State :=
  if ok then s.plain a v else s.raise F.BAT_STAT_RANGE_ERR

/-- A write to a register of BATON that has passed the checks of R276. -/
def State.batWrite (s : State) (a : Nat) (v : Word) : State :=
  let g := fun lo w => getBits lo w v
  match a with
  | 0xD0000 =>
    let was := s.flag F.BAT_CTRL_EN
    let s1 := s.plain a v
    if was && !s1.flag F.BAT_CTRL_EN then s1.engineOff else s1
  | 0xD0008 => s.batRange (decide (1 ≤ g 0 8) && decide (1 ≤ g 16 8)) a v
  | 0xD000C => s.batRange (decide (64 ≤ g 0 15) && decide (g 0 15 ≤ 16384)) a v
  | 0xD0010 => s.batRange (decide (1 ≤ g 0 16)) a v
  | 0xD0018 => (s.batRange (decide (1 ≤ g 0 14) && decide (g 0 14 ≤ 8192) && decide (g 16 14 < g 0 14)) a v).checkBps
  | 0xD001C => s.batRange (decide (1 ≤ g 0 4) && decide (g 0 4 ≤ 8) && decide (1 ≤ g 8 8)) a v
  | _ => s.plain a v

/-- A write to a register of NET. -/
def State.netWrite (s : State) (a : Nat) (v : Word) : State :=
  match a with
  | 0xE0000 => s.netCtrl 0 v
  | 0xE1000 => s.netCtrl 1 v
  | _ => s.plain a v

/-- A read of a register of BATON. -/
def State.batRead (s : State) (a : Nat) : Word :=
  let g := s.grant (s.fld F.BAT_GSEL_SLOT)
  match a with
  | 0xD0004 => setBits 0 14 (s.bat.sess.length + 2 ^ 13 * b2n ((s.netPort 0).bp.isSome || (s.netPort 1).bp.isSome)) (s.rd a)
  | 0xD0084 =>
    let att := (g.ranges.filter (fun r => s.attached (s.fld F.BAT_GSEL_SLOT) r)).length
    BitVec.ofNat 32 (g.kind + 4 * g.ranges.length + 2 ^ 7 * att + 2 ^ 16 * g.gens)
  | 0xD0088 => BitVec.ofNat 32 (g.done / 64)
  | 0xD00C0 => setBits 8 5 s.waiting (s.rd a)
  | _ => s.cfgRead a

end Sys2Proof.Machine
end

