-- ==== Sys2Proof/Machine/Crypto.lean ====
section
/-! DEFINITION. SHA-384 and ECDSA on P-384, which the checks of packages and slots use (R368, R370, R372). The spec cites
FIPS 186-5 and names the functions; their definitions are PRESUMED from FIPS 180-4 and 186-5 (log 15). -/

namespace Sys2Proof.Machine

/-! ### SHA-384 -/

/-- Integer k-th root by bisection: the largest `r` with r^k ≤ n, below 2^bits. -/
def rootOf (k n : Nat) : Nat → Nat → Nat
  | 0, r => r
  | b + 1, r => if (r + 2 ^ b) ^ k ≤ n then rootOf k n b (r + 2 ^ b) else rootOf k n b r

/-- A number is prime (trial division). -/
def primeB (n : Nat) : Bool := decide (2 ≤ n) && (List.range n).all (fun d => decide (d < 2) || decide (n % d ≠ 0))

/-- The first primes: 80 of them lie below 410. -/
def primes80 : List Nat := (List.range 410).filter primeB

/-- The round constants: the first 64 fraction bits of the cube roots of the first 80 primes. -/
def shaK : List DWord := primes80.map (fun p => BitVec.ofNat 64 (rootOf 3 (p * 2 ^ 192) 68 0))

/-- The initial hash value: the first 64 fraction bits of the square roots of the ninth to sixteenth primes. -/
def shaH0 : List DWord := ((primes80.drop 8).take 8).map (fun p => BitVec.ofNat 64 (rootOf 2 (p * 2 ^ 128) 68 0))

/-- The message of a hash, padded to whole 128-byte blocks. -/
def shaPad (m : List Byte) : List Byte :=
  let z := (111 + 128 - m.length % 128) % 128
  m ++ [0x80#8] ++ List.replicate z 0 ++ (leBytes 16 (8 * m.length)).reverse

/-- The big-endian 64-bit words of a byte list. -/
def dwordsOf : Nat → List Byte → List DWord
  | 0, _ => []
  | k + 1, b => BitVec.ofNat 64 (leNat (b.take 8).reverse) :: dwordsOf k (b.drop 8)

/-- Extend a message schedule by `k` words; the words stand latest first. -/
def shaExtend : Nat → List DWord → List DWord
  | 0, w => w
  | k + 1, w =>
    let x2 := w.getD 1 0
    let x15 := w.getD 14 0
    let s1 := x2.rotateRight 19 ^^^ x2.rotateRight 61 ^^^ (x2 >>> 6)
    let s0 := x15.rotateRight 1 ^^^ x15.rotateRight 8 ^^^ (x15 >>> 7)
    shaExtend k ((s1 + w.getD 6 0 + s0 + w.getD 15 0) :: w)

/-- One round on the eight working variables. -/
def shaRound (h : List DWord) (kw : DWord × DWord) : List DWord :=
  let v := fun i => h.getD i 0
  let t1 := v 7 + ((v 4).rotateRight 14 ^^^ (v 4).rotateRight 18 ^^^ (v 4).rotateRight 41) +
    ((v 4 &&& v 5) ^^^ (~~~(v 4) &&& v 6)) + kw.1 + kw.2
  let t2 := ((v 0).rotateRight 28 ^^^ (v 0).rotateRight 34 ^^^ (v 0).rotateRight 39) +
    ((v 0 &&& v 1) ^^^ (v 0 &&& v 2) ^^^ (v 1 &&& v 2))
  [t1 + t2, v 0, v 1, v 2, v 3 + t1, v 4, v 5, v 6]

/-- One block. -/
def shaBlock (h : List DWord) (b : List Byte) : List DWord :=
  let w := (shaExtend 64 (dwordsOf 16 b).reverse).reverse
  let r := (shaK.zip w).foldl shaRound h
  (List.range 8).map (fun i => h.getD i 0 + r.getD i 0)

/-- The blocks of a padded message. -/
def shaBlocks : Nat → List DWord → List Byte → List DWord
  | 0, h, _ => h
  | k + 1, h, b => shaBlocks k (shaBlock h (b.take 128)) (b.drop 128)

/-- The SHA-384 digest of a byte list, 48 bytes. -/
def sha384 (m : List Byte) : List Byte :=
  let p := shaPad m
  ((shaBlocks (p.length / 128) shaH0 p).take 6).flatMap (fun w => (leBytes 8 w.toNat).reverse)

/-! ### ECDSA on P-384 -/

/-- The field prime, the order of the base point, the coefficient b and the base point of P-384. -/
def p384 : Nat := 2 ^ 384 - 2 ^ 128 - 2 ^ 96 + 2 ^ 32 - 1

@[inherit_doc p384] def n384 : Nat :=
  0xFFFFFFFFFFFFFFFFFFFFFFFFFFFFFFFFFFFFFFFFFFFFFFFFC7634D81F4372DDF581A0DB248B0A77AECEC196ACCC52973

@[inherit_doc p384] def b384 : Nat :=
  0xB3312FA7E23EE7E4988E056BE3F82D19181D9C6EFE8141120314088F5013875AC656398D8A2ED19D2A85C8EDD3EC2AEF

@[inherit_doc p384] def g384 : Nat × Nat :=
  (0xAA87CA22BE8B05378EB1C71EF320AD746E1D3B628BA79B9859F741E082542A385502F25DBF55296C3A545E3872760AB7,
   0x3617DE4A96262C6F5D9E98BF9292DC29F8F41DBD289A147CE9DA3113B5F0B8C00A60B1CE1D7E819D7A431D7C90EA0E5F)

/-- a^e modulo m, over the bits of e below 2^k. -/
def powMod (m a e : Nat) : Nat → Nat
  | 0 => 1 % m
  | k + 1 =>
    let h := powMod m a (e / 2) k
    let q := h * h % m
    if e % 2 = 1 then q * a % m else q

/-- The inverse modulo a prime. -/
def invMod (m a : Nat) : Nat := powMod m (a % m) (m - 2) 384

/-- Difference modulo m. -/
def subMod (m a b : Nat) : Nat := (a % m + m - b % m) % m

/-- Addition of points of the curve; `none` is the point at infinity. -/
def ecAdd (x y : Option (Nat × Nat)) : Option (Nat × Nat) :=
  match x, y with
  | none, q => q
  | p, none => p
  | some (x1, y1), some (x2, y2) =>
    if x1 = x2 ∧ (y1 + y2) % p384 = 0 then none
    else
      let l := if x1 = x2 then (3 * x1 * x1 + p384 - 3) * invMod p384 (2 * y1) % p384
        else subMod p384 y2 y1 * invMod p384 (subMod p384 x2 x1) % p384
      let x3 := subMod p384 (l * l) (x1 + x2)
      some (x3, subMod p384 (l * subMod p384 x1 x3) y1)

/-- A multiple of a point, over the bits of the factor below 2^k. -/
def ecMul (q : Option (Nat × Nat)) (e : Nat) : Nat → Option (Nat × Nat)
  | 0 => none
  | k + 1 =>
    let h := ecMul q (e / 2) k
    let d := ecAdd h h
    if e % 2 = 1 then ecAdd d q else d

/-- A point lies on the curve. -/
def onCurve (x y : Nat) : Bool :=
  decide (x < p384) && decide (y < p384) && decide (y * y % p384 = (x * x * x + (p384 - 3) * x + b384) % p384)

/-- ECDSA verification of a digest under a public key and a signature (FIPS 186-5), all as numbers. -/
def ecdsaOk (z x y r s : Nat) : Bool :=
  onCurve x y && decide (0 < r) && decide (r < n384) && decide (0 < s) && decide (s < n384) &&
    (let w := invMod n384 s
     match ecAdd (ecMul (some g384) (z * w % n384) 384) (ecMul (some (x, y)) (r * w % n384) 384) with
     | some (x1, _) => decide (x1 % n384 = r)
     | none => false)

end Sys2Proof.Machine
end

