-- ==== Sys2Proof/Machine/Dram.lean ====
section
/-! DEFINITION. The LPDDR6 controller (R225–R245): refresh, self-refresh, power-down, training, retraining, fencing, and the
DRAM registers. -/

namespace Sys2Proof.Machine

/-- A channel is enabled, awake and serves requests. -/
def State.chServes (s : State) (c : Nat) : Bool :=
  s.enabled.contains c && s.awake (0x18 + c) && !s.fenced c && !s.flag (retrainBit c) && !s.flag (selfRef c)

/-- A channel's contents become undefined. -/
def State.loseChannel (s : State) (c : Nat) : State :=
  let d := s.dch c
  let s1 := s.setDch c { d with epoch := d.epoch + 1, resTop := 0 }
  { s1 with mem := { s1.mem with dram := s1.mem.dram.filter (fun x => decide (x.1 / 2 ^ 34 ≠ c)) } }

/-- A segment's lanes whose data lie on a channel: the tracks that touch it (R106). -/
def State.lanesOn (s : State) (n k c : Nat) : List Nat :=
  let ls := s.lanesOf n
  let len := 16 * (s.seg k).slen16
  (List.range ls.length).filter (fun j =>
    let a := 64 * (s.seg k).base + trackStart ls len j
    let b := 64 * (s.seg k).base + trackStart ls len (j + 1)
    (List.range ((b - a) / 64 + 2)).any (fun g =>
      let x := a + 64 * g
      decide (x - x % 64 < b) && (s.dramLocs (x - x % 64)).any (fun l => decide (l.1 = c))))

/-- The lanes of segment `k` on channel `c` lack data from heat tick `t` on (R105, R106). -/
def State.fenceGaps (s : State) (n k c t : Nat) : State :=
  let new := (s.lanesOn n k c).filter (fun j => ((s.sqn n).gapAt j t).isNone)
  let s1 := new.foldl (fun u j => ((u.gapBegin n j t 48).raise (F.SQ_FLAGS_UNDERRUN n)).sqRec n 0x08 (j + 2 ^ 16 * 48) t) s
  if new.isEmpty then s1 else s1.pulseSrc 0x53

/-- A FALLBACK outcome decided before the fence whose segment it reaches is a stop at rest instead (R106). -/
def State.fenceDec (s : State) (d : Dec) (n : Nat) : Dec :=
  match d.c with
  | .fallback (some e) cause sc => if s.segFenced (s.entry n e).seg then { d with c := .fallback none cause sc } else d
  | _ => d

/-- A fence finds SQn (R106): where its visit plays a DRAM segment on the channel, the affected lanes lack data from the next tick boundary
and the FALLBACK outcome is decided there. So does a visit decided before the fence and yet to begin, with its own FALLBACK and from its
first tick; a FALLBACK decided before serves, where its own segment is not fenced: both DEDUCED (log 30). -/
def State.fenceSq (s : State) (n c : Nat) : State :=
  if !s.runOrPaused n then s
  else
    let t := s.tm.heat + 1
    let q := s.sqn n
    let now := match q.visit with
      | some v => if q.hold.isNone && decide (v.f ≤ t) && s.segTouches (s.entry n v.entry).seg c then some v.entry else none
      | none => none
    let next := q.next.findSome? (fun d => match d.c with
      | .visit e _ => if s.segTouches (s.entry n e).seg c then some (e, d.o) else none
      | _ => none)
    let s1 := match now with | some e => s.fenceGaps n (s.entry n e).seg c t | none => s
    let s2 := match next with | some x => s1.fenceGaps n (s.entry n x.1).seg c (max t x.2) | none => s1
    let s3 := s2.setSq n { s2.sqn n with next := (s2.sqn n).next.map (fun d => s2.fenceDec d n) }
    let fell := q.next.any (fun d => match d.c with | .fallback _ _ _ => true | _ => false)
    match next, now with
    | some x, _ => if fell then s3 else s3.fallbackOf n x.1 (t + 48) 3 3
    | none, some e => if fell then s3 else s3.fallbackOf n e (t + 48) 3 3
    | none, none => s3

/-- Fetches of the segment readers that wait for a channel. -/
def State.fetchesOn (s : State) (c : Nat) : Nat :=
  ((List.range 8).map (fun n => onCh (s.sqn n).want c + onCh (s.sqn n).tail c)).sum

/-- A channel is fenced (R242, R106, R228): what the readers and the prefetcher ask of it is refused. -/
def State.fence (s : State) (c cause : Nat) : State :=
  let s1 := (((s.put (fencedBit c) 1).put (trainedBit c) 0).put (retrainBit c) 0).put (selfRef c) 0
  let s2 := (((s1.put (awakeBit (0x18 + c)) 0).raise F.DRAM_FLAGS_FENCE_EV).eventNow 0x15 0x03 (c + 2 ^ 8 * cause)).log
    0x15 0x01 1 c cause
  let s3 := (s2.setDch c { s2.dch c with owed := 0, pd := false, extra := 0 }).yieldRungs 2 3 c (s2.fetchesOn c)
  let s4 := (List.range 8).foldl (fun t n =>
    let q := t.sqn n
    let ok := fun i => !t.stgSeg i (fun k => t.blockFenced k)
    t.setSq n { q with loads := q.loads.filter ok, late := q.late.filter ok }) (s3.refuseFetches c)
  let s5 := if s4.flag F.PLAN_STAT_PRESENT then s4.heatSqs.foldl (fun t n => t.fenceSq n c) s4
    else if s4.plan.writing then s4
    else s4.remap s4.freeMapped
  s5.loseChannel c

/-- A DRAM command completes (R14). -/
def State.dramDone (s : State) (st : Nat) : State :=
  let s1 := (s.put F.DRAM_TRAIN_STATUS st).put F.DRAM_TRAIN_BUSY 0
  { s1 with dram := { s1.dram with job := .idle } }

/-- A DRAM command begins. -/
def State.dramBegin (s : State) (j : DramJob) : State :=
  let s1 := s.put F.DRAM_TRAIN_BUSY 1
  { s1 with dram := { s1.dram with job := j } }

/-- The result of a training is the channel's last known good setting (R239): 32 words that the unit finds, free values. -/
def State.newLkg (s : State) (c : Nat) : State :=
  let ws := (List.range 32).map (fun i => BitVec.ofNat 32 (Config.freeNat (s.free + i)))
  { s.setDch c { s.dch c with lkg := ws } with free := s.free + 32 }

/-- A channel trains (R239): its setting is stored, it is in service, and leaves any fenced state. -/
def State.trained (s : State) (c : Nat) : State :=
  let s1 := if s.flag (selfRef c) then s.leaveSelfRef c else s
  (((s1.newLkg c).put (trainedBit c) 1).put (fencedBit c) 0).put (awakeBit (0x18 + c)) 1

/-- DRAM_TRAIN.TRAIN (R239). -/
def State.trainCmd (s : State) : State :=
  if s.flag F.PLAN_STAT_PRESENT then s.put F.DRAM_TRAIN_STATUS stState else s.dramBegin (.train (s.fld F.DRAM_TRAIN_RATE))

/-- The mapped set follows the channels in service while no plan is loaded or being written (R228). -/
def State.remapFree (s : State) : State := if s.flag F.PLAN_STAT_PRESENT ∨ s.plan.writing then s else s.remap s.freeMapped

/-- Full training of every enabled channel at rate code `rate` ends (R239). -/
def State.trainEnd (s : State) (rate : Nat) (ok : List Bool) : State :=
  let s0 := { s with dram := { s.dram with rate := some rate } }
  let s1 := s0.enabled.foldl (fun t c =>
    if ok.getD c false then t.trained c
    else if t.fenced c then t
    else t.fence c 2) s0
  s1.remapFree

/-- The other channel of a mirrored pair (R227). -/
def State.partner (s : State) (c : Nat) : Option Nat :=
  let i := s.enabled.findIdx (fun x => decide (x = c))
  s.enabled[if i % 2 = 0 then i + 1 else i - 1]?

/-- A reserve copy is rewritten from its partner (R243). -/
def State.rewriteReserve (s : State) (c : Nat) : State :=
  match s.partner c with
  | none => s
  | some q =>
    let p := s.dch q
    let top := s.share
    let s1 := s.setDch c { s.dch c with
      resTop := top, resCh := if p.resTop = 0 then q else p.resCh, resEpoch := if p.resTop = 0 then p.epoch else p.resEpoch }
    let src := (s1.mem.dram.filter (fun x => decide (x.1 / 2 ^ 34 = q) && decide (x.1 % 2 ^ 34 < top))).map
      (fun x => (c * 2 ^ 34 + x.1 % 2 ^ 34, x.2))
    let rest := s1.mem.dram.filter (fun x => decide (x.1 / 2 ^ 34 ≠ c))
    { s1 with mem := { s1.mem with dram := src.foldl (fun m x => Sp.set s1.dramDef m x.1 x.2) rest } }

/-- UNFENCE ends (R243): where it fails the channel stays fenced, with a FENCE record of cause 3 (R244). -/
def State.unfenceEnd (s : State) (c : Nat) (ok : Bool) : State :=
  if ok then
    let s1 := s.trained c
    let s2 := if s1.flag F.DRAM_CFG_RES_MIRROR then s1.rewriteReserve c else s1
    s2.remapFree.dramDone stOk
  else (s.eventNow 0x15 0x03 (c + 2 ^ 8 * 3)).dramDone stFenced

/-- DRAM_TRAIN.UNFENCE (R243). -/
def State.unfenceCmd (s : State) : State :=
  let c := s.fld F.DRAM_TRAIN_CH
  if s.flag F.PLAN_STAT_PRESENT || !s.fenced c then s.put F.DRAM_TRAIN_STATUS stState else s.dramBegin (.unfence c)

/-- TRAIN_DONE: a full training ends; none runs without the DRAM PLL (R32). -/
def execTrainDone (ok : List Bool) (s : State) : Host.Outcome State Fault Refusal :=
  if !s.live || !s.refOk then .next s
  else match s.dram.job with
    | .train rate =>
      let s1 := s.trainEnd rate ok
      .next (s1.dramDone (if s1.enabled.any (fun c => s1.fenced c) then stFenced else stOk)).noteLevels
    | .unfence c => .next (s.unfenceEnd c (ok.getD c false)).noteLevels
    | _ => .next s

/-- A retraining begins (R240): the channel serves nothing, so it is out of service. Without a source of the DRAM PLL it stays in self-refresh
until there is one (R32). -/
def State.retrainBegin (s : State) (c : Nat) : State :=
  let s1 := if s.flag (selfRef c) && s.refOk then s.leaveSelfRef c else s
  ((s1.put (retrainBit c) 1).put (trainedBit c) 0).setDch c { s1.dch c with pd := false }

/-- DRAM_TRAIN.RETRAIN (R240). -/
def State.retrainCmd (s : State) : State :=
  let c := s.fld F.DRAM_TRAIN_CH
  let h := s.fld F.SEQ_STAT_HEAT
  if !s.enabled.contains c then s.put F.DRAM_TRAIN_STATUS stRange
  else if 2 ≤ h ∧ h ≤ 4 then s.put F.DRAM_TRAIN_STATUS stState
  else if s.fenced c then s.put F.DRAM_TRAIN_STATUS stFenced
  else if s.flag (retrainBit c) then s.put F.DRAM_TRAIN_STATUS stBusy
  else (s.retrainBegin c).dramBegin (.retrain c)

/-- TRACKING_DRIFT (R240). -/
def execTrackingDrift (c : Fin 8) (s : State) : Host.Outcome State Fault Refusal :=
  if s.live && s.chServes c.val then .next (s.retrainBegin c.val) else .next s

/-- A retraining ends (R240): a new setting, the last known good one, or a fence. -/
def State.retrainEnd (s : State) (c : Nat) (newOk lkgOk : Bool) : State :=
  let s0 := if s.flag (selfRef c) then s.leaveSelfRef c else s
  let s1 := (s0.put (retrainBit c) 0).put (trainedBit c) (b2n (newOk || lkgOk))
  let s2 :=
    if newOk then ((s1.newLkg c).bump F.DRAM_RETRAIN_RETRAIN_COUNT).log 0x15 0x02 0 c 0
    else if lkgOk then ((s1.bump F.DRAM_RETRAIN_RETRAIN_COUNT).bump F.DRAM_RETRAIN_LKG_COUNT).log 0x15 0x02 0 c 1
    else s1.fence c 0
  if s2.dram.job = .retrain c then s2.dramDone (if newOk || lkgOk then stOk else stFenced) else s2

/-- DRAM_TRAIN.SAVE (R239, R304): every enabled channel that has a last known good setting. -/
def State.dramSaveCmd (s : State) : State :=
  let ws := (s.enabled.filter (fun c => !(s.dch c).lkg.isEmpty)).flatMap (fun c =>
    (List.range 32).map (fun i => (384 + 32 * c + i, (s.dch c).lkg.getD i 0)))
  let s1 := s.beginSave F.DRAM_TRAIN_BUSY F.DRAM_TRAIN_STATUS ws
  if s1.flag F.DRAM_TRAIN_BUSY then { s1 with dram := { s1.dram with job := .save } } else s1

/-- A command of DRAM_TRAIN. -/
def dramRun (i : Nat) (s : State) : State :=
  match i with
  | 8 => s.trainCmd
  | 9 => s.retrainCmd
  | 10 => s.unfenceCmd
  | _ => s.dramSaveCmd

/-- Locked bits of a DRAM register: RATE while a plan is loaded. -/
def State.dramLocks (s : State) (a : Nat) : Word := if a = 0xB0008 ∧ s.flag F.PLAN_STAT_PRESENT then 7 else 0

/-- A DRAM configuration write: out of range it is ignored. -/
def State.dramRange (s : State) (ok : Bool) (a : Nat) (v : Word) : State :=
  if ok then s.plain a v else s.raise F.DRAM_FLAGS_RANGE_ERR

/-- A write to a register of DRAM that has passed the checks of R276. -/
def State.dramRegWrite (s : State) (a : Nat) (v : Word) : State :=
  match a with
  | 0xB0008 =>
    let s1 := s.plain a v
    s1.command F.DRAM_TRAIN_STATUS (s1.flag F.DRAM_TRAIN_BUSY) [8, 9, 10, 11] v dramRun
  | 0xB000C => s.dramRange (decide (8 ≤ getBits 0 6 v)) a v
  | 0xB0010 => s.dramRange (decide (1 ≤ getBits 0 4 v) && decide (getBits 0 4 v ≤ Config.postLimit)) a v
  | 0xB0018 => s.dramRange (decide (1 ≤ getBits 0 20 v) && decide (getBits 0 20 v ≤ 1000000)) a v
  | _ => s.plain a v

/-- A sequencer's port has a lead (R232): the visit it plays takes some tick from DRAM, not from track memory or from a starting block,
which covers the first 256 ticks of the first lap. -/
def State.hasLead (s : State) (n : Nat) : Bool :=
  match (s.sqn n).visit with
  | none => false
  | some v =>
    let x := s.entry n v.entry
    s.runOrPaused n && s.segInDram x.seg &&
      (v.blk.isNone || decide (256 < x.len) || decide (x.laps ≠ 1) || decide (0 < s.fld (F.SQ_POS_EXT n)))

/-- Where a port's lead lies at least and at most (R232, R233): up to LOOKAHEAD; at least 64 while no running fetch waits, whatever is left
of a tail (R141), and the port is not in panic; at MARK or more outside panic; below MARK + 16 within. -/
def State.leadSpan (s : State) (n : Nat) : Nat × Nat :=
  let mark := s.fld F.DRAM_PANIC_MARK
  if s.flag (F.DRAM_PORT_PANIC n) then (0, min s.plan.look (mark + 15))
  else (min s.plan.look (if (s.sqn n).want.isEmpty then 64 else mark), s.plan.look)

/-- The lead of a port as read now: within its span no finer value is promised, a free value (log 7); in a pause it does not fall. -/
def State.leadNow (s : State) (n : Nat) : Nat :=
  let w := s.leadSpan n
  max (w.1 + Config.freeNat s.free % (w.2 + 1 - w.1)) ((s.sqn n).lead.getD 0)

/-- A read of a register of DRAM. -/
def State.dramRegRead (s : State) (a : Nat) : Word × State :=
  if 0xB0100 ≤ a ∧ a < 0xB0120 then
    let n := (a - 0xB0100) / 4
    if s.hasLead n then
      let l := s.leadNow n
      let s1 := if s.sqState n = sqPaused then s.setSq n { s.sqn n with lead := some l } else s
      (setBits 17 1 0 (setBits 0 16 l (s.rd a)), s1.takeFree)
    else (setBits 17 1 1 (setBits 0 16 0 (s.rd a)), s)
  else (s.cfgRead a, s)

/-! ### Refresh -/

/-- A refresh command is issued to a channel. -/
def State.refresh (s : State) (c : Nat) : State := s.setDch c { s.dch c with refs := (s.dch c).refs + 1 }

/-- Some port is in panic. -/
def State.anyPanic (s : State) : Bool := (List.range 8).any (fun n => s.flag (F.DRAM_PORT_PANIC n))

/-- Code of a channel's refresh-rate report (DRAM_TEMP). -/
def tempFld (c : Nat) : Fld := ⟨0xB0014, 2 * c, 2⟩

/-- Multiple of the base refresh rate for a report (R236). -/
def multOf (code : Nat) : Nat :=
  match code with
  | 0 => 1 | 1 => 2 | 2 => 4 | _ => Config.maxRefMult

/-- The multiple at which a channel refreshes (R236): the highest rate where the DRAM is beyond its operating range. -/
def State.refMult (s : State) (c : Nat) : Nat :=
  if (s.dch c).beyond then max (multOf (s.fld (tempFld c))) Config.maxRefMult else multOf (s.fld (tempFld c))

/-- Why a refresh is forced (R244): what waits on the channel, a panic fetch before an unplanned one, else the temperature. -/
def State.forceCause (s : State) (c : Nat) : Nat :=
  if (List.range 8).any (fun n => s.flag (F.DRAM_PORT_PANIC n) && decide (0 < onCh (s.sqn n).want c + onCh (s.sqn n).tail c)) then 1
  else if (List.range 8).any (fun n => decide (0 < s.openOn n c)) then 0
  else if s.plan.refMult < s.refMult c then 2 else 0

/-- The oldest owed refresh is forced (R235), and the fetches that wait on the channel yield to it (R165). -/
def State.forceRefresh (s : State) (c : Nat) : State :=
  let n := (s.dch c).owed
  ((((s.refresh c).bump F.DRAM_CNT_FORCED_COUNT).raise F.DRAM_FLAGS_REF_FORCED).eventNow 0x15 0x02
    (c + 2 ^ 8 * n + 2 ^ 16 * s.forceCause c)).yieldRungs 2 3 c (s.fetchesOn c)

/-- One more refresh becomes owed (R234): at POST_MAX the oldest is forced. -/
def State.owe (s : State) (c : Nat) : State :=
  if s.fld F.DRAM_REF_POST_MAX ≤ (s.dch c).owed then s.forceRefresh c
  else s.setDch c { s.dch c with owed := (s.dch c).owed + 1 }

/-- OWED_REFRESH (R235). -/
def execOwedRefresh (c : Fin 8) (s : State) : Host.Outcome State Fault Refusal :=
  if s.live && s.chServes c.val && decide (0 < (s.dch c.val).owed) && decide (s.fetchesOn c.val = 0) then
    let d := s.dch c.val
    .next ((s.setDch c.val { d with owed := d.owed - 1 }).refresh c.val)
  else .next s

/-- REFRESH_FORCED (R235): one more refresh falls due at POST_MAX. -/
def execRefreshForced (c : Fin 8) (s : State) : Host.Outcome State Fault Refusal :=
  if s.live && s.enabled.contains c.val && !s.fenced c.val && decide (s.fld F.DRAM_REF_POST_MAX ≤ (s.dch c.val).owed) then
    .next (s.forceRefresh c.val)
  else .next s

/-- A refresh falls due in free mode (R146): issued, or owed while the channel retrains (R241). -/
def State.freeRefresh (s : State) (c : Nat) : State :=
  if s.fld F.SEQ_STAT_HEAT = 3 then s
  else if s.chServes c then s.refresh c
  else if s.enabled.contains c && s.flag (retrainBit c) && !s.fenced c then s.owe c
  else s

/-- FREE_MODE_REFRESH, with the yields that free mode has seen since the last (R146, R165). -/
def execFreeModeRefresh (x : FreeRefresh) (s : State) : Host.Outcome State Fault Refusal :=
  if s.live then .next ((s.freeRefresh x.c.val).yieldsOf (if s.fld F.SEQ_STAT_HEAT = 3 then [] else x.waited)) else .next s

/-- A channel's refresh-rate report (R236). -/
def State.tempReport (s : State) (c code : Nat) (beyond : Bool) : State :=
  let s1 := (s.put (tempFld c) code).setDch c { s.dch c with beyond := beyond }
  if code = 3 ∨ beyond then (s1.raise F.DRAM_FLAGS_HOT).log 0x15 0x03 1 c code else s1

/-- DRAM_TEMP_POLL (R236). -/
def execDramTempPoll (mult : List Nat) (beyond : List Bool) (s : State) : Host.Outcome State Fault Refusal :=
  if s.live then
    .next ((s.enabled.filter (fun c => s.chServes c)).foldl (fun t c =>
      t.tempReport c (min (mult.getD c 0) 3) (beyond.getD c false)) s)
  else .next s

/-! ### Self-refresh and power-down -/

/-- A channel may enter self-refresh (R237): nothing owns or keeps its domain, no refresh is owed, no fetch waits, no training is
pending. -/
def State.chIdle (s : State) (c : Nat) : Bool :=
  s.chServes c && !bitOf s.sup.owned (0x18 + c) && !bitOf s.sup.stay (0x18 + c) && decide ((s.dch c).owed = 0)
    && decide (s.fetchesOn c = 0) && decide (s.dram.job = .idle ∨ s.dram.job = .save)

/-- Every other awake member of a channel's group may sleep with it (R25): another channel is idle itself. -/
def State.matesIdle (s : State) (c : Nat) : Bool :=
  (s.groupOf (0x18 + c)).all (fun e => decide (e = 0x18 + c) || !s.awake e ||
    (if 0x18 ≤ e ∧ e ≤ 0x1F then s.chIdle (e - 0x18) else s.maySleep e))

/-- SELF_REFRESH_ENTRY (R237): the channel's domain sleeps, with its group (R25). -/
def execSelfRefreshEntry (c : Fin 8) (s : State) : Host.Outcome State Fault Refusal :=
  if s.live && s.chIdle c.val && s.matesIdle c.val then
    .next ((((s.eventNow 0x15 0x04 (c.val + 2 ^ 32 * s.fld F.DRAM_SR_IDLE_US)).put (selfRef c.val) 1).sleepDom (0x18 + c.val)))
  else .next s

/-- POWER_DOWN_ENTRY (R238). -/
def execPowerDownEntry (c : Fin 8) (s : State) : Host.Outcome State Fault Refusal :=
  if s.live && s.chServes c.val && !bitOf s.sup.owned (0x18 + c.val) && decide (s.fetchesOn c.val = 0) then
    .next (s.setDch c.val { s.dch c.val with pd := true })
  else .next s

/-! ### Panic -/

/-- PANIC_ENTRY (R233). -/
def execPanicEntry (n : Fin 8) (lead : BitVec 16) (s : State) : Host.Outcome State Fault Refusal :=
  if s.live && s.hasLead n.val && !s.flag (F.DRAM_PORT_PANIC n.val) && decide (lead.toNat < s.fld F.DRAM_PANIC_MARK) then
    let s1 := ((s.raise (F.DRAM_PORT_PANIC n.val)).bump F.DRAM_CNT_PANIC_COUNT).raise F.DRAM_FLAGS_PANIC_SEEN
    .next (s1.eventNow 0x15 0x01 (n.val + 2 ^ 32 * lead.toNat)).noteLevels
  else .next s

/-- PANIC_EXIT (R233): the lead has reached MARK + 16, or there is none. -/
def execPanicExit (n : Fin 8) (lead : Option (BitVec 16)) (s : State) : Host.Outcome State Fault Refusal :=
  let out := match lead with
    | some l => decide (s.fld F.DRAM_PANIC_MARK + 16 ≤ l.toNat)
    | none => !s.hasLead n.val
  if s.live && s.flag (F.DRAM_PORT_PANIC n.val) && out then
    let l := match lead with | some l => l.toNat | none => 0
    .next ((s.put (F.DRAM_PORT_PANIC n.val) 0).eventNow 0x15 0x01 (n.val + 2 ^ 8 + 2 ^ 32 * l)).noteLevels
  else .next s

/-- RES_ERR (R229, R321): a management fault. -/
def execResErr (c : Fin 8) (unreachable : Bool) (addr : BitVec 48) (s : State) : Host.Outcome State Fault Refusal :=
  if s.live && s.enabled.contains c.val && (!unreachable || s.fenced c.val) then
    let s1 := if unreachable then s else s.raise F.DRAM_ECC_UNCORR
    .next (s1.resErr c.val (b2n unreachable) addr.toNat)
  else .next s

end Sys2Proof.Machine
end

