-- ==== Sys2Proof/Machine/PlanCheck.lean ====
section
/-! DEFINITION. The plan image (R131–R135) and the checks of the plan loader (R136–R161). A candidate state, the device with
the image's courses, directory and lists placed as the write pass would place them, is what the content checks look at. -/

namespace Sys2Proof.Machine

/-! ### The image -/

/-- A record of the section directory (R134). -/
structure Sect where
  type : Nat
  ofs : Nat
  len : Nat
  crc : Nat
  zero : Bool
  deriving DecidableEq, Repr

/-- The section directory of an image. -/
def sectsOf (b : List Byte) : List Sect :=
  (List.range (leField b 6 2)).map (fun i =>
    let o := 128 + 16 * i
    ⟨leField b o 2, leField b (o + 4) 4, leField b (o + 8) 4, leField b (o + 12) 4, decide (leField b (o + 2) 2 = 0)⟩)

/-- The bytes of a section. -/
def Sect.data (b : List Byte) (x : Sect) : List Byte := (b.drop x.ofs).take x.len

/-- The section of a type, if the image has one. -/
def sectOf (b : List Byte) (type : Nat) : Option (List Byte) :=
  ((sectsOf b).find? (fun x => decide (x.type = type))).map (Sect.data b)

/-- The bytes of a section, empty where it is absent. -/
def sectD (b : List Byte) (type : Nat) : List Byte := (sectOf b type).getD []

/-- A refused load (R161, R163): its status, step, section type, and the entry or record with its sequencer. -/
structure Refused where
  status : Nat
  step : Nat
  sect : Nat
  pos : Option (Nat × Nat)
  deriving DecidableEq, Repr

/-- A bus-width word of a section. -/
def wordAt (b : List Byte) (i : Nat) : Word := BitVec.ofNat 32 (leField b (4 * i) 4)

/-- Records of 16 bytes in a section. -/
def recs16 (b : List Byte) : List (List Byte) := (List.range (b.length / 16)).map (fun i => (b.drop (16 * i)).take 16)

/-- A wake record (R153). -/
def wakeOf (r : List Byte) : WakeRec :=
  ⟨leField r 0 6, leField r 6 1, decide (leField r 7 1 = 1), leField r 8 2, leField r 10 6⟩

/-- A starting-block record (R148). -/
def stgOf (r : List Byte) : StgRec := ⟨leField r 0 2, leField r 2 1, leField r 3 1, leField r 4 4, leField r 8 4⟩

/-! ### Placing a plan -/

/-- The words of the descriptors as the loader writes them (R162): READY from the image, and 1 of a segment that is not refillable
(R62); GEN cleared. -/
def dirWords (b : List Byte) : List Word :=
  (List.range (b.length / 4)).map (fun i =>
    let w := wordAt b i
    match i % 4 with
    | 0 => w
    | 1 => if getBits 1 1 w = 0 ∧ getBits 8 24 w ≠ 0 then setBits 2 1 1 w else w
    | _ => 0)

/-- Course memory with the courses of an image. -/
def placeCourses (b : List Byte) : Sp Word :=
  (List.range 8).foldl (fun m n => Sp.setMany (fun _ => (0 : Word)) m (524288 * n) (wordsOf (sectD b (0x10 + n)))) []

/-- The plan's lists (R139, R148, R153). -/
def planOf (b : List Byte) : Plan where
  dcMask := leField b 49 1
  refMult := leField b 51 1
  look := leField b 54 2
  rows := leField b 56 2
  wakeLead := leField b 60 4
  lanes := Sp.setMany (fun _ => 255) [] 0 ((sectD b 1).map (fun x => x.toNat))
  starts := Sp.setMany (fun _ => 0xFFFF) [] 0 ((List.range 128).map (fun i => leField (sectD b 5) (2 * i) 2))
  tl := Sp.setMany (fun _ => (0 : Byte)) [] 0 (sectD b 6)
  wake := (recs16 (sectD b 7)).map wakeOf
  stg := (recs16 (sectD b 9)).map stgOf
  grp := (List.range 8).foldl (fun m n => Sp.setMany (fun _ => 0) m (65536 * n)
    ((sectD b (0x20 + n)).map (fun x => x.toNat))) []
  crsLen := (List.range 8).foldl (fun m n => Sp.set (fun _ => 0) m n ((sectD b (0x10 + n)).length / 32)) []

/-- The event map takes an image's. -/
def State.placeEvents (s : State) (b : List Byte) : State :=
  (List.range 64).foldl (fun t n => t.wr (0x30100 + 4 * n) (wordAt (sectD b 3) n)) s

/-- The pennant map takes an image's. -/
def State.placePens (s : State) (b : List Byte) : State :=
  (List.range 32).foldl (fun t n => t.wr (0x30400 + 16 * n)
    (setBits 0 16 (leField (sectD b 4) (4 * n) 2) (t.rd (0x30400 + 16 * n)))) s

/-- The profile tables of the clusters that are present take an image's. -/
def State.placeProfs (s : State) (b : List Byte) : State :=
  match sectOf b 0x0B with
  | none => s
  | some p =>
    let pr := (List.range 64).foldl (fun m c =>
      if s.hasK (c / 8) then Sp.setMany (fun _ => (0 : Word)) m (256 * c) (wordsOf ((p.drop (1024 * c)).take 1024)) else m)
      s.mem.prof
    { s with mem := { s.mem with prof := pr } }

/-- Course memory, the directory, the event and pennant maps, the fine channels' modes, profiles, timeline and wake schedule
take an image's content (R162, writes 1 to 4). -/
def State.place (s : State) (b : List Byte) : State :=
  let s1 := { s with plan := { planOf b with writing := s.plan.writing, waitPll := s.plan.waitPll, addr := s.plan.addr,
                                             head := s.plan.head },
                     mem := { s.mem with course := placeCourses b,
                                         dir := Sp.setMany (fun _ => (0 : Word)) [] 0 (dirWords (sectD b 2)) } }
  ((List.range 64).foldl (fun t n =>
    t.put (F.FC_STAT_FORMAT n) (if t.fmt n = 255 then 7 else t.fmt n)) ((s1.placeEvents b).placePens b)).placeProfs b

/-! ### Steps 2 to 6 -/

/-- HDR_CRC (R133): the check over header and directory with its own bytes taken as zero. -/
def hdrCrc (b : List Byte) : Nat :=
  let h := b.take (128 + 16 * leField b 6 2)
  (crc32c (h.take 8 ++ [0, 0, 0, 0] ++ h.drop 12)).toNat

/-- Two sections overlap (R131). -/
def Sect.meets (x y : Sect) : Bool := decide (x.len ≠ 0) && decide (y.len ≠ 0) && decide (x.ofs < y.ofs + y.len)
  && decide (y.ofs < x.ofs + x.len)

/-- Step 3: layout (R131, R132, R134). -/
def stepLayout (b : List Byte) (addr len res : Nat) : Option Refused :=
  let n := leField b 6 2
  let ilen := leField b 12 4
  let stop := 128 + 16 * n
  if leField b 0 4 ≠ 0x4E4C5053 ∨ leField b 4 2 ≠ 1 ∨ n = 0 ∨ 64 < n ∨ len < ilen ∨ ilen < stop ∨ addr % 64 ≠ 0
      ∨ res < addr + ilen ∨ leField b 28 4 ≠ 0 ∨ leField b 64 64 ≠ 0 then some ⟨stRange, 3, 0, none⟩
  else
    let l := sectsOf b
    match l.find? (fun x => !x.zero || decide (x.ofs % 64 ≠ 0) || (decide (x.len ≠ 0) && decide (x.ofs < stop))
        || decide (ilen < x.ofs + x.len)) with
    | some x => some ⟨stRange, 3, if x.zero then x.type else 0, none⟩
    | none =>
      match (List.range l.length).find? (fun i => (l.take i).any (fun y => match l[i]? with
          | some x => x.meets y | none => false)) with
      | some i => some ⟨stRange, 3, (l[i]?.map (fun x => x.type)).getD 0, none⟩
      | none => none

/-- Step 4: each section's check, in directory order (R133). -/
def stepCrc (b : List Byte) : Option Refused :=
  ((sectsOf b).find? (fun x => decide ((crc32c (x.data b)).toNat ≠ x.crc))).map (fun x => ⟨stCrc, 4, x.type, none⟩)

/-- The DRAM data rate of a rate code in MT/s, rounded (R225). -/
def rateOf (code : Nat) : Nat := [10667, 11200, 11733, 12267, 12800, 13333, 13867, 14400].getD code 0

/-- Step 5: the binding of R136 except fencing. No plan loads under the default structure, whose FABRIC_ID is 0 (R299). -/
def State.stepBinding (s : State) (b : List Byte) : Option Refused :=
  let uid := leField b 32 8
  let fid := leField b 40 8
  let ok := decide (leField b 24 4 = s.fld F.GLB_ID_DEV_TYPE) && (decide (uid = 0) || decide (uid = s.getSel 0)) &&
    decide (fid ≠ 0) && decide (fid = s.getSel 0x5400) && decide (leField b 48 1 = s.clk.lockN) &&
    (match s.dram.rate with | some c => decide (leField b 52 2 = rateOf c) | none => false) &&
    (bits8 (leField b 49 1)).all (fun c => bitOf (s.fld F.DRAM_CFG_CH_EN) c) &&
    decide (leField b 50 1 = s.fld F.DRAM_CFG_MAP_ORDER)
  if ok then none else some ⟨stBinding, 5, 0, none⟩

/-- Step 6: fenced channels (R136). -/
def State.stepFenced (s : State) (b : List Byte) : Option Refused :=
  if (bits8 (leField b 49 1)).any (fun c => s.fenced c) then some ⟨stFenced, 6, 0, none⟩ else none

/-! ### Step 7 -/

/-- The types of R135. -/
def sectTypes : List Nat :=
  (List.range 11).map (fun i => i + 1) ++ (List.range 8).map (fun i => 0x10 + i) ++ (List.range 8).map (fun i => 0x20 + i)

/-- A section's length fits its record size (R135). -/
def lenOk (b : List Byte) (t n : Nat) : Bool :=
  match t with
  | 1 => decide (n = 64)
  | 2 => decide (n % 16 = 0) && decide (n ≤ 1048576)
  | 3 => decide (n = 256)
  | 4 => decide (n = 128)
  | 5 => decide (n = 256)
  | 6 => decide (n = 256 * leField b 56 2)
  | 7 => decide (n % 16 = 0)
  | 8 => decide (n = 64)
  | 9 => decide (n % 16 = 0)
  | 0x0A => decide (n % 16 = 0)
  | 0x0B => decide (n = 65536)
  | _ => if t < 0x20 then decide (n % 32 = 0) else decide (32 * n = (sectD b (t - 0x10)).length)

/-- Header values within R132, and sections present, single and sized (R135). -/
def stepSections (b : List Byte) : Option Refused :=
  let look := leField b 54 2
  let rows := leField b 56 2
  let mult := leField b 51 1
  let l := sectsOf b
  if look % 16 ≠ 0 ∨ look < 128 ∨ 2048 < look ∨ rows < 16 ∨ 256 < rows ∨ !(mult = 1 || mult = 2 || mult = 4)
      ∨ 1 < leField b 58 2 then some ⟨stRange, 7, 0, none⟩
  else match l.find? (fun x => !sectTypes.contains x.type || decide (1 < (l.filter (fun y => decide (y.type = x.type))).length)
      || !lenOk b x.type x.len) with
    | some x => some ⟨stRange, 7, x.type, none⟩
    | none => ((List.range 8).find? (fun i => !(l.any (fun x => decide (x.type = i + 1))))).map
        (fun i => ⟨stRange, 7, i + 1, none⟩)

/-- The kinds that a source allows (R115): pulse, level; none for a reserved source. -/
def kindOk (src : Nat) (level : Bool) : Bool :=
  if src ≤ 0x10 ∨ src = 0x20 then true
  else if (0x28 ≤ src ∧ src ≤ 0x2F) ∨ (0x30 ≤ src ∧ src ≤ 0x34) ∨ src = 0x42 ∨ src = 0x43 ∨ src = 0x53 then !level
  else if src = 0x40 ∨ src = 0x41 ∨ (0x50 ≤ src ∧ src ≤ 0x52) ∨ (0x58 ≤ src ∧ src ≤ 0x5F) then level
  else false

/-- The valid entries of a course. -/
def State.validEntries (d : State) (n : Nat) : List Nat := (List.range (d.crsCount n)).filter (fun e => (d.entry n e).valid)

/-- An entry of a course exists and is valid. -/
def State.hasEntry (d : State) (n e : Nat) : Bool := decide (e < d.crsCount n) && (d.entry n e).valid

/-- Slot `j` of SQn's start list is refused (R161, R104). -/
def State.startBad (d : State) (n j : Nat) : Bool :=
  let x := Sp.get (fun _ => 0xFFFF) d.plan.starts (16 * n + j)
  (decide (j = 0) && !(d.validEntries n).isEmpty && decide (x = 0xFFFF)) || (decide (x ≠ 0xFFFF) && !d.hasEntry n x)

/-- The first sequencer and index, in order, for which a check fails. -/
def firstBad (l : Nat → List Nat) (p : Nat → Nat → Bool) : Option (Nat × Nat) :=
  (List.range 8).findSome? (fun n => ((l n).find? (p n)).map (fun i => (n, i)))

/-- Step 7 on the candidate `d`: LANES, EVENTS, PENNANTS, STARTS, PROFILES, and the JEVT of every valid entry (R57, R115, R122, R135,
R176). That a reserved bit of an EVENTS word and MODE 0b11 of a PENNANTS word are refused, the spec does not say (log 24). -/
def State.stepContent (d : State) (b : List Byte) : Option Refused :=
  let at' := fun sect (i : Nat) => some (⟨stRange, 7, sect, some (i, 0)⟩ : Refused)
  match (List.range 64).find? (fun c => decide (d.fmt c ≠ 255) && (decide (4 < d.fmt c) || (d.fcOwner c).isNone)) with
  | some i => at' 1 i
  | none => match (List.range 64).find? (fun n =>
      let w := wordAt (sectD b 3) n
      decide (w &&& 0xFF00FE00 ≠ 0) || !kindOk (getBits 0 8 w) (getBits 8 1 w = 1)) with
  | some i => at' 3 i
  | none => match (List.range 32).find? (fun n =>
      let w := wordAt (sectD b 4) n
      decide (getBits 11 21 w ≠ 0) || decide (getBits 0 2 w = 3)) with
  | some i => at' 4 i
  | none => match firstBad (fun _ => List.range 16) (fun n j => d.startBad n j) with
  | some (n, j) => some ⟨stRange, 7, 5, some (j, n)⟩
  | none => match (match sectOf b 0x0B with
      | none => none
      | some p => (List.range 4096).find? (fun i => decide (leField p (16 * i + 6) 2 ≠ 0) || decide (2 ^ 20 ≤ leField p (16 * i + 12) 4))) with
  | some i => at' 0x0B i
  | none => (firstBad d.validEntries (fun n e =>
      !d.evRouted (d.entry n e).jevt n)).map
        (fun (n, e) => ⟨stRange, 7, 0x10 + n, some (e, n)⟩)

/-! ### Step 8: courses -/

/-- The continuations of an entry (R75): kind 0 the successor, 1 the target, 2 the fallback. -/
def Entry.conts (x : Entry) : List (Nat × Nat) :=
  (if x.endAct = 0 ∧ x.laps ≠ 0 then [(0, x.succ)] else []) ++ (if x.jmode ≠ 0 then [(1, x.target)] else []) ++
    (if x.fbRest then [] else [(2, x.fallback)])

/-- A segment can be reached other than as a natural successor (R65). -/
def State.reach (d : State) (k : Nat) : Bool := !d.segInDram k || (d.seg k).staged

/-- The end of the DRAM address space under the plan's DC_MASK (R228). -/
def State.dramTop (d : State) : Nat :=
  d.resBytes + (bits8 d.plan.dcMask).length * (d.chSize - d.share - 65536)

/-- A descriptor obeys R60, R62 and R63. -/
def State.descOk (d : State) (b : List Byte) (k : Nat) : Bool :=
  let g := d.seg k
  let ls := d.lanesOf g.owner
  let size := d.segBytes k
  decide (4 ≤ g.slen16) && (!wide20 ls || decide (g.slen16 % 4 = 0)) && decide (size ≤ 2 ^ 34) &&
    decide (getBits 7 1 (d.dirWord k 1) = 0) && decide (leField (sectD b 2) (16 * k + 10) 6 = 0) &&
    (decide (lanesBytes ls = 0) ||
      (if g.dram then decide (d.resBytes ≤ 64 * g.base) && decide (64 * g.base + size ≤ d.dramTop)
       else decide (g.base + size / 64 ≤ regionGranule)))

/-- An extra lap of an entry may play (R100): EXTEND, and a successor or target that can be found not ready. -/
def State.mayExtend (d : State) (n : Nat) (x : Entry) : Bool :=
  decide (x.refill = 0) && decide (x.maxExt ≠ 0) && x.conts.any (fun c =>
    let g := d.seg (d.entry n c.2).seg
    decide (c.1 ≠ 2) && (g.refill || g.staged))

/-- The walk of R143: from output tick `p` of a continuation begun by a decision, entry `e` of SQn begins; `first`: it is
the continuation's own entry. Every tick before 256 lies in track memory or in the first lap of the first entry, with the laps an
extension may add and without them. -/
def State.earlyOk (d : State) (n : Nat) : Nat → Nat → Bool → Nat → Bool
  | 0, _, _, _ => true
  | k + 1, e, first, p =>
    let x := d.entry n e
    if 256 ≤ p ∨ x.len < 64 then true
    else
      let laps := if x.laps = 0 then 5 else x.laps + (if d.mayExtend n x then x.maxExt else 0)
      let bad := d.segInDram x.seg && (!first || (decide (2 ≤ laps) && decide (p + x.len < 256)))
      !bad && (decide (x.laps = 0) || decide (x.endAct ≠ 0) || State.earlyOk d n k x.succ false (p + x.laps * x.len))

/-- An entry obeys R75, R104, R143 and R147. Continuations begun by a decision are the walks from its target and its fallback; whether a
start entry, or the continuation of a hold, is one for R143, the spec does not say, and the model does not walk from them (log 24). -/
def State.entryOk (d : State) (b : List Byte) (n e : Nat) : Bool :=
  let x := d.entry n e
  let g := d.seg x.seg
  let cs := x.conts
  let segOfC := fun (c : Nat × Nat) => (d.entry n c.2).seg
  !entryReserved (d.crsWord n e) && cs.all (fun c => d.hasEntry n c.2) &&
    decide (g.slen16 ≠ 0) && decide (g.owner = n) && d.descOk b x.seg &&
    decide (4 ≤ x.len16) && (!wide20 (d.lanesOf n) || decide (x.len16 % 4 = 0)) && decide (x.len16 ≤ g.slen16) &&
    !(decide (x.laps = 0) && decide (x.jmode = 1)) &&
    !(decide (x.jmode = 3) && (decide (x.pspace16 = 0) || decide (x.len16 < x.pspace16))) &&
    cs.all (fun c => (decide (c.1 = 0) && decide (x.refill ≠ 2)) || d.reach (segOfC c)) &&
    cs.all (fun c => decide (c.1 ≠ 2) || !(d.seg (segOfC c)).refill) &&
    !(x.consume && (!g.refill || cs.any (fun c => decide (segOfC c = x.seg)))) &&
    !(decide (x.refill = 0) && decide (x.maxExt ≠ 0) && decide (x.len + 48 ≤ d.plan.look)) &&
    cs.all (fun c => decide (c.1 = 0) || d.earlyOk n 8 c.2 true 0)

/-! ### Step 8: staging -/

/-- Granules of a segment's starting block (R64). -/
def State.blockSize (d : State) (k : Nat) : Nat :=
  let g := d.seg k
  (min 256 (16 * g.slen16) * lanesBytes (d.lanesOf g.owner) + 63) / 64

/-- A staging record obeys R148, R149, and R152's region rule. -/
def State.stgOk (d : State) (b : List Byte) (i : Nat) (r : StgRec) : Bool :=
  let g := d.seg r.seg
  decide (leField (sectD b 9) (16 * i + 12) 4 = 0) && decide (g.slen16 ≠ 0) && decide (g.owner = r.sq) && d.segInDram r.seg &&
    decide (r.size = d.blockSize r.seg) && decide (r.ofs + r.size ≤ 262144) && !(decide (r.grp = 0) && g.refill) &&
    (d.plan.stg.take i).all (fun q => decide (q.seg ≠ r.seg) || decide (q.ofs = r.ofs))

/-- Pairs of different groups that one entry of SQn can continue between. -/
def State.contPair (d : State) (n g h : Nat) : Bool :=
  (d.validEntries n).any (fun e => decide (d.grpOf n e = g) && (d.entry n e).conts.any (fun c => decide (d.grpOf n c.2 = h)))

/-- Two blocks may not overlap (R152): of different sequencers, or of groups resident together or continued between. -/
def State.blocksClash (d : State) (a c : StgRec) : Bool :=
  decide (a.ofs < c.ofs + c.size) && decide (c.ofs < a.ofs + a.size) && !(decide (a.ofs = c.ofs) && decide (a.seg = c.seg)) &&
    (decide (a.sq ≠ c.sq) || decide (a.grp = c.grp) || decide (a.grp = 0) || decide (c.grp = 0) ||
      d.contPair a.sq a.grp c.grp || d.contPair a.sq c.grp a.grp)

/-- Groups from which an entry of group `g` of SQn can be decided; the start comes from group 0. -/
def State.preds (d : State) (n g : Nat) : List Nat :=
  ((d.validEntries n).filter (fun e => decide (d.grpOf n e ≠ g) &&
    (d.entry n e).conts.any (fun c => decide (d.grpOf n c.2 = g)))).map (fun e => d.grpOf n e) ++
    (if (List.range 16).any (fun j =>
        let x := Sp.get (fun _ => 0xFFFF) d.plan.starts (16 * n + j)
        decide (x ≠ 0xFFFF) && decide (d.grpOf n x = g)) ∧ g ≠ 0 then [0] else [])

/-- A byte of the timeline: row, channel, index (R139). -/
def State.tlByte (d : State) (row c i : Nat) : Nat := (Sp.get (fun _ => (0 : Byte)) d.plan.tl (256 * row + 32 * c + i)).toNat

/-- The smallest STGn over every row and every channel of DC_MASK (R150). -/
def State.stgMin (d : State) (n : Nat) : Nat :=
  (((List.range d.plan.rows).flatMap (fun q => (bits8 d.plan.dcMask).map (fun c => d.tlByte q c (16 + n)))).min?).getD 0

/-- Load time of a group (R150); none where it would never complete. -/
def State.loadTime (d : State) (n g : Nat) : Option Nat :=
  let prev := d.plan.stg.filter (fun r => decide (r.sq = n) && (d.preds n g).contains r.grp)
  let gs := ((d.plan.stg.filter (fun r => decide (r.sq = n) && decide (r.grp = g)
    && !prev.any (fun q => decide (q.seg = r.seg) && decide (q.ofs = r.ofs)))).map (fun r => r.size)).sum
  let rate := (bits8 d.plan.dcMask).length * d.stgMin n
  if g = 0 ∨ gs = 0 then some 0 else if rate = 0 then none else some (16 * ((gs + rate - 1) / rate))

/-- Ticks from a visit's first tick to its first opportunity (R68, R92); none without one. -/
def firstOpp (x : Entry) : Option Nat :=
  match x.jmode with
  | 1 => some (x.laps * x.len)
  | 2 => some x.len
  | 3 =>
    let k := (48 + x.point - 1) / x.point * x.point
    some (if k ≤ x.len then k else x.len + x.point)
  | _ => none

/-- Entry `e` of SQn can be reached from a different group. -/
def State.fromOther (d : State) (n e : Nat) : Bool :=
  (d.validEntries n).any (fun i => decide (d.grpOf n i ≠ d.grpOf n e) && (d.entry n i).conts.any (fun c => decide (c.2 = e))) ||
    (decide (d.grpOf n e ≠ 0) && (d.starts n).contains e)

/-- An entry reached from a different group leaves its group the time to load (R152). -/
def State.groupOk (d : State) (n e : Nat) : Bool :=
  !d.fromOther n e ||
    match d.loadTime n (d.grpOf n e) with
    | none => false
    | some 0 => true
    | some t => decide ((d.entry n e).jmode ≠ 4) && (match firstOpp (d.entry n e) with | some o => decide (t ≤ o) | none => true)

/-- The targets and the fallback of an entry are resident in its group (R152). -/
def State.residentOk (d : State) (n e : Nat) : Bool :=
  (d.entry n e).conts.all (fun c =>
    let k := (d.entry n c.2).seg
    decide (c.1 = 0) || !d.segInDram k ||
      d.plan.stg.any (fun r => decide (r.seg = k) && decide (r.sq = n) && (decide (r.grp = 0) || decide (r.grp = d.grpOf n e))))

/-! ### Step 8: banks, wakes, copies, reserved bytes -/

/-- The segments of the candidate's directory. -/
def State.dirSegs (b : List Byte) : List Nat := List.range ((sectD b 2).length / 16)

/-- Bytes of track memory with their sequencer (R220): first bank, last bank, sequencer, section, index. -/
def State.bankUse (d : State) (b : List Byte) : List (Nat × Nat × Nat × Nat × Nat) :=
  ((State.dirSegs b).filter (fun k => decide (0 < d.segBytes k) && !(d.seg k).dram)).map (fun k =>
    (64 * (d.seg k).base / 524288, (64 * (d.seg k).base + d.segBytes k - 1) / 524288, (d.seg k).owner, 2, k)) ++
  ((List.range d.plan.stg.length).filterMap (fun i => match d.plan.stg[i]? with
    | some r => if r.size = 0 then none
      else some (64 * (regionGranule + r.ofs) / 524288, (64 * (regionGranule + r.ofs + r.size) - 1) / 524288, r.sq, 9, i)
    | none => none))

/-- The first use of a bank that holds another sequencer's bytes (R220). -/
def bankClash : List (Nat × Nat × Nat × Nat × Nat) → List (Nat × Nat × Nat × Nat × Nat) → Option (Nat × Nat × Nat)
  | _, [] => none
  | seen, x :: xs =>
    if seen.any (fun y => decide (y.2.2.1 ≠ x.2.2.1) && decide (x.1 ≤ y.2.1) && decide (y.1 ≤ x.2.1)) then
      some (x.2.2.2.1, x.2.2.2.2, x.2.2.1)
    else bankClash (seen ++ [x]) xs

/-- Wake latency of a domain in picoseconds (R24, R237, R249, R315, R343). -/
def wakePs (d : Nat) : Nat :=
  if 0x08 ≤ d ∧ d ≤ 0x0F then 40000000
  else if 0x10 ≤ d ∧ d ≤ 0x13 then 20000000
  else if d = 0x14 then 2000000
  else if 0x18 ≤ d ∧ d ≤ 0x1F then 2000000 + Config.srExitPs
  else if d = 0x20 ∨ d = 0x21 then 200000000
  else if d = 0x22 then 20000000
  else if d = 0x23 then 5000000
  else if d = 0x24 then 5050000000
  else 50000000

/-- Wake latency of a domain with its group (R25). -/
def State.groupPs (s : State) (d : Nat) : Nat :=
  (((s.groupOf d).filter (fun e => decide (8 ≤ e) && decide (e ≤ 0x25))).map wakePs).foldl max (wakePs d)

/-- A code of R154. -/
def domCode (d : Nat) : Bool := (decide (0x08 ≤ d) && decide (d ≤ 0x14)) || (decide (0x18 ≤ d) && decide (d ≤ 0x25))

/-- Wake record `i` obeys R153 and R156; `prev` is the TICK before it. -/
def State.wakeOk (d : State) (b : List Byte) (i prev : Nat) : Bool :=
  let r := (((sectD b 7).drop (16 * i)).take 16)
  let w := wakeOf r
  decide (prev ≤ w.tick) && domCode w.dom && d.domPresent w.dom && decide (leField r 7 1 ≤ 1) &&
    (if w.dom = 0x14 then decide (w.index ≤ 511) else decide (w.index = 0)) &&
    (if w.release then decide (w.use = 0)
     else if w.tick = 0 then decide (d.groupPs w.dom ≤ 1000000 * d.plan.wakeLead)
     else decide (w.tick + (d.groupPs w.dom * leField b 48 1 + 319999) / 320000 ≤ w.use))

/-- The first wake record that is refused. -/
def State.wakeBad (d : State) (b : List Byte) : Option Nat :=
  (List.range d.plan.wake.length).find? (fun i =>
    !d.wakeOk b i (match d.plan.wake[i - 1]? with | some w => if i = 0 then 0 else w.tick | none => 0))

/-- A TMCOPY record is refused (R160). -/
def State.tmBad (d : State) (r : List Byte) : Bool :=
  let k := leField r 0 2
  let a := leField r 8 8
  decide (leField r 2 6 ≠ 0) || decide ((d.seg k).slen16 = 0) || d.segInDram k || decide (a % 64 ≠ 0) ||
    decide (d.dramTop < a + d.segBytes k)

/-- Reserved bytes of a timeline row, and of the descriptors outside DC_MASK (R139). -/
def State.rowBad (d : State) (q : Nat) : Bool :=
  (List.range 8).any (fun c =>
    (List.range 32).any (fun i => (decide (28 ≤ i) || !bitOf d.plan.dcMask c) && decide (d.tlByte q c i ≠ 0)))

/-- Reserved bits of a descriptor (R62). -/
def dirBad (b : List Byte) (k : Nat) : Bool :=
  decide (bitOf (leField (sectD b 2) (16 * k + 4) 4) 7) || decide (leField (sectD b 2) (16 * k + 10) 6 ≠ 0)

/-- Step 8 on the candidate. -/
def State.stepCourses (d : State) (b : List Byte) : Option Refused :=
  let bad := fun sect (i n : Nat) => some (⟨stRange, 8, sect, some (i, n)⟩ : Refused)
  let stgSq := fun i => match d.plan.stg[i]? with | some (r : StgRec) => if r.sq < 8 then r.sq else 0 | none => 0
  match (List.range 8).find? (fun n => decide (65536 < d.crsCount n)) with
  | some n => bad (0x10 + n) 0 n
  | none => match firstBad d.validEntries (fun n e => !d.entryOk b n e) with
  | some (n, e) => bad (0x10 + n) e n
  | none => match (List.range d.plan.stg.length).find? (fun i => match d.plan.stg[i]? with
      | some r => !d.stgOk b i r | none => false) with
  | some i => bad 9 i (stgSq i)
  | none => match (State.dirSegs b).find? (fun k => decide ((d.seg k).slen16 ≠ 0) &&
      decide ((d.seg k).staged ≠ d.plan.stg.any (fun r => decide (r.seg = k)))) with
  | some k => bad 2 k 0
  | none => match (List.range d.plan.stg.length).find? (fun i => match d.plan.stg[i]? with
      | some r => (d.plan.stg.take i).any (fun q => d.blocksClash r q) | none => false) with
  | some i => bad 9 i (stgSq i)
  | none => match firstBad d.validEntries (fun n e => !d.groupOk n e) with
  | some (n, e) => bad (0x20 + n) e n
  | none => match firstBad d.validEntries (fun n e => !d.residentOk n e) with
  | some (n, e) => bad (0x10 + n) e n
  | none => match bankClash [] (d.bankUse b) with
  | some (sect, i, n) => bad sect i n
  | none => match d.wakeBad b with
  | some i => bad 7 i 0
  | none => match (List.range (recs16 (sectD b 0x0A)).length).find? (fun i => d.tmBad ((recs16 (sectD b 0x0A)).getD i [])) with
  | some i => bad 0x0A i 0
  | none => match (List.range d.plan.rows).find? (fun q => d.rowBad q) with
  | some q => bad 6 q 0
  | none =>
    if ((sectD b 8).drop 32).any (fun x => decide (x ≠ 0)) then some ⟨stRange, 8, 8, none⟩
    else match (State.dirSegs b).find? (dirBad b) with
      | some k => bad 2 k 0
      | none => none

/-! ### Step 9 -/

/-- CAP (R138): ⌊0.88 × P × 16 × tick / 64 B⌋ with P = 34.125 GB/s at 12,800 MT/s. -/
def capOf (rate n : Nat) : Nat := 88 * 34125 * rate * 16 * 320 / (100 * 1000 * 12800 * 64 * max n 1)

/-- Allotments of a row for one channel: the sum of bytes `i` to `i + k − 1`. -/
def State.allot (d : State) (q c i k : Nat) : Nat := ((List.range k).map (fun j => d.tlByte q c (i + j))).sum

/-- Sequencers that can reach a staged DRAM segment by a decision (R141). -/
def State.needsAlt (d : State) (n : Nat) : Bool :=
  (d.validEntries n).any (fun e => (d.entry n e).conts.any (fun c =>
    decide (c.1 ≠ 0) && d.segInDram (d.entry n c.2).seg && (d.seg (d.entry n c.2).seg).staged))

/-- ALTn of a row and channel meets R141. -/
def State.altOk (d : State) (q c n : Nat) : Bool :=
  decide (d.plan.look ≤ 304) || !d.needsAlt n ||
    decide ((d.plan.look - 304) * d.tlByte q c n ≤ (d.plan.look - 64) * d.tlByte q c (8 + n))

/-- The sum over rows and channels of DC_MASK. -/
def State.tlSum (d : State) (f : Nat → Nat → Nat) : Nat :=
  ((List.range d.plan.rows).flatMap (fun q => (bits8 d.plan.dcMask).map (fun c => f q c))).sum

/-- The fields of BUDGET that the loader recomputes (R157). -/
def State.budget (d : State) (cap n : Nat) : List Nat :=
  let sums := [d.tlSum (fun q c => d.allot q c 0 27), d.tlSum (fun q c => d.allot q c 0 8), d.tlSum (fun q c => d.allot q c 8 8),
    d.tlSum (fun q c => d.allot q c 16 8), d.tlSum (fun q c => d.tlByte q c 24), d.tlSum (fun q c => d.tlByte q c 25),
    d.tlSum (fun q c => d.tlByte q c 26), d.tlSum (fun q c => cap - d.allot q c 0 27)]
  sums.map (fun x => x * 25 * n / (2 * max d.plan.rows 1))

/-- Refresh commands that JESD209-6 requires in the timeline period (R145). -/
def State.refsDue (d : State) (n : Nat) : Nat :=
  let den := max n 1 * Config.trefiPs
  (d.plan.rows * 16 * 320000 * d.plan.refMult + den - 1) / den

/-- Step 9: timeline and budget (R138, R139, R141, R145, R157). -/
def State.stepBudget (d : State) (b : List Byte) : Option Refused :=
  let n := leField b 48 1
  let cap := capOf (leField b 52 2) n
  let chs := bits8 d.plan.dcMask
  match (List.range d.plan.rows).find? (fun q => chs.any (fun c =>
      decide (cap < d.allot q c 0 27 + 1) || decide (2 < d.tlByte q c 27) || (List.range 8).any (fun sq => !d.altOk q c sq))) with
  | some q => some ⟨stBudget, 9, 6, some (q, 0)⟩
  | none =>
    if chs.any (fun c => decide (((List.range d.plan.rows).map (fun q => d.tlByte q c 27)).sum < d.refsDue n)) then
      some ⟨stBudget, 9, 6, none⟩
    else if (List.range 8).map (fun i => leField (sectD b 8) (4 * i) 4) ≠ d.budget cap n then some ⟨stBudget, 9, 8, none⟩
    else none

end Sys2Proof.Machine
end

