-- ==== Sys2Proof/Machine/PlanLoad.lean ====
section
/-! DEFINITION. Loading and unloading a plan (R161–R164), the copies of starting blocks (R149–R151), and the PLAN registers. -/

namespace Sys2Proof.Machine

/-! ### Starting blocks -/

/-- A record's block is copied into the starting-block region (R64, R148). -/
def State.copyBlock (s : State) (r : StgRec) : State :=
  let base := 64 * (s.seg r.seg).base
  let dst := 64 * (regionGranule + r.ofs)
  (s.blockParts r.seg).foldl (fun t p => t.trackPut (dst + p.2.1) (s.dramBytes (base + p.1) p.2.2)) s

/-- Record `i` of the staging list is resident for SQn. -/
def State.blockIn (s : State) (n i : Nat) : State :=
  let q := s.sqn n
  s.setSq n { q with resident := q.resident ++ [i], loads := q.loads.filter (fun j => decide (j ≠ i)),
                     late := q.late.filter (fun j => decide (j ≠ i)) }

/-- Addresses that name every granule of a range of DRAM. -/
def granAddrs (a n : Nat) : List Nat := if n = 0 then [] else (List.range ((n + 63) / 64)).map (fun g => a + 64 * g) ++ [a + n - 1]

/-- The channels that hold a range of DRAM, by granules. -/
def State.rangeChs (s : State) (a n : Nat) : List Nat :=
  (List.range 8).filter (fun c => (granAddrs a n).any (fun x => s.dramCh x == some c))

/-- The channels from which a segment's starting block is copied. -/
def State.blockChs (s : State) (k : Nat) : List Nat :=
  (List.range 8).filter (fun c => (s.blockParts k).any (fun p => (s.rangeChs (64 * (s.seg k).base + p.1) p.2.2).contains c))

/-- The prefetcher has copied record `i` of SQn; channels in self-refresh and a bank in retention were woken for it (R224, R237). A
block on a fenced channel is not copied (R242), and nothing is while one of its channels serves nothing (R240). -/
def State.prefetch (s : State) (n i : Nat) : State :=
  match s.plan.stg[i]? with
  | none => s
  | some r =>
    let chs := s.blockChs r.seg
    if s.blockFenced r.seg ∨ chs.any (fun c => s.chWaits c) then s
    else (((chs.foldl (fun t c => t.channelWake c) s).wakeBanks (64 * (regionGranule + r.ofs)) (64 * r.size)).copyBlock r).blockIn n i

/-- The prefetcher fetches while the heat runs (R146). -/
def State.prefetches (s : State) : Bool := s.live && decide (s.fld F.SEQ_STAT_HEAT = 3)

/-- BLOCK_COPY_DONE (R150): the block that SQn's load copies is complete. -/
def execBlockCopyDone (n : Fin 8) (s : State) : Host.Outcome State Fault Refusal :=
  match s.nextLoad n.val with
  | none => .next s
  | some i => if s.prefetches then .next (s.prefetch n.val i) else .next s

/-- Ticks that a late copy of staging record `i` takes for SQn: 16 ⌈S / (D × STGn)⌉ (R151); none where STGn is 0. -/
def State.lateTicks (s : State) (n i : Nat) : Option Nat :=
  let rate := (bits8 s.plan.dcMask).length * s.stgMin n
  match s.plan.stg[i]? with
  | none => none
  | some r => if rate = 0 then none else some (16 * ((r.size + rate - 1) / rate))

/-- SQn's late copy ends, the ticks of R151 after it has begun. -/
def State.lateCopy (s : State) (n : Nat) : State :=
  let s0 := s.lateNote n
  match (s0.sqn n).lateFrom with
  | none => s
  | some (i, h) => match s0.lateTicks n i with
    | none => s0
    | some k =>
      if s0.prefetches && s0.comes (s0.tbOf (h + k)) then
        let s1 := s0.arrive (h + k)
        if (s1.sqn n).lateFrom = some (i, h) then s1.prefetch n i else s1
      else s0

/-- LATE_COPY (R151). -/
def execLateCopy (n : Fin 8) (s : State) : Host.Outcome State Fault Refusal := .next (s.lateCopy n.val)

/-! ### Refusals -/

/-- A refusal is reported (R161, R163). -/
def State.report (s : State) (r : Refused) : State :=
  let e := match r.pos with | some (e, _) => e % 65536 | none => 0
  let n := match r.pos with | some (_, n) => n % 8 | none => 0
  let v := b2n r.pos.isSome
  let s1 := s.wr 0x40008 (BitVec.ofNat 32 (r.status + 2 ^ 8 * r.step + 2 ^ 16 * r.sect))
  let s2 := (s1.wr 0x4000C (BitVec.ofNat 32 (e + 2 ^ 16 * n + 2 ^ 19 * v))).put F.PLAN_STAT_STATUS r.status
  s2.eventNow 0x13 0x02 (r.status + 2 ^ 8 * r.step + 2 ^ 16 * r.sect + 2 ^ 32 * e + 2 ^ 48 * n + 2 ^ 56 * v)

/-- The loader is idle again. -/
def State.loaderIdle (s : State) : State :=
  let s1 := (s.put F.PLAN_STAT_BUSY 0).put F.PLAN_STAT_PHASE 0
  { s1 with plan := { s1.plan with waitPll := false, writing := false, head := [] } }

/-- A load is refused at a check (R161): a plan already loaded stays; PD_PLL is left to the conditions of R24. -/
def State.refuseLoad (s : State) (r : Refused) : State := (((s.raise F.PLAN_STAT_REFUSED).report r).loaderIdle).pllIdle

/-- A write pass fails (R162): no plan is loaded. -/
def State.writeFail (s : State) (st : Nat) : State :=
  let s1 := s.emptyCourses
  ((((s1.remap s1.freeMapped).raise F.PLAN_STAT_WRITE_FAIL).report ⟨st, 10, 0, none⟩).loaderIdle).pllIdle

/-! ### LOAD -/

/-- The first address of a range that reaches no channel in service, by granules. -/
def State.lostAddr (s : State) (a n : Nat) : Option Nat :=
  (granAddrs a n).find? (fun x => !(s.dramRead x).isSome)

/-- Make ready the channels of a range of DRAM for the management complex (R237); a part of the reserve that no reachable channel holds is a
management fault (R229). -/
def State.mgmtReach (s : State) (a n : Nat) : State :=
  let s1 := (s.rangeChs a n).foldl (fun t c => t.channelWake c) s
  match s.lostAddr a n with
  | some x => if x < s.resBytes then s1.resErr ((s.dramLocs x).headD (0, 0)).1 1 x else s1
  | none => s1

/-- A range of DRAM meets a fenced channel that no other copy serves for. -/
def State.meetsFence (s : State) (a n : Nat) : Bool :=
  (granAddrs a n).any (fun x => !(s.dramLocs x).isEmpty && (s.dramCh x).isNone)

/-- The same for a read of the plan loader or the fabric loader, which also notes a hit on a fence (R242). -/
def State.dramReach (s : State) (a n : Nat) : State :=
  let s1 := s.mgmtReach a n
  if s.meetsFence a n then s1.raise F.DRAM_FLAGS_FENCE_HIT else s1

/-- Step 1 (R161, R21, R55): no sequencer runs, and the main PLL is locked or coasts from a lock. -/
def State.loadLegal (s : State) : Bool :=
  !s.anyActive && s.awake 1 && decide (s.clk.relock = .none) && (s.flag F.CLK_STAT_LOCK || s.flag F.CLK_STAT_COAST)

/-- The header and directory of the image at PLAN_ADDR. -/
def State.imageHead (s : State) : List Byte :=
  let addr := s.getSel 0x1000
  s.dramBytes addr (128 + 16 * leField (s.dramBytes addr 8) 6 2)

/-- Steps 2 and 3, on the header and directory alone. -/
def State.headCheck (s : State) : Option Refused :=
  let head := s.imageHead
  if leField head 8 4 ≠ hdrCrc head then some ⟨stCrc, 2, 0, none⟩
  else stepLayout head (s.getSel 0x1000) (s.fld F.PLAN_LEN_LEN) s.resBytes

/-- The first check of steps 4 to 9 that fails, for the image at PLAN_ADDR. -/
def State.bodyCheck (s : State) : Option Refused :=
  let b := s.dramBytes (s.getSel 0x1000) (leField s.imageHead 12 4)
  let d := s.place b
  (stepCrc b).or ((s.stepBinding b).or ((s.stepFenced b).or ((stepSections b).or ((d.stepContent b).or
    ((d.stepCourses b).or (d.stepBudget b))))))

/-- A channel that holds part of a range serves nothing now: the loader's reads wait (R32, R240). -/
def State.rangeWaits (s : State) (a n : Nat) : Bool := (s.rangeChs a n).any (fun c => s.chWaits c)

/-- The write pass begins (R162): the old plan is discarded, every grant revoked (R256), the mapped set is DC_MASK (R228). -/
def State.loadAccept (s : State) : State :=
  let addr := s.getSel 0x1000
  let head := s.imageHead
  let s1 := ((s.emptyCourses.revokeAll).put F.DRAM_CFG_MAPPED (leField head 49 1)).put F.PLAN_STAT_PHASE 2
  { s1 with plan := { s1.plan with waitPll := false, writing := true, addr := addr, head := head } }

/-- LOAD waits: for PD_PLL (R161), or for a channel that retrains (R240). -/
def State.loadWait (s : State) : State := { s with plan := { s.plan with waitPll := true } }

/-- The checks of R161 are judged: steps 2 and 3 read header and directory, the steps after them the image. -/
def State.loadJudge (s : State) : State :=
  if !s.loadLegal then s.refuseLoad ⟨stState, 1, 0, none⟩
  else
    let addr := s.getSel 0x1000
    let hlen := s.imageHead.length
    if s.rangeWaits addr hlen then s.loadWait
    else
      let s1 := s.dramReach addr hlen
      match s1.headCheck with
      | some r => s1.refuseLoad r
      | none =>
        let ilen := leField s1.imageHead 12 4
        if s1.rangeWaits addr ilen then s1.loadWait
        else
          let s2 := s1.dramReach addr ilen
          match s2.bodyCheck with
          | some r => s2.refuseLoad r
          | none => s2.loadAccept

/-- PLAN_CTRL.LOAD (R161): PD_PLL is woken first where it sleeps. -/
def State.loadCmd (s : State) : State :=
  let s1 := (s.put F.PLAN_STAT_BUSY 1).put F.PLAN_STAT_PHASE 1
  if s.awake 1 then s1.loadJudge
  else s1.wakePll.loadWait

/-! ### The write pass -/

/-- The sections as they stand now under the header that was checked. -/
def State.reread (s : State) : List Byte :=
  s.plan.head ++ s.dramBytes (s.plan.addr + s.plan.head.length) (leField s.plan.head 12 4 - s.plan.head.length)

/-- A bank leaves retention for the plan loader (R224). -/
def State.loaderBanks (s : State) (a n : Nat) : State :=
  ((List.range 512).filter (fun m => decide (n ≠ 0) && decide (a / 524288 ≤ m) && decide (m ≤ (a + n - 1) / 524288))).foldl
    (fun t m => if t.flag (retFld m) then t.bankAwake m else t) s

/-- Copies in order, up to the first that meets a fenced channel: the state, and whether all are made. -/
def copyAll {α : Type} (bad : State → α → Bool) (f : State → α → State) : List α → State → State × Bool
  | [], s => (s, true)
  | x :: xs, s => if bad s x then (s, false) else copyAll bad f xs (f s x)

/-- The group-0 blocks are copied (R149). -/
def State.loadBlocks (s : State) : State × Bool :=
  let (s1, ok) := copyAll (fun t (r : StgRec) => t.blockFenced r.seg)
    (fun t r => (t.loaderBanks (64 * (regionGranule + r.ofs)) (64 * r.size)).copyBlock r)
    (s.plan.stg.filter (fun r => decide (r.grp = 0))) s
  ((List.range 8).foldl (fun t n => t.setSq n { t.sqn n with resident := t.grpRecs n 0 }) s1, ok)

/-- The TMCOPY copies are made (R160). -/
def State.loadTm (s : State) (b : List Byte) : State × Bool :=
  copyAll (fun t (c : Nat × Nat) => !t.dramOk c.2 (t.segBytes c.1)) (fun t c =>
    let a := 64 * (t.seg c.1).base
    (t.loaderBanks a (t.segBytes c.1)).trackPut a (t.dramBytes c.2 (t.segBytes c.1)))
    ((recs16 (sectD b 0x0A)).map (fun r => (leField r 0 2, leField r 8 8))) s

/-- The plan is loaded (R162, R163). -/
def State.loadedPlan (s : State) (b : List Byte) : State :=
  let heat := (List.range 8).filter (fun n => !(s.validEntries n).isEmpty)
  let s1 := heat.foldl (fun t n => t.put (F.SQ_STAT_STATE n) sqLoaded) s
  let s2 := (s1.put F.SEQ_STAT_HEAT 1).put F.SEQ_STAT_HEAT_MASK (heat.foldl (fun m n => putBit m n true) 0)
  let s3 := s2.wr 0x40014 (BitVec.ofNat 32 (leField b 48 1 + 2 ^ 7 * (leField b 58 2 % 2) + 2 ^ 8 * leField b 56 2 +
    2 ^ 17 * (leField b 54 2 / 16)))
  let s4 := ((s3.setSel 0x1001 (leField b 16 8)).put F.PLAN_STAT_PRESENT 1).put F.DRAM_CFG_MAPPED (leField b 49 1)
  let s5 := ((s4.put F.PLAN_STAT_STATUS stOk).raise F.PLAN_STAT_LOADED).loaderBanks (64 * regionGranule) (trackBytes - 64 * regionGranule)
  (((s5.eventNow 0x13 0x01 (leField b 16 8)).loaderIdle).setPstate).sendIdent

/-- The order in which the write pass re-reads sections and writes what they hold (R162). Where it re-reads STARTS, GROUPS and BUDGET, the
spec does not say: STARTS and GROUPS with the courses, BUDGET with the timeline (log 24). -/
def writeOrder : List Nat :=
  (List.range 8).map (fun i => 0x10 + i) ++ (List.range 8).map (fun i => 0x20 + i) ++ [5, 2, 3, 4, 1, 0x0B, 6, 8, 7, 9, 0x0A]

/-- A section's check fails as the write pass re-reads it. -/
def crcBad (b : List Byte) (t : Nat) : Bool :=
  (sectsOf b).any (fun x => decide (x.type = t) && decide ((crc32c (x.data b)).toNat ≠ x.crc))

/-- A CRC mismatch in section `t` ends the load (R162): what was written before it stays where no course or list holds it, in the event
and pennant maps, the profiles, the starting blocks, and the banks woken for those (R224). -/
def State.writeCrc (s : State) (b : List Byte) (t : Nat) : State :=
  let done := fun u => decide (writeOrder.idxOf u < writeOrder.idxOf t)
  let s1 := if done 3 then s.placeEvents b else s
  let s2 := if done 4 then s1.placePens b else s1
  let s3 := if done 0x0B then s2.placeProfs b else s2
  let s4 := if done 9 then (s3.place b).loadBlocks.1 else s3
  s4.writeFail stCrc

/-- The channels from which the write pass copies, by the sections as they now stand: those of the group-0 blocks and of the TMCOPY
sources (R149, R160). -/
def State.passChs (s : State) (b : List Byte) : List Nat :=
  let d := s.place b
  (d.plan.stg.filter (fun r => decide (r.grp = 0))).flatMap (fun r => d.blockChs r.seg) ++
    (recs16 (sectD b 0x0A)).flatMap (fun r => d.rangeChs (leField r 8 8) (d.segBytes (leField r 0 2)))

/-- The channels of the write pass are made ready: those of the image, and those of what it copies (R237, R238). -/
def State.passReady (s : State) : State :=
  let s1 := s.dramReach s.plan.addr (leField s.plan.head 12 4)
  if s1.rangeWaits s.plan.addr (leField s.plan.head 12 4) then s1
  else (s1.passChs s1.reread).foldl (fun t c => t.channelWake c) s1

/-- The write pass waits for a channel that serves nothing now (R237, R240). -/
def State.passWaits (s : State) : Bool :=
  s.rangeWaits s.plan.addr (leField s.plan.head 12 4) || (s.passChs s.reread).any (fun c => s.chWaits c)

/-- The write pass (R162). -/
def State.writePass (s : State) : State :=
  let b := s.reread
  match writeOrder.find? (crcBad b) with
  | some t => s.writeCrc b t
  | none =>
    let (s2, ok) := (s.place b).loadBlocks
    let (s3, ok') := if ok then s2.loadTm b else (s2, false)
    if ok' then s3.loadedPlan b else (s3.raise F.DRAM_FLAGS_FENCE_HIT).writeFail stFenced

/-- WRITE_PASS: it waits while a channel that holds the image, or what it copies, serves nothing (R237, R240). -/
def execWritePass (s : State) : Host.Outcome State Fault Refusal :=
  if s.live && s.plan.writing then
    let s1 := s.passReady
    .next (if s1.passWaits then s1 else s1.writePass.noteLevels)
  else .next s

/-! ### UNLOAD -/

/-- The effects of R164: no plan is loaded. -/
def State.unload (s : State) : State :=
  let s1 := s.emptyCourses
  (s1.remap s1.freeMapped).pllIdle

/-- PLAN_CTRL.UNLOAD (R164). -/
def State.unloadCmd (s : State) : State :=
  if s.fld F.SEQ_STAT_HEAT = 1 then s.unload.put F.PLAN_STAT_STATUS stOk else s.put F.PLAN_STAT_STATUS stState

/-- A hard trip, or a fabric load, takes the plan away (R319, R162): a write pass in progress yields (R165, R167) and ends with STATE; otherwise a
loaded plan is unloaded. -/
def State.dropPlan (s : State) : State :=
  if s.plan.writing then (s.yieldOn 1 6 0 0xFF 1).writeFail stState
  else if s.flag F.PLAN_STAT_PRESENT then s.unload
  else s

/-! ### Registers -/

/-- A command of PLAN_CTRL. -/
def planRun (i : Nat) (s : State) : State := if i = 0 then s.loadCmd else s.unloadCmd

/-- Locked bits of a PLAN register: PLAN_LEN while BUSY. -/
def State.planLocks (s : State) (a : Nat) : Word :=
  if a = 0x40010 ∧ s.flag F.PLAN_STAT_BUSY then wholeLock else 0

/-- A write to a register of PLAN that has passed the checks of R276. -/
def State.planWrite (s : State) (a : Nat) (v : Word) : State :=
  if a = 0x40000 then s.command F.PLAN_STAT_STATUS (s.flag F.PLAN_STAT_BUSY) [0, 1] v planRun else s.plain a v

/-- A read of a register of PLAN: the row of the heat tick while the heat runs or is paused (R137, R146). -/
def State.planRead (s : State) (a : Nat) : Word :=
  let h := s.fld F.SEQ_STAT_HEAT
  if a = 0x40018 ∧ (h = 3 ∨ h = 4) then
    setBits 0 8 (s.tm.heat / 16 % max s.plan.rows 1) (s.rd a)
  else s.rd a

end Sys2Proof.Machine
end

