-- ==== Sys2Proof/Machine/Fine.lean ====
section
/-! DEFINITION. Fine channels (R171–R190): what takes effect at the outputs after a strobe or a write, the profile window,
calibration, the read-back check, saturation, and the FINE registers. -/

namespace Sys2Proof.Machine

/-! ### Effects at the outputs -/

/-- The timebase ticks at which values and profile reloads on their way to the outputs take effect. -/
def State.effTicks (s : State) : List Nat :=
  s.eff.map (fun x => x.tick) ++ (List.range 64).flatMap (fun n =>
    ((s.fcn n).sw.filter (fun w => decide (w.kind = 2))).map (fun w => w.tick))

/-- A reload is due at timebase tick `k` (R189): it loads the profile active then, under the rule active then. A switch that takes effect
in that tick prevails (R190). -/
def State.reload (s : State) (n k : Nat) (w : Sw) : State :=
  let s1 := s.setFc n { s.fcn n with sw := (s.fcn n).sw.filter (fun x => decide (x ≠ w)) }
  let prof := s.fld (F.FC_STAT_PROF n)
  let rule := s.fld (F.FC_STAT_RULE n)
  if s.fld F.SEQ_STAT_HEAT = 3 ∧ (s.fcn n).sw.any (fun x => decide (x.kind ≠ 2) && decide (s.tbOf x.tick = k)) then s1
  else s1.applySw n k (if w.prof = prof then { w with rule := rule } else s1.mkSw n 2 k prof rule)

/-- Everything due at timebase tick `k` takes effect at the outputs (R189, R201). -/
def State.effAt (s : State) (k : Nat) : State :=
  let s1 := (s.eff.filter (fun x => decide (x.tick = k))).foldl (fun t x => t.applyEff x) s
  let s2 := { s1 with eff := s1.eff.filter (fun x => decide (x.tick ≠ k)) }
  (List.range 64).foldl (fun t n =>
    match (t.fcn n).sw.find? (fun w => decide (w.kind = 2) && decide (w.tick = k)) with
    | some w => t.reload n k w
    | none => t) s2

/-- STROBE_EFFECT (R189, R201): the earliest of what is on its way takes effect at its output tick. -/
def execStrobeEffect (s : State) : Host.Outcome State Fault Refusal :=
  match s.effTicks.min? with
  | none => .next s
  | some k => if s.live && s.flag F.TB_STAT_COUNTING then .next ((s.passTo k).effAt k).noteLevels
    else .next s

/-! ### The profile window -/

/-- The selector FC_FTWn. -/
def ftwSel (n : Nat) : Nat := 0x2000 + n

/-- FCn_PCMD.READ (R171): the selected profile into the holding registers. -/
def State.profRead (s : State) (n : Nat) : State :=
  let p := s.fld (F.FC_PSEL_PROF n)
  let f := (s.profWord n p 0).toNat + 2 ^ 32 * getBits 0 16 (s.profWord n p 1)
  let s1 := (s.put (F.FC_PPHASE_POFS n) (s.profWord n p 2).toNat).put (F.FC_PAMP_AMP n) (getBits 0 20 (s.profWord n p 3))
  (s1.setSel (ftwSel n) (unsigned 64 (signed 48 f))).put (F.FC_PCMD_STATUS n) stOk

/-- FCn_PCMD.WRITE (R171, R175): the holding registers into the selected profile. -/
def State.profWrite (s : State) (n : Nat) : State :=
  let p := s.fld (F.FC_PSEL_PROF n)
  let f := s.getSel (ftwSel n) % 2 ^ 48
  let ws := [BitVec.ofNat 32 f, BitVec.ofNat 32 (f / 2 ^ 32), s.rd (F.FC_PPHASE_POFS n).a,
    BitVec.ofNat 32 (s.fld (F.FC_PAMP_AMP n))]
  ({ s with mem := { s.mem with prof := Sp.setMany (fun _ => (0 : Word)) s.mem.prof (256 * n + 4 * p) ws } }).put
    (F.FC_PCMD_STATUS n) stOk

/-! ### Calibration and read-back -/

/-- The monitor ADC is busy. -/
def State.monBusy (s : State) : Bool := s.monUses 0x25

/-- A job of the monitor ADC begins for a channel. -/
def State.monBegin (s : State) (n job : Nat) : State :=
  (s.setFc n { s.fcn n with job := job, calAt := none }).startWake 0x25

/-- The owning sequencer of a channel is ARMED, RUNNING or PAUSED. -/
def State.fcOwnerActive (s : State) (n : Nat) : Bool := match s.fcOwner n with | some q => s.sqActive q | none => false

/-- FCn_CAL.RUN (R183): where cluster and monitor are awake the codes begin at once. -/
def State.calRun (s : State) (n : Nat) : State :=
  if s.fcOwnerActive n || !s.hasK (n / 8) || (!s.flag F.CLK_STAT_LOCK && !s.flag F.CLK_STAT_COAST) then
    s.put (F.FC_CAL_STATUS n) stState
  else if s.monBusy then s.put (F.FC_CAL_STATUS n) stBusy
  else
    let s1 := ((s.monBegin n 1).startWake (8 + n / 8)).put (F.FC_CAL_BUSY n) 1
    (if s1.awake (8 + n / 8) then s1.offHold n else s1).calStart

/-- CAL_DONE (R183): the trims of the unit apply; the output returns to rest through the datapath. -/
def execCalDone (fc : Fin 64) (gain ofs : Int) (s : State) : Host.Outcome State Fault Refusal :=
  let n := fc.val
  if s.live && decide ((s.fcn n).job = 1) && s.awake 0x25 && s.awake (8 + n / 8) then
    let lim := fun (v : Int) => unsigned 16 (max (-20000) (min 20000 v))
    let s1 := (s.setFc n { s.fcn n with job := 0, calAt := none }).restFc false n
    let s2 := ((s1.put (F.FC_CALRES_TRIM_G n) (lim gain)).put (F.FC_CALRES_TRIM_O n) (lim ofs)).raise (F.FC_STAT_CAL_DONE n)
    .next ((s2.put (F.FC_CAL_BUSY n) 0).put (F.FC_CAL_STATUS n) stOk).sleepIdle.pllIdle
  else .next s

/-- FCn_CAL.SAVE (R183, R304, R305). -/
def State.calSave (s : State) (n : Nat) : State :=
  s.beginSave (F.FC_CAL_BUSY n) (F.FC_CAL_STATUS n)
    [(64 + 2 * n, BitVec.ofNat 32 (s.fld (F.FC_CALRES_TRIM_G n))), (65 + 2 * n, BitVec.ofNat 32 (s.fld (F.FC_CALRES_TRIM_O n)))]

/-- A command of FCn_CAL. -/
def calCmd (n i : Nat) (s : State) : State := if i = 0 then s.calRun n else s.calSave n

/-- FCn_RB.RUN (R187): BUSY while a calibration or a check of the channel runs, whatever its route (R190). -/
def State.rbRun (s : State) (n : Nat) : State :=
  if (s.fcn n).job ≠ 0 then s.put (F.FC_RB_STATUS n) stBusy
  else if !s.flag (F.FC_STAT_AT_REST n) then s.put (F.FC_RB_STATUS n) stState
  else if s.monBusy || s.flag F.SUP_MON_CMD_BUSY then s.put (F.FC_RB_STATUS n) stBusy
  else (s.monBegin n 2).put (F.FC_RB_BUSY n) 1

/-- A read-back check ends (R187, R321). -/
def State.rbDone (s : State) (n : Nat) (code : Int) : State :=
  let c := max (-524288) (min 524287 code)
  let pass := decide ((c - s.restCode n).natAbs ≤ s.fld (F.FC_RB_TOL_TOL n))
  let s1 := (s.setFc n { s.fcn n with job := 0 }).put (F.FC_RB_VAL_CODE n) (unsigned 20 c)
  let s2 := (s1.put (F.FC_RB_PASS n) (b2n pass)).put (F.FC_RB_BUSY n) 0
  let s3 := if pass then s2
    else (s2.raise (F.FC_STAT_RB_FAIL n)).log 0x14 0x02 1 n (unsigned 32 c + 2 ^ 32 * unsigned 32 (s.restCode n))
  (s3.put (F.FC_RB_STATUS n) stOk).sleepIdle.pllIdle

/-- RB_DONE. -/
def execRbDone (fc : Fin 64) (code : Int) (s : State) : Host.Outcome State Fault Refusal :=
  if s.live && decide ((s.fcn fc.val).job = 2) && s.awake 0x25 then .next (s.rbDone fc.val code) else .next s

/-! ### Registers -/

/-- A signed trim of 13 bits lies within ±4,000 steps. -/
def trimOk (v : Word) : Bool := decide ((signed 13 (getBits 0 13 v)).natAbs ≤ 4000)

/-- Locked bits of a FINE register: BW while the owning sequencer is active (R177), the hop fields while it is (R174). -/
def State.fineLocks (s : State) (a : Nat) : Word :=
  let n := (a - 0x80000) / 0x400
  if !s.fcOwnerActive n then 0 else if a % 0x400 = 0 then 1 else if a % 0x400 = 0x14 then wholeLock else 0

/-- A write to a register of FCn that has passed the checks of R276. -/
def State.fineWrite (s : State) (a : Nat) (v : Word) : State :=
  let n := (a - 0x80000) / 0x400
  match a % 0x400 with
  | 0x000 =>
    let old := s.fld (F.FC_CFG_BW n)
    let s1 := s.plain a v
    if s1.fld (F.FC_CFG_BW n) ≠ old then s1.restFc false n else s1
  | 0x010 => if trimOk v then s.plain a v else s.raise (F.FC_STAT_RANGE_ERR n)
  | 0x024 => s.command (F.FC_PCMD_STATUS n) (s.flag (F.FC_PCMD_BUSY n)) [0, 1] v
      (fun i t => if i = 0 then t.profRead n else t.profWrite n)
  | 0x028 => s.command (F.FC_CAL_STATUS n) (s.flag (F.FC_CAL_BUSY n)) [0, 1] v (calCmd n)
  | 0x030 => s.command (F.FC_RB_STATUS n) (s.flag (F.FC_RB_BUSY n)) [0] v (fun _ t => t.rbRun n)
  | _ => s.plain a v

end Sys2Proof.Machine
end

