-- ==== Sys2Proof/Machine/Vector.lean ====
section
/-! DEFINITION. Vector pins, compare, fail log and raw capture (R191–R215), the VEC and CAPT registers, and the rows of the
DRAM command timeline (R137–R146, R165, R166, R231–R236). -/

namespace Sys2Proof.Machine

/-! ### Compare and fail log -/

/-- Output tick `h` is compared and captured: a follower with FOLLOWER_RUN = 0 does neither (R214), nor for the ticks before the takeover
tick once it leads (R351). -/
def State.comparing (s : State) (h : Nat) : Bool :=
  s.flag F.CAPT_CTRL_FOLLOWER_RUN || (decide (s.role ≠ roleFollower) && s.mir.tookAt.all (fun k => decide (k ≤ h)))

/-- Stamp of output tick `h` of the heat. -/
def State.stampOf (s : State) (h : Nat) : Nat := s.tickThen h % 2 ^ 48

/-- The fail-log mask of bank `b` in force for the vectors of output tick `h` (R201). -/
def State.maskAt (s : State) (b h : Nat) : Word := s.outAt (F.CAPT_FLMASK_MASK b).a h

/-- The state that the comparators of pin `vp` resolve for a voltage at output tick `h`, by the thresholds in force then (R193, R201). -/
def State.compAt (s : State) (vp h : Nat) (uv : Int) : Comp :=
  let w := s.outAt (F.VP_VTH_VTH_LO vp).a h
  compOf (getBits 0 12 w) (getBits 16 12 w) uv

/-- The code of pin `p` of bank `b` in vector `v` of output tick `h`, and the sequencer that plays it; none at rest, in a hold,
or in a missing tick (R105, R191, R194). -/
def State.codeAt (s : State) (b p v h : Nat) : Option (Nat × Nat) :=
  match s.vpOwner (32 * b + p) with
  | none => none
  | some n => match s.playedAt n h with
    | none => none
    | some (x, d) =>
      let ls := s.lanesOf n
      let j := laneIdx ls (.vec b)
      if ((s.sqn n).gapAt j h).isSome || !(match (s.capt b).joined with | some t => decide (t ≤ h) | none => false) then none
      else some (n, vecCode (s.lapTrack n ls x d j) (s.lapOfs n x d) v p)

/-- LAP and EXT of SQn at output tick `h` (R204). -/
def State.lapAtTick (s : State) (n h : Nat) : Nat × Nat :=
  let q := s.sqn n
  match s.playedAt n h with
  | none => (0, 0)
  | some (v, d) =>
    let len := max (s.entry n v.entry).len 1
    let lap := d / len + 1
    let e := match q.past.find? (fun p => decide (p.v.f = v.f)) with
      | some p => ((p.stop - 1 - v.f) / len + 1, p.ext)
      | none => ((q.lapAt - v.f) / len + 1, s.fld (F.SQ_POS_EXT n))
    (min lap (2 ^ 24 - 1), e.2 - (e.1 - lap))

/-- Entry and offset in the lap that SQn plays at output tick `h`. -/
def State.spotAt (s : State) (n h : Nat) : Nat × Nat :=
  match s.playedAt n h with
  | some (v, d) => (v.entry, s.lapOfs n v d)
  | none => (0, 0)

/-- A FAIL record (R204). -/
def State.failRec (s : State) (b n h : Nat) (dropped : Bool) (mask : Nat) (fails : Nat) : Rec :=
  let (e, t) := s.spotAt n h
  let (lap, ext) := s.lapAtTick n h
  wordsOf (leBytes 6 (s.stampOf h) ++ leBytes 1 1 ++ leBytes 1 b ++ leBytes 1 n ++ leBytes 1 (b2n dropped) ++ leBytes 2 e ++
    leBytes 2 (s.entry n e).seg ++ leBytes 2 fails ++ leBytes 4 (lap + 2 ^ 24 * (ext % 256)) ++ leBytes 4 t ++
    leBytes 8 0 ++ leBytes 32 mask)

/-- The SUMMARY record of a bank's drops (R205). -/
def CaptBank.summary (c : CaptBank) (b : Nat) : Rec :=
  wordsOf (leBytes 6 c.dropFirst ++ leBytes 1 2 ++ leBytes 1 b ++ leBytes 4 (min c.drops (2 ^ 32 - 1)) ++
    leBytes 4 (min c.dropFails (2 ^ 32 - 1)) ++ leBytes 6 c.dropLast ++ List.replicate 42 0)

/-- Space has freed after drops: the SUMMARY record enters the bank's buffer first (R205). -/
def State.summaryIn (s : State) (b : Nat) : State :=
  let c := s.capt b
  if c.drops = 0 ∨ 1024 ≤ c.fails.length then s
  else s.setCapt b { c with fails := c.fails ++ [(c.dropFirst, c.summary b)], drops := 0, dropFails := 0, dropped := true }

/-- SUMMARY. -/
def execSummary (b : Fin 4) (s : State) : Host.Outcome State Fault Refusal :=
  if s.live then .next (s.summaryIn b.val) else .next s

/-- A FAIL record of output tick `h` enters its bank's buffer, or is dropped (R205). -/
def State.failIn (s : State) (b n h mask fails : Nat) : State :=
  let s1 := s.summaryIn b
  let c := s1.capt b
  let st := s1.stampOf h
  if 1024 ≤ c.fails.length then
    let s2 := (s1.bump (F.CAPT_FLDROP_DROPPED b)).raise F.CAPT_STAT_FL_DROP
    s2.setCapt b { c with drops := c.drops + 1, dropFails := c.dropFails + fails,
                          dropFirst := if c.drops = 0 then st else c.dropFirst, dropLast := st }
  else s1.setCapt b { c with fails := c.fails ++ [(st, s1.failRec b n h c.dropped mask fails)], dropped := false }

/-- A source's pulse events that have not been seen in this tick are seen (R115, R202). -/
def State.pulseOnce (s : State) (src : Nat) : State :=
  (List.range 64).foldl (fun t ev =>
    if t.evSrc ev = src ∧ !t.evLevelKind ev ∧ !(t.ev.seenTick = t.tm.tb && bitOf t.ev.seen ev) then t.pulse ev else t) s

/-- The voltage that the strobe of vector `v` finds at pin `p`; one that is not listed finds 0 V (log 8). -/
def strobeUv (l : List Strobe) (p v : Nat) : Int :=
  ((l.find? (fun x => decide (x.p.val = p) && decide (x.v.val = v))).map (fun x => x.uv)).getD 0

/-- The unmasked failing vectors of a bank in an output tick (R202): pin, vector, sequencer. -/
def State.failsOf (s : State) (b h : Nat) (l : List Strobe) : List (Nat × Nat × Nat) :=
  (List.range 8).flatMap (fun v => (List.range 32).filterMap (fun p => match s.codeAt b p v h with
    | some (n, c) =>
      if Sys2Proof.Machine.fails c (s.compAt (32 * b + p) h (strobeUv l p v)) && !bitOf (s.maskAt b h).toNat p then some (p, v, n) else none
    | none => none))

/-- The state that pin `p` of a bank resolves last in an output tick, where it plays there. -/
def State.lastComp (s : State) (b h : Nat) (l : List Strobe) (p : Nat) : Option Comp :=
  ([7, 6, 5, 4, 3, 2, 1, 0].find? (fun v => (s.codeAt b p v h).isSome)).map (fun v => s.compAt (32 * b + p) h (strobeUv l p v))

/-- COMPARE_REPORT (R202–R204): the results of output tick `h` of bank `b`, in the 16th tick after it. The compare-fail events of a
follower feed its own records only (R214). -/
def State.compare (s : State) (b h : Nat) (l : List Strobe) : State :=
  let s0 := s.passTo (s.tickNow h + 16).toNat
  let s1 := (List.range 32).foldl (fun t p => match s0.lastComp b h l p with
    | some c => t.put (F.VP_STAT_COMP (32 * b + p)) (compCode c)
    | none => t) s0
  let fs := s1.failsOf b h l
  if fs.isEmpty then s1
  else
    let s2 := fs.foldl (fun t f => (t.bump (F.VP_FCNT_FAILS (32 * b + f.1))).raise (F.VP_STAT_FAIL (32 * b + f.1))) s1
    let s3 := s2.raise (F.VB_STAT_FAIL b)
    let s4 := if s3.flag (F.VB_CFG_FL_ON b) then
        (List.range 8).foldl (fun t n =>
          let g := fs.filter (fun f => decide (f.2.2 = n))
          if g.isEmpty then t
          else t.failIn b n h (g.foldl (fun m f => putBit m (32 * f.2.1 + f.1) true) 0) g.length) s3
      else s3
    if s4.role = roleFollower then s4 else (s4.pulseOnce (0x30 + b)).pulseOnce 0x34

/-- COMPARE_REPORT. -/
def execCompareReport (b : Fin 4) (tick : Nat) (strobes : List Strobe) (s : State) : Host.Outcome State Fault Refusal :=
  if s.live && s.comparing tick && s.awake (16 + b.val) && s.awake 0x23 && decide (tick < s.seenAt + 1)
      && s.comes (s.tickNow tick + 16).toNat then
    .next (s.compare b.val tick strobes).noteLevels
  else .next s

/-! ### Records into CAPQ -/

/-- The pending records of a rank over the banks: stamp, bank. -/
def State.pendingRecs (s : State) (span : Bool) : List (Nat × Nat) :=
  (List.range 4).filterMap (fun b =>
    match (if span then (s.capt b).spans else (s.capt b).fails) with
    | (st, _) :: _ => some (st, b)
    | [] => none)

/-- The bank whose record enters next: SPAN records first, the lowest stamp, the lowest bank (R205). -/
def State.nextRec (s : State) : Option (Bool × Nat) :=
  let first := fun (l : List (Nat × Nat)) => l.foldl (fun (b : Option (Nat × Nat)) x => match b with
    | none => some x
    | some y => if x.1 < y.1 then some x else some y) none
  match first (s.pendingRecs true) with
  | some (_, b) => some (true, b)
  | none => (first (s.pendingRecs false)).map (fun x => (false, x.2))

/-- A SPAN record that waits takes the space that has freed (R210). -/
def CaptBank.takeWait (c : CaptBank) : CaptBank :=
  match c.wait with
  | some r => if c.spans.length < 16 then { c with spans := c.spans ++ [r], wait := none } else c
  | none => c

/-- FAIL_RECORD_ENTER (R205): at most one record in a tick. -/
def State.recEnter (s : State) : State :=
  match s.nextRec with
  | none => s
  | some (span, b) =>
    if s.qFull 11 || (decide (s.cap.tick = some s.tm.tb) && !s.flag F.TB_STAT_COUNTING) then s
    else
      let s1 := if s.cap.tick = some s.tm.tb then s.advance 1 else s
      let c := s1.capt b
      let r := ((if span then c.spans else c.fails).head?.map (fun x => x.2)).getD []
      let c1 := if span then ({ c with spans := c.spans.tail }).takeWait else { c with fails := c.fails.tail }
      let s2 := (s1.setCapt b c1).enter 11 r
      { s2 with cap := { s2.cap with tick := some s2.tm.tb } }

/-- FAIL_RECORD_ENTER. -/
def execFailRecordEnter (s : State) : Host.Outcome State Fault Refusal :=
  if s.live then .next s.recEnter else .next s

/-! ### Raw capture -/

/-- The ring of a bank is invalid (R207). -/
def State.ringBad (s : State) (b : Nat) : Bool :=
  let size := s.fld (F.CAPT_RING_SIZE_SIZE b)
  let base := s.getSel (0x2800 + b)
  decide (size < 64) || decide (base < s.resBytes) || decide (s.resBytes + s.heatBytes < base + 64 * size)

/-- The granule offset at which the bank's next granule goes: behind what its write buffer holds. -/
def State.captPos (s : State) (b : Nat) : Nat :=
  (s.fld (F.CAPT_RING_WR_WR b) + (s.capt b).wbuf.length) % max (s.fld (F.CAPT_RING_SIZE_SIZE b)) 1

/-- The cause for which a captured tick of a bank is lost, if any (R210). -/
def State.lossCause (s : State) (b : Nat) : Option Nat :=
  let c := s.capt b
  if s.ringBad b then some 3
  else if (s.dramCh (s.getSel (0x2800 + b) + 64 * s.captPos b)).isNone then some 3
  else if c.wait.isSome then some 2
  else if s.fld (F.CAPT_RING_SIZE_SIZE b) ≤ s.ringLvl b + c.wbuf.length + 1 then some 0
  else if 512 ≤ c.wbuf.length then some 1
  else none

/-- The SPAN record of a span (R209). -/
def Span.record (x : Span) (b n : Nat) : Rec :=
  wordsOf (leBytes 6 x.stamp ++ leBytes 1 3 ++ leBytes 1 b ++ leBytes 1 n ++
    leBytes 1 (b2n x.two + 2 * b2n x.cont + 4 * b2n (decide (x.lost ≠ 0))) ++ leBytes 2 x.entry ++ leBytes 4 x.ticks ++
    leBytes 8 x.ofs ++ leBytes 4 x.lost ++ List.replicate 36 0)

/-- The span of a bank closes (R209): half a granule is padded, and its record waits in front of CAPQ (R210). -/
def State.closeSpan (s : State) (b : Nat) : State :=
  let c := s.capt b
  match c.span with
  | none => s
  | some x =>
    let w := if x.half.isEmpty then c.wbuf else c.wbuf ++ [(s.captPos b, 1, padTo 64 x.half)]
    let r := (x.stamp, x.record b (s.fld (F.VB_CFG_CAPT_SQ b)))
    let c1 := { c with span := none, lastF := some x.f, wbuf := w }
    s.setCapt b (if c1.spans.length < 16 then { c1 with spans := c1.spans ++ [r] } else { c1 with wait := some r })

/-- The bytes of a captured bank-tick (R206): `two` the width; a strobe that is not listed finds 0 V at its pin (log 8). -/
def State.bankTick (s : State) (b n h : Nat) (two : Bool) (l : List Strobe) : List Byte :=
  let bit := fun p v =>
    let uv := strobeUv l p v
    let vp := 32 * b + p
    let w := s.outAt (F.VP_VTH_VTH_LO vp).a h
    let above := fun (mv : Nat) => b2n (decide ((1000 * mv : Int) < uv))
    let inn := s.flag (F.VP_CFG_CAPT vp) && (match s.codeAt b p v h with
      | some (m, c) => decide (m = n) && decide (c ≠ 7)
      | none => false)
    if two then (if inn then compCode (s.compAt vp h uv) else 2)
    else if inn then above (if s.flag (F.VP_CFG_CAPT1_LO vp) then getBits 0 12 w else getBits 16 12 w) else 0
  let bits := if two then 2 else 1
  leBytes (32 * bits) ((List.range 8).foldl (fun m v => (List.range 32).foldl (fun m' p =>
    m' + bit p v * 2 ^ (bits * (32 * v + p))) m) 0)

/-- `k` captured ticks of bank `b` are lost (R210). -/
def State.loseTicks (s : State) (b k cause : Nat) : State :=
  let c := s.capt b
  (((s.setCapt b { c with lost := c.lost + k, cause := if c.lost = 0 then cause else c.cause }).raise F.CAPT_STAT_CAPT_LOST).raise
    (F.CAPT_RING_FLAGS_LOST b)).addTo (F.CAPT_RING_LOST_LOST_TICKS b) k

/-- A capture write that would go to a fenced channel yields to the fence (R166, R167). -/
def State.fenceYield (s : State) (a : Nat) : State :=
  match s.dramCh a, s.dramLocs a with
  | none, l :: _ => s.yieldRungs 2 4 l.1 1
  | _, _ => s

/-- A captured tick is lost (R210). -/
def State.loseTick (s : State) (b cause : Nat) : State :=
  let s1 := (s.closeSpan b).loseTicks b 1 cause
  if s1.ringBad b then s1.raise F.CAPT_STAT_RING_BAD
  else if cause = 3 then s1.fenceYield (s.getSel (0x2800 + b) + 64 * s.captPos b) else s1

/-- The CAPT_LOST record of a bank's lost ticks (R210). -/
def State.lostRec (s : State) (b : Nat) : State :=
  let c := s.capt b
  if c.lost = 0 then s
  else (s.eventNow 0x18 0x02 (b + 2 ^ 8 * c.cause + 2 ^ 32 * (c.lost % 2 ^ 32))).setCapt b { c with lost := 0, cause := 0 }

/-- A captured tick of a bank is written (R206, R209): it opens a span or continues the open one. -/
def State.keepTick (s : State) (b h f e : Nat) (two : Bool) (bytes : List Byte) : State :=
  let s1 := match (s.capt b).span with
    | some _ => s
    | none =>
      let c := s.capt b
      let x : Span := ⟨s.stampOf h, e, two, f, 0, 64 * s.captPos b, decide (c.lastF = some f), c.lost, []⟩
      let s' := s.lostRec b
      s'.setCapt b { s'.capt b with span := some x }
  let c := s1.capt b
  match c.span with
  | none => s1
  | some x =>
    let data := x.half ++ bytes
    let full := decide (64 ≤ data.length)
    let c1 := { c with span := some { x with ticks := x.ticks + 1, half := if full then [] else data },
                       wbuf := if full then c.wbuf ++ [(s1.captPos b, if two then 1 else 2, data)] else c.wbuf }
    let s2 := s1.setCapt b c1
    if x.ticks + 1 = 4096 then s2.closeSpan b else s2

/-- Output tick `h` is looked at for the capture of bank `b` (R206, R209). A pause before it ends a span. -/
def State.captTick (s0 : State) (b h : Nat) (l : List CaptTick) : State :=
  let s := if s0.tm.past.any (fun x => x.pause && decide (x.stop = h)) then s0.closeSpan b else s0
  let n := s.fld (F.VB_CFG_CAPT_SQ b)
  let two := s.flag (F.VB_CFG_CAPT_2BIT b)
  match s.playedAt n h with
  | none => s.closeSpan b
  | some (v, _) =>
    let s1 := match (s.capt b).span with
      | some x => if x.f = v.f then s else s.closeSpan b
      | none => s
    if !s1.flag (F.VB_CFG_CAPT_ON b) || !(s1.entry n v.entry).captEn || !s1.comparing h then s1.closeSpan b
    else match s1.lossCause b with
      | some cause => s1.loseTick b cause
      | none =>
        let st := (l.filter (fun x => decide (x.bank.val = b) && decide (x.tick = h))).flatMap (fun x => x.states)
        s1.keepTick b h v.f v.entry two (s1.bankTick b n h two st)

/-- Bank `b` looks at every output tick up to `upTo`, not included. -/
def State.captUp (s : State) (b upTo : Nat) (l : List CaptTick) : State :=
  let from' := (s.capt b).next
  let s1 := (List.range (upTo - from')).foldl (fun t i => t.captTick b (from' + i) l) s
  if from' < upTo then s1.setCapt b { s1.capt b with next := upTo } else s1

/-- Ticks of a span whose data lie in whole granules before granule `g` of a ring of `size` granules; none where the span has not put
granule `g` into the write buffer. -/
def Span.before (x : Span) (size g : Nat) : Option Nat :=
  let per := if x.two then 1 else 2
  let k := (g + size - x.ofs / 64) % size
  if (k + 1) * per ≤ x.ticks then some (k * per) else none

/-- A granule of the open span of bank `b` is lost, `k` ticks after the span's first: the span closes before it, and what was captured after
it is a span of its own, which continues the visit (R209). Where the closed span's record finds no space, those ticks are lost too
(R210). -/
def State.splitSpan (s : State) (b k lost : Nat) : State :=
  let c := s.capt b
  match c.span with
  | none => s.loseTicks b lost 3
  | some x =>
    let per := if x.two then 1 else 2
    let s1 := if k = 0 then s.setCapt b { c with span := none }
      else ((s.setCapt b { c with span := some { x with ticks := k, half := [] } }).closeSpan b)
    let s2 := s1.loseTicks b lost 3
    let left := x.ticks - (k + lost)
    let c2 := s2.capt b
    if left = 0 then s2
    else if c2.wait.isSome then (s2.setCapt b { c2 with wbuf := c2.wbuf.drop (c2.wbuf.length - left / per) }).loseTicks b left 2
    else
      let y : Span := { x with stamp := x.stamp + k + lost, ticks := left, ofs := x.ofs + 64 * (k / per + 1),
                               cont := x.cont || decide (k ≠ 0), lost := c2.lost + if k = 0 then x.lost else 0 }
      let s3 := s2.lostRec b
      s3.setCapt b { s3.capt b with span := some y }

/-- A granule of bank `b` that would land on a fenced channel is lost with the ticks that it holds, cause 3 (R210, R242), and its write yields. -/
def State.loseGran (s : State) (b g k : Nat) : State :=
  let a := s.getSel (0x2800 + b) + 64 * g
  match (s.capt b).span.bind (fun x => x.before (max (s.fld (F.CAPT_RING_SIZE_SIZE b)) 1) g) with
  | some t => (s.splitSpan b t k).fenceYield a
  | none => (s.loseTicks b k 3).fenceYield a

/-- Granule `g` of bank `b`'s ring is written, and its channel wakes for it (R237), or is lost. -/
def State.granWrite (s : State) (b g k : Nat) (d : List Byte) : State :=
  let a := s.getSel (0x2800 + b) + 64 * g
  match s.dramCh a with
  | some c => (s.channelWake c).dramPut a d
  | none => s.loseGran b g k

/-- The oldest granule of a bank's write buffer is written to the ring, and WR and the level rise: MARK may be crossed (R208). -/
def State.ringPut (s : State) (b : Nat) : State :=
  let c := s.capt b
  match c.wbuf with
  | [] => s
  | (g, k, d) :: rest =>
    let size := max (s.fld (F.CAPT_RING_SIZE_SIZE b)) 1
    let s1 := (s.setCapt b { c with wbuf := rest }).granWrite b g k d
    let s2 := s1.put (F.CAPT_RING_WR_WR b) ((g + 1) % size)
    let l := s2.ringLvl b
    if s2.fld (F.CAPT_RING_MARK_MARK b) ≠ 0 ∧ l = s2.fld (F.CAPT_RING_MARK_MARK b) then
      ((s2.raise (F.CAPT_RING_FLAGS_XING b)).bump (F.CAPT_RING_FLAGS_XING_COUNT b)).eventNow 0x18 0x01 (b + 2 ^ 32 * l)
    else s2

/-- The oldest granule of a bank's write buffer is written outside a heat, where no row limits it; it stays in the buffer while its channel
serves nothing (R237, R240). -/
def State.ringGo (s : State) (b : Nat) : State :=
  match (s.capt b).wbuf with
  | [] => s
  | (g, _) :: _ =>
    match s.dramCh (s.getSel (0x2800 + b) + 64 * g) with
    | none => s.ringPut b
    | some c => if s.chWaits c then s.channelWake c else s.ringPut b

/-- What a bank still holds in its write buffer is written, as far as the channels serve. -/
def State.ringFlush (s : State) (b : Nat) : State := (List.range (s.capt b).wbuf.length).foldl (fun t _ => t.ringGo b) s

/-- SPAN_CLOSE (R209): bank `b` has looked at every tick up to now, and its span closes at the end of its visit, a hold, a
pause, a stop or the heat's end. -/
def State.spanClose (s : State) (b : Nat) (l : List CaptTick) : State :=
  let s1 := s.captUp b s.seenAt l
  let n := s1.fld (F.VB_CFG_CAPT_SQ b)
  let h := s1.seenAt
  let goes := decide (s1.fld F.SEQ_STAT_HEAT = 3) && (match (s1.capt b).span, (s1.sqn n).visit with
    | some x, some v => decide (v.f = x.f) && (match (s1.sqn n).hold with | some d => decide (h < d.o) | none => true)
    | _, _ => false)
  let s2 := if goes then s1 else s1.closeSpan b
  if s2.fld F.SEQ_STAT_HEAT < 2 then (s2.ringFlush b).lostRec b else s2

/-- SPAN_CLOSE. -/
def execSpanClose (b : Fin 4) (capture : List CaptTick) (s : State) : Host.Outcome State Fault Refusal :=
  if s.live then .next (s.spanClose b.val capture) else .next s

/-! ### Rows of the timeline (R231) -/

/-- The allotment byte `i` of the row for channel `c`; of a held sequencer none (R144). -/
def State.rowAllot (s : State) (row c i : Nat) : Nat :=
  if i < 24 ∧ (s.sqn (i % 8)).off then 0
  else (Sp.get (fun _ => (0 : Byte)) s.plan.tl (256 * (row % max s.plan.rows 1) + 32 * c + i)).toNat

/-- What a row reports of channel `c` (R230). -/
def rowDemand (r : RowReport) (c : Nat) : RowDemand :=
  (r.demands.find? (fun d => decide (d.ch.val = c))).getD ⟨0, [], 0, 0, 0⟩

/-- Staging loads of SQn ask for granules only while a block is copied (R150). -/
def State.stgOn (s : State) (d : RowDemand) (n : Nat) : Nat := if (s.copying n).isEmpty then 0 else d.stg.getD n 0

/-- Real-time granules asked of channel `c`: running and tail fetches, unplanned fetches, staging loads. -/
def State.rowRt (s : State) (c : Nat) (d : RowDemand) : Nat :=
  ((List.range 8).map (fun n => onCh (s.sqn n).want c + onCh (s.sqn n).tail c + s.stgOn d n)).sum

/-- Running and tail fetches of ports in panic that their own allotments leave unserved (R233). -/
def State.panicLeft (s : State) (row c : Nat) : Nat :=
  ((List.range 8).map (fun n => if s.flag (F.DRAM_PORT_PANIC n) then
      (s.priOn n c - s.rowAllot row c n) + (s.altOn n c - s.rowAllot row c (8 + n))
    else 0)).sum

/-- Granules served within the requesters' own allotments. -/
def State.ownServed (s : State) (row c capw : Nat) (d : RowDemand) : Nat :=
  ((List.range 8).map (fun n => min (s.priOn n c) (s.rowAllot row c n) + min (s.altOn n c) (s.rowAllot row c (8 + n)) +
    min (s.stgOn d n) (s.rowAllot row c (16 + n)))).sum +
  min capw (s.rowAllot row c 24) + min d.capr (s.rowAllot row c 25) + min d.ingest (s.rowAllot row c 26)

/-- REF commands of a row, and refreshes that the temperature report adds (R234, R236). -/
def State.rowRefresh (s : State) (row c : Nat) (wait : Bool) : State :=
  let s1 := (List.range (s.rowAllot row c 27)).foldl (fun t _ => if wait then t.owe c else t.refresh c) s
  let d := s1.dch c
  let add := (s1.refMult c - s1.plan.refMult) * 16 * (320000 / max s1.clk.lockN 1)
  let k := (d.extra + add) / Config.trefiPs
  let s2 := s1.setDch c { d with extra := (d.extra + add) % Config.trefiPs }
  (List.range k).foldl (fun t _ => t.owe c) s2

/-- Granules that a held sequencer's reads and staging loads ask of channel `c`: unplanned fetches, in open capacity alone (R144). -/
def State.unplanned (s : State) (c : Nat) (d : RowDemand) (n : Nat) : Nat :=
  if (s.sqn n).off then s.openOn n c + s.stgOn d n else 0

/-- `u` granules of channel `c` go to the sequencers that have held, in ascending index (R166): reads, then staging loads. -/
def State.serveHeld (s : State) (c u : Nat) (d : RowDemand) : State :=
  (((List.range 8).filter (fun n => (s.sqn n).off)).foldl (fun (x : State × Nat) n =>
    let y := x.1.serveUp n c x.2
    (y.1, y.2 - s.stgOn d n)) (s, u)).1

/-- A channel serves the readers (R231, R233, R144): each within its allotments, then `p` granules of ports in panic, then `u` of
sequencers that have held; within each, ascending (R166). -/
def State.rowServe (s : State) (row c p u : Nat) (d : RowDemand) : State :=
  let s1 := (List.range 8).foldl (fun t n =>
    t.serve n c (min (s.priOn n c) (s.rowAllot row c n)) (min (s.altOn n c) (s.rowAllot row c (8 + n)))) s
  (s1.serveAll c p (fun n => s.flag (F.DRAM_PORT_PANIC n) && !(s.sqn n).off)).serveHeld c u d

/-- One channel's part of a row: refreshes, who is served, what yields to what, what open capacity is left, and how many capture granules
the channel takes. A channel in self-refresh wakes for a request, and serves it in a later row (R237). -/
def State.rowChannel (s : State) (row c capw : Nat) (d : RowDemand) : State × Nat :=
  let rt := s.rowRt c d
  let retr := s.flag (retrainBit c)
  let asked := decide (0 < rt + capw + d.capr + d.ingest + d.mgmt)
  let spare := fun (t : State) (k : Nat) => { t with plan := { t.plan with openLeft := Sp.set (fun _ => 0) t.plan.openLeft c k } }
  if s.flag (selfRef c) then (spare (if asked then s.channelWake c else s) 0, 0)
  else
    let sw := if asked then s.channelWake c else s
    let panic := s.panicLeft row c
    let unplanned := ((List.range 8).map (fun n => s.unplanned c d n)).sum
    let wait := retr || decide (0 < unplanned) || (List.range 8).any (fun n =>
      s.flag (F.DRAM_PORT_PANIC n) && decide (0 < s.priOn n c + s.altOn n c))
    let s2 := sw.rowRefresh row c wait
    if retr then
      (spare ((((s2.yieldRungs 2 3 c rt).yieldRungs 2 4 c (capw + d.capr)).yieldRungs 2 5 c d.ingest).yieldRungs 2 6 c d.mgmt) 0, 0)
    else
      let open0 := capOf (rateOf (s.dram.rate.getD 0)) s.clk.lockN - s.ownServed row c capw d
      let p1 := min panic open0
      let tRfl := min (panic - p1) (min d.ingest (s.rowAllot row c 26))
      let tCapr := min (panic - p1 - tRfl) (min d.capr (s.rowAllot row c 25))
      let tCapw := min (panic - p1 - tRfl - tCapr) (min capw (s.rowAllot row c 24))
      let s3 := (s2.yieldRungs 3 5 c tRfl).yieldRungs 3 4 c (tCapr + tCapw)
      let u := min unplanned (open0 - p1)
      let wantR := d.capr - min d.capr (s.rowAllot row c 25)
      let r := min wantR (open0 - p1 - u)
      let wantI := d.ingest - min d.ingest (s.rowAllot row c 26)
      let i := min wantI (open0 - p1 - u - r)
      let g := min d.mgmt (open0 - p1 - u - r - i)
      let top := p1 + u
      let s4 := s3.yieldRungs 3 4 c (min top (wantR - r))
      let s5 := (s4.yieldRungs 3 5 c (min top (wantI - i))).yieldRungs 4 5 c (min r ((wantI - i) - min top (wantI - i)))
      let s6 := s5.yieldRungs 3 6 c (min top (d.mgmt - g))
      let left := (d.mgmt - g) - min top (d.mgmt - g)
      let s7 := (s6.yieldRungs 4 6 c (min r left)).yieldRungs 5 6 c (min i (left - min r left))
      (spare (s7.rowServe row c (p1 + tRfl + tCapr + tCapw) u d) (open0 - p1 - u - r - i - g), min capw (s.rowAllot row c 24) - tCapw)

/-- Granules in the banks' write buffers that go to channel `c`. -/
def State.captWant (s : State) (c : Nat) : Nat :=
  ((List.range 4).map (fun b => ((s.capt b).wbuf.filter (fun g =>
    s.dramCh (s.getSel (0x2800 + b) + 64 * g.1) == some c)).length)).sum

/-- Write a bank's buffered granules while their channels have granules left; `left` is by channel. A granule for a fenced channel is
lost and waits for nothing. -/
def State.captDrain (b : Nat) : Nat → State × Sp Nat → State × Sp Nat
  | 0, x => x
  | k + 1, (s, left) =>
    match (s.capt b).wbuf with
    | [] => (s, left)
    | (g, _) :: _ =>
      match s.dramCh (s.getSel (0x2800 + b) + 64 * g) with
      | none => State.captDrain b k (s.ringPut b, left)
      | some c =>
        let n := Sp.get (fun _ => 0) left c
        if n = 0 then (s, left) else State.captDrain b k (s.ringPut b, Sp.set (fun _ => 0) left c (n - 1))

/-- A row of the timeline (R137, R231). -/
def State.timelineRow (s : State) (r : RowReport) : State :=
  let row := s.plan.row
  let s0 := (s.arrive (16 * row)).rowWants (16 * row)
  let s1 := (List.range 4).foldl (fun t b => if t.flag (F.VB_CFG_CAPT_ON b) || (t.capt b).span.isSome then
      t.captUp b (16 * row) r.capture else t.setCapt b { t.capt b with next := 16 * row }) s0
  let chs := (bits8 s1.plan.dcMask).filter (fun c => !s1.fenced c)
  let (s3, left) := chs.foldl (fun (x : State × Sp Nat) c =>
    let (t, k) := x.1.rowChannel row c (x.1.captWant c) (rowDemand r c)
    (t, Sp.set (fun _ => 0) x.2 c k)) (s1, [])
  let s4 := ((List.range 4).foldl (fun x b => State.captDrain b 512 x) (s3, left)).1
  { (s4.yieldsOf r.others) with plan := { s4.plan with row := row + 1 } }

/-! ### Registers -/

/-- A sequencer that owns a pin of bank `b` is ARMED, RUNNING or PAUSED (R200). -/
def State.bankActive (s : State) (b : Nat) : Bool := (List.range 8).any (fun n => s.ownsBank n b && s.sqActive n)

/-- Locked bits of a VEC or CAPT register (R200, R208). R200 locks the CAPT_RING registers as a whole, RD among them: DEDUCED from
its words, since R208 names OUTBOUND alone (log 26). -/
def State.vecLocks (s : State) (a : Nat) : Word :=
  if 0x90000 ≤ a ∧ a < 0x98000 then (if a % 0x100 = 0 ∧ s.bankActive ((a - 0x90000) / 0x2000) then wholeLock else 0)
  else if 0x98000 ≤ a ∧ a < 0x98100 then (if a % 0x40 = 0 ∧ s.bankActive ((a - 0x98000) / 0x40) then wholeLock else 0)
  else if a = 0xA0000 then (if s.anyActive then wholeLock else 0)
  else if 0xA0100 ≤ a ∧ a < 0xA0180 then
    let b := (a - 0xA0100) / 0x20
    if s.bankActive b ∨ (a % 0x20 = 8 ∧ s.flag F.CAPT_CTRL_OUTBOUND) then wholeLock else 0
  else 0

/-- A write to a register of VEC that has passed the checks of R276 (R197, R198). -/
def State.vecWrite (s : State) (a : Nat) (v : Word) : State :=
  if a < 0x98000 then
    let n := (a - 0x90000) / 0x100
    let bad := s.raise (F.VP_STAT_RANGE_ERR n)
    let lo := getBits 0 12 v
    let hi := getBits 16 12 v
    match a % 0x100 with
    | 0x04 => if lo ≤ 3000 ∧ hi ≤ 3000 then s.plain a v else bad
    | 0x08 => if lo ≤ 3000 ∧ hi ≤ 3000 ∧ lo ≤ hi then s.plain a v else bad
    | 0x0C => if trimOk v then s.plain a v else bad
    | 0x10 => if trimOk v then s.plain a v else bad
    | _ => s.plain a v
  else s.plain a v

/-- CAPT_RING_SIZE is written: both pointers return to 0 (R207, R208). -/
def State.ringSize (s : State) (b : Nat) (v : Word) : State :=
  let s1 := s.plain (0xA0100 + 0x20 * b) v
  ((s1.put (F.CAPT_RING_WR_WR b) 0).put (F.CAPT_RING_RD_RD b) 0).setCapt b { s1.capt b with wbuf := [] }

/-- CAPT_RING_RD is written by software (R208): a value outside the span from RD to WR is ignored. -/
def State.ringRd (s : State) (b : Nat) (v : Word) : State :=
  let n := s.fld (F.CAPT_RING_SIZE_SIZE b)
  let rd := s.fld (F.CAPT_RING_RD_RD b)
  if v.toNat < n ∧ (v.toNat + n - rd) % n ≤ s.ringLvl b then s.put (F.CAPT_RING_RD_RD b) v.toNat
  else if n = 0 ∧ v = 0 then s
  else s.raise F.CAPT_STAT_RANGE_ERR

/-- A write to a register of CAPT that has passed the checks of R276. -/
def State.captWrite (s : State) (a : Nat) (v : Word) : State :=
  if 0xA0100 ≤ a ∧ a < 0xA0180 then
    let b := (a - 0xA0100) / 0x20
    match a % 0x20 with
    | 0x00 => s.ringSize b v
    | 0x08 => s.ringRd b v
    | _ => s.plain a v
  else s.plain a v

/-- A read of a register of VEC or CAPT: the present drive state, the level of a ring. -/
def State.vecRead (s : State) (a : Nat) : Word :=
  if 0x90000 ≤ a ∧ a < 0x98000 ∧ a % 0x100 = 0x14 then
    let n := (a - 0x90000) / 0x100
    match s.vpOwner n with
    | some q => if s.fld F.SEQ_STAT_HEAT = 3 ∧ (s.sqn q).hold.isNone then (s.capture q s.tm.heat).rd a else s.rd a
    | none => s.rd a
  else if 0x98000 ≤ a ∧ a < 0x98100 ∧ a % 0x40 = 4 then
    let b := (a - 0x98000) / 0x40
    setBits 0 8 ((List.range 8).foldl (fun m n => putBit m n (s.ownsBank n b)) 0) (s.rd a)
  else if 0xA0100 ≤ a ∧ a < 0xA0180 ∧ a % 0x20 = 0x0C then BitVec.ofNat 32 (s.ringLvl ((a - 0xA0100) / 0x20))
  else s.cfgRead a

end Sys2Proof.Machine
end

