-- ==== Sys2Proof/Machine/Mirror.lean ====
section
/-! DEFINITION. Several devices (R333–R354): skew calibration, the mirror role and pair, the frames between partners, and the
takeover. A frame received is valid: its check has passed (a frame with a bad check is MIRROR_CRC_DROP's). -/

namespace Sys2Proof.Machine

/-! ### Skew calibration (R337–R341) -/

/-- SYNC_CTRL.STATUS. -/
def State.syncStatus (s : State) (st : Nat) : State := s.put F.SYNC_CTRL_STATUS st

/-- A command of SYNC_CTRL begins. -/
def State.syncBegin (s : State) (job : Nat) : State :=
  let s1 := s.put F.SYNC_CTRL_BUSY 1
  { s1 with mir := { s1.mir with job := job, calAt := if job = 1 then some s.tm.tb else none } }

/-- A command of SYNC_CTRL completes. -/
def State.syncDone (s : State) (st : Nat) : State :=
  let s1 := (s.syncStatus st).put F.SYNC_CTRL_BUSY 0
  { s1 with mir := { s1.mir with job := 0, calAt := none } }

/-- The timebase tick of the first pulse of SYNC_OUT in a CAL that began at `t`: the first aligned boundary from there on (R338). -/
def State.pulse0 (s : State) (t : Nat) : Nat := firstAligned s.clk.lockN (s.fld F.TB_STAT_TB_ALIGN) t

/-- The level of SYNC_OUT (R338): while CAL runs, high for 8 ticks from every 16th aligned boundary, 1,024 times. -/
def State.syncOut (s : State) : Bool :=
  match s.mir.calAt with
  | none => false
  | some t =>
    let p := 16 * max (alignPeriod s.clk.lockN) 1
    let d := s.tm.tb - s.pulse0 t
    decide (s.pulse0 t ≤ s.tm.tb) && decide (d / p < 1024) && decide (d % p < 8)

/-- The domains of the present clusters and banks. -/
def State.outDoms (s : State) : List Nat := ((List.range 12).map (fun i => 8 + i)).filter (fun d => s.domPresent d)

/-- The output of index `j` (R341) belongs to a present unit; pennants always do. -/
def State.outPresent (s : State) (j : Nat) : Bool :=
  if j < 64 then s.hasK (j / 8)
  else if j < 320 then s.hasVb ((j - 64) % 128 / 32)
  else true

/-- SYNC_CTRL.ALIGN (R337): OUT_EN drops, every present cluster and bank wakes, the outputs leave rest for the edges. -/
def State.alignCmd (s : State) : State :=
  if 2 ≤ s.fld F.SEQ_STAT_HEAT ∨ !s.flag F.CLK_STAT_LOCK then s.syncStatus stState
  else
    let s1 := s.syncBegin 2
    let s2 := ({ s1 with mir := { s1.mir with enLow := true } }).driveOutEn
    let s3 := s2.outDoms.foldl (fun t d => t.startWake d) s2
    let up := s3.outDoms.filter (fun d => s3.awake d)
    s3.alignOuts (up.flatMap domFcs) (up.flatMap domVps)

/-- One residual of ALIGN: stored within ±200 steps, else flagged (R337). -/
def State.alignOne (s : State) (j : Nat) (r : Int) : State :=
  if !s.outPresent j then s
  else if r.natAbs ≤ 200 then
    { s with mir := { s.mir with align := Sp.set (fun _ => (0 : Int)) s.mir.align j r } }
  else (s.raise F.SYNC_STAT_ALIGN_OOR).put F.SYNC_STAT_ALIGN_IDX j

/-- ALIGN_DONE (R337): residual `j` of the list is that of index `j`, in 0.5 ps steps; an index without one measured 0. -/
def State.alignDone (s : State) (l : List Int) : State :=
  let s1 := (List.range 352).foldl (fun t j => t.alignOne j (l.getD j 0)) s
  let bad := (List.range 352).any (fun j => s.outPresent j && decide (200 < (l.getD j 0).natAbs))
  let s2 := (s1.put F.SYNC_STAT_ALIGN_VALID 1).retrim s s.tm.tb
  let up := s2.outDoms.filter (fun d => s2.awake d)
  let s3 := s2.restOuts false (up.flatMap domFcs) (up.flatMap domVps)
  let s4 := ({ s3 with mir := { s3.mir with enLow := false } }).driveOutEn
  (s4.syncDone (if bad then stRange else stOk)).sleepIdle

/-- ALIGN_DONE. -/
def execAlignDone (trims : List Int) (s : State) : Host.Outcome State Fault Refusal :=
  if s.live && decide (s.mir.job = 2) then .next ((s.alignDone trims).pllIdle.noteLevels) else .next s

/-- SYNC_CTRL.CAL (R338). -/
def State.calCmd (s : State) : State :=
  if !s.flag F.CLK_STAT_LOCK then s.syncStatus stState else s.syncBegin 1

/-- CAL_COMPLETE (R338): mean and spread in 0.5 ps units; an edge that did not return ends it with TIMEOUT, a mean above
32,767 ps with RANGE. What SPREAD shows of a spread that it cannot hold is a free value (log 7); CAL_COUNT counts the commands that end
with OK (log 27). A result of all 1,024 edges does not come before the last of them. -/
def State.calComplete (s : State) (r : CalResult) : State :=
  match r with
  | .none => (s.raise F.SYNC_STAT_RET_NONE).syncDone stTimeout
  | .rt rt spread =>
    if 65534 < rt then s.syncDone stRange
    else
      let last := s.mir.calAt.elim s.tm.tb (fun t => s.pulse0 t + 16 * max (alignPeriod s.clk.lockN) 1 * 1023)
      let s0 := if s.comes last then s.passTo last else s
      let (sp, s1) := if spread < 65536 then (spread, s0) else (Config.freeNat s0.free % 65536, s0.takeFree)
      ((((s1.put F.SYNC_RT_RT rt).put F.SYNC_RT_SPREAD sp).put F.SYNC_STAT_CAL_VALID 1).bump F.SYNC_CNT_CAL_COUNT).syncDone stOk

/-- CAL_COMPLETE. -/
def execCalComplete (r : CalResult) (s : State) : Host.Outcome State Fault Refusal :=
  if s.live && decide (s.mir.job = 1) then .next (s.calComplete r).pllIdle else .next s

/-- The persistent words of SAVE (R341): OFS and the align trims. -/
def State.syncWords (s : State) : List (Nat × Word) :=
  (656, BitVec.ofNat 32 (s.fld F.SYNC_DEV_OFS_OFS)) ::
    (List.range 176).map (fun i => (664 + i,
      BitVec.ofNat 32 (unsigned 16 (s.alignTrim (2 * i)) + 2 ^ 16 * unsigned 16 (s.alignTrim (2 * i + 1)))))

/-- SYNC_CTRL.SAVE (R341, R304). -/
def State.syncSaveCmd (s : State) : State :=
  let s1 := s.beginSave F.SYNC_CTRL_BUSY F.SYNC_CTRL_STATUS s.syncWords
  if s1.flag F.SYNC_CTRL_BUSY then { s1 with mir := { s1.mir with job := 3 } } else s1

/-- A command of SYNC_CTRL. -/
def syncRun (i : Nat) (s : State) : State :=
  match i with
  | 1 => s.calCmd
  | 2 => s.alignCmd
  | _ => s.syncSaveCmd

/-- Locked bits of a SYNC register: GRID while a sequencer is active (SYNC_CTRL). -/
def State.syncLocks (s : State) (a : Nat) : Word := if a = 0x140000 ∧ s.anyActive then 1 else 0

/-- A write to a register of SYNC that has passed the checks of R276. -/
def State.syncWrite (s : State) (a : Nat) (v : Word) : State :=
  match a with
  | 0x140000 => (s.plain a v).command F.SYNC_CTRL_STATUS (s.flag F.SYNC_CTRL_BUSY) [1, 2, 3] v syncRun
  | 0x14000C => if trimOk v then (s.plain a v).retrim s s.tm.tb else s.raise F.SYNC_STAT_RANGE_ERR
  | _ => s.plain a v

/-- The drive state of a pin as seen while ALIGN drives edges through it, at moments that the spec does not give: a free value (R337; log 27). -/
def State.alignDrive (s : State) (a : Nat) (w : Word) : Word × State :=
  let n := (a - 0x90000) / 0x100
  if s.mir.job = 2 ∧ a % 0x100 = 0x14 ∧ !s.flag (F.VP_STAT_AT_REST n) then
    let f := F.VP_STAT_DRIVE n
    (setBits f.lo f.w (Config.freeNat s.free % 2) w, s.takeFree)
  else (w, s)

/-- A read of a register of SYNC. -/
def State.syncRead (s : State) (a : Nat) : Word :=
  if a = 0x14001C then BitVec.ofNat 32 (unsigned 16 (s.alignTrim (s.fld F.SYNC_ASEL_IDX))) else s.cfgRead a

/-! ### The link and the pair (R342–R344) -/

/-- A record of the mirror link (R353). -/
def State.mirRec (s : State) (code data : Nat) : State := s.eventNow 0x19 code data

/-- PD_MIR follows the role (R24, R343): a role wakes it; without one it sleeps unless something else holds it awake. -/
def State.mirPower (s : State) : State :=
  if s.role ≠ roleSingle then s.startWake 0x24
  else (s.trySleep 0x24).pllIdle

/-- A sample of PEER_EN in the present tick (R342); that of a tick in which nothing looked is free (log 27). A single device's reads low. -/
def State.samplePeer (s : State) (high : Bool) : State :=
  let h := high && decide (s.role ≠ roleSingle)
  let gap := s.mir.peerAt != some s.tm.tb && s.mir.peerAt != some (s.tm.tb - 1)
  let run := if h then 0
    else if s.mir.peerAt = some s.tm.tb then max s.mir.lowFor 1
    else if gap then 1 + Config.freeNat s.free % 2
    else s.mir.lowFor + 1
  let s1 := (if gap then s.takeFree else s).put F.MIR_STAT_PEER_EN (b2n h)
  { s1 with mir := { s1.mir with peerAt := some s.tm.tb, lowFor := run } }

/-- PEER_EN as seen in the present tick: where nothing has sampled it there, a free value. -/
def State.peerLook (s : State) : State :=
  if s.mir.peerAt = some s.tm.tb then s else (s.takeFree).samplePeer (decide (Config.freeNat s.free % 2 = 1))

/-- No takeover waits or is in progress any more: BUSY clears, and a command completes (R349, R14). -/
def State.takeEnd (s : State) (st : Nat) : State :=
  let s1 := s.put F.MIR_CTRL_BUSY 0
  let s2 := if s1.mir.byCmd then s1.put F.MIR_CTRL_STATUS st else s1
  { s2 with mir := { s2.mir with trig := none, byCmd := false } }

/-- A new value of ROLE takes effect (R342). A takeover that waits is off: a command ends with STATE (log 27). -/
def State.setRole (s : State) (r : Nat) : State :=
  let s1 := (s.put F.MIR_CTRL_ROLE r).takeEnd stState
  let s2 := { s1 with mir := { s1.mir with taken := false, rose := false, mine := [], tookAt := none, peerAt := none } }
  (((if r = roleSingle then s2.put F.MIR_STAT_PEER_EN 0 else s2).mirPower).pairEval).driveOutEn

/-- PAIR as the link comes up: in the heat in which it went down, LOCKSTEP or BROKEN as before (R344, R347), else by R344. -/
def State.pairBack (s : State) : State :=
  let h := s.fld F.SEQ_STAT_HEAT
  let b := s.mir.before
  let s1 := { s with mir := { s.mir with before := 0 } }
  if (h = 3 ∨ h = 4) ∧ (b = pairLockstep ∨ b = pairBroken) then (s1.put F.MIR_STAT_PAIR b).driveOutEn else s1.pairEval

/-- MIRROR_LINK_UP (R343, R344). -/
def execMirrorLinkUp (latNs : BitVec 10) (shown : Fin 21) (s : State) : Host.Outcome State Fault Refusal :=
  if s.live && s.awake 0x24 && decide (s.role ≠ roleSingle) && !s.flag F.MIR_STAT_LINK_UP then
    let s1 := (s.showLat latNs.toNat shown.val).put F.MIR_STAT_LINK_UP 1
    .next s1.pairBack.noteLevels
  else .next s

/-- MIRROR_LINK_DOWN (R344). -/
def execMirrorLinkDown (s : State) : Host.Outcome State Fault Refusal :=
  if s.live then .next (s.linkLost).noteLevels else .next s

/-- A valid frame has arrived (R348): a lost heartbeat is restored; a takeover that waited on it is off. -/
def State.mirSeen (s : State) : State :=
  if s.flag F.MIR_STAT_HB_NOW then
    let s1 := (s.put F.MIR_STAT_HB_NOW 0).mirRec 0x03 1
    if s1.mir.trig = some 0 then s1.takeEnd stState else s1
  else s

/-- The link carries frames to this device. -/
def State.mirLive (s : State) : Bool := s.live && s.flag F.MIR_STAT_LINK_UP

/-- MIRROR_CRC_DROP (R343). -/
def execMirrorCrcDrop (s : State) : Host.Outcome State Fault Refusal :=
  if s.mirLive then .next (s.bump F.MIR_ERR_CRC_COUNT) else .next s

/-- HEARTBEAT_SEND (R343, R348): bytes 2–3 hold role, PAIR and the fault bit; their places within the two bytes are the
model's (log 8). -/
def execHeartbeatSend (s : State) : Host.Outcome State Fault Refusal :=
  if s.mirLive then
    .next (s.mirSend 0x01 [BitVec.ofNat 8 (s.role + 4 * s.pair), BitVec.ofNat 8 (b2n s.mir.fault)])
  else .next s

/-- IDENT_SEND (R343). -/
def execIdentSend (s : State) : Host.Outcome State Fault Refusal := if s.mirLive then .next s.sendIdent else .next s

/-- A leader whose OUT_EN is down learns that its partner leads (R349): it becomes the follower. -/
def State.demote (s : State) (r : Nat) : State :=
  if s.role = roleLeader ∧ r = roleLeader ∧ (s.mir.taken ∨ s.mir.fault) then
    let s1 := s.put F.MIR_CTRL_ROLE roleFollower
    ({ s1 with mir := { s1.mir with taken := false, mine := [] } }).driveOutEn
  else s

/-- The partner's role as its last frame gives it. -/
def State.peerRole (s : State) (r : Nat) : State :=
  match s.mir.peer with
  | none => s
  | some l => { s with mir := { s.mir with peer := some (l.set 4 r) } }

/-- IDENT (R343–R345). -/
def State.identFrame (s : State) (d : MirIdent) : State :=
  let s1 := s.mirSeen
  let l := [d.unitId.toNat, d.planId.toNat, d.fabricId.toNat, d.planN.toNat, d.role.toNat, d.heat.toNat]
  ((({ s1 with mir := { s1.mir with peer := some l } }).demote d.role.toNat).pairEval).driveOutEn

/-- IDENT. -/
def execIdent (id : MirIdent) (s : State) : Host.Outcome State Fault Refusal :=
  if s.mirLive then .next (s.identFrame id).noteLevels else .next s

/-- HEARTBEAT (R343, R348, R349): PFAULT_NOW follows its fault bit. `peerEn` is PEER_EN as sampled in its tick. -/
def State.heartbeatFrame (s : State) (role : Nat) (fault peerEn : Bool) : State :=
  let s1 := (s.mirSeen).samplePeer peerEn
  let s2 := s1.put F.MIR_STAT_PFAULT_NOW (b2n fault)
  (((s2.demote role).peerRole role).pairEval).driveOutEn

/-- HEARTBEAT. The PAIR it carries changes nothing in this device. -/
def execHeartbeat (role : BitVec 2) (pair : BitVec 3) (fault : Bool) (peerEn : Bool) (s : State) :
    Host.Outcome State Fault Refusal :=
  if s.mirLive && decide (pair.toNat < 8) then .next (s.heartbeatFrame role.toNat fault peerEn).noteLevels else .next s

/-! ### Takeover (R348–R351) -/

/-- The pair as R349 looks at it: what it was when the link went down (R354). -/
def State.pairFor (s : State) : Nat := if s.pair = pairDown then s.mir.before else s.pair

/-- A follower in PAIRED or LOCKSTEP. -/
def State.mayTake (s : State) : Bool :=
  decide (s.role = roleFollower) && (decide (s.pairFor = pairPaired) || decide (s.pairFor = pairLockstep))

/-- A trigger is registered (R349): a takeover waits; while PEER_EN is high it is BLOCKED. -/
def State.trigger (s : State) (k : Nat) : State :=
  let s0 := s.peerLook.put F.MIR_CTRL_BUSY 1
  let s1 := { s0 with mir := { s0.mir with trig := some k, byCmd := decide (k = 2) } }
  if s1.flag F.MIR_STAT_PEER_EN then s1.raise F.MIR_STAT_BLOCKED else s1

/-- A trigger of hardware: with AUTO_TAKE, in PAIRED or LOCKSTEP, where none waits. -/
def State.autoTrigger (s : State) (k : Nat) : State :=
  if s.mayTake && s.flag F.MIR_CTRL_AUTO_TAKE && s.mir.trig.isNone then s.trigger k else s

/-- FAULT (R348, R349). -/
def State.faultFrame (s : State) (src code : Nat) : State :=
  let s1 := ((s.mirSeen).put F.MIR_STAT_PFAULT_NOW 1).raise F.MIR_STAT_PARTNER_FAULT
  (s1.mirRec 0x04 (src + 2 ^ 8 * code)).autoTrigger 1

/-- FAULT. -/
def execMirFault (src : Byte) (code : Byte) (s : State) : Host.Outcome State Fault Refusal :=
  if s.mirLive then .next (s.faultFrame src.toNat code.toNat).noteLevels else .next s

/-- HEARTBEAT_LOST (R348, R349): 16 µs without a valid frame, on a device of a pair, whether or not its link has been up. -/
def execHeartbeatLost (s : State) : Host.Outcome State Fault Refusal :=
  if s.live && decide (s.role ≠ roleSingle) && !s.flag F.MIR_STAT_HB_NOW then
    let s1 := ((s.put F.MIR_STAT_HB_NOW 1).raise F.MIR_STAT_HB_LOST).mirRec 0x03 0
    .next (s1.autoTrigger 0).noteLevels
  else .next s

/-- TAKE (R349): a live leader's OUT_EN drops at the next tick boundary. -/
def execTake (s : State) : Host.Outcome State Fault Refusal :=
  if s.mirLive && decide (s.role = roleLeader) then
    let s1 := s.mirSeen.advance 1
    .next (({ s1 with mir := { s1.mir with taken := true } }).driveOutEn).noteLevels
  else .next s

/-- MIR_CTRL.TAKEOVER (R349). -/
def State.takeoverCmd (s : State) : State :=
  if s.mayTake then (s.mirSend 0x06 []).trigger 2 else s.put F.MIR_CTRL_STATUS stState

/-- The takeover at tick T_k, now, on trigger `k` (R349, R351). -/
def State.takeNow (s : State) (k : Nat) : State :=
  let s1 := ((s.put F.MIR_CTRL_ROLE roleLeader).raise F.MIR_STAT_TAKEOVER).bump F.MIR_ERR_TAKE_COUNT
  let s2 := s1.mirRec 0x02 (k + 2 ^ 8 * roleLeader + 2 ^ 32 * (s1.tm.tb % 2 ^ 32))
  let s3 := { s2 with mir := { s2.mir with trig := none, mine := [], tookAt := some s2.tm.heat,
                                           riseAt := some (s2.tm.tb + s2.fld F.MIR_CTRL_GAP) } }
  (s3.pulseSrc 0x42).driveOutEn

/-- TAKEOVER_TICK (R349): a trigger waits, and PEER_EN is sampled as `peerEn` in the present tick. Where it has been low in this tick and the one
before, T_k is the next tick boundary; a trigger of a device that may no longer take over is off, a command with STATE (log 27). -/
def State.takeover (s : State) (peerEn : Bool) : State :=
  match s.mir.trig with
  | none => s
  | some k =>
    let s0 := s.samplePeer peerEn
    if s0.flag F.MIR_STAT_PEER_EN then s0.raise F.MIR_STAT_BLOCKED
    else if !s.mayTake then s0.takeEnd stState
    else if s0.mir.lowFor < 2 then s0
    else (s0.advance 1).takeNow k

/-- TAKEOVER_TICK. -/
def execTakeoverTick (peerEn : Bool) (s : State) : Host.Outcome State Fault Refusal :=
  if s.live then .next (s.takeover peerEn).noteLevels else .next s

/-- OUT_EN_RISE (R349): GAP ticks after the takeover tick, which a held timebase does not reach. The takeover is complete. -/
def execOutEnRise (s : State) : Host.Outcome State Fault Refusal :=
  match s.mir.riseAt with
  | none => .next s
  | some t =>
    if s.live && s.comes t then
      let s1 := (s.passTo t).takeEnd stOk
      .next ({ s1 with mir := { s1.mir with riseAt := none, rose := true } }).driveOutEn
    else .next s

/-! ### Lockstep (R345–R347) -/

/-- A divergence (R346, R347): counted, flagged, recorded, and source 0x43 pulses. -/
def State.diverge (s : State) (n kind : Nat) : State :=
  let s1 := (s.bump F.MIR_CNT_DIVERGE_COUNT).raise F.MIR_STAT_DIVERGE
  (s1.mirRec 0x01 (n + 2 ^ 8 * kind + 2 ^ 16 * s1.fld (F.SQ_STAT_ENTRY n) + 2 ^ 32 * s1.fld F.MIR_CNT_DIVERGE_COUNT)).pulseSrc
    0x43

/-- The follower's own decision for `o`, other than a stop, is undone, with the tail and the fetches of a continuation that it began (R140–R142). -/
def State.undo (s : State) (n o : Nat) : State :=
  let q := s.sqn n
  let s0 := s.setSq n { q with next := q.next.filter (fun x => decide (x.o ≠ o) || x.isStop) }
  let s1 := if q.next.any (fun x => decide (x.o = o) && !x.isStop && x.leaves) then
      s0.setSq n { s0.sqn n with tail := [], want := q.want.filter (fun g => decide (g.1 < o)) ++ s0.readSpan n o s.plan.asked }
    else s0
  (s1.ncoLanes n).foldl (fun t c => t.setFc c { t.fcn c with
    sw := (t.fcn c).sw.filter (fun w => !(decide (w.kind = 0) && decide (w.tick = o))) }) s1

/-- A shortfall outcome that the leader had at `o` (R346): 1 EXTEND, 2 FALLBACK, 3 HOLD, of the continuation to `e`, which a jump selected or not. -/
def State.leaderShort (s : State) (n o e k : Nat) (jump : Bool) : State :=
  match k with
  | 1 =>
    let q := s.sqn n
    ((s.setSq n { q with pend := some e, pendJump := jump }).raise (F.SQ_STAT_PENDING n)).addDec n ⟨o, .go⟩
  | 3 => s.addDec n ⟨o, .hold e⟩
  | _ => s.decideFallback n o 0 2

/-- The follower adopts the leader's outcome at the commit tick `d` (R346): jump and shortfall of `arg`, latches included;
`own` is its own outcome. -/
def State.adopt (s : State) (n d own arg : Nat) : State :=
  let o := d + 48
  let s0 := s.undo n o
  match (s0.sqn n).visit with
  | none => s0
  | some v =>
    let x := s0.entry n v.entry
    let fresh := decide (own / 2 ^ 8 = 1) && decide (s0.fld (F.SQ_POS_EXT n) = 0)
    let s1 := if fresh then (s0.setSq n { s0.sqn n with pend := none }).put (F.SQ_STAT_PENDING n) 0 else s0
    let jump := decide (arg % 2 = 1)
    let k := arg / 2 ^ 8 % 2 ^ 8
    let lvl := s1.evLevelKind x.jevt
    let s2 := if lvl ∨ arg % 2 = own % 2 then s1
      else s1.put (latchFld n x.jevt) (b2n (!jump))
    match (s2.sqn n).pend with
    | some e => if k = 0 then s2.goTo n o e (s2.sqn n).pendJump else s2.leaderShort n o e k (s2.sqn n).pendJump
    | none =>
      let e := if jump then x.target else x.succ
      if k ≠ 0 then s2.leaderShort n o e k jump
      else if jump then s2.goTo n o e true
      else if !isLastEnd x v.f o then s2.addDec n ⟨o, .go⟩
      else match x.endAct with
        | 0 => s2.goTo n o e false
        | 1 => s2.addDec n ⟨o, .stop true 0⟩
        | _ => s2.addDec n ⟨o, .stop false 0⟩

/-- This device's own decision of a kind, for tick `d` where one is asked. -/
def State.ownDec (s : State) (n kind : Nat) (d : Option Nat) : Option MyDec :=
  s.mir.mine.find? (fun m => decide (m.sq = n) && decide (m.kind = kind) && (d.isNone || decide (some m.d = d)))

/-- A decision of this device is settled. -/
def State.settled (s : State) (m : MyDec) : State := { s with mir := { s.mir with mine := s.mir.mine.erase m } }

/-- The follower makes its own decision of commit tick `d`, where it has not yet (R346). -/
def State.ownCommit (s : State) (n d : Nat) : State :=
  match (s.ownDec n 0 (some d)), (s.sqn n).visit with
  | none, some v => if nextBoundary (s.entry n v.entry) v.f v.cur = d + 48 then s.commit n else s
  | _, _ => s

/-- KIND 0: the outcome at a commit tick (R346). -/
def State.leaderCommit (s : State) (n d arg : Nat) : State :=
  let s1 := s.ownCommit n d
  match s1.ownDec n 0 (some d) with
  | none => s1
  | some m =>
    let s2 := s1.settled m
    if m.arg = arg then s2
    else (s2.adopt n d m.arg arg).diverge n (if m.arg % 2 = arg % 2 then 1 else 0)

/-- KIND 1: an IMMEDIATE trigger at `t` (R346). -/
def State.leaderImm (s : State) (n t : Nat) : State :=
  match s.ownDec n 1 none with
  | some m =>
    let s1 := s.settled m
    if m.d = t then s1
    else
      let s2 := s1.undo n (m.d + 48)
      ((s2.setSq n { s2.sqn n with imm := false }).immediate n t).diverge n 0
  | none => if s.immOpen n t then (s.immediate n t).diverge n 0 else s

/-- KIND 2: the resumption tick `r` of a hold (R346). -/
def State.leaderResume (s : State) (n r : Nat) : State :=
  let go := fun (t : State) =>
    match (t.sqn n).hold with
    | none => t
    | some h => (t.resumeAt n h r).diverge n 1
  match s.ownDec n 2 none with
  | some m => if m.d = r then s.settled m else go ((s.settled m).undo n (m.d + 48))
  | none => go s

/-- The acceptance tick of a command that the leader has sent (R345): heat tick `d`, or in a pause, where the heat tick stands, 16 ticks after the
leader registered it, LAT_TICKS of which the frame has taken (log 27). -/
def State.leaderTick (s : State) (d : Nat) : State :=
  if s.fld F.SEQ_STAT_HEAT = 3 then s.arrive d
  else if s.fld F.SEQ_STAT_HEAT = 4 then s.advance (16 - s.fld F.MIR_LAT_LAT_TICKS)
  else s

/-- KIND 3: a command of the leader, carried out at its acceptance tick (R345), where the leader does not refuse its arguments. ARG holds bytes
0–7 of a CMDQ record: the latches that a LATCH_CLR names are not in it, a free value (log 7). -/
def State.leaderCmd (s : State) (n : Nat) (ctrl : Bool) (d arg : Nat) : State :=
  let s1 := s.leaderTick d
  if ctrl then
    match arg % 2 ^ 4 with
    | 2 => if s1.fld F.SEQ_STAT_HEAT = 3 then s1.pauseHeat (bitOf arg 8) else s1
    | 4 => if s1.fld F.SEQ_STAT_HEAT = 4 then s1.resumeFrom (arg / 2 ^ 6 % 4) else s1
    | 8 => s1.abortHeat
    | _ => s1
  else
    let c : Cmd := ⟨arg % 2 ^ 8, arg / 2 ^ 8 % 2 ^ 8, arg / 2 ^ 16 % 2 ^ 16, arg / 2 ^ 32 % 2 ^ 32, Config.freeNat s1.free % 2 ^ 64⟩
    if !({ c with arg1 := 0 } : Cmd).argsOk then s1
    else match c.op with
    | 1 => if s1.runOrPaused n then State.stopAct n s1 { c with arg1 := 0 } else s1
    | 2 => if s1.runOrPaused n then State.latchClrAct n s1.takeFree c else s1
    | 3 => if s1.holdOpen n then State.holdEndAct n s1 c else s1
    | _ => s1

/-- DECISION (R345, R346): a follower in lockstep takes the leader's decision. -/
def State.decisionFrame (s : State) (x : MirDecision) : State :=
  let s1 := s.mirSeen
  if s1.role ≠ roleFollower ∨ s1.pair ≠ pairLockstep then s1
  else
    let n := x.sq.val
    match x.kind.toNat with
    | 0 => s1.leaderCommit n x.d.toNat x.arg.toNat
    | 1 => s1.leaderImm n x.d.toNat
    | 2 => s1.leaderResume n x.arg.toNat
    | _ => s1.leaderCmd n x.ctrl x.d.toNat x.arg.toNat

/-- DECISION. -/
def execDecision (dc : MirDecision) (s : State) : Host.Outcome State Fault Refusal :=
  if s.mirLive then .next (s.decisionFrame dc).noteLevels else .next s

/-- DECISION_TIMEOUT (R346): the leader's decision for SQn's oldest has not come by d + 11. -/
def execDecisionTimeout (n : Fin 8) (s : State) : Host.Outcome State Fault Refusal :=
  match s.mir.mine.find? (fun m => decide (m.sq = n.val)) with
  | none => .next s
  | some m =>
    if s.live && decide (s.fld F.SEQ_STAT_HEAT = 3) then
      .next (((s.arrive (m.d + 11)).settled m).bump F.MIR_CNT_UNCONF_COUNT)
    else .next s

/-- An underrun of SQn began in the 64 ticks up to heat tick `h`. -/
def State.recentGap (s : State) (n h : Nat) : Bool :=
  (s.sqn n).gaps.any (fun g => decide (h < g.2.1 + 64) && decide (g.2.1 ≤ h))

/-- SQn's position at heat tick `h`: entry, offset in the lap, LAP, EXT (R347). -/
def State.posAt (s : State) (n h : Nat) : Nat × Nat × Nat × Nat :=
  let l := s.lapAtTick n h
  match s.playedAt n h with
  | some (v, d) => (v.entry, s.lapOfs n v d, l.1, l.2)
  | none => (s.fld (F.SQ_STAT_ENTRY n), 0, l.1, l.2)

/-- LAP_MARK_SEND (R347): at the next heat tick that is a multiple of 64, nine frames. The places of the fields of a
sequencer's frame are the model's (log 8). -/
def State.lapMarks (s : State) : State :=
  let s1 := s.arrive ((s.tm.heat + 63) / 64 * 64)
  let h := s1.tm.heat
  let s2 := s1.mirSend 0x04 ([0, 0] ++ leBytes 6 h ++ leBytes 6 s1.tm.tb)
  (List.range 8).foldl (fun t n =>
    let p := t.posAt n h
    t.mirSend 0x04 ([BitVec.ofNat 8 (1 + n), BitVec.ofNat 8 (t.sqState n)] ++ leBytes 2 p.1 ++ leBytes 3 p.2.2.1 ++
      leBytes 4 p.2.1 ++ leBytes 1 p.2.2.2 ++ leBytes 1 (b2n (t.recentGap n h)) ++ leBytes 8 (t.latches n))) s2

/-- LAP_MARK_SEND. -/
def execLapMarkSend (s : State) : Host.Outcome State Fault Refusal :=
  if s.mirLive && decide (s.role = roleLeader) && decide (s.pair = pairLockstep) && decide (s.fld F.SEQ_STAT_HEAT = 3) then
    .next s.lapMarks
  else .next s

/-- Lockstep is lost (R347). -/
def State.broken (s : State) (n kind : Nat) : State :=
  (((s.put F.MIR_STAT_PAIR pairBroken).raise F.MIR_STAT_BROKEN).diverge n kind).driveOutEn

/-- STATE and the latches of SQn at heat tick `h`, a multiple of 64 (R347): as kept there, or as they are. -/
def State.markOf (s : State) (n h : Nat) : Nat × Nat :=
  if s.mir.markAt = h then s.mir.marks.getD n (s.sqState n, s.latches n) else (s.sqState n, s.latches n)

/-- The latches of SQn that differed at a mark follow the leader's (R347); the others stay as they are now. -/
def State.takeLatches (s : State) (n own lead : Nat) : State :=
  let l := (List.range 64).foldl (fun m i => if bitOf own i = bitOf lead i then m else putBit m i (bitOf lead i)) (s.latches n)
  (s.wr (latchFld n 0).a (BitVec.ofNat 32 l)).wr (latchFld n 32).a (BitVec.ofNat 32 (l / 2 ^ 32))

/-- LAP_MARK (R347): the mark of the last heat tick that is a multiple of 64. -/
def State.lapMark (s : State) (m : MirLapMark) : State :=
  let s1 := s.mirSeen
  if s1.role ≠ roleFollower ∨ s1.pair ≠ pairLockstep then s1
  else match m with
    | .time heat tb => if s1.tickThen heat.toNat % 2 ^ 48 = tb.toNat then s1 else s1.broken 0 4
    | .sq n state entry lap ofs ext under latches =>
      let h := s1.tm.heat / 64 * 64
      let s2 := if under ∨ s1.recentGap n.val h then s1.diverge n.val 5 else s1
      let own := s1.markOf n.val h
      let s3 := if own.2 = latches.toNat then s2 else (s2.takeLatches n.val own.2 latches.toNat).diverge n.val 2
      let p := s3.posAt n.val h
      if own.1 = state.toNat ∧ p = (entry.toNat, ofs, lap.toNat, ext.toNat) then s3 else s3.broken n.val 3

/-- LAP_MARK. -/
def execLapMark (m : MirLapMark) (s : State) : Host.Outcome State Fault Refusal :=
  if s.mirLive then .next (s.lapMark m).noteLevels else .next s

/-! ### Messages (R352) -/

/-- A word is written to MIR_TX_WR (R352): with its eighth the record enters the transmit buffer, or is discarded while the link is down. -/
def State.mirTxWord (s : State) (w : Word) : State :=
  let part := s.mir.txPart ++ [w]
  if part.length < 8 then { s with mir := { s.mir with txPart := part } }
  else
    let s1 := { s with mir := { s.mir with txPart := [] } }
    if s1.flag F.MIR_STAT_LINK_UP then { s1 with mir := { s1.mir with txBuf := s1.mir.txBuf ++ [part] } }
    else s1.raise F.MIR_STAT_TX_DROP

/-- MSG (R352): two frames deliver a record of eight words; one that finds MIRQ full is not delivered (log 13). -/
def execMsg (words : List Word) (s : State) : Host.Outcome State Fault Refusal :=
  if s.mirLive then
    let s1 := s.mirSeen
    .next (if s1.qFull 9 then s1 else (s1.enter 9 ((words ++ List.replicate 8 0).take 8)).ptrCheck 9).noteLevels
  else .next s

/-! ### Registers -/

/-- Locked bits of MIR_CTRL: ROLE while a sequencer is active, or for the reserved code (R342). -/
def State.mirLocks (s : State) (a : Nat) (v : Word) : Word :=
  if a = 0x130000 ∧ (s.anyActive ∨ getBits 0 2 v = 3) then 3 else 0

/-- A read of a register of MIRROR: PEER_EN is what its sample of the present tick gives (R342). -/
def State.mirRead (s : State) (a : Nat) : Word × State :=
  if a = 0x130004 ∧ s.role ≠ roleSingle then (s.peerLook.rd a, s.peerLook) else (s.cfgRead a, s)

/-- A write to a register of MIRROR that has passed the checks of R276. -/
def State.mirWrite (s : State) (a : Nat) (v : Word) : State :=
  match a with
  | 0x130000 =>
    let r := getBits 0 2 v
    let s1 := s.plain a (setBits 0 2 s.role v)
    let s2 := if r = s.role then s1 else s1.setRole r
    let s3 := if s2.flag F.MIR_STAT_HB_NOW then s2.autoTrigger 0 else s2
    s3.command F.MIR_CTRL_STATUS (s3.flag F.MIR_CTRL_BUSY) [16] v (fun _ t => t.takeoverCmd)
  | _ => s.plain a v

end Sys2Proof.Machine
end

