-- ==== Sys2Proof/Machine/Fabric.lean ====
section
/-! DEFINITION. The mailbox (R286–R289), the persistent and one-time cells (R302–R307), and the fabric image (R296–R301). -/

namespace Sys2Proof.Machine

/-! ### Persistent cells -/

/-- A value lies within the encoding of persistent word `i` (R305, R311, R341, R361). -/
def pvEnc (i : Nat) (v : Word) : Bool :=
  let n := v.toNat
  let half := fun (x : Nat) (m : Nat) => decide ((signed 16 x).natAbs ≤ m)
  if i < 64 then decide (n < 2 ^ 20)
  else if i < 192 then decide (n < 2 ^ 16) && half n 20000
  else if i < 320 then decide (n ≤ 2)
  else if i < 328 then decide (n ≤ 3000)
  else if i < 640 then decide (n = 0)
  else if i = 640 then decide (n < 2 ^ 8)
  else if i = 641 then decide (n ≤ 1)
  else if i = 656 then decide (n < 2 ^ 13) && trimOk v
  else if 664 ≤ i ∧ i < 840 then half (n % 2 ^ 16) 200 && half (n / 2 ^ 16) 200
  else if i = 848 then v &&& ~~~0x1F3#32 == 0#32 && decide (n % 4 ≠ 3)
  else if i = 864 then true
  else if i = 865 then decide (n < 2 ^ 16)
  else decide (1024 ≤ i) || decide (n = 0)

/-- Words written only by hardware saves (R305). -/
def pvReadOnly (i : Nat) : Bool := (decide (328 ≤ i) && decide (i ≤ 361)) || (decide (384 ≤ i) && decide (i ≤ 639))

/-- PV_STAT.LAST_STATUS. -/
def State.pvStatus (s : State) (st : Nat) : State := s.put F.PV_STAT_LAST_STATUS st

/-- A rest word has changed: a pin at rest takes its drive state (R212, R213). -/
def State.pvEffect (s : State) (i : Nat) : State :=
  if 192 ≤ i ∧ i < 320 ∧ s.flag (F.VP_STAT_AT_REST (i - 192)) then
    s.put (F.VP_STAT_DRIVE (i - 192)) (restDrive (s.pvWord i))
  else s

/-- A register write to persistent word `i` (R303–R305). -/
def State.pvRegWrite (s : State) (i : Nat) (v : Word) : State :=
  if pvReadOnly i then s
  else if s.pvWord i = v then s.pvStatus stOk
  else if !pvEnc i v then (s.pvStatus stRange).raise F.PV_STAT_RANGE_ERR
  else if s.pvWorn i then ((s.pvStatus stWorn).raise F.PV_STAT_PV_WORN).put F.PV_WORN_ADDR_INDEX i
  else
    let s1 := ((s.pvCommit i v).pvStatus stOk).pvEffect i
    { s1 with mem := { s1.mem with pvCut := some (pvPhys (s.fld F.PV_STAT_HALF) i, s.pvWord i, s.tm.tb) } }

/-- A hardware save has committed its last word (R304): its block's BUSY flag clears, its status is OK. -/
def State.saveDone (s : State) (j : SaveJob) : State :=
  let s1 := (s.put ⟨j.busyA, j.busyLo, 1⟩ 0).put ⟨j.stA, j.stLo, 8⟩ stOk
  if j.busyA = 0x10008 then { s1 with clk := { s1.clk with cmd := .idle } }
  else if j.busyA = 0xB0008 then { s1 with dram := { s1.dram with job := .idle } }
  else if j.busyA = 0x140000 then { s1 with mir := { s1.mir with job := 0 } }
  else s1

/-- One word of a save (R304), under R303: a word that holds the value by now is skipped, and one that a register write has worn
since the save's check keeps its value (log 29). -/
def State.saveOne (s : State) (i : Nat) (v : Word) : State :=
  if s.pvWord i = v then s
  else if s.pvWorn i then (s.raise F.PV_STAT_PV_WORN).put F.PV_WORN_ADDR_INDEX i
  else s.pvCommit i v

/-- SAVE_WORD_COMMIT (R304): the oldest save commits its next word. -/
def State.saveWord (s : State) : State :=
  match s.saves with
  | [] => s
  | j :: rest =>
    match j.todo with
    | [] => ({ s with saves := rest }).saveDone j
    | (i, v) :: more =>
      let s1 := s.saveOne i v
      if more.isEmpty then ({ s1 with saves := rest }).saveDone j
      else { s1 with saves := { j with todo := more } :: rest }

/-- SAVE_WORD_COMMIT. -/
def execSaveWordCommit (s : State) : Host.Outcome State Fault Refusal :=
  if s.live then .next s.saveWord.pllIdle else .next s

/-! ### One-time cells -/

/-- What the factory leaves in the one-time words (R306): DEV_TYPE in word 2; the unit's own words, its STEP and the digests are
the model's zeros (log 3). -/
def otpDef (k : Nat) : Word := if k = 2 then 0x9648 else 0

/-- A one-time word (R306). -/
def State.otpWord (s : State) (k : Nat) : Word := Sp.get otpDef s.mem.otp k

/-- Set a one-time word. -/
def State.setOtp (s : State) (k : Nat) (v : Word) : State :=
  { s with mem := { s.mem with otp := Sp.set otpDef s.mem.otp k v } }

/-- Words that the integrator may write (R306). -/
def otpUser (k : Nat) : Bool := (decide (28 ≤ k) && decide (k ≤ 39)) || (decide (64 ≤ k) && decide (k ≤ 511))

/-- OTP_CMD.PROG (R307); `x` is the access that carries it. -/
def State.progCmd (s : State) (x : Access) : State :=
  let k := s.fld F.OTP_ADDR_WORD
  let st := fun (t : State) c => t.put F.OTP_CMD_STATUS c
  if s.flag F.OTP_CMD_BUSY then st s stBusy
  else if !otpUser k then st s stRange
  else if s.otpWord k ≠ 0 ∨ s.mem.otpLock.contains k then (st s stLocked).busErr 1 x
  else
    let s1 := s.put F.OTP_CMD_BUSY 1
    { s1 with mem := { s1.mem with otpJob := some (k, s1.rd 0x100018) } }

/-- A word is locked by a failed or cut programming (R307). -/
def State.otpLocked (s : State) (k : Nat) : State := { s with mem := { s.mem with otpLock := s.mem.otpLock ++ [k] } }

/-- PROG_DONE (R307): the read-back shows the bits that were set. -/
def State.progEnd (s : State) (got : Word) : State :=
  match s.mem.otpJob with
  | none => s
  | some (k, v) =>
    let s1 := (s.setOtp k got).put F.OTP_CMD_BUSY 0
    let s2 := { s1 with mem := { s1.mem with otpJob := none } }
    if got = v then s2.put F.OTP_CMD_STATUS stOk else (s2.otpLocked k).put F.OTP_CMD_STATUS stCrc

/-- PROG_DONE. -/
def execProgDone (readBack : Word) (s : State) : Host.Outcome State Fault Refusal :=
  if s.live then .next (s.progEnd readBack) else .next s

/-- Programming is cut by a freeze or a loss of power (R307, R325): some of the bits are set, a free value, and the word is
locked. -/
def State.progCut (s : State) : State :=
  match s.mem.otpJob with
  | none => s
  | some (k, v) =>
    let s1 := (s.takeFree).setOtp k (BitVec.ofNat 32 (Config.freeNat s.free) &&& v)
    ({ s1 with mem := { s1.mem with otpJob := none } }).otpLocked k

/-- A commit in progress at a loss of power or a freeze: the save's next word, done or not done (R303); it is counted in either
case. The rest of every save is lost. -/
def State.savesCut (s : State) (done : Bool) : State :=
  match s.saves with
  | ⟨_, _, _, _, (i, v) :: _⟩ :: _ =>
    let s1 := if done then s.saveOne i v else if s.pvWord i = v || s.pvWorn i then s else s.pvCommit i (s.pvWord i)
    { s1 with saves := [] }
  | _ => { s with saves := [] }

/-- A loss of power within the 15 µs of a register write's commit leaves the cell with its old value or its new one, a free value
(R303). While the timebase is held the model cannot tell how long ago the write was: either may stand (log 29). -/
def State.pvPowerCut (s : State) : State :=
  match s.mem.pvCut with
  | none => s
  | some (k, old, t) =>
    if s.usPast t 15 then s
    else
      let s1 := s.takeFree
      if Config.freeNat s.free % 2 = 1 then s1
      else { s1 with mem := { s1.mem with pv := Sp.set (fun _ => (0 : Word)) s1.mem.pv k old } }

/-- A write to a register of PV that has passed the checks of R276. -/
def State.pvBlockWrite (s : State) (a : Nat) (v : Word) (x : Access) : State :=
  if 0x100100 ≤ a then s.pvRegWrite ((a - 0x100100) / 4) v
  else if a = 0x10001C then (if getBits 0 1 v = 1 then s.progCmd x else s)
  else s.plain a v

/-- A read of a register of PV. -/
def State.pvBlockRead (s : State) (a : Nat) : Word :=
  if 0x100100 ≤ a then s.pvWord ((a - 0x100100) / 4)
  else if a = 0x100014 then s.otpWord (s.fld F.OTP_ADDR_WORD)
  else s.rd a

/-! ### The mailbox -/

/-- What a selector is (R289): read-only, 128 bits wide, its domain (64: PD_MGMT), its unit present. -/
structure SelInfo where
  ro : Bool
  wide : Bool
  dom : Nat
  unit : Bool
  deriving DecidableEq, Repr

/-- The selectors of R289 and of the chapters that define further ones. -/
def State.selInfo (s : State) (n : Nat) : Option SelInfo :=
  let i := n % 0x400
  match n / 0x400 with
  | 0x00 => if i = 0 then some ⟨true, false, 64, true⟩ else none
  | 0x01 => if i ≤ 2 then some ⟨decide (i ≠ 1), false, 2, true⟩ else none
  | 0x02 => if i ≤ 2 then some ⟨decide (i ≠ 0), false, 2, true⟩ else none
  | 0x03 => if i ≤ 7 then some ⟨false, false, 2, true⟩ else none
  | 0x04 => if i ≤ 1 then some ⟨decide (i = 1), false, 64, true⟩ else none
  | 0x08 => if i < 64 then some ⟨false, false, 8 + i / 8, s.hasK (i / 8)⟩ else none
  | 0x0A => if i < 4 then some ⟨false, false, 0x23, s.hasOther 3⟩ else none
  | 0x0E =>
    if i < 8 then some ⟨false, false, 0x20 + i / 4, s.hasOther (i / 4)⟩
    else if 0x10 ≤ i ∧ i < 0x20 then some ⟨false, false, 0x20 + i % 8 / 4, s.hasOther (i % 8 / 4)⟩
    else if 0x40 ≤ i ∧ i < 0x80 then some ⟨false, false, 0x20 + i % 0x20 / 16, s.hasOther (i % 0x20 / 16)⟩
    else none
  | 0x0F => if i ≤ 3 then some ⟨false, decide (i = 1), 64, true⟩ else none
  | 0x10 => if i = 0 then some ⟨true, false, 64, true⟩ else none
  | 0x11 => if i = 0 then some ⟨true, true, 64, true⟩ else none
  | 0x15 => if i ≤ 1 then some ⟨decide (i = 0), false, 64, true⟩ else none
  | _ => none

/-- The upper half of a 128-bit selector is held under this number. -/
def selHigh (n : Nat) : Nat := n + 0x10000

/-- What a read of a selector gives. -/
def State.selRead (s : State) (n : Nat) : Nat :=
  if n = 0x0400 then s.tm.tb
  else if n = 0x0801 then s.tm.heat
  else if n = 0x4000 then
    let w := s.pvWear (s.fld F.PV_WSEL_WORD)
    w % 2 ^ 20 + 2 ^ 20 * b2n (decide (1000000 ≤ w))
  else if 0x2000 ≤ n ∧ n < 0x2040 then unsigned 64 (signed 48 (s.getSel n))
  else s.getSel n + 2 ^ 64 * s.getSel (selHigh n)

/-- A ring of the management port may have this base and count (R362). -/
def mgmtRingOk (v : Nat) : Bool :=
  let c := v / 2 ^ 48
  decide (v % 16 = 0) && decide (16 ≤ c) && decide (c ≤ 4096) && decide (c = 2 ^ Nat.log2 c)

/-- A write of a selector that is neither absent nor read-only: its status and its effect. -/
def State.selWrite (s : State) (n v : Nat) : Nat × State :=
  if 0x2800 ≤ n ∧ n < 0x2804 then
    if s.bankActive (n - 0x2800) then (stLocked, s)
    else if v % 64 ≠ 0 then (stRange, s)
    else (stOk, s.setSel n v)
  else if n = 0x3C02 ∨ n = 0x3C03 then
    if mgmtRingOk v then
      let s1 := s.setSel n v
      (stOk, { s1 with mg := if n = 0x3C02 then { s1.mg with rx := 0 } else { s1.mg with tx := 0 } })
    else (stRange, s)
  else if 0x0C00 ≤ n ∧ n < 0x0C08 then
    if s.getSel n = v then (stOk, s)
    else
      let s1 := s.setSel n v
      (stOk, { s1 with tm := { s1.tm with fired := putBit s1.tm.fired (n - 0x0C00) false } })
  else if (0x2000 ≤ n ∧ n < 0x2040) ∨ (0x3800 ≤ n ∧ n < 0x3808) ∨ n = 0x3C00 then (stOk, s.setSel n (v % 2 ^ 48))
  else if n = 0x3C01 then (stOk, (s.setSel n v).setSel (selHigh n) (v / 2 ^ 64))
  else (stOk, s.setSel n v)

/-- The data words of the mailbox (R286). -/
def State.mbxData (s : State) : Nat :=
  (s.rd 0x28).toNat + 2 ^ 32 * (s.rd 0x2C).toNat + 2 ^ 64 * (s.rd 0x30).toNat + 2 ^ 96 * (s.rd 0x34).toNat

/-- A mailbox operation completes (R287): its status, and what a read leaves in the data words. -/
def State.mbxEnd (s : State) (st : Nat) (v : Nat) : State :=
  let wr := s.flag F.MBX_SEL_WRITE
  let s1 := if wr then s
    else (List.range 4).foldl (fun t i => t.wr (0x28 + 4 * i) (BitVec.ofNat 32 (v / 2 ^ (32 * i)))) s
  ((s1.put F.MBX_STAT_BUSY 0).put F.MBX_STAT_STATUS st).put F.MBX_STAT_VALID (b2n (!wr && decide (st = stOk)))

/-- The access that wrote MBX_SEL, for ERR_ADDR (R287). -/
def State.mbxAccess (s : State) : Access := ⟨0x20, true, s.rd 0x20, 4, s.sup.mbxP, false, false, false⟩

/-- The operation takes place in a cycle of its target's domain (R286, R287). -/
def State.mbxDo (s : State) (n : Nat) (i : SelInfo) : State :=
  if !s.flag F.MBX_SEL_WRITE then s.mbxEnd stOk (s.selRead n)
  else
    let v := if i.wide then s.mbxData else s.mbxData % 2 ^ 64
    let r := s.selWrite n v
    let s1 := r.2.mbxEnd r.1 0
    if r.1 = stLocked then s1.busErr 1 s1.mbxAccess else s1

/-- A wake by an access (R277, R316): the domain stays awake until it is released. -/
def State.accessWake (s : State) (d : Nat) : State :=
  let s1 := s.startWake d
  { s1 with sup := { s1.sup with stay := putBit s1.sup.stay d true } }

/-- MBX_SEL has been written (R286, R287). -/
def State.mbxStart (s : State) (p : Bool) : State :=
  let s1 := s.put F.MBX_STAT_VALID 0
  let s2 := { s1 with sup := { s1.sup with mbxP := p } }
  let n := s2.fld F.MBX_SEL_SEL
  match s2.selInfo n with
  | none => s2.mbxEnd stRange 0
  | some i =>
    if !i.unit then s2.mbxEnd stOk 0
    else if i.ro && s2.flag F.MBX_SEL_WRITE then s2.mbxEnd stRange 0
    else if i.dom < 64 && !s2.awake i.dom then (s2.accessWake i.dom).put F.MBX_STAT_BUSY 1
    else s2.mbxDo n i

/-- A waiting mailbox operation whose domain has become ready completes. -/
def State.mbxResume (s : State) : State :=
  if !s.flag F.MBX_STAT_BUSY then s
  else
    let n := s.fld F.MBX_SEL_SEL
    match s.selInfo n with
    | none => s
    | some i => if i.dom < 64 && !s.awake i.dom then s else s.mbxDo n i

/-- MAILBOX_TIMEOUT (R287): the target's domain is not ready within 100 µs. -/
def execMailboxTimeout (s : State) : Host.Outcome State Fault Refusal :=
  if s.live && s.flag F.MBX_STAT_BUSY then .next ((s.mbxEnd stTimeout 0).raise F.GLB_ERR_BUS_TIMEOUT) else .next s

/-! ### The fabric image -/

/-- The directory of a fabric image (R296, R134). -/
def fabSects (b : List Byte) : List Sect :=
  (List.range (leField b 6 2)).map (fun i =>
    let o := 64 + 16 * i
    ⟨leField b o 2, leField b (o + 4) 4, leField b (o + 8) 4, leField b (o + 12) 4, decide (leField b (o + 2) 2 = 0)⟩)

/-- The bytes of a section, zero bytes where it is absent. -/
def fabD (b : List Byte) (type n : Nat) : List Byte :=
  match (fabSects b).find? (fun x => decide (x.type = type)) with
  | some x => padTo n (x.data b)
  | none => List.replicate n 0

/-- Byte `i` of a section. -/
def fabByte (b : List Byte) (type i : Nat) : Nat := leField (fabD b type 192) i 1

/-- The length of a section of a fabric image (R297); 0: no such type. -/
def fabLen (type : Nat) : Nat :=
  match type with
  | 1 => 16 | 2 => 192 | 3 => 4 | 4 => 64 | 5 => 8 | 6 => 4 | _ => 0

/-- HDR_CRC of a fabric image (R296). -/
def fabCrc (b : List Byte) : Nat :=
  let h := b.take (64 + 16 * leField b 6 2)
  (crc32c (h.take 8 ++ [0, 0, 0, 0] ++ h.drop 12)).toNat

/-- Step 4 of R300: header, directory, sections present and sized. -/
def fabLayout (b : List Byte) (len : Nat) : Option Refused :=
  let n := leField b 6 2
  let ilen := leField b 12 4
  let stop := 64 + 16 * n
  if leField b 0 4 ≠ 0x58464854 ∨ leField b 4 2 ≠ 1 ∨ n = 0 ∨ 16 < n ∨ len < ilen ∨ ilen < stop ∨ leField b 16 8 = 0
      ∨ leField b 28 4 ≠ 0 ∨ leField b 40 24 ≠ 0 then some ⟨stRange, 4, 0, none⟩
  else
    let l := fabSects b
    match l.find? (fun x => !x.zero || decide (x.ofs % 64 ≠ 0) || decide (x.ofs < stop) || decide (ilen < x.ofs + x.len)
        || decide (fabLen x.type = 0) || decide (x.len ≠ fabLen x.type)) with
    | some x => some ⟨stRange, 4, x.type, none⟩
    | none =>
      match (List.range l.length).find? (fun i => (l.take i).any (fun y => match l[i]? with
          | some x => x.meets y || decide (x.type = y.type) | none => false)) with
      | some i => some ⟨stRange, 4, (l[i]?.map (fun x => x.type)).getD 0, none⟩
      | none => ([1, 2, 5].find? (fun t => !l.any (fun x => decide (x.type = t)))).map (fun t => ⟨stRange, 4, t, none⟩)

/-- A domain is present under an image's UNITS and CH_EN (R404). -/
def fabDom (b : List Byte) (d : Nat) : Bool :=
  let k := fabByte b 1 0
  let vb := fabByte b 1 1
  let o := fabByte b 1 2
  if 0x08 ≤ d ∧ d ≤ 0x0F then bitOf k (d - 8)
  else if 0x10 ≤ d ∧ d ≤ 0x13 then bitOf vb (d - 16)
  else if 0x18 ≤ d ∧ d ≤ 0x1F then bitOf (fabByte b 5 0) (d - 24)
  else if d = 0x20 ∨ d = 0x21 then bitOf o (d - 0x20)
  else if d = 0x22 then bitOf o 0 || bitOf o 1
  else if d = 0x23 then bitOf o 3
  else if d = 0x24 then bitOf o 2
  else true

/-- A section obeys R297 and R298. -/
def fabOk (b : List Byte) (type : Nat) : Bool :=
  let x := fabByte b type
  let zero := fun (a n : Nat) => (List.range n).all (fun i => decide (x (a + i) = 0))
  match type with
  | 1 => decide (x 1 < 16) && decide (x 2 < 16) && zero 3 13
  | 2 => (List.range 192).all (fun i => decide (x i = 0xFF) || (decide (x i < 8) &&
      (if i < 64 then bitOf (fabByte b 1 0) (i / 8) else bitOf (fabByte b 1 1) ((i - 64) / 32))))
  | 3 => decide (x 1 < 16) && zero 2 2 &&
      (List.range 8).all (fun k => !bitOf (x 0) k || bitOf (fabByte b 1 0) k) &&
      (List.range 4).all (fun k => !bitOf (x 1) k || bitOf (fabByte b 1 1) k)
  | 4 => (List.range 64).all (fun d => decide (x d = 0) ||
      (decide (x d < 16) && domCode d && decide (d ≠ 0x14) && fabDom b d))
  | 5 =>
    let e := (bits8 (x 0)).length
    decide (x 0 ≠ 0) && decide (x 1 < 3) && decide (x 2 % 4 ≠ 3) && decide (x 2 < 8) && decide (1 ≤ x 3) && decide (x 3 ≤ 16) &&
      decide (x 4 ≤ 1) && zero 5 3 && (decide (x 4 = 0) || decide (e % 2 = 0)) &&
      decide (resShare e (x 3) (decide (x 4 = 1)) < 2 ^ (32 + x 1) - 65536)
  | _ => decide (x 0 < 16) && zero 1 3

/-- Steps 3 to 7 of R300 on a copied image of `len` bytes. -/
def State.fabCheck (s : State) (b : List Byte) (len : Nat) : Option Refused :=
  if leField b 8 4 ≠ fabCrc b then some ⟨stCrc, 3, 0, none⟩
  else match fabLayout b len with
    | some r => some r
    | none =>
      match (fabSects b).find? (fun x => decide (x.crc ≠ (crc32c (x.data b)).toNat)) with
      | some x => some ⟨stCrc, 5, x.type, none⟩
      | none =>
        let uid := leField b 32 8
        if leField b 24 4 ≠ s.fld F.GLB_ID_DEV_TYPE ∨ (uid ≠ 0 ∧ uid ≠ s.getSel 0) then some ⟨stBinding, 6, 0, none⟩
        else ([1, 2, 3, 4, 5, 6].find? (fun t => !fabOk b t)).map (fun t => ⟨stRange, 7, t, none⟩)

/-- Step 8 of R300: the DRAM fields that only the start-up load changes. -/
def State.fabDramSame (s : State) (b : List Byte) : Bool :=
  decide (fabByte b 5 0 = s.fld F.DRAM_CFG_CH_EN) && decide (fabByte b 5 1 = s.fld F.DRAM_CFG_CH_SIZE) &&
    decide (fabByte b 5 3 = s.fld F.DRAM_CFG_RES_GIB) && decide (fabByte b 5 4 = s.fld F.DRAM_CFG_RES_MIRROR)

/-- An owner byte as a nibble of FABRIC_FCSQ and FABRIC_VPSQ. -/
def ownNibble (x : Nat) : Nat := if x < 8 then x + 8 else 0

/-- Units, owners, trees, groups and queue access take an image's values (R301, step 3). -/
def State.structure' (s : State) (b : List Byte) : State :=
  let k := fabByte b 1 0
  let vb := fabByte b 1 1
  let s1 := (((s.put F.FABRIC_UNITS_CLUSTERS k).put F.FABRIC_UNITS_BANKS vb).put F.FABRIC_UNITS_OTHER (fabByte b 1 2)).put
    F.FABRIC_UNITS_QPRIV (fabByte b 6 0)
  let own := fun (o w : Nat) => BitVec.ofNat 32 ((List.range 8).foldl (fun a j => a + 16 ^ j * ownNibble (fabByte b 2 (o + 8 * w + j))) 0)
  let s2 := (List.range 8).foldl (fun t w => t.wr (0x1500C0 + 4 * w) (own 0 w)) s1
  let s3 := (List.range 16).foldl (fun t w => t.wr (0x150040 + 4 * w) (own 64 w)) s2
  let s4 := (List.range 16).foldl (fun t w => t.wr (0x150080 + 4 * w) (BitVec.ofNat 32 (leField (fabD b 4 64) (4 * w) 4))) s3
  s4.wr 0x10030 (BitVec.ofNat 32 (fabByte b 3 0 + 2 ^ 8 * fabByte b 3 1 + 2 ^ 12 * (255 - k) + 2 ^ 20 * (15 - vb)))

/-- FABRIC_ERR and FABRIC_STAT.STATUS of a refused load. -/
def State.fabRefuse (s : State) (r : Refused) : State :=
  let s1 := ((s.put F.FABRIC_ERR_STEP r.step).put F.FABRIC_ERR_SECTION r.sect).put F.FABRIC_STAT_STATUS r.status
  (((s1.raise F.FABRIC_STAT_REFUSED).put F.FABRIC_STAT_BUSY 0).put F.FABRIC_STAT_PHASE 0)

/-- The image is copied and checked from step 3 on (R300); the copy waits while a channel that holds the image serves nothing (R32, R240). -/
def State.fabCopy (s : State) : State :=
  let len := s.fld F.FABRIC_LEN_LEN
  let addr := s.getSel 0x5401
  let s1 := s.dramReach addr len
  if s1.rangeWaits addr len then (s1.put F.FABRIC_STAT_BUSY 1).put F.FABRIC_STAT_PHASE 1
  else
    let b := s1.dramBytes addr len
    let s2 := { s1 with fab := b }
    match s2.fabCheck b len with
    | some r => s2.fabRefuse r
    | none =>
      if !s2.fabDramSame b then s2.fabRefuse ⟨stState, 8, 5, none⟩
      else (s2.put F.FABRIC_STAT_BUSY 1).put F.FABRIC_STAT_PHASE 2

/-- A fabric load whose copy waits goes on. -/
def State.fabGoesOn (s : State) : State :=
  if s.flag F.FABRIC_STAT_BUSY && decide (s.fld F.FABRIC_STAT_PHASE = 1) then s.fabCopy else s

/-- FABRIC_CTRL.LOAD (R300). -/
def State.fabLoadCmd (s : State) : State :=
  let len := s.fld F.FABRIC_LEN_LEN
  let addr := s.getSel 0x5401
  if s.flag F.FABRIC_STAT_BUSY then s.put F.FABRIC_STAT_STATUS stBusy
  else if s.anyActive then s.fabRefuse ⟨stState, 1, 0, none⟩
  else if 65536 < len ∨ addr % 64 ≠ 0 ∨ s.resBytes < addr + len then s.fabRefuse ⟨stRange, 2, 0, none⟩
  else s.fabCopy

/-- Units that the image takes away go to the hold path, and their domains sleep (R301, step 2). -/
def State.dropUnits (s : State) (b : List Byte) : State :=
  let gone := (List.range 64).filter (fun d => s.domPresent d && domCode d && !fabDom b d)
  gone.foldl (fun t d =>
    let t1 := if d = 0x20 ∨ d = 0x21 then t.portOff (d - 0x20) else if d = 0x24 then t.linkLost else t
    t1.sleepOne d) s

/-- FABRIC_APPLIED (R301). -/
def State.fabApply (s : State) : State :=
  let b := s.fab
  let s1 := ((s.dropPlan).revokeAll).dropUnits b
  let s2 := (s1.structure' b).put F.DRAM_CFG_MAP_ORDER (fabByte b 5 2)
  let s3 := ((s2.setSel 0x5400 (leField b 16 8)).raise F.FABRIC_STAT_LOADED).put F.FABRIC_STAT_DEFAULT 0
  (((s3.put F.FABRIC_STAT_STATUS stOk).put F.FABRIC_STAT_BUSY 0).put F.FABRIC_STAT_PHASE 0).pllIdle

/-- FABRIC_APPLIED. -/
def execFabricApplied (s : State) : Host.Outcome State Fault Refusal :=
  if s.live && s.flag F.FABRIC_STAT_BUSY && decide (s.fld F.FABRIC_STAT_PHASE = 2) then .next s.fabApply.noteLevels else .next s

/-- A write to a register of FABRIC that has passed the checks of R276. -/
def State.fabWrite (s : State) (a : Nat) (v : Word) : State :=
  if a = 0x150000 then (if getBits 0 1 v = 1 then s.fabLoadCmd else s) else s.plain a v

/-- Locked bits of a FABRIC register: FABRIC_LEN while BUSY. -/
def State.fabLocks (s : State) (a : Nat) : Word := if a = 0x15000C ∧ s.flag F.FABRIC_STAT_BUSY then 0x1FFFF else 0

end Sys2Proof.Machine
end

