-- ==== Sys2Proof/Machine/Package.lean ====
section
/-! DEFINITION. Balls, supplies, limits and package (R387–R402): what the spec states of the part as data. -/

namespace Sys2Proof.Machine

/-! ### Balls (R387–R389) -/

/-- The letters of a row's name, in order (R387). -/
def rowLetters : List Char := "ABCDEFGHJKLMNPTUVWY".toList

/-- The name of row `r`, from 0: A to Y, AA to AY, BA to BY, then CA to CE (R387). -/
def ballRow (r : Nat) : Option String :=
  match rowLetters[r % 19]? with
  | some c =>
    if r < 19 then some (String.ofList [c])
    else if r < 62 then some (String.ofList [rowLetters.getD (r / 19 - 1) 'A', c])
    else none
  | none => none

/-- A ball's name: its row and its column, from 1 to 62 (R387). -/
def ballName (r c : Nat) : Option String :=
  match ballRow r with
  | some n => if 1 ≤ c ∧ c ≤ 62 then some (n ++ toString c) else none
  | none => none

/-- The zones of the ball array (R388). -/
inductive Zone where
  | north | west | east | south | centre
  deriving DecidableEq, Repr

/-- The zone of a ball: rows from 0, columns from 1 (R388). Row G is 6, row BM is 49. -/
def zoneOf (r c : Nat) : Zone :=
  if r < 6 then .north
  else if 50 ≤ r then .south
  else if c ≤ 6 then .west
  else if 57 ≤ c then .east
  else .centre

/-- Balls of a zone: signals, NC, supplies, VSS (R388). -/
def zoneBalls : Zone → Nat × Nat × Nat × Nat
  | .north => (128 + 64 + 32 + 8, 0, 88, 52)
  | .west => (128, 0, 100, 36)
  | .east => (64 + 16 + 2, 0, 140, 42)
  | .south => (400, 0, 160, 184)
  | .centre => (30, 28, 560 + 120 + 160 + 8 + 24, 1270)

/-- The balls of a DRAM channel: DQ, CA, CS, the three pairs of each sub-channel, RESET_N and ZQ (R389). -/
def dramBalls : Nat := 24 + 2 * (4 + 2 + 6) + 2

/-- The control balls: the management port, the flash, the six pins, the test access port (R389). -/
def controlBalls : Nat := 7 + 12 + 6 + 5

/-! ### Supplies (R390–R392) -/

/-- A rail (R390): its nominal level in mV, tolerance in percent, largest current in mA, and the group in which it rises (R391). -/
structure Rail where
  name : String
  mv : Int
  tol : Nat
  maxMa : Nat
  group : Nat
  deriving DecidableEq, Repr

/-- The rails, by the index that SUPPLY records carry (R390, R391). -/
def railTable : List Rail :=
  [⟨"VDD_CORE", 750, 3, 80000, 2⟩, ⟨"VDD_SRAM", 850, 3, 12000, 2⟩, ⟨"VDD_AO", 800, 3, 300, 1⟩, ⟨"VDD_AN", 900, 3, 14000, 2⟩,
   ⟨"VDDA_18", 1800, 2, 6000, 3⟩, ⟨"VDD_PLL", 900, 2, 400, 2⟩, ⟨"VDD_PINH", 4500, 3, 4000, 4⟩] ++
  [⟨"VDD_PINL", -1000, 3, 1500, 4⟩, ⟨"VDD_SDS", 850, 2, 10000, 2⟩, ⟨"VDD_SDSH", 1200, 3, 3000, 3⟩, ⟨"VDDQ", 500, 3, 6000, 3⟩,
   ⟨"VDD_DPHY", 750, 3, 6000, 2⟩, ⟨"VDD_IO18", 1800, 5, 500, 3⟩]

/-- A level lies in a rail's tolerance band; the limit is inside it (R390, R403). -/
def Rail.ok (r : Rail) (mv : Int) : Bool := decide (100 * (mv - r.mv).natAbs ≤ r.tol * r.mv.natAbs)

/-- The groups rise in order: each is in its band before a rail of the next starts (R391). `mv`: the rails' levels, by index. -/
def railsInOrder (mv : List Int) : Bool :=
  (List.range 13).all (fun i => (List.range 13).all (fun j =>
    match railTable[i]?, railTable[j]? with
    | some a, some b => decide (b.group ≤ a.group) || decide (mv.getD j 0 = 0) || a.ok (mv.getD i 0)
    | _, _ => true))

/-- A level of a watched rail is a brown-out: VDD_CORE, VDD_SRAM, VDD_AO or VDD_AN below 92 % of nominal for 1 µs (R392). -/
def brownsOut (i : Nat) (mv : Int) (ns : Nat) : Bool :=
  match railTable[i]? with
  | some r => decide (i < 4) && decide (100 * mv < 92 * r.mv) && decide (1000 ≤ ns)
  | none => false

/-! ### Limits (R393, R401) -/

/-- Absolute maximum voltages at the supplies and signal balls in mV (R393): the lowest and the highest. -/
def absMax : List (String × Int × Int) :=
  [("VDD_CORE, VDD_SRAM, VDD_DPHY, VDD_AO", -300, 950), ("VDD_AN, VDD_PLL, VDD_SDS", -300, 1050), ("VDD_SDSH", -300, 1400),
   ("VDDQ", -300, 700), ("VDDA_18, VDD_IO18", -300, 2100), ("VDD_PINH", -300, 5000), ("VDD_PINL", -1300, 300)] ++
  [("VPn", -1000, 4000), ("FOUTnP, FOUTnN", -500, 2000)]

/-- Control and timing I/O: from −300 mV to 300 mV above VDD_IO18 (R393). -/
def ioMax (io18 : Int) : Int × Int := (-300, io18 + 300)

/-- The junction stands above the lid by 0.05 °C/W: hundredths of a degree (R401). -/
def aboveLid (watts : Nat) : Nat := 5 * watts

/-- What interface material and heat sink may add, in hundredths of °C/W, for a junction limit and an inlet in °C (R401). -/
def sinkBudget (tj inlet watts : Nat) : Nat := (100 * (tj - inlet) - aboveLid watts) / watts

/-- Device power in tenths of a watt, typical and largest (R400): ASLEEP, STANDBY, READY, HEAT half-populated, HEAT full. -/
def powerTable : List (Nat × Nat) := [(32, 45), (140, 210), (170, 250), (860, 980), (1100, 1240)]

/-! ### Reference and STARTER (R394, R395) -/

/-- How a reference's frequency error in ppm is taken (R394): within ±100 ppm the figures hold, to ±1,000 ppm it is tracked,
beyond it is declared lost (R48). -/
inductive RefError where
  | holds | tracked | lost
  deriving DecidableEq, Repr

@[inherit_doc RefError] def refError (ppm : Int) : RefError :=
  if ppm.natAbs ≤ 100 then .holds else if ppm.natAbs ≤ 1000 then .tracked else .lost

/-- A rising crossing of STARTER, in ps from an edge of CD_REF, keeps the window: 600 ps before it at least, or 400 ps after
(R395). -/
def starterClear (ps : Int) : Bool := decide (ps ≤ -600) || decide (400 ≤ ps)

/-- A STARTER pulse counts: high for 20 ns, low for 20 ns before (R395). -/
def starterPulse (highPs lowPs : Nat) : Bool := decide (20000 ≤ highPs) && decide (20000 ≤ lowPs)

/-! ### Control I/O (R398) -/

/-- A control input's level against VDD_IO18 in mV (R398): high from 0.65 of it, low to 0.35; between the two it is neither. -/
def ioLevel (io18 mv : Int) : Option Bool :=
  if 65 * io18 ≤ 100 * mv then some true else if 100 * mv ≤ 35 * io18 then some false else none

/-- What an undriven control input reads by its pull (R398): FREEZE_N, WAKE_N, TMS and TDI high; RECOVERY, PEER_EN and TRST_N
low. -/
def undriven (pin : String) : Option Bool :=
  if pin ∈ ["FREEZE_N", "WAKE_N", "TMS", "TDI"] then some true
  else if pin ∈ ["RECOVERY", "PEER_EN", "TRST_N"] then some false
  else none

end Sys2Proof.Machine
end

