-- ==== Sys2Proof/Machine/Boot.lean ====
section
/-! DEFINITION. The boot flash and its records (R363–R367), the start values of stage 2, and the stages of start-up from the
boot ROM to the supply check (R308–R311, R299). -/

namespace Sys2Proof.Machine

/-! ### The flash (R363, R364) -/

/-- What an erased byte of flash reads as. -/
def flashDef (_ : Nat) : Byte := 0xFF

/-- One byte of flash. -/
def State.flashRead (s : State) (a : Nat) : Byte := Sp.get flashDef s.mem.flash a

/-- Bytes of flash from address `a`. -/
def State.flashBytes (s : State) (a n : Nat) : List Byte := Sp.getMany flashDef s.mem.flash a n

/-- Erase `n` bytes from address `a` (whole sectors). -/
def State.flashErase (s : State) (a n : Nat) : State :=
  { s with mem := { s.mem with flash := s.mem.flash.filter (fun c => decide (c.1 < a) || decide (a + n ≤ c.1)) } }

/-- Program bytes from address `a`. -/
def State.flashPut (s : State) (a : Nat) (b : List Byte) : State :=
  { s with mem := { s.mem with flash := Sp.setMany flashDef s.mem.flash a b } }

/-- Bytes of a sector (R363). -/
def sectorBytes : Nat := 65536

/-- The first byte of a slot: A 0, B 1 (R364). -/
def slotBase (slot : Nat) : Nat := if slot = 0 then 0x100000 else 0x6100000

/-- The largest image, 96 MiB (R365). -/
def slotBytes : Nat := 0x6000000

/-- The progress sector and the download area (R364). -/
def progBase : Nat := 0xC100000

@[inherit_doc progBase] def downBase : Nat := 0xC110000

/-! ### Boot records (R366) -/

/-- A boot record without MAGIC and CRC; lengths, digests and halves by slot. -/
structure BootRec where
  seq : Nat
  active : Nat
  tent : Bool
  count : Nat
  prev : Bool
  half : Nat × Nat
  len : Nat × Nat
  dig : List Byte × List Byte
  deriving DecidableEq, Repr

/-- The component of a slot. -/
def ofSlot {α : Type} (slot : Nat) (p : α × α) : α := if slot = 0 then p.1 else p.2

/-- Replace the component of a slot. -/
def atSlot {α : Type} (slot : Nat) (p : α × α) (v : α) : α × α := if slot = 0 then (v, p.2) else (p.1, v)

/-- The record that 128 bytes hold; none where MAGIC or CRC is wrong. -/
def bootRecOf (b : List Byte) : Option BootRec :=
  let f := fun o n => leField b o n
  if f 0 4 = 0x424F4F54 ∧ f 124 4 = (crc32c (b.take 124)).toNat then
    some ⟨f 4 4, f 8 1 % 2, decide (f 9 1 = 1), f 10 1, decide (f 11 1 % 2 = 1), (f 12 1 % 2, f 13 1 % 2), (f 16 4, f 20 4),
      ((b.drop 24).take 48, (b.drop 72).take 48)⟩
  else none

/-- The 128 bytes of a record. -/
def BootRec.bytes (r : BootRec) : List Byte :=
  let one := fun (v : Nat) => leBytes 1 v
  let b := leBytes 4 0x424F4F54 ++ leBytes 4 r.seq ++ one r.active ++ one (b2n r.tent) ++ one r.count ++ one (b2n r.prev) ++
    one r.half.1 ++ one r.half.2 ++ [0, 0] ++ leBytes 4 r.len.1 ++ leBytes 4 r.len.2 ++ padTo 48 r.dig.1 ++ padTo 48 r.dig.2 ++
    [0, 0, 0, 0]
  b ++ leBytes 4 (crc32c b).toNat

/-- A copy of the boot record. -/
def State.bootCopy (s : State) (c : Nat) : Option BootRec := bootRecOf (s.flashBytes (sectorBytes * c) 128)

/-- The current record: the valid copy with the higher SEQ. -/
def State.curRec (s : State) : Option BootRec :=
  match s.bootCopy 0, s.bootCopy 1 with
  | some a, some b => some (if a.seq < b.seq then b else a)
  | some a, none => some a
  | none, b => b

/-- The copy that the next record write goes to: the invalid one, otherwise the older; copy 0 where neither is valid (log 18). -/
def State.nextCopy (s : State) : Nat :=
  match s.bootCopy 0, s.bootCopy 1 with
  | some a, some b => if a.seq < b.seq then 0 else 1
  | some _, none => 1
  | none, _ => 0

/-- UPD_STAT shows the current record. -/
def State.showRec (s : State) : State :=
  match s.curRec with
  | none => s
  | some r => ((s.put F.UPD_STAT_TENTATIVE (b2n r.tent)).put F.UPD_STAT_TENT_COUNT r.count).put F.UPD_STAT_PREV_VALID (b2n r.prev)

/-- Write a record: the other copy, SEQ one higher (R366). With no current record there is nothing to be higher than: SEQ is a
free value (log 18). -/
def State.writeRec (s : State) (r : BootRec) : State :=
  let (seq, s1) := match s.curRec with
    | some c => ((c.seq + 1) % 2 ^ 32, s)
    | none => (Config.freeNat s.free % 2 ^ 32, s.takeFree)
  let a := sectorBytes * s1.nextCopy
  ((s1.flashErase a sectorBytes).flashPut a ({ r with seq := seq }).bytes).showRec

/-! ### Start values of stage 2 -/

/-- The values that blocks read from the active half at stage 2 (R305, R308, R311, R341, R342). -/
def State.loadStart (s : State) : State :=
  let w := fun i => s.pvWord i
  let s1 := (List.range 128).foldl (fun t n =>
    if t.flag (F.VP_STAT_AT_REST n) then t.put (F.VP_STAT_DRIVE n) (restDrive (w (192 + n))) else t) s
  let s2 := (List.range 64).foldl (fun t n =>
    (t.put (F.FC_CALRES_TRIM_G n) (getBits 0 16 (w (64 + 2 * n)))).put (F.FC_CALRES_TRIM_O n) (getBits 0 16 (w (65 + 2 * n)))) s1
  let band := Sp.setMany (fun _ => (0 : Word)) [] 0 ((List.range 34).map (fun i => w (328 + i)))
  let th := getBits 0 8 (w 640)
  let align := Sp.setMany (fun _ => (0 : Int)) [] 0 ((List.range 176).flatMap (fun i =>
    [signed 16 (getBits 0 16 (w (664 + i))), signed 16 (getBits 16 16 (w (664 + i)))]))
  let s3 := (s2.put F.SUP_THERM_OT_THRESH (if 85 ≤ th ∧ th ≤ 115 then th else 100)).put F.SYNC_DEV_OFS_OFS (getBits 0 13 (w 656))
  let s4 := ({ s3 with clk := { s3.clk with band := band }, mir := { s3.mir with align := align } }).put
    F.SYNC_STAT_ALIGN_VALID 1
  let s5 := (s4.put F.MIR_CTRL_GAP (getBits 4 4 (w 848))).put F.MIR_CTRL_AUTO_TAKE (getBits 8 1 (w 848))
  (s5.put F.MIR_CTRL_ROLE (getBits 0 2 (w 848))).retrim s s.tm.tb

/-- The store's record of the active half: bit 0 of its word 0; its place there is the model's (log 18). -/
def State.storeHalf (s : State) : Nat := getBits 0 1 (Sp.get (fun _ => (0 : Word)) s.mem.pv 0)

/-- The updater makes a half the active one (R302). -/
def State.setHalf (s : State) (h : Nat) : State :=
  { (s.put F.PV_STAT_HALF h) with
    mem := { s.mem with pv := Sp.set (fun _ => (0 : Word)) s.mem.pv 0 (BitVec.ofNat 32 (h % 2)) } }

/-- Stage 2 (R308). `bad`: the halves whose records are unreadable. -/
def State.stage2 (s : State) (bad : Nat) : State :=
  let h := if bad % 4 = 3 then 0 else if bad % 4 = 0 then s.storeHalf else if bitOf bad 0 then 1 else 0
  let s1 := (s.put F.SUP_STAT_STAGE 2).put F.PV_STAT_HALF h
  let s2 := if bad % 4 = 3 then s1.log 0x14 0x07 1 0 3 else s1
  (((s2.loadStart).driveOutEn).mirPower)

/-! ### Stage 3: the boot ROM -/

/-- R367: a revert. -/
def State.revertBoot (s : State) (r : BootRec) : BootRec × State :=
  let r1 := { r with active := 1 - r.active, tent := false, count := 0 }
  (r1, (s.writeRec r1).raise F.UPD_STAT_REVERTED)

/-- The outcome of R367's table for a current record: none for recovery mode. -/
def State.bootOutcome (s : State) (r : BootRec) : Option (BootRec × State) :=
  let skip := decide (s.mg.skip = some r.active)
  if skip && r.tent then some (s.revertBoot r)
  else if skip && r.prev then
    let r1 := { r with active := 1 - r.active, prev := false }
    some (r1, s.writeRec r1)
  else if s.mg.skip.isSome then none
  else if r.tent && decide (r.count = 3) then some (s.revertBoot r)
  else if r.tent && decide (r.count < 3) then
    let r1 := { r with count := r.count + 1 }
    some (r1, s.writeRec r1)
  else some (r, s)

/-- A slot's header (R365). -/
def State.slotHead (s : State) (slot : Nat) : List Byte := s.flashBytes (slotBase slot) 256

/-- The header is good: MAGIC, HCRC, and IMAGE_LEN as the record has it (R367). -/
def State.slotOk (s : State) (slot len : Nat) : Bool :=
  let h := s.slotHead slot
  decide (leField h 0 4 = 0x534C4F54) && decide (leField h 252 4 = (crc32c (h.take 252)).toNat) && decide (leField h 8 4 = len)

/-- R367, repeated where the chosen slot's header is bad, on the state that the repetitions before it leave; none: recovery
mode. At most four times, since each repetition uses up a row. -/
def State.bootSlot : Nat → State → Option BootRec × State
  | 0, s => (none, s)
  | k + 1, s =>
    match s.curRec with
    | none => (none, s)
    | some r =>
      match s.bootOutcome r with
      | none => (none, s)
      | some (r1, s1) =>
        if s1.slotOk r1.active (ofSlot r1.active r1.len) then (some r1, s1)
        else State.bootSlot k { s1 with mg := { s1.mg with skip := some r1.active } }

/-- The bits of an IEEE 802.3 Clause 22 frame (R360): the fourteen up to the turnaround of a read, all 32 of a write. -/
def mdioBytes (wr : Bool) (phy reg data : Nat) : List Byte :=
  let head := 2 ^ 14 * 1 + 2 ^ 12 * (if wr then 1 else 2) + 2 ^ 7 * (phy % 32) + 2 ^ 2 * (reg % 32)
  if wr then beBytes 2 (head + 2) ++ beBytes 2 data else beBytes 2 head

/-- One Clause 22 frame of the boot ROM; the spec states neither register nor data: free values (log 7). -/
def State.romMdio (s : State) : State :=
  let x := Config.freeNat s.free
  s.takeFree.send 4 0 (mdioBytes (decide (x % 2 = 1)) (x / 2) (x / 64) (x / 2048 % 65536))

/-- The boot ROM brings up the PHY through Clause 22 (R385): a free number of frames, at least one (log 7). -/
def State.phyUp (s : State) : State :=
  (List.range (1 + Config.freeNat s.free % 16)).foldl (fun t _ => t.romMdio) s.takeFree

/-- Recovery mode (R385): only PD_AO and PD_MGMT are awake, every output on the hold path, and the PHY is brought up. -/
def State.recoveryMode (s : State) : State :=
  let s1 := s.allToHold
  let s2 := ((List.range 64).filter (fun d => s1.awake d)).foldl (fun t d => if d = 1 then t.sleepPll else t.sleepOne d) s1
  ((s2.put F.SUP_STAT_STAGE 0xF).put F.SUP_STAT_PSTATE 0).driveOutEn.phyUp

/-- Stage 3 (R308, R367). -/
def State.stage3 (s : State) : State :=
  let s0 := (s.setSel 0 ((s.otpWord 0).toNat + 2 ^ 32 * (s.otpWord 1).toNat)).put F.GLB_ID_STEP (getBits 16 8 (s.otpWord 2))
  let s1 := ((s0.put F.SUP_STAT_STAGE 3).put F.UPD_STAT_REVERTED 0).showRec
  if s1.flag F.SUP_STAT_RECOVERY then s1.recoveryMode
  else match State.bootSlot 6 s1 with
    | (none, s2) => s2.recoveryMode
    | (some r, s2) =>
      let s3 := (s2.put F.UPD_STAT_SLOT r.active).put F.SUP_STAT_STAGE 4
      let h := ofSlot r.active r.half
      if h = s3.fld F.PV_STAT_HALF then s3 else (((s3.setHalf h).loadStart).driveOutEn).mirPower

/-! ### Stage 4: the fabric image -/

/-- The DRAM fields of an image, which only the start-up load sets (R300). -/
def State.fabDram (s : State) (b : List Byte) : State :=
  ((((s.put F.DRAM_CFG_CH_EN (fabByte b 5 0)).put F.DRAM_CFG_CH_SIZE (fabByte b 5 1)).put F.DRAM_CFG_MAP_ORDER (fabByte b 5 2)).put
    F.DRAM_CFG_RES_GIB (fabByte b 5 3)).put F.DRAM_CFG_RES_MIRROR (fabByte b 5 4)

/-- The default structure (R299); its channels and their size follow in stage 6. -/
def State.fabDefault (s : State) : State :=
  let s1 := (((s.put F.FABRIC_UNITS_CLUSTERS 255).put F.FABRIC_UNITS_BANKS 15).put F.FABRIC_UNITS_OTHER 15).put
    F.FABRIC_UNITS_QPRIV 0
  let s2 := ((List.range 8).map (fun w => 0x1500C0 + 4 * w) ++ (List.range 32).map (fun w => 0x150040 + 4 * w)).foldl
    (fun (t : State) a => t.wr a 0) s1
  let s3 := ((s2.wr 0x10030 0).put F.DRAM_CFG_MAP_ORDER 5).put F.DRAM_CFG_RES_GIB 4
  ((s3.put F.DRAM_CFG_RES_MIRROR 0).setSel 0x5400 0).raise F.FABRIC_STAT_DEFAULT

/-- Stage 4 (R308) without its end. -/
def State.fabStart (s : State) : State :=
  let slot := s.fld F.UPD_STAT_SLOT
  let h := s.slotHead slot
  let len := leField h 40 4
  if len = 0 then s.fabDefault
  else
    let b := s.flashBytes (slotBase slot + leField h 36 4) (min len 65536)
    match (if 65536 < len then some ⟨stRange, 2, 0, none⟩ else s.fabCheck b len) with
    | some r => (s.fabRefuse r).fabDefault
    | none =>
      let s1 := (({ s with fab := b }).structure' b).fabDram b
      let s2 := ((s1.setSel 0x5400 (leField b 16 8)).raise F.FABRIC_STAT_LOADED).put F.FABRIC_STAT_DEFAULT 0
      s2.put F.FABRIC_STAT_STATUS stOk

/-- Stage 4 (R308). With the units known, a ROLE loaded in stage 2 wakes PD_MIR (R343). -/
def State.stage4 (s : State) : State := (s.fabStart.mirPower).put F.SUP_STAT_STAGE 5

/-! ### Stages 5 to 8 -/

/-- A sensor's temperature in eighths of a degree. -/
def State.temp (s : State) (i : Nat) : Int := signed 16 (s.fld (F.SUP_TEMP_TEMP i))

/-- The hottest sensor; the lowest-numbered of equals. -/
def State.hottest (s : State) : Nat := (List.range 16).foldl (fun b i => if s.temp b < s.temp i then i else b) 0

/-- An OVERTEMP or OVERTEMP_CLR record (R318). -/
def State.tempRec (s : State) (code : Nat) : State :=
  s.eventNow 0x14 code (s.hottest + 2 ^ 16 * unsigned 16 (s.temp s.hottest))

/-- A conversion of the sensors (R317–R319). A sensor without a reading in the list keeps its last. -/
def State.convert (s : State) (temps : List Int) : State :=
  let s1 := (List.range 16).foldl (fun t i => match temps[i]? with
    | some v => t.put (F.SUP_TEMP_TEMP i) (unsigned 16 v)
    | none => t) s
  let all := fun (lim : Int) => (List.range 16).all (fun i => decide (s1.temp i < lim))
  let th : Int := 8 * s1.fld F.SUP_THERM_OT_THRESH
  let s2 := if s1.flag F.SUP_STAT_TRIP_NOW && all 920 then s1.put F.SUP_STAT_TRIP_NOW 0 else s1
  if !s2.flag F.SUP_STAT_OT_NOW && !all th then
    (((s2.put F.SUP_STAT_OT_NOW 1).raise F.SUP_STAT_OT_SEEN).bump F.SUP_THERM_OT_COUNT).tempRec 0x02
  else if s2.flag F.SUP_STAT_OT_NOW && all (th - 40) then (s2.put F.SUP_STAT_OT_NOW 0).tempRec 0x03
  else s2

/-- Stage 5 (R308): with a qualified reference the main PLL locks at PLAN_N under R37, and the timebase counts. The sensors have been
converted since stage 2 (R317). -/
def State.stage5 (s : State) (e : StartEnv) : State :=
  if s.flag F.CLK_STAT_REF_VALID then
    let s1 := (s.convert e.temps).wakePll
    ((if e.miss then s1.bandMiss else s1).lockAt e.lock).put F.SUP_STAT_STAGE 6
  else s

/-- The setting that a channel's training leaves: the saved one where the quick check passes, which the model leaves open, else a
new one (R239, R308). -/
def State.startSetting (s : State) (c : Nat) : State :=
  let saved := (List.range 32).map (fun i => s.pvWord (384 + 32 * c + i))
  let t := s.takeFree.newLkg c
  t.setDch c { t.dch c with lkg := if Config.freeNat s.free % 2 = 1 then saved else (t.dch c).lkg }

/-- One channel of stage 6: a density other than CH_SIZE fences it with cause 1 (R226), a failed training with cause 2. -/
def State.startChannel (s : State) (e : StartEnv) (c : Nat) : State :=
  match e.density.getD c none with
  | none => s.fence c 2
  | some d =>
    if d.val ≠ s.fld F.DRAM_CFG_CH_SIZE then s.fence c 1
    else if e.trained.getD c false then
      let s1 := if s.flag (selfRef c) then s.leaveSelfRef c else s
      ((s1.startSetting c).put (trainedBit c) 1).put (awakeBit (0x18 + c)) 1
    else s.fence c 2

/-- The channels that respond. -/
def responding (e : StartEnv) : List Nat := (List.range 8).filter (fun c => (e.density.getD c none).isSome)

/-- Stage 6 (R308). Under the default structure (R299) the channels that train are enabled, and one of another density than CH_SIZE is fenced
with cause 1. -/
def State.stage6 (s : State) (e : StartEnv) : State :=
  let s0 := { s with dram := { s.dram with rate := some (s.fld F.DRAM_TRAIN_RATE) } }
  let s1 := if s0.flag F.FABRIC_STAT_DEFAULT then
      let dens := fun c => ((e.density.getD c none).map (fun d => d.val)).getD 0
      let size := dens ((responding e).headD 0)
      let same := (responding e).filter (fun c => decide (dens c = size))
      let on := same.filter (fun c => e.trained.getD c false)
      let s1 := (s0.put F.DRAM_CFG_CH_EN (on.foldl (fun m c => putBit m c true) 0)).put F.DRAM_CFG_CH_SIZE size
      ((responding e).filter (fun c => decide (dens c ≠ size))).foldl (fun t c => t.fence c 1) s1
    else s0
  let s2 := s1.enabled.foldl (fun t c => t.startChannel e c) s1
  (s2.remap s2.freeMapped).put F.SUP_STAT_STAGE 7

/-- Stage 7 (R308): the present clusters and banks wake and hand over, but for those that do not report ready; a wake waits for a trip to
clear (R319). -/
def State.stage7 (s : State) (e : StartEnv) : State :=
  let s1 := s.outDoms.foldl (fun t d => if bitOf e.late.toNat (d - 8) then t
    else if t.flag F.SUP_STAT_TRIP_NOW then t.markWaking d
    else t.setAwake d) s
  s1.put F.SUP_STAT_STAGE 8

/-- A measured rail is within its tolerance; the limit is inside the band (R390, R403). -/
def railOk (i : Nat) (mv : Int) : Bool :=
  match railTable[i]? with
  | some r => r.ok mv
  | none => true

/-- Nominal level of a rail in mV (R390). -/
def railNominal (i : Nat) : Int :=
  match railTable[i]? with
  | some r => r.mv
  | none => 0

/-- The supply check ends (R310): a rail without a measurement counts as nominal. -/
def State.supplyEnd (s : State) (mv : List Int) : State :=
  let bad := (List.range 13).filter (fun i => match mv[i]? with | some v => !railOk i v | none => false)
  let s1 := bad.foldl (fun t i =>
    (t.log 0x14 0x03 1 i (unsigned 16 (mv.getD i 0) + 2 ^ 16 * unsigned 16 (railNominal i))).raise F.SUP_STAT_SUPPLY_ERR) s
  ((s1.put F.SUP_MON_CMD_PASS (b2n bad.isEmpty)).put F.SUP_MON_CMD_STATUS stOk).put F.SUP_MON_CMD_BUSY 0

/-- The SUP_RB_FAIL bit of a channel (R309). -/
def rbFailBit (n : Nat) : Fld := if n < 32 then ⟨0x120010, n, 1⟩ else ⟨0x120014, n - 32, 1⟩

/-- One read-back of stage 8 (R187, R309). A channel whose cluster did not report ready fails. -/
def State.startReadBack (s : State) (e : StartEnv) (n : Nat) : State :=
  let c := max (-524288) (min 524287 (e.codes.getD n 0))
  let pass := s.awake (8 + n / 8) && decide ((c - s.restCode n).natAbs ≤ s.fld (F.FC_RB_TOL_TOL n))
  let s1 := ((s.put (F.FC_RB_VAL_CODE n) (unsigned 20 c)).put (F.FC_RB_PASS n) (b2n pass)).put (F.FC_RB_STATUS n) stOk
  if pass then s1
  else
    let s2 := (s1.raise (F.FC_STAT_RB_FAIL n)).log 0x14 0x02 1 n (unsigned 32 c + 2 ^ 32 * unsigned 32 (s.restCode n))
    (s2.put (rbFailBit n) 1).raise F.SUP_STAT_RB_FAIL

/-- How long stages 6 to 8 take is not stated: the timebase has counted a number of ticks, a free value (log 16). -/
def State.freeTicks (s : State) : State := { s.takeFree with tm := { s.tm with tb := s.tm.tb + Config.freeNat s.free } }

/-- Stage 8 (R308–R311). -/
def State.stage8 (s : State) (e : StartEnv) : State :=
  let s1 := ((s.freeTicks).setAwake 0x25).supplyEnd e.rails
  let s2 := if getBits 0 1 (s1.pvWord 641) = 1 then s1
    else ((List.range 64).filter (fun n => s1.hasK (n / 8))).foldl (fun t n => t.startReadBack e n) s1
  (((s2.freeTicks).put F.SUP_STAT_STAGE 9).sleepIdle).pllIdle

/-- Some of the management reserve is unreachable (R229). -/
def State.reserveLost (s : State) : Bool :=
  let en := s.enabled
  if s.flag F.DRAM_CFG_RES_MIRROR then
    (List.range (en.length / 2)).any (fun i => s.fenced (en.getD (2 * i) 0) && s.fenced (en.getD (2 * i + 1) 0)) || en.isEmpty
  else en.isEmpty || en.any (fun c => s.fenced c)

/-- The booted slot's image as its record has it: length and digest. -/
def State.bootedRec (s : State) : Nat × List Byte :=
  match s.curRec with
  | some r => (ofSlot (s.fld F.UPD_STAT_SLOT) r.len, ofSlot (s.fld F.UPD_STAT_SLOT) r.dig)
  | none => (0, [])

/-- The booted image matches its digest (R368). -/
def State.imageOk (s : State) : Bool :=
  let r := s.bootedRec
  decide (sha384 (s.flashBytes (slotBase (s.fld F.UPD_STAT_SLOT)) r.1) = r.2)

/-- Fraore is copied to LOAD_ADDR and started (R368): the skip latch is cleared, the device is in STANDBY. -/
def State.startFirmware (s : State) : State :=
  let slot := s.fld F.UPD_STAT_SLOT
  let h := s.slotHead slot
  let s1 := s.dramPut (leField h 20 8) (s.flashBytes (slotBase slot + leField h 12 4) (leField h 16 4))
  let s2 := { s1 with mg := { s1.mg with skip := none } }
  (s2.put F.SUP_STAT_STAGE 0xA).put F.SUP_STAT_PSTATE 1

end Sys2Proof.Machine
end

