-- ==== Sys2Proof/Machine/Update.lean ====
section
/-! DEFINITION. Update packages (R370–R372), updating a unit (R373–R384), and the boot ROM's recovery (R385). -/

namespace Sys2Proof.Machine

/-! ### Update frames (R374) -/

/-- An update frame's header and body. -/
structure Upd where
  type : Nat
  sid : Nat
  chunk : Nat
  frag : Nat
  stage : Nat
  body : List Byte
  deriving DecidableEq, Repr

/-- The frame that bytes spell: none where MAGIC, VERSION or HCRC is wrong, or LENGTH runs past the frame. -/
def updOf (b : List Byte) : Option Upd :=
  let f := fun o n => beNat ((b.drop o).take n)
  let body := (b.drop 24).take (f 16 2)
  if f 0 2 = 0xBA72 ∧ f 2 1 = 1 ∧ 24 + f 16 2 ≤ b.length ∧ f 20 4 = (crc32c (b.take 20 ++ body)).toNat then
    some ⟨f 3 1, f 4 4, f 8 4, f 12 1, f 13 1, body⟩
  else none

/-- A frame of the device: TYPE, SID, CHUNK, STAGE, STATUS, FLAGS, no body. -/
def updBytes (type sid chunk stage status flags : Nat) : List Byte :=
  let h := beBytes 2 0xBA72 ++ beBytes 1 1 ++ beBytes 1 type ++ beBytes 4 sid ++ beBytes 4 chunk ++ [0] ++ beBytes 1 stage ++
    beBytes 1 status ++ beBytes 1 flags ++ [0, 0, 0, 0]
  h ++ beBytes 4 (crc32c h).toNat

/-- The port's UDP number for update frames (R361). -/
def State.updPort (s : State) : Nat :=
  let p := getBits 0 16 (s.pvWord 865)
  if p = 0 then 0xBA72 else p

/-- The management port's IPv6 address. -/
def State.mgmtIp6 (s : State) : Nat := s.getSel 0x3C01 + 2 ^ 64 * s.getSel (selHigh 0x3C01)

/-- A UDP payload leaves the management port. -/
def State.mgmtUdp (s : State) (src mac ip sport dport : Nat) (b : List Byte) : State :=
  let h := Config.freeNat s.free
  (s.takeFree).send 3 0 (minFrame (etherHead mac (s.getSel 0x3C00) none (if isV4 ip then 0x0800 else 0x86DD) ++
    ipPacket h src ip (udpPart src ip sport dport b)))

/-- The parts of a frame on the mirror link (R381). -/
def State.updParts (s : State) (b : List Byte) : State :=
  let n := (b.length + 23) / 24
  (List.range n).foldl (fun t i =>
    let p := (b.drop (24 * i)).take 24
    t.mirSend 0x08 ([BitVec.ofNat 8 i, BitVec.ofNat 8 (b2n (decide (i + 1 = n)))] ++ leBytes 2 p.length ++ padTo 24 p)) s

/-- A frame of the device goes to its source. -/
def State.updTo (s : State) (d : UpdFrom) (b : List Byte) : State :=
  if d.src = 1 then s.updParts b
  else s.mgmtUdp (if isV4 d.ip then s.fld F.MGMT_IPV4_ADDR else s.mgmtIp6) d.mac d.ip s.updPort d.port b

/-- A REPLY (R375): chunks acknowledged, the present STAGE, a status. -/
def State.reply (s : State) (d : UpdFrom) (sid st : Nat) : State :=
  s.updTo d (updBytes 6 sid (s.fld F.UPD_PROG_ACKED) (s.fld F.UPD_STAT_STAGE) st 0)

/-! ### The lock (R373) -/

/-- The holder's source and addresses. -/
def State.holder (s : State) : UpdFrom := ⟨s.fld F.UPD_LOCK_SRC, s.mg.mac, s.mg.ip, s.mg.port⟩

/-- A frame comes from the lock's holder: its source, SID, address and port. -/
def State.held (s : State) (d : UpdFrom) (sid : Nat) : Bool :=
  s.flag F.UPD_LOCK_HELD && decide (s.fld F.UPD_LOCK_SRC = d.src) && decide (s.fld F.UPD_LOCK_SID_SID = sid) &&
    (decide (d.src = 1) || (decide (s.mg.ip = d.ip) && decide (s.mg.port = d.port)))

/-- The lock is granted. -/
def State.grantLock (s : State) (d : UpdFrom) (sid : Nat) : State :=
  let s1 := ((s.put F.UPD_LOCK_HELD 1).put F.UPD_LOCK_SRC d.src).put F.UPD_LOCK_SID_SID sid
  let s2 := (s1.setSel 0x4400 (d.ip % 2 ^ 64)).setSel (selHigh 0x4400) (d.ip / 2 ^ 64)
  { s2 with mg := { s2.mg with ip := d.ip, port := d.port, mac := d.mac, dropAt := if s.held d sid then s.mg.dropAt else none } }

/-- The lock is freed. -/
def State.freeLock (s : State) : State := s.put F.UPD_LOCK_HELD 0

/-- A STAGE record (R384). -/
def State.stageRec (s : State) (st : Nat) : State :=
  s.eventNow 0x1A 0x01 (s.fld F.UPD_STAT_STAGE + 2 ^ 8 * st + 2 ^ 16 * s.fld F.UPD_LOCK_SRC + 2 ^ 32 * s.fld F.UPD_PROG_ACKED)

/-- STAGE changes; a record is written where it does. -/
def State.toStage (s : State) (g st : Nat) : State :=
  if s.fld F.UPD_STAT_STAGE = g then s else (s.put F.UPD_STAT_STAGE g).stageRec st

/-- A stage has ended with a status. -/
def State.stageEnd (s : State) (st : Nat) : State := (s.put F.UPD_STAT_STATUS st).raise F.UPD_STAT_STAGE_DONE

/-- The STAGE frame whose VERIFY or ACTIVATE has ended gets its one REPLY, at its source (R375). -/
def State.answerAsked (s : State) (st : Nat) : State :=
  match s.mg.asked with
  | some (d, sid) => ({ s with mg := { s.mg with asked := none } }).reply d sid st
  | none => s

/-- A VERIFY or ACTIVATE in progress is abandoned: its REPLY carries a STATUS that the spec does not state, a free value (log 18). -/
def State.answerCut (s : State) : State :=
  if s.mg.asked.isSome then (s.takeFree).answerAsked (Config.freeNat s.free % 256) else s

/-- A STAGE request is refused. -/
def State.stageRefuse (s : State) (d : UpdFrom) (sid st : Nat) : State := (((s.stageEnd st).stageRec st).reply d sid st)

/-! ### Download (R375, R376) -/

/-- The largest package (R370). -/
def pkgMax : Nat := 65994752

/-- Chunks of a package. -/
def chunksOf (len : Nat) : Nat := (len + 65535) / 65536

/-- Bytes of the progress sector for a package: its ID, its length; the bitmap from byte 52 is left erased (log 18). -/
def progHead (id : List Byte) (len : Nat) : List Byte := padTo 48 id ++ leBytes 4 len

/-- A chunk's bit in the progress sector is still 1: it is not acknowledged. -/
def State.chunkOpen (s : State) (c : Nat) : Bool := bitOf (s.flashRead (progBase + 52 + c / 8)).toNat (c % 8)

/-- The length of the package that the progress sector names. -/
def State.pkgLen (s : State) : Nat := leField (s.flashBytes (progBase + 48) 4) 0 4

/-- A CLAIM resumes or begins a download (R376). -/
def State.claimStart (s : State) (id : List Byte) (len : Nat) : State :=
  let n := chunksOf len
  let same := decide (s.flashBytes progBase 52 = progHead id len)
  let s1 := if same then s else (s.flashErase progBase sectorBytes).flashPut progBase (progHead id len)
  let next := ((List.range n).find? (fun c => s1.chunkOpen c)).getD n
  let s2 := (s1.put F.UPD_PROG_ACKED next).put F.UPD_PROG_TOTAL n
  let s3 := if same && decide (s.fld F.UPD_PROG_ACKED = next) then s2 else { s2 with mg := { s2.mg with frags := [] } }
  let g := s3.fld F.UPD_STAT_STAGE
  if same && decide (2 ≤ g) && decide (g ≤ 4) then s3 else s3.toStage 1 stOk

/-- The booted image is tentative. -/
def State.bootedTent (s : State) : Bool :=
  match s.curRec with
  | some r => r.tent && decide (r.active = s.fld F.UPD_STAT_SLOT)
  | none => false

/-- The last such REPLY was less than a millisecond ago. While the timebase is held the model has no measure of it: a free value (log 12). -/
def State.dropRecent (s : State) : Bool :=
  match s.mg.dropAt with
  | some t => !s.usPast t 1000 && (s.flag F.TB_STAT_COUNTING || decide (Config.freeNat s.free % 2 = 1))
  | none => false

/-- A REPLY to a fragment of another chunk, at most once a millisecond (R376). A tick is 320,000 / N ps (R3). -/
def State.fragOther (s : State) (d : UpdFrom) (sid : Nat) : State :=
  let s1 := if s.flag F.TB_STAT_COUNTING then s else s.takeFree
  if s.dropRecent then s1 else ({ s1 with mg := { s1.mg with dropAt := some s.tm.tb } }).reply d sid stOk

/-- FRAG (R376). A fragment of another session, of another length or number is dropped (log 18). -/
def State.fragIn (s : State) (d : UpdFrom) (u : Upd) : State :=
  if !s.held d u.sid || decide (u.body.length ≠ 1024) || decide (64 ≤ u.frag) then s
  else if s.fld F.UPD_STAT_STAGE = 1 ∧ u.chunk = s.fld F.UPD_PROG_ACKED ∧ u.chunk < s.fld F.UPD_PROG_TOTAL then
    { s with mg := { s.mg with frags := s.mg.frags.filter (fun f => decide (f.1 ≠ u.frag)) ++ [(u.frag, u.body)] } }
  else s.fragOther d u.sid

/-- Every fragment of the next chunk is present. -/
def State.chunkFull (s : State) : Bool := (List.range 64).all (fun i => s.mg.frags.any (fun f => decide (f.1 = i)))

/-- The bytes of the next chunk that are kept: those within PKG_LEN. -/
def State.chunkBytes (s : State) : List Byte :=
  let b := (List.range 64).flatMap (fun i => match s.mg.frags.find? (fun f => decide (f.1 = i)) with
    | some f => f.2
    | none => [])
  b.take (s.pkgLen - sectorBytes * s.fld F.UPD_PROG_ACKED)

/-- Programming a bit of the progress sector from 1 to 0. -/
def State.clearBit (s : State) (c : Nat) : State :=
  let a := progBase + 52 + c / 8
  s.flashPut a [BitVec.ofNat 8 (putBit (s.flashRead a).toNat (c % 8) false)]

/-- CHUNK_PROGRAMMED (R376). Where the read-back differs, the chunk is not acknowledged, and what its sector holds is open
(log 18). -/
def State.chunkDone (s : State) (ok : Bool) : State :=
  let c := s.fld F.UPD_PROG_ACKED
  let b := s.chunkBytes
  let s0 := { s with mg := { s.mg with frags := [] } }
  let s1 := s0.flashErase (downBase + sectorBytes * c) sectorBytes
  if ok then
    let s2 := ((s1.flashPut (downBase + sectorBytes * c) b).clearBit c).put F.UPD_PROG_ACKED (c + 1)
    s2.reply s2.holder (s2.fld F.UPD_LOCK_SID_SID) stOk
  else
    let g := (List.range b.length).map (fun i => BitVec.ofNat 8 (Config.freeNat (s.free + i)))
    { s1.flashPut (downBase + sectorBytes * c) g with free := s.free + b.length }

/-! ### VERIFY (R370–R372, R377) -/

/-- Step 2: layout; `claim`: PKG_LEN of the claim, where there is one. -/
def pkgLayout (b : List Byte) (claim : Option Nat) : Bool :=
  let f := fun o n => leField b o n
  decide (f 0 4 = 0x50444B47) && decide (f 4 2 = 1) && decide (f 7 1 = 0) && decide (f 18 6 = 0) && decide (f 320 64 = 0) &&
    decide (384 ≤ b.length) && decide (f 8 4 ≤ pkgMax) && decide (f 12 4 ≤ slotBytes) &&
    (match claim with | some n => decide (f 8 4 = n) | none => true)

/-- Step 3: HW_TYPE and UNIT_ID. -/
def State.pkgBinding (s : State) (b : List Byte) : Bool :=
  decide (leField b 16 2 = s.fld F.GLB_ID_DEV_TYPE) && (decide (leField b 24 8 = 0) || decide (leField b 24 8 = s.getSel 0))

/-- Twelve one-time words from `k` as 48 bytes (R372). -/
def State.otpDigest (s : State) (k : Nat) : List Byte := (List.range 12).flatMap (fun i => leBytes 4 (s.otpWord (k + i)).toNat)

/-- Step 4: PUBKEY under the key rule of R372. -/
def State.pkgKey (s : State) (b : List Byte) : Bool :=
  let sel := leField b 6 1
  let owner := (List.range 12).any (fun i => decide (s.otpWord (28 + i) ≠ 0))
  let dig := sha384 ((b.drop 128).take 96)
  if owner then decide (sel = 1) && decide (dig = s.otpDigest 28) else decide (sel = 0) && decide (dig = s.otpDigest 16)

/-- Step 5: the signature over the package with bytes 224–319 zero (R372). -/
def pkgSigned (b : List Byte) : Bool :=
  let z := sha384 (b.take 224 ++ List.replicate 96 0 ++ b.drop 320)
  let n := fun o => beNat ((b.drop o).take 48)
  ecdsaOk (beNat z) (n 128) (n 176) (n 224) (n 272)

/-- The operations of a body (R371) build the result: what has been built, and whether END was met with every rule kept.
`left`: bytes of the result still to build. -/
def runOps (base : List Byte) : Nat → List Byte → Nat → List Byte → List Byte × Bool
  | 0, _, _, out => (out, false)
  | k + 1, b, left, out =>
    let op := leField b 0 4
    let len := leField b 4 4
    let arg := leField b 8 8
    if b.length < 16 ∨ left < len then (out, false)
    else match op with
      | 0 => (out, decide (len = left))
      | 1 => if base.length < arg + len then (out, false)
          else runOps base k (b.drop 16) (left - len) (out ++ (base.drop arg).take len)
      | 2 => if b.length < 16 + len then (out, false)
          else runOps base k (b.drop (16 + (len + 15) / 16 * 16)) (left - len) (out ++ ((b.drop 16).take len))
      | _ => (out, false)

/-- The slot that is not booted. -/
def State.otherSlot (s : State) : Nat := 1 - s.fld F.UPD_STAT_SLOT

/-- Steps 1 to 6 of R377: the status of the first that fails. -/
def State.verifyChecks (s : State) (b : List Byte) : Nat :=
  if s.fld F.UPD_PROG_ACKED ≠ s.fld F.UPD_PROG_TOTAL then stState
  else if !pkgLayout b (some s.pkgLen) then stRange
  else if !s.pkgBinding b then stBinding
  else if !s.pkgKey b then stBinding
  else if !pkgSigned b then stCrc
  else if (b.drop 32).take 48 ≠ s.bootedRec.2 then stBinding
  else stOk

/-- The package in the download area. -/
def State.package (s : State) : List Byte := s.flashBytes downBase s.pkgLen

/-- A record with PREV_VALID 0 is written (R377 step 7). -/
def State.prevOff (s : State) : State :=
  match s.curRec with
  | some r => s.writeRec { r with prev := false }
  | none => s

/-- Steps 7 and 8 of R377. -/
def State.verifyBuild (s : State) (b : List Byte) : Nat × State :=
  let len := leField b 12 4
  let base := s.flashBytes (slotBase (s.fld F.UPD_STAT_SLOT)) s.bootedRec.1
  let r := runOps base (b.length / 16 + 1) (b.drop 384) len []
  let a := slotBase s.otherSlot
  let s1 := ((s.prevOff).flashErase a slotBytes).flashPut a r.1
  if !r.2 then (stRange, s1)
  else if sha384 r.1 ≠ (b.drop 80).take 48 then (stCrc, s1)
  else (stOk, s1)

/-- A STAGE frame with stage 2 (R375, R377): from DOWNLOAD or VERIFIED. -/
def State.verifyCmd (s : State) (d : UpdFrom) (u : Upd) : State :=
  let g := s.fld F.UPD_STAT_STAGE
  if !s.held d u.sid || !(decide (g = 1) || decide (g = 3)) then s.stageRefuse d u.sid stState
  else ({ s with mg := { s.mg with asked := some (d, u.sid) } }).toStage 2 stOk

/-- VERIFY_DONE (R377): VERIFIED, or DOWNLOAD with the status of the failed step; the STAGE frame gets its REPLY. -/
def State.verifyDone (s : State) : State :=
  let b := s.package
  let st := s.verifyChecks b
  let r := if st = stOk then s.verifyBuild b else (st, s)
  ((r.2.stageEnd r.1).toStage (if r.1 = stOk then 3 else 1) r.1).answerAsked r.1

/-! ### ACTIVATE (R378) -/

/-- Copy words `a` to `b − 1` of the active half into the inactive half (R378): equal words are skipped, a worn word keeps its
value (R304). -/
def State.copyHalf (s : State) (a b : Nat) : State :=
  let h := s.fld F.PV_STAT_HALF
  ((List.range b).drop a).foldl (fun t i =>
    let v := t.pvWord i
    let k := pvPhys (1 - h) i
    if Sp.get (fun _ => (0 : Word)) t.mem.pv k = v then t
    else if 1000000 ≤ t.pvWear k then ((t.put F.PV_STAT_LAST_STATUS stWorn).raise F.PV_STAT_PV_WORN).put F.PV_WORN_ADDR_INDEX i
    else { t with mem := { t.mem with pv := Sp.set (fun _ => (0 : Word)) t.mem.pv k v,
                                      wear := Sp.set (fun _ => 0) t.mem.wear k (t.pvWear k + 1) } }) s

/-- A STAGE frame with stage 4 (R378): the copy of the half begins; how far it has come when the next command is taken is a free
value (log 18). -/
def State.activateCmd (s : State) (d : UpdFrom) (u : Upd) : State :=
  if !s.held d u.sid || decide (s.fld F.UPD_STAT_STAGE ≠ 3) then s.stageRefuse d u.sid stState
  else
    let k := Config.freeNat s.free % 8161
    let s1 := ((s.takeFree).copyHalf 0 k).toStage 4 stOk
    { s1 with mg := { s1.mg with copied := k, asked := some (d, u.sid) } }

/-- The record that ACTIVATE writes (R378). -/
def State.activateRec (s : State) (r : BootRec) : BootRec :=
  let o := s.otherSlot
  let b := s.flashBytes downBase 384
  { r with active := o, tent := true, count := 0, prev := true, half := atSlot o r.half (1 - s.fld F.PV_STAT_HALF),
           len := atSlot o r.len (leField b 12 4), dig := atSlot o r.dig ((b.drop 80).take 48) }

/-- ACTIVATE_DONE (R378): the rest of the half is copied, the record written, the lock freed. -/
def State.activateDone (s : State) : State :=
  let s1 := s.copyHalf s.mg.copied 8160
  let s2 := match s1.curRec with
    | some r => s1.writeRec (s1.activateRec r)
    | none => s1
  (((s2.stageEnd stOk).toStage 5 stOk).answerAsked stOk).freeLock

/-! ### Frames in (R375, R381, R382) -/

/-- An abandoned VERIFY that had begun to build (R386): the record with PREV_VALID 0 stands, and the other slot is partly written:
its contents are open. -/
def State.breakBuild (s : State) : State :=
  let a := slotBase s.otherSlot
  let n := leField s.package 12 4
  let s1 := (s.prevOff).flashErase a slotBytes
  { s1.flashPut a ((List.range n).map (fun i => BitVec.ofNat 8 (Config.freeNat (s1.free + i)))) with free := s1.free + n }

/-- A VERIFY in progress is abandoned at its present step, which the model leaves open: whether its record with PREV_VALID 0
stands is a free value (log 18). -/
def State.leaveVerify (s : State) : State :=
  if s.fld F.UPD_STAT_STAGE ≠ 2 then s
  else if s.verifyChecks s.package = stOk ∧ Config.freeNat s.free % 2 = 1 then (s.takeFree).breakBuild
  else s.takeFree

/-- A CLAIM of a package other than the progress sector's (R376) abandons a VERIFY or ACTIVATE in progress (log 18). -/
def State.claimLeaves (s : State) (id : List Byte) (len : Nat) : State :=
  let g := s.fld F.UPD_STAT_STAGE
  if (g = 2 ∨ g = 4) ∧ s.flashBytes progBase 52 ≠ progHead id len then (s.leaveVerify).answerCut else s

/-- CLAIM (R373, R375, R376). -/
def State.claim (s : State) (d : UpdFrom) (u : Upd) : State :=
  let id := padTo 48 u.body
  let len := beNat ((u.body.drop 48).take 4)
  if s.flag F.UPD_LOCK_HELD && !s.held d u.sid then s.reply d u.sid stBusy
  else if s.bootedTent then s.reply d u.sid stState
  else if len = 0 ∨ pkgMax < len then s.reply d u.sid stRange
  else (((s.claimLeaves id len).grantLock d u.sid).claimStart id len).reply d u.sid stOk

/-- ABORT: a STAGE frame with stage 0 (R373, R375). A VERIFY or ACTIVATE that it ends is answered first. -/
def State.abortUpd (s : State) (d : UpdFrom) (u : Upd) : State :=
  if !s.held d u.sid then s.stageRefuse d u.sid stState
  else
    let s0 := (s.leaveVerify).answerCut
    let s1 := (({ s0 with mg := { s0.mg with frags := [] } }).stageEnd stOk).toStage 0 stOk
    (s1.freeLock).reply d u.sid stOk

/-- RELEASE. -/
def State.releaseUpd (s : State) (d : UpdFrom) (u : Upd) : State :=
  if s.held d u.sid then (s.freeLock).reply d u.sid stOk else s.reply d u.sid stState

/-- The device's action on a frame (R375). A frame of another type has no action, a STAGE of another code is refused with RANGE
(log 18). -/
def State.updAct (s : State) (d : UpdFrom) (u : Upd) : State :=
  match u.type with
  | 1 => s.claim d u
  | 2 => s.fragIn d u
  | 3 => match u.stage with
    | 2 => s.verifyCmd d u
    | 4 => s.activateCmd d u
    | 0 => s.abortUpd d u
    | _ => s.stageRefuse d u.sid stRange
  | 4 => s.releaseUpd d u
  | 5 => s.reply d u.sid stOk
  | _ => s

/-- The records of a frame in UPDQ (R382). -/
def updRecs (b : List Byte) : List Rec :=
  (List.range ((b.length + 63) / 64)).map (fun i => wordsOf (padTo 64 ((b.drop (64 * i)).take 64)))

/-- The tags beside a frame's records (R382). -/
def updTag (src n : Nat) : List (BitVec 2) := (List.range n).map (fun i => BitVec.ofNat 2 (src % 2 + if i = 0 then 2 else 0))

/-- UPDQ has room for all records of a frame. -/
def State.updRoom (s : State) (f : UpdFrame) : Bool := decide (s.level 13 + (updRecs f.bytes).length ≤ qDepth 13)

/-- A frame's records enter UPDQ with their tags (R382). -/
def State.updEnter (s : State) (src : Nat) (f : UpdFrame) : State :=
  let l := updRecs f.bytes
  let s1 := l.foldl (fun t r => t.enter 13 r) s
  { s1 with mg := { s1.mg with updHeld := s1.mg.updHeld ++ [(src, f)], updTags := s1.mg.updTags ++ updTag src l.length } }

/-- A writer path writes a frame where there is room; else it holds one frame, and drops later ones (R382). -/
def State.updPut (s : State) (src : Nat) (f : UpdFrame) : State :=
  if s.mg.updWait.any (fun w => decide (w.1 = src)) then s.bump F.UPD_DROP_FRAMES
  else if s.updRoom f then s.updEnter src f
  else { s with mg := { s.mg with updWait := s.mg.updWait ++ [(src, f)] } }

/-- The frames that the paths hold are written as room comes, oldest first. -/
def State.updFill (s : State) : State :=
  match s.mg.updWait with
  | [] => s
  | (src, f) :: rest => if s.updRoom f then ({ s with mg := { s.mg with updWait := rest } }).updEnter src f else s

/-- The device forwards a frame of its source-0 holder to the partner (R381). -/
def State.forwards (s : State) (d : UpdFrom) (sid : Nat) : Bool :=
  decide (d.src = 0) && s.held d sid && s.flag F.UPD_CTRL_FORWARD && decide (s.pair ≠ pairDown)

/-- What the updater does with a frame that it has taken from UPDQ: one with an uncorrectable word is discarded (R382, R295). -/
def State.updDo (s : State) (src : Nat) (f : UpdFrame) : State :=
  match updOf f.bytes with
  | none => s
  | some u =>
    let s1 := s.addTo F.UPDQ_CNT_CORR_COUNT f.corrected
    match f.ecc with
    | some w => s1.eccBad 13 w.val
    | none =>
      let d : UpdFrom := ⟨src, f.srcMac.toNat, f.srcIp.toNat, f.srcPort.toNat⟩
      let s2 := s1.updAct d u
      if s1.forwards d u.sid || s2.forwards d u.sid then s2.updParts f.bytes else s2

/-- The updater takes the first frame of UPDQ: its records and tags leave. -/
def State.updTake (s : State) : State :=
  match s.mg.updHeld with
  | [] => s
  | (src, f) :: rest =>
    let n := (updRecs f.bytes).length
    let s1 := (List.range n).foldl (fun t _ => t.leave 13) s
    ({ s1 with mg := { s1.mg with updHeld := rest, updTags := s1.mg.updTags.drop n } }).updFill.updDo src f

/-- The updater takes what stands in UPDQ; it is never behind by more than the frames of one step (log 18). -/
def State.updTakeAll (s : State) : State :=
  (List.range (s.mg.updHeld.length + s.mg.updWait.length)).foldl (fun t _ => t.updTake) s.updFill

/-- An update frame arrives (R374, R382). What no UDP payload is long enough for is no frame. -/
def State.updIn (s : State) (src : Nat) (f : UpdFrame) : State :=
  if (updOf f.bytes).isNone ∨ 2 ^ 16 ≤ f.bytes.length then s.bump F.UPD_DROP_FRAMES else (s.updPut src f).updTakeAll

/-- The updater runs: start-up has ended. -/
def State.updLive (s : State) : Bool := s.live && decide (s.fld F.SUP_STAT_STAGE = 0xA)

/-- A frame of one type, and of one stage code where it is a STAGE frame; a frame that fails R374 is taken by any row. -/
def updIs (f : UpdFrame) (type : Nat) (stage : Option Nat) : Bool :=
  match updOf f.bytes with
  | none => true
  | some u => decide (u.type = type) && (match stage with | some g => decide (u.stage = g) | none => true)

/-- A management-port frame of a row. -/
def State.updRow (s : State) (f : UpdFrame) (type : Nat) (stage : Option Nat) : State :=
  if s.updLive && updIs f type stage then s.updIn 0 f else s

/-- CLAIM. -/
def execClaim (f : UpdFrame) (s : State) : Host.Outcome State Fault Refusal := .next (s.updRow f 1 none)

/-- FRAG. -/
def execFrag (f : UpdFrame) (s : State) : Host.Outcome State Fault Refusal := .next (s.updRow f 2 none)

/-- CHUNK_PROGRAMMED. -/
def execChunkProgrammed (ok : Bool) (s : State) : Host.Outcome State Fault Refusal :=
  if s.updLive && decide (s.fld F.UPD_STAT_STAGE = 1) && s.chunkFull then .next (s.chunkDone ok) else .next s

/-- VERIFY. -/
def execVerify (f : UpdFrame) (s : State) : Host.Outcome State Fault Refusal := .next (s.updRow f 3 (some 2))

/-- VERIFY_DONE. -/
def execVerifyDone (s : State) : Host.Outcome State Fault Refusal :=
  if s.updLive && decide (s.fld F.UPD_STAT_STAGE = 2) then .next s.verifyDone else .next s

/-- ACTIVATE. -/
def execActivate (f : UpdFrame) (s : State) : Host.Outcome State Fault Refusal := .next (s.updRow f 3 (some 4))

/-- ACTIVATE_DONE. -/
def execActivateDone (s : State) : Host.Outcome State Fault Refusal :=
  if s.updLive && decide (s.fld F.UPD_STAT_STAGE = 4) then .next s.activateDone else .next s

/-- UPD_ABORT. -/
def execUpdAbort (f : UpdFrame) (s : State) : Host.Outcome State Fault Refusal := .next (s.updRow f 3 (some 0))

/-- UPD_RELEASE. -/
def execUpdRelease (f : UpdFrame) (s : State) : Host.Outcome State Fault Refusal := .next (s.updRow f 4 none)

/-- UPD_QUERY. -/
def execUpdQuery (f : UpdFrame) (s : State) : Host.Outcome State Fault Refusal := .next (s.updRow f 5 none)

/-- A partner's REPLY goes on to the host with PEER set (R381): the bytes before HCRC, with FLAGS bit 0. -/
def peerBytes (b : List Byte) : List Byte :=
  let h := b.take 15 ++ [BitVec.ofNat 8 (putBit (beNat ((b.drop 15).take 1)) 0 true)] ++ (b.drop 16).take 4
  let body := b.drop 24
  h ++ beBytes 4 (crc32c (h ++ body)).toNat ++ body

/-- The host that the partner's REPLYs go on to (R381): the source-0 holder, also where an answer comes after the lock was freed
(RELEASE, ABORT, the end of ACTIVATE: DEDUCED, log 18). -/
def State.peerHost (s : State) : Option UpdFrom :=
  if s.fld F.UPD_LOCK_SRC = 0 ∧ s.mg.ip ≠ 0 then some s.holder else none

/-- MIR_UPD_FRAME (R381): a frame put together from its parts. -/
def State.mirUpd (s : State) (f : UpdFrame) : State :=
  let s1 := s.mirSeen
  match updOf f.bytes with
  | some u =>
    if u.type = 6 then
      match s1.peerHost with
      | some d => s1.updTo d (peerBytes f.bytes)
      | none => s1
    else s1.updIn 1 f
  | none => s1.updIn 1 f

/-- MIR_UPD_FRAME. -/
def execMirUpdFrame (f : UpdFrame) (s : State) : Host.Outcome State Fault Refusal :=
  if s.mirLive && s.updLive then .next (s.mirUpd f).noteLevels else .next s

/-- UPDATE_FRAME_DROP (R374, R382). -/
def execUpdateFrameDrop (mirror : Bool) (s : State) : Host.Outcome State Fault Refusal :=
  if s.live && (!mirror || s.flag F.MIR_STAT_LINK_UP) then .next (s.bump F.UPD_DROP_FRAMES) else .next s

/-- LOCK_IDLE (R373): IDLE_S seconds without a valid frame from the holder. -/
def execLockIdle (s : State) : Host.Outcome State Fault Refusal :=
  if s.live && s.flag F.UPD_LOCK_HELD then .next s.freeLock else .next s

/-! ### Resident commands (R379, R373) -/

/-- UPD_CMD.STATUS. -/
def State.updStatus (s : State) (st : Nat) : State := s.put F.UPD_CMD_STATUS st

/-- UPD_CMD.CONFIRM (R379): the record write is one step of the model (log 18). -/
def State.confirmCmd (s : State) : State :=
  match s.curRec with
  | some r => if r.tent then (s.writeRec { r with tent := false, count := 0 }).updStatus stOk else s.updStatus stState
  | none => s.updStatus stState

/-- UPD_CMD.REVERT (R379): the other slot, from the next boot. -/
def State.revertCmd (s : State) : State :=
  match s.curRec with
  | some r =>
    if r.tent then (s.writeRec { r with active := 1 - r.active, tent := false }).updStatus stOk else s.updStatus stState
  | none => s.updStatus stState

/-- UPD_CMD.BREAK (R373, R386): the lock is freed; a VERIFY in progress is abandoned, and its STAGE frame answered (R375). -/
def State.breakCmd (s : State) : State :=
  let s1 := s.freeLock
  (if s1.fld F.UPD_STAT_STAGE = 2 then ((s1.leaveVerify).toStage 1 stOk).answerCut else s1).updStatus stOk

/-- A command of UPD_CMD. -/
def updRun (i : Nat) (s : State) : State :=
  match i with
  | 0 => s.confirmCmd
  | 1 => s.revertCmd
  | _ => s.breakCmd

/-- A write to a register of UPD that has passed the checks of R276. -/
def State.updWrite (s : State) (a : Nat) (v : Word) : State :=
  match a with
  | 0x110000 => if getBits 8 8 v = 0 then s.plain a (setBits 8 8 (s.fld F.UPD_CTRL_IDLE_S) v) else s.plain a v
  | 0x110008 => s.command F.UPD_CMD_STATUS (s.flag F.UPD_CMD_BUSY) [0, 1, 2] v updRun
  | _ => s.plain a v

/-! ### Recovery mode (R385) -/

/-- The boot ROM is in recovery mode. -/
def State.inRecovery (s : State) : Bool := s.live && decide (s.fld F.SUP_STAT_STAGE = 0xF)

/-- The IPv4 address of recovery mode. -/
def State.recIp (s : State) : Nat :=
  let w := (s.pvWord 864).toNat
  let u := s.getSel 0
  if w ≠ 0 then w else 169 * 2 ^ 24 + 254 * 2 ^ 16 + (1 + u / 256 % 256 % 254) * 256 + (1 + u % 256 % 254)

/-- RECOVERY_ARP: an ARP request for that address is answered. -/
def State.recArp (s : State) (b : List Byte) : State :=
  let tag := if beNat ((b.drop 12).take 2) = 0x8100 then 4 else 0
  let body := b.drop (14 + tag)
  let dst := beNat (b.take 6)
  let mac := s.getSel 0x3C00
  if beNat ((b.drop (12 + tag)).take 2) = 0x0806 ∧ (dst = 2 ^ 48 - 1 ∨ dst = mac) ∧ arpFor body s.recIp then
    s.send 3 0 (minFrame ((b.drop 6).take 6 ++ beBytes 6 mac ++ (b.drop 12).take tag ++ beBytes 2 0x0806 ++ arpReply body mac s.recIp))
  else s

/-- RECOVERY_ARP. -/
def execRecoveryArp (f : RxFrame) (s : State) : Host.Outcome State Fault Refusal :=
  if s.inRecovery then .next (s.recArp f.bytes) else .next s

/-- A TFTP message leaves the boot ROM. -/
def State.tftpSend (s : State) (mac ip port tid : Nat) (b : List Byte) : State :=
  s.mgmtUdp s.recIp mac (0xFFFF * 2 ^ 32 + ip) tid port b

/-- A TFTP ERROR (RFC 1350); its text is not stated, and the model sends none (log 19). -/
def tftpError (code : Nat) : List Byte := beBytes 2 5 ++ beBytes 2 code ++ [0]

/-- A TFTP ACK. -/
def tftpAck (n : Nat) : List Byte := beBytes 2 4 ++ beBytes 2 (n % 65536)

/-- The string that ends at the next zero byte, in lower case, and what follows. -/
def zstring : List Byte → List Nat × List Byte
  | [] => ([], [])
  | c :: r =>
    if c = 0 then ([], r)
    else
      let n := c.toNat
      let t := zstring r
      ((if 65 ≤ n ∧ n ≤ 90 then n + 32 else n) :: t.1, t.2)

/-- A write request in octet mode: opcode 2, a file name, the mode. -/
def tftpOctet (b : List Byte) : Bool :=
  decide (beNat (b.take 2) = 2) && decide ((zstring (zstring (b.drop 2)).2).1 = [111, 99, 116, 101, 116])

/-- TFTP_WRITE_REQUEST: a read or write request on port 69. The port that the ROM answers from is a free value (log 19). -/
def State.tftpRequest (s : State) (f : TftpFrame) : State :=
  let op := beNat (f.bytes.take 2)
  let tid := Config.freeNat s.free % 65536
  let s1 := s.takeFree
  let say := fun (t : State) b => t.tftpSend f.srcMac.toNat f.srcIp.toNat f.srcPort.toNat tid b
  if op ≠ 1 ∧ op ≠ 2 then s
  else if !tftpOctet f.bytes then say s1 (tftpError 4)
  else if (match s.mg.tftp with | some t => t.last.isNone | none => false) then say s1 (tftpError 0)
  else
    say { s1 with mg := { s1.mg with tftp := some ⟨f.srcMac.toNat, f.srcIp.toNat, f.srcPort.toNat, tid, [], none⟩ } } (tftpAck 0)

/-- TFTP_WRITE_REQUEST. -/
def execTftpWriteRequest (f : TftpFrame) (s : State) : Host.Outcome State Fault Refusal :=
  if s.inRecovery then .next (s.tftpRequest f) else .next s

/-- The slot that recovery writes: the one other than ACTIVE, or slot A. -/
def State.recTarget (s : State) : Nat := match s.curRec with | some r => 1 - r.active | none => 0

/-- The checks on the first block: steps 2 to 4 of R377, BASE_DIGEST zero, one DATA operation. -/
def State.recFirst (s : State) (b : List Byte) : Bool :=
  pkgLayout b none && s.pkgBinding b && s.pkgKey b && decide (leField b 32 48 = 0) && decide (leField b 384 4 = 2) &&
    decide (leField b 388 4 = leField b 12 4)

/-- The result bytes of a recovery package as far as it has arrived. -/
def recResult (b : List Byte) : List Byte := (b.drop 400).take (leField b 12 4)

/-- The checks after the last block: the package is whole, steps 5 and 8. -/
def recLast (b : List Byte) : Bool :=
  decide (b.length = leField b 8 4) && decide ((recResult b).length = leField b 12 4) &&
    decide (leField b (400 + (leField b 12 4 + 15) / 16 * 16) 4 = 0) && pkgSigned b &&
    decide (sha384 (recResult b) = (b.drop 80).take 48)

/-- What no record states of the other slot, where there is none: free values (log 18). -/
def State.freshRec (s : State) : BootRec :=
  let n := fun i => Config.freeNat (s.free + i)
  ⟨0, 0, false, 0, false, (n 0 % 2, n 1 % 2), (n 2 % 2 ^ 32, n 3 % 2 ^ 32),
    ((List.range 48).map (fun i => BitVec.ofNat 8 (n (4 + i))), (List.range 48).map (fun i => BitVec.ofNat 8 (n (52 + i))))⟩

/-- Step 5 of recovery: the record with ACTIVE = target, CONFIRMED. -/
def State.recRecord (s : State) (b : List Byte) (target : Nat) : State :=
  let (r, s1) := match s.curRec with
    | some r => (r, s)
    | none => (s.freshRec, { s with free := s.free + 100 })
  s1.writeRec { r with active := target, tent := false, count := 0, half := atSlot target r.half (s.fld F.PV_STAT_HALF),
                       len := atSlot target r.len (leField b 12 4), dig := atSlot target r.dig ((b.drop 80).take 48) }

/-- A block of the transfer is taken. `got`: the file with it; `size`: bytes of the block. -/
def State.tftpBlock (s : State) (t : Tftp) (got : List Byte) (size : Nat) : State :=
  let n := (got.length - size) / 512 + 1
  let fail := fun (u : State) => ({ u with mg := { u.mg with tftp := none } }).tftpSend t.mac t.ip t.port t.tid (tftpError 0)
  let target := s.recTarget
  if n = 1 ∧ !s.recFirst got then fail s
  else
    let s1 := if n = 1 then ((s.prevOff).flashErase (slotBase target) slotBytes) else s
    let done := (recResult (got.take (got.length - size))).length
    let s2 := s1.flashPut (slotBase target + done) ((recResult got).drop done)
    if size = 512 then
      ({ s2 with mg := { s2.mg with tftp := some { t with got := got } } }).tftpSend t.mac t.ip t.port t.tid (tftpAck n)
    else if !recLast got then fail s2
    else
      let s3 := s2.recRecord got target
      ({ s3 with mg := { s3.mg with tftp := some { t with got := got, last := some n }, recovered := true } }).tftpSend
        t.mac t.ip t.port t.tid (tftpAck n)

/-- TFTP_DATA: the next block is taken; the block before is acknowledged again; a message of another host or port is answered with
ERROR code 5 (RFC 1350, log 19). -/
def State.tftpIn (s : State) (f : TftpFrame) : State :=
  match s.mg.tftp with
  | none => s
  | some t =>
    let b := f.bytes
    let n := beNat ((b.drop 2).take 2)
    let last := (t.got.length + 511) / 512
    if beNat (b.take 2) ≠ 3 then s
    else if t.ip ≠ f.srcIp.toNat ∨ t.port ≠ f.srcPort.toNat then
      s.tftpSend f.srcMac.toNat f.srcIp.toNat f.srcPort.toNat t.tid (tftpError 5)
    else if t.last.isNone ∧ n = (last + 1) % 65536 ∧ b.length ≤ 516 then
      s.tftpBlock t (t.got ++ b.drop 4) (b.length - 4)
    else if n = (t.last.getD last) % 65536 then s.tftpSend t.mac t.ip t.port t.tid (tftpAck n)
    else s

/-- TFTP_DATA. -/
def execTftpData (f : TftpFrame) (s : State) : Host.Outcome State Fault Refusal :=
  if s.inRecovery then .next (s.tftpIn f) else .next s

/-- TFTP_TIMEOUT: 5 s without a block. -/
def execTftpTimeout (s : State) : Host.Outcome State Fault Refusal :=
  if s.inRecovery then .next { s with mg := { s.mg with tftp := none } } else .next s

end Sys2Proof.Machine
end

