-- ==== Sys2Proof/Machine/Mgmt.lean ====
section
/-! DEFINITION. The management port and the interrupt lines of the management complex (R355–R362), and the MGMT registers. -/

namespace Sys2Proof.Machine

/-! ### Rings (R362) -/

/-- Base and count of a ring: selector MGMT_RX_RING or MGMT_TX_RING. -/
def State.ring (s : State) (sel : Nat) : Nat × Nat := (s.getSel sel % 2 ^ 48, s.getSel sel / 2 ^ 48)

/-- Address of a descriptor of a ring. -/
def State.descAt (s : State) (sel i : Nat) : Nat := (s.ring sel).1 + 16 * (i % max (s.ring sel).2 1)

/-- A descriptor is owned by the device: its ring exists and OWN is 1. -/
def State.descOwned (s : State) (sel i : Nat) : Bool :=
  decide ((s.ring sel).2 ≠ 0) && decide (leField (s.dramBytes (s.descAt sel i) 16) 10 1 % 2 = 1)

/-- The device clears a descriptor's OWN, and asserts line 16 (R362, R358). -/
def State.descDone (s : State) (sel i : Nat) : State :=
  let a := s.descAt sel i + 10
  let s1 := s.dramPut a [BitVec.ofNat 8 (putBit (leField (s.dramBytes a 1) 0 1) 0 false)]
  { s1 with mg := { s1.mg with done := true } }

/-- ERR of a transmit descriptor is set: its transmission has failed (R362). -/
def State.descErr (s : State) (sel i : Nat) : State :=
  let a := s.descAt sel i + 10
  s.dramPut a [BitVec.ofNat 8 (putBit (leField (s.dramBytes a 1) 0 1) 1 true)]

/-! ### Received frames (R360–R362) -/

/-- A frame is too long: 1,518 bytes, or 1,522 with a tag; its FCS apart. -/
def mgmtLong (b : List Byte) : Bool :=
  decide ((if beNat ((b.drop 12).take 2) = 0x8100 then 1518 else 1514) < b.length)

/-- The update frame that a received frame carries (R361). -/
def State.updCarried (s : State) (b : List Byte) : Option UpdFrame :=
  let tag := if beNat ((b.drop 12).take 2) = 0x8100 then 4 else 0
  match udpOf (beNat ((b.drop (12 + tag)).take 2)) (b.drop (14 + tag)) with
  | some u =>
    if u.dport = s.updPort ∧ (u.dst = 0xFFFF * 2 ^ 32 + s.fld F.MGMT_IPV4_ADDR ∨ u.dst = s.mgmtIp6) then
      some ⟨u.body, BitVec.ofNat 48 (beNat ((b.drop 6).take 6)), BitVec.ofNat 128 u.src, BitVec.ofNat 16 u.sport, none, 0⟩
    else none
  | none => none

/-- A frame fills the next owned receive descriptor, or is dropped (R362). With `false` it still waits: a channel that holds the descriptor or
the buffer serves nothing now (R240). -/
def State.rxTry (s : State) (b : List Byte) : State × Bool :=
  let sel := 0x3C02
  let s0 := s.mgmtReach (s.descAt sel s.mg.rx) 16
  if s0.rangeWaits (s0.descAt sel s0.mg.rx) 16 then (s0, false)
  else if !s0.descOwned sel s0.mg.rx then (s0.bump F.MGMT_PORT_DROP_COUNT, true)
  else
    let a := s0.descAt sel s0.mg.rx
    let buf := leField (s0.dramBytes a 8) 0 8
    let s1 := s0.mgmtReach buf b.length
    if s1.rangeWaits buf b.length then (s1, false)
    else
      let s2 := ((s1.dramPut buf b).dramPut (a + 8) (leBytes 2 b.length)).descDone sel s1.mg.rx
      ({ s2 with mg := { s2.mg with rx := (s2.mg.rx + 1) % max (s2.ring sel).2 1 } }, true)

/-- Received frames fill descriptors in their order, as far as they come. -/
def State.rxDrain : List (List Byte) → State → State
  | [], s => s
  | b :: bs, s =>
    let r := s.rxTry b
    if r.2 then State.rxDrain bs { r.1 with mg := { r.1.mg with rxq := bs } } else r.1

/-- What waits of the received frames goes on. -/
def State.rxGoesOn (s : State) : State := s.rxDrain s.mg.rxq

/-- A received frame joins those that wait. -/
def State.rxFill (s : State) (b : List Byte) : State := ({ s with mg := { s.mg with rxq := s.mg.rxq ++ [b] } }).rxGoesOn

/-- MGMT_RX_FRAME (R360–R362). `bad`: its FCS fails. -/
def State.mgmtRx (s : State) (b : List Byte) (bad : Bool) : State :=
  let dst := beNat (b.take 6)
  if bad || mgmtLong b then s.bump F.MGMT_PORT_DROP_COUNT
  else match (if s.updLive then s.updCarried b else none) with
    | some f => s.updIn 0 f
    | none =>
      if s.flag F.MGMT_PORT_RX_EN && (decide (dst = s.getSel 0x3C00) || decide (dst / 2 ^ 40 % 2 = 1)) then s.rxFill b else s

/-- MGMT_RX_FRAME. -/
def execMgmtRxFrame (f : RxFrame) (bad : Bool) (s : State) : Host.Outcome State Fault Refusal :=
  if s.live then .next (s.mgmtRx f.bytes bad) else .next s

/-! ### Transmission -/

/-- MGMT_TX_DONE (R362): the next owned transmit descriptor is sent; one with OWN = 0 makes transmission wait for TX_GO. Nothing is sent
while a channel that holds the descriptor or the buffer serves nothing (R240). Whether the transmission fails, which ERR reports, the spec
leaves to the medium: a free value (log 7). -/
def State.mgmtTx (s : State) : State :=
  let sel := 0x3C03
  let s0 := s.mgmtReach (s.descAt sel s.mg.tx) 16
  if s0.rangeWaits (s0.descAt sel s0.mg.tx) 16 then s0
  else if !s0.descOwned sel s0.mg.tx then { s0 with mg := { s0.mg with txWait := true } }
  else
    let a := s0.descAt sel s0.mg.tx
    let buf := leField (s0.dramBytes a 8) 0 8
    let len := leField (s0.dramBytes (a + 8) 2) 0 2
    let s1 := s0.mgmtReach buf len
    if s1.rangeWaits buf len then s1
    else
      let s2 := s1.takeFree
      let s3 := if Config.freeNat s1.free % 2 = 1 then s2.descErr sel s2.mg.tx else s2.send 3 0 (s2.dramBytes buf len)
      let s4 := s3.descDone sel s3.mg.tx
      { s4 with mg := { s4.mg with tx := (s4.mg.tx + 1) % max (s4.ring sel).2 1 } }

/-- MGMT_TX_DONE. Frames leave while the link is up. -/
def execMgmtTxDone (s : State) : Host.Outcome State Fault Refusal :=
  if s.live && s.flag F.MGMT_PORT_TX_EN && s.flag F.MGMT_PORT_LINK && !s.mg.txWait then .next s.mgmtTx else .next s

/-- MGMT_LINK_CHANGE (R360). -/
def execMgmtLinkChange (up : Bool) (speed : BitVec 2) (s : State) : Host.Outcome State Fault Refusal :=
  if s.live && decide (speed ≠ 3) then
    .next ((s.put F.MGMT_PORT_LINK (b2n up)).put F.MGMT_PORT_SPEED speed.toNat)
  else .next s

/-! ### MDIO -/

/-- MGMT_MDIO.GO (R360): a Clause 22 frame, a read or a write as WRITE says now. -/
def State.mdioGo (s : State) : State :=
  let wr := s.flag F.MGMT_MDIO_WRITE
  let s1 := (s.send 4 0 (mdioBytes wr (s.fld F.MGMT_MDIO_PHY) (s.fld F.MGMT_MDIO_REG) (s.fld F.MGMT_MDIO_DATA))).put F.MGMT_MDIO_BUSY 1
  { s1 with mg := { s1.mg with mdioWr := wr } }

/-- MDIO_DONE. -/
def execMdioDone (data : BitVec 16) (s : State) : Host.Outcome State Fault Refusal :=
  if s.live && s.flag F.MGMT_MDIO_BUSY then
    let s1 := s.put F.MGMT_MDIO_BUSY 0
    .next (if s1.mg.mdioWr then s1 else s1.put F.MGMT_MDIO_DATA data.toNat)
  else .next s

/-! ### Registers -/

/-- The causes of the interrupt lines (R358). A completed descriptor stays a cause (log 20). -/
def State.irqCauses (s : State) : Nat :=
  let q := (List.range 14).foldl (fun m i => putBit m i (s.flag (qXing i))) 0
  let m := putBit (putBit q 14 (s.flag F.SUP_STAT_MGMT_FAULT)) 15 (s.flag F.UPD_STAT_STAGE_DONE)
  putBit (putBit m 16 s.mg.done) 17 (decide (getBits 0 7 (s.rd 0x54) ≠ 0))

/-- The lines that are asserted (R358). -/
def State.irqLines (s : State) : Nat := s.irqCauses &&& s.fld F.MGMT_IRQ_EN_EN

/-- A write to a register of MGMT that has passed the checks of R276. A GO that meets BUSY is refused and changes no field (R282). -/
def State.mgmtWrite (s : State) (a : Nat) (v : Word) : State :=
  match a with
  | 0xF0000 => s.plain a (setBits 0 1 1 v)
  | 0xF000C =>
    let s1 := s.plain a v
    if getBits 5 1 v = 1 then { s1 with mg := { s1.mg with txWait := false } } else s1
  | 0xF0010 =>
    if getBits 27 1 v = 1 then (if s.flag F.MGMT_MDIO_BUSY then s else (s.plain a v).mdioGo) else s.plain a v
  | _ => s.plain a v

/-- A read of a register of MGMT. -/
def State.mgmtRead (s : State) (a : Nat) : Word := if a = 0xF0004 then BitVec.ofNat 32 s.irqCauses else s.rd a

end Sys2Proof.Machine
end

