-- ==== Sys2Proof/Machine/Super.lean ====
section
/-! DEFINITION. Supervision (R308–R332, R385, R391, R392): start-up as a whole, temperature and device faults, the supply check,
domain commands, ASLEEP, freeze, warm reset and power-on reset, and the test access port. -/

namespace Sys2Proof.Machine

/-! ### Temperature (R317–R319) -/

/-- SENSOR_CONVERSION. -/
def execSensorConversion (temps : List Int) (s : State) : Host.Outcome State Fault Refusal :=
  if s.live then .next (s.convert temps).noteLevels else .next s

/-- TRIP (R319): a sensor reads 120 °C or more, and the last trip has cleared. -/
def State.trip (s : State) (sensor : Nat) (temp : Int) : State :=
  let s1 := ((s.raise F.SUP_STAT_TRIP).put F.SUP_STAT_TRIP_NOW 1).deviceFault 0x14 0x01 sensor (unsigned 16 temp)
  let s2 := (((s1.dropPlan).outDoms.filter (fun d => s1.awake d)).foldl (fun t d => t.sleepDom d) s1.dropPlan).pllIdle
  { s2 with sup := { s2.sup with tripLock := s.flag F.CLK_STAT_LOCK && !s2.flag F.CLK_STAT_LOCK } }

/-- TRIP. -/
def execTrip (sensor : Fin 16) (temp : Int) (s : State) : Host.Outcome State Fault Refusal :=
  if s.live && !s.flag F.SUP_STAT_TRIP_NOW && decide (960 ≤ temp) then .next (s.trip sensor.val temp).noteLevels else .next s

/-- BRIDGE (R322). -/
def execBridge (up : Bool) (s : State) : Host.Outcome State Fault Refusal :=
  if s.live then .next ((s.raise F.SUP_STAT_BRIDGE).deviceFault 0x14 0x04 0 (b2n up)).noteLevels else .next s

/-- LOGQ_LOST_RECORD (R324). -/
def execLogqLostRecord (s : State) : Host.Outcome State Fault Refusal := if s.live then .next s.logLost else .next s

/-- REF_QUALIFIED (R50, R55, R314): a wake from ASLEEP that waited for the reference goes on. -/
def State.resume (s : State) (warm : State → State) : State :=
  let s1 := ({ s with sup := { s.sup with wakeWait := false } })
  let s2 := s1.enabled.foldl (fun t c => if t.flag (selfRef c) && !t.fenced c then t.leaveSelfRef c else t) s1
  if leField (s2.dramBytes 0 8) 0 8 = 0x524553554D450001 then s2.dramPut 0 (List.replicate 8 0) else warm s2

/-! ### Supply check (R310) -/

/-- SUP_MON_CMD.SUPPLY_CHECK. -/
def State.supplyCmd (s : State) : State :=
  if s.monBusy then s.put F.SUP_MON_CMD_STATUS stBusy else (s.put F.SUP_MON_CMD_BUSY 1).startWake 0x25

/-- SUPPLY_CHECK_DONE. -/
def execSupplyCheckDone (mv : List Int) (s : State) : Host.Outcome State Fault Refusal :=
  if s.live && s.flag F.SUP_MON_CMD_BUSY && s.awake 0x25 then .next (((s.supplyEnd mv).sleepIdle).pllIdle) else .next s

/-! ### Domain commands (R316) -/

/-- SUP_DOM_CMD.STATUS. -/
def State.domStatus (s : State) (st : Nat) : State := s.put F.SUP_DOM_CMD_STATUS st

/-- A code that SUP_DOM_CMD takes. -/
def domCmdCode (d : Nat) : Bool := decide (d = 1) || decide (d = 2) || (domCode d && decide (d ≠ 0x14))

/-- The status of the checks that WAKE and SLEEP share. -/
def State.domCheck (s : State) (d : Nat) : Nat :=
  if !domCmdCode d then stRange
  else if !s.domPresent d then stState
  else if (s.groupOf d).any (fun e => s.monUses e) then stBusy
  else stOk

/-- WAKE: the domain stays awake until it is released. -/
def State.domWake (s : State) : State :=
  let d := s.fld F.SUP_DOM_CMD_DOMAIN
  let st := s.domCheck d
  if st ≠ stOk then s.domStatus st
  else
    let s1 := s.accessWake d
    if s1.awake d then s1.domStatus stOk
    else
      let s2 := s1.put F.SUP_DOM_CMD_BUSY 1
      { s2 with sup := { s2.sup with domJob := some d } }

/-- A domain's unit is quiet before it sleeps: a data port loses its queued frames, the mirror link goes down. -/
def State.quiet (s : State) (d : Nat) : State :=
  if d = 0x20 ∨ d = 0x21 then s.portOff (d - 0x20) else if d = 0x24 then s.linkLost else s

/-- SLEEP. -/
def State.domSleep (s : State) : State :=
  let d := s.fld F.SUP_DOM_CMD_DOMAIN
  let st := s.domCheck d
  if st ≠ stOk then s.domStatus st
  else if (s.groupOf d).any (fun e => bitOf s.sup.owned e)
      ∨ (s.flag F.PLAN_STAT_PRESENT ∧ (d = 1 ∨ d = 2 ∨ (s.groupOf d).any (fun e => decide (0x18 ≤ e) && decide (e ≤ 0x1F))))
      ∨ (d = 2 ∧ s.awake 1) then s.domStatus stState
  else ((((((s.groupOf d).foldl (fun t e => t.quiet e) s).sleepDom d).trySleep 0x22).pllIdle).domStatus stOk)

/-- A command of SUP_DOM_CMD. -/
def domRun (i : Nat) (s : State) : State := if i = 8 then s.domWake else s.domSleep

/-- The outputs of a domain that has become ready: the course takes those that belong to it where it stands (R27), in a pause with
outputs held the values held there; ALIGN takes its own. -/
def State.joinOuts (s : State) (d : Nat) : State :=
  let s1 := s.joinAll
  let s2 := if 0x10 ≤ d ∧ d ≤ 0x13 then s1.setCapt (d - 16) { s1.capt (d - 16) with joined := some s1.seenAt } else s1
  if s2.mir.job = 2 then
    let s3 := (domFcs d).foldl (fun t c => t.put (F.FC_STAT_AT_REST c) 0) s2
    (domVps d).foldl (fun t c => t.put (F.VP_STAT_AT_REST c) 0) s3
  else s2

/-- One domain other than PD_PLL and PD_SEQ becomes ready. -/
def State.readyOne (s : State) (d : Nat) : State :=
  if !bitOf s.sup.waking d then s
  else if 0x18 ≤ d ∧ d ≤ 0x1F then if s.flag (selfRef (d - 24)) then s.leaveSelfRef (d - 24) else s.setAwake d
  else if d = 0x20 ∨ d = 0x21 then s.portReady (d - 0x20)
  else (s.setAwake d).joinOuts d

/-- What holds a domain's wake back: a trip (R319), a fence (R242), no source of the DRAM PLL (R32), the main PLL not
running (R24). A group becomes ready as one, so what holds a member holds the group (R25). -/
def State.wakeHeld (s : State) (d : Nat) : Bool :=
  (s.groupOf d).any (fun e =>
    (decide (0x08 ≤ e) && decide (e ≤ 0x13) && s.flag F.SUP_STAT_TRIP_NOW) ||
      (decide (0x18 ≤ e) && decide (e ≤ 0x1F) && (s.fenced (e - 24) || !s.refOk)) ||
      (((decide (0x08 ≤ e) && decide (e ≤ 0x13)) || decide (e = 0x23)) && (!s.awake 1 || decide (s.clk.relock ≠ .none))))

/-- The domain command in execution completes once its domain is awake. -/
def State.domFinish (s : State) : State :=
  match s.sup.domJob with
  | some d =>
    if s.awake d then
      let s1 := (s.domStatus stOk).put F.SUP_DOM_CMD_BUSY 0
      { s1 with sup := { s1.sup with domJob := none } }
    else s
  | none => s

/-- A plan load that waits for PD_PLL goes on (R161). -/
def State.loadGoesOn (s : State) : State :=
  if s.plan.waitPll && s.awake 1 then ({ s with plan := { s.plan with waitPll := false } }).loadJudge else s

/-- A group of domains becomes ready as one (R25). What its wake served may be past: each sleeps again under R24. -/
def State.groupReady (s : State) (d : Nat) : State :=
  if !bitOf s.sup.waking d || s.wakeHeld d then s
  else ((((s.groupOf d).foldl (fun t e => t.readyOne e) s).domFinish).trySleep d).pllIdle

/-- A woken domain reports ready, with its group (R25, R316): PD_PLL by the lock of its relock, PD_SEQ with it. -/
def State.domainReady (s : State) (d : Nat) (l : LockInfo) : State :=
  if d = 1 ∨ d = 2 then
    if s.canLock (fun k => decide (k = .wake)) then ((s.lockAt l).domFinish).loadGoesOn else s
  else s.groupReady d

/-- DOMAIN_WAKE_TIMEOUT (R316, R161). -/
def execDomainWakeTimeout (s : State) : Host.Outcome State Fault Refusal :=
  if !s.live then .next s
  else if s.sup.domJob.isSome then
    let s1 := (s.domStatus stTimeout).put F.SUP_DOM_CMD_BUSY 0
    .next { s1 with sup := { s1.sup with domJob := none } }
  else if s.plan.waitPll then .next ({ s with plan := { s.plan with waitPll := false } }).loadJudge
  else .next s

/-! ### Flash writes that are cut (R383) -/

/-- A chunk, a VERIFY or an ACTIVATE in progress is cut; how far it had come is open: free values (log 7, 18). -/
def State.cutFlash (s : State) : State :=
  let bit := decide (Config.freeNat s.free % 2 = 1)
  let s1 := s.takeFree
  match s.fld F.UPD_STAT_STAGE with
  | 1 => if s.chunkFull then s.chunkDone false else s
  | 2 => if bit && decide (s1.verifyChecks s1.package = stOk) then s1.breakBuild else s1
  | 4 =>
    let k := s.mg.copied + Config.freeNat s1.free % (8161 - s.mg.copied)
    let s2 := (s1.takeFree).copyHalf s.mg.copied k
    if bit && decide (k = 8160) then s2.flashErase (sectorBytes * s2.nextCopy) sectorBytes else s2
  | _ => s

/-! ### Warm reset and power-on reset (R331, R391, R392) -/

/-- A channel's contents stand where it is in self-refresh; else they are undefined. -/
def State.keepDram (s : State) : State :=
  (List.range 8).foldl (fun t c => if t.flag (selfRef c) then t else t.loseChannel c) s

/-- What a reset leaves of a DRAM channel's record: which of its contents are undefined. -/
def Dch.kept (d : Dch) : Dch := { epoch := d.epoch, resTop := d.resTop, resCh := d.resCh, resEpoch := d.resEpoch }

/-- The state of a reset: every register at its reset value, every queue empty, every plan, grant and session gone; cells, flash
and DRAM contents as they are. The stages of start-up have not begun. -/
def State.cleared (s : State) : State :=
  { pending := s.pending,
    mem := { dram := s.mem.dram, pv := s.mem.pv, wear := s.mem.wear, otp := s.mem.otp, otpLock := s.mem.otpLock,
             flash := s.mem.flash },
    dram := { ch := s.dram.ch.map (fun x => (x.1, x.2.kept)) },
    sup := { frzLow := s.sup.frzLow },
    rdata := s.rdata, sent := s.sent, free := s.free }

/-- Copy a field's value from another state. -/
def State.copyFld (s : State) (from' : State) (f : Fld) : State := s.put f (from'.fld f)

/-- Warm reset (R331); start-up then runs from stage 2. -/
def State.warmReset (s : State) (cause : Nat) : State :=
  let s0 := (((s.cutFlash).progCut).savesCut true).keepDram
  let s1 := s0.cleared
  let s2 := { s1 with
    mem := { s1.mem with track := s0.mem.track },
    q := { s1.q with aoUs := s0.q.aoUs },
    sup := { s1.sup with ring := s0.sup.ring, ir := s0.sup.ir, irOut := s0.sup.irOut, boundary := s0.sup.boundary, dr := s0.sup.dr,
                         accA := s0.sup.accA, accD := s0.sup.accD, accDone := s0.sup.accDone, accErr := s0.sup.accErr },
    mg := { skip := s0.mg.skip } }
  let s3 := [F.DBG_STAT_RING_VALID, F.DBG_STAT_ACC_FROZEN, F.DBG_CTRL_STATUS, F.DBG_RING_ADDR_WORD, F.SUP_STAT_RECOVERY,
    F.CLK_STAT_REF_VALID].foldl (fun t f => t.copyFld s0 f) s2
  (((s3.put F.SUP_STAT_STAGE 2).put F.SUP_RESET_CAUSE cause).aoSource)

/-- A warm reset that neither a release nor SUP_RESET.WARM has caused: the code in CAUSE is not stated, a free value (log 17). -/
def State.warmOther (s : State) : State := (s.takeFree).warmReset (Config.freeNat s.free % 3)

/-- Power-on reset (R391, R392): the outputs are on the hold path, OUT_EN is low; a commit in progress is done or not, a free
value (R303). -/
def State.powerReset (s : State) : State :=
  let s0 := ((s.cutFlash).progCut)
  let s1 := ((s0.takeFree).savesCut (decide (Config.freeNat s0.free % 2 = 1))).pvPowerCut
  ((List.range 8).foldl (fun t c => t.loseChannel c) s1).cleared

/-- BROWN_OUT (R392). -/
def execBrownOut (s : State) : Host.Outcome State Fault Refusal := .next s.powerReset

/-- POR_N_LOW (R391). -/
def execPorNLow (s : State) : Host.Outcome State Fault Refusal := .next s.powerReset

/-! ### Freeze (R325–R327, R330) -/

/-- The words of the state ring (R327). -/
def State.snapshot (s : State) : List (Nat × Word) :=
  let n := fun v : Nat => BitVec.ofNat 32 v
  let w4 := s.fld F.DBG_STAT_FRZ_PIN + 2 * s.fld F.DBG_STAT_FRZ_REG + 4 * s.fld F.SEQ_STAT_HEAT + 2 ^ 8 * s.fld F.SEQ_STAT_RUN_MASK +
    2 ^ 16 * s.fld F.SUP_STAT_STAGE
  let recs := fun (base len : Nat) (l : List Rec) =>
    ((List.range 4).flatMap (fun i => (List.range len).map (fun j => (base + len * i + j, (l.getD i []).getD j 0))))
  [(0, n s.tm.tb), (1, n (s.tm.tb / 2 ^ 32)), (2, n s.tm.heat), (3, n (s.tm.heat / 2 ^ 32)), (4, n w4), (5, s.rd 0x10008),
    (6, s.rd 0xB0000), (7, s.rd 0x54), (8, s.rd 0x120000), (9, s.planRead 0x40018)] ++
  (List.range 8).flatMap (fun i => [(16 + 4 * i, s.rd (0x20100 + 0x40 * i)), (17 + 4 * i, s.rd (0x20104 + 0x40 * i)),
    (18 + 4 * i, s.rd (0x20110 + 0x40 * i)), (19 + 4 * i, s.rd (0x20114 + 0x40 * i))]) ++
  (List.range 7).map (fun i => (48 + i, n (s.level (2 * i) + 2 ^ 16 * s.level (2 * i + 1)))) ++
  (List.range 8).map (fun i => (56 + i, n (s.fld (F.SUP_TEMP_TEMP (2 * i)) + 2 ^ 16 * s.fld (F.SUP_TEMP_TEMP (2 * i + 1))))) ++
  recs 64 4 s.q.evLast ++ recs 80 8 s.q.logLast

/-- The ring takes its snapshot. -/
def State.takeRing (s : State) : State :=
  let ring := s.snapshot.foldl (fun m x => Sp.set (fun _ => (0 : Word)) m x.1 x.2) []
  ({ s with sup := { s.sup with ring := ring } }).put F.DBG_STAT_RING_VALID 1

/-- Every output goes to the hold path: fine outputs at rest, each pin with its present drive state (R325, R212). -/
def State.holdOuts (s : State) : State :=
  let s1 := s.heatSqs.foldl (fun t n => if decide (t.sqState n = sqRunning) then t.capture n (t.tm.heat + 1) else t) s
  let s2 := (List.range 64).foldl (fun t n => t.restFc true n) s1
  (List.range 128).foldl (fun t n => t.put (F.VP_STAT_ON_HOLD n) 1) s2

/-- DRAM channels in service enter self-refresh; one that is retraining is left, its contents undefined (R325). -/
def State.freezeDram (s : State) : State :=
  s.enabled.foldl (fun t c =>
    if t.flag (retrainBit c) then t.loseChannel c
    else if t.fenced c then t
    else t.selfRefresh (0x18 + c)) s

/-- Freeze (R325). -/
def State.freeze (s : State) : State :=
  let s1 := ({ s with mem := { s.mem with pvCut := none } }).put F.DBG_STAT_FROZEN 1 |>.calAbort
  ((((s1.holdOuts).freezeDram).savesCut true).progCut).takeRing

/-- Freeze by the pin or by the register: one way may join the other. -/
def State.freezeBy (s : State) (f : Fld) : State :=
  let s1 := s.put f 1
  if s.flag F.DBG_STAT_FROZEN then s1 else s1.freeze

/-- FREEZE_PIN (R325): low on two CD_AO cycles. While power-on reset is held, the pin is only low; stage 1 samples it. -/
def execFreezePin (s : State) : Host.Outcome State Fault Refusal :=
  let s1 := { s with sup := { s.sup with frzLow := true } }
  if s.sup.por && decide (s.fld F.SUP_STAT_STAGE = 1) then .next s1 else .next (s1.freezeBy F.DBG_STAT_FRZ_PIN)

/-- FREEZE_PIN_RELEASE (R330). -/
def execFreezePinRelease (s : State) : Host.Outcome State Fault Refusal :=
  let s1 := { s with sup := { s.sup with frzLow := false } }
  if s.sup.frzLow && s.flag F.DBG_STAT_FROZEN && !s.flag F.DBG_STAT_FRZ_REG then .next (s1.warmReset 1) else .next s1

/-- DBG_CTRL.RELEASE (R330): over JTAG, while frozen and FREEZE_N is high. -/
def State.releaseCmd (s : State) (jtag : Bool) : State :=
  if s.flag F.DBG_STAT_FROZEN && jtag && !s.sup.frzLow then (s.put F.DBG_CTRL_STATUS stOk).warmReset 1
  else s.put F.DBG_CTRL_STATUS stState

/-- SUP_RESET.WARM (R331): the outputs go to the hold path first. -/
def State.warmCmd (s : State) : State := (s.holdOuts).warmReset 2

/-! ### ASLEEP (R312–R314, R359) -/

/-- SUP_PWR.SLEEP (R313). -/
def State.sleepCmd (s : State) : State :=
  let en := s.fld F.SUP_WAKE_PIN_EN + s.fld F.SUP_WAKE_TIMER_EN + s.fld F.SUP_WAKE_JTAG_EN
  if s.fld F.SUP_STAT_PSTATE ≠ 1 then s.put F.SUP_PWR_STATUS stState
  else if en = 0 ∨ (s.flag F.SUP_WAKE_TIMER_EN ∧ s.fld F.SUP_WAKE_TIMER_MS = 0) then s.put F.SUP_PWR_STATUS stRange
  else s.put F.SUP_PWR_BUSY 1

/-- ENTER_ASLEEP: every DRAM channel in self-refresh, every domain but PD_AO asleep, every track-memory bank in retention (R24, R223), every
output on the hold path. -/
def State.enterAsleep (s : State) : State :=
  let s1 := (s.put F.SUP_PWR_BUSY 0).put F.SUP_PWR_STATUS stOk
  let s2 := (((s1.portOff 0).portOff 1).linkLost).allToHold
  let s3 := ((List.range 64).filter (fun d => decide (d ≠ 1) && s2.awake d)).foldl (fun t d => t.sleepOne d) s2
  let s4 := ((List.range 512).foldl (fun t m => t.put (retFld m) 1) (if s3.awake 1 then s3.sleepPll else s3)).put F.TRK_STAT_AWAKE 0
  ({ s4 with sup := { s4.sup with stay := 0, waking := 0, wakingBanks := 0 } }).put F.DBG_STAT_ASLEEP 1

/-- ENTER_ASLEEP. -/
def execEnterAsleep (s : State) : Host.Outcome State Fault Refusal :=
  if s.live && s.flag F.SUP_PWR_BUSY then .next s.enterAsleep else .next s

/-- SLEEP_TIMEOUT (R313). -/
def execSleepTimeout (s : State) : Host.Outcome State Fault Refusal :=
  if s.live && s.flag F.SUP_PWR_BUSY then .next ((s.put F.SUP_PWR_BUSY 0).put F.SUP_PWR_STATUS stTimeout) else .next s

/-- The device is in ASLEEP, not frozen. -/
def State.asleep (s : State) : Bool := s.flag F.DBG_STAT_ASLEEP && !s.flag F.DBG_STAT_FROZEN

/-- A wake from ASLEEP (R314, R359): PD_MGMT wakes; with a qualified reference the boot ROM resumes Fraore at its record, and
without a record makes a warm reset. -/
def State.wake (s : State) (src : Nat) : State :=
  let s1 := (s.put F.DBG_STAT_ASLEEP 0).put F.SUP_WAKE_LAST src
  if s1.flag F.CLK_STAT_REF_VALID then s1.resume State.warmOther
  else { s1 with sup := { s1.sup with wakeWait := true } }

/-- WAKE_PIN. -/
def execWakePin (s : State) : Host.Outcome State Fault Refusal :=
  if s.asleep && s.flag F.SUP_WAKE_PIN_EN then .next (s.wake 1) else .next s

/-- WAKE_TIMER. -/
def execWakeTimer (s : State) : Host.Outcome State Fault Refusal :=
  if s.asleep && s.flag F.SUP_WAKE_TIMER_EN then .next (s.wake 2) else .next s

/-- WAKE_JTAG. -/
def execWakeJtag (s : State) : Host.Outcome State Fault Refusal :=
  if s.asleep && s.flag F.SUP_WAKE_JTAG_EN then .next (s.wake 3) else .next s

/-- REF_QUALIFIED (R50, R55, R314). The reference monitor runs in PD_AO. -/
def execRefQualified (good : Bool) (s : State) : Host.Outcome State Fault Refusal :=
  if s.flag F.DBG_STAT_FROZEN || (s.sup.por && decide (s.fld F.SUP_STAT_STAGE = 1)) then .next s
  else
    let s1 := s.refQualified good
    .next (if s1.sup.wakeWait && s1.flag F.CLK_STAT_REF_VALID then s1.resume State.warmOther else s1)

/-- RECOVERY_SAMPLE (R385): after a success the ROM makes a warm reset once RECOVERY reads low. The strap's next sample is
that of this reading (log 17). -/
def execRecoverySample (low : Bool) (s : State) : Host.Outcome State Fault Refusal :=
  if s.inRecovery && s.mg.recovered && low then .next (s.put F.SUP_STAT_RECOVERY 0).warmOther else .next s

/-! ### Start-up (R308) -/

/-- Stage 1. -/
def State.stage1 (s : State) (e : StartEnv) : State :=
  ((s.put F.SUP_STAT_RECOVERY (b2n e.recovery)).aoSource)

/-- Stage 9 (R308, R368): the digest is judged first, then the management reserve. -/
def State.stage9 (s : State) : State :=
  if !s.imageOk then ({ s with mg := { s.mg with skip := some (s.fld F.UPD_STAT_SLOT) } }).warmOther
  else if s.reserveLost then s.recoveryMode
  else s.startFirmware

/-- Run a stage if it is the one in progress. -/
def State.atStage (s : State) (k : Nat) (f : State → State) : State := if s.fld F.SUP_STAT_STAGE = k && !s.sup.por then f s else s

/-- The reference has qualified by stage 5, where it does at all. -/
def State.startRef (s : State) (e : StartEnv) : State :=
  if e.ref && !s.flag F.CLK_STAT_REF_VALID then (s.raise F.CLK_STAT_REF_VALID).aoSource else s

/-- The stages from the one in progress, as far as they come. -/
def State.stages (s : State) (e : StartEnv) : State :=
  let s1 := ((s.startRef e).atStage 2 (fun t => (t.stage2 e.storeBad.toNat).stage3)).atStage 4 State.stage4
  let s2 := (((s1.atStage 5 (fun t => t.stage5 e)).atStage 6 (fun t => t.stage6 e)).atStage 7 (fun t => t.stage7 e))
  (s2.atStage 8 (fun t => t.stage8 e)).atStage 9 State.stage9

/-- START_UP (R308): from power-on reset, from a warm reset, or on from stage 5, which waits for the reference. -/
def State.startUp (s : State) (e : StartEnv) : State :=
  if s.flag F.DBG_STAT_FROZEN || s.flag F.DBG_STAT_ASLEEP then s
  else if s.sup.por then
    let s1 := if s.fld F.SUP_STAT_STAGE = 1 then s.stage1 e else s
    if s1.sup.frzLow then s1.freezeBy F.DBG_STAT_FRZ_PIN
    else (({ s1 with sup := { s1.sup with por := false } }).put F.SUP_STAT_STAGE 2).stages e
  else s.stages e

/-- START_UP. -/
def execStartUp (e : StartEnv) (s : State) : Host.Outcome State Fault Refusal := .next (s.startUp e)

/-! ### The test access port (R328) -/

/-- The IDCODE word. -/
def State.idcode (s : State) : Nat := 2 ^ 28 * (s.fld F.GLB_ID_STEP % 16) + 0x9648 * 2 ^ 12 + 0x1B3 * 2 + 1

/-- The instruction register takes an opcode, the data register what the instruction captures. -/
def State.tap (s : State) (ir dr : Nat) : State :=
  { s with sup := { s.sup with ir := ir, dr := dr, boundaryDrive := false } }

/-- What Capture-IR loads: 0b0000_0x01, bit 2 showing FROZEN (R328). -/
def State.irCapture (s : State) : Nat := 1 + 4 * s.fld F.DBG_STAT_FROZEN

/-- An instruction is scanned in: the value that Capture-IR loaded is shifted out before it. -/
def State.scan (s : State) (ir dr : Nat) : State := { s with sup := { s.sup with irOut := s.irCapture } }.tap ir dr

/-- TAP_RESET: no scan; the instruction is IDCODE. -/
def execTapReset (s : State) : Host.Outcome State Fault Refusal := .next (s.tap 0x01 s.idcode)

/-- IDCODE. -/
def execIdcode (s : State) : Host.Outcome State Fault Refusal := .next (s.scan 0x01 s.idcode)

/-- An opcode selects the boundary register: what it captures of the balls, in the order of the BSDL description, is a free value
(log 7). -/
def State.tapBoundary (s : State) (ir : Nat) : State := (s.takeFree).scan ir (Config.freeNat s.free)

/-- EXTEST: while frozen the boundary register drives; otherwise it acts as BYPASS. -/
def execExtest (s : State) : Host.Outcome State Fault Refusal :=
  if s.flag F.DBG_STAT_FROZEN then
    let s1 := s.tapBoundary 0x00
    .next { s1 with sup := { s1.sup with boundaryDrive := true } }
  else .next (s.scan 0x00 0)

/-- SAMPLE_PRELOAD: the bits shifted in stand in the boundary register. -/
def execSamplePreload (bits : List Bool) (s : State) : Host.Outcome State Fault Refusal :=
  let s1 := s.tapBoundary 0x02
  .next { s1 with sup := { s1.sup with boundary := bits } }

/-- A word of the state ring. -/
def State.ringWord (s : State) (k : Nat) : Word := Sp.get (fun _ => (0 : Word)) s.sup.ring k

/-- STATE_RING: Capture-DR loads the ring unchanged, word 0 bit 0 first. -/
def execStateRing (s : State) : Host.Outcome State Fault Refusal :=
  .next (s.scan 0x20 ((List.range 128).foldl (fun m k => m + 2 ^ (32 * k) * (s.ringWord k).toNat) 0))

/-- BYPASS: 0xFF or any opcode not listed. -/
def execBypass (op : Byte) (s : State) : Host.Outcome State Fault Refusal :=
  if [0x00, 0x01, 0x02, 0x20, 0x21].contains op.toNat then .next s else .next (s.scan op.toNat 0)

/-- A read of DBG_RING_DATA (R327). -/
def State.ringRead (s : State) : Word × State :=
  let k := s.fld F.DBG_RING_ADDR_WORD
  (s.ringWord k, s.put F.DBG_RING_ADDR_WORD ((k + 1) % 128))

end Sys2Proof.Machine
end

