-- ==== Sys2Proof/Machine/Bus.lean ====
section
/-! DEFINITION. The register bus (R272–R285, R290–R295): the checks of an access, what a write or a read of each register does,
stalls and their timeout, and the rows of the table that are accesses. -/

namespace Sys2Proof.Machine

/-! ### Where a register stands -/

/-- The power domain of a register (R272); none: PD_MGMT or PD_AO. -/
def regDom (a : Nat) : Option Nat :=
  match a / 0x10000 with
  | 0x01 => if 0x10100 ≤ a then some 2 else none
  | 0x02 => some 2
  | 0x03 => some 2
  | 0x14 => some 2
  | 0x08 => some (8 + (a - 0x80000) / 0x2000)
  | 0x09 =>
    if a < 0x98000 then some (0x10 + (a - 0x90000) / 0x2000)
    else if a < 0x98100 then some (0x10 + (a - 0x98000) / 0x40)
    else none
  | 0x0A => some 0x23
  | 0x0D => some 0x22
  | 0x0E => if a < 0xE2000 then some (0x20 + (a - 0xE0000) / 0x1000) else none
  | 0x13 => some 0x24
  | _ => none

/-- The unit of a register is absent from the fabric image (R25, R276 step 1). -/
def State.regAbsent (s : State) (a : Nat) : Bool :=
  match regDom a with
  | some d => !s.domPresent d
  | none => false

/-- The domain of a register where it is asleep (R276 step 2). -/
def State.regAsleep (s : State) (a : Nat) : Option Nat :=
  match regDom a with
  | some d => if s.awake d then none else some d
  | none => none

/-- The queue of a read port (R290). -/
def readPort (a : Nat) : Option Nat :=
  match a with
  | 0x30040 => some 8
  | 0x130044 => some 9
  | 0xA0040 => some 11
  | 0x120040 => some 12
  | _ => none

/-- The queue of a write port (R290); 14: the mirror link's own, of no queue of this device (R352). -/
def writePort (a : Nat) : Option Nat :=
  if a = 0xD0040 then some 10
  else if a = 0x130040 then some 14
  else if 0x20100 ≤ a ∧ a < 0x20300 ∧ a % 0x40 = 0x20 then some ((a - 0x20100) / 0x40)
  else none

/-- The queue whose LVL register this is (R293). -/
def lvlReg (a : Nat) : Option Nat := (List.range 14).find? (fun i => (qMark i).a == a)

/-- The ports of a queue take only privileged accesses (R294). -/
def State.qPriv (s : State) (i : Nat) : Bool :=
  if i = 10 then bitOf (s.fld F.FABRIC_UNITS_QPRIV) 0
  else if i = 11 then bitOf (s.fld F.FABRIC_UNITS_QPRIV) 1
  else if i = 12 then bitOf (s.fld F.FABRIC_UNITS_QPRIV) 2
  else if i = 13 then bitOf (s.fld F.FABRIC_UNITS_QPRIV) 3
  else true

/-- A privileged register (R276 step 4). -/
def State.regPriv (s : State) (a : Nat) : Bool :=
  match readPort a, writePort a with
  | some i, _ => s.qPriv i
  | none, some i => s.qPriv i
  | none, none => false

/-- The registers with a WK field (R280). -/
def keyReg (a : Nat) : Bool := [0x120004, 0x120050, 0x160008, 0x150000, 0x10001C].contains a

/-- The key is armed (R280). -/
def State.armed (s : State) : Bool := decide (s.rd 0x10 = 0xC41A#32)

/-- The locked bits of a register of EVT: the trigger front ends while the heat is ARMED, RUNNING or PAUSED (R118). -/
def State.evtLocks (s : State) (a : Nat) : Word :=
  if 0x30200 ≤ a ∧ a < 0x30240 ∧ 2 ≤ s.fld F.SEQ_STAT_HEAT ∧ s.fld F.SEQ_STAT_HEAT ≤ 4 then wholeLock else 0

/-- The locked bits of a register that a write of `v` meets (R281). -/
def State.regLocks (s : State) (a : Nat) (v : Word) : Word :=
  match a / 0x10000 with
  | 0x03 => s.evtLocks a
  | 0x04 => s.planLocks a
  | 0x08 => s.fineLocks a
  | 0x09 => s.vecLocks a
  | 0x0A => s.vecLocks a
  | 0x0B => s.dramLocks a
  | 0x0D => s.netLocks a v
  | 0x0E => s.netLocks a v
  | 0x13 => s.mirLocks a v
  | 0x14 => s.syncLocks a
  | 0x15 => s.fabLocks a
  | _ => 0

/-! ### What a write does -/

/-- Where BAT_BUF may have taken other thresholds, the ingest buffers are compared with them (R263). -/
def State.bpsOf (s : State) (c : Bool) : State := if c then s.checkBps else s

/-- A write to a register of GLOBAL. -/
def State.glbWrite (s : State) (x : Access) (a : Nat) (v : Word) : State :=
  match a with
  | 0x20 => (s.plain a v).mbxStart x.p
  | 0x40 => ((s.plain a v).strobes (getBits 0 16 v)).bpsOf (getBits 0 1 v = 1)
  | _ => s.plain a v

/-- A heat command (R87, R107–R109). -/
def seqRun (i : Nat) (s : State) : State :=
  match i with
  | 0 => s.startCmd
  | 1 => s.pauseCmd
  | 2 => s.resumeCmd
  | _ => s.abortCmd

/-- A write to a register of SEQ outside the windows. -/
def State.seqWrite (s : State) (a : Nat) (v : Word) : State :=
  if a = 0x20000 then (s.plain a v).command F.SEQ_CTRL_STATUS false [0, 1, 2, 3] v seqRun else s.plain a v

/-- A write to EVT_TI_CFG of TIm: INVERT, which stands before the filter, turns the level that the filter sees (R117). -/
def State.tiCfgWrite (s : State) (m a : Nat) (v : Word) : State :=
  let s1 := s.plain a v
  if s.fld (F.EVT_TI_CFG_INVERT m) = s1.fld (F.EVT_TI_CFG_INVERT m) then s1 else s1.invertFlip m

/-- A write to a register of EVT (R117, R120, R126). -/
def State.evtWrite (s : State) (a : Nat) (v : Word) : State :=
  if a = 0x30010 then s.swPulses false v
  else if a = 0x30014 then s.swPulses true v
  else if 0x30200 ≤ a ∧ a < 0x30240 then s.tiCfgWrite ((a - 0x30200) / 4) a v
  else if 0x30400 ≤ a ∧ a < 0x30600 ∧ a % 0x10 = 8 then
    if trimOk v then (s.plain a v).retrim s s.tm.tb else s.raise F.EVT_STAT_RANGE_ERR
  else s.plain a v

/-- A write to a register of SUP (R310, R313, R316, R318, R331). -/
def State.supWrite (s : State) (a : Nat) (v : Word) : State :=
  match a with
  | 0x120004 => if getBits 0 1 v = 1 then s.warmCmd else s
  | 0x120008 =>
    let t := getBits 0 8 v
    if 85 ≤ t ∧ t ≤ 115 then s.plain a v
    else (s.plain a (setBits 0 8 (getBits 0 8 (s.cfgRead a)) v)).raise F.SUP_STAT_RANGE_ERR
  | 0x12000C => s.command F.SUP_MON_CMD_STATUS (s.flag F.SUP_MON_CMD_BUSY) [0] v (fun _ t => t.supplyCmd)
  | 0x120050 => s.command F.SUP_PWR_STATUS (s.flag F.SUP_PWR_BUSY) [0] v (fun _ t => t.sleepCmd)
  | 0x120054 => (s.plain a v).command F.SUP_DOM_CMD_STATUS (s.flag F.SUP_DOM_CMD_BUSY) [8, 9] v domRun
  | _ => s.plain a v

/-- A write to a register of DBG (R325, R330). -/
def State.dbgWrite (s : State) (x : Access) (a : Nat) (v : Word) : State :=
  match a with
  | 0x160004 => if getBits 0 1 v = 1 then s.releaseCmd x.jtag else s
  | 0x160008 => if getBits 0 1 v = 1 then s.freezeBy F.DBG_STAT_FRZ_REG else s
  | _ => s.plain a v

/-- A look at the conflict counter of master m, or a preset of it (R218): readers and prefetcher count only where a heat has run since the last
look; how often a master waited is a free number (log 36). -/
def State.confLook (s : State) (m : Nat) : State :=
  if m = 9 then s.countFree (F.TRK_CONF_WAITS 9)
  else if bitOf s.tm.conf m then
    let h := s.fld F.SEQ_STAT_HEAT
    let s1 := s.countFree (F.TRK_CONF_WAITS m)
    if h = 3 then s1 else { s1 with tm := { s1.tm with conf := putBit s1.tm.conf m false } }
  else s

/-- The master of a conflict counter. -/
def confReg (a : Nat) : Option Nat := if 0xC0010 ≤ a ∧ a < 0xC0038 then some ((a - 0xC0010) / 4) else none

/-- A write to a register of TRACK. -/
def State.trackWrite' (s : State) (a : Nat) (v : Word) : State :=
  match confReg a with
  | some m => (s.confLook m).plain a v
  | none => s.trackBlockWrite a v

/-- A write to a register, by its block. -/
def State.blockWrite (s : State) (x : Access) (a : Nat) (v : Word) : State :=
  match a / 0x10000 with
  | 0x00 => s.glbWrite x a v
  | 0x01 => s.clkWrite a v
  | 0x02 => if a < 0x28000 then s.seqWrite a v else s.windowWrite a v
  | 0x03 => s.evtWrite a v
  | 0x04 => s.planWrite a v
  | 0x08 => s.fineWrite a v
  | 0x09 => s.vecWrite a v
  | 0x0A => s.captWrite a v
  | 0x0B => s.dramRegWrite a v
  | 0x0C => s.trackWrite' a v
  | 0x0D => s.batWrite a v
  | 0x0E => s.netWrite a v
  | 0x0F => s.mgmtWrite a v
  | 0x10 => s.pvBlockWrite a v x
  | 0x11 => s.updWrite a v
  | 0x12 => s.supWrite a v
  | 0x13 => s.mirWrite a v
  | 0x14 => s.syncWrite a v
  | 0x15 => s.fabWrite a v
  | 0x16 => s.dbgWrite x a v
  | _ => s

/-- The last word written to a write port is what a read of it returns. -/
def State.setLastWr (s : State) (i : Nat) (v : Word) : State :=
  { s with q := { s.q with lastWr := Sp.set (fun _ => (0 : Word)) s.q.lastWr i v } }

/-- A word written to a write port (R291, R352). -/
def State.portWrite (s : State) (i : Nat) (v : Word) : State :=
  let s1 := s.setLastWr i v
  if i = 14 then s1.mirTxWord v else s1.writeQ i v

/-- A write of a queue's LVL register: MARK outside 1 to the depth is ignored (R293). -/
def State.lvlWrite (s : State) (i a : Nat) (v : Word) : State :=
  let f := qMark i
  let m := getBits f.lo f.w v
  s.plain a (if 1 ≤ m ∧ m ≤ qDepth i then v else setBits f.lo f.w (s.fld f) v)

/-- A write that has passed the checks of R276. -/
def State.regWrite (s : State) (x : Access) (a : Nat) (v : Word) : State :=
  match bufOfMode a with
  | some b => (s.setMode b (bitOf v.toNat 0)).bpsOf (a = 0xD003C)
  | none =>
    match writePort a with
    | some i => s.portWrite i v
    | none =>
      match lvlReg a with
      | some i => s.lvlWrite i a v
      | none => s.blockWrite x a v

/-! ### What a read does -/

/-- The counters whose events no command of the table brings (log 36): words that the course memories and the DRAM correct (R66, R229),
codewords of a data port (R246). -/
def freeCounter (a : Nat) : Option Fld :=
  if a = 0x28030 then some F.SEQ_ECC_CORR_COUNT
  else if a = 0xB0028 then some F.DRAM_ECC_CORR_COUNT
  else if a = 0xE0008 ∨ a = 0xE1008 then some (F.NET_FEC_CORR_CODEWORDS ((a - 0xE0000) / 0x1000))
  else none

/-- A look at NETp_STAT or NETp_FEC_UNCORR: uncorrectable codewords found since the last look count and set FEC_UNCORR, a free number of
them (log 36). -/
def State.fecLook (s : State) (p : Nat) : State :=
  let s1 := s.countFree (F.NET_FEC_UNCORR_CODEWORDS p)
  s1.put (F.NET_STAT_FEC_UNCORR p) (max (s.fld (F.NET_STAT_FEC_UNCORR p)) (min 1 (Config.freeNat s.free)))

/-- What a look at a register finds counted since the last. -/
def State.lookAt (s : State) (a : Nat) : State :=
  match freeCounter a, confReg a with
  | some f, _ => s.countFree f
  | none, some m => s.confLook m
  | none, none => if a = 0xE0004 ∨ a = 0xE000C then s.fecLook 0 else if a = 0xE1004 ∨ a = 0xE100C then s.fecLook 1 else s

/-- A read of a register, by its block. -/
def State.blockRead (s0 : State) (a : Nat) : Word × State :=
  let s := s0.lookAt a
  match a / 0x10000 with
  | 0x01 => if a = 0x10014 then (s.coastLook.rd a, s.coastLook) else (s.clkRead a, s)
  | 0x02 => if a = 0x28088 then s.segwRead else (s.cfgRead a, s)
  | 0x04 => (s.planRead a, s)
  | 0x09 => s.alignDrive a (s.vecRead a)
  | 0x0A => (s.vecRead a, s)
  | 0x0B => s.dramRegRead a
  | 0x0C => if a = 0xC0084 then s.trackWinRead else (s.cfgRead a, s)
  | 0x0D => (s.batRead a, s)
  | 0x0F => (s.mgmtRead a, s)
  | 0x10 => (s.pvBlockRead a, s)
  | 0x13 => s.mirRead a
  | 0x14 => (s.syncRead a, s)
  | 0x16 => if a = 0x160010 then s.ringRead else (s.cfgRead a, s)
  | _ => (s.cfgRead a, s)

/-- A read takes a word of a queue. In CAPQ and LOGQ a corrected word counts, an uncorrectable one is delivered as stored and reported
(R295). -/
def State.takeWord (s : State) (x : Access) (i : Nat) : Word × State :=
  let r := s.readQ i
  if i = 11 ∨ i = 12 then
    let s1 := if x.corrected then r.2.bump (if i = 11 then F.CAPQ_CNT_CORR_COUNT else F.LOGQ_CNT_CORR_COUNT) else r.2
    (r.1, if x.uncorr then s1.eccBad i (s.getQ i).rd else s1)
  else r

/-- A read that has passed the checks of R276. -/
def State.regRead (s : State) (x : Access) (a : Nat) : Word × State :=
  match readPort a with
  | some i => s.takeWord x i
  | none =>
    match writePort a with
    | some i => (Sp.get (fun _ => (0 : Word)) s.q.lastWr i, s)
    | none =>
      match lvlReg a with
      | some i => (s.rd a ||| BitVec.ofNat 32 (s.level i), s)
      | none => s.blockRead a

/-! ### One access -/

/-- A port of a queue, or the segment window, makes an access wait (R277, R291, R82). -/
def State.portWait (s : State) (wr : Bool) (a : Nat) : Bool :=
  if a = 0x28088 then
    let k := s.fld F.SEGW_SEG_SEG
    s.segwIn && s.segInDram k && !(wr && s.segActiveNow k) &&
      (match s.dramCh (64 * (s.seg k).base + 4 * s.fld F.SEGW_OFS_WORD_OFS) with
        | some c => s.chWaits c || !s.flag (trainedBit c) ||
            (decide (s.fld F.SEQ_STAT_HEAT = 3) && decide (Sp.get (fun _ => 0) s.plan.openLeft c = 0))
        | none => false)
  else if wr then
    match writePort a with
    | some i =>
      if i = 14 then s.mir.txPart.isEmpty && decide (8 ≤ s.mir.txBuf.length)
      else decide (i < 14) && (s.getQ i).part.isEmpty && s.qFull i
    | none => false
  else
    match readPort a with
    | some i => (s.getQ i).recs.isEmpty
    | none => false

/-- What a read of 8, 16 or 32 bits returns of the containing register (R275). -/
def Access.part (x : Access) (w : Word) : Word :=
  BitVec.ofNat 32 (w.toNat / 2 ^ (8 * (x.a % 4)) % 2 ^ (8 * x.bytes))

/-- A read returns a word. -/
def State.answerRead (s : State) (x : Access) (w : Word) : State := if x.wr then s else { s with rdata := x.part w }

/-- What came of an attempt at an access: it has completed, it failed a check, the state. -/
structure Tried where
  done : Bool
  err : Bool
  s : State

/-- A write has passed the check of the key: the key is consumed (R280). -/
def State.useKey (s : State) (a : Nat) : State := if keyReg a then s.wr 0x10 0 else s

/-- The mailbox refuses a write while BUSY (R287). -/
def State.mbxHeld (s : State) (a : Nat) : Bool := decide (0x20 ≤ a) && decide (a < 0x38) && decide (a ≠ 0x24) && s.flag F.MBX_STAT_BUSY

/-- What locked bits `m` make of a write of `v` to a register (R281), reserved bits left aside (R12): whether the write would
change a locked field, and the word that is written in its place. -/
def State.lockOut (s : State) (a : Nat) (m v : Word) : Bool × Word :=
  let (rw, w1c) := match findReg a with
    | some r => (BitVec.ofNat 32 r.rw, BitVec.ofNat 32 r.w1c)
    | none => (0, 0)
  let old := s.cfgRead a
  (decide ((v ^^^ old) &&& m &&& rw ≠ 0) || decide (v &&& old &&& m &&& w1c ≠ 0),
   (v &&& ~~~m) ||| (old &&& m &&& rw))

/-- A write meets the checks of key and lock, then acts (R276 steps 5 and 6). A register locked as a whole ignores it. -/
def State.tryWrite (s : State) (x : Access) (a : Nat) : Tried :=
  if keyReg a && !s.armed then ⟨true, true, s.busErr 2 x⟩
  else if s.mbxHeld a then ⟨true, true, s.busErr 1 x⟩
  else
    let s1 := s.useKey a
    let m := s1.regLocks a x.data
    let (viol, v) := s1.lockOut a m x.data
    let s2 := if viol then s1.busErr 1 x else s1
    ⟨true, viol, if m = wholeLock then s2 else s2.regWrite x a v⟩

/-- A read of CAPQ_RD is refused while the Baton engine drains CAPQ (R215). -/
def State.capqHeld (s : State) (a : Nat) : Bool := decide (a = 0xA0040) && s.flag F.CAPT_CTRL_OUTBOUND

/-- An access meets the checks of R276 in order; at an address of no register, past the first three, a read returns zero and a write is
ignored (R272). A 32-bit access whose address is not a multiple of 4 is taken as one of the containing register, of which a read returns
the bytes from that address on: R275 states this for narrower reads only (DESIGN CHOICE, log 28). -/
def State.tryAccess (s : State) (x : Access) : Tried :=
  let a := x.a / 4 * 4
  if s.regAbsent a then ⟨true, true, s.answerRead x 0⟩
  else
    match s.regAsleep a with
    | some d => ⟨false, false, s.accessWake d⟩
    | none =>
      if x.wr && decide (x.bytes ≠ 4) then ⟨true, true, s.busErr 4 x⟩
      else if (findReg a).isNone then ⟨true, false, s.answerRead x 0⟩
      else if s.regPriv a && !x.p then ⟨true, true, (s.busErr 5 x).answerRead x 0⟩
      else if !x.wr && s.capqHeld a then ⟨true, true, (s.busErr 1 x).answerRead x 0⟩
      else if s.portWait x.wr a then ⟨false, false, s⟩
      else if x.wr then s.tryWrite x a
      else
        let r := s.regRead x a
        ⟨true, false, r.2.answerRead x r.1⟩

/-- An access has completed: the test access port sees the end of its own (R329). -/
def State.endAccess (s : State) (x : Access) (err : Bool) : State :=
  if x.jtag then
    { s with sup := { s.sup with accDone := true, accErr := err, accD := if x.wr then s.sup.accD else s.rdata } }
  else s

/-! ### The bus -/

/-- The accesses on the bus go on in their order, until one stalls or the cores stop (R274). -/
def State.busRun : Nat → State → State
  | 0, s => s
  | k + 1, s =>
    match s.bus with
    | [] => s
    | x :: _ =>
      if !s.live then s
      else
        let r := s.tryAccess x
        if r.done then
          let s1 := r.s.endAccess x r.err
          State.busRun k { s1 with bus := s1.bus.drop 1 }
        else r.s

/-- The bus goes on as far as it can. -/
def State.busGo (s : State) : State := State.busRun s.bus.length s

/-- An access arrives at the bus. -/
def State.busAccess (s : State) (x : Access) : State := ({ s with bus := s.bus ++ [x] }).busGo

/-- What waits for a domain, a queue or a channel goes on (log 1): the mailbox, stalled accesses, the plan and fabric loaders, received
frames. -/
def State.settle (s : State) : State := ((((s.mbxResume).busGo).loadGoesOn).fabGoesOn).rxGoesOn

/-- An access of the management cores: nothing happens while they do not run. -/
def State.busRow (s : State) (x : Access) : State := if s.live then (s.busAccess x).noteLevels else s

/-- A 32-bit register write of the management cores. -/
def State.writeRow (s : State) (a : Nat) (w : Word) (p : Bool) : State := s.busRow ⟨a, true, w, 4, p, false, false, false⟩

/-- A register read of the management cores (R275); what a protected queue finds of the word it takes. -/
def State.eccRow (s : State) (a : Nat) (r : BusRead) (corrected uncorr : Bool) : State :=
  s.busRow ⟨a + r.ofs, false, 0, r.bytes, r.p, false, corrected, uncorr⟩

/-- A register read of the management cores. -/
def State.readRow (s : State) (a : Nat) (r : BusRead) : State := s.eccRow a r false false

/-- A register write with a command bit at 1. -/
def State.cmdRow (s : State) (f : Fld) (w : Word) (p : Bool) : State := s.writeRow f.a (setBits f.lo 1 1 w) p

/-- A register write with a bit at 0. -/
def State.offRow (s : State) (f : Fld) (w : Word) (p : Bool) : State := s.writeRow f.a (setBits f.lo 1 0 w) p

/-! ### Rows: the bus, the key, the mailbox -/

/-- REGISTER_WRITE (R276). -/
def execRegisterWrite (a : BitVec 24) (w : Word) (bytes : Nat) (p : Bool) (s : State) : Host.Outcome State Fault Refusal :=
  .next (s.busRow ⟨a.toNat, true, w, bytes, p, false, false, false⟩)

/-- The stalled access at the head of the bus ends by its timeout (R277). -/
def State.timeoutHead (s : State) : State :=
  match s.bus with
  | [] => s
  | x :: rest =>
    let s1 := ((s.busErr 3 x).answerRead x 0).endAccess x true
    ({ s1 with bus := rest }).busGo

/-- BUS_TIMEOUT (R277). -/
def execBusTimeout (s : State) : Host.Outcome State Fault Refusal :=
  if s.live then .next (s.settle.timeoutHead).noteLevels else .next s

/-- GLB_KEY_WRITE (R280). -/
def execGlbKeyWrite (w : Word) (p : Bool) (s : State) : Host.Outcome State Fault Refusal := .next (s.writeRow 0x10 w p)

/-- KEY_EXPIRY (R280). -/
def execKeyExpiry (s : State) : Host.Outcome State Fault Refusal :=
  if s.live && s.armed then .next (s.wr 0x10 0) else .next s

/-- MAILBOX_READ (R286). -/
def execMailboxRead (sel : BitVec 16) (p : Bool) (s : State) : Host.Outcome State Fault Refusal :=
  .next (s.writeRow 0x20 (sel.setWidth 32) p)

/-- MAILBOX_WRITE (R286). -/
def execMailboxWrite (sel : BitVec 16) (p : Bool) (s : State) : Host.Outcome State Fault Refusal :=
  .next (s.writeRow 0x20 (sel.setWidth 32 ||| 0x10000#32) p)

/-- UPDATE_STROBE (R285). -/
def execUpdateStrobe (w : Word) (p : Bool) (s : State) : Host.Outcome State Fault Refusal := .next (s.writeRow 0x40 w p)

/-- PV_WRITE (R303). -/
def execPvWrite (i : Fin 8160) (w : Word) (p : Bool) (s : State) : Host.Outcome State Fault Refusal :=
  .next (s.writeRow (0x100100 + 4 * i.val) w p)

/-- PROG (R307). -/
def execProg (w : Word) (p : Bool) (s : State) : Host.Outcome State Fault Refusal := .next (s.cmdRow F.OTP_CMD_PROG w p)

/-- FABRIC_LOAD (R300). -/
def execFabricLoad (w : Word) (p : Bool) (s : State) : Host.Outcome State Fault Refusal :=
  .next (s.cmdRow F.FABRIC_CTRL_LOAD w p)

/-! ### Rows: clocks -/

/-- SOFT_GO (R53). -/
def execSoftGo (w : Word) (p : Bool) (s : State) : Host.Outcome State Fault Refusal := .next (s.cmdRow F.CLK_PLL_SOFT_GO w p)

/-- HOP (R38). -/
def execHop (w : Word) (p : Bool) (s : State) : Host.Outcome State Fault Refusal := .next (s.cmdRow F.CLK_PLL_HOP w p)

/-- BAND_SEARCH (R39). -/
def execBandSearch (w : Word) (p : Bool) (s : State) : Host.Outcome State Fault Refusal :=
  .next (s.cmdRow F.CLK_PLL_BAND_SEARCH w p)

/-- BAND_SAVE (R36, R304). -/
def execBandSave (w : Word) (p : Bool) (s : State) : Host.Outcome State Fault Refusal :=
  .next (s.cmdRow F.CLK_BAND_BAND_SAVE w p)

/-- HARD_RELOCK (R54). -/
def execHardRelock (w : Word) (p : Bool) (s : State) : Host.Outcome State Fault Refusal :=
  .next (s.cmdRow F.CLK_PLL_HARD_RELOCK w p)

/-- REF_SEL_WRITE (R55). -/
def execRefSelWrite (w : Word) (p : Bool) (s : State) : Host.Outcome State Fault Refusal := .next (s.writeRow 0x10000 w p)

/-- LOAD_NOW (R44, R47). -/
def execLoadNow (w : Word) (p : Bool) (s : State) : Host.Outcome State Fault Refusal := .next (s.cmdRow F.TB_CTRL_LOAD_NOW w p)

/-! ### Rows: events and heats -/

/-- EVT_SW_PULSE (R120). -/
def execEvtSwPulse (hi : Bool) (w : Word) (p : Bool) (s : State) : Host.Outcome State Fault Refusal :=
  .next (s.writeRow (if hi then 0x30014 else 0x30010) w p)

/-- EVT_SW_LEVEL (R120). -/
def execEvtSwLevel (hi : Bool) (w : Word) (p : Bool) (s : State) : Host.Outcome State Fault Refusal :=
  .next (s.writeRow (if hi then 0x3001C else 0x30018) w p)

/-- The copies of a privileged queue's pointers come to disagree, where `mism`: the next entry or removal finds it (R294). Nothing
happens to them in a device that does not run. -/
def State.upset (s : State) (i : Nat) (mism : Bool) : State :=
  if mism && s.live then { s with q := { s.q with upset := putBit s.q.upset i true } } else s

/-- EVQ_READ (R128). -/
def execEvqRead (p : BusRead) (mism : Bool) (s : State) : Host.Outcome State Fault Refusal :=
  .next ((s.upset 8 mism).readRow 0x30040 p)

/-- START (R87). -/
def execStart (w : Word) (p : Bool) (s : State) : Host.Outcome State Fault Refusal := .next (s.cmdRow F.SEQ_CTRL_START w p)

/-- PAUSE (R107). -/
def execPause (w : Word) (p : Bool) (s : State) : Host.Outcome State Fault Refusal := .next (s.cmdRow F.SEQ_CTRL_PAUSE w p)

/-- RESUME (R108). -/
def execResume (w : Word) (p : Bool) (s : State) : Host.Outcome State Fault Refusal := .next (s.cmdRow F.SEQ_CTRL_RESUME w p)

/-- ABORT (R109). -/
def execAbort (w : Word) (p : Bool) (s : State) : Host.Outcome State Fault Refusal := .next (s.cmdRow F.SEQ_CTRL_ABORT w p)

/-- CMDQ_WORD_WRITE (R110). -/
def execCmdqWordWrite (n : Fin 8) (w : Word) (p : Bool) (mism : Bool) (s : State) : Host.Outcome State Fault Refusal :=
  .next ((s.upset n.val mism).writeRow (0x20120 + 0x40 * n.val) w p)

/-! ### Rows: windows and plans -/

/-- CRS_READ (R81). -/
def execCrsRead (w : Word) (p : Bool) (s : State) : Host.Outcome State Fault Refusal := .next (s.cmdRow F.CRS_CMD_READ w p)

/-- CRS_WRITE (R81). -/
def execCrsWrite (w : Word) (p : Bool) (s : State) : Host.Outcome State Fault Refusal := .next (s.cmdRow F.CRS_CMD_WRITE w p)

/-- SEGD_READ (R62). -/
def execSegdRead (w : Word) (p : Bool) (s : State) : Host.Outcome State Fault Refusal := .next (s.cmdRow F.SEGD_CMD_READ w p)

/-- SET_READY (R76). -/
def execSetReady (w : Word) (p : Bool) (s : State) : Host.Outcome State Fault Refusal := .next (s.cmdRow F.SEGD_CMD_SET_READY w p)

/-- CLR_READY (R76). -/
def execClrReady (w : Word) (p : Bool) (s : State) : Host.Outcome State Fault Refusal := .next (s.cmdRow F.SEGD_CMD_CLR_READY w p)

/-- SEGW_READ (R82). -/
def execSegwRead (p : BusRead) (s : State) : Host.Outcome State Fault Refusal := .next (s.readRow 0x28088 p)

/-- SEGW_WRITE (R82). -/
def execSegwWrite (w : Word) (p : Bool) (s : State) : Host.Outcome State Fault Refusal := .next (s.writeRow 0x28088 w p)

/-- LOAD (R161). -/
def execLoad (w : Word) (p : Bool) (s : State) : Host.Outcome State Fault Refusal := .next (s.cmdRow F.PLAN_CTRL_LOAD w p)

/-- UNLOAD (R164). -/
def execUnload (w : Word) (p : Bool) (s : State) : Host.Outcome State Fault Refusal := .next (s.cmdRow F.PLAN_CTRL_UNLOAD w p)

/-! ### Rows: channels, pins and capture -/

/-- FINE_TRIM_WRITE (R182). -/
def execFineTrimWrite (fc : Fin 64) (w : Word) (p : Bool) (s : State) : Host.Outcome State Fault Refusal :=
  .next (s.writeRow (0x80010 + 0x400 * fc.val) w p)

/-- BW_WRITE (R177). -/
def execBwWrite (fc : Fin 64) (w : Word) (p : Bool) (s : State) : Host.Outcome State Fault Refusal :=
  .next (s.writeRow (0x80000 + 0x400 * fc.val) w p)

/-- PROFILE_READ (R171). -/
def execProfileRead (fc : Fin 64) (w : Word) (p : Bool) (s : State) : Host.Outcome State Fault Refusal :=
  .next (s.cmdRow (F.FC_PCMD_READ fc.val) w p)

/-- PROFILE_WRITE (R171). -/
def execProfileWrite (fc : Fin 64) (w : Word) (p : Bool) (s : State) : Host.Outcome State Fault Refusal :=
  .next (s.cmdRow (F.FC_PCMD_WRITE fc.val) w p)

/-- CAL_RUN (R183). -/
def execCalRun (fc : Fin 64) (w : Word) (p : Bool) (s : State) : Host.Outcome State Fault Refusal :=
  .next (s.cmdRow (F.FC_CAL_RUN fc.val) w p)

/-- CAL_SAVE (R183, R304). -/
def execCalSave (fc : Fin 64) (w : Word) (p : Bool) (s : State) : Host.Outcome State Fault Refusal :=
  .next (s.cmdRow (F.FC_CAL_SAVE fc.val) w p)

/-- RB_RUN (R187). -/
def execRbRun (fc : Fin 64) (w : Word) (p : Bool) (s : State) : Host.Outcome State Fault Refusal :=
  .next (s.cmdRow (F.FC_RB_RUN fc.val) w p)

/-- PIN_TRIM_WRITE (R197). -/
def execPinTrimWrite (vp : Fin 128) (strobe : Bool) (w : Word) (p : Bool) (s : State) : Host.Outcome State Fault Refusal :=
  .next (s.writeRow ((if strobe then 0x90010 else 0x9000C) + 0x100 * vp.val) w p)

/-- RING_RD_WRITE (R208). -/
def execRingRdWrite (b : Fin 4) (w : Word) (p : Bool) (s : State) : Host.Outcome State Fault Refusal :=
  .next (s.writeRow (0xA0108 + 0x20 * b.val) w p)

/-- RING_SIZE_WRITE (R207, R208). -/
def execRingSizeWrite (b : Fin 4) (w : Word) (p : Bool) (s : State) : Host.Outcome State Fault Refusal :=
  .next (s.writeRow (0xA0100 + 0x20 * b.val) w p)

/-- CAPQ_READ (R215). -/
def execCapqRead (x : CapqLook) (s : State) : Host.Outcome State Fault Refusal :=
  .next (s.eccRow 0xA0040 x.p x.corrected x.uncorr)

/-! ### Rows: memory -/

/-- TIMELINE_ROW: register windows that waited for open capacity go on (R144, R167). -/
def execTimelineRow (r : RowReport) (s : State) : Host.Outcome State Fault Refusal :=
  if s.live && decide (s.fld F.SEQ_STAT_HEAT = 3) then .next ((s.timelineRow r).settle).noteLevels else .next s

/-- TRACK_WINDOW_READ (R221, R222). -/
def execTrackWindowRead (p : BusRead) (s : State) : Host.Outcome State Fault Refusal := .next (s.readRow 0xC0084 p)

/-- TRACK_WINDOW_WRITE (R221, R222): the copy of a block may begin in its very cycle; a write that waits behind a stalled access meets no
collision. -/
def execTrackWindowWrite (w : Word) (p : Bool) (collide : Bool) (s : State) : Host.Outcome State Fault Refusal :=
  if s.live && s.bus.isEmpty && collide && s.copyBegins (4 * s.fld F.TRK_WADDR_WORD) then
    .next (s.trackWinWrite w true).noteLevels
  else .next (s.writeRow 0xC0084 w p)

/-- SELF_REFRESH_EXIT (R237): the channel serves the request that woke it. Without a source of the DRAM PLL it stays in self-refresh (R32);
a channel whose domain is one of a group becomes ready with the group (R25). -/
def execSelfRefreshExit (c : Fin 8) (s : State) : Host.Outcome State Fault Refusal :=
  if s.live && s.flag (selfRef c.val) && !s.fenced c.val && s.refOk then
    .next ((if s.chGrouped c.val then s.groupReady (0x18 + c.val) else s.leaveSelfRef c.val).settle).noteLevels
  else .next s

/-- TRAIN (R239). -/
def execTrain (w : Word) (p : Bool) (s : State) : Host.Outcome State Fault Refusal := .next (s.cmdRow F.DRAM_TRAIN_TRAIN w p)

/-- RETRAIN (R240). -/
def execRetrain (w : Word) (p : Bool) (s : State) : Host.Outcome State Fault Refusal := .next (s.cmdRow F.DRAM_TRAIN_RETRAIN w p)

/-- RETRAIN_DONE (R240): a plan load that waited for the channel goes on. Nothing trains without the DRAM PLL (R32). -/
def execRetrainDone (c : Fin 8) (newOk lkgOk : Bool) (s : State) : Host.Outcome State Fault Refusal :=
  if s.live && s.flag (retrainBit c.val) && s.refOk then .next ((s.retrainEnd c.val newOk lkgOk).settle).noteLevels else .next s

/-- The training of UNFENCE ends (R243); without a source of the DRAM PLL it does not (R32). -/
def State.unfenceDone (s : State) (ok : Bool) : State :=
  match s.dram.job with
  | .unfence c => if s.refOk then ((s.unfenceEnd c ok).settle).noteLevels else s
  | _ => s

/-- UNFENCE (R243): the command and the end of its training. -/
def execUnfence (w : Word) (p : Bool) (ok : Bool) (s : State) : Host.Outcome State Fault Refusal :=
  let s1 := s.cmdRow F.DRAM_TRAIN_UNFENCE w p
  if s.live then .next (s1.unfenceDone ok) else .next s1

/-- DRAM_SAVE (R239, R304). -/
def execDramSave (w : Word) (p : Bool) (s : State) : Host.Outcome State Fault Refusal := .next (s.cmdRow F.DRAM_TRAIN_SAVE w p)

/-! ### Rows: data ports -/

/-- PORT_ENABLE (R249). -/
def execPortEnable (pt : Fin 2) (w : Word) (p : Bool) (s : State) : Host.Outcome State Fault Refusal :=
  .next (s.cmdRow (F.NET_CTRL_EN pt.val) w p)

/-- PORT_DISABLE (R249, R271). -/
def execPortDisable (pt : Fin 2) (w : Word) (p : Bool) (s : State) : Host.Outcome State Fault Refusal :=
  .next (s.offRow (F.NET_CTRL_EN pt.val) w p)

/-- MODE_CHANGE (R247, R267): EN keeps its value. -/
def execModeChange (pt : Fin 2) (w : Word) (p : Bool) (s : State) : Host.Outcome State Fault Refusal :=
  .next (s.writeRow (F.NET_CTRL_EN pt.val).a (setBits 0 1 (s.fld (F.NET_CTRL_EN pt.val)) w) p)

/-- PORT_READY (R249). -/
def execPortReady (pt : Fin 2) (s : State) : Host.Outcome State Fault Refusal :=
  if s.live then
    .next ((if s.awake (0x20 + pt.val) then s.portReady pt.val else s.groupReady (0x20 + pt.val)).settle).noteLevels
  else .next s

/-- BATON_READY (R249). -/
def execBatonReady (s : State) : Host.Outcome State Fault Refusal :=
  if s.live then .next ((s.groupReady 0x22).settle).noteLevels else .next s

/-- BATQ_WORD_WRITE (R254). -/
def execBatqWordWrite (w : Word) (p : Bool) (s : State) : Host.Outcome State Fault Refusal := .next (s.writeRow 0xD0040 w p)

/-- ENGINE_DISABLE (R259). -/
def execEngineDisable (w : Word) (p : Bool) (s : State) : Host.Outcome State Fault Refusal := .next (s.offRow F.BAT_CTRL_EN w p)

/-! ### Rows: supervision -/

/-- WARM (R331). -/
def execWarm (w : Word) (p : Bool) (s : State) : Host.Outcome State Fault Refusal := .next (s.cmdRow F.SUP_RESET_WARM w p)

/-- SLEEP (R313). -/
def execSleep (w : Word) (p : Bool) (s : State) : Host.Outcome State Fault Refusal := .next (s.cmdRow F.SUP_PWR_SLEEP w p)

/-- DOMAIN_WAKE (R316). -/
def execDomainWake (w : Word) (p : Bool) (s : State) : Host.Outcome State Fault Refusal := .next (s.cmdRow F.SUP_DOM_CMD_WAKE w p)

/-- DOMAIN_READY (R316). -/
def execDomainReady (d : BitVec 6) (l : LockInfo) (s : State) : Host.Outcome State Fault Refusal :=
  if s.live then .next ((s.domainReady d.toNat l).settle).noteLevels else .next s

/-- DOMAIN_SLEEP (R316). -/
def execDomainSleep (w : Word) (p : Bool) (s : State) : Host.Outcome State Fault Refusal := .next (s.cmdRow F.SUP_DOM_CMD_SLEEP w p)

/-- SUPPLY_CHECK (R310). -/
def execSupplyCheck (w : Word) (p : Bool) (s : State) : Host.Outcome State Fault Refusal :=
  .next (s.cmdRow F.SUP_MON_CMD_SUPPLY_CHECK w p)

/-- LOGQ_READ (R295, R323): a corrected word counts; an uncorrectable one is delivered as stored. -/
def execLogqRead (p : BusRead) (corrected uncorr : Bool) (s : State) : Host.Outcome State Fault Refusal :=
  .next (s.eccRow 0x120040 p corrected uncorr)

/-- FREEZE (R325). -/
def execFreeze (w : Word) (p : Bool) (s : State) : Host.Outcome State Fault Refusal := .next (s.cmdRow F.DBG_FREEZE_FREEZE w p)

/-- While the cores are stopped only the test access port reaches the DBG block (R326). -/
def State.onlyJtag (s : State) : Bool := !s.sup.por && (s.flag F.DBG_STAT_FROZEN || s.flag F.DBG_STAT_ASLEEP)

/-- RELEASE (R330). -/
def execRelease (w : Word) (p : Bool) (s : State) : Host.Outcome State Fault Refusal :=
  if s.onlyJtag || (s.sup.por && s.flag F.DBG_STAT_FROZEN) then .next (s.releaseCmd true) else .next (s.cmdRow F.DBG_CTRL_RELEASE w p)

/-- RING_DATA_READ (R327). -/
def execRingDataRead (p : BusRead) (s : State) : Host.Outcome State Fault Refusal :=
  if s.onlyJtag || (s.sup.por && s.flag F.DBG_STAT_FROZEN) then
    let r := s.ringRead
    .next (r.2.answerRead ⟨0x160010 + p.ofs, false, 0, p.bytes, p.p, true, false, false⟩ r.1)
  else .next (s.readRow 0x160010 p)

/-- What Capture-DR of DBG_ACCESS loads (R329). -/
def State.accCapture (s : State) : Nat :=
  s.sup.accD.toNat + 2 ^ 32 * s.sup.accA + 2 ^ 56 * b2n s.sup.accDone + 2 ^ 57 * b2n s.sup.accErr

/-- A register access over JTAG that the running bus does not carry: the DBG block while the cores are stopped (R326). -/
def State.dbgDirect (s : State) (x : Access) : State :=
  let r := s.tryAccess x
  r.s.endAccess x r.err

/-- The access ends without its register: it reads zero (R326). -/
def State.accRefused (s : State) : State :=
  { s with sup := { s.sup with accDone := true, accErr := true, accD := 0 } }

/-- DBG_ACCESS (R326, R329, R314). -/
def State.jtagAccess (s : State) (x : Access) : State :=
  let dbg := decide (x.a / 0x10000 = 0x16)
  if s.flag F.DBG_STAT_FROZEN then if dbg then s.dbgDirect x else (s.raise F.DBG_STAT_ACC_FROZEN).accRefused
  else if s.flag F.DBG_STAT_ASLEEP then
    if dbg then s.dbgDirect x
    else if s.flag F.SUP_WAKE_JTAG_EN then
      let s1 := s.wake 3
      (({ s1 with bus := s1.bus ++ [x] }).busGo).noteLevels
    else s.accRefused
  else (s.busAccess x).noteLevels

/-- DBG_ACCESS (R329): Update-DR starts a privileged access, unless the previous one has not completed. -/
def execDbgAccess (d : DbgScan) (s : State) : Host.Outcome State Fault Refusal :=
  if s.sup.por && !s.flag F.DBG_STAT_FROZEN then .next s
  else
    let n := d.dr.toNat
    let s1 := s.scan 0x21 s.accCapture
    if !s.sup.accDone then .next s1
    else
      let a := n / 2 ^ 32 % 2 ^ 24
      let s2 := { s1 with sup := { s1.sup with accA := a, accDone := false, accErr := false } }
      .next (s2.jtagAccess ⟨a, bitOf n 56, BitVec.ofNat 32 n, 4, true, true, d.corrected, d.uncorr⟩)

/-! ### Rows: several devices -/

/-- ALIGN (R337). -/
def execAlign (w : Word) (p : Bool) (s : State) : Host.Outcome State Fault Refusal := .next (s.cmdRow F.SYNC_CTRL_ALIGN w p)

/-- CAL (R338). -/
def execCal (w : Word) (p : Bool) (s : State) : Host.Outcome State Fault Refusal := .next (s.cmdRow F.SYNC_CTRL_CAL w p)

/-- SYNC_SAVE (R341, R304). -/
def execSyncSave (w : Word) (p : Bool) (s : State) : Host.Outcome State Fault Refusal := .next (s.cmdRow F.SYNC_CTRL_SAVE w p)

/-- ROLE_WRITE (R342). -/
def execRoleWrite (w : Word) (p : Bool) (s : State) : Host.Outcome State Fault Refusal := .next (s.offRow F.MIR_CTRL_TAKEOVER w p)

/-- TAKEOVER (R349). -/
def execTakeover (w : Word) (p : Bool) (s : State) : Host.Outcome State Fault Refusal := .next (s.cmdRow F.MIR_CTRL_TAKEOVER w p)

/-- MIR_TX_WORD_WRITE (R352). -/
def execMirTxWordWrite (w : Word) (p : Bool) (s : State) : Host.Outcome State Fault Refusal := .next (s.writeRow 0x130040 w p)

/-- MIRQ_READ (R290, R352). -/
def execMirqRead (p : BusRead) (mism : Bool) (s : State) : Host.Outcome State Fault Refusal :=
  .next ((s.upset 9 mism).readRow 0x130044 p)

/-! ### Rows: management and update -/

/-- TX_GO (R362). -/
def execTxGo (w : Word) (p : Bool) (s : State) : Host.Outcome State Fault Refusal := .next (s.cmdRow F.MGMT_PORT_TX_GO w p)

/-- MDIO_GO (R360). -/
def execMdioGo (w : Word) (p : Bool) (s : State) : Host.Outcome State Fault Refusal := .next (s.cmdRow F.MGMT_MDIO_GO w p)

/-- CONFIRM (R379). -/
def execConfirm (w : Word) (p : Bool) (s : State) : Host.Outcome State Fault Refusal := .next (s.cmdRow F.UPD_CMD_CONFIRM w p)

/-- REVERT (R379). -/
def execRevert (w : Word) (p : Bool) (s : State) : Host.Outcome State Fault Refusal := .next (s.cmdRow F.UPD_CMD_REVERT w p)

/-- BREAK (R373). -/
def execBreakLock (w : Word) (p : Bool) (s : State) : Host.Outcome State Fault Refusal := .next (s.cmdRow F.UPD_CMD_BREAK w p)

end Sys2Proof.Machine
end

