-- ==== Sys2Proof/Machine/Dispatch.lean ====
section
/-! DEFINITION. One arm per command: its meaning. -/

namespace Sys2Proof.Machine

/-- The effect of a command on everything but the queue of waiting commands. -/
def exec (i : Instr) (s : State) : Host.Outcome State Fault Refusal :=
  match i with
  | .registerWrite a w bytes p => Sys2Proof.Machine.execRegisterWrite a w bytes p s
  | .busTimeout => Sys2Proof.Machine.execBusTimeout s
  | .glbKeyWrite w p => Sys2Proof.Machine.execGlbKeyWrite w p s
  | .keyExpiry => Sys2Proof.Machine.execKeyExpiry s
  | .mailboxRead sel p => Sys2Proof.Machine.execMailboxRead sel p s
  | .mailboxWrite sel p => Sys2Proof.Machine.execMailboxWrite sel p s
  | .mailboxTimeout => Sys2Proof.Machine.execMailboxTimeout s
  | .updateStrobe w p => Sys2Proof.Machine.execUpdateStrobe w p s
  | .strobeEffect => Sys2Proof.Machine.execStrobeEffect s
  | .pvWrite k w p => Sys2Proof.Machine.execPvWrite k w p s
  | .prog w p => Sys2Proof.Machine.execProg w p s
  | .progDone readBack => Sys2Proof.Machine.execProgDone readBack s
  | .fabricLoad w p => Sys2Proof.Machine.execFabricLoad w p s
  | .fabricApplied => Sys2Proof.Machine.execFabricApplied s
  | .refLoss ctl => Sys2Proof.Machine.execRefLoss ctl s
  | .coastLong => Sys2Proof.Machine.execCoastLong s
  | .refQualified good => Sys2Proof.Machine.execRefQualified good s
  | .refBack step fofs coastUs => Sys2Proof.Machine.execRefBack step fofs coastUs s
  | .realignHardRelock => Sys2Proof.Machine.execRealignHardRelock s
  | .softGo w p => Sys2Proof.Machine.execSoftGo w p s
  | .softRelockDone => Sys2Proof.Machine.execSoftRelockDone s
  | .hop w p => Sys2Proof.Machine.execHop w p s
  | .hopLock l => Sys2Proof.Machine.execHopLock l s
  | .hopTimeout => Sys2Proof.Machine.execHopTimeout s
  | .bandSearch w p => Sys2Proof.Machine.execBandSearch w p s
  | .bandSearchLock l => Sys2Proof.Machine.execBandSearchLock l s
  | .bandSearchTimeout => Sys2Proof.Machine.execBandSearchTimeout s
  | .bandMiss => Sys2Proof.Machine.execBandMiss s
  | .bandSave w p => Sys2Proof.Machine.execBandSave w p s
  | .hardRelock w p => Sys2Proof.Machine.execHardRelock w p s
  | .hardRelockLock l => Sys2Proof.Machine.execHardRelockLock l s
  | .unlock phaseErr => Sys2Proof.Machine.execUnlock phaseErr s
  | .faultRelock l => Sys2Proof.Machine.execFaultRelock l s
  | .refSelWrite w p => Sys2Proof.Machine.execRefSelWrite w p s
  | .starterEdge phase refPhase missed => Sys2Proof.Machine.execStarterEdge phase refPhase missed s
  | .startTick => Sys2Proof.Machine.execStartTick s
  | .loadNow w p => Sys2Proof.Machine.execLoadNow w p s
  | .alarm a => Sys2Proof.Machine.execAlarm a s
  | .triggerEdge ti high phase stay => Sys2Proof.Machine.execTriggerEdge ti high phase stay s
  | .evtSwPulse hi w p => Sys2Proof.Machine.execEvtSwPulse hi w p s
  | .evtSwLevel hi w p => Sys2Proof.Machine.execEvtSwLevel hi w p s
  | .eventHop fc => Sys2Proof.Machine.execEventHop fc s
  | .pennantFire pn => Sys2Proof.Machine.execPennantFire pn s
  | .pennantPulseEnd pn => Sys2Proof.Machine.execPennantPulseEnd pn s
  | .evqLostRecord => Sys2Proof.Machine.execEvqLostRecord s
  | .evqRead p mism => Sys2Proof.Machine.execEvqRead p mism s
  | .start w p => Sys2Proof.Machine.execStart w p s
  | .heatStart => Sys2Proof.Machine.execHeatStart s
  | .pause w p => Sys2Proof.Machine.execPause w p s
  | .resume w p => Sys2Proof.Machine.execResume w p s
  | .resumption => Sys2Proof.Machine.execResumption s
  | .abort w p => Sys2Proof.Machine.execAbort w p s
  | .cmdqWordWrite n w p mism => Sys2Proof.Machine.execCmdqWordWrite n w p mism s
  | .stop n => Sys2Proof.Machine.execStop n s
  | .stopTakesEffect n => Sys2Proof.Machine.execStopTakesEffect n s
  | .latchClr n => Sys2Proof.Machine.execLatchClr n s
  | .holdEnd n => Sys2Proof.Machine.execHoldEnd n s
  | .mark n => Sys2Proof.Machine.execMark n s
  | .commitDecision n => Sys2Proof.Machine.execCommitDecision n s
  | .exchange n => Sys2Proof.Machine.execExchange n s
  | .lapEnd n => Sys2Proof.Machine.execLapEnd n s
  | .fallback n => Sys2Proof.Machine.execFallback n s
  | .holdReady n => Sys2Proof.Machine.execHoldReady n s
  | .holdResume n => Sys2Proof.Machine.execHoldResume n s
  | .holdLimit n => Sys2Proof.Machine.execHoldLimit n s
  | .underrun n lane missing => Sys2Proof.Machine.execUnderrun n lane missing s
  | .seqEcc n word dir => Sys2Proof.Machine.execSeqEcc n word dir s
  | .lateWake d firstUse => Sys2Proof.Machine.execLateWake d firstUse s
  | .wakeRecord => Sys2Proof.Machine.execWakeRecord s
  | .crsRead w p => Sys2Proof.Machine.execCrsRead w p s
  | .crsWrite w p => Sys2Proof.Machine.execCrsWrite w p s
  | .segdRead w p => Sys2Proof.Machine.execSegdRead w p s
  | .setReady w p => Sys2Proof.Machine.execSetReady w p s
  | .clrReady w p => Sys2Proof.Machine.execClrReady w p s
  | .segwRead p => Sys2Proof.Machine.execSegwRead p s
  | .segwWrite w p => Sys2Proof.Machine.execSegwWrite w p s
  | .load w p => Sys2Proof.Machine.execLoad w p s
  | .writePass => Sys2Proof.Machine.execWritePass s
  | .unload w p => Sys2Proof.Machine.execUnload w p s
  | .timelineRow r => Sys2Proof.Machine.execTimelineRow r s
  | .blockCopyDone n => Sys2Proof.Machine.execBlockCopyDone n s
  | .lateCopy n => Sys2Proof.Machine.execLateCopy n s
  | .fineTrimWrite fc w p => Sys2Proof.Machine.execFineTrimWrite fc w p s
  | .bwWrite fc w p => Sys2Proof.Machine.execBwWrite fc w p s
  | .profileRead fc w p => Sys2Proof.Machine.execProfileRead fc w p s
  | .profileWrite fc w p => Sys2Proof.Machine.execProfileWrite fc w p s
  | .calRun fc w p => Sys2Proof.Machine.execCalRun fc w p s
  | .calDone fc gain ofs => Sys2Proof.Machine.execCalDone fc gain ofs s
  | .calSave fc w p => Sys2Proof.Machine.execCalSave fc w p s
  | .rbRun fc w p => Sys2Proof.Machine.execRbRun fc w p s
  | .rbDone fc code => Sys2Proof.Machine.execRbDone fc code s
  | .pinTrimWrite vp strobe w p => Sys2Proof.Machine.execPinTrimWrite vp strobe w p s
  | .compareReport b tick strobes => Sys2Proof.Machine.execCompareReport b tick strobes s
  | .failRecordEnter => Sys2Proof.Machine.execFailRecordEnter s
  | .summary b => Sys2Proof.Machine.execSummary b s
  | .spanClose b capture => Sys2Proof.Machine.execSpanClose b capture s
  | .ringRdWrite b w p => Sys2Proof.Machine.execRingRdWrite b w p s
  | .ringSizeWrite b w p => Sys2Proof.Machine.execRingSizeWrite b w p s
  | .capqRead x => Sys2Proof.Machine.execCapqRead x s
  | .trackWindowRead p => Sys2Proof.Machine.execTrackWindowRead p s
  | .trackWindowWrite w p collide => Sys2Proof.Machine.execTrackWindowWrite w p collide s
  | .bankRetention m => Sys2Proof.Machine.execBankRetention m s
  | .bankWake m => Sys2Proof.Machine.execBankWake m s
  | .panicEntry n lead => Sys2Proof.Machine.execPanicEntry n lead s
  | .panicExit n lead => Sys2Proof.Machine.execPanicExit n lead s
  | .owedRefresh c => Sys2Proof.Machine.execOwedRefresh c s
  | .refreshForced c => Sys2Proof.Machine.execRefreshForced c s
  | .dramTempPoll mult beyond => Sys2Proof.Machine.execDramTempPoll mult beyond s
  | .selfRefreshEntry c => Sys2Proof.Machine.execSelfRefreshEntry c s
  | .selfRefreshExit c => Sys2Proof.Machine.execSelfRefreshExit c s
  | .powerDownEntry c => Sys2Proof.Machine.execPowerDownEntry c s
  | .train w p => Sys2Proof.Machine.execTrain w p s
  | .trainDone ok => Sys2Proof.Machine.execTrainDone ok s
  | .retrain w p => Sys2Proof.Machine.execRetrain w p s
  | .trackingDrift c => Sys2Proof.Machine.execTrackingDrift c s
  | .retrainDone c newOk lkgOk => Sys2Proof.Machine.execRetrainDone c newOk lkgOk s
  | .unfence w p ok => Sys2Proof.Machine.execUnfence w p ok s
  | .dramSave w p => Sys2Proof.Machine.execDramSave w p s
  | .resErr c unreachable addr => Sys2Proof.Machine.execResErr c unreachable addr s
  | .portEnable pt w p => Sys2Proof.Machine.execPortEnable pt w p s
  | .portDisable pt w p => Sys2Proof.Machine.execPortDisable pt w p s
  | .modeChange pt w p => Sys2Proof.Machine.execModeChange pt w p s
  | .portReady pt => Sys2Proof.Machine.execPortReady pt s
  | .batonReady => Sys2Proof.Machine.execBatonReady s
  | .linkUp pt k => Sys2Proof.Machine.execLinkUp pt k s
  | .arpRequest pt k f => Sys2Proof.Machine.execArpRequest pt k f s
  | .neighbourSolicitation pt k f => Sys2Proof.Machine.execNeighbourSolicitation pt k f s
  | .pauseFrame pt k pfc prio quanta => Sys2Proof.Machine.execPauseFrame pt k pfc prio quanta s
  | .frameDrop pt k x => Sys2Proof.Machine.execFrameDrop pt k x s
  | .xoffRepeat pt => Sys2Proof.Machine.execXoffRepeat pt s
  | .badFrame pt k h => Sys2Proof.Machine.execBadFrame pt k h s
  | .openSession pt k h => Sys2Proof.Machine.execOpenSession pt k h s
  | .dataFrame pt k h => Sys2Proof.Machine.execDataFrame pt k h s
  | .closeSession pt k h => Sys2Proof.Machine.execCloseSession pt k h s
  | .batonQuery pt k h => Sys2Proof.Machine.execBatonQuery pt k h s
  | .dataCommit pt => Sys2Proof.Machine.execDataCommit pt s
  | .ackTimer skey => Sys2Proof.Machine.execAckTimer skey s
  | .sessionIdle skey => Sys2Proof.Machine.execSessionIdle skey s
  | .batqWordWrite w p => Sys2Proof.Machine.execBatqWordWrite w p s
  | .grantSeg ecc => Sys2Proof.Machine.execGrantSeg ecc s
  | .grantRegion ecc => Sys2Proof.Machine.execGrantRegion ecc s
  | .revoke ecc => Sys2Proof.Machine.execRevoke ecc s
  | .retire ecc => Sys2Proof.Machine.execRetire ecc s
  | .outDest ecc => Sys2Proof.Machine.execOutDest ecc s
  | .batqMark ecc => Sys2Proof.Machine.execBatqMark ecc s
  | .engineDisable w p => Sys2Proof.Machine.execEngineDisable w p s
  | .outRec corrected uncorr => Sys2Proof.Machine.execOutRec corrected uncorr s
  | .outRing b => Sys2Proof.Machine.execOutRing b s
  | .startUp e => Sys2Proof.Machine.execStartUp e s
  | .brownOut => Sys2Proof.Machine.execBrownOut s
  | .warm w p => Sys2Proof.Machine.execWarm w p s
  | .sleep w p => Sys2Proof.Machine.execSleep w p s
  | .enterAsleep => Sys2Proof.Machine.execEnterAsleep s
  | .sleepTimeout => Sys2Proof.Machine.execSleepTimeout s
  | .wakePin => Sys2Proof.Machine.execWakePin s
  | .wakeTimer => Sys2Proof.Machine.execWakeTimer s
  | .wakeJtag => Sys2Proof.Machine.execWakeJtag s
  | .domainWake w p => Sys2Proof.Machine.execDomainWake w p s
  | .domainReady d l => Sys2Proof.Machine.execDomainReady d l s
  | .domainWakeTimeout => Sys2Proof.Machine.execDomainWakeTimeout s
  | .domainSleep w p => Sys2Proof.Machine.execDomainSleep w p s
  | .sensorConversion temps => Sys2Proof.Machine.execSensorConversion temps s
  | .trip sensor temp => Sys2Proof.Machine.execTrip sensor temp s
  | .bridge up => Sys2Proof.Machine.execBridge up s
  | .supplyCheck w p => Sys2Proof.Machine.execSupplyCheck w p s
  | .supplyCheckDone mv => Sys2Proof.Machine.execSupplyCheckDone mv s
  | .logqLostRecord => Sys2Proof.Machine.execLogqLostRecord s
  | .logqRead p corrected uncorr => Sys2Proof.Machine.execLogqRead p corrected uncorr s
  | .freezePin => Sys2Proof.Machine.execFreezePin s
  | .freeze w p => Sys2Proof.Machine.execFreeze w p s
  | .freezePinRelease => Sys2Proof.Machine.execFreezePinRelease s
  | .release w p => Sys2Proof.Machine.execRelease w p s
  | .ringDataRead p => Sys2Proof.Machine.execRingDataRead p s
  | .tapReset => Sys2Proof.Machine.execTapReset s
  | .extest => Sys2Proof.Machine.execExtest s
  | .idcode => Sys2Proof.Machine.execIdcode s
  | .samplePreload bits => Sys2Proof.Machine.execSamplePreload bits s
  | .stateRing => Sys2Proof.Machine.execStateRing s
  | .dbgAccess dr => Sys2Proof.Machine.execDbgAccess dr s
  | .bypass op => Sys2Proof.Machine.execBypass op s
  | .align w p => Sys2Proof.Machine.execAlign w p s
  | .cal w p => Sys2Proof.Machine.execCal w p s
  | .calComplete r => Sys2Proof.Machine.execCalComplete r s
  | .syncSave w p => Sys2Proof.Machine.execSyncSave w p s
  | .roleWrite w p => Sys2Proof.Machine.execRoleWrite w p s
  | .mirrorLinkUp latNs shown => Sys2Proof.Machine.execMirrorLinkUp latNs shown s
  | .heartbeatSend => Sys2Proof.Machine.execHeartbeatSend s
  | .identSend => Sys2Proof.Machine.execIdentSend s
  | .ident id => Sys2Proof.Machine.execIdent id s
  | .heartbeat role pair fault peerEn => Sys2Proof.Machine.execHeartbeat role pair fault peerEn s
  | .decision dc => Sys2Proof.Machine.execDecision dc s
  | .decisionTimeout n => Sys2Proof.Machine.execDecisionTimeout n s
  | .lapMarkSend => Sys2Proof.Machine.execLapMarkSend s
  | .lapMark m => Sys2Proof.Machine.execLapMark m s
  | .mirFault src code => Sys2Proof.Machine.execMirFault src code s
  | .heartbeatLost => Sys2Proof.Machine.execHeartbeatLost s
  | .take => Sys2Proof.Machine.execTake s
  | .takeover w p => Sys2Proof.Machine.execTakeover w p s
  | .takeoverTick peerEn => Sys2Proof.Machine.execTakeoverTick peerEn s
  | .outEnRise => Sys2Proof.Machine.execOutEnRise s
  | .mirTxWordWrite w p => Sys2Proof.Machine.execMirTxWordWrite w p s
  | .msg words => Sys2Proof.Machine.execMsg words s
  | .mirqRead p mism => Sys2Proof.Machine.execMirqRead p mism s
  | .mgmtRxFrame f bad => Sys2Proof.Machine.execMgmtRxFrame f bad s
  | .txGo w p => Sys2Proof.Machine.execTxGo w p s
  | .mgmtTxDone => Sys2Proof.Machine.execMgmtTxDone s
  | .mdioGo w p => Sys2Proof.Machine.execMdioGo w p s
  | .mdioDone data => Sys2Proof.Machine.execMdioDone data s
  | .claim f => Sys2Proof.Machine.execClaim f s
  | .frag f => Sys2Proof.Machine.execFrag f s
  | .chunkProgrammed ok => Sys2Proof.Machine.execChunkProgrammed ok s
  | .verify f => Sys2Proof.Machine.execVerify f s
  | .verifyDone => Sys2Proof.Machine.execVerifyDone s
  | .activate f => Sys2Proof.Machine.execActivate f s
  | .updAbort f => Sys2Proof.Machine.execUpdAbort f s
  | .updRelease f => Sys2Proof.Machine.execUpdRelease f s
  | .updQuery f => Sys2Proof.Machine.execUpdQuery f s
  | .mirUpdFrame f => Sys2Proof.Machine.execMirUpdFrame f s
  | .lockIdle => Sys2Proof.Machine.execLockIdle s
  | .confirm w p => Sys2Proof.Machine.execConfirm w p s
  | .revert w p => Sys2Proof.Machine.execRevert w p s
  | .breakLock w p => Sys2Proof.Machine.execBreakLock w p s
  | .tftpWriteRequest f => Sys2Proof.Machine.execTftpWriteRequest f s
  | .tftpData f => Sys2Proof.Machine.execTftpData f s
  | .tftpTimeout => Sys2Proof.Machine.execTftpTimeout s
  | .recoverySample low => Sys2Proof.Machine.execRecoverySample low s
  | .porNLow => Sys2Proof.Machine.execPorNLow s
  | .linkDown pt k => Sys2Proof.Machine.execLinkDown pt k s
  | .mirrorLinkDown => Sys2Proof.Machine.execMirrorLinkDown s
  | .mgmtLinkChange up speed => Sys2Proof.Machine.execMgmtLinkChange up speed s
  | .pauseTimeExpiry pt k prio => Sys2Proof.Machine.execPauseTimeExpiry pt k prio s
  | .saveWordCommit => Sys2Proof.Machine.execSaveWordCommit s
  | .activateDone => Sys2Proof.Machine.execActivateDone s
  | .alignDone trims => Sys2Proof.Machine.execAlignDone trims s
  | .hardRelockTimeout => Sys2Proof.Machine.execHardRelockTimeout s
  | .freeModeRefresh x => Sys2Proof.Machine.execFreeModeRefresh x s
  | .updateFrameDrop mirror => Sys2Proof.Machine.execUpdateFrameDrop mirror s
  | .mirrorCrcDrop => Sys2Proof.Machine.execMirrorCrcDrop s
  | .recoveryArp f => Sys2Proof.Machine.execRecoveryArp f s

end Sys2Proof.Machine
end

