-- ==== Sys2Proof/Machine/Step.lean ====
section
/-! DEFINITION. One step: the command at the front of the queue, or, on an empty queue, one tick of the timebase (log 1). -/

namespace Sys2Proof.Machine

/-- The device without a command (log 1): one timebase tick passes, and an access or a mailbox operation that waits goes on where
what it waits for has come. -/
def State.idle (s : State) : State :=
  if s.live then ((((((s.lateNotes).tick1).linkTime 1 s.tm.heat).passed.checkBps).settle).sleepLate).noteLevels else s

/-- One step: the command at the front of the queue takes effect on the state with the queue's rest. -/
def step (s : State) : Host.Outcome State Fault Refusal :=
  match s.pending with
  | [] => .next s.idle
  | c :: rest => exec c { s with pending := rest }

/-- The state with the command that a word spells at the front of the queue; unchanged where it spells none. -/
def State.withFetchWord (s : State) (nbits w : Nat) : State :=
  match decodeTableWord nbits w with
  | some c => { s with pending := c :: s.pending }
  | none => s

end Sys2Proof.Machine
end

