-- ==== Sys2Proof/Safety.lean ====
section
/-! DEFINITION. The terms in which claims are made: a command that takes effect, an access that passes the checks of R276, a
queue with room, the memories' canonical form, and a device that is held. -/

namespace Sys2Proof.Machine

/-- The command answers a next state, of which `P` holds. -/
def Runs (c : Instr) (s : State) (P : State → Prop) : Prop := ∃ t, exec c s = .next t ∧ P t

/-- The step answers a next state, of which `P` holds. -/
def Steps (s : State) (P : State → Prop) : Prop := ∃ t, step s = .next t ∧ P t

/-- The command answers a next state: its effect `t`, of which `P` holds, after which the level events are looked at
(R97, R116, R122). -/
def Does (c : Instr) (s : State) (P : State → Prop) : Prop := ∃ t, exec c s = .next t.noteLevels ∧ P t

/-- The register bus is free, the cores run, and a 32-bit access of register `a` with privilege `p` passes steps 1 to 4 of
R276. -/
def State.opens (s : State) (a : Nat) (p : Bool) : Bool :=
  s.live && s.bus.isEmpty && (findReg a).isSome && !s.regAbsent a && (s.regAsleep a).isNone && (!s.regPriv a || p)

/-- A 32-bit write of `v` to register `a` passes every check of R276: also the key, the locks, the mailbox, the port. -/
def State.takes (s : State) (a : Nat) (v : Word) (p : Bool) : Bool :=
  s.opens a p && decide (a % 4 = 0) && (!keyReg a || s.armed) && !s.mbxHeld a && !s.portWait true a &&
    decide ((s.useKey a).regLocks a v ≠ wholeLock) &&
    decide ((s.useKey a).lockOut a ((s.useKey a).regLocks a v) v = (false, v))

/-- A 32-bit read of register `a` passes every check of R276. -/
def State.gives (s : State) (a : Nat) (p : Bool) : Bool :=
  s.opens a p && decide (a % 4 = 0) && !s.capqHeld a && !s.portWait false a

/-- A register write whose command bit `f` is the only one at 1 of its unit's command bits `l` passes every check of R276
(R282). -/
def State.orders (s : State) (f : Fld) (l : List Nat) (w : Word) (p : Bool) : Bool :=
  s.takes f.a (setBits f.lo 1 1 w) p && decide (cmdBits l (setBits f.lo 1 1 w) = [f.lo])

/-- The access of a 32-bit write of the management cores. -/
abbrev wrAcc (a : Nat) (v : Word) (p : Bool) : Access := ⟨a, true, v, 4, p, false, false, false⟩

/-- The state in which a register that is written acts: the access stands on the bus, and the key is consumed where the register
has one (R274, R280). -/
def State.atBus (s : State) (a : Nat) (v : Word) (p : Bool) : State := ({ s with bus := [wrAcc a v p] } : State).useKey a

/-- A register write in effect: the register acts, and the bus is free again. -/
def State.wrote (s : State) (a : Nat) (v : Word) (p : Bool) : State :=
  let s1 := (s.atBus a v p).regWrite (wrAcc a v p) a v
  { s1 with bus := s1.bus.drop 1 }

/-- The access of a 32-bit read of the management cores. -/
abbrev rdAcc (a : Nat) (p : Bool) : Access := ⟨a, false, 0, 4, p, false, false, false⟩

/-- The access of a read of the management cores, of any width (R275), with what a protected queue finds of its word (R295). -/
abbrev lookAcc (a : Nat) (r : BusRead) (corrected uncorr : Bool) : Access :=
  ⟨a + r.ofs, false, 0, r.bytes, r.p, false, corrected, uncorr⟩

/-- A read of any width in effect: it does what a read of the whole register does, and returns the bytes asked for (R275). -/
def State.gavePart (s : State) (a : Nat) (r : BusRead) (corrected uncorr : Bool) : State :=
  let x := lookAcc a r corrected uncorr
  let w := ({ s with bus := [x] } : State).regRead x a
  { w.2 with rdata := x.part w.1, bus := w.2.bus.drop 1 }

/-- A register read in effect: what it returns, what the read itself changes, and the bus free again. -/
def State.gave (s : State) (a : Nat) (p : Bool) : State :=
  let r := ({ s with bus := [rdAcc a p] } : State).regRead (rdAcc a p) a
  { r.2 with rdata := r.1, bus := r.2.bus.drop 1 }

/-- EVQ takes a record of source `src` at once, behind every other record: it has room, nothing waits in front of it, none
has been dropped, no record of this tick has a higher source number (R127), and its pointers agree (R294). -/
def State.evRoom (s : State) (src : Nat) : Bool :=
  s.q.evHold.isEmpty && !s.qFull 8 && decide (s.q.evDrop = 0) && decide (s.evBehind src = 0) &&
    !bitOf s.q.upset 8

/-- LOGQ takes a record at once (R324). -/
def State.logRoom (s : State) : Bool := s.q.logHold.isEmpty && !s.qFull 12 && decide (s.q.logDrop = 0)

/-- A queue's last record. -/
def State.lastRec (s : State) (i : Nat) : Option Rec := (s.getQ i).recs.getLast?

/-- The canonical form of the memories: addresses strictly rising, no entry equal to what an unlisted address reads as. -/
def Memory.wf (s : State) : Bool :=
  Sp.wf s.dramDef s.mem.dram && Sp.wf (fun _ => (0 : Byte)) s.mem.track && Sp.wf (fun _ => (0 : Word)) s.mem.course &&
    Sp.wf (fun _ => (0 : Word)) s.mem.dir && Sp.wf (fun _ => (0 : Word)) s.mem.prof && Sp.wf (fun _ => (0 : Word)) s.mem.pv &&
    Sp.wf (fun _ => (0 : Nat)) s.mem.wear && Sp.wf otpDef s.mem.otp && Sp.wf flashDef s.mem.flash

/-- No queue holds more records than its depth (R290), and one that a record is being written to has room for it; the same of the
transmit buffer of MIR_TX (R352). The holding buffers of EVQ and LOGQ keep their bounds (R127, R324), and no update frame is left in
UPDQ (log 18). -/
def State.queuesFit (s : State) : Bool :=
  (List.range 14).all (fun i => decide (s.level i ≤ qDepth i) &&
    ((s.getQ i).part.isEmpty || ((decide (i < 8) || decide (i = 10)) && decide (s.level i < qDepth i)))) &&
  decide (s.q.evHold.length ≤ 256) && decide (s.q.logHold.length ≤ 64) &&
  decide (s.mir.txBuf.length ≤ 8) && (s.mir.txPart.isEmpty || decide (s.mir.txBuf.length < 8)) &&
  s.mg.updHeld.isEmpty && s.mg.updWait.isEmpty && s.mg.updTags.isEmpty && decide (s.level 13 = 0)

/-- Registers that an event or a fault record may change as it enters its queue, waits or is lost (R127, R293, R294, R324). -/
def recordRegs : List Nat :=
  [F.GLB_ERR_QPTR_ERR.a, F.EVQ_LVL_XING.a, F.EVQ_LOST_LOST_COUNT.a, F.EVT_STAT_LOST.a, F.LOGQ_LVL_XING.a, F.LOGQ_LOST_LOST_COUNT.a,
    F.SUP_STAT_LOG_LOST.a]

/-- Of the queues, only what event and fault records touch differs: EVQ, LOGQ, what stands in front of them, AO_US, and the copies of
pointers that disagree. -/
def recordsOnly (a b : Qs) : Prop :=
  b = { a with evq := b.evq, evHold := b.evHold, evDrop := b.evDrop, evSrcs := b.evSrcs, evTb := b.evTb, evLast := b.evLast,
               logq := b.logq, logHold := b.logHold, logDrop := b.logDrop, logLast := b.logLast, aoUs := b.aoUs, upset := b.upset }

/-- The device is held: its clocks are stopped by freeze (R326), or it is in power-on reset's stage 1 and not ASLEEP (R308). -/
def State.heldStill (s : State) : Bool :=
  s.flag F.DBG_STAT_FROZEN || (s.sup.por && decide (s.fld F.SUP_STAT_STAGE = 1) && !s.flag F.DBG_STAT_ASLEEP)

/-- A command that may act on a device that is held (R308, R325, R326, R330, R391, R392): the freeze pin, its release, a
power-on reset, the test access port, and start-up. -/
def wakesHeld (c : Instr) : Bool :=
  match c with
  | .freezePin => true
  | .freezePinRelease => true
  | .release _ _ => true
  | .ringDataRead _ => true
  | .tapReset => true
  | .extest => true
  | .idcode => true
  | .samplePreload _ => true
  | .stateRing => true
  | .dbgAccess _ => true
  | .bypass _ => true
  | .porNLow => true
  | .brownOut => true
  | .startUp _ => true
  | _ => false

/-- The device is held, and no waiting command is one that may act on a held device. -/
def State.stands (s : State) : Bool := s.heldStill && s.pending.all (fun c => !wakesHeld c)

/-- The command ends a freeze: the device was frozen before it and is not after it. -/
def State.thawedBy (s : State) (c : Instr) : Bool :=
  s.flag F.DBG_STAT_FROZEN && (match exec c s with | .next t => !t.flag F.DBG_STAT_FROZEN | _ => false)

/-- The ways of R330: a rising edge of FREEZE_N with FRZ_REG 0; DBG_CTRL.RELEASE over JTAG with FREEZE_N high; the removal of
power. -/
def State.mayThaw (s : State) (c : Instr) : Bool :=
  match c with
  | .freezePinRelease => s.sup.frzLow && !s.flag F.DBG_STAT_FRZ_REG
  | .release _ _ => !s.sup.frzLow
  | .dbgAccess d => !s.sup.frzLow && decide (d.dr.toNat / 2 ^ 34 % 2 ^ 22 = 0x160004 / 4) && bitOf d.dr.toNat 56 && bitOf d.dr.toNat 0
  | .brownOut => true
  | .porNLow => true
  | _ => false

/-- An event has pulsed in the present tick. -/
def State.pulsed (s : State) (ev : Nat) : Bool := decide (s.ev.seenTick = s.tm.tb) && bitOf s.ev.seen ev

/-- The DRAM is configured as R227 and the fabric image allow: some channel enabled, an even number of them where the reserve is
mirrored, a size of at most 16 GiB a channel, and the reserve's share within the channel. -/
def State.dramSane (s : State) : Bool :=
  !s.enabled.isEmpty && (!s.flag F.DRAM_CFG_RES_MIRROR || decide (s.enabled.length % 2 = 0)) &&
    decide (s.fld F.DRAM_CFG_CH_SIZE ≤ 2) && decide (s.share + 65536 ≤ s.chSize)

/-- Events of the links and of flow control (R246–R249). -/
def netRow (c : Instr) : Bool :=
  match c with
  | .linkUp _ _ => true
  | .linkDown _ _ => true
  | .arpRequest _ _ _ => true
  | .neighbourSolicitation _ _ _ => true
  | .pauseFrame _ _ _ _ _ => true
  | .pauseTimeExpiry _ _ _ => true
  | .xoffRepeat _ => true
  | .frameDrop _ _ _ => true
  | _ => false

/-- Events of the Baton engine other than the commit of data and the rings' stream (R250–R267). -/
def batonRow (c : Instr) : Bool :=
  match c with
  | .badFrame _ _ _ => true
  | .openSession _ _ _ => true
  | .dataFrame _ _ _ => true
  | .closeSession _ _ _ => true
  | .batonQuery _ _ _ => true
  | .ackTimer _ => true
  | .sessionIdle _ => true
  | .grantSeg _ => true
  | .grantRegion _ => true
  | .revoke _ => true
  | .retire _ => true
  | .outDest _ => true
  | .batqMark _ => true
  | .outRec _ _ => true
  | _ => false

/-- Commands of BATQ (R267). The other rows of the Baton engine are those of its sessions and the outbound record frame. -/
def batqRow (c : Instr) : Bool :=
  match c with
  | .grantSeg _ => true
  | .grantRegion _ => true
  | .revoke _ => true
  | .retire _ => true
  | .outDest _ => true
  | .batqMark _ => true
  | _ => false

/-- The outbound record frame (R268): of the engine's rows the one that takes records of CAPQ. -/
def capqRow (c : Instr) : Bool :=
  match c with
  | .outRec _ _ => true
  | _ => false

/-- Events of the updater (R373–R378, R382). -/
def updateRow (c : Instr) : Bool :=
  match c with
  | .claim _ => true
  | .frag _ => true
  | .chunkProgrammed _ => true
  | .updAbort _ => true
  | .updRelease _ => true
  | .updQuery _ => true
  | .updateFrameDrop _ => true
  | .lockIdle => true
  | .verify _ => true
  | .verifyDone => true
  | .activate _ => true
  | .activateDone => true
  | _ => false

/-- Events of the clocks other than a fault (R36–R55). -/
def clockRow (c : Instr) : Bool :=
  match c with
  | .hopLock _ => true
  | .bandSearchLock _ => true
  | .hardRelockLock _ => true
  | .faultRelock _ => true
  | .hopTimeout => true
  | .hardRelockTimeout => true
  | .bandSearchTimeout => true
  | .bandMiss => true
  | .refLoss _ => true
  | .coastLong => true
  | .refBack _ _ _ => true
  | .softRelockDone => true
  | .realignHardRelock => true
  | _ => false

/-- No update frame stands in UPDQ or waits for room in it, and it has room for `f` (R382). -/
def State.updReady (s : State) (f : UpdFrame) : Bool :=
  s.mg.updHeld.isEmpty && s.mg.updWait.isEmpty && s.mg.updTags.isEmpty && s.updRoom f && decide (f.bytes.length < 2 ^ 16)

/-- Events of DRAM maintenance (R233–R238). -/
def dramRow (c : Instr) : Bool :=
  match c with
  | .owedRefresh _ => true
  | .refreshForced _ => true
  | .freeModeRefresh _ => true
  | .dramTempPoll _ _ => true
  | .powerDownEntry _ => true
  | .panicEntry _ _ => true
  | .panicExit _ _ => true
  | .resErr _ _ _ => true
  | .trackingDrift _ => true
  | _ => false

end Sys2Proof.Machine
end

