-- ==== Sys2Proof/WellFormed.lean ====
section
/-! DEFINITION. Which commands are well formed: operands that the width of their type does not bound (R275, R310, R317, R319,
R328, R329, R339, R352). -/

namespace Sys2Proof

/-- A yield has its rungs in order, a resource of R163, and an index of a byte. -/
def yieldOk (y : YieldReport) : Bool :=
  decide (1 ≤ y.win) && decide (y.win < y.lose) && decide (y.lose ≤ 6) && decide (y.res ≤ 3) && decide (y.idx ≤ 255)

/-- A read takes 8, 16 or 32 bits of one register, aligned to their width (R275). -/
def readOk (r : BusRead) : Bool :=
  (decide (r.bytes = 1) || decide (r.bytes = 2) || decide (r.bytes = 4)) && decide (r.ofs % max r.bytes 1 = 0) && decide (r.ofs < 4)

/-- A command's operands are such as the device can meet. `exec` gives every command a meaning, well formed or not. -/
def Instr.wf (i : Instr) : Bool :=
  match i with
  | .registerWrite a _ bytes _ => (decide (bytes = 1) || decide (bytes = 2) || decide (bytes = 4)) && decide (a.toNat % bytes = 0)
  | .busTimeout => true
  | .glbKeyWrite _ _ => true
  | .keyExpiry => true
  | .mailboxRead _ _ => true
  | .mailboxWrite _ _ => true
  | .mailboxTimeout => true
  | .updateStrobe _ _ => true
  | .strobeEffect => true
  | .pvWrite _ _ _ => true
  | .prog _ _ => true
  | .progDone _ => true
  | .fabricLoad _ _ => true
  | .fabricApplied => true
  | .refLoss _ => true
  | .coastLong => true
  | .refQualified _ => true
  | .refBack _ _ us => decide (us < 2 ^ 32)
  | .realignHardRelock => true
  | .softGo _ _ => true
  | .softRelockDone => true
  | .hop _ _ => true
  | .hopLock _ => true
  | .hopTimeout => true
  | .bandSearch _ _ => true
  | .bandSearchLock _ => true
  | .bandSearchTimeout => true
  | .bandMiss => true
  | .bandSave _ _ => true
  | .hardRelock _ _ => true
  | .hardRelockLock _ => true
  | .unlock _ => true
  | .faultRelock _ => true
  | .refSelWrite _ _ => true
  | .starterEdge _ refPhase missed => decide (refPhase.toNat + 10000 * (if missed then 1 else 0) < 16384) && decide (refPhase.toNat < 10000)
  | .startTick => true
  | .loadNow _ _ => true
  | .alarm _ => true
  | .triggerEdge _ _ _ _ => true
  | .evtSwPulse _ _ _ => true
  | .evtSwLevel _ _ _ => true
  | .eventHop _ => true
  | .pennantFire _ => true
  | .pennantPulseEnd _ => true
  | .evqLostRecord => true
  | .evqRead r _ => readOk r
  | .start _ _ => true
  | .heatStart => true
  | .pause _ _ => true
  | .resume _ _ => true
  | .resumption => true
  | .abort _ _ => true
  | .cmdqWordWrite _ _ _ _ => true
  | .stop _ => true
  | .stopTakesEffect _ => true
  | .latchClr _ => true
  | .holdEnd _ => true
  | .mark _ => true
  | .commitDecision _ => true
  | .exchange _ => true
  | .lapEnd _ => true
  | .fallback _ => true
  | .holdReady _ => true
  | .holdResume _ => true
  | .holdLimit _ => true
  | .underrun _ _ missing => decide (1 ≤ missing)
  | .seqEcc _ _ _ => true
  | .lateWake _ _ => true
  | .wakeRecord => true
  | .crsRead _ _ => true
  | .crsWrite _ _ => true
  | .segdRead _ _ => true
  | .setReady _ _ => true
  | .clrReady _ _ => true
  | .segwRead r => readOk r
  | .segwWrite _ _ => true
  | .load _ _ => true
  | .writePass => true
  | .unload _ _ => true
  | .timelineRow r => r.others.all (fun y => yieldOk y && decide (1 ≤ y.res))
  | .blockCopyDone _ => true
  | .lateCopy _ => true
  | .fineTrimWrite _ _ _ => true
  | .bwWrite _ _ _ => true
  | .profileRead _ _ _ => true
  | .profileWrite _ _ _ => true
  | .calRun _ _ _ => true
  | .calDone _ _ _ => true
  | .calSave _ _ _ => true
  | .rbRun _ _ _ => true
  | .rbDone _ _ => true
  | .pinTrimWrite _ _ _ _ => true
  | .compareReport _ _ _ => true
  | .failRecordEnter => true
  | .summary _ => true
  | .spanClose _ _ => true
  | .ringRdWrite _ _ _ => true
  | .ringSizeWrite _ _ _ => true
  | .capqRead x => readOk x.p
  | .trackWindowRead r => readOk r
  | .trackWindowWrite _ _ _ => true
  | .bankRetention _ => true
  | .bankWake _ => true
  | .panicEntry _ _ => true
  | .panicExit _ _ => true
  | .owedRefresh _ => true
  | .refreshForced _ => true
  | .dramTempPoll mult beyond => decide (mult.length = 8) && decide (beyond.length = 8)
  | .selfRefreshEntry _ => true
  | .selfRefreshExit _ => true
  | .powerDownEntry _ => true
  | .train _ _ => true
  | .trainDone ok => decide (ok.length = 8)
  | .retrain _ _ => true
  | .trackingDrift _ => true
  | .retrainDone _ _ _ => true
  | .unfence _ _ _ => true
  | .dramSave _ _ => true
  | .resErr _ _ _ => true
  | .portEnable _ _ _ => true
  | .portDisable _ _ _ => true
  | .modeChange _ _ _ => true
  | .portReady _ => true
  | .batonReady => true
  | .linkUp _ _ => true
  | .arpRequest _ _ _ => true
  | .neighbourSolicitation _ _ _ => true
  | .pauseFrame _ _ _ _ _ => true
  | .frameDrop _ _ _ => true
  | .xoffRepeat _ => true
  | .badFrame _ _ _ => true
  | .openSession _ _ _ => true
  | .dataFrame _ _ _ => true
  | .closeSession _ _ _ => true
  | .batonQuery _ _ _ => true
  | .dataCommit _ => true
  | .ackTimer _ => true
  | .sessionIdle _ => true
  | .batqWordWrite _ _ => true
  | .grantSeg _ => true
  | .grantRegion _ => true
  | .revoke _ => true
  | .retire _ => true
  | .outDest _ => true
  | .batqMark _ => true
  | .engineDisable _ _ => true
  | .outRec _ _ => true
  | .outRing _ => true
  | .startUp e => decide (e.density.length = 8) && decide (e.trained.length = 8) && decide (e.rails.length = 13) && decide (e.codes.length = 64)
  | .brownOut => true
  | .warm _ _ => true
  | .sleep _ _ => true
  | .enterAsleep => true
  | .sleepTimeout => true
  | .wakePin => true
  | .wakeTimer => true
  | .wakeJtag => true
  | .domainWake _ _ => true
  | .domainReady _ _ => true
  | .domainWakeTimeout => true
  | .domainSleep _ _ => true
  | .sensorConversion temps => decide (temps.length = 16)
  | .trip _ temp => decide (960 ≤ temp)
  | .bridge _ => true
  | .supplyCheck _ _ => true
  | .supplyCheckDone mv => decide (mv.length = 13)
  | .logqLostRecord => true
  | .logqRead r _ _ => readOk r
  | .freezePin => true
  | .freeze _ _ => true
  | .freezePinRelease => true
  | .release _ _ => true
  | .ringDataRead r => readOk r
  | .tapReset => true
  | .extest => true
  | .idcode => true
  | .samplePreload _ => true
  | .stateRing => true
  | .dbgAccess d => decide (d.dr.toNat < 2 ^ 57)
  | .bypass op => !([0x00, 0x01, 0x02, 0x20, 0x21].contains op.toNat)
  | .align _ _ => true
  | .cal _ _ => true
  | .calComplete _ => true
  | .syncSave _ _ => true
  | .roleWrite _ _ => true
  | .mirrorLinkUp _ _ => true
  | .heartbeatSend => true
  | .identSend => true
  | .ident _ => true
  | .heartbeat _ _ _ _ => true
  | .decision _ => true
  | .decisionTimeout _ => true
  | .lapMarkSend => true
  | .lapMark _ => true
  | .mirFault _ _ => true
  | .heartbeatLost => true
  | .take => true
  | .takeover _ _ => true
  | .takeoverTick _ => true
  | .outEnRise => true
  | .mirTxWordWrite _ _ => true
  | .msg words => decide (words.length = 8)
  | .mirqRead r _ => readOk r
  | .mgmtRxFrame f _ => decide (14 ≤ f.bytes.length)
  | .txGo _ _ => true
  | .mgmtTxDone => true
  | .mdioGo _ _ => true
  | .mdioDone _ => true
  | .claim _ => true
  | .frag _ => true
  | .chunkProgrammed _ => true
  | .verify _ => true
  | .verifyDone => true
  | .activate _ => true
  | .updAbort _ => true
  | .updRelease _ => true
  | .updQuery _ => true
  | .mirUpdFrame _ => true
  | .lockIdle => true
  | .confirm _ _ => true
  | .revert _ _ => true
  | .breakLock _ _ => true
  | .tftpWriteRequest _ => true
  | .tftpData _ => true
  | .tftpTimeout => true
  | .recoverySample _ => true
  | .porNLow => true
  | .linkDown _ _ => true
  | .mirrorLinkDown => true
  | .mgmtLinkChange _ _ => true
  | .pauseTimeExpiry _ _ _ => true
  | .saveWordCommit => true
  | .activateDone => true
  | .alignDone trims => decide (trims.length = 352)
  | .hardRelockTimeout => true
  | .freeModeRefresh x => x.waited.all yieldOk
  | .updateFrameDrop _ => true
  | .mirrorCrcDrop => true
  | .recoveryArp _ => true

end Sys2Proof
end

