-- ==== Sys2Proof/Certificates/Slice0/Obligations.lean ====
section
/-! DEFINITION. What is claimed of the model: the statements for the provers, by their names in OBLIGATIONS.json. -/

open Sys2Proof Sys2Proof.Machine

/-- A register write that passes the checks acts under its field types; the key and the mailbox act as their rules say (R13,
R276, R280, R286, R287). -/
def Obligations.RegisterWritesAct : Prop :=
  (∀ (s : State) (w : Word) (p : Bool) (n : Fin 16), s.takes (0x30200 + 4 * n.val) w p = true → Runs (.registerWrite
    (BitVec.ofNat 24 (0x30200 + 4 * n.val)) w 4 p) s fun t => getBits 0 8 (t.rd (0x30200 + 4 * n.val)) = getBits 0 8 w ∧
    getBits 8 24 (t.rd (0x30200 + 4 * n.val)) = getBits 8 24 (s.rd (0x30200 + 4 * n.val)) ∧ t.bus = []) ∧
  (∀ (s : State) (w : Word) (p : Bool), s.takes 0x54 w p = true → Runs (.registerWrite 0x54#24 w 4 p) s fun t => getBits 0
    7 (t.rd 0x54) = getBits 0 7 (s.rd 0x54 &&& ~~~w) ∧ t.fld F.GLB_ERR_ERR_COUNT = getBits 16 16 w ∧ t.fld F.GLB_ERR_Q_IDX =
    s.fld F.GLB_ERR_Q_IDX) ∧
  (∀ (s : State) (w : Word) (p : Bool), s.takes 0x10 w p = true → Runs (.glbKeyWrite w p) s fun t => t.rd 0x10 = w ∧
    (t.armed = true ↔ w = 0x0000C41A#32)) ∧
  (∀ (s : State), s.live = true → s.armed = true → Runs .keyExpiry s fun t => t.armed = false ∧ t.mem = s.mem) ∧
  (∀ (s : State) (p : Bool), s.takes 0x20 0x00000400#32 p = true → s.awake 2 = true → Runs (.mailboxRead 0x0400#16 p) s fun
    t => t.rd 0x28 = BitVec.ofNat 32 s.tm.tb ∧ t.rd 0x2C = BitVec.ofNat 32 (s.tm.tb / 2 ^ 32) ∧ t.fld F.MBX_STAT_VALID = 1 ∧
    t.fld F.MBX_STAT_BUSY = 0 ∧ t.fld F.MBX_STAT_STATUS = stOk) ∧
  (∀ (s : State) (p : Bool), s.takes 0x20 0x00010401#32 p = true → s.awake 2 = true → Runs (.mailboxWrite 0x0401#16 p) s
    fun t => t.getSel 0x0401 = (s.rd 0x28).toNat + 2 ^ 32 * (s.rd 0x2C).toNat ∧ t.fld F.MBX_STAT_VALID = 0 ∧ t.fld
    F.MBX_STAT_BUSY = 0 ∧ t.fld F.MBX_STAT_STATUS = stOk) ∧
  (∀ (s : State), s.live = true → s.flag F.MBX_STAT_BUSY = true → Runs .mailboxTimeout s fun t => t.fld F.MBX_STAT_STATUS =
    stTimeout ∧ t.fld F.MBX_STAT_BUSY = 0 ∧ t.fld F.MBX_STAT_VALID = 0 ∧ t.fld F.GLB_ERR_BUS_TIMEOUT = 1) ∧
  (∀ (s : State), s.live = true → s.flag F.MBX_STAT_BUSY = false → s.bus = [rdAcc 0x30040 true] → s.awake 2 = true →
    s.q.evq.recs = [] → Runs .busTimeout s fun t => t.bus = [] ∧ t.rdata = 0 ∧ t.fld F.GLB_ERR_BUS_TIMEOUT = 1 ∧ t.rd 0x50 =
    BitVec.ofNat 32 (0x30040 + 2 ^ 24 * 3 + 2 ^ 29))

/-- Persistent words, one-time words, hardware saves and the fabric image (R36, R300, R301, R303, R304, R307). -/
def Obligations.CellsAndFabric : Prop :=
  (∀ (s : State) (w : Word) (p : Bool) (i : Fin 8160), s.takes (0x100100 + 4 * i.val) w p = true → pvReadOnly i.val = false
    → s.pvWord i.val ≠ w → pvEnc i.val w = true → s.pvWorn i.val = false → Runs (.pvWrite i w p) s fun t => t.pvWord i.val =
    w ∧ t.pvWear (pvPhys (s.fld F.PV_STAT_HALF) i.val) = s.pvWear (pvPhys (s.fld F.PV_STAT_HALF) i.val) + 1 ∧ t.fld
    F.PV_STAT_LAST_STATUS = stOk) ∧
  (∀ (s : State) (w : Word) (p : Bool), s.orders F.OTP_CMD_PROG [0] w p = true → s.flag F.OTP_CMD_BUSY = false → otpUser
    (s.fld F.OTP_ADDR_WORD) = true → s.otpWord (s.fld F.OTP_ADDR_WORD) = 0 → s.mem.otpLock.contains (s.fld F.OTP_ADDR_WORD)
    = false → Runs (.prog w p) s fun t => t.fld F.OTP_CMD_BUSY = 1 ∧ t.mem.otpJob = some (s.fld F.OTP_ADDR_WORD, s.rd
    0x100018) ∧ t.armed = false) ∧
  (∀ (s : State) (v : Word) (k : Nat), s.live = true → s.mem.otpJob = some (k, v) → Runs (.progDone v) s fun t => t.otpWord
    k = v ∧ t.fld F.OTP_CMD_BUSY = 0 ∧ t.fld F.OTP_CMD_STATUS = stOk ∧ t.mem.otpJob = none) ∧
  (∀ (s : State) (w : Word) (p : Bool) (e : Nat) (l : List (Nat × Word)), s.orders F.CLK_BAND_BAND_SAVE [14] w p = true →
    s.clkBusy = false → e = min (getBits 0 5 w) 16 → (l =
    [(328 + 2 * e, s.bandWord (2 * e)), (329 + 2 * e, s.bandWord (2 * e + 1))].filter (fun x => decide (s.pvWord x.1 ≠
    x.2))) → l ≠ [] → (l.any (fun x => s.pvWorn x.1) = false) → Runs (.bandSave w p) s fun t => t.fld F.CLK_STAT_CMD_BUSY =
    1 ∧ t.clk = { s.clk with cmd := .save } ∧ t.saves = s.saves ++
    [⟨F.CLK_STAT_CMD_BUSY.a, F.CLK_STAT_CMD_BUSY.lo, F.CLK_STAT_CMD_STATUS.a, F.CLK_STAT_CMD_STATUS.lo, l⟩] ∧ t.mem = s.mem) ∧
  (∀ (s : State) (j : SaveJob) (rest : List SaveJob) (i : Nat) (v : Word) (y : Nat × Word) (more : List (Nat × Word)),
    s.live = true → s.saves = j :: rest → j.todo = (i, v) :: y :: more → s.pvWord i ≠ v → s.pvWorn i = false → Runs
    .saveWordCommit s fun t => t.pvWord i = v ∧ t.pvWear (pvPhys (s.fld F.PV_STAT_HALF) i) = s.pvWear (pvPhys (s.fld
    F.PV_STAT_HALF) i) + 1 ∧ t.saves = { j with todo := y :: more } :: rest) ∧
  (∀ (s : State) (i : Nat) (v : Word), s.live = true → s.saves =
    [⟨F.CLK_STAT_CMD_BUSY.a, F.CLK_STAT_CMD_BUSY.lo, F.CLK_STAT_CMD_STATUS.a, F.CLK_STAT_CMD_STATUS.lo, [(i, v)]⟩] →
    s.pvWorn i = false → Runs .saveWordCommit s fun t => t.pvWord i = v ∧ t.saves = [] ∧ t.fld F.CLK_STAT_CMD_BUSY = 0 ∧
    t.fld F.CLK_STAT_CMD_STATUS = stOk) ∧
  (∀ (s : State) (j : SaveJob) (rest : List SaveJob) (i : Nat) (v : Word) (y : Nat × Word) (more : List (Nat × Word)),
    s.live = true → s.saves = j :: rest → j.todo = (i, v) :: y :: more → (s.pvWord i = v ∨ s.pvWorn i = true) → Runs
    .saveWordCommit s fun t => t.mem = s.mem ∧ t.saves = { j with todo := y :: more } :: rest ∧ (s.pvWord i ≠ v → t.flag
    F.PV_STAT_PV_WORN = true ∧ t.fld F.PV_WORN_ADDR_INDEX = i % 8192)) ∧
  (∀ (s : State) (w : Word) (p : Bool) (u : State), s.orders F.FABRIC_CTRL_LOAD [0] w p = true → u = s.atBus
    F.FABRIC_CTRL_LOAD.a (setBits 0 1 1 w) p → u.flag F.FABRIC_STAT_BUSY = false → u.anyActive = false → u.fld
    F.FABRIC_LEN_LEN ≤ 65536 → u.getSel 0x5401 % 64 = 0 → u.getSel 0x5401 + u.fld F.FABRIC_LEN_LEN ≤ u.resBytes →
    u.dramReach (u.getSel 0x5401) (u.fld F.FABRIC_LEN_LEN) = u → u.rangeWaits (u.getSel 0x5401) (u.fld F.FABRIC_LEN_LEN) =
    false → u.fabCheck (u.dramBytes (u.getSel 0x5401) (u.fld F.FABRIC_LEN_LEN)) (u.fld F.FABRIC_LEN_LEN) = none →
    u.fabDramSame (u.dramBytes (u.getSel 0x5401) (u.fld F.FABRIC_LEN_LEN)) = true → Runs (.fabricLoad w p) s fun t => t.fld
    F.FABRIC_STAT_BUSY = 1 ∧ t.fld F.FABRIC_STAT_PHASE = 2 ∧ t.fab = u.dramBytes (u.getSel 0x5401) (u.fld F.FABRIC_LEN_LEN)) ∧
  (∀ (s : State), s.live = true → s.flag F.FABRIC_STAT_BUSY = true → s.fld F.FABRIC_STAT_PHASE = 2 → Runs .fabricApplied s
    fun t => t.fld F.FABRIC_STAT_BUSY = 0 ∧ t.fld F.FABRIC_STAT_PHASE = 0 ∧ t.fld F.FABRIC_STAT_STATUS = stOk ∧ t.fld
    F.FABRIC_STAT_LOADED = 1 ∧ t.fld F.FABRIC_STAT_DEFAULT = 0 ∧ t.fld F.FABRIC_UNITS_CLUSTERS = fabByte s.fab 1 0 ∧ t.fld
    F.FABRIC_UNITS_BANKS = fabByte s.fab 1 1 % 16 ∧ t.fld F.FABRIC_UNITS_QPRIV = fabByte s.fab 6 0 % 16 ∧ t.fld
    F.DRAM_CFG_MAP_ORDER = fabByte s.fab 5 2 % 8 ∧ t.getSel 0x5400 = leField s.fab 16 8 % 2 ^ 64)

/-- A hop, a band search, a hard relock and a change of REF_SEL hand the outputs to the hold path, hold the timebase and
relock the PLL (R38, R39, R44, R54, R55). That a relock's hold leaves the number which a held timebase reads, and to which N
a hard relock goes after a hop that has timed out, are the model's choices (log 33). -/
def Obligations.RelocksBegin : Prop :=
  (∀ (s : State) (w : Word) (p : Bool), s.orders F.CLK_PLL_HOP [16, 17, 18, 19] w p = true → s.clkBusy = false →
    s.anyActive = false → s.fld F.CLK_STAT_LOCK = 1 → s.fld F.CLK_STAT_COAST = 0 → Runs (.hop w p) s fun t => t.fld
    F.CLK_STAT_CMD_BUSY = 1 ∧ t.clk.cmd = .hop ∧ t.clk.relock = .hop ∧ t.clk.target =
    (if 64 ≤ getBits 0 7 w ∧ getBits 0 7 w ≤ 80 then getBits 0 7 w else s.fld F.CLK_PLL_PLAN_N) ∧ t.tm.tb = s.tm.tb ∧ t.fld
    F.CLK_STAT_LOCK = 0 ∧ t.fld F.TB_STAT_COUNTING = 0 ∧ (s.fld F.TB_STAT_COUNTING = 1 → t.fld F.TB_STAT_HALTED = 1) ∧ (∀ n
    : Fin 64, t.fld (F.FC_STAT_ON_HOLD n.val) = 1) ∧ (∀ n : Fin 128, t.fld (F.VP_STAT_ON_HOLD n.val) = 1)) ∧
  (∀ (s : State) (w : Word) (p : Bool), s.orders F.CLK_PLL_BAND_SEARCH [16, 17, 18, 19] w p = true → s.clkBusy = false →
    s.anyActive = false → s.fld F.CLK_STAT_LOCK = 1 → s.fld F.CLK_STAT_COAST = 0 → s.fld F.CLK_STAT_REF_VALID = 1 → Runs
    (.bandSearch w p) s fun t => t.fld F.CLK_STAT_CMD_BUSY = 1 ∧ t.clk.cmd = .search ∧ t.clk.relock = .search ∧ t.clk.cold =
    true ∧ (s.clk.lockN ≠ 0 → t.clk.target = s.clk.lockN) ∧ t.fld F.CLK_STAT_LOCK = 0 ∧ t.fld F.TB_STAT_COUNTING = 0 ∧
    (s.fld F.TB_STAT_COUNTING = 1 → t.fld F.TB_STAT_HALTED = 1) ∧ (∀ n : Fin 64, t.fld (F.FC_STAT_ON_HOLD n.val) = 1) ∧ (∀ n
    : Fin 128, t.fld (F.VP_STAT_ON_HOLD n.val) = 1)) ∧
  (∀ (s : State) (w : Word) (p : Bool), s.orders F.CLK_PLL_HARD_RELOCK [16, 17, 18, 19] w p = true → s.clkBusy = false →
    s.fld F.CLK_STAT_REF_VALID = 1 → Runs (.hardRelock w p) s fun t => t.fld F.CLK_STAT_CMD_BUSY = 1 ∧ t.clk.cmd = .hard ∧
    t.clk.relock = .hard ∧ (s.clk.lockN ≠ 0 → t.clk.target = s.clk.lockN) ∧ (s.fld F.SEQ_STAT_HEAT = 3 → t.fld
    F.SEQ_STAT_HEAT = 4) ∧ t.tm.tb = s.tm.tb ∧ t.fld F.CLK_STAT_LOCK = 0 ∧ t.fld F.TB_STAT_COUNTING = 0 ∧ (s.fld
    F.TB_STAT_COUNTING = 1 → t.fld F.TB_STAT_HALTED = 1) ∧ (∀ n : Fin 64, t.fld (F.FC_STAT_ON_HOLD n.val) = 1) ∧ (∀ n : Fin
    128, t.fld (F.VP_STAT_ON_HOLD n.val) = 1)) ∧
  (∀ (s : State) (w : Word) (p : Bool), s.takes 0x10000 w p = true → s.fld F.CLK_REF_REF_SEL ≠ getBits 0 2 w → s.anyActive
    = false → s.clkBusy = false → s.clk.lockN ≠ 0 → Does (.refSelWrite w p) s fun t => t.fld F.CLK_REF_REF_SEL = getBits 0 2
    w ∧ t.fld F.CLK_STAT_CMD_BUSY = 1 ∧ t.clk.relock = .refSel ∧ t.clk.target = s.clk.lockN ∧ t.fld F.CLK_STAT_LOCK = 0 ∧
    t.fld F.TB_STAT_COUNTING = 0 ∧ (s.fld F.TB_STAT_COUNTING = 1 → t.fld F.TB_STAT_HALTED = 1) ∧ (∀ n : Fin 64, t.fld
    (F.FC_STAT_ON_HOLD n.val) = 1) ∧ (∀ n : Fin 128, t.fld (F.VP_STAT_ON_HOLD n.val) = 1)) ∧
  (∀ (s : State) (w : Word) (p : Bool), s.takes 0x10000 w p = true → (s.fld F.CLK_REF_REF_SEL = getBits 0 2 w ∨
    (s.anyActive = false ∧ s.clkBusy = false ∧ s.clk.lockN = 0)) → Does (.refSelWrite w p) s fun t => t.fld
    F.CLK_REF_REF_SEL = getBits 0 2 w ∧ t.fld F.CLK_REF_RET_POLICY = getBits 4 2 w ∧ t.clk = s.clk ∧ t.tm = s.tm ∧ t.fld
    F.CLK_STAT_LOCK = s.fld F.CLK_STAT_LOCK) ∧
  (∀ (s : State) (w : Word) (p : Bool), s.takes 0x10000 w p = true → s.fld F.CLK_REF_REF_SEL ≠ getBits 0 2 w → s.anyActive
    = true → Does (.refSelWrite w p) s fun t => t.fld F.CLK_REF_REF_SEL = s.fld F.CLK_REF_REF_SEL ∧ t.fld
    F.CLK_STAT_CMD_STATUS = stState ∧ t.clk = s.clk ∧ t.tm = s.tm) ∧
  (∀ (s : State) (w : Word) (p : Bool), s.takes 0x10000 w p = true → s.fld F.CLK_REF_REF_SEL ≠ getBits 0 2 w → s.anyActive
    = false → s.clkBusy = true → Does (.refSelWrite w p) s fun t => t.fld F.CLK_REF_REF_SEL = s.fld F.CLK_REF_REF_SEL ∧
    t.fld F.CLK_STAT_CMD_STATUS = stBusy ∧ t.clk = s.clk ∧ t.tm = s.tm) ∧
  (∀ (s : State) (w : Word) (p : Bool), s.orders F.CLK_PLL_HOP [16, 17, 18, 19] w p = true → s.clkBusy = false →
    (s.anyActive = true ∨ s.fld F.CLK_STAT_LOCK = 0 ∨ s.fld F.CLK_STAT_COAST = 1) → Runs (.hop w p) s fun t => t.fld
    F.CLK_STAT_CMD_STATUS = stState ∧ t.clk = s.clk ∧ t.tm = s.tm ∧ t.fld F.CLK_STAT_LOCK = s.fld F.CLK_STAT_LOCK) ∧
  (∀ (s : State) (w : Word) (p : Bool), s.orders F.CLK_PLL_BAND_SEARCH [16, 17, 18, 19] w p = true → s.clkBusy = false →
    (s.anyActive = true ∨ s.fld F.CLK_STAT_LOCK = 0 ∨ s.fld F.CLK_STAT_REF_VALID = 0 ∨ s.fld F.CLK_STAT_COAST = 1) → Runs
    (.bandSearch w p) s fun t => t.fld F.CLK_STAT_CMD_STATUS = stState ∧ t.clk = s.clk ∧ t.tm = s.tm) ∧
  (∀ (s : State) (w : Word) (p : Bool), s.orders F.CLK_PLL_HARD_RELOCK [16, 17, 18, 19] w p = true → s.clkBusy = false →
    s.fld F.CLK_STAT_REF_VALID = 0 → Runs (.hardRelock w p) s fun t => t.fld F.CLK_STAT_CMD_STATUS = stState ∧ t.clk = s.clk
    ∧ t.tm = s.tm)

/-- A relock locks, is late, or misses its band entry (R34, R36, R37, R38, R39, R44, R54, R55, R322). Byte 9 of the HOP
record of a lock that comes after its command's TIMEOUT is the model's reading (DEDUCED, log 33). -/
def Obligations.RelocksEnd : Prop :=
  (∀ (s : State) (l : LockInfo), s.live = true → s.clk.relock = .hop → s.fld F.CLK_STAT_REF_VALID = 1 → s.tm.load = none →
    Does (.hopLock l) s fun t => t.clk.relock = .none ∧ t.clk.lockN = s.clk.target ∧ t.fld F.TB_STAT_COUNTING = 1 ∧ t.fld
    F.TB_STAT_HALTED = 0 ∧ t.fld F.CLK_STAT_COAST = 0 ∧ (bitOf s.sup.stay 1 = true → t.fld F.CLK_STAT_LOCK = 1) ∧ t.fld
    F.TB_STAT_TB_ALIGN = l.align.toNat % max (alignPeriod s.clk.target) 1 ∧ (s.clk.late = false → t.fld
    F.CLK_STAT_CMD_STATUS = stOk ∧ t.fld F.CLK_STAT_CMD_BUSY = 0) ∧ t.fld F.CLK_LOSS_CNT_RELOCK_COUNT = min (s.fld
    F.CLK_LOSS_CNT_RELOCK_COUNT + 1) 65535 ∧
    (s.evRoom 0x11 = true → t.lastRec 8 = some (evRec s.tm.tb 0x11 0x05 (s.clk.target + 2 ^ 8 * (if s.clk.late then stTimeout else stOk))))) ∧
  (∀ (s : State) (l : LockInfo), s.live = true → s.clk.relock = .search → s.fld F.CLK_STAT_REF_VALID = 1 → s.tm.load = none
    → Does (.bandSearchLock l) s fun t => t.clk.relock = .none ∧ t.clk.lockN = s.clk.target ∧ t.fld F.TB_STAT_COUNTING = 1 ∧
    t.fld F.TB_STAT_HALTED = 0 ∧ t.fld F.CLK_STAT_COAST = 0 ∧ (bitOf s.sup.stay 1 = true → t.fld F.CLK_STAT_LOCK = 1) ∧
    t.fld F.TB_STAT_TB_ALIGN = l.align.toNat % max (alignPeriod s.clk.target) 1 ∧ (s.clk.late = false → t.fld
    F.CLK_STAT_CMD_STATUS = stOk ∧ t.fld F.CLK_STAT_CMD_BUSY = 0) ∧ t.fld F.CLK_LOSS_CNT_RELOCK_COUNT = min (s.fld
    F.CLK_LOSS_CNT_RELOCK_COUNT + 1) 65535 ∧
    (s.evRoom 0x11 = true → t.lastRec 8 = some (evRec s.tm.tb 0x11 0x05 (s.clk.target + 2 ^ 8 * (if s.clk.late then stTimeout else stOk))))
    ∧ (s.clk.cold = true → getBits 0 6 (t.bandWord (2 * (s.clk.target - 64))) = l.code.toNat ∧ getBits 16 1 (t.bandWord (2 *
    (s.clk.target - 64))) = 1 ∧ getBits 0 20 (t.bandWord (2 * (s.clk.target - 64) + 1)) = l.seed.toNat)) ∧
  (∀ (s : State) (l : LockInfo), s.live = true → (s.clk.relock = .hard ∨ s.clk.relock = .refSel) → s.fld
    F.CLK_STAT_REF_VALID = 1 → s.tm.load = none → Does (.hardRelockLock l) s fun t => t.clk.relock = .none ∧ t.clk.lockN =
    s.clk.target ∧ t.fld F.TB_STAT_COUNTING = 1 ∧ t.fld F.TB_STAT_HALTED = 0 ∧ t.fld F.CLK_STAT_COAST = 0 ∧ (bitOf
    s.sup.stay 1 = true → t.fld F.CLK_STAT_LOCK = 1) ∧ t.fld F.TB_STAT_TB_ALIGN = l.align.toNat % max (alignPeriod
    s.clk.target) 1 ∧ (s.clk.late = false → t.fld F.CLK_STAT_CMD_STATUS = stOk ∧ t.fld F.CLK_STAT_CMD_BUSY = 0) ∧ t.fld
    F.CLK_LOSS_CNT_RELOCK_COUNT = min (s.fld F.CLK_LOSS_CNT_RELOCK_COUNT + 1) 65535 ∧ (s.evRoom 0x11 = true → t.lastRec 8 =
    some (evRec s.tm.tb 0x11 0x03 (1)))) ∧
  (∀ (s : State) (l : LockInfo), s.live = true → s.clk.relock = .realign → s.fld F.CLK_STAT_REF_VALID = 1 → s.tm.load =
    none → Does (.hardRelockLock l) s fun t => t.clk.relock = .none ∧ t.clk.lockN = s.clk.target ∧ t.fld F.TB_STAT_COUNTING
    = 1 ∧ t.fld F.TB_STAT_HALTED = 0 ∧ t.fld F.CLK_STAT_COAST = 0 ∧ (bitOf s.sup.stay 1 = true → t.fld F.CLK_STAT_LOCK = 1)
    ∧ t.fld F.TB_STAT_TB_ALIGN = l.align.toNat % max (alignPeriod s.clk.target) 1 ∧ (s.evRoom 0x11 = true → t.lastRec 8 =
    some (evRec s.tm.tb 0x11 0x03 (1)))) ∧
  (∀ (s : State) (l : LockInfo), s.live = true → s.clk.relock = .fault → s.fld F.CLK_STAT_REF_VALID = 1 → s.tm.load = none
    → Does (.faultRelock l) s fun t => t.clk.relock = .none ∧ t.clk.lockN = s.clk.target ∧ t.fld F.TB_STAT_COUNTING = 1 ∧
    t.fld F.TB_STAT_HALTED = 0 ∧ t.fld F.CLK_STAT_COAST = 0 ∧ (bitOf s.sup.stay 1 = true → t.fld F.CLK_STAT_LOCK = 1) ∧
    t.fld F.TB_STAT_TB_ALIGN = l.align.toNat % max (alignPeriod s.clk.target) 1 ∧ (s.evRoom 0x11 = true → t.lastRec 8 = some
    (evRec s.tm.tb 0x11 0x03 (2)))) ∧
  (∀ (s : State) (l : LockInfo) (v : Nat), s.live = true → s.clk.relock = .fault → s.fld F.CLK_STAT_REF_VALID = 1 →
    s.tm.load = some v → Does (.faultRelock l) s fun t => t.tm.tb = v % 2 ^ 64 ∧ t.tm.load = none ∧ t.fld F.TB_STAT_COUNTING
    = 1 ∧ t.clk.relock = .none ∧ t.clk.lockN = s.clk.target) ∧
  (∀ (s : State), s.live = true → s.clk.cmd = .hop → Runs .hopTimeout s fun t => t.fld F.CLK_STAT_CMD_STATUS = stTimeout ∧
    t.fld F.CLK_STAT_CMD_BUSY = 0 ∧ t.clk.relock = s.clk.relock ∧ t.clk.late = true ∧ t.clk.cmd = .idle) ∧
  (∀ (s : State), s.live = true → (s.clk.cmd = .hard ∨ s.clk.cmd = .refSel) → Runs .hardRelockTimeout s fun t => t.fld
    F.CLK_STAT_CMD_STATUS = stTimeout ∧ t.fld F.CLK_STAT_CMD_BUSY = 0 ∧ t.clk.relock = s.clk.relock ∧ t.clk.late = true ∧
    t.clk.cmd = .idle) ∧
  (∀ (s : State), s.live = true → s.clk.cmd = .search → Runs .bandSearchTimeout s fun t => t.fld F.CLK_STAT_CMD_STATUS =
    stTimeout ∧ t.fld F.CLK_STAT_CMD_BUSY = 0 ∧ t.clk.relock = s.clk.relock ∧ t.clk.late = true ∧ getBits 16 1 (t.bandWord
    (2 * (s.clk.target - 64))) = 0) ∧
  (∀ (s : State), s.live = true → s.clk.relock ≠ .none → s.clk.cold = false → Runs .bandMiss s fun t => t.fld
    F.CLK_STAT_BAND_MISS = 1 ∧ t.clk = { s.clk with cold := true } ∧ t.tm = s.tm)

/-- Reference loss, coasting, return, soft relock and clock fault (R31, R35, R48, R49, R50, R51, R52, R53, R322). That
SOFT_GO completes with OK as its soft relock starts is the model's choice (log 11); so are AO_ON_RC under AO_FORCE_RC, a
return of the reference during a relock, and an unlock in the tick of a trip (log 33); AO_US grows by a free number (log 6).
-/
def Obligations.ReferenceEvents : Prop :=
  (∀ (s : State) (v : BitVec 20), s.fld F.DBG_STAT_FROZEN = 0 → s.sup.por = false → s.fld F.CLK_STAT_REF_VALID = 1 → Does
    (.refLoss v) s fun t => t.fld F.CLK_STAT_REF_VALID = 0 ∧ t.fld F.CLK_STAT_REF_LOSS = 1 ∧ t.fld F.CLK_STAT_AO_ON_RC = 1 ∧
    t.fld F.CLK_COAST_COAST_TIME = 0 ∧ (s.fld F.CLK_STAT_LOCK = 1 ∧ s.fld F.CLK_STAT_COAST = 0 → t.fld F.CLK_STAT_COAST = 1
    ∧ t.fld F.CLK_STAT_LOCK = 0 ∧ t.clk.hold = v.toNat) ∧ t.fld F.TB_STAT_COUNTING = s.fld F.TB_STAT_COUNTING ∧ (s.evRoom
    0x11 = true → t.lastRec 8 = some (evRec s.tm.tb 0x11 0x01 (0)))) ∧
  (∀ (s : State), s.live = true → s.fld F.CLK_STAT_COAST = 1 → s.fld F.CLK_COAST_COAST_TIME ≤ 1000 * s.fld
    F.CLK_LIMIT_COAST_ALARM → Runs .coastLong s fun t => t.fld F.CLK_STAT_COAST_LONG = 1 ∧ t.fld F.CLK_COAST_COAST_TIME =
    1000 * s.fld F.CLK_LIMIT_COAST_ALARM + 1 ∧ (s.evRoom 0x11 = true → t.lastRec 8 = some (evRec s.tm.tb 0x11 0x04 (0)))) ∧
  (∀ (s : State), s.live = true → s.sup.wakeWait = false → s.fld F.CLK_STAT_REF_VALID = 0 → Runs (.refQualified true) s fun
    t => t.fld F.CLK_STAT_REF_VALID = 1 ∧ t.fld F.CLK_STAT_AO_ON_RC = s.fld F.CLK_REF_AO_FORCE_RC ∧ t.clk.measuring = s.flag
    F.CLK_STAT_COAST) ∧
  (∀ (s : State), s.live = true → s.sup.wakeWait = false → s.fld F.CLK_STAT_REF_VALID = 0 → Runs (.refQualified false) s
    fun t => t.fld F.CLK_STAT_REF_VALID = 0 ∧ t.fld F.CLK_STAT_REF_BAD = 1) ∧
  (∀ (s : State) (step : Int) (fofs : Int) (us : Nat), s.live = true → s.clk.measuring = true → Runs (.refBack step fofs
    us) s fun t => t.fld F.CLK_STAT_REF_BACK = 1 ∧ signed 16 (t.fld F.CLK_REF_STEP_STEP) = (step + 5000) % 10000 - 5000 ∧
    signed 16 (t.fld F.CLK_REF_STEP_FOFS) = max (-32767) (min 32767 fofs) ∧ t.fld F.CLK_COAST_COAST_TIME = min us (2 ^ 32 -
    1) ∧ t.clk.measuring = false ∧ t.clk.measured = true ∧ (t.inWindow = false → t.fld F.CLK_STAT_STEP_OUT = 1) ∧
    (s.clk.relock = .none ∧ s.fld F.CLK_REF_RET_POLICY = 1 ∧ t.inWindow = true → t.fld F.CLK_STAT_SOFT_ACTIVE = 1) ∧
    (s.clk.relock = .none ∧ s.fld F.CLK_REF_RET_POLICY = 2 → t.clk.realign = true) ∧ (s.clk.relock ≠ .none → t.fld
    F.CLK_STAT_SOFT_ACTIVE = s.fld F.CLK_STAT_SOFT_ACTIVE ∧ t.clk.realign = s.clk.realign)) ∧
  (∀ (s : State) (w : Word) (p : Bool), s.orders F.CLK_PLL_SOFT_GO [16, 17, 18, 19] w p = true → s.clkBusy = false → s.fld
    F.CLK_STAT_REF_VALID = 1 → s.fld F.CLK_STAT_COAST = 1 → s.clk.measured = true → s.clk.relock = .none → s.inWindow = true
    → Runs (.softGo w p) s fun t => t.fld F.CLK_STAT_SOFT_ACTIVE = 1 ∧ t.fld F.CLK_STAT_CMD_STATUS = stOk ∧ t.fld
    F.TB_STAT_COUNTING = s.fld F.TB_STAT_COUNTING ∧ t.clk = s.clk) ∧
  (∀ (s : State), s.live = true → s.fld F.CLK_STAT_SOFT_ACTIVE = 1 → Does .softRelockDone s fun t => t.fld
    F.CLK_STAT_SOFT_ACTIVE = 0 ∧ t.fld F.CLK_STAT_COAST = 0 ∧ t.fld F.CLK_STAT_LOCK = 1 ∧ (s.evRoom 0x11 = true → t.lastRec
    8 = some (evRec s.tm.tb 0x11 0x03 (0)))) ∧
  (∀ (s : State), s.live = true → s.clk.realign = true → s.fld F.CLK_STAT_REF_VALID = 1 → s.anyActive = false → s.clkBusy =
    false → s.clk.relock = .none → Runs .realignHardRelock s fun t => t.fld F.TB_CTRL_ARM = 1 ∧ t.clk.relock = .realign ∧
    t.clk.realign = false ∧ t.fld F.CLK_STAT_LOCK = 0 ∧ t.fld F.TB_STAT_COUNTING = 0 ∧ (∀ n : Fin 64, t.fld
    (F.FC_STAT_ON_HOLD n.val) = 1) ∧ (∀ n : Fin 128, t.fld (F.VP_STAT_ON_HOLD n.val) = 1)) ∧
  (∀ (s : State) (e : Int), s.live = true → (s.fld F.CLK_STAT_LOCK = 1 ∨ s.sup.tripLock = true) → s.fld
    F.CLK_STAT_REF_VALID = 1 → s.awake 1 = true → Runs (.unlock e) s fun t => t.fld F.CLK_STAT_UNLOCK = 1 ∧ t.clk.relock =
    .fault ∧ t.fld F.CLK_STAT_LOCK = 0 ∧ t.fld F.TB_STAT_COUNTING = 0 ∧ t.ev.on = [] ∧ ((∀ i : Fin 32, s.fld (F.PN_CFG_MODE
    i.val) ≠ 2) → t.ev.fires = []) ∧ t.mir.fault = true ∧ t.sup.outEn = false ∧ (∀ n : Fin 64, t.fld (F.FC_STAT_ON_HOLD
    n.val) = 1) ∧ (∀ n : Fin 128, t.fld (F.VP_STAT_ON_HOLD n.val) = 1) ∧ (s.logRoom = true → t.lastRec 12 = some (logRec
    s.tm.tb 0x11 0x01 3 0 (s.q.aoUs + (Config.aoUs s.free).toNat) (unsigned 16 e)))) ∧
  (∀ (s : State) (e : Int), s.live = true → s.sup.tripLock = true → s.fld F.CLK_STAT_REF_VALID = 1 → s.awake 1 = false →
    Runs (.unlock e) s fun t => t.fld F.CLK_STAT_UNLOCK = 1 ∧ t.clk.relock = s.clk.relock ∧ t.mir.fault = true ∧ t.sup.outEn
    = false ∧ t.sup.tripLock = false ∧ (s.logRoom = true → t.lastRec 12 = some (logRec s.tm.tb 0x11 0x01 3 0 (s.q.aoUs +
    (Config.aoUs s.free).toNat) (unsigned 16 e))))

/-- STARTER edges, the start tick and LOAD_NOW (R34, R44, R47, R285, R333, R334, R335, R336). That a held timebase takes
TB_PRESET only when it resumes, the command having completed at once, is the model's choice (log 33). -/
def Obligations.StartTicks : Prop :=
  (∀ (s : State) (ph : BitVec 9) (r : BitVec 14) (m : Bool), s.live = true → s.fld F.TB_STAT_COUNTING = 1 → s.tm.starter =
    none → s.tm.tb < 2 ^ 64 → (s.fld F.SYNC_CTRL_GRID = 0 ∨ s.fld F.TB_CTRL_ARM = 0) → Runs (.starterEdge ph r m) s fun t =>
    t.tm.starter = some (firstAligned s.clk.lockN (s.fld F.TB_STAT_TB_ALIGN) (s.tm.tb + 16)) ∧ t.fld F.TB_STAT_STARTER_SEEN
    = 1 ∧ t.fld F.TB_STAT_START_PHASE = ph.toNat ∧ t.getSel 0x0402 = s.tm.tb ∧ t.tm.tb = s.tm.tb ∧ (s.tm.startWait = true →
    t.tm.startAt = t.tm.starter) ∧ (s.evRoom 0x12 = true → t.lastRec 8 = some (evRec s.tm.tb 0x12 0x01 (ph.toNat + 2 ^ 16 *
    (firstAligned s.clk.lockN (s.fld F.TB_STAT_TB_ALIGN) (s.tm.tb + 16) % 2 ^ 48))))) ∧
  (∀ (s : State) (ph : BitVec 9) (r : BitVec 14) (m : Bool), s.live = true → s.fld F.TB_STAT_COUNTING = 1 → s.tm.starter =
    none → s.fld F.SYNC_CTRL_GRID = 1 → s.fld F.TB_CTRL_ARM = 1 → gridSlip s.clk.lockN (s.fld F.TB_STAT_TB_ALIGN) s.tm.tb
    ph.toNat (r.toNat + 10000 * b2n m) = 0 → Runs (.starterEdge ph r m) s fun t => t.tm.starter = some (gridNear s.clk.lockN
    (s.fld F.TB_STAT_TB_ALIGN) (gridTime s.clk.lockN s.tm.tb ph.toNat (r.toNat + 10000 * b2n m) (gridWait s.clk.lockN))) ∧
    t.fld F.TB_STAT_STARTER_SEEN = 1 ∧ t.fld F.SYNC_START_SLIP = 0 ∧ t.fld F.SYNC_START_REF_PHASE = (r.toNat + 10000 * b2n
    m) % 2 ^ 14) ∧
  (∀ (s : State) (ph : BitVec 9) (r : BitVec 14) (m : Bool) (k : Nat), s.live = true → s.fld F.TB_STAT_COUNTING = 1 →
    s.tm.starter = none → s.fld F.SYNC_CTRL_GRID = 1 → s.fld F.TB_CTRL_ARM = 1 → gridSlip s.clk.lockN (s.fld
    F.TB_STAT_TB_ALIGN) s.tm.tb ph.toNat (r.toNat + 10000 * b2n m) = k → k ≠ 0 → s.allAtRest = true → Runs (.starterEdge ph
    r m) s fun t => t.tm.starter = some (gridNear s.clk.lockN (s.fld F.TB_STAT_TB_ALIGN) (gridTime s.clk.lockN s.tm.tb
    ph.toNat (r.toNat + 10000 * b2n m) (gridWait s.clk.lockN - k))) ∧ t.fld F.SYNC_START_SLIP = k ∧ t.fld
    F.SYNC_CNT_SLIP_COUNT = min (s.fld F.SYNC_CNT_SLIP_COUNT + 1) 65535 ∧ t.fld F.SYNC_STAT_GRID_MISS = s.fld
    F.SYNC_STAT_GRID_MISS) ∧
  (∀ (s : State) (ph : BitVec 9) (r : BitVec 14) (m : Bool), s.live = true → s.fld F.TB_STAT_COUNTING = 1 → s.tm.starter =
    none → s.fld F.SYNC_CTRL_GRID = 1 → s.fld F.TB_CTRL_ARM = 1 → gridSlip s.clk.lockN (s.fld F.TB_STAT_TB_ALIGN) s.tm.tb
    ph.toNat (r.toNat + 10000 * b2n m) ≠ 0 → s.allAtRest = false → Runs (.starterEdge ph r m) s fun t => t.tm.starter = some
    (firstAligned s.clk.lockN (s.fld F.TB_STAT_TB_ALIGN) (((gridTime s.clk.lockN s.tm.tb ph.toNat (r.toNat + 10000 * b2n m)
    (gridWait s.clk.lockN)) + 319999) / 320000)) ∧ t.fld F.SYNC_STAT_GRID_MISS = 1 ∧ t.fld F.SYNC_START_SLIP = 0 ∧ t.fld
    F.SYNC_CNT_SLIP_COUNT = s.fld F.SYNC_CNT_SLIP_COUNT) ∧
  (∀ (s : State) (ph : BitVec 9) (r : BitVec 14) (m : Bool) (x : Nat), s.live = true → s.fld F.TB_STAT_COUNTING = 1 →
    s.tm.starter = some x → s.tm.tb < x → Runs (.starterEdge ph r m) s fun t => t.fld F.TB_STAT_STARTER_EXTRA = 1 ∧ t.tm =
    s.tm ∧ t.q = s.q) ∧
  (∀ (s : State) (x : Nat), s.live = true → s.fld F.TB_STAT_COUNTING = 1 → s.tm.starter = some x → s.fld F.TB_CTRL_ARM = 1
    → Runs .startTick s fun t => t.tm.tb = s.getSel 0x0401 ∧ t.fld F.TB_CTRL_ARM = 0 ∧ t.tm.starter = none) ∧
  (∀ (s : State) (x : Nat), s.live = true → s.fld F.TB_STAT_COUNTING = 1 → s.tm.starter = some x → s.fld F.TB_CTRL_ARM = 0
    → Runs .startTick s fun t => t.tm.tb = max s.tm.tb x ∧ t.tm.starter = none) ∧
  (∀ (s : State) (w : Word) (p : Bool), s.orders F.TB_CTRL_LOAD_NOW [1] w p = true → s.clkBusy = false → s.anyActive =
    false → s.fld F.TB_STAT_COUNTING = 1 → Runs (.loadNow w p) s fun t => t.tm.tb = s.getSel 0x0401 ∧ t.fld
    F.CLK_STAT_CMD_STATUS = stOk ∧ t.mem.dram = s.mem.dram ∧ t.mem.track = s.mem.track ∧ t.mem.course = s.mem.course ∧
    t.mem.dir = s.mem.dir ∧ t.mem.prof = s.mem.prof ∧ t.mem.pv = s.mem.pv ∧ t.mem.otp = s.mem.otp ∧ t.mem.flash =
    s.mem.flash) ∧
  (∀ (s : State) (w : Word) (p : Bool), s.orders F.TB_CTRL_LOAD_NOW [1] w p = true → s.clkBusy = false → s.anyActive =
    false → s.fld F.TB_STAT_COUNTING = 0 → Runs (.loadNow w p) s fun t => t.tm =
    { s.tm with load := some (s.getSel 0x0401) } ∧ t.fld F.CLK_STAT_CMD_STATUS = stOk ∧ t.mem = s.mem)

/-- Alarms and trigger edges: what is seen, recorded and counted (R115, R117, R118, R119, R121, R127, R130). The TRIG record
is stamped with the tick in which the edge is seen, its LAG counted from the tick of the transition: the model's reading
(DEDUCED, log 31). -/
def Obligations.EventsOccur : Prop :=
  (∀ (s : State) (a : Fin 8), s.live = true → s.awake 2 = true → bitOf (s.fld F.EVT_ALARM_CTRL_EN) a.val = true → bitOf
    s.tm.fired a.val = false → s.tm.tb ≤ s.getSel (0xC00 + a.val) → s.fld F.TB_STAT_COUNTING = 1 → s.fld (F.EVT_APER_PERIOD
    a.val) = 0 → Runs (.alarm a) s fun t => t.tm.tb = s.getSel (0xC00 + a.val) ∧ bitOf t.tm.fired a.val = true ∧ (∀ ev : Fin
    64, s.evSrc ev.val = 0x28 + a.val → s.evLevelKind ev.val = false → bitOf t.ev.seen ev.val = true) ∧ (s.anyActive = false
    → s.tm.tb < s.getSel (0xC00 + a.val) → s.q.evHold = [] → s.qFull 8 = false → bitOf s.q.upset 8 = false → s.q.evDrop = 0
    → s.q.evTb ≠ s.getSel (0xC00 + a.val) → t.lastRec 8 = some (evRec (s.getSel (0xC00 + a.val)) 0x10 0x02 a.val))) ∧
  (∀ (s : State) (a : Fin 8), s.live = true → s.awake 2 = true → bitOf (s.fld F.EVT_ALARM_CTRL_EN) a.val = true → bitOf
    s.tm.fired a.val = false → s.tm.tb ≤ s.getSel (0xC00 + a.val) → s.fld F.TB_STAT_COUNTING = 1 → s.fld (F.EVT_APER_PERIOD
    a.val) ≠ 0 → s.getSel (0xC00 + a.val) + s.fld (F.EVT_APER_PERIOD a.val) < 2 ^ 64 → Runs (.alarm a) s fun t => t.tm.tb =
    s.getSel (0xC00 + a.val) ∧ bitOf t.tm.fired a.val = false ∧ t.getSel (0xC00 + a.val) = s.getSel (0xC00 + a.val) + s.fld
    (F.EVT_APER_PERIOD a.val)) ∧
  (∀ (s : State) (m : Fin 16) (high : Bool) (ph : BitVec 9) (held : Nat) (lv : Bool), s.live = true → s.awake 2 = true →
    s.fld (F.EVT_TI_CFG_FILT m.val) < held → bitOf s.ev.ti m.val ≠ (high != s.flag (F.EVT_TI_CFG_INVERT m.val)) → edgeSel
    (s.fld (F.EVT_TI_CFG_EDGE m.val)) (high != s.flag (F.EVT_TI_CFG_INVERT m.val)) = true → Does (.triggerEdge m high ph
    ⟨held, lv⟩) s fun t => bitOf t.ev.ti m.val = (high != s.flag (F.EVT_TI_CFG_INVERT m.val)) ∧ (∀ ev : Fin 64, s.evSrc
    ev.val = m.val + 1 → s.evLevelKind ev.val = false → bitOf t.ev.seen ev.val = true) ∧ (s.fld (F.EVT_TI_CFG_STAMP m.val) =
    1 → s.anyActive = false → s.evRoom 0x10 = true → t.lastRec 8 = some (evRec s.tm.tb 0x10 0x01 (m.val + 2 ^ 16 * ph.toNat
    + 2 ^ 32 * (((ph.toNat + 63) / 64 + s.fld (F.EVT_TI_CFG_FILT m.val)) / 8)))) ∧ bitOf t.ev.tiLvl m.val = (lv != s.flag
    (F.EVT_TI_CFG_INVERT m.val))) ∧
  (∀ (s : State) (m : Fin 16) (high : Bool) (ph : BitVec 9) (held : Nat) (lv : Bool), s.live = true → s.fld
    (F.EVT_TI_CFG_FILT m.val) ≥ held → Runs (.triggerEdge m high ph ⟨held, lv⟩) s fun t => t = s) ∧
  (∀ (s : State) (m : Fin 16) (high : Bool) (ph : BitVec 9) (held : Nat) (lv : Bool), s.live = true → s.awake 2 = true →
    s.fld (F.EVT_TI_CFG_FILT m.val) < held → bitOf s.ev.ti m.val ≠ (high != s.flag (F.EVT_TI_CFG_INVERT m.val)) → edgeSel
    (s.fld (F.EVT_TI_CFG_EDGE m.val)) (high != s.flag (F.EVT_TI_CFG_INVERT m.val)) = false → Does (.triggerEdge m high ph
    ⟨held, lv⟩) s fun t => bitOf t.ev.ti m.val = (high != s.flag (F.EVT_TI_CFG_INVERT m.val)) ∧ t.ev.seen = s.ev.seen ∧ t.q
    = s.q)

/-- Pennant edges, event hops, the LOST record, and a pointer mismatch of EVQ (R123, R124, R127, R174, R291, R294). That a
record of the tick in which the fires or reads happen enters in the order of R127 is part of evRoom; the trim and WIDTH of a
pulse are those of its active edge (log 31). -/
def Obligations.PennantsHopsAndReads : Prop :=
  (∀ (s : State) (pn : Fin 32) (f : PnEv), s.live = true → firstPn s.ev.fires pn.val = some f → s.pnComes f = true → s.fld
    (F.PN_CFG_MODE pn.val) ≠ 0 → Runs (.pennantFire pn) s fun t => t.fld (F.PN_CFG_FIRE_COUNT pn.val) = min (s.fld
    (F.PN_CFG_FIRE_COUNT pn.val) + 1) 255 ∧ t.fld (F.PN_CFG_MERGE_COUNT pn.val) =
    (if s.ev.on.any (fun o => o.pn = pn.val) then min (s.fld (F.PN_CFG_MERGE_COUNT pn.val) + 1) 255 else s.fld (F.PN_CFG_MERGE_COUNT pn.val))
    ∧ t.ev.fires = s.ev.fires.erase f ∧ t.ev.on.filter (fun o => o.pn = pn.val) =
    [{ f with tick := f.tick + s.fld (F.PN_TIME_WIDTH pn.val) + 1, trim := s.trimTarget (320 + pn.val) }] ∧ t.ev.on.filter
    (fun o => o.pn ≠ pn.val) = s.ev.on.filter (fun o => o.pn ≠ pn.val)) ∧
  (∀ (s : State) (pn : Fin 32) (f : PnEv), s.live = true → firstPn s.ev.fires pn.val = some f → s.pnComes f = true → s.fld
    (F.PN_CFG_MODE pn.val) = 0 → Runs (.pennantFire pn) s fun t => t =
    { s with ev := { s.ev with fires := s.ev.fires.erase f } }) ∧
  (∀ (s : State) (pn : Fin 32) (f : PnEv), s.live = true → firstPn s.ev.on pn.val = some f → s.pnComes f = true → Runs
    (.pennantPulseEnd pn) s fun t => t.ev.on = s.ev.on.filter (fun o => o.pn ≠ pn.val) ∧ t.ev.fires = s.ev.fires ∧ (∀ i :
    Fin 32, t.fld (F.PN_CFG_FIRE_COUNT i.val) = s.fld (F.PN_CFG_FIRE_COUNT i.val) ∧ t.fld (F.PN_CFG_MERGE_COUNT i.val) =
    s.fld (F.PN_CFG_MERGE_COUNT i.val))) ∧
  (∀ (s : State) (c : Fin 64) (x : Sw), s.live = true → ((s.fcn c.val).sw.find? (fun w => w.kind = 1) = some x) → s.fld
    F.SEQ_STAT_HEAT = 3 → (((s.arrive x.tick).fcn c.val).sw.any (fun w => (decide (w.kind = 0) || decide (w.kind = 3)) &&
    decide (w.tick = x.tick)) = false) → x.prof < 64 → x.rule < 2 → Runs (.eventHop c) s fun t => (t.fcn c.val).ftw = x.ftw
    ∧ (t.fcn c.val).pofs = x.pofs ∧ (t.fcn c.val).amp = x.amp ∧ t.fld (F.FC_STAT_PROF c.val) = x.prof ∧ t.fld
    (F.FC_STAT_RULE c.val) = x.rule ∧ x ∉ (t.fcn c.val).sw) ∧
  (∀ (s : State) (c : Fin 64) (x : Sw), s.live = true → ((s.fcn c.val).sw.find? (fun w => w.kind = 1) = some x) → s.fld
    F.SEQ_STAT_HEAT = 3 → (((s.arrive x.tick).fcn c.val).sw.any (fun w => (decide (w.kind = 0) || decide (w.kind = 3)) &&
    decide (w.tick = x.tick)) = true) → Runs (.eventHop c) s fun t => t.fld (F.FC_STAT_HOP_DROP c.val) = 1 ∧ (t.fcn
    c.val).ftw = ((s.arrive x.tick).fcn c.val).ftw ∧ x ∉ (t.fcn c.val).sw) ∧
  (∀ (s : State), s.live = true → 0 < s.q.evDrop → s.q.evHold = [] → s.qFull 8 = false → bitOf s.q.upset 8 = false → Runs
    .evqLostRecord s fun t => t.q.evDrop = 0 ∧ t.lastRec 8 = some (evRec s.tm.tb 0x10 0x03 (s.q.evDrop % 2 ^ 32)) ∧
    t.q.evHold = []) ∧
  (∀ (s : State), s.live = true → 0 < s.q.evDrop → s.q.evHold ≠ [] → s.q.evHold.length < 256 → Runs .evqLostRecord s fun t
    => t.q.evDrop = 0 ∧ t.q.evHold.getLast? = some (evRec s.tm.tb 0x10 0x03 (s.q.evDrop % 2 ^ 32)) ∧ (t.getQ 8).recs =
    (s.getQ 8).recs) ∧
  (∀ (s : State) (x : BusRead), s.gives 0x30040 x.p = true → readOk x = true → s.q.evq.rd = 3 → Runs (.evqRead x true) s
    fun t => t.fld F.GLB_ERR_QPTR_ERR = 1 ∧ t.fld F.GLB_ERR_Q_IDX = 8)

/-- Update strobes copy the shadows of the blocks that obey the group, and the values reach the outputs 48 ticks later
(R189, R284, R285). -/
def Obligations.StrobesAct : Prop :=
  (∀ (s : State) (w : Word) (p : Bool) (n : Fin 64) (g : Fin 16) (v : Word), s.takes 0x40 w p = true → bitOf w.toNat g.val
    = true → s.fld (F.FC_CFG_STRB_GRP n.val) = g.val → s.fld (F.FC_CFG_MODE_BUFFERED n.val) = 1 → s.shadowOf (0x80008 +
    0x400 * n.val) = some v → Does (.updateStrobe w p) s fun t => t.fld F.UPD_STROBE_STARTER_GRP = getBits 16 16 w ∧ t.fld
    (F.FC_GAIN_GAIN n.val) = getBits 0 18 v ∧ t.eff.any (fun e => e.tick = s.tm.tb + 48 ∧ e.a = 0x80008 + 0x400 * n.val ∧
    getBits 0 18 e.v = getBits 0 18 v) = true) ∧
  (∀ (s : State) (w : Word) (p : Bool) (v : Word), s.takes 0x40 w p = true → bitOf w.toNat 0 = true → s.fld
    F.CLK_CFG_MODE_BUFFERED = 1 → s.shadowOf 0x1000C = some v → Does (.updateStrobe w p) s fun t => t.fld F.CLK_WIN_CAP_WIN
    = getBits 0 12 v) ∧
  (∀ (s : State) (e : Eff), s.live = true → s.fld F.TB_STAT_COUNTING = 1 → s.eff = [e] → (∀ n : Fin 64, (s.fcn n.val).sw =
    []) → (∀ n : Fin 8, (s.sqn n.val).prep = none) → Does .strobeEffect s fun t => Sp.get resetOf t.outs e.a = e.v ∧ t.eff =
    [] ∧ t.tm.tb = max s.tm.tb e.tick)

/-- Trims, bandwidth and profiles of a fine channel (R171, R177, R182, R189). -/
def Obligations.FineChannelRegisters : Prop :=
  (∀ (s : State) (c : Fin 64) (w : Word) (p : Bool), s.takes (0x80010 + 0x400 * c.val) w p = true → trimOk w = true →
    s.shadowOf (0x80010 + 0x400 * c.val) = none → Does (.fineTrimWrite c w p) s fun t => t.fld (F.FC_DLY_TRIM c.val) =
    getBits 0 13 w ∧ t.eff.any (fun e => e.tick = s.tm.tb + 48 ∧ e.a = 0x80010 + 0x400 * c.val ∧ getBits 0 13 e.v = getBits
    0 13 w) = true ∧ t.outs = s.outs) ∧
  (∀ (s : State) (c : Fin 64) (w : Word) (p : Bool), s.takes (0x80010 + 0x400 * c.val) w p = true → trimOk w = false → Does
    (.fineTrimWrite c w p) s fun t => t.fld (F.FC_STAT_RANGE_ERR c.val) = 1 ∧ t.rd (0x80010 + 0x400 * c.val) = s.rd (0x80010
    + 0x400 * c.val) ∧ t.eff = s.eff) ∧
  (∀ (s : State) (c : Fin 64) (w : Word) (p : Bool), s.takes (0x80000 + 0x400 * c.val) w p = true → getBits 0 1 w ≠ s.fld
    (F.FC_CFG_BW c.val) → Runs (.bwWrite c w p) s fun t => t.fld (F.FC_CFG_BW c.val) = getBits 0 1 w ∧ t.fld
    (F.FC_STAT_AT_REST c.val) = 1 ∧ t.fld (F.FC_STAT_ON_HOLD c.val) = 0) ∧
  (∀ (s : State) (c : Fin 64) (w : Word) (p : Bool), s.orders (F.FC_PCMD_READ c.val) [0, 1] w p = true → s.fld
    (F.FC_PCMD_BUSY c.val) = 0 → Runs (.profileRead c w p) s fun t => t.rd (0x8001C + 0x400 * c.val) = s.profWord c.val
    (s.fld (F.FC_PSEL_PROF c.val)) 2 ∧ t.fld (F.FC_PAMP_AMP c.val) = getBits 0 20 (s.profWord c.val (s.fld (F.FC_PSEL_PROF
    c.val)) 3) ∧ t.getSel (0x2000 + c.val) = unsigned 64 (signed 48 ((s.profWord c.val (s.fld (F.FC_PSEL_PROF c.val))
    0).toNat + 2 ^ 32 * getBits 0 16 (s.profWord c.val (s.fld (F.FC_PSEL_PROF c.val)) 1))) ∧ t.fld (F.FC_PCMD_STATUS c.val)
    = stOk ∧ t.mem = s.mem) ∧
  (∀ (s : State) (c : Fin 64) (w : Word) (p : Bool), s.orders (F.FC_PCMD_WRITE c.val) [0, 1] w p = true → s.fld
    (F.FC_PCMD_BUSY c.val) = 0 → Runs (.profileWrite c w p) s fun t => t.profWord c.val (s.fld (F.FC_PSEL_PROF c.val)) 0 =
    BitVec.ofNat 32 (s.getSel (0x2000 + c.val)) ∧ t.profWord c.val (s.fld (F.FC_PSEL_PROF c.val)) 1 = BitVec.ofNat 32
    (s.getSel (0x2000 + c.val) % 2 ^ 48 / 2 ^ 32) ∧ t.profWord c.val (s.fld (F.FC_PSEL_PROF c.val)) 2 = s.rd (0x8001C +
    0x400 * c.val) ∧ t.profWord c.val (s.fld (F.FC_PSEL_PROF c.val)) 3 = BitVec.ofNat 32 (s.fld (F.FC_PAMP_AMP c.val)) ∧
    t.fld (F.FC_PCMD_STATUS c.val) = stOk)

/-- Calibration and the read-back check of a fine channel (R183, R187, R304, R321). -/
def Obligations.CalibrationAndReadBack : Prop :=
  (∀ (s : State) (c : Fin 64) (w : Word) (p : Bool), s.orders (F.FC_CAL_RUN c.val) [0, 1] w p = true → s.fld (F.FC_CAL_BUSY
    c.val) = 0 → s.fcOwnerActive c.val = false → s.fld F.CLK_STAT_LOCK = 1 → s.monBusy = false → Runs (.calRun c w p) s fun
    t => t.fld (F.FC_CAL_BUSY c.val) = 1 ∧ (t.fcn c.val).job = 1 ∧ (s.awake 0x25 = true ∧ s.awake (8 + c.val / 8) = true →
    t.fld (F.FC_STAT_AT_REST c.val) = 0 ∧ (t.fcn c.val).calAt = some (s.tm.tb : Int))) ∧
  (∀ (s : State) (c : Fin 64) (g : Int) (o : Int), s.live = true → (s.fcn c.val).job = 1 → s.awake 0x25 = true → s.awake (8
    + c.val / 8) = true → Runs (.calDone c g o) s fun t => signed 16 (t.fld (F.FC_CALRES_TRIM_G c.val)) = max (-20000) (min
    20000 g) ∧ signed 16 (t.fld (F.FC_CALRES_TRIM_O c.val)) = max (-20000) (min 20000 o) ∧ t.fld (F.FC_STAT_AT_REST c.val) =
    1 ∧ t.fld (F.FC_STAT_CAL_DONE c.val) = 1 ∧ t.fld (F.FC_CAL_BUSY c.val) = 0 ∧ t.fld (F.FC_CAL_STATUS c.val) = stOk ∧
    (t.fcn c.val).job = 0) ∧
  (∀ (s : State) (c : Fin 64) (w : Word) (p : Bool), s.orders (F.FC_CAL_SAVE c.val) [0, 1] w p = true → s.fld
    (F.FC_CAL_BUSY c.val) = 0 → s.pvWord (64 + 2 * c.val) ≠ BitVec.ofNat 32 (s.fld (F.FC_CALRES_TRIM_G c.val)) → s.pvWord
    (65 + 2 * c.val) = BitVec.ofNat 32 (s.fld (F.FC_CALRES_TRIM_O c.val)) → s.pvWorn (64 + 2 * c.val) = false → Runs
    (.calSave c w p) s fun t => t.fld (F.FC_CAL_BUSY c.val) = 1 ∧ t.saves = s.saves ++
    [⟨0x80028 + 0x400 * c.val, 16, 0x80028 + 0x400 * c.val, 8, [(64 + 2 * c.val, BitVec.ofNat 32 (s.fld (F.FC_CALRES_TRIM_G c.val)))]⟩]) ∧
  (∀ (s : State) (c : Fin 64) (w : Word) (p : Bool), s.orders (F.FC_CAL_SAVE c.val) [0, 1] w p = true → s.fld
    (F.FC_CAL_BUSY c.val) = 0 → s.pvWord (64 + 2 * c.val) = BitVec.ofNat 32 (s.fld (F.FC_CALRES_TRIM_G c.val)) → s.pvWord
    (65 + 2 * c.val) = BitVec.ofNat 32 (s.fld (F.FC_CALRES_TRIM_O c.val)) → Runs (.calSave c w p) s fun t => t.fld
    (F.FC_CAL_BUSY c.val) = 0 ∧ t.fld (F.FC_CAL_STATUS c.val) = stOk ∧ t.saves = s.saves ∧ t.mem = s.mem) ∧
  (∀ (s : State) (c : Fin 64) (w : Word) (p : Bool), s.orders (F.FC_RB_RUN c.val) [0] w p = true → s.fld (F.FC_RB_BUSY
    c.val) = 0 → s.fld (F.FC_STAT_AT_REST c.val) = 1 → s.monBusy = false → s.fld F.SUP_MON_CMD_BUSY = 0 → Runs (.rbRun c w
    p) s fun t => t.fld (F.FC_RB_BUSY c.val) = 1 ∧ (t.fcn c.val).job = 2 ∧ t.fld (F.FC_STAT_AT_REST c.val) = 1) ∧
  (∀ (s : State) (c : Fin 64) (x : Int), s.live = true → (s.fcn c.val).job = 2 → s.awake 0x25 = true → Runs (.rbDone c x) s
    fun t => signed 20 (t.fld (F.FC_RB_VAL_CODE c.val)) = max (-524288) (min 524287 x) ∧ t.fld (F.FC_RB_BUSY c.val) = 0 ∧
    t.fld (F.FC_RB_STATUS c.val) = stOk ∧ (((max (-524288) (min 524287 x)) - s.restCode c.val).natAbs ≤ s.fld
    (F.FC_RB_TOL_TOL c.val) → t.fld (F.FC_RB_PASS c.val) = 1) ∧ (s.fld (F.FC_RB_TOL_TOL c.val) < ((max (-524288) (min 524287
    x)) - s.restCode c.val).natAbs → t.fld (F.FC_RB_PASS c.val) = 0 ∧ t.fld (F.FC_STAT_RB_FAIL c.val) = 1 ∧ (s.logRoom =
    true → t.lastRec 12 = some (logRec s.tm.tb 0x14 0x02 1 c.val (s.q.aoUs + (Config.aoUs s.free).toNat) (unsigned 32 (max
    (-524288) (min 524287 x)) + 2 ^ 32 * unsigned 32 (s.restCode c.val))))))

/-- START arms the heat; at the start tick every sequencer of the heat runs (R83, R84, R87, R89, R155, R345). -/
def Obligations.HeatBegins : Prop :=
  (∀ (s : State) (u : State) (w : Word) (p : Bool), s.orders F.SEQ_CTRL_START [0, 1, 2, 3] w p = true → u = ((s.atBus
    0x20000 (setBits 0 1 1 w) p).plain 0x20000 (setBits 0 1 1 w)) → u.startCheck = stOk → Does (.start w p) s fun t => t.fld
    F.SEQ_STAT_HEAT = 2 ∧ t.fld F.SEQ_STAT_RUN_MASK = s.fld F.SEQ_STAT_HEAT_MASK ∧ t.fld F.SEQ_CTRL_STATUS = stOk ∧ (∀ n :
    Fin 8, s.inHeat n.val = true → t.sqState n.val = sqArmed) ∧ t.tm.startWait = decide (u.fld F.SEQ_CTRL_START_SRC = 0) ∧
    (u.fld F.SEQ_CTRL_START_SRC = 0 → t.tm.startAt = none) ∧ (u.fld F.SEQ_CTRL_START_SRC = 1 → t.tm.startAt = some (s.getSel
    0x0800)) ∧ (u.fld F.SEQ_CTRL_START_SRC = 2 → t.tm.startAt = some (firstAligned s.clk.lockN (s.fld F.TB_STAT_TB_ALIGN)
    (s.tm.tb + 16)))) ∧
  (∀ (s : State) (x : Nat), s.live = true → s.tm.startWait = false → s.tm.startAt = some x → s.tm.starter = none → s.fld
    F.SEQ_STAT_HEAT = 2 → s.fld F.TB_STAT_COUNTING = 1 → s.role = roleSingle → Does .heatStart s fun t => t.fld
    F.SEQ_STAT_HEAT = 3 ∧ t.tm.heat = 0 ∧ t.tm.tb = max s.tm.tb x ∧ t.getSel 0x0802 = max s.tm.tb x % 2 ^ 64 ∧ t.tm.startAt
    = none ∧ t.fld F.PLAN_TL_FREE = 0 ∧ (∀ n : Fin 8, s.inHeat n.val = true → t.sqState n.val = sqRunning ∧ t.rd
    (F.SQ_LATCH_LO_LATCH n.val).a = 0 ∧ t.rd (F.SQ_LATCH_HI_LATCH n.val).a = 0 ∧ t.fld (F.SQ_POS_EXT n.val) = 0 ∧ (s.fld
    F.SEQ_CFG_MODE_BUFFERED = 0 → (t.sqn n.val).next = [⟨48, .visit (s.fld (F.SQ_START_ENTRY n.val)) false⟩] ∧ ((∀ m : Fin
    8, n.val < m.val → s.inHeat m.val = false) → s.q.evHold = [] → s.q.evDrop = 0 → bitOf s.q.upset 8 = false → s.level 8 +
    8 ≤ 4096 → s.q.evTb ≠ max s.tm.tb x ∨ (x ≤ s.tm.tb ∧ s.evBehind n.val = 0) → t.lastRec 8 = some (evRec (max s.tm.tb x)
    n.val 0x01 (s.fld (F.SQ_START_ENTRY n.val) + 2 ^ 16 * s.tm.startSrc))))))

/-- PAUSE, RESUME, the resumption tick and ABORT (R83, R107, R108, R109, R345). -/
def Obligations.HeatStandsAndEnds : Prop :=
  (∀ (s : State) (w : Word) (p : Bool), s.orders F.SEQ_CTRL_PAUSE [0, 1, 2, 3] w p = true → s.role ≠ roleFollower → s.fld
    F.SEQ_STAT_HEAT = 3 → (∀ n : Fin 8, ∀ d ∈ (s.sqn n.val).next, s.tm.heat + 16 < d.o) → Does (.pause w p) s fun t => t.fld
    F.SEQ_STAT_HEAT = 4 ∧ t.fld F.SEQ_CTRL_STATUS = stOk ∧ (∀ n : Fin 8, s.inHeat n.val = true → s.sqState n.val = sqRunning
    → t.sqState n.val = sqPaused) ∧ (s.role = roleSingle → t.tm.pausedAt = s.tm.tb ∧ t.tm.heat = s.tm.heat ∧ t.tm.tb =
    s.tm.tb) ∧ t.tm.pauseRest = decide (getBits 8 1 w = 1)) ∧
  (∀ (s : State) (u : State) (w : Word) (p : Bool), s.orders F.SEQ_CTRL_RESUME [0, 1, 2, 3] w p = true → u = ((s.atBus
    0x20000 (setBits 2 1 1 w) p).plain 0x20000 (setBits 2 1 1 w)) → s.role = roleSingle → s.fld F.SEQ_STAT_HEAT = 4 →
    s.tm.resAt = none → s.tm.resWait = false → u.fld F.SEQ_CTRL_RESUME_SRC ≠ 3 → (u.fld F.SEQ_CTRL_RESUME_SRC = 1 → s.tm.tb
    + 16 ≤ s.getSel 0x0800) → Runs (.resume w p) s fun t => t.fld F.SEQ_CTRL_STATUS = stOk ∧ t.tm.resWait = decide (u.fld
    F.SEQ_CTRL_RESUME_SRC = 0) ∧ (u.fld F.SEQ_CTRL_RESUME_SRC = 0 → t.tm.resAt = none) ∧ (u.fld F.SEQ_CTRL_RESUME_SRC = 1 →
    t.tm.resAt = some (s.getSel 0x0800)) ∧ (u.fld F.SEQ_CTRL_RESUME_SRC = 2 → t.tm.resAt = some (s.tm.tb + 1))) ∧
  (∀ (s : State) (x : Nat), s.live = true → s.tm.resWait = false → s.tm.resAt = some x → s.tm.starter ≠ some x → s.fld
    F.SEQ_STAT_HEAT = 4 → s.fld F.TB_STAT_COUNTING = 1 → Does .resumption s fun t => t.fld F.SEQ_STAT_HEAT = 3 ∧ t.tm.heat =
    s.tm.heat + 1 ∧ t.tm.tb = max s.tm.tb x ∧ t.tm.resAt = none ∧ (∀ n : Fin 8, s.inHeat n.val = true → s.sqState n.val =
    sqPaused → t.sqState n.val = sqRunning)) ∧
  (∀ (s : State) (w : Word) (p : Bool), s.orders F.SEQ_CTRL_ABORT [0, 1, 2, 3] w p = true → s.role ≠ roleFollower → 2 ≤
    s.fld F.SEQ_STAT_HEAT → s.fld F.SEQ_STAT_HEAT ≤ 4 → Does (.abort w p) s fun t => t.fld F.SEQ_STAT_HEAT = 1 ∧ t.fld
    F.SEQ_STAT_RUN_MASK = 0 ∧ t.fld F.SEQ_STAT_HEAT_END = 1 ∧ t.fld F.SEQ_CTRL_STATUS = stOk ∧ (∀ n : Fin 8, s.inHeat n.val
    = true → t.sqState n.val = sqLoaded ∧ (t.sqn n.val).visit = none ∧ (t.sqn n.val).next = [] ∧ (∀ c ∈ s.fcsOf n.val, t.fld
    (F.FC_STAT_AT_REST c) = 1 ∧ t.fld (F.FC_STAT_ON_HOLD c) = 1) ∧ (∀ c ∈ s.vpsOf n.val, t.fld (F.VP_STAT_AT_REST c) = 1 ∧
    t.fld (F.VP_STAT_ON_HOLD c) = 1)))

/-- Command records enter a queue word by word and complete with one CMD_DONE record (R110, R111, R112, R291, R294). That a
later LAP_END STOP replaces one that waits, that a STOP NOW of a pause counts from the standing heat tick k, and the stamp
of a CMD_DONE record of a pause are the model's readings (log 30). -/
def Obligations.CommandRecords : Prop :=
  (∀ (s : State) (n : Fin 8) (w : Word) (p : Bool), s.takes (0x20120 + 0x40 * n.val) w p = true → bitOf s.q.upset n.val =
    false → Does (.cmdqWordWrite n w p false) s fun t => ((s.getQ n.val).part.length < 3 → t.getQ n.val =
    { s.getQ n.val with part := (s.getQ n.val).part ++ [w] }) ∧ ((s.getQ n.val).part.length = 3 → t.getQ n.val =
    { s.getQ n.val with recs := (s.getQ n.val).recs ++ [(s.getQ n.val).part ++ [w]], part := [] })) ∧
  (∀ (s : State) (u : State) (n : Fin 8) (c : Cmd), s.live = true → s.awake 2 = true → s.fld F.TB_STAT_COUNTING = 1 →
    s.role = roleSingle → bitOf s.q.upset n.val = false → u = s.nextTake n.val → s.cmdHead n.val 1 = some c → c.op = 1 →
    c.argsOk = true → s.runOrPaused n.val = true → Runs (.stop n) s fun t => (c.arg0 % 4 = 0 → (t.sqn n.val).next = (s.sqn
    n.val).next ++ [(⟨u.tm.heat + 48, .stop (!bitOf c.arg0 2) 1⟩ : Dec)]) ∧ (c.arg0 % 4 = 1 → (t.sqn n.val).stopReq = some
    (1, bitOf c.arg0 2, u.tm.heat)) ∧ (c.arg0 % 4 = 2 → (s.sqn n.val).stopReq = none → (t.sqn n.val).stopReq = some (2,
    bitOf c.arg0 2, u.tm.heat)) ∧ t.rd (F.SQ_CMD_DONE_OPCODE n.val).a = BitVec.ofNat 32 (c.op + 2 ^ 16 * c.tag) ∧ (t.getQ
    n.val).recs = (s.getQ n.val).recs.tail ∧ (u.evRoom n.val = true → t.lastRec 8 = some (evRec u.tm.tb n.val 0x0A (c.op + 2
    ^ 16 * c.tag + 2 ^ 32 * u.fld (F.SQ_STAT_ENTRY n.val))))) ∧
  (∀ (s : State) (u : State) (n : Fin 8) (c : Cmd), s.live = true → s.awake 2 = true → s.fld F.TB_STAT_COUNTING = 1 →
    s.role = roleSingle → bitOf s.q.upset n.val = false → u = s.nextTake n.val → s.cmdHead n.val 2 = some c → c.op = 2 →
    c.argsOk = true → s.runOrPaused n.val = true → Runs (.latchClr n) s fun t => (∀ i : Fin 64, bitOf c.arg1 i.val = true →
    (u.justSeen i.val = false ∨ u.evRouted i.val n.val = false) → t.latched n.val i.val = false) ∧ (∀ i : Fin 64, bitOf
    c.arg1 i.val = false → t.latched n.val i.val = s.latched n.val i.val) ∧ t.rd (F.SQ_CMD_DONE_OPCODE n.val).a =
    BitVec.ofNat 32 (c.op + 2 ^ 16 * c.tag) ∧ (t.getQ n.val).recs = (s.getQ n.val).recs.tail ∧ (u.evRoom n.val = true →
    t.lastRec 8 = some (evRec u.tm.tb n.val 0x0A (c.op + 2 ^ 16 * c.tag + 2 ^ 32 * u.fld (F.SQ_STAT_ENTRY n.val))))) ∧
  (∀ (s : State) (u : State) (n : Fin 8) (c : Cmd) (h : Hold) (v : Visit), s.live = true → s.awake 2 = true → s.fld
    F.TB_STAT_COUNTING = 1 → s.role = roleSingle → bitOf s.q.upset n.val = false → u = s.nextTake n.val → s.cmdHead n.val 3
    = some c → c.op = 3 → c.argsOk = true → s.sqState n.val = sqRunning → (s.sqn n.val).hold = some h → h.exit = false →
    (s.sqn n.val).visit = some v → u.contReady n.val h.e = false → u.segFenced (u.entry n.val h.e).seg = false → Runs
    (.holdEnd n) s fun t => (t.sqn n.val).hold = some { h with exit := true } ∧ (t.sqn n.val).next.any
    (fun d => decide (d.o = u.tm.heat + 48) && (match d.c with | .fallback _ 2 2 => true | _ => false)) = true ∧ t.rd
    (F.SQ_CMD_DONE_OPCODE n.val).a = BitVec.ofNat 32 (c.op + 2 ^ 16 * c.tag)) ∧
  (∀ (s : State) (u : State) (n : Fin 8) (c : Cmd), s.live = true → s.awake 2 = true → s.fld F.TB_STAT_COUNTING = 1 →
    s.role = roleSingle → bitOf s.q.upset n.val = false → u = s.nextTake n.val → s.cmdHead n.val 4 = some c → c.op = 4 →
    c.argsOk = true → Runs (.mark n) s fun t => t.sq = u.sq ∧ t.tm = u.tm ∧ t.rd (F.SQ_CMD_DONE_OPCODE n.val).a =
    BitVec.ofNat 32 (c.op + 2 ^ 16 * c.tag) ∧ (t.getQ n.val).recs = (s.getQ n.val).recs.tail ∧ (u.evRoom n.val = true →
    t.lastRec 8 = some (evRec u.tm.tb n.val 0x0A (c.op + 2 ^ 16 * c.tag + 2 ^ 32 * u.fld (F.SQ_STAT_ENTRY n.val)))))

/-- What a sequencer decides at the commit tick of its next boundary (R68, R77, R90, R92, R93, R99, R100, R101, R102). -/
def Obligations.CommitDecisions : Prop :=
  (∀ (s : State) (n : Fin 8) (v : Visit) (x : Entry) (o : Nat) (u : State), s.plays n.val = true → (s.sqn n.val).visit =
    some v → (s.sqn n.val).next = [] → (s.sqn n.val).hold = none → (s.sqn n.val).stopReq = none → x = s.entry n.val v.entry
    → o = nextBoundary x v.f v.cur → 48 ≤ o → s.tm.heat ≤ o - 48 → u = s.arrive (o - 48) → (s.sqn n.val).pend = none → isOpp
    x v.f o = false → isLastEnd x v.f o = false → Does (.commitDecision n) s fun t => (t.sqn n.val).next =
    [(⟨o, .go⟩ : Dec)] ∧ (t.sqn n.val).visit = some { v with cur := o } ∧ t.tm.heat = o - 48) ∧
  (∀ (s : State) (n : Fin 8) (v : Visit) (x : Entry) (o : Nat) (u : State), s.plays n.val = true → (s.sqn n.val).visit =
    some v → (s.sqn n.val).next = [] → (s.sqn n.val).hold = none → (s.sqn n.val).stopReq = none → x = s.entry n.val v.entry
    → o = nextBoundary x v.f v.cur → 48 ≤ o → s.tm.heat ≤ o - 48 → u = s.arrive (o - 48) → (s.sqn n.val).pend = none →
    (isOpp x v.f o = false ∨ u.condMet n.val x = false) → isLastEnd x v.f o = true → x.endAct = 0 → u.contReady n.val x.succ
    = true → Does (.commitDecision n) s fun t => (t.sqn n.val).next = [(⟨o, .visit x.succ false⟩ : Dec)] ∧ (t.sqn
    n.val).visit = some { v with cur := o } ∧ t.tm.heat = o - 48) ∧
  (∀ (s : State) (n : Fin 8) (v : Visit) (x : Entry) (o : Nat) (u : State), s.plays n.val = true → (s.sqn n.val).visit =
    some v → (s.sqn n.val).next = [] → (s.sqn n.val).hold = none → (s.sqn n.val).stopReq = none → x = s.entry n.val v.entry
    → o = nextBoundary x v.f v.cur → 48 ≤ o → s.tm.heat ≤ o - 48 → u = s.arrive (o - 48) → (s.sqn n.val).pend = none →
    (isOpp x v.f o = false ∨ u.condMet n.val x = false) → isLastEnd x v.f o = true → x.endAct ≠ 0 → Does (.commitDecision n)
    s fun t => (t.sqn n.val).next = [(⟨o, .stop (decide (x.endAct = 1)) 0⟩ : Dec)] ∧ (t.sqn n.val).visit = some
    { v with cur := o } ∧ t.tm.heat = o - 48) ∧
  (∀ (s : State) (n : Fin 8) (v : Visit) (x : Entry) (o : Nat) (u : State), s.plays n.val = true → (s.sqn n.val).visit =
    some v → (s.sqn n.val).next = [] → (s.sqn n.val).hold = none → (s.sqn n.val).stopReq = none → x = s.entry n.val v.entry
    → o = nextBoundary x v.f v.cur → 48 ≤ o → s.tm.heat ≤ o - 48 → u = s.arrive (o - 48) → (s.sqn n.val).pend = none → isOpp
    x v.f o = true → u.condMet n.val x = true → u.contReady n.val x.target = true → Does (.commitDecision n) s fun t =>
    (t.sqn n.val).next = [(⟨o, .visit x.target true⟩ : Dec)] ∧ (t.sqn n.val).visit = some { v with cur := o } ∧ t.tm.heat =
    o - 48 ∧ (u.evLevelKind x.jevt = false → t.latched n.val x.jevt = false)) ∧
  (∀ (s : State) (n : Fin 8) (v : Visit) (x : Entry) (o : Nat) (u : State), s.plays n.val = true → (s.sqn n.val).visit =
    some v → (s.sqn n.val).next = [] → (s.sqn n.val).hold = none → (s.sqn n.val).stopReq = none → x = s.entry n.val v.entry
    → o = nextBoundary x v.f v.cur → 48 ≤ o → s.tm.heat ≤ o - 48 → u = s.arrive (o - 48) → (s.sqn n.val).pend = none → isOpp
    x v.f o = false → isLastEnd x v.f o = true → x.endAct = 0 → u.contReady n.val x.succ = false → x.refill = 2 → Does
    (.commitDecision n) s fun t => (t.sqn n.val).next = [(⟨o, .hold x.succ⟩ : Dec)] ∧ (t.sqn n.val).visit = some
    { v with cur := o } ∧ t.tm.heat = o - 48 ∧ t.fld (F.SQ_FLAGS_SHORTFALL n.val) = 1) ∧
  (∀ (s : State) (n : Fin 8) (v : Visit) (x : Entry) (o : Nat) (u : State), s.plays n.val = true → (s.sqn n.val).visit =
    some v → (s.sqn n.val).next = [] → (s.sqn n.val).hold = none → (s.sqn n.val).stopReq = none → x = s.entry n.val v.entry
    → o = nextBoundary x v.f v.cur → 48 ≤ o → s.tm.heat ≤ o - 48 → u = s.arrive (o - 48) → (s.sqn n.val).pend = none → isOpp
    x v.f o = false → isLastEnd x v.f o = true → x.endAct = 0 → u.contReady n.val x.succ = false → x.refill = 0 → x.maxExt ≠
    0 → x.succ < 65536 → Does (.commitDecision n) s fun t => (t.sqn n.val).next = [(⟨o, .go⟩ : Dec)] ∧ (t.sqn n.val).visit =
    some { v with cur := o } ∧ t.tm.heat = o - 48 ∧ (t.sqn n.val).pend = some x.succ ∧ t.fld (F.SQ_STAT_PENDING n.val) = 1) ∧
  (∀ (s : State) (n : Fin 8) (v : Visit) (x : Entry) (o : Nat) (u : State), s.plays n.val = true → (s.sqn n.val).visit =
    some v → (s.sqn n.val).next = [] → (s.sqn n.val).hold = none → (s.sqn n.val).stopReq = none → x = s.entry n.val v.entry
    → o = nextBoundary x v.f v.cur → 48 ≤ o → s.tm.heat ≤ o - 48 → u = s.arrive (o - 48) → (s.sqn n.val).pend = none → isOpp
    x v.f o = false → isLastEnd x v.f o = true → x.endAct = 0 → u.contReady n.val x.succ = false → x.refill = 1 → x.fbRest =
    false → (u.seg (u.entry n.val x.fallback).seg).staged = false → u.segFenced (u.entry n.val x.fallback).seg = false →
    Does (.commitDecision n) s fun t => (t.sqn n.val).next = [(⟨o, .fallback (some x.fallback) 0 2⟩ : Dec)] ∧ (t.sqn
    n.val).visit = some { v with cur := o } ∧ t.tm.heat = o - 48)

/-- What a decision does at the outputs when its tick comes (R83, R86, R90, R95, R101, R102, R112). -/
def Obligations.DecisionsApply : Prop :=
  (∀ (s : State) (n : Fin 8) (o : Nat) (e : Nat) (j : Bool), s.plays n.val = true → firstDec (s.sqn n.val).next = some ⟨o,
    .visit e j⟩ → (s.sqn n.val).hold = none → Does (.exchange n) s fun t => (t.sqn n.val).visit = some
    ⟨e, o, o, if j then s.blockFor n.val e else none⟩ ∧ t.fld (F.SQ_STAT_ENTRY n.val) = e % 65536 ∧ t.fld (F.SQ_POS_LAP
    n.val) = 1 ∧ t.fld (F.SQ_POS_EXT n.val) = 0 ∧ t.fld (F.SQ_STAT_HELD n.val) = 0 ∧ t.tm.heat = max s.tm.heat o) ∧
  (∀ (s : State) (n : Fin 8) (o : Nat) (v : Visit), s.plays n.val = true → firstDec (s.sqn n.val).next = some ⟨o, .go⟩ →
    (s.sqn n.val).visit = some v → isLapEnd (s.entry n.val v.entry) v.f o = true → Does (.lapEnd n) s fun t => (t.sqn
    n.val).lapAt = o ∧ t.fld (F.SQ_POS_LAP n.val) = min (s.fld (F.SQ_POS_LAP n.val) + 1) 16777215 ∧ (t.sqn n.val).visit =
    some v ∧ t.tm.heat = max s.tm.heat o) ∧
  (∀ (s : State) (n : Fin 8) (o : Nat) (e : Nat) (a : Nat) (b : Nat), s.plays n.val = true → firstDec (s.sqn n.val).next =
    some ⟨o, .fallback (some e) a b⟩ → Does (.fallback n) s fun t => t.fld (F.SQ_FLAGS_FALLBACK n.val) = 1 ∧ (t.sqn
    n.val).visit = some ⟨e, o, o, if true then s.blockFor n.val e else none⟩ ∧ t.fld (F.SQ_STAT_ENTRY n.val) = e % 65536 ∧
    t.fld (F.SQ_POS_LAP n.val) = 1 ∧ t.fld (F.SQ_POS_EXT n.val) = 0 ∧ t.fld (F.SQ_STAT_HELD n.val) = 0 ∧ t.tm.heat = max
    s.tm.heat o) ∧
  (∀ (s : State) (n : Fin 8) (o : Nat) (a : Nat) (b : Nat), s.plays n.val = true → firstDec (s.sqn n.val).next = some ⟨o,
    .fallback none a b⟩ → Does (.fallback n) s fun t => t.fld (F.SQ_FLAGS_FALLBACK n.val) = 1 ∧ (t.sqn n.val).visit = none ∧
    (t.sqn n.val).next = [] ∧ (s.fld F.SEQ_STAT_RUN_MASK = 2 ^ n.val → t.fld F.SEQ_STAT_HEAT = 1 ∧ t.fld F.SEQ_STAT_HEAT_END
    = 1 ∧ (∀ i : Fin 8, s.inHeat i.val = true → t.sqState i.val = sqLoaded)) ∧ (putBit (s.fld F.SEQ_STAT_RUN_MASK) n.val
    false ≠ 0 → t.sqState n.val = sqStopped ∧ t.fld F.SEQ_STAT_HEAT = 3 ∧ t.fld F.SEQ_STAT_RUN_MASK = putBit (s.fld
    F.SEQ_STAT_RUN_MASK) n.val false) ∧ (∀ c ∈ s.fcsOf n.val, t.fld (F.FC_STAT_AT_REST c) = 1) ∧ (∀ c ∈ s.vpsOf n.val, t.fld
    (F.VP_STAT_AT_REST c) = 1)) ∧
  (∀ (s : State) (n : Fin 8) (o : Nat) (r : Bool) (b : Nat), s.plays n.val = true → firstDec (s.sqn n.val).next = some ⟨o,
    .stop r b⟩ → Does (.stopTakesEffect n) s fun t => (t.sqn n.val).visit = none ∧ (t.sqn n.val).next = [] ∧ (s.fld
    F.SEQ_STAT_RUN_MASK = 2 ^ n.val → t.fld F.SEQ_STAT_HEAT = 1 ∧ t.fld F.SEQ_STAT_HEAT_END = 1 ∧ (∀ i : Fin 8, s.inHeat
    i.val = true → t.sqState i.val = sqLoaded)) ∧ (putBit (s.fld F.SEQ_STAT_RUN_MASK) n.val false ≠ 0 → t.sqState n.val =
    sqStopped ∧ t.fld F.SEQ_STAT_HEAT = 3 ∧ t.fld F.SEQ_STAT_RUN_MASK = putBit (s.fld F.SEQ_STAT_RUN_MASK) n.val false) ∧ (r
    = true → (∀ c ∈ s.fcsOf n.val, t.fld (F.FC_STAT_AT_REST c) = 1) ∧ (∀ c ∈ s.vpsOf n.val, t.fld (F.VP_STAT_AT_REST c) =
    1))) ∧
  (∀ (s : State) (n : Fin 8) (o : Nat) (e : Nat), s.plays n.val = true → firstDec (s.sqn n.val).next = some ⟨o, .hold e⟩ →
    Does (.exchange n) s fun t => (t.sqn n.val).hold = some ⟨o, e, 16 * (s.arrive o).fld (F.SQ_HOLD_LIMIT_LIMIT16 n.val),
    (s.sqn n.val).next.any Dec.fenced⟩ ∧ t.fld (F.SQ_STAT_HELD n.val) = 1 ∧ t.fld (F.SQ_FLAGS_HOLD_SEEN n.val) = 1 ∧
    t.tm.heat = max s.tm.heat o) ∧
  (∀ (s : State) (n : Fin 8) (o : Nat) (e : Nat) (j : Bool) (h : Hold), s.plays n.val = true → firstDec (s.sqn n.val).next
    = some ⟨o, .visit e j⟩ → (s.sqn n.val).hold = some h → Does (.holdResume n) s fun t => (t.sqn n.val).hold = none ∧
    (t.sqn n.val).visit = some ⟨e, o, o, if j then s.blockFor n.val e else none⟩ ∧ t.fld (F.SQ_STAT_ENTRY n.val) = e % 65536
    ∧ t.fld (F.SQ_POS_LAP n.val) = 1 ∧ t.fld (F.SQ_POS_EXT n.val) = 0 ∧ t.fld (F.SQ_STAT_HELD n.val) = 0 ∧ t.tm.heat = max
    s.tm.heat o)

/-- Holds that end, missing data, sequencer faults and the wake schedule (R26, R27, R66, R86, R102, R105, R155, R348). That
the limit of a hold is reached at its first tick plus the limit, with the exit 48 later, that UNDERRUN is flagged at the
first missing tick, and that a continuation out of a hold counts as a jump are the model's readings (DEDUCED, log 30). -/
def Obligations.HoldsUnderrunsAndFaults : Prop :=
  (∀ (s : State) (n : Fin 8) (h : Hold), s.plays n.val = true → (s.sqn n.val).hold = some h → h.exit = false → s.contReady
    n.val h.e = true → Runs (.holdReady n) s fun t => (t.sqn n.val).hold = some { h with exit := true } ∧ (t.sqn n.val).next
    = (s.sqn n.val).next ++ [(⟨(s.tm.heat + 15) / 16 * 16 + 48, .visit h.e true⟩ : Dec)]) ∧
  (∀ (s : State) (n : Fin 8) (h : Hold) (v : Visit) (u : State), s.plays n.val = true → (s.sqn n.val).visit = some v →
    (s.sqn n.val).hold = some h → h.exit = false → h.limit ≠ 0 → u = s.arrive (h.o + h.limit) → u.contReady n.val h.e =
    false → u.segFenced (u.entry n.val h.e).seg = false → Runs (.holdLimit n) s fun t => (t.sqn n.val).hold = some
    { h with exit := true } ∧ t.tm.heat = max s.tm.heat (h.o + h.limit) ∧ (t.sqn n.val).next.any
    (fun d => decide (d.o = h.o + h.limit + 48) && (match d.c with | .fallback _ 1 2 => true | _ => false)) = true) ∧
  (∀ (s : State) (n : Fin 8) (lane : BitVec 8) (m : Nat) (v : Visit), s.plays n.val = true → (s.sqn n.val).visit = some v →
    lane.toNat < (s.lanesOf n.val).length → s.segInDram (s.entry n.val v.entry).seg = true → (s.sqn n.val).hold = none →
    Runs (.underrun n lane m) s fun t => (t.sqn n.val).gaps = (s.sqn n.val).gaps ++ [(lane.toNat, s.tm.heat, m)] ∧ t.fld
    (F.SQ_FLAGS_UNDERRUN n.val) = 1 ∧ t.tm.tb = s.tm.tb ∧ t.tm.heat = s.tm.heat) ∧
  (∀ (s : State) (n : Fin 8) (w : Word) (dir : Bool), s.live = true → s.sqActive n.val = true → s.inHeat n.val = true →
    Does (.seqEcc n w dir) s fun t => t.fld F.SEQ_ECC_UNCORR = 1 ∧ t.fld F.SEQ_ECC_UNCORR_SQ = n.val ∧ (t.sqn n.val).visit =
    none ∧ t.fld (F.SQ_STAT_FAULT n.val) = 1 ∧ t.mir.fault = true ∧ t.sup.outEn = false ∧ (∀ c ∈ s.fcsOf n.val, t.fld
    (F.FC_STAT_AT_REST c) = 1 ∧ t.fld (F.FC_STAT_ON_HOLD c) = 1) ∧ (putBit (s.fld F.SEQ_STAT_RUN_MASK) n.val false ≠ 0 →
    t.sqState n.val = sqStopped ∧ t.fld F.SEQ_STAT_RUN_MASK = putBit (s.fld F.SEQ_STAT_RUN_MASK) n.val false) ∧ (s.logRoom =
    true → t.lastRec 12 = some (logRec s.tm.tb n.val 0x01 2 n.val (s.q.aoUs + (Config.aoUs s.fineNow.free).toNat) (w.toNat +
    2 ^ 32 * b2n dir)))) ∧
  (∀ (s : State) (r : WakeRec) (rs : List WakeRec), s.live = true → s.fld F.SEQ_STAT_HEAT = 3 → s.plan.wakeLeft = r :: rs →
    r.dom ≠ 0x14 → r.release = false → Runs .wakeRecord s fun t => bitOf t.sup.owned r.dom = true ∧ t.plan.wakeLeft = rs ∧
    t.tm.heat = max s.tm.heat r.tick) ∧
  (∀ (s : State) (r : WakeRec) (rs : List WakeRec), s.live = true → s.fld F.SEQ_STAT_HEAT = 3 → s.plan.wakeLeft = r :: rs →
    r.dom ≠ 0x14 → r.release = true → Runs .wakeRecord s fun t => bitOf t.sup.owned r.dom = false ∧ bitOf t.sup.stay r.dom =
    false ∧ t.plan.wakeLeft = rs ∧ t.tm.heat = max s.tm.heat r.tick) ∧
  (∀ (s : State) (d : BitVec 6) (u : Nat), s.live = true → s.fld F.SEQ_STAT_HEAT = 3 → (s.plan.wake.any (fun r => decide
    (r.dom = d.toNat) && !r.release && decide (r.use = u) && s.notReady r) = true) → u ≤ s.tm.heat → s.tm.heat ≤ s.tm.tb →
    Runs (.lateWake d u) s fun t => t.tm.tb = s.tm.tb ∧ t.tm.heat = s.tm.heat ∧ (s.evRoom 0x14 = true → t.lastRec 8 = some
    (evRec (s.tm.tb - (s.tm.heat - u)) 0x14 0x01 d.toNat)))

/-- The course window and the directory window (R62, R76, R80, R81). -/
def Obligations.CourseAndDirectoryWindows : Prop :=
  (∀ (s : State) (w : Word) (p : Bool), s.orders F.CRS_CMD_READ [0, 1] w p = true → Runs (.crsRead w p) s fun t =>
    (∀ i : Fin 8, t.rd (0x28004 + 4 * i.val) = if (s.fld F.CRS_SEL_ENTRY) < s.crsCount (s.fld F.CRS_SEL_SQ) then s.crsWord (s.fld F.CRS_SEL_SQ) (s.fld F.CRS_SEL_ENTRY) i.val else 0)
    ∧ t.fld F.CRS_CMD_STATUS = stOk ∧ t.fld F.CRS_SEL_ENTRY = (s.fld F.CRS_SEL_ENTRY + getBits 2 1 w) % 65536 ∧ t.mem =
    s.mem) ∧
  (∀ (s : State) (w : Word) (p : Bool), s.orders F.CRS_CMD_WRITE [0, 1] w p = true → s.crsCheck = stOk → Runs (.crsWrite w
    p) s fun t => (∀ i : Fin 8, t.crsWord (s.fld F.CRS_SEL_SQ) (s.fld F.CRS_SEL_ENTRY) i.val = s.rd (0x28004 + 4 * i.val)) ∧
    t.fld F.CRS_CMD_STATUS = stOk ∧ t.fld F.CRS_SEL_ENTRY = (s.fld F.CRS_SEL_ENTRY + getBits 2 1 w) % 65536 ∧ t.mem.track =
    s.mem.track ∧ t.mem.dram = s.mem.dram ∧ t.mem.dir = s.mem.dir) ∧
  (∀ (s : State) (w : Word) (p : Bool), s.orders F.SEGD_CMD_READ [0, 1, 2] w p = true → s.fld F.PLAN_STAT_PRESENT = 1 →
    Runs (.segdRead w p) s fun t => (∀ i : Fin 4, t.rd (0x28044 + 4 * i.val) = s.dirWord (s.fld F.SEGD_SEL_SEG) i.val) ∧
    t.fld F.SEGD_CMD_STATUS = stOk ∧ t.mem = s.mem) ∧
  (∀ (s : State) (w : Word) (p : Bool), s.orders F.SEGD_CMD_SET_READY [0, 1, 2] w p = true → s.readyCheck = stOk → (s.seg
    (s.fld F.SEGD_SEL_SEG)).ready = false → Runs (.setReady w p) s fun t => t.seg (s.fld F.SEGD_SEL_SEG) =
    { s.seg (s.fld F.SEGD_SEL_SEG) with ready := true, gen := ((s.seg (s.fld F.SEGD_SEL_SEG)).gen + 1) % 65536 } ∧ t.fld
    F.SEGD_CMD_STATUS = stOk) ∧
  (∀ (s : State) (w : Word) (p : Bool), s.orders F.SEGD_CMD_CLR_READY [0, 1, 2] w p = true → s.readyCheck = stOk → Runs
    (.clrReady w p) s fun t => t.seg (s.fld F.SEGD_SEL_SEG) = { s.seg (s.fld F.SEGD_SEL_SEG) with ready := false } ∧ t.fld
    F.SEGD_CMD_STATUS = stOk) ∧
  (∀ (s : State) (w : Word) (p : Bool), s.orders F.SEGD_CMD_SET_READY [0, 1, 2] w p = true → s.fld F.PLAN_STAT_PRESENT = 0
    → Runs (.setReady w p) s fun t => t.mem = s.mem ∧ t.fld F.SEGD_CMD_STATUS = stState)

/-- The segment window, the track window and the banks' retention (R10, R79, R82, R221, R222, R223, R224). -/
def Obligations.SegmentAndTrackWindows : Prop :=
  (∀ (s : State) (x : BusRead), s.gives 0x28088 x.p = true → readOk x = true → s.segwIn = true → Runs (.segwRead x) s fun t
    => t.rdata = (lookAcc 0x28088 x false false).part (BitVec.ofNat 32 (leNat ((List.range 4).map fun i => s.segRead (s.fld
    F.SEGW_SEG_SEG) ((4 * s.fld F.SEGW_OFS_WORD_OFS) + i)))) ∧ t.fld F.SEGW_STAT_LAST_STATUS = stOk ∧ t.fld
    F.SEGW_OFS_WORD_OFS = (s.fld F.SEGW_OFS_WORD_OFS + 1) % 2 ^ 32 ∧ t.mem = s.mem) ∧
  (∀ (s : State) (x : BusRead), s.gives 0x28088 x.p = true → readOk x = true → s.segwIn = false → Runs (.segwRead x) s fun
    t => t.rdata = 0 ∧ t.fld F.SEGW_STAT_LAST_STATUS = stRange ∧ t.fld F.SEGW_STAT_RANGE_HIT = 1 ∧ t.fld F.SEGW_OFS_WORD_OFS
    = (s.fld F.SEGW_OFS_WORD_OFS + 1) % 2 ^ 32 ∧ t.mem = s.mem) ∧
  (∀ (s : State) (w : Word) (p : Bool), s.takes 0x28088 w p = true → s.segwIn = true → s.segActiveNow (s.fld
    F.SEGW_SEG_SEG) = false → (s.segInDram (s.fld F.SEGW_SEG_SEG) = false ∨ (s.dramCh (64 * (s.seg (s.fld
    F.SEGW_SEG_SEG)).base + (4 * s.fld F.SEGW_OFS_WORD_OFS))).isSome = true) → Runs (.segwWrite w p) s fun t => (∀ i : Fin
    4, t.segRead (s.fld F.SEGW_SEG_SEG) ((4 * s.fld F.SEGW_OFS_WORD_OFS) + i.val) = (leBytes 4 w.toNat).getD i.val 0) ∧
    t.fld F.SEGW_STAT_LAST_STATUS = stOk ∧ t.fld F.SEGW_OFS_WORD_OFS = (s.fld F.SEGW_OFS_WORD_OFS + 1) % 2 ^ 32) ∧
  (∀ (s : State) (w : Word) (p : Bool), s.takes 0x28088 w p = true → s.segwIn = true → s.segActiveNow (s.fld
    F.SEGW_SEG_SEG) = true → Runs (.segwWrite w p) s fun t => t.mem = s.mem ∧ t.fld F.SEGW_STAT_LAST_STATUS = stActive ∧
    t.fld F.SEGW_STAT_ACTIVE_HIT = 1 ∧ t.fld F.SEGW_STAT_ACTIVE_COUNT = min (s.fld F.SEGW_STAT_ACTIVE_COUNT + 1) 65535 ∧
    t.fld F.SEGW_OFS_WORD_OFS = (s.fld F.SEGW_OFS_WORD_OFS + 1) % 2 ^ 32) ∧
  (∀ (s : State) (x : BusRead), s.gives 0xC0084 x.p = true → readOk x = true → Runs (.trackWindowRead x) s fun t => t.rdata
    = (lookAcc 0xC0084 x false false).part (BitVec.ofNat 32 (leNat ((List.range 4).map fun i => s.trackRead (4 * s.fld
    F.TRK_WADDR_WORD + i)))) ∧ t.fld F.TRK_WSTAT_LAST_STATUS = stOk ∧ t.fld F.TRK_WADDR_WORD = (s.fld F.TRK_WADDR_WORD + 1)
    % 2 ^ 26 ∧ t.mem = s.mem) ∧
  (∀ (s : State) (w : Word) (p : Bool) (col : Bool), s.live = true → s.bus = [] → s.trackHeld (4 * s.fld F.TRK_WADDR_WORD)
    false = false → (col = false ∨ s.copyBegins (4 * s.fld F.TRK_WADDR_WORD) = false) → Runs (.trackWindowWrite w p col) s
    fun t => (∀ i : Fin 4, t.trackRead (4 * s.fld F.TRK_WADDR_WORD + i.val) = (leBytes 4 w.toNat).getD i.val 0) ∧ t.fld
    F.TRK_WSTAT_LAST_STATUS = stOk ∧ t.fld F.TRK_WADDR_WORD = (s.fld F.TRK_WADDR_WORD + 1) % 2 ^ 26) ∧
  (∀ (s : State) (w : Word) (p : Bool), s.live = true → s.bus = [] → s.trackHeld (4 * s.fld F.TRK_WADDR_WORD) true = false
    → s.copyBegins (4 * s.fld F.TRK_WADDR_WORD) = true → Does (.trackWindowWrite w p true) s fun t => t.mem = s.mem ∧ t.fld
    F.TRK_STAT_WR_LOST = 1 ∧ t.fld F.TRK_LOST_LOST_COUNT = min (s.fld F.TRK_LOST_LOST_COUNT + 1) (2 ^ 32 - 1) ∧ t.fld
    F.TRK_WADDR_WORD = (s.fld F.TRK_WADDR_WORD + 1) % 2 ^ 26) ∧
  (∀ (s : State) (m : Fin 512), s.live = true → s.fld F.TRK_RET_EN = 1 → s.flag (retFld m.val) = false → bitOf
    s.sup.ownedBanks m.val = false → (m.val < 480 ∨ s.fld F.PLAN_STAT_PRESENT = 0) → Runs (.bankRetention m) s fun t =>
    t.flag (retFld m.val) = true ∧ t.fld F.TRK_STAT_AWAKE = s.fld F.TRK_STAT_AWAKE - 1 ∧ (t.fld F.TRK_STAT_AWAKE = 0 →
    t.awake 0x14 = false) ∧ t.mem = s.mem) ∧
  (∀ (s : State) (m : Fin 512), s.live = true → s.flag (retFld m.val) = true → bitOf s.sup.wakingBanks m.val = false →
    s.bankReader m.val = none → Runs (.bankWake m) s fun t => t.flag (retFld m.val) = false ∧ t.fld F.TRK_STAT_RET_HIT = 1 ∧
    t.fld F.TRK_STAT_AWAKE = min (s.fld F.TRK_STAT_AWAKE + 1) 512 ∧ t.awake 0x14 = true ∧ t.mem = s.mem) ∧
  (∀ (s : State) (m : Fin 512), s.live = true → s.flag (retFld m.val) = true → bitOf s.sup.wakingBanks m.val = true → Runs
    (.bankWake m) s fun t => t.flag (retFld m.val) = false ∧ bitOf t.sup.wakingBanks m.val = false ∧ t.fld F.TRK_STAT_AWAKE
    = min (s.fld F.TRK_STAT_AWAKE + 1) 512 ∧ t.awake 0x14 = true ∧ t.mem = s.mem) ∧
  (∀ (s : State) (m : Fin 512) (n : Nat) (e : Nat), s.live = true → s.flag (retFld m.val) = true → bitOf s.sup.wakingBanks
    m.val = false → s.bankReader m.val = some (n, e) → Runs (.bankWake m) s fun t => t.flag (retFld m.val) = true ∧ bitOf
    t.sup.wakingBanks m.val = true ∧ t.fld F.TRK_STAT_RET_HIT = 1 ∧ t.mem = s.mem)

/-- Loading a plan, its write pass, and the copies of starting blocks (R149, R150, R151, R161, R162, R163, R228). What the
header and body checks refuse where the spec leaves it open is log 24; that a discarded plan's directory and lane map are
empty too is the model's reading (DEDUCED, log 25). -/
def Obligations.PlansComeAndGo : Prop :=
  (∀ (s : State) (u : State) (v : State) (x : State) (w : Word) (p : Bool), s.orders F.PLAN_CTRL_LOAD [0, 1] w p = true →
    s.fld F.PLAN_STAT_BUSY = 0 → s.awake 1 = true → u = ((s.atBus 0x40000 (setBits 0 1 1 w) p).put F.PLAN_STAT_BUSY 1).put
    F.PLAN_STAT_PHASE 1 → u.loadLegal = true → u.rangeWaits (u.getSel 0x1000) u.imageHead.length = false → v = u.dramReach
    (u.getSel 0x1000) u.imageHead.length → v.headCheck = none → v.rangeWaits (u.getSel 0x1000) (leField v.imageHead 12 4) =
    false → x = v.dramReach (u.getSel 0x1000) (leField v.imageHead 12 4) → x.bodyCheck = none → Does (.load w p) s fun t =>
    t.fld F.PLAN_STAT_BUSY = 1 ∧ t.fld F.PLAN_STAT_PHASE = 2 ∧ t.plan.writing = true ∧ t.plan.addr = s.getSel 0x1000 ∧
    t.plan.head = x.imageHead ∧ t.fld F.DRAM_CFG_MAPPED = leField x.imageHead 49 1 ∧ t.fld F.PLAN_STAT_PRESENT = 0 ∧ t.fld
    F.SEQ_STAT_HEAT = 0 ∧ t.fld F.SEQ_STAT_HEAT_MASK = 0 ∧ t.mem.course = [] ∧ t.mem.dir = [] ∧ (∀ n : Fin 8, t.sqState
    n.val = sqIdle)) ∧
  (∀ (s : State) (w : Word) (p : Bool), s.orders F.PLAN_CTRL_LOAD [0, 1] w p = true → s.fld F.PLAN_STAT_BUSY = 0 → s.awake
    1 = true → s.anyActive = true → Runs (.load w p) s fun t => t.fld F.PLAN_STAT_BUSY = 0 ∧ t.fld F.PLAN_STAT_STATUS =
    stState ∧ t.fld F.PLAN_ERR_STEP = 1 ∧ t.fld F.PLAN_STAT_REFUSED = 1 ∧ t.mem = s.mem ∧ t.fld F.PLAN_STAT_PRESENT = s.fld
    F.PLAN_STAT_PRESENT) ∧
  (∀ (s : State) (u : State) (x : State) (y : State), s.live = true → s.plan.writing = true → s.rangeWaits s.plan.addr
    (leField s.plan.head 12 4) = false → u = s.dramReach s.plan.addr (leField s.plan.head 12 4) → writeOrder.find? (crcBad
    u.reread) = none → (u.place u.reread).loadBlocks = (x, true) → x.loadTm u.reread = (y, true) → Does .writePass s fun t
    => t.fld F.PLAN_STAT_BUSY = 0 ∧ t.fld F.PLAN_STAT_PHASE = 0 ∧ t.fld F.PLAN_STAT_STATUS = stOk ∧ t.fld F.PLAN_STAT_LOADED
    = 1 ∧ t.fld F.PLAN_STAT_PRESENT = 1 ∧ t.fld F.SEQ_STAT_HEAT = 1 ∧ t.plan.writing = false ∧ t.getSel 0x1001 = leField
    u.reread 16 8 ∧ (∀ n : Fin 8, t.inHeat n.val = !(y.validEntries n.val).isEmpty) ∧ (∀ n : Fin 8, t.inHeat n.val = true →
    t.sqState n.val = sqLoaded)) ∧
  (∀ (s : State) (u : State) (ty : Nat), s.live = true → s.plan.writing = true → s.rangeWaits s.plan.addr (leField
    s.plan.head 12 4) = false → u = s.dramReach s.plan.addr (leField s.plan.head 12 4) → writeOrder.find? (crcBad u.reread)
    = some ty → Does .writePass s fun t => t.fld F.PLAN_STAT_BUSY = 0 ∧ t.fld F.PLAN_STAT_PHASE = 0 ∧ t.fld
    F.PLAN_STAT_STATUS = stCrc ∧ t.fld F.PLAN_STAT_WRITE_FAIL = 1 ∧ t.plan.writing = false ∧ t.fld F.PLAN_STAT_PRESENT = 0 ∧
    t.fld F.SEQ_STAT_HEAT = 0 ∧ t.fld F.SEQ_STAT_HEAT_MASK = 0 ∧ t.mem.course = [] ∧ t.mem.dir = [] ∧ (∀ n : Fin 8,
    t.sqState n.val = sqIdle)) ∧
  (∀ (s : State) (n : Fin 8) (i : Nat) (r : StgRec), s.live = true → s.fld F.SEQ_STAT_HEAT = 3 → s.nextLoad n.val = some i
    → s.plan.stg[i]? = some r → s.blockFenced r.seg = false → ((s.blockChs r.seg).any (fun c => s.chWaits c) = false) → Runs
    (.blockCopyDone n) s fun t => i ∈ (t.sqn n.val).resident ∧ i ∉ (t.sqn n.val).loads ∧ t.mem.dram = s.mem.dram) ∧
  (∀ (s : State) (n : Fin 8) (i : Nat) (h : Nat) (k : Nat) (r : StgRec) (u : State), s.live = true → s.fld F.SEQ_STAT_HEAT
    = 3 → s.fld F.TB_STAT_COUNTING = 1 → ((s.lateNote n.val).sqn n.val).lateFrom = some (i, h) → (s.lateNote
    n.val).lateTicks n.val i = some k → u = (s.lateNote n.val).arrive (h + k) → (u.sqn n.val).lateFrom = some (i, h) →
    u.plan.stg[i]? = some r → u.blockFenced r.seg = false → ((u.blockChs r.seg).any (fun c => u.chWaits c) = false) → Runs
    (.lateCopy n) s fun t => i ∈ (t.sqn n.val).resident ∧ i ∉ (t.sqn n.val).late ∧ t.tm.heat = max s.tm.heat (h + k) ∧
    t.mem.dram = s.mem.dram)

/-- Pin trims, compare results, and the records of the fail log (R192, R193, R194, R197, R201, R202, R204, R205, R214). -/
def Obligations.CompareAndFailLog : Prop :=
  (∀ (s : State) (vp : Fin 128) (st : Bool) (w : Word) (p : Bool),
    (s.takes ((if st then 0x90010 else 0x9000C) + 0x100 * vp.val) w p = true) → trimOk w = true →
    (s.shadowOf ((if st then 0x90010 else 0x9000C) + 0x100 * vp.val) = none) → Does (.pinTrimWrite vp st w p) s fun t =>
    getBits 0 13 (t.rd ((if st then 0x90010 else 0x9000C) + 0x100 * vp.val)) = getBits 0 13 w ∧ t.eff.any
    (fun e => e.tick = s.tm.tb + 48 ∧ e.a = (if st then 0x90010 else 0x9000C) + 0x100 * vp.val ∧ getBits 0 13 e.v = getBits 0 13 w)
    = true) ∧
  (∀ (s : State) (vp : Fin 128) (st : Bool) (w : Word) (p : Bool),
    (s.takes ((if st then 0x90010 else 0x9000C) + 0x100 * vp.val) w p = true) → trimOk w = false → Does (.pinTrimWrite vp st
    w p) s fun t => t.fld (F.VP_STAT_RANGE_ERR vp.val) = 1 ∧ t.rd ((if st then 0x90010 else 0x9000C) + 0x100 * vp.val) =
    s.rd ((if st then 0x90010 else 0x9000C) + 0x100 * vp.val) ∧ t.eff = s.eff) ∧
  (∀ (s : State) (u : State) (b : Fin 4) (h : Nat) (l : List Strobe) (p : Fin 32) (v : Fin 8) (n : Nat) (c : Nat) (z :
    Comp), s.live = true → s.comparing h = true → s.awake (16 + b.val) = true → s.awake 0x23 = true → h ≤ s.seenAt → s.comes
    (s.tickNow h + 16).toNat = true → u = s.passTo (s.tickNow h + 16).toNat → u.codeAt b.val p.val v.val h = some (n, c) → z
    = u.compAt (32 * b.val + p.val) h (strobeUv l p.val v.val) → n < 8 → fails c z = true → bitOf (u.maskAt b.val h).toNat
    p.val = false → Does (.compareReport b h l) s fun t => (p.val, v.val, n) ∈ u.failsOf b.val h l ∧ ((∀ y : Fin 8, v.val <
    y.val → u.codeAt b.val p.val y.val h = none) → t.fld (F.VP_STAT_COMP (32 * b.val + p.val)) = compCode z) ∧ t.fld
    (F.VP_STAT_FAIL (32 * b.val + p.val)) = 1 ∧ t.fld (F.VP_FCNT_FAILS (32 * b.val + p.val)) = min (s.fld (F.VP_FCNT_FAILS
    (32 * b.val + p.val)) + (u.failsOf b.val h l).countP (fun f => decide (f.1 = p.val))) (2 ^ 32 - 1) ∧ t.fld
    (F.VB_STAT_FAIL b.val) = 1 ∧ (s.role ≠ roleFollower → ∀ ev : Fin 64, (u.evSrc ev.val = 0x30 + b.val ∨ u.evSrc ev.val =
    0x34) → u.evLevelKind ev.val = false → bitOf t.ev.seen ev.val = true) ∧ (s.role = roleFollower → t.ev = u.ev) ∧
    ((u.failsOf b.val h l).all (fun f => decide (f.2.2 = n)) = true → u.fld (F.VB_CFG_FL_ON b.val) = 1 → (u.capt
    b.val).drops = 0 → (u.capt b.val).fails.length < 1024 → (t.capt b.val).fails.length = (u.capt b.val).fails.length + 1) ∧
    ((u.failsOf b.val h l).all (fun f => decide (f.2.2 = n)) = true → u.fld (F.VB_CFG_FL_ON b.val) = 1 → (u.capt
    b.val).drops = 0 → 1024 ≤ (u.capt b.val).fails.length → (t.capt b.val).drops = 1 ∧ t.fld F.CAPT_STAT_FL_DROP = 1)) ∧
  (∀ (s : State) (u : State) (b : Fin 4) (h : Nat) (l : List Strobe), s.live = true → s.comparing h = true → s.awake (16 +
    b.val) = true → s.awake 0x23 = true → h ≤ s.seenAt → s.comes (s.tickNow h + 16).toNat = true → u = s.passTo (s.tickNow h
    + 16).toNat → u.failsOf b.val h l = [] → Does (.compareReport b h l) s fun t => (∀ p : Fin 32, ∀ v : Fin 8, (u.codeAt
    b.val p.val v.val h).isSome = true → (∀ y : Fin 8, v.val < y.val → u.codeAt b.val p.val y.val h = none) → t.fld
    (F.VP_STAT_COMP (32 * b.val + p.val)) = compCode (u.compAt (32 * b.val + p.val) h (strobeUv l p.val v.val))) ∧ (∀ p :
    Fin 32, t.fld (F.VP_FCNT_FAILS (32 * b.val + p.val)) = s.fld (F.VP_FCNT_FAILS (32 * b.val + p.val))) ∧ t.cap = u.cap ∧
    t.ev = u.ev) ∧
  (∀ (s : State) (b : Fin 4) (st : Nat) (r : Rec) (l : List (Nat × Rec)), s.live = true → s.nextRec = some (false, b.val) →
    (s.capt b.val).fails = (st, r) :: l → s.qFull 11 = false → s.cap.tick ≠ some s.tm.tb → Runs .failRecordEnter s fun t =>
    t.q.capq.recs = s.q.capq.recs ++ [r] ∧ (t.capt b.val).fails = l ∧ t.cap.tick = some s.tm.tb) ∧
  (∀ (s : State) (b : Fin 4) (st : Nat) (r : Rec) (l : List (Nat × Rec)), s.live = true → s.nextRec = some (true, b.val) →
    (s.capt b.val).spans = (st, r) :: l → (s.capt b.val).wait = none → s.qFull 11 = false → s.cap.tick ≠ some s.tm.tb → Runs
    .failRecordEnter s fun t => t.q.capq.recs = s.q.capq.recs ++ [r] ∧ (t.capt b.val).spans = l ∧ t.cap.tick = some s.tm.tb) ∧
  (∀ (s : State) (b : Fin 4), s.live = true → (s.capt b.val).drops ≠ 0 → (s.capt b.val).fails.length < 1024 → Runs
    (.summary b) s fun t => (t.capt b.val).fails = (s.capt b.val).fails ++
    [((s.capt b.val).dropFirst, (s.capt b.val).summary b.val)] ∧ (t.capt b.val).drops = 0 ∧ (t.capt b.val).dropFails = 0)

/-- Capture spans, rings, reads of CAPQ, and a row of the timeline (R137, R207, R208, R209, R215, R231, R234, R291, R295).
-/
def Obligations.CaptureAndTimeline : Prop :=
  (∀ (s : State) (b : Fin 4) (x : Span), s.live = true → s.fld F.SEQ_STAT_HEAT = 4 → (s.capt b.val).span = some x →
    s.seenAt ≤ (s.capt b.val).next → (s.capt b.val).spans.length < 16 → Runs (.spanClose b []) s fun t => (t.capt
    b.val).span = none ∧ (t.capt b.val).lastF = some x.f ∧ (t.capt b.val).spans = (s.capt b.val).spans ++
    [(x.stamp, x.record b.val (s.fld (F.VB_CFG_CAPT_SQ b.val)))]) ∧
  (∀ (s : State) (b : Fin 4) (w : Word) (p : Bool), s.takes (0xA0108 + 0x20 * b.val) w p = true → w.toNat < s.fld
    (F.CAPT_RING_SIZE_SIZE b.val) → (w.toNat + s.fld (F.CAPT_RING_SIZE_SIZE b.val) - s.fld (F.CAPT_RING_RD_RD b.val)) %
    s.fld (F.CAPT_RING_SIZE_SIZE b.val) ≤ s.ringLvl b.val → Runs (.ringRdWrite b w p) s fun t => t.fld (F.CAPT_RING_RD_RD
    b.val) = w.toNat ∧ t.fld (F.CAPT_RING_WR_WR b.val) = s.fld (F.CAPT_RING_WR_WR b.val)) ∧
  (∀ (s : State) (b : Fin 4) (w : Word) (p : Bool), s.takes (0xA0108 + 0x20 * b.val) w p = true → s.fld
    (F.CAPT_RING_SIZE_SIZE b.val) ≠ 0 → (s.fld (F.CAPT_RING_SIZE_SIZE b.val) ≤ w.toNat ∨ s.ringLvl b.val < (w.toNat + s.fld
    (F.CAPT_RING_SIZE_SIZE b.val) - s.fld (F.CAPT_RING_RD_RD b.val)) % s.fld (F.CAPT_RING_SIZE_SIZE b.val)) → Runs
    (.ringRdWrite b w p) s fun t => t.fld F.CAPT_STAT_RANGE_ERR = 1 ∧ t.fld (F.CAPT_RING_RD_RD b.val) = s.fld
    (F.CAPT_RING_RD_RD b.val)) ∧
  (∀ (s : State) (b : Fin 4) (w : Word) (p : Bool), s.takes (0xA0100 + 0x20 * b.val) w p = true → Runs (.ringSizeWrite b w
    p) s fun t => t.fld (F.CAPT_RING_SIZE_SIZE b.val) = w.toNat ∧ t.fld (F.CAPT_RING_WR_WR b.val) = 0 ∧ t.fld
    (F.CAPT_RING_RD_RD b.val) = 0) ∧
  (∀ (s : State) (x : BusRead), s.gives 0xA0040 x.p = true → readOk x = true → Does (.capqRead ⟨x, false, false⟩) s fun t
    => t.rdata = (lookAcc 0xA0040 x false false).part (headWord s.q.capq) ∧ (s.q.capq.rd + 1 ≠ 16 → t.q.capq =
    { s.q.capq with rd := s.q.capq.rd + 1 }) ∧ (s.q.capq.rd + 1 = 16 → t.q.capq.recs = s.q.capq.recs.tail ∧ t.q.capq.rd = 0)) ∧
  (∀ (s : State) (x : BusRead) (c : Bool) (e : Bool), s.gives 0xA0040 x.p = true → readOk x = true → Runs (.capqRead ⟨x, c,
    e⟩) s fun t => t.rdata = (lookAcc 0xA0040 x c e).part (headWord s.q.capq) ∧ t.fld F.CAPQ_CNT_CORR_COUNT = min (s.fld
    F.CAPQ_CNT_CORR_COUNT + b2n c) (2 ^ F.CAPQ_CNT_CORR_COUNT.w - 1) ∧ (e = true → t.fld F.GLB_ERR_QECC_ERR = 1 ∧ t.fld
    F.GLB_ERR_Q_IDX = 11)) ∧
  (∀ (s : State) (x : BusRead) (c : Bool) (e : Bool), s.opens 0xA0040 x.p = true → readOk x = true → s.fld
    F.CAPT_CTRL_OUTBOUND = 1 → Does (.capqRead ⟨x, c, e⟩) s fun t => t.rdata = 0 ∧ t.fld F.GLB_ERR_LOCK_VIOL = 1 ∧ t.q.capq
    = s.q.capq) ∧
  (∀ (s : State), s.live = true → s.fld F.SEQ_STAT_HEAT = 3 → s.bus = [] → Does (.timelineRow ⟨[], [], []⟩) s fun t =>
    t.plan.row = s.plan.row + 1 ∧ t.tm.heat = max s.tm.heat (16 * s.plan.row) ∧ (s.anyPanic = false → (∀ n : Fin 8, (s.sqn
    n.val).off = false) → ∀ c : Fin 8, bitOf s.plan.dcMask c.val = true → s.fenced c.val = false → s.flag (retrainBit c.val)
    = false → s.flag (selfRef c.val) = false → s.refMult c.val ≤ s.plan.refMult → (s.dch c.val).extra < Config.trefiPs →
    (t.dch c.val).refs = (s.dch c.val).refs + s.rowAllot s.plan.row c.val 27))

/-- Panic, refresh, self-refresh and power-down (R25, R32, R146, R233, R234, R235, R236, R237, R238, R241). The cause and
the owed count in a forced refresh's record are the model's readings (DEDUCED, log 23); the base interval and the highest
multiple are those of the LPDDR family (PRESUMED, log 2). -/
def Obligations.Refreshes : Prop :=
  (∀ (s : State) (n : Fin 8) (l : BitVec 16), s.live = true → s.hasLead n.val = true → s.fld (F.DRAM_PORT_PANIC n.val) = 0
    → l.toNat < s.fld F.DRAM_PANIC_MARK → Does (.panicEntry n l) s fun t => t.fld (F.DRAM_PORT_PANIC n.val) = 1 ∧ t.fld
    F.DRAM_CNT_PANIC_COUNT = min (s.fld F.DRAM_CNT_PANIC_COUNT + 1) 65535 ∧ t.fld F.DRAM_FLAGS_PANIC_SEEN = 1 ∧ (s.evRoom
    0x15 = true → t.lastRec 8 = some (evRec s.tm.tb 0x15 0x01 (n.val + 2 ^ 32 * l.toNat)))) ∧
  (∀ (s : State) (n : Fin 8) (l : Option (BitVec 16)), s.live = true → s.fld (F.DRAM_PORT_PANIC n.val) = 1 →
    (match l with | some x => s.fld F.DRAM_PANIC_MARK + 16 ≤ x.toNat | none => s.hasLead n.val = false) → Does (.panicExit n
    l) s fun t => t.fld (F.DRAM_PORT_PANIC n.val) = 0 ∧
    (s.evRoom 0x15 = true → t.lastRec 8 = some (evRec s.tm.tb 0x15 0x01 (n.val + 2 ^ 8 + 2 ^ 32 * (match l with | some x => x.toNat | none => 0))))) ∧
  (∀ (s : State) (c : Fin 8), s.live = true → s.chServes c.val = true → 0 < (s.dch c.val).owed → s.fetchesOn c.val = 0 →
    Runs (.owedRefresh c) s fun t => (t.dch c.val).owed = (s.dch c.val).owed - 1 ∧ (t.dch c.val).refs = (s.dch c.val).refs +
    1) ∧
  (∀ (s : State) (c : Fin 8), s.live = true → s.enabled.contains c.val = true → s.fenced c.val = false → s.fld
    F.DRAM_REF_POST_MAX ≤ (s.dch c.val).owed → Runs (.refreshForced c) s fun t => (t.dch c.val).refs = (s.dch c.val).refs +
    1 ∧ (t.dch c.val).owed = (s.dch c.val).owed ∧ t.fld F.DRAM_CNT_FORCED_COUNT = min (s.fld F.DRAM_CNT_FORCED_COUNT + 1)
    65535 ∧ t.fld F.DRAM_FLAGS_REF_FORCED = 1 ∧ (s.fetchesOn c.val = 0 → (s.evRoom 0x15 = true → t.lastRec 8 = some (evRec
    s.tm.tb 0x15 0x02 (c.val + 2 ^ 8 * (s.dch c.val).owed + 2 ^ 16 * s.forceCause c.val))))) ∧
  (∀ (s : State) (c : Fin 8) (l : List YieldReport), s.live = true → s.chServes c.val = true → s.fld F.SEQ_STAT_HEAT ≠ 3 →
    Runs (.freeModeRefresh ⟨c, l⟩) s fun t => (t.dch c.val).refs = (s.dch c.val).refs + 1 ∧ (t.dch c.val).owed = (s.dch
    c.val).owed ∧ (l = [] → t.regs = s.regs)) ∧
  (∀ (s : State) (c : Fin 8) (l : List YieldReport), s.live = true → s.enabled.contains c.val = true → s.flag (retrainBit
    c.val) = true → s.fenced c.val = false → s.fld F.SEQ_STAT_HEAT ≠ 3 → (s.dch c.val).owed < s.fld F.DRAM_REF_POST_MAX →
    Runs (.freeModeRefresh ⟨c, l⟩) s fun t => (t.dch c.val).refs = (s.dch c.val).refs ∧ (t.dch c.val).owed = (s.dch
    c.val).owed + 1 ∧ (l = [] → t.regs = s.regs)) ∧
  (∀ (s : State) (m : List Nat) (b : List Bool), s.live = true → Runs (.dramTempPoll m b) s fun t => (∀ c : Fin 8,
    s.chServes c.val = true → t.fld (tempFld c.val) = min (m.getD c.val 0) 3 ∧ (3 ≤ m.getD c.val 0 ∨ b.getD c.val false =
    true → t.fld F.DRAM_FLAGS_HOT = 1) ∧ (t.dch c.val).beyond = b.getD c.val false) ∧ (∀ c : Fin 8, s.chServes c.val = false
    → t.fld (tempFld c.val) = s.fld (tempFld c.val))) ∧
  (∀ (s : State) (c : Fin 8), s.live = true → s.chServes c.val = true → bitOf s.sup.owned (0x18 + c.val) = false → bitOf
    s.sup.stay (0x18 + c.val) = false → (s.dch c.val).owed = 0 → s.fetchesOn c.val = 0 → (s.dram.job = .idle ∨ s.dram.job =
    .save) → s.matesIdle c.val = true → Runs (.selfRefreshEntry c) s fun t => t.flag (selfRef c.val) = true ∧ t.awake (0x18
    + c.val) = false ∧ t.mem = s.mem ∧ (s.groupOf (0x18 + c.val) = [0x18 + c.val] → s.evRoom 0x15 = true → t.lastRec 8 =
    some (evRec s.tm.tb 0x15 0x04 (c.val + 2 ^ 32 * s.fld F.DRAM_SR_IDLE_US)))) ∧
  (∀ (s : State) (c : Fin 8), s.live = true → s.flag (selfRef c.val) = true → s.fenced c.val = false → s.refOk = true →
    s.chGrouped c.val = false → s.plan.waitPll = false → s.bus = [] → s.fld F.MBX_STAT_BUSY = 0 → s.fld F.FABRIC_STAT_BUSY =
    0 → s.mg.rxq = [] → Does (.selfRefreshExit c) s fun t => t.flag (selfRef c.val) = false ∧ t.awake (0x18 + c.val) = true
    ∧ t.mem = s.mem ∧ (s.evRoom 0x15 = true → t.lastRec 8 = some (evRec s.tm.tb 0x15 0x04 (c.val + 2 ^ 8)))) ∧
  (∀ (s : State) (c : Fin 8), s.live = true → s.flag (selfRef c.val) = true → s.fenced c.val = false → s.fld
    F.CLK_STAT_REF_VALID = 1 → s.chGrouped c.val = true → bitOf s.sup.waking (0x18 + c.val) = true → s.wakeHeld (0x18 +
    c.val) = false → s.plan.waitPll = false → s.bus = [] → s.fld F.MBX_STAT_BUSY = 0 → s.fld F.FABRIC_STAT_BUSY = 0 →
    s.mg.rxq = [] → Does (.selfRefreshExit c) s fun t => t.flag (selfRef c.val) = false ∧ t.awake (0x18 + c.val) = true ∧
    t.mem = s.mem) ∧
  (∀ (s : State) (c : Fin 8), s.live = true → s.refOk = false → Runs (.selfRefreshExit c) s fun t => t = s) ∧
  (∀ (s : State) (c : Fin 8), s.live = true → s.chServes c.val = true → bitOf s.sup.owned (0x18 + c.val) = false →
    s.fetchesOn c.val = 0 → Runs (.powerDownEntry c) s fun t => t.dch c.val = { s.dch c.val with pd := true } ∧ t.regs =
    s.regs ∧ t.mem = s.mem)

/-- Training, retraining, unfencing, saving, and reserve faults (R32, R229, R239, R240, R242, R243, R304, R321). That a
channel which fails TRAIN or RETRAIN is fenced, and that TRAINED is clear while a channel retrains, are the model's readings
(DEDUCED, log 23). -/
def Obligations.TrainingAndFences : Prop :=
  (∀ (s : State) (w : Word) (p : Bool), s.orders F.DRAM_TRAIN_TRAIN [8, 9, 10, 11] w p = true → s.fld F.DRAM_TRAIN_BUSY = 0
    → s.fld F.PLAN_STAT_PRESENT = 0 → Runs (.train w p) s fun t => t.fld F.DRAM_TRAIN_BUSY = 1 ∧ t.dram.job = .train
    (getBits 0 3 w) ∧ t.fld F.DRAM_TRAIN_RATE = getBits 0 3 w ∧ t.mem = s.mem) ∧
  (∀ (s : State) (l : List Bool) (x : Nat), s.live = true → s.refOk = true → s.dram.job = .train x → Does (.trainDone l) s
    fun t => t.fld F.DRAM_TRAIN_BUSY = 0 ∧ t.dram.job = .idle ∧ t.dram.rate = some x ∧ (∀ c : Fin 8, s.enabled.contains
    c.val = true → l.getD c.val false = true → t.flag (trainedBit c.val) = true ∧ t.fenced c.val = false) ∧ (∀ c : Fin 8,
    s.enabled.contains c.val = true → l.getD c.val false = false → t.fenced c.val = true) ∧ t.fld F.DRAM_TRAIN_STATUS =
    (if s.enabled.all (fun c => l.getD c false) then stOk else stFenced)) ∧
  (∀ (s : State) (w : Word) (p : Bool) (c : Fin 8), s.orders F.DRAM_TRAIN_RETRAIN [8, 9, 10, 11] w p = true → s.fld
    F.DRAM_TRAIN_BUSY = 0 → getBits 4 3 w = c.val → s.enabled.contains c.val = true → s.fld F.SEQ_STAT_HEAT < 2 → s.fenced
    c.val = false → s.flag (retrainBit c.val) = false → Runs (.retrain w p) s fun t => t.flag (retrainBit c.val) = true ∧
    t.flag (trainedBit c.val) = false ∧ t.fld F.DRAM_TRAIN_BUSY = 1 ∧ t.dram.job = .retrain c.val ∧ t.mem = s.mem) ∧
  (∀ (s : State) (c : Fin 8), s.live = true → s.chServes c.val = true → Runs (.trackingDrift c) s fun t => t.flag
    (retrainBit c.val) = true ∧ t.flag (trainedBit c.val) = false ∧ t.dram.job = s.dram.job ∧ t.mem = s.mem) ∧
  (∀ (s : State) (c : Fin 8) (k : Bool), s.live = true → s.flag (retrainBit c.val) = true → s.refOk = true → s.plan.waitPll
    = false → s.bus = [] → s.fld F.MBX_STAT_BUSY = 0 → s.fld F.FABRIC_STAT_BUSY = 0 → s.mg.rxq = [] → Runs (.retrainDone c
    true k) s fun t => t.flag (retrainBit c.val) = false ∧ t.flag (trainedBit c.val) = true ∧ t.fld
    F.DRAM_RETRAIN_RETRAIN_COUNT = min (s.fld F.DRAM_RETRAIN_RETRAIN_COUNT + 1) 65535 ∧ (s.dram.job = .retrain c.val → t.fld
    F.DRAM_TRAIN_STATUS = stOk ∧ t.fld F.DRAM_TRAIN_BUSY = 0) ∧ (s.logRoom = true → t.lastRec 12 = some (logRec s.tm.tb 0x15
    0x02 0 c.val (s.q.aoUs + (Config.aoUs (s.free + 32)).toNat) 0))) ∧
  (∀ (s : State) (c : Fin 8), s.live = true → s.flag (retrainBit c.val) = true → s.refOk = true → s.plan.waitPll = false →
    s.bus = [] → s.fld F.MBX_STAT_BUSY = 0 → s.fld F.FABRIC_STAT_BUSY = 0 → s.mg.rxq = [] → Runs (.retrainDone c false true)
    s fun t => t.flag (retrainBit c.val) = false ∧ t.flag (trainedBit c.val) = true ∧ t.fld F.DRAM_RETRAIN_LKG_COUNT = min
    (s.fld F.DRAM_RETRAIN_LKG_COUNT + 1) 65535 ∧ (t.dch c.val).lkg = (s.dch c.val).lkg ∧ (s.logRoom = true → t.lastRec 12 =
    some (logRec s.tm.tb 0x15 0x02 0 c.val (s.q.aoUs + (Config.aoUs s.free).toNat) 1))) ∧
  (∀ (s : State) (c : Fin 8), s.live = true → s.flag (retrainBit c.val) = true → s.refOk = true → s.plan.waitPll = false →
    s.bus = [] → s.fld F.MBX_STAT_BUSY = 0 → s.fld F.FABRIC_STAT_BUSY = 0 → s.mg.rxq = [] → Runs (.retrainDone c false
    false) s fun t => t.fenced c.val = true ∧ t.flag (retrainBit c.val) = false ∧ t.flag (trainedBit c.val) = false ∧ t.fld
    F.DRAM_FLAGS_FENCE_EV = 1 ∧ (s.dram.job = .retrain c.val → t.fld F.DRAM_TRAIN_STATUS = stFenced)) ∧
  (∀ (s : State) (c : Fin 8) (b : Bool) (k : Bool), s.live = true → s.refOk = false → Runs (.retrainDone c b k) s fun t =>
    t = s) ∧
  (∀ (s : State) (w : Word) (p : Bool) (c : Fin 8), s.orders F.DRAM_TRAIN_UNFENCE [8, 9, 10, 11] w p = true → s.fld
    F.DRAM_TRAIN_BUSY = 0 → s.fld F.MBX_STAT_BUSY = 0 → getBits 4 3 w = c.val → s.fenced c.val = true → s.fld
    F.PLAN_STAT_PRESENT = 0 → s.refOk = true → s.fld F.FABRIC_STAT_BUSY = 0 → s.mg.rxq = [] → s.plan.waitPll = false → Runs
    (.unfence w p true) s fun t => t.flag (trainedBit c.val) = true ∧ t.fenced c.val = false ∧ t.fld F.DRAM_TRAIN_STATUS =
    stOk ∧ t.fld F.DRAM_TRAIN_BUSY = 0) ∧
  (∀ (s : State) (w : Word) (p : Bool) (c : Fin 8), s.orders F.DRAM_TRAIN_UNFENCE [8, 9, 10, 11] w p = true → s.fld
    F.DRAM_TRAIN_BUSY = 0 → s.fld F.MBX_STAT_BUSY = 0 → getBits 4 3 w = c.val → s.fenced c.val = true → s.fld
    F.PLAN_STAT_PRESENT = 0 → s.refOk = true → s.fld F.FABRIC_STAT_BUSY = 0 → s.mg.rxq = [] → s.plan.waitPll = false → Runs
    (.unfence w p false) s fun t => t.fenced c.val = true ∧ t.fld F.DRAM_TRAIN_STATUS = stFenced ∧ t.fld F.DRAM_TRAIN_BUSY =
    0 ∧ t.mem = s.mem) ∧
  (∀ (s : State) (w : Word) (p : Bool) (c : Fin 8) (b : Bool), s.orders F.DRAM_TRAIN_UNFENCE [8, 9, 10, 11] w p = true →
    s.fld F.DRAM_TRAIN_BUSY = 0 → getBits 4 3 w = c.val → s.fenced c.val = true → s.fld F.PLAN_STAT_PRESENT = 0 → s.refOk =
    false → Runs (.unfence w p b) s fun t => t.fenced c.val = true ∧ t.dram.job = .unfence c.val ∧ t.fld F.DRAM_TRAIN_BUSY =
    1 ∧ t.mem = s.mem) ∧
  (∀ (s : State) (w : Word) (p : Bool) (l : List (Nat × Word)), s.orders F.DRAM_TRAIN_SAVE [8, 9, 10, 11] w p = true →
    s.fld F.DRAM_TRAIN_BUSY = 0 → (l = ((s.enabled.filter (fun c => !(s.dch c).lkg.isEmpty)).flatMap (fun c => (List.range
    32).map (fun i => (384 + 32 * c + i, (s.dch c).lkg.getD i 0)))).filter (fun x => s.pvWord x.1 ≠ x.2)) → l ≠ [] → (l.any
    (fun x => s.pvWorn x.1) = false) → Runs (.dramSave w p) s fun t => t.fld F.DRAM_TRAIN_BUSY = 1 ∧ t.dram.job = .save ∧
    t.saves = s.saves ++ [⟨F.DRAM_TRAIN_BUSY.a, F.DRAM_TRAIN_BUSY.lo, F.DRAM_TRAIN_STATUS.a, F.DRAM_TRAIN_STATUS.lo, l⟩]) ∧
  (∀ (s : State) (c : Fin 8) (x : BitVec 48), s.live = true → s.enabled.contains c.val = true → Runs (.resErr c false x) s
    fun t => t.fld F.DRAM_ECC_UNCORR = 1 ∧ t.fld F.SUP_STAT_MGMT_FAULT = 1 ∧ (s.logRoom = true → t.lastRec 12 = some (logRec
    s.tm.tb 0x15 0x04 1 c.val (s.q.aoUs + (Config.aoUs s.free).toNat) (2 ^ 16 * x.toNat)))) ∧
  (∀ (s : State) (c : Fin 8) (x : BitVec 48), s.live = true → s.enabled.contains c.val = true → s.fenced c.val = true →
    Runs (.resErr c true x) s fun t => t.fld F.DRAM_ECC_UNCORR = s.fld F.DRAM_ECC_UNCORR ∧ t.fld F.SUP_STAT_MGMT_FAULT = 1 ∧
    (s.logRoom = true → t.lastRec 12 = some (logRec s.tm.tb 0x15 0x04 1 c.val (s.q.aoUs + (Config.aoUs s.free).toNat) (1 + 2
    ^ 16 * x.toNat))))

/-- Enabling, disabling and changing a data port, and its links (R24, R25, R246, R247, R248, R249, R267, R271, R316). -/
def Obligations.PortsAndLinks : Prop :=
  (∀ (s : State) (pt : Fin 2) (w : Word) (p : Bool), s.takes (0xE0000 + 0x1000 * pt.val) (setBits 0 1 1 w) p = true → s.fld
    (F.NET_CTRL_EN pt.val) = 0 → Does (.portEnable pt w p) s fun t => t.fld (F.NET_CTRL_EN pt.val) = 1 ∧ t.fld
    (F.NET_CTRL_MODE pt.val) = getBits 1 2 w ∧ t.fld (F.NET_CTRL_FC pt.val) = getBits 3 2 w ∧ t.fld (F.NET_CTRL_QUANTA
    pt.val) = getBits 16 16 w ∧ t.mem = s.mem ∧ t.q = s.q) ∧
  (∀ (s : State) (pt : Fin 2) (w : Word) (p : Bool), s.live = true → s.bus = [] → s.hasOther pt.val = true → s.awake (0x20
    + pt.val) = false → Runs (.portEnable pt w p) s fun t => t.bus = [wrAcc (0xE0000 + 0x1000 * pt.val) (setBits 0 1 1 w) p]
    ∧ bitOf t.sup.waking (0x20 + pt.val) = true ∧ (s.awake 0x22 = false → bitOf t.sup.waking 0x22 = true) ∧ t.fld
    (F.NET_CTRL_EN pt.val) = s.fld (F.NET_CTRL_EN pt.val)) ∧
  (∀ (s : State) (pt : Fin 2) (w : Word) (p : Bool), s.takes (0xE0000 + 0x1000 * pt.val) (setBits 0 1 0 w) p = true → s.fld
    (F.NET_CTRL_EN pt.val) = 1 → Does (.portDisable pt w p) s fun t => t.fld (F.NET_CTRL_EN pt.val) = 0 ∧ t.fld
    (F.NET_STAT_LINK_UP pt.val) = 0 ∧ t.fld (F.NET_STAT_READY pt.val) = 0 ∧ (t.netPort pt.val).buf = [] ∧ (t.netPort
    pt.val).tx = [] ∧ (bitOf s.sup.owned (0x20 + pt.val) = false → s.groupOf (0x20 + pt.val) = [0x20 + pt.val] → t.awake
    (0x20 + pt.val) = false) ∧ t.mem = s.mem) ∧
  (∀ (s : State) (pt : Fin 2) (w : Word) (p : Bool), s.takes (0xE0000 + 0x1000 * pt.val) (setBits 0 1 0 w) p = true → s.fld
    (F.NET_CTRL_EN pt.val) = 0 → Does (.modeChange pt w p) s fun t => t.fld (F.NET_CTRL_EN pt.val) = 0 ∧ t.fld
    (F.NET_CTRL_MODE pt.val) = getBits 1 2 w ∧ t.fld (F.NET_CTRL_FC pt.val) = getBits 3 2 w ∧ t.fld (F.NET_CTRL_ING_PRIO
    pt.val) = getBits 5 3 w ∧ t.fld (F.NET_CTRL_CTRL_PRIO pt.val) = getBits 8 3 w ∧ t.fld (F.NET_CTRL_QUANTA pt.val) =
    getBits 16 16 w ∧
    (∀ i : Fin 5, t.dest i.val = (match s.dest i.val with | some d => if d.pt = pt.val ∧ linkExists (getBits 1 2 w) d.link = false then none else some d | none => none))) ∧
  (∀ (s : State) (pt : Fin 2), s.live = true → s.awake (0x20 + pt.val) = true → s.plan.waitPll = false → s.bus = [] → s.fld
    F.MBX_STAT_BUSY = 0 → s.fld F.FABRIC_STAT_BUSY = 0 → s.mg.rxq = [] → Runs (.portReady pt) s fun t => t.fld
    (F.NET_STAT_READY pt.val) = 1 ∧ t.awake (0x20 + pt.val) = true ∧ t.mem = s.mem) ∧
  (∀ (s : State) (pt : Fin 2), s.live = true → s.awake (0x20 + pt.val) = false → bitOf s.sup.waking (0x20 + pt.val) = true
    → s.wakeHeld (0x20 + pt.val) = false → s.maySleep (0x20 + pt.val) = false → s.plan.waitPll = false → s.bus = [] → s.fld
    F.MBX_STAT_BUSY = 0 → s.fld F.FABRIC_STAT_BUSY = 0 → s.mg.rxq = [] → Runs (.portReady pt) s fun t => t.fld
    (F.NET_STAT_READY pt.val) = 1 ∧ t.awake (0x20 + pt.val) = true ∧ bitOf t.sup.waking (0x20 + pt.val) = false ∧
    (s.sup.domJob = some (0x20 + pt.val) → t.sup.domJob = none ∧ t.fld F.SUP_DOM_CMD_STATUS = stOk ∧ t.fld
    F.SUP_DOM_CMD_BUSY = 0) ∧ t.mem = s.mem) ∧
  (∀ (s : State) (pt : Fin 2), s.live = true → s.awake (0x20 + pt.val) = false → bitOf s.sup.waking (0x20 + pt.val) = true
    → s.groupOf (0x20 + pt.val) = [0x20 + pt.val] → s.maySleep (0x20 + pt.val) = true → s.plan.waitPll = false → s.bus = []
    → s.fld F.MBX_STAT_BUSY = 0 → s.fld F.FABRIC_STAT_BUSY = 0 → s.mg.rxq = [] → Runs (.portReady pt) s fun t => t.awake
    (0x20 + pt.val) = false ∧ bitOf t.sup.waking (0x20 + pt.val) = false ∧ t.mem = s.mem) ∧
  (∀ (s : State), s.live = true → bitOf s.sup.waking 0x22 = true → s.wakeHeld 0x22 = false → s.maySleep 0x22 = false →
    s.plan.waitPll = false → s.bus = [] → s.fld F.MBX_STAT_BUSY = 0 → s.fld F.FABRIC_STAT_BUSY = 0 → s.mg.rxq = [] → Runs
    .batonReady s fun t => t.awake 0x22 = true ∧ bitOf t.sup.waking 0x22 = false ∧ t.mem = s.mem) ∧
  (∀ (s : State) (pt : Fin 2) (k : Fin 4), s.live = true → s.fld (F.NET_CTRL_EN pt.val) = 1 → s.fld (F.NET_STAT_READY
    pt.val) = 1 → linkExists (s.fld (F.NET_CTRL_MODE pt.val)) k.val = true → Runs (.linkUp pt k) s fun t => (∀ j : Fin 4,
    bitOf (t.fld (F.NET_STAT_LINK_UP pt.val)) j.val = (decide (j = k) || bitOf (s.fld (F.NET_STAT_LINK_UP pt.val)) j.val)) ∧
    t.sent = s.sent ++ ((s.netPort pt.val).tx.filter (fun f => t.linkUp pt.val f.link && !s.txStopped pt.val f.link
    f.prio)).map (fun f => ⟨pt.val, f.link, f.bytes⟩) ∧ (t.netPort pt.val).tx = (s.netPort pt.val).tx.filter (fun f =>
    !(t.linkUp pt.val f.link && !s.txStopped pt.val f.link f.prio))) ∧
  (∀ (s : State) (pt : Fin 2) (k : Fin 4), s.live = true → Runs (.linkDown pt k) s fun t => (∀ j : Fin 4, bitOf (t.fld
    (F.NET_STAT_LINK_UP pt.val)) j.val = (!decide (j = k) && bitOf (s.fld (F.NET_STAT_LINK_UP pt.val)) j.val)) ∧ t.bat =
    s.bat ∧ t.sent = s.sent ∧ t.mem = s.mem)

/-- ARP, neighbour discovery, flow control and dropped frames of a data port (R246, R247, R248, R263). -/
def Obligations.PortFrames : Prop :=
  (∀ (s : State) (pt : Fin 2) (k : Fin 4) (f : RxFrame) (b : List Byte) (p : Bool), s.live = true → s.linkUp pt.val k.val =
    true → s.arpIn pt.val k.val f.bytes = some (b, p) → Runs (.arpRequest pt k f) s fun t => ((s.txStopped pt.val k.val
    (Config.freeNat s.free % 8) = false → t.sent = s.sent ++
    [⟨pt.val, k.val, minFrame (etherHead (beNat ((f.bytes.drop 6).take 6)) (s.linkMac pt.val k.val) (s.answerTag pt.val k.val p) 0x0806 ++ arpReply b (s.linkMac pt.val k.val) (s.linkIp4 pt.val k.val))⟩]
    ∧ (t.netPort pt.val).tx = (s.netPort pt.val).tx) ∧ (s.txStopped pt.val k.val (Config.freeNat s.free % 8) = true → t.sent
    = s.sent ∧ (t.netPort pt.val).tx = (s.netPort pt.val).tx ++
    [⟨k.val, Config.freeNat s.free % 8, minFrame (etherHead (beNat ((f.bytes.drop 6).take 6)) (s.linkMac pt.val k.val) (s.answerTag pt.val k.val p) 0x0806 ++ arpReply b (s.linkMac pt.val k.val) (s.linkIp4 pt.val k.val))⟩]))
    ∧ t.regs = s.regs ∧ t.mem = s.mem) ∧
  (∀ (s : State) (pt : Fin 2) (k : Fin 4) (f : RxFrame), s.live = true → s.linkUp pt.val k.val = true → s.arpIn pt.val
    k.val f.bytes = none → Runs (.arpRequest pt k f) s fun t => t.fld (F.NET_STAT_DROP pt.val) = 1 ∧ t.fld
    (F.NET_DROP_FRAMES pt.val) = min (s.fld (F.NET_DROP_FRAMES pt.val) + 1) (2 ^ 32 - 1) ∧ (netLong f.bytes = true → t.fld
    (F.NET_STAT_OVERSIZE pt.val) = 1) ∧ t.sent = s.sent ∧ t.bat = s.bat ∧ t.mem = s.mem) ∧
  (∀ (s : State) (pt : Fin 2) (k : Fin 4) (f : RxFrame) (b : List Byte) (p : Bool), s.live = true → s.linkUp pt.val k.val =
    true → s.ndIn pt.val k.val f.bytes = some (b, p) → Runs (.neighbourSolicitation pt k f) s fun t => ((s.txStopped pt.val
    k.val (Config.freeNat s.free % 8) = false → t.sent = s.sent ++
    [⟨pt.val, k.val, minFrame (etherHead (beNat ((f.bytes.drop 6).take 6)) (s.linkMac pt.val k.val) (s.answerTag pt.val k.val p) 0x86DD ++ advert b (s.linkMac pt.val k.val) (s.linkIp6 pt.val k.val))⟩]
    ∧ (t.netPort pt.val).tx = (s.netPort pt.val).tx) ∧ (s.txStopped pt.val k.val (Config.freeNat s.free % 8) = true → t.sent
    = s.sent ∧ (t.netPort pt.val).tx = (s.netPort pt.val).tx ++
    [⟨k.val, Config.freeNat s.free % 8, minFrame (etherHead (beNat ((f.bytes.drop 6).take 6)) (s.linkMac pt.val k.val) (s.answerTag pt.val k.val p) 0x86DD ++ advert b (s.linkMac pt.val k.val) (s.linkIp6 pt.val k.val))⟩]))
    ∧ t.regs = s.regs ∧ t.mem = s.mem) ∧
  (∀ (s : State) (pt : Fin 2) (k : Fin 4) (f : RxFrame), s.live = true → s.linkUp pt.val k.val = true → s.ndIn pt.val k.val
    f.bytes = none → Runs (.neighbourSolicitation pt k f) s fun t => t.fld (F.NET_STAT_DROP pt.val) = 1 ∧ t.fld
    (F.NET_DROP_FRAMES pt.val) = min (s.fld (F.NET_DROP_FRAMES pt.val) + 1) (2 ^ 32 - 1) ∧ (netLong f.bytes = true → t.fld
    (F.NET_STAT_OVERSIZE pt.val) = 1) ∧ t.sent = s.sent ∧ t.bat = s.bat ∧ t.mem = s.mem) ∧
  (∀ (s : State) (pt : Fin 2) (k : Fin 4) (p : Bool) (m : BitVec 8) (n : BitVec 16), s.live = true → s.linkUp pt.val k.val
    = true → (s.fld (F.NET_CTRL_FC pt.val) = if p then 2 else 1) → n ≠ 0 → Runs (.pauseFrame pt k p m n) s fun t => t.fld
    (F.NET_STAT_PAUSED pt.val) = 1 ∧ (∀ i : Fin 8, t.txStopped pt.val k.val i.val = ((!p || bitOf m.toNat i.val) ||
    s.txStopped pt.val k.val i.val)) ∧ t.sent = s.sent ∧ (t.netPort pt.val).tx = (s.netPort pt.val).tx ∧ t.mem = s.mem) ∧
  (∀ (s : State) (pt : Fin 2) (k : Fin 4) (p : Bool) (m : BitVec 8), s.live = true → s.linkUp pt.val k.val = true →
    (s.fld (F.NET_CTRL_FC pt.val) = if p then 2 else 1) → Runs (.pauseFrame pt k p m 0) s fun t => (∀ i : Fin 8, t.txStopped
    pt.val k.val i.val = (!(!p || bitOf m.toNat i.val) && s.txStopped pt.val k.val i.val)) ∧ t.sent = s.sent ++ ((s.netPort
    pt.val).tx.filter (fun f => s.linkUp pt.val f.link && !t.txStopped pt.val f.link f.prio)).map (fun f => ⟨pt.val, f.link,
    f.bytes⟩) ∧ (t.netPort pt.val).tx = (s.netPort pt.val).tx.filter (fun f => !(s.linkUp pt.val f.link && !t.txStopped
    pt.val f.link f.prio)) ∧ t.regs = s.regs ∧ t.mem = s.mem) ∧
  (∀ (s : State) (pt : Fin 2) (k : Fin 4) (p : Bool) (m : BitVec 8) (n : BitVec 16), s.live = true → s.linkUp pt.val k.val
    = true → (s.fld (F.NET_CTRL_FC pt.val) ≠ if p then 2 else 1) → Runs (.pauseFrame pt k p m n) s fun t => t.fld
    (F.NET_STAT_DROP pt.val) = 1 ∧ t.fld (F.NET_DROP_FRAMES pt.val) = min (s.fld (F.NET_DROP_FRAMES pt.val) + 1) (2 ^ 32 -
    1) ∧ t.fld (F.NET_STAT_PAUSED pt.val) = s.fld (F.NET_STAT_PAUSED pt.val) ∧ t.bat = s.bat ∧ t.sent = s.sent ∧ t.mem =
    s.mem) ∧
  (∀ (s : State) (pt : Fin 2) (k : Fin 4) (m : BitVec 3), s.live = true → Runs (.pauseTimeExpiry pt k m) s fun t => (∀ i :
    Fin 8, t.txStopped pt.val k.val i.val = (!(decide (s.fld (F.NET_CTRL_FC pt.val) = 1) || decide (i.val = m.toNat)) &&
    s.txStopped pt.val k.val i.val)) ∧ t.sent = s.sent ++ ((s.netPort pt.val).tx.filter (fun f => s.linkUp pt.val f.link &&
    !t.txStopped pt.val f.link f.prio)).map (fun f => ⟨pt.val, f.link, f.bytes⟩) ∧ (t.netPort pt.val).tx = (s.netPort
    pt.val).tx.filter (fun f => !(s.linkUp pt.val f.link && !t.txStopped pt.val f.link f.prio)) ∧ t.regs = s.regs ∧ t.mem =
    s.mem) ∧
  (∀ (s : State) (pt : Fin 2), s.live = true → (s.netPort pt.val).bp.isSome = true → s.fcOn pt.val = true → Runs
    (.xoffRepeat pt) s fun t => t.sent = s.sent ++ ((List.range 4).filter (fun k => s.linkUp pt.val k)).map (fun k =>
    ⟨pt.val, k, s.xoffFrame pt.val k (s.fld (F.NET_CTRL_QUANTA pt.val))⟩) ∧ t.bat = s.bat ∧ t.regs = s.regs ∧ t.mem = s.mem) ∧
  (∀ (s : State) (pt : Fin 2), s.live = true → ((s.netPort pt.val).bp = none ∨ s.fcOn pt.val = false) → Runs (.xoffRepeat
    pt) s fun t => t = s) ∧
  (∀ (s : State) (pt : Fin 2) (k : Fin 4) (f : RxFrame), s.live = true → s.linkUp pt.val k.val = true → Runs (.frameDrop pt
    k ⟨f, true⟩) s fun t => t.fld (F.NET_STAT_FCS_ERR pt.val) = 1 ∧ t.fld (F.NET_FCS_FRAMES pt.val) = min (s.fld
    (F.NET_FCS_FRAMES pt.val) + 1) (2 ^ 32 - 1) ∧ t.fld (F.NET_DROP_FRAMES pt.val) = s.fld (F.NET_DROP_FRAMES pt.val) ∧
    t.sent = s.sent ∧ t.bat = s.bat ∧ t.mem = s.mem) ∧
  (∀ (s : State) (pt : Fin 2) (k : Fin 4) (f : RxFrame), s.live = true → s.linkUp pt.val k.val = true → s.accepts pt.val
    k.val f.bytes = false → Runs (.frameDrop pt k ⟨f, false⟩) s fun t => t.fld (F.NET_STAT_DROP pt.val) = 1 ∧ t.fld
    (F.NET_DROP_FRAMES pt.val) = min (s.fld (F.NET_DROP_FRAMES pt.val) + 1) (2 ^ 32 - 1) ∧ (netLong f.bytes = true → t.fld
    (F.NET_STAT_OVERSIZE pt.val) = 1) ∧ t.sent = s.sent ∧ t.bat = s.bat ∧ t.mem = s.mem) ∧
  (∀ (s : State) (pt : Fin 2) (k : Fin 4) (f : RxFrame), s.live = true → s.linkUp pt.val k.val = true → s.accepts pt.val
    k.val f.bytes = true → Runs (.frameDrop pt k ⟨f, false⟩) s fun t => t = s)

/-- Bad frames are dropped; OPEN admits or refuses a session; CLOSE, QUERY, idle time and the acknowledgement timer (R250,
R251, R252, R257, R258, R259, R262, R264, R295). -/
def Obligations.BatonSessions : Prop :=
  (∀ (s : State) (pt : Fin 2) (k : Fin 4) (h : RxFrame) (d : Datagram), s.batonOn pt.val k.val = true → s.datagram pt.val
    k.val h.bytes = some d → (d.body.length < 32 ∨ beNat (d.body.take 2) ≠ 0xBA70 ∨ beNat ((d.body.drop 2).take 1) ≠ 1 ∨
    (beNat ((d.body.drop 3).take 1) = 1 ∧ beNat ((d.body.drop 28).take 4) ≠ (crc32c (d.body.take 28)).toNat)) → Runs
    (.badFrame pt k h) s fun t => t.fld F.BAT_STAT_CRC_DROP = 1 ∧ t.fld F.BAT_CNT1_SRC_DROPS = min (s.fld
    F.BAT_CNT1_SRC_DROPS + 1) 65535 ∧ t.bat = s.bat ∧ t.sent = s.sent ∧ t.mem = s.mem) ∧
  (∀ (s : State) (pt : Fin 2) (k : Fin 4) (h : RxFrame), s.live = true → s.linkUp pt.val k.val = true → s.datagram pt.val
    k.val h.bytes = none → Runs (.badFrame pt k h) s fun t => t = s.netDrop pt.val h.bytes ∧ t.bat = s.bat ∧ t.sent = s.sent
    ∧ t.mem = s.mem) ∧
  (∀ (s : State) (i : Nat) (key : Nat) (a : Nat) (e : Nat) (skey : Nat) (ip : Nat) (port : Nat), ((s.grant i).kind = 0 →
    s.openCheck i key a e skey ip port = stState) ∧ ((s.grant i).kind ≠ 0 → (s.grant i).key ≠ key → s.openCheck i key a e
    skey ip port = stKey) ∧ ((s.grant i).kind ≠ 0 → (s.grant i).key = key → (a % 64 ≠ 0 ∨ e % 64 ≠ 0 ∨ e ≤ a ∨ (s.grant
    i).len < e) → s.openCheck i key a e skey ip port = stRange) ∧ ((s.grant i).kind ≠ 0 → (s.grant i).key = key → a % 64 = 0
    → e % 64 = 0 → a < e → e ≤ (s.grant i).len → (s.grant i).ranges = [] → 0 < (s.grant i).maxRanges → s.session skey = none
    → s.bat.sess.length < 4096 → s.openCheck i key a e skey ip port = stOk)) ∧
  (∀ (s : State) (pt : Fin 2) (k : Fin 4) (h : RxFrame) (x : BatIn), s.batonOn pt.val k.val = true → s.frameIn pt.val k.val
    h = some x → x.type = 2 → s.openCheck (x.grant % 1024) (beNat (x.body.take 4)) x.ofs (beNat ((x.body.drop 8).take 8))
    x.skey x.ip x.port ≠ stOk → Runs (.openSession pt k h) s fun t => t.fld F.BAT_STAT_OPEN_REF = 1 ∧ t.fld
    F.BAT_CNT0_OPEN_REFUSED = min (s.fld F.BAT_CNT0_OPEN_REFUSED + 1) 65535 ∧ t.bat.sess = s.bat.sess ∧ t.bat.grants =
    s.bat.grants ∧ t.mem = s.mem) ∧
  (∀ (s : State) (pt : Fin 2) (k : Fin 4) (h : RxFrame) (x : BatIn) (e : Nat) (a : Nat), s.batonOn pt.val k.val = true →
    s.frameIn pt.val k.val h = some x → x.type = 2 → e = beNat ((x.body.drop 8).take 8) → s.openCheck (x.grant % 1024)
    (beNat (x.body.take 4)) x.ofs e x.skey x.ip x.port = stOk → s.session x.skey = none →
    (a = (match (s.grant (x.grant % 1024)).ranges.find? (fun r => decide (r.a = x.ofs) && decide (r.e = e)) with | some r => r.acked | none => x.ofs))
    → a ≠ e → Runs (.openSession pt k h) s fun t => t.session x.skey = some ⟨x.skey, x.epoch, x.grant % 1024, x.ofs, e,
    x.ip, x.port, x.mac, pt.val, k.val, a, a, false, none, some s.tm.tb⟩ ∧ (t.grant (x.grant % 1024)).ranges = (s.grant
    (x.grant % 1024)).ranges ++
    (if ((s.grant (x.grant % 1024)).ranges.find? (fun r => decide (r.a = x.ofs) && decide (r.e = e))).isSome then [] else [⟨x.ofs, e, x.ofs⟩])
    ∧ t.sent = (s.openAck pt.val k.val x a (s.grantGen (s.grant (x.grant % 1024))) (32 * b2n ((s.grant (x.grant %
    1024)).ranges.find? (fun r => decide (r.a = x.ofs) && decide (r.e = e))).isSome) stOk).sent ∧ t.mem = s.mem ∧ (s.evRoom
    0x17 = true → t.lastRec 8 = some (evRec s.tm.tb 0x17 0x01 (x.skey + 2 ^ 32 * (x.grant % 1024) + 2 ^ 48 * (4 * pt.val +
    k.val) + 2 ^ 56 * b2n ((s.grant (x.grant % 1024)).ranges.find? (fun r => decide (r.a = x.ofs) && decide (r.e =
    e))).isSome)))) ∧
  (∀ (s : State) (pt : Fin 2) (k : Fin 4) (h : RxFrame) (x : BatIn) (y : Sess), s.batonOn pt.val k.val = true → s.frameIn
    pt.val k.val h = some x → x.type = 5 → s.match' x = some y → (s.netPort 0).bp = none → (s.netPort 1).bp = none →
    (s.netPort 0).buf = [] → (s.netPort 1).buf = [] → 0 < s.fld F.BAT_BUF_XOFF_KIB → Runs (.closeSession pt k h) s fun t =>
    t.session y.skey = none ∧ t.bat.grants = s.bat.grants ∧ t.mem = s.mem ∧ (s.evRoom 0x17 = true → t.lastRec 8 = some
    (evRec s.tm.tb 0x17 0x02 (y.skey + 2 ^ 32 * y.slot)))) ∧
  (∀ (s : State) (pt : Fin 2) (k : Fin 4) (h : RxFrame) (x : BatIn) (y : Sess), s.batonOn pt.val k.val = true → s.frameIn
    pt.val k.val h = some x → x.type = 7 → s.match' x = some y → Runs (.batonQuery pt k h) s fun t => t.session x.skey =
    some { y with mac := x.mac, pt := pt.val, link := k.val, got := some s.tm.tb, last := s.acked y, due := false } ∧
    t.bat.grants = s.bat.grants ∧ t.sent = (s.sendAck0
    { y with mac := x.mac, pt := pt.val, link := k.val, got := some s.tm.tb } 0 stOk).sent ∧ t.regs = s.regs ∧ t.mem = s.mem) ∧
  (∀ (s : State) (n : BitVec 32) (y : Sess), s.live = true → s.session n.toNat = some y → Runs (.ackTimer n) s fun t =>
    (y.due = true → t.session n.toNat = some { y with due := false, last := s.acked y } ∧ t.sent = (s.sendAck0 y 0
    stOk).sent ∧ t.regs = s.regs ∧ t.mem = s.mem) ∧ (y.due = false → t = s)) ∧
  (∀ (s : State) (n : BitVec 32) (y : Sess), s.live = true → s.session n.toNat = some y → (s.netPort 0).bp = none →
    (s.netPort 1).bp = none → (s.netPort 0).buf = [] → (s.netPort 1).buf = [] → 0 < s.fld F.BAT_BUF_XOFF_KIB → Runs
    (.sessionIdle n) s fun t => t.session n.toNat = none ∧ t.bat.grants = s.bat.grants ∧ t.mem = s.mem ∧ t.sent = s.sent ∧
    (s.evRoom 0x17 = true → t.lastRec 8 = some (evRec s.tm.tb 0x17 0x02 (y.skey + 2 ^ 32 * y.slot + 2 ^ 48 * 2))))

/-- DATA frames are buffered, acknowledged or dropped, and committed to DRAM in order (R256, R260, R261, R262, R263, R264).
-/
def Obligations.BatonData : Prop :=
  (∀ (s : State) (pt : Fin 2) (k : Fin 4) (h : RxFrame) (x : BatIn), s.batonOn pt.val k.val = true → s.frameIn pt.val k.val
    h = some x → x.type = 1 → s.match' x = none → Runs (.dataFrame pt k h) s fun t => t.fld F.BAT_STAT_SRC_DROP = 1 ∧ t.fld
    F.BAT_CNT1_SRC_DROPS = min (s.fld F.BAT_CNT1_SRC_DROPS + 1) 65535 ∧ t.bat = s.bat ∧ t.sent = s.sent) ∧
  (∀ (s : State) (pt : Fin 2) (k : Fin 4) (h : RxFrame) (x : BatIn) (y : Sess), s.batonOn pt.val k.val = true → s.frameIn
    pt.val k.val h = some x → x.type = 1 → s.match' x = some y → (x.len % 64 ≠ 0 ∨ x.len < 64 ∨ 8192 < x.len ∨ x.ofs % 64 ≠
    0 ∨ y.e < x.ofs + x.len) → Runs (.dataFrame pt k h) s fun t => t.sent = (s.sendAck0 y 0 stRange).sent ∧ t.bat.ports =
    (s.sendAck0 y 0 stRange).bat.ports ∧ t.regs = s.regs ∧ t.mem = s.mem) ∧
  (∀ (s : State) (pt : Fin 2) (k : Fin 4) (h : RxFrame) (x : BatIn) (y : Sess), s.batonOn pt.val k.val = true → s.frameIn
    pt.val k.val h = some x → x.type = 1 → s.match' x = some y → x.len % 64 = 0 → 64 ≤ x.len → x.len ≤ 8192 → x.ofs % 64 = 0
    → x.ofs + x.len ≤ y.e → x.ofs = y.rx → (s.netPort pt.val).fill + x.len ≤ 8388608 → Runs (.dataFrame pt k h) s fun t =>
    (t.netPort pt.val).buf = (s.netPort pt.val).buf ++ [⟨x.skey, x.ofs, x.body⟩] ∧ (∃ z, t.session x.skey = some z ∧ z.rx =
    y.rx + x.len ∧ z.mac = x.mac ∧ z.pt = pt.val ∧ z.link = k.val ∧ z.got = some s.tm.tb) ∧ t.bat.grants = s.bat.grants ∧
    t.mem = s.mem) ∧
  (∀ (s : State) (pt : Fin 2) (k : Fin 4) (h : RxFrame) (x : BatIn) (y : Sess), s.batonOn pt.val k.val = true → s.frameIn
    pt.val k.val h = some x → x.type = 1 → s.match' x = some y → x.len % 64 = 0 → 64 ≤ x.len → x.len ≤ 8192 → x.ofs % 64 = 0
    → x.ofs + x.len ≤ y.e → x.ofs = y.rx → 8388608 < (s.netPort pt.val).fill + x.len → Runs (.dataFrame pt k h) s fun t =>
    t.fld F.BAT_STAT_BUF_DROP = 1 ∧ t.fld F.BAT_CNT1_BUF_DROPS = min (s.fld F.BAT_CNT1_BUF_DROPS + 1) 65535 ∧ t.bat = s.bat
    ∧ t.sent = s.sent) ∧
  (∀ (s : State) (pt : Fin 2) (k : Fin 4) (h : RxFrame) (x : BatIn) (y : Sess), s.batonOn pt.val k.val = true → s.frameIn
    pt.val k.val h = some x → x.type = 1 → s.match' x = some y → x.len % 64 = 0 → 64 ≤ x.len → x.len ≤ 8192 → x.ofs % 64 = 0
    → x.ofs + x.len ≤ y.e → x.ofs < y.rx → Runs (.dataFrame pt k h) s fun t => (s.inTime y.told = true → t = s) ∧ (s.inTime
    y.told = false → t.sent = (s.sendAck0 { y with told := some s.tm.tb } 8 stOk).sent ∧ t.session x.skey = some
    { y with told := some s.tm.tb, last := s.acked y, due := false } ∧ t.regs = s.regs ∧ t.mem = s.mem)) ∧
  (∀ (s : State) (pt : Fin 2) (k : Fin 4) (h : RxFrame) (x : BatIn) (y : Sess), s.batonOn pt.val k.val = true → s.frameIn
    pt.val k.val h = some x → x.type = 1 → s.match' x = some y → x.len % 64 = 0 → 64 ≤ x.len → x.len ≤ 8192 → x.ofs % 64 = 0
    → x.ofs + x.len ≤ y.e → y.rx < x.ofs → Runs (.dataFrame pt k h) s fun t => (s.inTime y.told = true → t = s) ∧ (s.inTime
    y.told = false → t.sent = (s.sendAck0 { y with told := some s.tm.tb } 4 stOk).sent ∧ t.session x.skey = some
    { y with told := some s.tm.tb, last := s.acked y, due := false } ∧ t.regs = s.regs ∧ t.mem = s.mem)) ∧
  (∀ (s : State) (pt : Fin 2) (b : Buffered) (l : List Buffered) (x : Sess) (a : Nat), s.live = true → s.awake 0x22 = true
    → (s.netPort pt.val).buf = b :: l → s.session b.skey = some x → b.ofs = s.acked x → a = (s.grant x.slot).base + b.ofs →
    s.landsActive a b.data.length = false → ((s.grant x.slot).kind = 1 → s.segActiveNow (s.grant x.slot).seg = false) →
    s.landsFenced a b.data.length = false → s.landsBusy a b.data.length = false → (∃ r ∈ (s.grant x.slot).ranges, r.a = x.a
    ∧ r.e = x.e) → Runs (.dataCommit pt) s fun t => t.mem.dram = (s.dramPut a b.data).mem.dram ∧ t.mem.track = s.mem.track ∧
    (s.acked x + b.data.length ≠ x.e → (t.netPort pt.val).buf = l ∧ t.grant x.slot = { s.grant x.slot with ranges := (s.grant x.slot).ranges.map (fun r => if r.a = x.a ∧ r.e = x.e then { r with acked := r.acked + b.data.length } else r) })) ∧
  (∀ (s : State) (pt : Fin 2) (b : Buffered) (x : Sess) (a : Nat), s.live = true → s.awake 0x22 = true → (s.netPort
    pt.val).buf = [b] → s.session b.skey = some x → b.ofs = s.acked x → a = (s.grant x.slot).base + b.ofs → s.landsActive a
    b.data.length = false → ((s.grant x.slot).kind = 1 → s.segActiveNow (s.grant x.slot).seg = false) → s.landsFenced a
    b.data.length = false → s.landsBusy a b.data.length = false → (s.grant x.slot).ranges =
    [⟨x.a, x.e, x.e - b.data.length⟩] → x.a = 0 → b.data.length ≤ x.e → (s.grant x.slot).len = x.e → Runs (.dataCommit pt) s
    fun t => t.session b.skey = none ∧ (t.grant x.slot).ranges = [] ∧ (t.grant x.slot).gens = ((s.grant x.slot).gens + 1) %
    65536 ∧ t.mem.dram = (s.dramPut a b.data).mem.dram ∧ ((s.grant x.slot).kind = 1 → (s.seg (s.grant x.slot).seg).refill =
    true → (t.seg (s.grant x.slot).seg).ready = true ∧ (t.seg (s.grant x.slot).seg).gen = ((s.seg (s.grant x.slot).seg).gen
    + 1) % 65536)) ∧
  (∀ (s : State) (pt : Fin 2) (b : Buffered) (l : List Buffered) (x : Sess) (a : Nat), s.live = true → s.awake 0x22 = true
    → (s.netPort pt.val).buf = b :: l → s.session b.skey = some x → b.ofs = s.acked x → a = (s.grant x.slot).base + b.ofs →
    (s.landsActive a b.data.length = true ∨ ((s.grant x.slot).kind = 1 ∧ s.segActiveNow (s.grant x.slot).seg = true) ∨
    s.landsFenced a b.data.length = true) → Runs (.dataCommit pt) s fun t => t.fld F.BAT_STAT_NACK = 1 ∧ t.fld
    F.BAT_CNT0_NACK_COUNT = min (s.fld F.BAT_CNT0_NACK_COUNT + 1) 65535 ∧ (∃ z, t.session b.skey = some z ∧ z.rx = s.acked
    x) ∧ t.bat.grants = s.bat.grants ∧ t.mem = s.mem) ∧
  (∀ (s : State) (pt : Fin 2) (b : Buffered) (l : List Buffered) (x : Sess), s.live = true → s.awake 0x22 = true →
    (s.netPort pt.val).buf = b :: l → s.session b.skey = some x → b.ofs ≠ s.acked x → Runs (.dataCommit pt) s fun t => t = s)

/-- BATQ records: grants, revocation, retirement, destinations, the mark, and the engine's disabling (R254, R255, R256,
R259, R267, R271, R295). -/
def Obligations.BatonRecords : Prop :=
  (∀ (s : State) (w : Word) (p : Bool), s.takes 0xD0040 w p = true → bitOf s.q.upset 10 = false → Does (.batqWordWrite w p)
    s fun t => ((s.getQ 10).part.length < 15 → t.getQ 10 = { s.getQ 10 with part := (s.getQ 10).part ++ [w] }) ∧ ((s.getQ
    10).part.length = 15 → t.getQ 10 = { s.getQ 10 with recs := (s.getQ 10).recs ++ [(s.getQ 10).part ++ [w]], part := [] })
    ∧ t.bat = s.bat) ∧
  (∀ (s : State) (r : Rec) (l : List Rec) (b : List Byte), s.live = true → s.awake 0x22 = true → (s.getQ 10).recs = r :: l
    → b = recBytes r → leField b 0 1 = 1 → batqClean b = true → leField b 4 2 ≤ 1023 → 1 ≤ leField b 12 1 → leField b 12 1 ≤
    16 → s.fld F.PLAN_STAT_PRESENT = 1 → (s.grant (leField b 4 2)).kind = 0 → (s.bat.grants.any (fun c => decide (c.2.kind =
    1) && decide (c.2.seg = leField b 6 2)) = false) → (s.seg (leField b 6 2)).slen16 ≠ 0 → (s.seg (leField b 6 2)).dram =
    true → Runs (.grantSeg none) s fun t => t.grant (leField b 4 2) = ⟨1, leField b 6 2, leField b 8 4, leField b 12 1, 64 *
    (s.seg (leField b 6 2)).base, s.segBytes (leField b 6 2), 0, []⟩ ∧ (∀ i : Fin 1024, i.val ≠ leField b 4 2 → t.grant
    i.val = s.grant i.val) ∧ t.bat.sess = s.bat.sess ∧ t.mem = s.mem ∧ (t.getQ 10).recs = l ∧ t.rd 0xD004C = BitVec.ofNat 32
    (1 + 2 ^ 8 * stOk + 2 ^ 16 * leField b 2 2)) ∧
  (∀ (s : State) (r : Rec) (l : List Rec) (b : List Byte), s.live = true → s.awake 0x22 = true → (s.getQ 10).recs = r :: l
    → b = recBytes r → leField b 0 1 = 2 → batqClean b = true → leField b 4 2 ≤ 1023 → 1 ≤ leField b 12 1 → leField b 12 1 ≤
    16 → leField b 16 8 % 64 = 0 → leField b 24 8 % 64 = 0 → 0 < leField b 24 8 → (s.grant (leField b 4 2)).kind = 0 →
    s.resBytes ≤ leField b 16 8 → leField b 16 8 + leField b 24 8 ≤ s.resBytes + s.heatBytes → s.usedSegs = [] → Runs
    (.grantRegion none) s fun t => t.grant (leField b 4 2) = ⟨2, 0, leField b 8 4, leField b 12 1, leField b 16 8, leField b
    24 8, 0, []⟩ ∧ (∀ i : Fin 1024, i.val ≠ leField b 4 2 → t.grant i.val = s.grant i.val) ∧ t.bat.sess = s.bat.sess ∧ t.mem
    = s.mem ∧ (t.getQ 10).recs = l ∧ t.rd 0xD004C = BitVec.ofNat 32 (2 + 2 ^ 8 * stOk + 2 ^ 16 * leField b 2 2)) ∧
  (∀ (s : State) (r : Rec) (l : List Rec) (b : List Byte), s.live = true → s.awake 0x22 = true → (s.getQ 10).recs = r :: l
    → b = recBytes r → leField b 0 1 = 3 → batqClean b = true → leField b 4 2 ≤ 1023 → (s.grant (leField b 4 2)).kind ≠ 0 →
    Runs (.revoke none) s fun t => t.grant (leField b 4 2) = (⟨0, 0, 0, 0, 0, 0, 0, []⟩ : Grant) ∧ (∀ y ∈ t.bat.sess, y.slot
    ≠ leField b 4 2) ∧ t.mem = s.mem ∧ (t.getQ 10).recs = l ∧ t.rd 0xD004C = BitVec.ofNat 32 (3 + 2 ^ 8 * stOk + 2 ^ 16 *
    leField b 2 2)) ∧
  (∀ (s : State) (r : Rec) (l : List Rec) (b : List Byte) (y : Sess), s.live = true → s.awake 0x22 = true → (s.getQ
    10).recs = r :: l → b = recBytes r → leField b 0 1 = 4 → batqClean b = true → s.session (leField b 8 4) = some y → Runs
    (.retire none) s fun t => t.session (leField b 8 4) = none ∧ t.bat.grants = s.bat.grants ∧ t.mem = s.mem ∧ (t.getQ
    10).recs = l ∧ t.rd 0xD004C = BitVec.ofNat 32 (4 + 2 ^ 8 * stOk + 2 ^ 16 * leField b 2 2)) ∧
  (∀ (s : State) (r : Rec) (l : List Rec) (b : List Byte), s.live = true → s.awake 0x22 = true → (s.getQ 10).recs = r :: l
    → b = recBytes r → leField b 0 1 = 5 → batqClean b = true → leField b 4 1 ≤ 4 → s.hasOther (leField b 5 1 / 4) = true →
    linkExists (s.fld (F.NET_CTRL_MODE (leField b 5 1 / 4))) (leField b 5 1 % 4) = true → Runs (.outDest none) s fun t =>
    t.dest (leField b 4 1) =
    (if bitOf (leField b 6 1) 4 then none else some ⟨leField b 5 1 / 4, leField b 5 1 % 4, leField b 6 1 % 8, bitOf (leField b 6 1) 3, leField b 8 2, leField b 10 2, leField b 12 4, leField b 16 2, beNat ((b.drop 18).take 6), beNat ((b.drop 24).take 16), leField b 40 2⟩)
    ∧ bitOf (t.fld F.BAT_OSTAT_DEST) (leField b 4 1) = !bitOf (leField b 6 1) 4 ∧ t.mem = s.mem ∧ (t.getQ 10).recs = l ∧
    t.rd 0xD004C = BitVec.ofNat 32 (5 + 2 ^ 8 * stOk + 2 ^ 16 * leField b 2 2)) ∧
  (∀ (s : State) (r : Rec) (l : List Rec) (b : List Byte), s.live = true → s.awake 0x22 = true → (s.getQ 10).recs = r :: l
    → b = recBytes r → leField b 0 1 = 6 → batqClean b = true → Runs (.batqMark none) s fun t => t.bat = s.bat ∧ t.mem =
    s.mem ∧ (t.getQ 10).recs = l ∧ t.rd 0xD004C = BitVec.ofNat 32 (6 + 2 ^ 8 * stOk + 2 ^ 16 * leField b 2 2)) ∧
  (∀ (s : State) (r : Rec) (l : List Rec) (w : Fin 16) (c : Nat × Instr), c ∈
    [(1, Instr.grantSeg (some w)), (2, Instr.grantRegion (some w)), (3, Instr.revoke (some w)), (4, Instr.retire (some w)), (5, Instr.outDest (some w)), (6, Instr.batqMark (some w))]
    → s.live = true → s.awake 0x22 = true → (s.getQ 10).recs = r :: l → leField (recBytes r) 0 1 = c.1 → Runs c.2 s fun t =>
    (t.getQ 10).recs = l ∧ t.fld F.GLB_ERR_QECC_ERR = 1 ∧ t.fld F.GLB_ERR_Q_IDX = 10 ∧ t.fld F.BAT_STAT_QREFUSED = 1 ∧ t.rd
    0xD004C = BitVec.ofNat 32 (c.1 + 2 ^ 8 * stCrc + 2 ^ 16 * leField (recBytes r) 2 2) ∧ t.bat = s.bat) ∧
  (∀ (s : State) (w : Word) (p : Bool), s.takes 0xD0000 (setBits 0 1 0 w) p = true → s.fld F.BAT_CTRL_EN = 1 → Runs
    (.engineDisable w p) s fun t => t.fld F.BAT_CTRL_EN = 0 ∧ t.bat.sess = [] ∧ (∀ i : Fin 2, (t.netPort i.val).buf = []) ∧
    t.bat.grants = s.bat.grants ∧ t.mem = s.mem)

/-- Outbound frames of the records and of the rings (R208, R267, R268). -/
def Obligations.OutboundStreams : Prop :=
  (∀ (s : State) (n : Nat), s.streamOpen 0 = true → n = min (s.level 11) (s.outMax / 64) → n ≠ 0 → Runs (.outRec 0 none) s
    fun t => (t.getQ 11).recs = (s.getQ 11).recs.drop n ∧ t.bat.recs = s.bat.recs + n ∧ t.sent = (s.streamSend 0 0x10 (64 *
    s.bat.recs) (((s.getQ 11).recs.take n).flatMap recBytes)).sent ∧ t.fld (F.BAT_OCNT_FRAMES 0) = min (s.fld
    (F.BAT_OCNT_FRAMES 0) + 1) (2 ^ 32 - 1) ∧ t.mem = s.mem) ∧
  (∀ (s : State) (i : Fin 4) (n : Nat), s.streamOpen (i.val + 1) = true → n = min (min (s.ringLvl i.val) (s.outMax / 64))
    (s.fld (F.CAPT_RING_SIZE_SIZE i.val) - s.fld (F.CAPT_RING_RD_RD i.val)) → n ≠ 0 → s.landsBusy (s.getSel (0x2800 + i.val)
    + 64 * s.fld (F.CAPT_RING_RD_RD i.val)) (64 * n) = false → Runs (.outRing i) s fun t => t.fld (F.CAPT_RING_RD_RD i.val)
    = (s.fld (F.CAPT_RING_RD_RD i.val) + n) % s.fld (F.CAPT_RING_SIZE_SIZE i.val) ∧ t.sent = (s.streamSend (i.val + 1) 0x11
    (64 * s.fld (F.CAPT_RING_RD_RD i.val)) (s.dramBytes (s.getSel (0x2800 + i.val) + 64 * s.fld (F.CAPT_RING_RD_RD i.val))
    (64 * n))).sent ∧ t.fld (F.BAT_OCNT_FRAMES (i.val + 1)) = min (s.fld (F.BAT_OCNT_FRAMES (i.val + 1)) + 1) (2 ^ 32 - 1) ∧
    t.mem = s.mem)

/-- Start-up: the RECOVERY strap, a flash without a boot record, and the stages from the reference on (R299, R308, R311,
R367, R368, R385). -/
def Obligations.StartUpRuns : Prop :=
  (∀ (s : State) (e : StartEnv), s.sup.por = true → s.fld F.SUP_STAT_STAGE = 1 → s.fld F.DBG_STAT_FROZEN = 0 → s.fld
    F.DBG_STAT_ASLEEP = 0 → s.sup.frzLow = false → (e.recovery = true ∨ s.curRec = none) → Runs (.startUp e) s fun t =>
    t.fld F.SUP_STAT_STAGE = 0xF ∧ t.fld F.SUP_STAT_PSTATE = 0 ∧ t.fld F.SUP_STAT_RECOVERY = b2n e.recovery ∧ t.sup.por =
    false ∧ (∀ d : Fin 64, t.awake d.val = false) ∧ t.pending = s.pending ∧ (∀ n : Fin 64, t.fld (F.FC_STAT_ON_HOLD n.val) =
    1) ∧ (∀ n : Fin 128, t.fld (F.VP_STAT_ON_HOLD n.val) = 1)) ∧
  (∀ (s : State) (e : StartEnv) (u : State), s.sup.por = false → s.fld F.SUP_STAT_STAGE = 5 → s.fld F.DBG_STAT_FROZEN = 0 →
    s.fld F.DBG_STAT_ASLEEP = 0 → (e.ref = true ∨ s.fld F.CLK_STAT_REF_VALID = 1) → u = ((((s.startRef e).stage5 e).stage6
    e).stage7 e).stage8 e → u.reserveLost = false → u.imageOk = true → Runs (.startUp e) s fun t => t.fld F.SUP_STAT_STAGE =
    0xA ∧ t.fld F.SUP_STAT_PSTATE = 1 ∧ t.fld F.CLK_STAT_REF_VALID = 1 ∧ t.mg.skip = none ∧ t.mem.dram = (u.dramPut (leField
    (u.slotHead (u.fld F.UPD_STAT_SLOT)) 20 8) (u.flashBytes (slotBase (u.fld F.UPD_STAT_SLOT) + leField (u.slotHead (u.fld
    F.UPD_STAT_SLOT)) 12 4) (leField (u.slotHead (u.fld F.UPD_STAT_SLOT)) 16 4))).mem.dram ∧ t.mem.flash = s.mem.flash)

/-- Power-on reset, warm reset, ASLEEP and its wakes (R308, R312, R313, R314, R331, R359, R391, R392). What a warm reset
keeps where R331 is silent, track memory among it, is the model's choice (log 17). -/
def Obligations.ResetsAndSleep : Prop :=
  (∀ (s : State) (c : Instr), (c = .porNLow ∨ c = .brownOut) → s.fld F.UPD_STAT_STAGE = 0 → s.mem.otpJob = none → Runs c s
    fun t => t.sup.por = true ∧ t.regs = [] ∧ t.sq = [] ∧ t.plan = State.reset.plan ∧ t.bat = State.reset.bat ∧ t.q =
    State.reset.q ∧ t.mem.flash = s.mem.flash ∧ t.mem.otp = s.mem.otp ∧ (s.saves = [] → s.mem.pvCut = none → t.mem.pv =
    s.mem.pv) ∧ t.pending = s.pending ∧ (∀ n : Fin 64, t.fld (F.FC_STAT_ON_HOLD n.val) = 1) ∧ (∀ n : Fin 128, t.fld
    (F.VP_STAT_ON_HOLD n.val) = 1)) ∧
  (∀ (s : State) (w : Word) (p : Bool), s.orders F.SUP_RESET_WARM [0] w p = true → s.fld F.UPD_STAT_STAGE = 0 →
    s.mem.otpJob = none → Runs (.warm w p) s fun t => t.fld F.SUP_STAT_STAGE = 2 ∧ t.fld F.SUP_RESET_CAUSE = 2 ∧ t.plan =
    State.reset.plan ∧ t.bat = State.reset.bat ∧ t.mem.track = s.mem.track ∧ t.mem.flash = s.mem.flash ∧ t.mem.otp =
    s.mem.otp ∧ (s.saves = [] → t.mem.pv = s.mem.pv) ∧ t.pending = s.pending ∧ (∀ n : Fin 64, t.fld (F.FC_STAT_ON_HOLD
    n.val) = 1) ∧ (∀ n : Fin 128, t.fld (F.VP_STAT_ON_HOLD n.val) = 1)) ∧
  (∀ (s : State) (w : Word) (p : Bool), s.orders F.SUP_PWR_SLEEP [0] w p = true → s.fld F.SUP_PWR_BUSY = 0 → s.fld
    F.SUP_STAT_PSTATE = 1 → (s.fld F.SUP_WAKE_PIN_EN = 1 ∨ s.fld F.SUP_WAKE_JTAG_EN = 1 ∨ s.fld F.SUP_WAKE_TIMER_EN = 1) →
    (s.fld F.SUP_WAKE_TIMER_EN = 0 ∨ s.fld F.SUP_WAKE_TIMER_MS ≠ 0) → Runs (.sleep w p) s fun t => t.fld F.SUP_PWR_BUSY = 1
    ∧ t.fld F.SUP_PWR_STATUS = s.fld F.SUP_PWR_STATUS ∧ t.mem = s.mem) ∧
  (∀ (s : State) (w : Word) (p : Bool), s.orders F.SUP_PWR_SLEEP [0] w p = true → s.fld F.SUP_PWR_BUSY = 0 → (s.fld
    F.SUP_STAT_PSTATE ≠ 1 ∨ (s.fld F.SUP_WAKE_PIN_EN = 0 ∧ s.fld F.SUP_WAKE_JTAG_EN = 0 ∧ s.fld F.SUP_WAKE_TIMER_EN = 0) ∨
    (s.fld F.SUP_WAKE_TIMER_EN = 1 ∧ s.fld F.SUP_WAKE_TIMER_MS = 0)) → Runs (.sleep w p) s fun t => t.fld F.SUP_PWR_BUSY = 0
    ∧ t.fld F.SUP_PWR_STATUS = (if s.fld F.SUP_STAT_PSTATE = 1 then stRange else stState) ∧ t.mem = s.mem) ∧
  (∀ (s : State), s.live = true → s.fld F.SUP_PWR_BUSY = 1 → Runs .enterAsleep s fun t => t.fld F.DBG_STAT_ASLEEP = 1 ∧
    t.fld F.SUP_PWR_BUSY = 0 ∧ t.fld F.SUP_PWR_STATUS = stOk ∧ (∀ d : Fin 64, t.awake d.val = false) ∧ (∀ c : Fin 8, s.awake
    (0x18 + c.val) = true → t.flag (selfRef c.val) = true) ∧ (∀ m : Fin 512, t.flag (retFld m.val) = true) ∧ t.fld
    F.TRK_STAT_AWAKE = 0 ∧ t.mem = s.mem ∧ t.live = false ∧ (∀ n : Fin 64, t.fld (F.FC_STAT_ON_HOLD n.val) = 1) ∧ (∀ n : Fin
    128, t.fld (F.VP_STAT_ON_HOLD n.val) = 1)) ∧
  (∀ (s : State), s.live = true → s.fld F.SUP_PWR_BUSY = 1 → Runs .sleepTimeout s fun t => t.fld F.SUP_PWR_BUSY = 0 ∧ t.fld
    F.SUP_PWR_STATUS = stTimeout ∧ t = { s with regs := t.regs }) ∧
  (∀ (s : State) (x : Instr × Nat × Fld), x ∈
    [(Instr.wakePin, 1, F.SUP_WAKE_PIN_EN), (Instr.wakeTimer, 2, F.SUP_WAKE_TIMER_EN), (Instr.wakeJtag, 3, F.SUP_WAKE_JTAG_EN)]
    → s.asleep = true → s.fld x.2.2 = 1 → s.fld F.CLK_STAT_REF_VALID = 0 → Runs x.1 s fun t => t.fld F.DBG_STAT_ASLEEP = 0 ∧
    t.fld F.SUP_WAKE_LAST = x.2.1 ∧ t.sup = { s.sup with wakeWait := true } ∧ t.mem = s.mem ∧ t.q = s.q) ∧
  (∀ (s : State) (x : Instr × Nat × Fld) (u : State), x ∈
    [(Instr.wakePin, 1, F.SUP_WAKE_PIN_EN), (Instr.wakeTimer, 2, F.SUP_WAKE_TIMER_EN), (Instr.wakeJtag, 3, F.SUP_WAKE_JTAG_EN)]
    → s.asleep = true → s.fld x.2.2 = 1 → s.fld F.CLK_STAT_REF_VALID = 1 →
    (u = s.enabled.foldl (fun t c => if t.flag (selfRef c) && !t.fenced c then t.leaveSelfRef c else t) { (s.put F.DBG_STAT_ASLEEP 0).put F.SUP_WAKE_LAST x.2.1 with sup := { s.sup with wakeWait := false } })
    → leField (u.dramBytes 0 8) 0 8 = 0x524553554D450001 → Runs x.1 s fun t => t.fld F.DBG_STAT_ASLEEP = 0 ∧ t.fld
    F.SUP_WAKE_LAST = x.2.1 ∧ t.mem.dram = (u.dramPut 0 (List.replicate 8 0)).mem.dram ∧ t.mem.flash = s.mem.flash ∧ t.fld
    F.SUP_STAT_STAGE = s.fld F.SUP_STAT_STAGE ∧ (∀ c : Fin 8, s.enabled.contains c.val = true → s.fenced c.val = false →
    t.flag (selfRef c.val) = false))

/-- Waking and sleeping a power domain by command (R24, R25, R161, R249, R316). -/
def Obligations.DomainCommands : Prop :=
  (∀ (s : State) (w : Word) (p : Bool), s.orders F.SUP_DOM_CMD_WAKE [8, 9] w p = true → s.fld F.SUP_DOM_CMD_BUSY = 0 →
    domCmdCode (getBits 0 6 w) = true → s.domPresent (getBits 0 6 w) = true → ((s.groupOf (getBits 0 6 w)).any (fun e =>
    s.monUses e) = false) → Runs (.domainWake w p) s fun t => bitOf t.sup.stay (getBits 0 6 w) = true ∧ (s.awake (getBits 0
    6 w) = true → t.fld F.SUP_DOM_CMD_STATUS = stOk ∧ t.fld F.SUP_DOM_CMD_BUSY = 0) ∧ (s.awake (getBits 0 6 w) = false →
    t.fld F.SUP_DOM_CMD_BUSY = 1 ∧ t.sup.domJob = some (getBits 0 6 w) ∧ bitOf t.sup.waking (getBits 0 6 w) = true) ∧ t.mem
    = s.mem) ∧
  (∀ (s : State) (w : Word) (p : Bool) (c : Instr), ((c = .domainWake w p ∧ s.orders F.SUP_DOM_CMD_WAKE [8, 9] w p = true)
    ∨ (c = .domainSleep w p ∧ s.orders F.SUP_DOM_CMD_SLEEP [8, 9] w p = true)) → s.fld F.SUP_DOM_CMD_BUSY = 0 → (domCmdCode
    (getBits 0 6 w) = false ∨ s.domPresent (getBits 0 6 w) = false) → Runs c s fun t => t.fld F.SUP_DOM_CMD_STATUS =
    (if domCmdCode (getBits 0 6 w) then stState else stRange) ∧ t.sup = { s.sup with outEn := t.sup.outEn } ∧ t.mem = s.mem) ∧
  (∀ (s : State) (w : Word) (p : Bool), s.orders F.SUP_DOM_CMD_SLEEP [8, 9] w p = true → s.fld F.SUP_DOM_CMD_BUSY = 0 →
    domCmdCode (getBits 0 6 w) = true → s.domPresent (getBits 0 6 w) = true → ((s.groupOf (getBits 0 6 w)).any (fun e =>
    s.monUses e) = false) → ((s.groupOf (getBits 0 6 w)).any (fun e => bitOf s.sup.owned e) = false) → s.fld
    F.PLAN_STAT_PRESENT = 0 → (getBits 0 6 w = 2 → s.awake 1 = false) → Runs (.domainSleep w p) s fun t => t.awake (getBits
    0 6 w) = false ∧ bitOf t.sup.stay (getBits 0 6 w) = false ∧ t.fld F.SUP_DOM_CMD_STATUS = stOk ∧ t.mem = s.mem) ∧
  (∀ (s : State) (d : BitVec 6) (l : LockInfo), s.live = true → d.toNat ≠ 1 → d.toNat ≠ 2 → bitOf s.sup.waking d.toNat =
    true → s.wakeHeld d.toNat = false → s.maySleep d.toNat = false → (bitOf s.sup.stay 1 = true ∨ s.fld F.CLK_STAT_REF_VALID
    = 1) → s.plan.waitPll = false → s.bus = [] → s.fld F.MBX_STAT_BUSY = 0 → s.fld F.FABRIC_STAT_BUSY = 0 → s.mg.rxq = [] →
    Runs (.domainReady d l) s fun t => (∀ e : Fin 64, (s.groupOf d.toNat).contains e.val = true → bitOf s.sup.waking e.val =
    true → e.val ≠ 1 → e.val ≠ 2 → t.awake e.val = true) ∧ (s.sup.domJob = some d.toNat → t.fld F.SUP_DOM_CMD_STATUS = stOk
    ∧ t.fld F.SUP_DOM_CMD_BUSY = 0) ∧ t.mem = s.mem) ∧
  (∀ (s : State) (d : BitVec 6) (l : LockInfo), s.live = true → d.toNat ≠ 1 → d.toNat ≠ 2 → bitOf s.sup.waking d.toNat =
    true → s.wakeHeld d.toNat = true → s.plan.waitPll = false → s.bus = [] → s.fld F.MBX_STAT_BUSY = 0 → s.fld
    F.FABRIC_STAT_BUSY = 0 → s.mg.rxq = [] → Runs (.domainReady d l) s fun t => t.awake d.toNat = s.awake d.toNat ∧ bitOf
    t.sup.waking d.toNat = true ∧ t.regs = s.regs ∧ t.mem = s.mem) ∧
  (∀ (s : State) (d : BitVec 6) (l : LockInfo), s.live = true → (d.toNat = 1 ∨ d.toNat = 2) → s.clk.relock = .wake → s.fld
    F.CLK_STAT_REF_VALID = 1 → s.plan.waitPll = false → s.bus = [] → s.fld F.MBX_STAT_BUSY = 0 → s.fld F.FABRIC_STAT_BUSY =
    0 → s.mg.rxq = [] → Runs (.domainReady d l) s fun t => t.clk.relock = .none ∧ t.clk.lockN = s.clk.target ∧ t.fld
    F.CLK_STAT_LOCK = 1 ∧ t.fld F.TB_STAT_COUNTING = 1 ∧ t.awake 1 = true ∧ t.awake 2 = true ∧ t.mem = s.mem) ∧
  (∀ (s : State) (d : Nat), s.live = true → s.sup.domJob = some d → Runs .domainWakeTimeout s fun t => t.fld
    F.SUP_DOM_CMD_STATUS = stTimeout ∧ t.fld F.SUP_DOM_CMD_BUSY = 0 ∧ t.sup = { s.sup with domJob := none } ∧ t.mem = s.mem
    ∧ t.q = s.q)

/-- A trip, the bridge fault, supply check and the fault records (R310, R319, R321, R322, R323, R324, R390). AO_US of a
record is that of the last and a free number more (log 6). -/
def Obligations.TemperatureAndFaults : Prop :=
  (∀ (s : State) (i : Fin 16) (v : Int), s.live = true → s.fld F.SUP_STAT_TRIP_NOW = 0 → 960 ≤ v → Runs (.trip i v) s fun t
    => t.fld F.SUP_STAT_TRIP = 1 ∧ t.fld F.SUP_STAT_TRIP_NOW = 1 ∧ t.fld F.PLAN_STAT_PRESENT = 0 ∧ (∀ d : Fin 64, 8 ≤ d.val
    → d.val ≤ 19 → s.domPresent d.val = true → t.awake d.val = false) ∧ t.ev.on = [] ∧ ((∀ i : Fin 32, s.fld (F.PN_CFG_MODE
    i.val) ≠ 2) → t.ev.fires = []) ∧ t.sup.outEn = false ∧ t.mir.fault = true ∧ (s.fld F.PLAN_STAT_PRESENT = 0 →
    s.plan.writing = false → s.logRoom = true → t.lastRec 12 = some (logRec s.tm.tb 0x14 0x01 3 i.val (s.q.aoUs +
    (Config.aoUs s.free).toNat) (unsigned 16 v))) ∧ (∀ n : Fin 64, t.fld (F.FC_STAT_ON_HOLD n.val) = 1) ∧ (∀ n : Fin 128,
    t.fld (F.VP_STAT_ON_HOLD n.val) = 1)) ∧
  (∀ (s : State) (p : Bool), s.live = true → Runs (.bridge p) s fun t => t.fld F.SUP_STAT_BRIDGE = 1 ∧ t.ev.on = [] ∧ ((∀ i
    : Fin 32, s.fld (F.PN_CFG_MODE i.val) ≠ 2) → t.ev.fires = []) ∧ t.sup.outEn = false ∧ t.mir.fault = true ∧ (s.logRoom =
    true → t.lastRec 12 = some (logRec s.tm.tb 0x14 0x04 3 0 (s.q.aoUs + (Config.aoUs s.free).toNat) (b2n p))) ∧ (∀ n : Fin
    64, t.fld (F.FC_STAT_ON_HOLD n.val) = 1) ∧ (∀ n : Fin 128, t.fld (F.VP_STAT_ON_HOLD n.val) = 1)) ∧
  (∀ (s : State) (w : Word) (p : Bool), s.orders F.SUP_MON_CMD_SUPPLY_CHECK [0] w p = true → s.fld F.SUP_MON_CMD_BUSY = 0 →
    Runs (.supplyCheck w p) s fun t => (s.monBusy = true → t.fld F.SUP_MON_CMD_STATUS = stBusy ∧ t.fld F.SUP_MON_CMD_BUSY =
    0) ∧ (s.monBusy = false → t.fld F.SUP_MON_CMD_BUSY = 1 ∧ (t.awake 0x25 = true ∨ bitOf t.sup.waking 0x25 = true)) ∧ t.mem
    = s.mem) ∧
  (∀ (s : State) (v : List Int), s.live = true → s.fld F.SUP_MON_CMD_BUSY = 1 → s.awake 0x25 = true → Runs
    (.supplyCheckDone v) s fun t => t.fld F.SUP_MON_CMD_BUSY = 0 ∧ t.fld F.SUP_MON_CMD_STATUS = stOk ∧ ((∀ i : Fin 13, i.val
    < v.length → railOk i.val (v.getD i.val 0) = true) → t.fld F.SUP_MON_CMD_PASS = 1 ∧ t.q.logq = s.q.logq) ∧ ((∃ i : Fin
    13, i.val < v.length ∧ railOk i.val (v.getD i.val 0) = false) → t.fld F.SUP_MON_CMD_PASS = 0 ∧ t.fld
    F.SUP_STAT_SUPPLY_ERR = 1)) ∧
  (∀ (s : State), s.live = true → s.q.logDrop ≠ 0 → s.q.logHold = [] → s.qFull 12 = false → Runs .logqLostRecord s fun t =>
    t.q.logDrop = 0 ∧ t.lastRec 12 = some (logRec s.tm.tb 0x14 0x08 0 0 (s.q.aoUs + (Config.aoUs s.free).toNat) (s.q.logDrop
    % 2 ^ 32))) ∧
  (∀ (s : State) (x : BusRead) (c : Bool) (y : Bool), s.gives 0x120040 x.p = true → readOk x = true → bitOf s.q.upset 12 =
    false → Runs (.logqRead x c y) s fun t => t.rdata = (lookAcc 0x120040 x c y).part (headWord s.q.logq) ∧ (s.q.logq.rd + 1
    ≠ 8 → t.q.logq = { s.q.logq with rd := s.q.logq.rd + 1 }) ∧ (s.q.logq.rd + 1 = 8 → s.q.logHold = [] → t.q.logq =
    { s.q.logq with recs := s.q.logq.recs.tail, rd := 0 }) ∧ t.fld F.LOGQ_CNT_CORR_COUNT =
    (if c then min (s.fld F.LOGQ_CNT_CORR_COUNT + 1) 65535 else s.fld F.LOGQ_CNT_CORR_COUNT) ∧ (y = true → t.fld
    F.GLB_ERR_QECC_ERR = 1 ∧ t.fld F.GLB_ERR_Q_IDX = 12))

/-- Freeze by pin and by register, what it holds, and its release (R325, R326, R327, R330, R331, R280, R282). FREEZE_N at
the edge of stage 1 of a power-on reset is held until the reset ends (log 17). -/
def Obligations.FreezeAndRelease : Prop :=
  (∀ (s : State), (s.sup.por = false ∨ s.fld F.SUP_STAT_STAGE ≠ 1) → s.fld F.DBG_STAT_FROZEN = 0 → Runs .freezePin s fun t
    => t.fld F.DBG_STAT_FRZ_PIN = 1 ∧ t.sup.frzLow = true ∧ t.fld F.DBG_STAT_FROZEN = 1 ∧ t.fld F.DBG_STAT_RING_VALID = 1 ∧
    t.ringWord 0 = BitVec.ofNat 32 s.tm.tb ∧ t.ringWord 1 = BitVec.ofNat 32 (s.tm.tb / 2 ^ 32) ∧ t.tm.tb = s.tm.tb ∧ (∀ c :
    Fin 8, s.enabled.contains c.val = true → s.flag (retrainBit c.val) = false → s.fenced c.val = false → s.awake (0x18 +
    c.val) = true → t.flag (selfRef c.val) = true) ∧ (∀ n : Fin 64, t.fld (F.FC_STAT_ON_HOLD n.val) = 1) ∧ (∀ n : Fin 128,
    t.fld (F.VP_STAT_ON_HOLD n.val) = 1)) ∧
  (∀ (s : State), (s.sup.por = true ∧ s.fld F.SUP_STAT_STAGE = 1) → Runs .freezePin s fun t => t =
    { s with sup := { s.sup with frzLow := true } }) ∧
  (∀ (s : State) (w : Word) (p : Bool), s.orders F.DBG_FREEZE_FREEZE [0] w p = true → Runs (.freeze w p) s fun t => t.fld
    F.DBG_STAT_FRZ_REG = 1 ∧ t.fld F.DBG_STAT_FROZEN = 1 ∧ t.fld F.DBG_STAT_RING_VALID = 1 ∧ t.ringWord 0 = BitVec.ofNat 32
    s.tm.tb ∧ t.ringWord 1 = BitVec.ofNat 32 (s.tm.tb / 2 ^ 32) ∧ t.tm.tb = s.tm.tb ∧ (∀ c : Fin 8, s.enabled.contains c.val
    = true → s.flag (retrainBit c.val) = false → s.fenced c.val = false → s.awake (0x18 + c.val) = true → t.flag (selfRef
    c.val) = true) ∧ (∀ n : Fin 64, t.fld (F.FC_STAT_ON_HOLD n.val) = 1) ∧ (∀ n : Fin 128, t.fld (F.VP_STAT_ON_HOLD n.val) =
    1)) ∧
  (∀ (s : State), (s.sup.por = false ∨ s.fld F.SUP_STAT_STAGE ≠ 1) → s.fld F.DBG_STAT_FROZEN = 1 → Runs .freezePin s fun t
    => t = { s.put F.DBG_STAT_FRZ_PIN 1 with sup := { s.sup with frzLow := true } }) ∧
  (∀ (s : State), s.sup.frzLow = true → s.fld F.DBG_STAT_FROZEN = 1 → s.fld F.DBG_STAT_FRZ_REG = 0 → s.fld F.UPD_STAT_STAGE
    = 0 → Runs .freezePinRelease s fun t => t.fld F.SUP_STAT_STAGE = 2 ∧ t.fld F.SUP_RESET_CAUSE = 1 ∧ t.fld
    F.DBG_STAT_FROZEN = 0 ∧ t.fld F.DBG_STAT_RING_VALID = s.fld F.DBG_STAT_RING_VALID ∧ t.sup.ring = s.sup.ring ∧
    t.sup.frzLow = false ∧ t.mem.flash = s.mem.flash) ∧
  (∀ (s : State), (s.fld F.DBG_STAT_FROZEN = 0 ∨ s.fld F.DBG_STAT_FRZ_REG = 1) → Runs .freezePinRelease s fun t => t =
    { s with sup := { s.sup with frzLow := false } }) ∧
  (∀ (s : State) (w : Word) (p : Bool), s.sup.por = false → s.fld F.DBG_STAT_FROZEN = 1 → s.sup.frzLow = false → s.fld
    F.UPD_STAT_STAGE = 0 → Runs (.release w p) s fun t => t.fld F.DBG_CTRL_STATUS = stOk ∧ t.fld F.SUP_STAT_STAGE = 2 ∧
    t.fld F.SUP_RESET_CAUSE = 1 ∧ t.fld F.DBG_STAT_FROZEN = 0 ∧ t.fld F.DBG_STAT_RING_VALID = s.fld F.DBG_STAT_RING_VALID ∧
    t.sup.ring = s.sup.ring ∧ t.sup.frzLow = false ∧ t.mem.flash = s.mem.flash) ∧
  (∀ (s : State) (w : Word) (p : Bool), s.sup.por = false → s.fld F.DBG_STAT_FROZEN = 1 → s.sup.frzLow = true → Runs
    (.release w p) s fun t => t = s.put F.DBG_CTRL_STATUS stState) ∧
  (∀ (s : State) (w : Word) (p : Bool), s.takes 0x160004 (setBits 0 1 1 w) p = true → Runs (.release w p) s fun t => t.fld
    F.DBG_CTRL_STATUS = stState ∧ t.fld F.DBG_STAT_FROZEN = 0 ∧ t.mem = s.mem) ∧
  (∀ (s : State) (x : BusRead), s.fld F.DBG_STAT_FROZEN = 1 → readOk x = true → Runs (.ringDataRead x) s fun t => t.rdata =
    (lookAcc 0x160010 x false false).part (s.ringWord (s.fld F.DBG_RING_ADDR_WORD)) ∧ t.fld F.DBG_RING_ADDR_WORD = (s.fld
    F.DBG_RING_ADDR_WORD + 1) % 128 ∧ t.sup = s.sup ∧ t.mem = s.mem) ∧
  (∀ (s : State) (x : BusRead), s.gives 0x160010 x.p = true → readOk x = true → Runs (.ringDataRead x) s fun t => t.rdata =
    (lookAcc 0x160010 x false false).part (s.ringWord (s.fld F.DBG_RING_ADDR_WORD)) ∧ t.fld F.DBG_RING_ADDR_WORD = (s.fld
    F.DBG_RING_ADDR_WORD + 1) % 128)

/-- The instructions of the test access port and its register accesses (R274, R280, R326, R327, R328, R329). -/
def Obligations.TestAccessPort : Prop :=
  (∀ (s : State) (c : Instr), (c = .tapReset ∨ c = .idcode) → Runs c s fun t => t =
    { s with sup := { s.sup with ir := 1, irOut := (if c = .idcode then 1 + 4 * s.fld F.DBG_STAT_FROZEN else s.sup.irOut), dr := 2 ^ 28 * (s.fld F.GLB_ID_STEP % 16) + 0x09648367, boundaryDrive := false } }) ∧
  (∀ (s : State), Runs .extest s fun t => t =
    { s with free := t.free, sup := { s.sup with irOut := 1 + 4 * s.fld F.DBG_STAT_FROZEN, ir := 0, dr := t.sup.dr, boundaryDrive := s.flag F.DBG_STAT_FROZEN } }
    ∧ (s.flag F.DBG_STAT_FROZEN = false → t.sup.dr = 0 ∧ t.free = s.free)) ∧
  (∀ (s : State) (b : List Bool), Runs (.samplePreload b) s fun t => t =
    { s with free := t.free, sup := { s.sup with irOut := 1 + 4 * s.fld F.DBG_STAT_FROZEN, ir := 2, dr := t.sup.dr, boundary := b, boundaryDrive := false } }) ∧
  (∀ (s : State), Runs .stateRing s fun t => t.sup.ir = 0x20 ∧ t.sup.irOut = 1 + 4 * s.fld F.DBG_STAT_FROZEN ∧ (∀ k : Fin
    128, t.sup.dr / 2 ^ (32 * k.val) % 2 ^ 32 = (s.ringWord k.val).toNat) ∧ t.sup.ring = s.sup.ring ∧ t.regs = s.regs) ∧
  (∀ (s : State) (b : Byte), [0x00, 0x01, 0x02, 0x20, 0x21].contains b.toNat = false → Runs (.bypass b) s fun t => t =
    { s with sup := { s.sup with irOut := 1 + 4 * s.fld F.DBG_STAT_FROZEN, ir := b.toNat, dr := 0, boundaryDrive := false } }) ∧
  (∀ (s : State) (n : BitVec 64) (c : Bool) (e : Bool), s.sup.por = false → s.sup.accDone = false → Runs (.dbgAccess ⟨n, c,
    e⟩) s fun t => t =
    { s with sup := { s.sup with irOut := 1 + 4 * s.fld F.DBG_STAT_FROZEN, ir := 0x21, dr := s.accCapture, boundaryDrive := false } }) ∧
  (∀ (s : State) (n : BitVec 64) (c : Bool) (e : Bool), s.gives (n.toNat / 2 ^ 32 % 2 ^ 24) true = true → (n.toNat / 2 ^ 32
    % 2 ^ 24) < 0x10000 → bitOf n.toNat 56 = false → s.sup.accDone = true → Runs (.dbgAccess ⟨n, c, e⟩) s fun t =>
    t.sup.accDone = true ∧ t.sup.accA = n.toNat / 2 ^ 32 % 2 ^ 24 ∧ t.sup.accErr = false ∧ t.sup.accD = s.cfgRead (n.toNat /
    2 ^ 32 % 2 ^ 24) ∧ t.mem = s.mem) ∧
  (∀ (s : State) (n : BitVec 64) (c : Bool) (e : Bool), s.opens 0x10 true = true → (n.toNat / 2 ^ 32 % 2 ^ 24) = 0x10 →
    bitOf n.toNat 56 = true → s.sup.accDone = true → Runs (.dbgAccess ⟨n, c, e⟩) s fun t => t.sup.accDone = true ∧
    t.sup.accA = n.toNat / 2 ^ 32 % 2 ^ 24 ∧ t.sup.accErr = false ∧ t.rd 0x10 = BitVec.ofNat 32 n.toNat ∧ t.mem = s.mem) ∧
  (∀ (s : State) (n : BitVec 64) (c : Bool) (e : Bool), s.fld F.DBG_STAT_FROZEN = 1 → (n.toNat / 2 ^ 32 % 2 ^ 24) / 0x10000
    ≠ 0x16 → s.sup.accDone = true → Runs (.dbgAccess ⟨n, c, e⟩) s fun t => t.sup.accDone = true ∧ t.sup.accA = n.toNat / 2 ^
    32 % 2 ^ 24 ∧ t.sup.accErr = true ∧ t.sup.accD = 0 ∧ t.fld F.DBG_STAT_ACC_FROZEN = 1 ∧ t.mem = s.mem ∧ t.bus = s.bus) ∧
  (∀ (s : State) (n : BitVec 64) (c : Bool) (e : Bool), s.fld F.DBG_STAT_FROZEN = 1 → (n.toNat / 2 ^ 32 % 2 ^ 24) =
    0x160000 → bitOf n.toNat 56 = false → s.sup.accDone = true → Runs (.dbgAccess ⟨n, c, e⟩) s fun t => t.sup.accDone = true
    ∧ t.sup.accA = n.toNat / 2 ^ 32 % 2 ^ 24 ∧ t.sup.accErr = false ∧ t.sup.accD = s.cfgRead 0x160000 ∧ t.regs = s.regs ∧
    t.bus = s.bus)

/-- ALIGN, CAL and SAVE of the alignment (R304, R337, R338, R341, R404). -/
def Obligations.SkewCalibration : Prop :=
  (∀ (s : State) (w : Word) (p : Bool), s.orders F.SYNC_CTRL_ALIGN [1, 2, 3] w p = true → s.fld F.SYNC_CTRL_BUSY = 0 →
    s.fld F.SEQ_STAT_HEAT < 2 → s.fld F.CLK_STAT_LOCK = 1 → Does (.align w p) s fun t => t.fld F.SYNC_CTRL_BUSY = 1 ∧
    t.mir.job = 2 ∧ t.mir.enLow = true ∧ t.sup.outEn = false ∧ (∀ d : Fin 20, 8 ≤ d.val → s.domPresent d.val = true →
    t.awake d.val = true ∨ bitOf t.sup.waking d.val = true) ∧ (∀ n : Fin 64, s.hasK (n.val / 8) = true → s.awake (8 + n.val
    / 8) = true → t.fld (F.FC_STAT_AT_REST n.val) = 0 ∧ t.fld (F.FC_STAT_ON_HOLD n.val) = 0) ∧ t.mem = s.mem) ∧
  (∀ (s : State) (w : Word) (p : Bool), s.orders F.SYNC_CTRL_ALIGN [1, 2, 3] w p = true → s.fld F.SYNC_CTRL_BUSY = 0 → (2 ≤
    s.fld F.SEQ_STAT_HEAT ∨ s.fld F.CLK_STAT_LOCK = 0) → Does (.align w p) s fun t => t.fld F.SYNC_CTRL_STATUS = stState ∧
    t.fld F.SYNC_CTRL_BUSY = 0 ∧ t.mir = s.mir ∧ t.sup = s.sup) ∧
  (∀ (s : State) (l : List Int), s.live = true → s.mir.job = 2 → Does (.alignDone l) s fun t =>
    (∀ j : Fin 352, t.alignTrim j.val = (if s.outPresent j.val && decide ((l.getD j.val 0).natAbs ≤ 200) then l.getD j.val 0 else s.alignTrim j.val))
    ∧ t.fld F.SYNC_STAT_ALIGN_VALID = 1 ∧ (((List.range 352).any (fun j => s.outPresent j && decide (200 < (l.getD j
    0).natAbs))) = true → t.fld F.SYNC_STAT_ALIGN_OOR = 1 ∧ t.fld F.SYNC_CTRL_STATUS = stRange) ∧ (((List.range 352).any
    (fun j => s.outPresent j && decide (200 < (l.getD j 0).natAbs))) = false → t.fld F.SYNC_CTRL_STATUS = stOk) ∧ t.fld
    F.SYNC_CTRL_BUSY = 0 ∧ t.mir.job = 0 ∧ t.mir.enLow = false ∧ (∀ n : Fin 64, s.hasK (n.val / 8) = true → s.awake (8 +
    n.val / 8) = true → t.fld (F.FC_STAT_AT_REST n.val) = 1)) ∧
  (∀ (s : State) (w : Word) (p : Bool), s.orders F.SYNC_CTRL_CAL [1, 2, 3] w p = true → s.fld F.SYNC_CTRL_BUSY = 0 → Does
    (.cal w p) s fun t => (s.fld F.CLK_STAT_LOCK = 1 → t.fld F.SYNC_CTRL_BUSY = 1 ∧ t.mir.job = 1) ∧ (s.fld F.CLK_STAT_LOCK
    = 0 → t.fld F.SYNC_CTRL_STATUS = stState ∧ t.fld F.SYNC_CTRL_BUSY = 0) ∧ t.mem = s.mem) ∧
  (∀ (s : State), s.live = true → s.mir.job = 1 → Runs (.calComplete .none) s fun t => t.fld F.SYNC_STAT_RET_NONE = 1 ∧
    t.fld F.SYNC_CTRL_STATUS = stTimeout ∧ t.fld F.SYNC_CTRL_BUSY = 0 ∧ t.fld F.SYNC_STAT_CAL_VALID = s.fld
    F.SYNC_STAT_CAL_VALID ∧ t.mir.job = 0) ∧
  (∀ (s : State) (r : Nat) (n : Nat), s.live = true → s.mir.job = 1 → r ≤ 65534 → Runs (.calComplete (.rt r n)) s fun t =>
    t.fld F.SYNC_RT_RT = r ∧ (n < 65536 → t.fld F.SYNC_RT_SPREAD = n) ∧ t.fld F.SYNC_STAT_CAL_VALID = 1 ∧ t.fld
    F.SYNC_CNT_CAL_COUNT = min (s.fld F.SYNC_CNT_CAL_COUNT + 1) 65535 ∧ t.fld F.SYNC_CTRL_STATUS = stOk ∧ t.fld
    F.SYNC_CTRL_BUSY = 0 ∧ t.mir.job = 0) ∧
  (∀ (s : State) (r : Nat) (n : Nat), s.live = true → s.mir.job = 1 → 65534 < r → Runs (.calComplete (.rt r n)) s fun t =>
    t.fld F.SYNC_RT_RT = s.fld F.SYNC_RT_RT ∧ t.fld F.SYNC_CTRL_STATUS = stRange ∧ t.fld F.SYNC_CTRL_BUSY = 0 ∧ t.mir.job =
    0) ∧
  (∀ (s : State) (w : Word) (p : Bool) (l : List (Nat × Word)), s.orders F.SYNC_CTRL_SAVE [1, 2, 3] w p = true → s.fld
    F.SYNC_CTRL_BUSY = 0 → (l = s.syncWords.filter (fun x => decide (s.pvWord x.1 ≠ x.2))) → (l.any (fun x => s.pvWorn x.1)
    = false) → Does (.syncSave w p) s fun t => (l ≠ [] → t.fld F.SYNC_CTRL_BUSY = 1 ∧ t.mir.job = 3 ∧ t.saves = s.saves ++
    [⟨F.SYNC_CTRL_BUSY.a, F.SYNC_CTRL_BUSY.lo, F.SYNC_CTRL_STATUS.a, F.SYNC_CTRL_STATUS.lo, l⟩]) ∧ (l = [] → t.fld
    F.SYNC_CTRL_STATUS = stOk ∧ t.saves = s.saves) ∧ t.mem = s.mem) ∧
  (∀ (s : State) (w : Word) (p : Bool) (l : List (Nat × Word)), s.orders F.SYNC_CTRL_SAVE [1, 2, 3] w p = true → s.fld
    F.SYNC_CTRL_BUSY = 0 → (l = s.syncWords.filter (fun x => decide (s.pvWord x.1 ≠ x.2))) → (l.any (fun x => s.pvWorn x.1)
    = true) → Does (.syncSave w p) s fun t => t.fld F.SYNC_CTRL_STATUS = stWorn ∧ t.fld F.SYNC_CTRL_BUSY = 0 ∧ t.saves =
    s.saves ∧ t.mem = s.mem)

/-- Role, link and pair: the frames that make a pair, and messages (R24, R342, R343, R344, R345, R348, R352, R353, R354).
The places of role, PAIR and the fault bit in a heartbeat are the model's (log 8), as is the rate at which the link takes
records (log 13); how many IDLE frames stand before a frame is a free value (log 27). -/
def Obligations.MirrorPair : Prop :=
  (∀ (s : State) (w : Word) (p : Bool), s.takes 0x130000 (setBits 16 1 0 w) p = true → getBits 0 2 w ≠ s.role → Does
    (.roleWrite w p) s fun t => t.role = getBits 0 2 w ∧ t.fld F.MIR_CTRL_GAP = getBits 4 4 w ∧ t.fld F.MIR_CTRL_AUTO_TAKE =
    getBits 8 1 w ∧ (s.fld F.MIR_STAT_HB_NOW = 0 → t.mir.trig = none ∧ t.fld F.MIR_CTRL_BUSY = 0 ∧ (s.mir.byCmd = true →
    t.fld F.MIR_CTRL_STATUS = stState)) ∧ t.mir.taken = false ∧ t.mir.rose = false ∧ (getBits 0 2 w ≠ 0 → t.awake 0x24 =
    true ∨ bitOf t.sup.waking 0x24 = true) ∧ (getBits 0 2 w = 2 → t.sup.outEn = false) ∧ (getBits 0 2 w = 0 → s.mir.fault =
    false → s.mir.enLow = false → s.mir.riseAt = none → t.sup.outEn = true) ∧ t.mem = s.mem) ∧
  (∀ (s : State) (a : BitVec 10) (x : Fin 21), s.live = true → s.awake 0x24 = true → s.role ≠ 0 → s.fld F.MIR_STAT_LINK_UP
    = 0 → Does (.mirrorLinkUp a x) s fun t => t.fld F.MIR_STAT_LINK_UP = 1 ∧ t.fld F.MIR_LAT_LAT_NS = a.toNat ∧ ((a.toNat *
    s.clk.lockN + 3199) / 3200 < 32 → t.fld F.MIR_LAT_LAT_TICKS = (a.toNat * s.clk.lockN + 3199) / 3200) ∧ (32 ≤ (a.toNat *
    s.clk.lockN + 3199) / 3200 → 10 < t.fld F.MIR_LAT_LAT_TICKS) ∧ (s.mir.peer = none → s.pair < 3 → t.pair = 1 ∧ t.fld
    F.MIR_STAT_WHY = 1)) ∧
  (∀ (s : State), s.live = true → s.fld F.MIR_STAT_LINK_UP = 1 → Does .mirrorLinkDown s fun t => t.fld F.MIR_STAT_LINK_UP =
    0 ∧ t.pair = 0 ∧ t.mir.before = s.pair ∧ t.mir.peer = none ∧ t.sq = s.sq) ∧
  (∀ (s : State), s.mirLive = true → Runs .heartbeatSend s fun t => t.sent = s.sent ++
    [⟨2, 0, (BitVec.ofNat 8 1 :: BitVec.ofNat 8 (((s.mir.txSeq + Config.freeNat s.free) % 256)) :: padTo 28 ([BitVec.ofNat 8 (s.role + 4 * s.pair), BitVec.ofNat 8 (b2n s.mir.fault)])) ++ leBytes 2 (crc16 (BitVec.ofNat 8 1 :: BitVec.ofNat 8 (((s.mir.txSeq + Config.freeNat s.free) % 256)) :: padTo 28 ([BitVec.ofNat 8 (s.role + 4 * s.pair), BitVec.ofNat 8 (b2n s.mir.fault)]))).toNat⟩]
    ∧ t.mir = { s.mir with txSeq := (((s.mir.txSeq + Config.freeNat s.free) % 256) + 1) % 256 } ∧ t.regs = s.regs) ∧
  (∀ (s : State), s.mirLive = true → Runs .identSend s fun t => t.sent = s.sent ++
    [⟨2, 0, (BitVec.ofNat 8 2 :: BitVec.ofNat 8 (((s.mir.txSeq + Config.freeNat s.free) % 256)) :: padTo 28 (leBytes 8 (s.getSel 0) ++ leBytes 8 (s.getSel 0x1001) ++ leBytes 8 (s.getSel 0x5400) ++ [BitVec.ofNat 8 (s.fld F.CLK_PLL_PLAN_N), BitVec.ofNat 8 s.role, BitVec.ofNat 8 (s.fld F.SEQ_STAT_HEAT)])) ++ leBytes 2 (crc16 (BitVec.ofNat 8 2 :: BitVec.ofNat 8 (((s.mir.txSeq + Config.freeNat s.free) % 256)) :: padTo 28 (leBytes 8 (s.getSel 0) ++ leBytes 8 (s.getSel 0x1001) ++ leBytes 8 (s.getSel 0x5400) ++ [BitVec.ofNat 8 (s.fld F.CLK_PLL_PLAN_N), BitVec.ofNat 8 s.role, BitVec.ofNat 8 (s.fld F.SEQ_STAT_HEAT)]))).toNat⟩]
    ∧ t.mir = { s.mir with txSeq := (((s.mir.txSeq + Config.freeNat s.free) % 256) + 1) % 256 } ∧ t.regs = s.regs) ∧
  (∀ (s : State) (d : MirIdent), s.mirLive = true → s.fld F.MIR_STAT_HB_NOW = 0 → (¬(s.role = 1 ∧ d.role.toNat = 1 ∧
    (s.mir.taken = true ∨ s.mir.fault = true))) → Does (.ident d) s fun t => t.mir.peer = some
    [d.unitId.toNat, d.planId.toNat, d.fabricId.toNat, d.planN.toNat, d.role.toNat, d.heat.toNat] ∧ (s.pair = 3 ∨ s.pair = 4
    → t.pair = s.pair) ∧
    (s.pair ≠ 3 → s.pair ≠ 4 → t.fld F.MIR_STAT_WHY = (if ¬((s.role = 1 ∧ d.role.toNat = 2) ∨ (s.role = 2 ∧ d.role.toNat = 1)) then 1 else if d.planId.toNat ≠ s.getSel 0x1001 then 2 else if d.fabricId.toNat ≠ s.getSel 0x5400 then 3 else if d.planN.toNat ≠ s.fld F.CLK_PLL_PLAN_N then 4 else if 10 < s.fld F.MIR_LAT_LAT_TICKS then 5 else 0) ∧ t.pair = (if t.fld F.MIR_STAT_WHY = 0 then 2 else 1))) ∧
  (∀ (s : State) (r : BitVec 2) (q : BitVec 3) (p : Bool) (e : Bool), s.mirLive = true → s.fld F.MIR_STAT_HB_NOW = 0 →
    (¬(s.role = 1 ∧ r.toNat = 1 ∧ (s.mir.taken = true ∨ s.mir.fault = true))) → Does (.heartbeat r q p e) s fun t => t.fld
    F.MIR_STAT_PEER_EN = b2n (e && decide (s.role ≠ 0)) ∧ t.fld F.MIR_STAT_PFAULT_NOW = b2n p ∧ t.role = s.role ∧ t.q = s.q) ∧
  (∀ (s : State) (r : BitVec 2) (q : BitVec 3) (p : Bool) (e : Bool), s.mirLive = true → s.fld F.MIR_STAT_HB_NOW = 1 → Does
    (.heartbeat r q p e) s fun t => t.fld F.MIR_STAT_HB_NOW = 0 ∧ (s.mir.trig = some 0 → t.mir.trig = none) ∧ (s.evRoom 0x19
    = true → t.lastRec 8 = some (evRec s.tm.tb 0x19 0x03 (1)))) ∧
  (∀ (s : State) (w : Word) (p : Bool), s.takes 0x130040 w p = true → Does (.mirTxWordWrite w p) s fun t =>
    (s.mir.txPart.length < 7 → t.mir = { s.mir with txPart := s.mir.txPart ++ [w] } ∧ t.sent = s.sent) ∧
    (s.mir.txPart.length = 7 → s.fld F.MIR_STAT_LINK_UP = 1 → t.mir =
    { s.mir with txPart := [], txBuf := s.mir.txBuf ++ [s.mir.txPart ++ [w]] } ∧ t.sent = s.sent) ∧ (s.mir.txPart.length = 7
    → s.fld F.MIR_STAT_LINK_UP = 0 → t.mir.txPart = [] ∧ t.sent = s.sent ∧ t.fld F.MIR_STAT_TX_DROP = 1)) ∧
  (∀ (s : State) (w : Word) (p : Bool), s.opens 0x130040 p = true → s.mir.txPart = [] → 8 ≤ s.mir.txBuf.length → Does
    (.mirTxWordWrite w p) s fun t => t.bus = [wrAcc 0x130040 w p] ∧ t.mir = s.mir ∧ t.sent = s.sent) ∧
  (∀ (s : State) (l : List Word), s.mirLive = true → s.fld F.MIR_STAT_HB_NOW = 0 → s.role = 1 → s.fld F.TB_STAT_COUNTING =
    1 → s.mir.txBuf = [l] → Does .take s fun t => t.mir.txBuf = [] ∧ t.tm.tb = s.tm.tb + 1 ∧ (∃ g : Fin 256, t.sent = s.sent
    ++
    [⟨2, 0, (BitVec.ofNat 8 7 :: BitVec.ofNat 8 (g.val) :: padTo 28 ((l.flatMap (fun x => leBytes 4 x.toNat)).take 16)) ++ leBytes 2 (crc16 (BitVec.ofNat 8 7 :: BitVec.ofNat 8 (g.val) :: padTo 28 ((l.flatMap (fun x => leBytes 4 x.toNat)).take 16))).toNat⟩, ⟨2, 0, (BitVec.ofNat 8 7 :: BitVec.ofNat 8 ((g.val + 1) % 256) :: padTo 28 ((l.flatMap (fun x => leBytes 4 x.toNat)).drop 16)) ++ leBytes 2 (crc16 (BitVec.ofNat 8 7 :: BitVec.ofNat 8 ((g.val + 1) % 256) :: padTo 28 ((l.flatMap (fun x => leBytes 4 x.toNat)).drop 16))).toNat⟩])) ∧
  (∀ (s : State) (l : List Word), s.mirLive = true → s.fld F.MIR_STAT_HB_NOW = 0 → l.length = 8 → bitOf s.q.upset 9 = false
    → Does (.msg l) s fun t => t.getQ 9 = (if s.qFull 9 then s.getQ 9 else { s.getQ 9 with recs := (s.getQ 9).recs ++ [l] })) ∧
  (∀ (s : State) (x : BusRead), s.gives 0x130044 x.p = true → readOk x = true → bitOf s.q.upset 9 = false → Does (.mirqRead
    x false) s fun t => t.rdata = (lookAcc 0x130044 x false false).part (headWord s.q.mirq) ∧ (s.q.mirq.rd + 1 ≠ 8 →
    t.q.mirq = { s.q.mirq with rd := s.q.mirq.rd + 1 }) ∧ (s.q.mirq.rd + 1 = 8 → t.q.mirq =
    { s.q.mirq with recs := s.q.mirq.recs.tail, rd := 0 })) ∧
  (∀ (s : State), s.mirLive = true → Runs .mirrorCrcDrop s fun t => t.fld F.MIR_ERR_CRC_COUNT = min (s.fld
    F.MIR_ERR_CRC_COUNT + 1) 65535 ∧ t = { s with regs := t.regs })

/-- Faults and lost heartbeats trigger a takeover; a takeover makes the follower the leader (R342, R348, R349, R350, R351,
R353, R354). PEER_EN in a tick that nothing sampled is a free value; a trigger that may take over no more ends, a command
with STATE (log 27). -/
def Obligations.Takeover : Prop :=
  (∀ (s : State) (a : Byte) (b : Byte), s.mirLive = true → s.fld F.MIR_STAT_HB_NOW = 0 → Does (.mirFault a b) s fun t =>
    t.fld F.MIR_STAT_PFAULT_NOW = 1 ∧ t.fld F.MIR_STAT_PARTNER_FAULT = 1 ∧ (s.mayTake = true → s.fld F.MIR_CTRL_AUTO_TAKE =
    1 → s.mir.trig = none → t.mir.trig = some 1 ∧ t.mir.byCmd = false ∧ t.fld F.MIR_CTRL_BUSY = 1 ∧ (s.mir.peerAt = some
    s.tm.tb → t.fld F.MIR_STAT_PEER_EN = s.fld F.MIR_STAT_PEER_EN) ∧ t.fld F.MIR_STAT_BLOCKED =
    (if t.fld F.MIR_STAT_PEER_EN = 1 then 1 else s.fld F.MIR_STAT_BLOCKED)) ∧ (s.mayTake = false ∨ s.fld
    F.MIR_CTRL_AUTO_TAKE = 0 ∨ s.mir.trig ≠ none → t.mir = s.mir ∧ t.fld F.MIR_CTRL_BUSY = s.fld F.MIR_CTRL_BUSY) ∧
    (s.evRoom 0x19 = true → t.lastRec 8 = some (evRec s.tm.tb 0x19 0x04 (a.toNat + 2 ^ 8 * b.toNat)))) ∧
  (∀ (s : State), s.live = true → s.role ≠ 0 → s.fld F.MIR_STAT_HB_NOW = 0 → Does .heartbeatLost s fun t => t.fld
    F.MIR_STAT_HB_NOW = 1 ∧ t.fld F.MIR_STAT_HB_LOST = 1 ∧ (s.mayTake = true → s.fld F.MIR_CTRL_AUTO_TAKE = 1 → s.mir.trig =
    none → t.mir.trig = some 0 ∧ t.mir.byCmd = false ∧ t.fld F.MIR_CTRL_BUSY = 1 ∧ (s.mir.peerAt = some s.tm.tb → t.fld
    F.MIR_STAT_PEER_EN = s.fld F.MIR_STAT_PEER_EN) ∧ t.fld F.MIR_STAT_BLOCKED =
    (if t.fld F.MIR_STAT_PEER_EN = 1 then 1 else s.fld F.MIR_STAT_BLOCKED)) ∧ (s.mayTake = false ∨ s.fld
    F.MIR_CTRL_AUTO_TAKE = 0 ∨ s.mir.trig ≠ none → t.mir = s.mir ∧ t.fld F.MIR_CTRL_BUSY = s.fld F.MIR_CTRL_BUSY) ∧
    (s.evRoom 0x19 = true → t.lastRec 8 = some (evRec s.tm.tb 0x19 0x03 (0)))) ∧
  (∀ (s : State), s.mirLive = true → s.fld F.MIR_STAT_HB_NOW = 0 → s.role = 1 → Does .take s fun t => t.mir.taken = true ∧
    t.sup.outEn = false ∧ t.fld F.MIR_STAT_OUT_EN = 0 ∧ t.tm.tb =
    (if s.fld F.TB_STAT_COUNTING = 1 then s.tm.tb + 1 else s.tm.tb)) ∧
  (∀ (s : State) (w : Word) (p : Bool), s.orders F.MIR_CTRL_TAKEOVER [16] w p = true → getBits 0 2 w = s.role → s.fld
    F.MIR_CTRL_BUSY = 0 → s.fld F.MIR_STAT_HB_NOW = 0 → Does (.takeover w p) s fun t => (s.mayTake = true → t.mir.trig =
    some 2 ∧ t.mir.byCmd = true ∧ t.fld F.MIR_CTRL_BUSY = 1 ∧ (s.mir.peerAt = some s.tm.tb → t.fld F.MIR_STAT_PEER_EN =
    s.fld F.MIR_STAT_PEER_EN) ∧ t.fld F.MIR_STAT_BLOCKED =
    (if t.fld F.MIR_STAT_PEER_EN = 1 then 1 else s.fld F.MIR_STAT_BLOCKED) ∧ (s.fld F.MIR_STAT_LINK_UP = 1 → t.sent = s.sent
    ++
    [⟨2, 0, (BitVec.ofNat 8 6 :: BitVec.ofNat 8 (((s.mir.txSeq + Config.freeNat s.free) % 256)) :: padTo 28 ([])) ++ leBytes 2 (crc16 (BitVec.ofNat 8 6 :: BitVec.ofNat 8 (((s.mir.txSeq + Config.freeNat s.free) % 256)) :: padTo 28 ([]))).toNat⟩]))
    ∧ (s.mayTake = false → t.fld F.MIR_CTRL_STATUS = stState ∧ t.mir = s.mir ∧ t.sent = s.sent)) ∧
  (∀ (s : State) (k : Nat), s.live = true → s.role ≠ 0 → s.mir.trig = some k → Does (.takeoverTick true) s fun t => t.fld
    F.MIR_STAT_BLOCKED = 1 ∧ t.fld F.MIR_STAT_PEER_EN = 1 ∧ t.role = s.role ∧ t.tm = s.tm ∧ t.mir =
    { s.mir with peerAt := some s.tm.tb, lowFor := 0 }) ∧
  (∀ (s : State) (k : Nat), s.live = true → s.mir.trig = some k → s.mayTake = true → s.mir.peerAt = some s.tm.tb →
    s.mir.lowFor < 2 → Does (.takeoverTick false) s fun t => t.fld F.MIR_STAT_PEER_EN = 0 ∧ t.role = s.role ∧ t.tm = s.tm ∧
    t.mir = { s.mir with lowFor := 1 }) ∧
  (∀ (s : State) (k : Nat), s.live = true → s.mir.trig = some k → s.mayTake = true → ((s.mir.peerAt = some s.tm.tb ∧ 2 ≤
    s.mir.lowFor) ∨ (0 < s.tm.tb ∧ s.mir.peerAt = some (s.tm.tb - 1) ∧ 1 ≤ s.mir.lowFor)) → Does (.takeoverTick false) s fun
    t => t.role = 1 ∧ t.tm.tb = (s.tm.tb + s.fld F.TB_STAT_COUNTING) ∧ t.fld F.MIR_STAT_TAKEOVER = 1 ∧ t.fld
    F.MIR_ERR_TAKE_COUNT = min (s.fld F.MIR_ERR_TAKE_COUNT + 1) 255 ∧ t.mir.trig = none ∧ t.mir.tookAt = some t.tm.heat ∧
    t.mir.riseAt = some ((s.tm.tb + s.fld F.TB_STAT_COUNTING) + s.fld F.MIR_CTRL_GAP) ∧ t.fld F.MIR_CTRL_BUSY = s.fld
    F.MIR_CTRL_BUSY ∧ t.mir.byCmd = s.mir.byCmd ∧ t.sup.outEn = false ∧ ((∀ i : Fin 64, s.evSrc i.val ≠ 0x42) → (s.evRoom
    0x19 = true → t.lastRec 8 = some (evRec (s.tm.tb + s.fld F.TB_STAT_COUNTING) 0x19 0x02 (k + 2 ^ 8 + 2 ^ 32 * ((s.tm.tb +
    s.fld F.TB_STAT_COUNTING) % 2 ^ 32)))))) ∧
  (∀ (s : State) (k : Nat), s.live = true → s.mir.trig = some k → s.mayTake = false → Does (.takeoverTick false) s fun t =>
    t.mir.trig = none ∧ t.mir.byCmd = false ∧ t.fld F.MIR_CTRL_BUSY = 0 ∧ (s.mir.byCmd = true → t.fld F.MIR_CTRL_STATUS =
    stState) ∧ t.role = s.role ∧ t.tm = s.tm) ∧
  (∀ (s : State) (x : Nat), s.live = true → s.mir.riseAt = some x → (s.fld F.TB_STAT_COUNTING = 1 ∨ x ≤ s.tm.tb) → Runs
    .outEnRise s fun t => t.mir.riseAt = none ∧ t.mir.rose = true ∧ t.mir.trig = none ∧ t.mir.byCmd = false ∧ t.fld
    F.MIR_CTRL_BUSY = 0 ∧ (s.mir.byCmd = true → t.fld F.MIR_CTRL_STATUS = stOk) ∧ t.tm.tb = max s.tm.tb x ∧ (s.role = 1 →
    s.mir.fault = false → s.mir.enLow = false → s.mir.taken = false → t.sup.outEn = true ∧ t.fld F.MIR_STAT_OUT_EN = 1))

/-- A follower in lockstep compares decisions and lap marks with its leader's (R345, R346, R347, R353). The places of the
fields of a sequencer's LAP_MARK frame are the model's (log 8); so is that a mark is compared at its own heat tick (DEDUCED,
log 27). -/
def Obligations.Lockstep : Prop :=
  (∀ (s : State) (x : MirDecision) (m : MyDec), s.mirLive = true → s.fld F.MIR_STAT_HB_NOW = 0 → s.role = 2 → s.pair = 3 →
    x.kind = 0 → s.ownDec x.sq.val 0 (some x.d.toNat) = some m → Does (.decision x) s fun t => (m.arg = x.arg.toNat → t =
    { s with mir := { s.mir with mine := s.mir.mine.erase m } }) ∧ (m.arg ≠ x.arg.toNat → t.fld F.MIR_STAT_DIVERGE = 1 ∧
    t.fld F.MIR_CNT_DIVERGE_COUNT = min (s.fld F.MIR_CNT_DIVERGE_COUNT + 1) 65535)) ∧
  (∀ (s : State) (x : MirDecision) (m : MyDec), s.mirLive = true → s.fld F.MIR_STAT_HB_NOW = 0 → s.role = 2 → s.pair = 3 →
    ((x.kind = 1 ∧ m.d = x.d.toNat ∧ s.ownDec x.sq.val 1 none = some m) ∨ (x.kind = 2 ∧ m.d = x.arg.toNat ∧ s.ownDec
    x.sq.val 2 none = some m)) → Does (.decision x) s fun t => t =
    { s with mir := { s.mir with mine := s.mir.mine.erase m } }) ∧
  (∀ (s : State) (x : MirDecision), s.mirLive = true → s.fld F.MIR_STAT_HB_NOW = 0 → s.role = 2 → s.pair = 3 → x.kind = 3 →
    x.ctrl = false → x.arg.toNat % 2 ^ 8 = 1 → x.arg.toNat / 2 ^ 32 % 4 = 0 → s.fld F.SEQ_STAT_HEAT = 3 → s.tm.heat =
    x.d.toNat → s.runOrPaused x.sq.val = true → Does (.decision x) s fun t => (t.sqn x.sq.val).next = (s.sqn x.sq.val).next
    ++ [(⟨x.d.toNat + 48, .stop (!bitOf x.arg.toNat 34) 1⟩ : Dec)] ∧ t.mir.mine = s.mir.mine) ∧
  (∀ (s : State) (n : Fin 8) (m : MyDec), s.live = true → s.fld F.SEQ_STAT_HEAT = 3 → (s.mir.mine.find? (fun m => decide
    (m.sq = n.val)) = some m) → Runs (.decisionTimeout n) s fun t => t.fld F.MIR_CNT_UNCONF_COUNT = min (s.fld
    F.MIR_CNT_UNCONF_COUNT + 1) 65535 ∧ t.mir.mine = s.mir.mine.erase m ∧ t.tm.heat = max s.tm.heat (m.d + 11)) ∧
  (∀ (s : State) (h : Nat) (b : Nat), s.mirLive = true → s.role = 1 → s.pair = 3 → s.fld F.SEQ_STAT_HEAT = 3 → h =
    (s.tm.heat + 63) / 64 * 64 → b = s.tm.tb + (h - s.tm.heat) → Runs .lapMarkSend s fun t => t.tm.heat = h ∧ t.tm.tb = b ∧
    t.sent.length = (s.arrive h).sent.length + 9 ∧ t.sent[(s.arrive h).sent.length]? = some ⟨2, 0, (BitVec.ofNat 8 4 ::
    BitVec.ofNat 8 ((((s.arrive h).mir.txSeq + Config.freeNat (s.arrive h).free) % 256)) :: padTo 28 ([0, 0] ++ leBytes 6 h
    ++ leBytes 6 b)) ++ leBytes 2 (crc16 (BitVec.ofNat 8 4 :: BitVec.ofNat 8 ((((s.arrive h).mir.txSeq + Config.freeNat
    (s.arrive h).free) % 256)) :: padTo 28 ([0, 0] ++ leBytes 6 h ++ leBytes 6 b))).toNat⟩) ∧
  (∀ (s : State) (a : BitVec 48) (b : BitVec 48), s.mirLive = true → s.fld F.MIR_STAT_HB_NOW = 0 → s.role = 2 → s.pair = 3
    → Does (.lapMark (.time a b)) s fun t => (s.tickThen a.toNat % 2 ^ 48 = b.toNat → t = s) ∧ (s.tickThen a.toNat % 2 ^ 48
    ≠ b.toNat → t.pair = 4 ∧ t.fld F.MIR_STAT_BROKEN = 1 ∧ t.fld F.MIR_STAT_DIVERGE = 1 ∧ t.fld F.MIR_CNT_DIVERGE_COUNT =
    min (s.fld F.MIR_CNT_DIVERGE_COUNT + 1) 65535)) ∧
  (∀ (s : State) (n : Fin 8) (q : BitVec 3) (e : BitVec 16) (lap : BitVec 24) (o : Nat) (x : Byte) (l : BitVec 64),
    s.mirLive = true → s.fld F.MIR_STAT_HB_NOW = 0 → s.role = 2 → s.pair = 3 → s.recentGap n.val (s.tm.heat / 64 * 64) =
    false → Does (.lapMark (.sq n q e lap o x false l)) s fun t => ((s.markOf n.val (s.tm.heat / 64 * 64)).2 = l.toNat →
    (s.posAt n.val (s.tm.heat / 64 * 64) = (e.toNat, o, lap.toNat, x.toNat) ∧ (s.markOf n.val (s.tm.heat / 64 * 64)).1 =
    q.toNat) → t = s) ∧ ((s.markOf n.val (s.tm.heat / 64 * 64)).2 = l.toNat → ¬(s.posAt n.val (s.tm.heat / 64 * 64) =
    (e.toNat, o, lap.toNat, x.toNat) ∧ (s.markOf n.val (s.tm.heat / 64 * 64)).1 = q.toNat) → t.pair = 4 ∧ t.fld
    F.MIR_STAT_BROKEN = 1 ∧ t.fld F.MIR_STAT_DIVERGE = 1 ∧ t.fld F.MIR_CNT_DIVERGE_COUNT = min (s.fld
    F.MIR_CNT_DIVERGE_COUNT + 1) 65535) ∧ ((s.markOf n.val (s.tm.heat / 64 * 64)).2 ≠ l.toNat → t.fld F.MIR_STAT_DIVERGE = 1
    ∧
    ((∀ i : Fin 64, s.evSrc i.val ≠ 0x43) → ∀ i : Fin 64, bitOf (t.latches n.val) i.val = (if bitOf (s.markOf n.val (s.tm.heat / 64 * 64)).2 i.val = bitOf l.toNat i.val then bitOf (s.latches n.val) i.val else bitOf l.toNat i.val))))

/-- Frames of the management port through its rings, and MDIO (R358, R360, R361, R362). Whether a transmission fails, which
ERR reports, is a free value (log 7). -/
def Obligations.ManagementPort : Prop :=
  (∀ (s : State) (f : RxFrame) (a : Nat) (c : Nat) (u : State), s.live = true → mgmtLong f.bytes = false → (s.updLive &&
    (s.updCarried f.bytes).isSome) = false → s.fld F.MGMT_PORT_RX_EN = 1 → (beNat (f.bytes.take 6) = s.getSel 0x3C00 ∨ beNat
    (f.bytes.take 6) / 2 ^ 40 % 2 = 1) → a = s.descAt 0x3C02 s.mg.rx → s.mg.rxq = [] → (s.mgmtReach a 16).rangeWaits a 16 =
    false → (s.mgmtReach a 16).descOwned 0x3C02 s.mg.rx = true → c = leField ((s.mgmtReach a 16).dramBytes a 8) 0 8 →
    ((s.mgmtReach a 16).mgmtReach c f.bytes.length).rangeWaits c f.bytes.length = false → u = (((s.mgmtReach a 16).mgmtReach
    c f.bytes.length).dramPut c f.bytes).dramPut (a + 8) (leBytes 2 f.bytes.length) → Runs (.mgmtRxFrame f false) s fun t =>
    t.mem.dram = (u.dramPut (a + 10) [BitVec.ofNat 8 (putBit (leField (u.dramBytes (a + 10) 1) 0 1) 0 false)]).mem.dram ∧
    t.mg.done = true ∧ t.mg.rx = (s.mg.rx + 1) % max (s.ring 0x3C02).2 1 ∧ t.fld F.MGMT_PORT_DROP_COUNT = s.fld
    F.MGMT_PORT_DROP_COUNT) ∧
  (∀ (s : State) (f : RxFrame) (a : Nat), s.live = true → mgmtLong f.bytes = false → (s.updLive && (s.updCarried
    f.bytes).isSome) = false → s.fld F.MGMT_PORT_RX_EN = 1 → (beNat (f.bytes.take 6) = s.getSel 0x3C00 ∨ beNat (f.bytes.take
    6) / 2 ^ 40 % 2 = 1) → a = s.descAt 0x3C02 s.mg.rx → s.mg.rxq = [] → (s.mgmtReach a 16).rangeWaits a 16 = false →
    (s.mgmtReach a 16).descOwned 0x3C02 s.mg.rx = false → Runs (.mgmtRxFrame f false) s fun t => t.fld
    F.MGMT_PORT_DROP_COUNT = min (s.fld F.MGMT_PORT_DROP_COUNT + 1) 65535 ∧ t.mem = s.mem ∧ t.mg = s.mg) ∧
  (∀ (s : State) (f : RxFrame) (a : Nat), s.live = true → mgmtLong f.bytes = false → (s.updLive && (s.updCarried
    f.bytes).isSome) = false → s.fld F.MGMT_PORT_RX_EN = 1 → (beNat (f.bytes.take 6) = s.getSel 0x3C00 ∨ beNat (f.bytes.take
    6) / 2 ^ 40 % 2 = 1) → a = s.descAt 0x3C02 s.mg.rx → s.mg.rxq = [] → (s.mgmtReach a 16).rangeWaits a 16 = true → Runs
    (.mgmtRxFrame f false) s fun t => t.mg = { s.mg with rxq := [f.bytes] } ∧ t.fld F.MGMT_PORT_DROP_COUNT = s.fld
    F.MGMT_PORT_DROP_COUNT ∧ t.mem.dram = s.mem.dram) ∧
  (∀ (s : State) (f : RxFrame) (p : Bool), s.live = true → (p = true ∨ mgmtLong f.bytes = true) → Runs (.mgmtRxFrame f p) s
    fun t => t.fld F.MGMT_PORT_DROP_COUNT = min (s.fld F.MGMT_PORT_DROP_COUNT + 1) 65535 ∧ t.mem = s.mem ∧ t.mg = s.mg ∧
    t.sent = s.sent) ∧
  (∀ (s : State) (w : Word) (p : Bool), s.takes 0xF000C (setBits 5 1 1 w) p = true → Does (.txGo w p) s fun t => t.mg =
    { s.mg with txWait := false } ∧ t.fld F.MGMT_PORT_TX_EN = getBits 4 1 w ∧ t.fld F.MGMT_PORT_RX_EN = getBits 3 1 w ∧
    t.mem = s.mem) ∧
  (∀ (s : State) (a : Nat) (c : Nat) (n : Nat) (u : State), s.live = true → s.fld F.MGMT_PORT_TX_EN = 1 → s.fld
    F.MGMT_PORT_LINK = 1 → s.mg.txWait = false → a = s.descAt 0x3C03 s.mg.tx → (s.mgmtReach a 16).rangeWaits a 16 = false →
    (s.mgmtReach a 16).descOwned 0x3C03 s.mg.tx = true → c = leField ((s.mgmtReach a 16).dramBytes a 8) 0 8 → n = leField
    ((s.mgmtReach a 16).dramBytes (a + 8) 2) 0 2 → u = (s.mgmtReach a 16).mgmtReach c n → u.rangeWaits c n = false → Runs
    .mgmtTxDone s fun t => (Config.freeNat u.free % 2 = 0 → t.sent = s.sent ++ [⟨3, 0, u.dramBytes c n⟩] ∧ t.mem.dram =
    (u.dramPut (a + 10) [BitVec.ofNat 8 (putBit (leField (u.dramBytes (a + 10) 1) 0 1) 0 false)]).mem.dram) ∧
    (Config.freeNat u.free % 2 = 1 → t.sent = s.sent ∧ t.mem.dram = ((u.descErr 0x3C03 s.mg.tx).dramPut (a + 10)
    [BitVec.ofNat 8 (putBit (leField ((u.descErr 0x3C03 s.mg.tx).dramBytes (a + 10) 1) 0 1) 0 false)]).mem.dram) ∧ t.mg.done
    = true ∧ t.mg.tx = (s.mg.tx + 1) % max (s.ring 0x3C03).2 1) ∧
  (∀ (s : State) (a : Nat), s.live = true → s.fld F.MGMT_PORT_TX_EN = 1 → s.fld F.MGMT_PORT_LINK = 1 → s.mg.txWait = false
    → a = s.descAt 0x3C03 s.mg.tx → (s.mgmtReach a 16).rangeWaits a 16 = false → (s.mgmtReach a 16).descOwned 0x3C03 s.mg.tx
    = false → Runs .mgmtTxDone s fun t => t.mg = { s.mg with txWait := true } ∧ t.sent = s.sent ∧ t.mem = s.mem) ∧
  (∀ (s : State) (w : Word) (p : Bool), s.takes 0xF0010 (setBits 27 1 1 w) p = true → s.fld F.MGMT_MDIO_BUSY = 0 → Does
    (.mdioGo w p) s fun t => t.fld F.MGMT_MDIO_BUSY = 1 ∧ t.mg = { s.mg with mdioWr := decide (getBits 26 1 w = 1) } ∧
    t.sent = s.sent ++
    [⟨4, 0, if getBits 26 1 w = 1 then beBytes 2 (2 ^ 14 + 2 ^ 12 + 2 ^ 7 * getBits 21 5 w + 2 ^ 2 * getBits 16 5 w + 2) ++ beBytes 2 (getBits 0 16 w) else beBytes 2 (2 ^ 14 + 2 ^ 13 + 2 ^ 7 * getBits 21 5 w + 2 ^ 2 * getBits 16 5 w)⟩]) ∧
  (∀ (s : State) (w : Word) (p : Bool), s.takes 0xF0010 (setBits 27 1 1 w) p = true → s.fld F.MGMT_MDIO_BUSY = 1 → Does
    (.mdioGo w p) s fun t => t.rd 0xF0010 = s.rd 0xF0010 ∧ t.sent = s.sent ∧ t.mg = s.mg) ∧
  (∀ (s : State) (n : BitVec 16), s.live = true → s.fld F.MGMT_MDIO_BUSY = 1 → Runs (.mdioDone n) s fun t => t.fld
    F.MGMT_MDIO_BUSY = 0 ∧ t.fld F.MGMT_MDIO_DATA = (if s.mg.mdioWr then s.fld F.MGMT_MDIO_DATA else n.toNat) ∧ t.sent =
    s.sent) ∧
  (∀ (s : State) (p : Bool) (n : BitVec 2), s.live = true → n ≠ 3 → Runs (.mgmtLinkChange p n) s fun t => t.fld
    F.MGMT_PORT_LINK = b2n p ∧ t.fld F.MGMT_PORT_SPEED = n.toNat ∧ t.mem = s.mem)

/-- The updater's lock, download, and answers (R295, R373, R374, R375, R376, R381, R382, R384). The layout of the progress
sector, and that a CLAIM of another package abandons a VERIFY or ACTIVATE, are the model's (log 18). -/
def Obligations.UpdateDownload : Prop :=
  (∀ (s : State) (f : UpdFrame) (u : Upd) (d : UpdFrom) (i : List Byte), s.updLive = true → s.updReady f = true → updOf
    f.bytes = some u → u.type = 1 → f.ecc = none → d = ⟨0, f.srcMac.toNat, f.srcIp.toNat, f.srcPort.toNat⟩ → (s.fld
    F.UPD_LOCK_HELD = 0 ∨ s.held d u.sid = true) → s.bootedTent = false → 0 < beNat ((u.body.drop 48).take 4) → beNat
    ((u.body.drop 48).take 4) ≤ pkgMax → s.fld F.UPD_STAT_STAGE ≠ 2 → s.fld F.UPD_STAT_STAGE ≠ 4 → i = padTo 48 u.body →
    s.flashBytes progBase 52 ≠ progHead i (beNat ((u.body.drop 48).take 4)) → s.fld F.UPD_CTRL_FORWARD = 0 → Runs (.claim f)
    s fun t => t.fld F.UPD_LOCK_HELD = 1 ∧ t.fld F.UPD_LOCK_SRC = 0 ∧ t.fld F.UPD_LOCK_SID_SID = u.sid ∧ t.mg.ip = d.ip ∧
    t.mg.port = d.port ∧ t.mg.frags = [] ∧ t.fld F.UPD_PROG_ACKED = 0 ∧ t.fld F.UPD_PROG_TOTAL = chunksOf (beNat
    ((u.body.drop 48).take 4)) ∧ t.fld F.UPD_STAT_STAGE = 1 ∧ t.flashBytes progBase 52 = progHead i (beNat ((u.body.drop
    48).take 4)) ∧ t.sent.length = s.sent.length + 1) ∧
  (∀ (s : State) (f : UpdFrame) (u : Upd) (d : UpdFrom) (i : List Byte), s.updLive = true → s.updReady f = true → updOf
    f.bytes = some u → u.type = 1 → f.ecc = none → d = ⟨0, f.srcMac.toNat, f.srcIp.toNat, f.srcPort.toNat⟩ → (s.fld
    F.UPD_LOCK_HELD = 0 ∨ s.held d u.sid = true) → s.bootedTent = false → 0 < beNat ((u.body.drop 48).take 4) → beNat
    ((u.body.drop 48).take 4) ≤ pkgMax → (s.fld F.UPD_STAT_STAGE = 2 ∨ s.fld F.UPD_STAT_STAGE = 4) → i = padTo 48 u.body →
    s.flashBytes progBase 52 ≠ progHead i (beNat ((u.body.drop 48).take 4)) → Runs (.claim f) s fun t => t.fld
    F.UPD_LOCK_HELD = 1 ∧ t.mg.frags = [] ∧ t.mg.asked = none ∧ t.fld F.UPD_PROG_ACKED = 0 ∧ t.fld F.UPD_STAT_STAGE = 1 ∧
    t.flashBytes progBase 52 = progHead i (beNat ((u.body.drop 48).take 4))) ∧
  (∀ (s : State) (f : UpdFrame) (u : Upd) (d : UpdFrom), s.updLive = true → s.updReady f = true → updOf f.bytes = some u →
    u.type = 1 → f.ecc = none → d = ⟨0, f.srcMac.toNat, f.srcIp.toNat, f.srcPort.toNat⟩ → s.fld F.UPD_LOCK_HELD = 1 → s.held
    d u.sid = false → Runs (.claim f) s fun t => t.rd 0x11000C = s.rd 0x11000C ∧ t.rd 0x110010 = s.rd 0x110010 ∧ t.fld
    F.UPD_STAT_STAGE = s.fld F.UPD_STAT_STAGE ∧ t.mg = s.mg ∧ t.mem = s.mem ∧ t.sent.length = s.sent.length + 1) ∧
  (∀ (s : State) (f : UpdFrame) (u : Upd) (d : UpdFrom), s.updLive = true → s.updReady f = true → updOf f.bytes = some u →
    u.type = 2 → f.ecc = none → d = ⟨0, f.srcMac.toNat, f.srcIp.toNat, f.srcPort.toNat⟩ → s.held d u.sid = true →
    u.body.length = 1024 → u.frag < 64 → s.fld F.UPD_STAT_STAGE = 1 → u.chunk = s.fld F.UPD_PROG_ACKED → u.chunk < s.fld
    F.UPD_PROG_TOTAL → Runs (.frag f) s fun t => t.mg =
    { s.mg with frags := s.mg.frags.filter (fun x => decide (x.1 ≠ u.frag)) ++ [(u.frag, u.body)] } ∧ t.mem = s.mem) ∧
  (∀ (s : State) (f : UpdFrame) (u : Upd) (d : UpdFrom), s.updLive = true → s.updReady f = true → updOf f.bytes = some u →
    u.type = 2 → f.ecc = none → d = ⟨0, f.srcMac.toNat, f.srcIp.toNat, f.srcPort.toNat⟩ → (s.held d u.sid = false ∨
    u.body.length ≠ 1024 ∨ 64 ≤ u.frag) → Runs (.frag f) s fun t => t.mg = s.mg ∧ t.mem = s.mem) ∧
  (∀ (s : State) (c : Nat), s.updLive = true → s.fld F.UPD_STAT_STAGE = 1 → s.chunkFull = true → c = s.fld F.UPD_PROG_ACKED
    → c < 1023 → Runs (.chunkProgrammed true) s fun t => t.fld F.UPD_PROG_ACKED = c + 1 ∧ t.flashBytes (downBase + 65536 *
    c) s.chunkBytes.length = s.chunkBytes ∧ t.chunkOpen c = false ∧ t.mg.frags = [] ∧ t.fld F.UPD_STAT_STAGE = 1) ∧
  (∀ (s : State), s.updLive = true → s.fld F.UPD_STAT_STAGE = 1 → s.chunkFull = true → Runs (.chunkProgrammed false) s fun
    t => t.regs = s.regs ∧ t.mg = { s.mg with frags := [] } ∧ t.sent = s.sent) ∧
  (∀ (s : State) (f : UpdFrame) (u : Upd) (d : UpdFrom), s.updLive = true → s.updReady f = true → updOf f.bytes = some u →
    u.type = 3 → f.ecc = none → d = ⟨0, f.srcMac.toNat, f.srcIp.toNat, f.srcPort.toNat⟩ → u.stage = 0 → s.held d u.sid =
    true → Runs (.updAbort f) s fun t => t.fld F.UPD_STAT_STAGE = 0 ∧ t.fld F.UPD_LOCK_HELD = 0 ∧ t.fld F.UPD_STAT_STATUS =
    stOk ∧ t.fld F.UPD_STAT_STAGE_DONE = 1 ∧ t.mg.frags = [] ∧ t.mg.asked = none ∧ (s.fld F.UPD_STAT_STAGE ≠ 2 → t.mem =
    s.mem) ∧ (s.fld F.UPD_STAT_STAGE ≠ 0 → (s.evRoom 0x1A = true → t.lastRec 8 = some (evRec s.tm.tb 0x1A 0x01 (0 + 2 ^ 8 *
    0 + 2 ^ 16 * s.fld F.UPD_LOCK_SRC + 2 ^ 32 * s.fld F.UPD_PROG_ACKED))))) ∧
  (∀ (s : State) (f : UpdFrame) (u : Upd) (d : UpdFrom), s.updLive = true → s.updReady f = true → updOf f.bytes = some u →
    u.type = 4 → f.ecc = none → d = ⟨0, f.srcMac.toNat, f.srcIp.toNat, f.srcPort.toNat⟩ → s.held d u.sid = true → Runs
    (.updRelease f) s fun t => t.fld F.UPD_LOCK_HELD = 0 ∧ t.fld F.UPD_STAT_STAGE = s.fld F.UPD_STAT_STAGE ∧ t.mg = s.mg ∧
    t.mem = s.mem) ∧
  (∀ (s : State) (f : UpdFrame) (u : Upd) (d : UpdFrom), s.updLive = true → s.updReady f = true → updOf f.bytes = some u →
    u.type = 5 → f.ecc = none → d = ⟨0, f.srcMac.toNat, f.srcIp.toNat, f.srcPort.toNat⟩ → s.fld F.UPD_CTRL_FORWARD = 0 →
    Runs (.updQuery f) s fun t => t.sent = (s.reply d u.sid stOk).sent ∧ t.rd 0x11000C = s.rd 0x11000C ∧ t.rd 0x110010 =
    s.rd 0x110010 ∧ t.fld F.UPD_STAT_STAGE = s.fld F.UPD_STAT_STAGE ∧ t.mg = s.mg ∧ t.mem = s.mem) ∧
  (∀ (s : State) (f : UpdFrame) (u : Upd), s.mirLive = true → s.updLive = true → s.fld F.MIR_STAT_HB_NOW = 0 → updOf
    f.bytes = some u → u.type = 6 → s.fld F.UPD_LOCK_HELD = 1 → s.fld F.UPD_LOCK_SRC = 0 → Does (.mirUpdFrame f) s fun t =>
    t.sent = (s.updTo s.holder (peerBytes f.bytes)).sent ∧ t.rd 0x11000C = s.rd 0x11000C ∧ t.mg = s.mg ∧ t.mem = s.mem) ∧
  (∀ (s : State) (f : UpdFrame) (u : Upd), s.mirLive = true → s.updLive = true → s.fld F.MIR_STAT_HB_NOW = 0 → s.updReady f
    = true → updOf f.bytes = some u → u.type = 5 → f.ecc = none → Does (.mirUpdFrame f) s fun t => t.sent = (s.reply ⟨1,
    f.srcMac.toNat, f.srcIp.toNat, f.srcPort.toNat⟩ u.sid stOk).sent ∧ t.mg = s.mg ∧ t.mem = s.mem) ∧
  (∀ (s : State) (f : UpdFrame) (c : Instr), c ∈
    ([.claim f, .frag f, .verify f, .activate f, .updAbort f, .updRelease f, .updQuery f] : List Instr) → s.updLive = true →
    updOf f.bytes = none → Runs c s fun t => t.fld F.UPD_DROP_FRAMES = min (s.fld F.UPD_DROP_FRAMES + 1) (2 ^ 32 - 1) ∧ t =
    { s with regs := t.regs }) ∧
  (∀ (s : State) (f : UpdFrame) (u : Upd) (i : Fin 16), s.updLive = true → s.updReady f = true → updOf f.bytes = some u →
    u.type = 4 → f.ecc = some i → Runs (.updRelease f) s fun t => t.fld F.GLB_ERR_QECC_ERR = 1 ∧ t.fld F.GLB_ERR_Q_IDX = 13
    ∧ t.fld F.UPD_LOCK_HELD = s.fld F.UPD_LOCK_HELD ∧ t.mg = s.mg ∧ t.mem = s.mem) ∧
  (∀ (s : State) (p : Bool), s.live = true → (p = true → s.fld F.MIR_STAT_LINK_UP = 1) → Runs (.updateFrameDrop p) s fun t
    => t.fld F.UPD_DROP_FRAMES = min (s.fld F.UPD_DROP_FRAMES + 1) (2 ^ 32 - 1) ∧ t = { s with regs := t.regs }) ∧
  (∀ (s : State), s.live = true → s.fld F.UPD_LOCK_HELD = 1 → Runs .lockIdle s fun t => t.fld F.UPD_LOCK_HELD = 0 ∧ t.fld
    F.UPD_STAT_STAGE = s.fld F.UPD_STAT_STAGE ∧ t = { s with regs := t.regs })

/-- VERIFY, ACTIVATE, CONFIRM, REVERT and BREAK (R370, R373, R375, R377, R378, R379, R384, R386). The STATUS in the REPLY to
an abandoned VERIFY is a free value; a CLAIM of another package abandons a VERIFY or ACTIVATE (log 18). -/
def Obligations.UpdateStages : Prop :=
  (∀ (s : State) (f : UpdFrame) (u : Upd) (d : UpdFrom), s.updLive = true → s.updReady f = true → updOf f.bytes = some u →
    u.type = 3 → f.ecc = none → d = ⟨0, f.srcMac.toNat, f.srcIp.toNat, f.srcPort.toNat⟩ → u.stage = 2 → s.held d u.sid =
    true → (s.fld F.UPD_STAT_STAGE = 1 ∨ s.fld F.UPD_STAT_STAGE = 3) → Runs (.verify f) s fun t => t.fld F.UPD_STAT_STAGE =
    2 ∧ t.fld F.UPD_LOCK_HELD = 1 ∧ t.mg.asked = some (d, u.sid) ∧ t.mem = s.mem ∧ (s.evRoom 0x1A = true → t.lastRec 8 =
    some (evRec s.tm.tb 0x1A 0x01 (2 + 2 ^ 8 * 0 + 2 ^ 16 * s.fld F.UPD_LOCK_SRC + 2 ^ 32 * s.fld F.UPD_PROG_ACKED)))) ∧
  (∀ (s : State) (f : UpdFrame) (u : Upd) (d : UpdFrom) (c : Instr), s.updLive = true → s.updReady f = true → updOf f.bytes
    = some u → u.type = 3 → f.ecc = none → d = ⟨0, f.srcMac.toNat, f.srcIp.toNat, f.srcPort.toNat⟩ → ((c = .verify f ∧
    u.stage = 2 ∧ s.fld F.UPD_STAT_STAGE ≠ 1 ∧ s.fld F.UPD_STAT_STAGE ≠ 3) ∨ (c = .activate f ∧ u.stage = 4 ∧ s.fld
    F.UPD_STAT_STAGE ≠ 3)) → Runs c s fun t => t.fld F.UPD_STAT_STAGE = s.fld F.UPD_STAT_STAGE ∧ t.fld F.UPD_STAT_STATUS =
    stState ∧ t.fld F.UPD_STAT_STAGE_DONE = 1 ∧ t.rd 0x11000C = s.rd 0x11000C ∧ t.rd 0x110010 = s.rd 0x110010 ∧ t.mem =
    s.mem ∧ (s.evRoom 0x1A = true → t.lastRec 8 = some (evRec s.tm.tb 0x1A 0x01 (s.fld F.UPD_STAT_STAGE + 2 ^ 8 * 1 + 2 ^ 16
    * s.fld F.UPD_LOCK_SRC + 2 ^ 32 * s.fld F.UPD_PROG_ACKED)))) ∧
  (∀ (s : State) (r : Nat × State), s.updLive = true → s.fld F.UPD_STAT_STAGE = 2 →
    (r = (if s.verifyChecks s.package = stOk then s.verifyBuild s.package else (s.verifyChecks s.package, s))) → Runs
    .verifyDone s fun t => t.fld F.UPD_STAT_STAGE = (if r.1 = stOk then 3 else 1) ∧ t.fld F.UPD_STAT_STATUS = r.1 ∧ t.fld
    F.UPD_STAT_STAGE_DONE = 1 ∧ t.mem.flash = r.2.mem.flash ∧ t.rd 0x11000C = s.rd 0x11000C ∧ t.rd 0x110010 = s.rd 0x110010
    ∧ t.mg.asked = none ∧ (s.mg.asked = none → t.sent = s.sent) ∧ (∀ x ∈ s.mg.asked.toList, x.1.src = 0 → t.sent.length =
    s.sent.length + 1) ∧
    (s.evRoom 0x1A = true → t.lastRec 8 = some (evRec s.tm.tb 0x1A 0x01 ((if r.1 = stOk then 3 else 1) + 2 ^ 8 * r.1 + 2 ^ 16 * s.fld F.UPD_LOCK_SRC + 2 ^ 32 * s.fld F.UPD_PROG_ACKED)))) ∧
  (∀ (s : State) (f : UpdFrame) (u : Upd) (d : UpdFrom), s.updLive = true → s.updReady f = true → updOf f.bytes = some u →
    u.type = 3 → f.ecc = none → d = ⟨0, f.srcMac.toNat, f.srcIp.toNat, f.srcPort.toNat⟩ → u.stage = 4 → s.held d u.sid =
    true → s.fld F.UPD_STAT_STAGE = 3 → Runs (.activate f) s fun t => t.fld F.UPD_STAT_STAGE = 4 ∧ t.mg.copied ≤ 8160 ∧
    t.mg.asked = some (d, u.sid) ∧ t.mem.flash = s.mem.flash ∧ t.fld F.UPD_LOCK_HELD = 1 ∧ (s.evRoom 0x1A = true → t.lastRec
    8 = some (evRec s.tm.tb 0x1A 0x01 (4 + 2 ^ 8 * 0 + 2 ^ 16 * s.fld F.UPD_LOCK_SRC + 2 ^ 32 * s.fld F.UPD_PROG_ACKED)))) ∧
  (∀ (s : State) (r : BootRec) (u : State), s.updLive = true → s.fld F.UPD_STAT_STAGE = 4 → s.curRec = some r → u =
    s.copyHalf s.mg.copied 8160 → Runs .activateDone s fun t => t.fld F.UPD_STAT_STAGE = 5 ∧ t.fld F.UPD_LOCK_HELD = 0 ∧
    t.fld F.UPD_STAT_STATUS = stOk ∧ t.fld F.UPD_STAT_STAGE_DONE = 1 ∧ t.mem.pv = u.mem.pv ∧ t.mem.flash = (u.writeRec
    (u.activateRec r)).mem.flash ∧ (u.activateRec r).active = u.otherSlot ∧ (u.activateRec r).tent = true ∧ t.mg.asked =
    none ∧ (∀ x ∈ s.mg.asked.toList, x.1.src = 0 → t.sent.length = s.sent.length + 1) ∧ (s.evRoom 0x1A = true → t.lastRec 8
    = some (evRec s.tm.tb 0x1A 0x01 (5 + 2 ^ 8 * 0 + 2 ^ 16 * s.fld F.UPD_LOCK_SRC + 2 ^ 32 * s.fld F.UPD_PROG_ACKED)))) ∧
  (∀ (s : State) (w : Word) (p : Bool) (r : BootRec), s.orders F.UPD_CMD_CONFIRM [0, 1, 2] w p = true → s.fld
    F.UPD_CMD_BUSY = 0 → s.curRec = some r → Does (.confirm w p) s fun t => (r.tent = true → t.fld F.UPD_CMD_STATUS = stOk ∧
    t.mem.flash = (s.writeRec { r with tent := false, count := 0 }).mem.flash) ∧ (r.tent = false → t.fld F.UPD_CMD_STATUS =
    stState ∧ t.mem = s.mem)) ∧
  (∀ (s : State) (w : Word) (p : Bool) (r : BootRec), s.orders F.UPD_CMD_REVERT [0, 1, 2] w p = true → s.fld F.UPD_CMD_BUSY
    = 0 → s.curRec = some r → Does (.revert w p) s fun t => (r.tent = true → t.fld F.UPD_CMD_STATUS = stOk ∧ t.mem.flash =
    (s.writeRec { r with active := 1 - r.active, tent := false }).mem.flash) ∧ (r.tent = false → t.fld F.UPD_CMD_STATUS =
    stState ∧ t.mem = s.mem)) ∧
  (∀ (s : State) (w : Word) (p : Bool), s.orders F.UPD_CMD_BREAK [0, 1, 2] w p = true → s.fld F.UPD_CMD_BUSY = 0 → Does
    (.breakLock w p) s fun t => t.fld F.UPD_LOCK_HELD = 0 ∧ t.fld F.UPD_CMD_STATUS = stOk ∧ t.fld F.UPD_STAT_STAGE =
    (if s.fld F.UPD_STAT_STAGE = 2 then 1 else s.fld F.UPD_STAT_STAGE) ∧ (s.fld F.UPD_STAT_STAGE = 2 → t.mg.asked = none) ∧
    (s.fld F.UPD_STAT_STAGE ≠ 2 → t.mem = s.mem))

/-- The boot ROM's recovery: TFTP, ARP and the RECOVERY strap (R331, R385). The messages are those of RFC 1350 (PRESUMED,
log 19); the port that the ROM answers from is a free value. -/
def Obligations.RecoveryMode : Prop :=
  (∀ (s : State) (f : TftpFrame), s.inRecovery = true → tftpOctet f.bytes = true → s.mg.tftp = none → Runs
    (.tftpWriteRequest f) s fun t => t.mg.tftp = some ⟨f.srcMac.toNat, f.srcIp.toNat, f.srcPort.toNat, Config.freeNat s.free
    % 65536, [], none⟩ ∧ t.sent.length = s.sent.length + 1 ∧ t.mem = s.mem) ∧
  (∀ (s : State) (f : TftpFrame), s.inRecovery = true → (beNat (f.bytes.take 2) = 1 ∨ beNat (f.bytes.take 2) = 2) →
    tftpOctet f.bytes = false → Runs (.tftpWriteRequest f) s fun t => t.mg = s.mg ∧ t.sent.length = s.sent.length + 1 ∧
    t.mem = s.mem) ∧
  (∀ (s : State) (f : TftpFrame) (x : Tftp), s.inRecovery = true → s.mg.tftp = some x → x.last = none → beNat (f.bytes.take
    2) = 3 → x.ip = f.srcIp.toNat → x.port = f.srcPort.toNat → beNat ((f.bytes.drop 2).take 2) = ((x.got.length + 511) / 512
    + 1) % 65536 → x.got.length % 512 = 0 → f.bytes.length = 516 → x.got ≠ [] → Runs (.tftpData f) s fun t => t.mg =
    { s.mg with tftp := some { x with got := x.got ++ f.bytes.drop 4 } } ∧ t.mem.flash = (s.flashPut (slotBase s.recTarget +
    (recResult x.got).length) ((recResult (x.got ++ f.bytes.drop 4)).drop (recResult x.got).length)).mem.flash ∧
    t.sent.length = s.sent.length + 1) ∧
  (∀ (s : State) (f : TftpFrame) (x : Tftp), s.inRecovery = true → s.mg.tftp = some x → x.last = none → beNat (f.bytes.take
    2) = 3 → x.ip = f.srcIp.toNat → x.port = f.srcPort.toNat → beNat ((f.bytes.drop 2).take 2) = ((x.got.length + 511) / 512
    + 1) % 65536 → x.got.length % 512 = 0 → f.bytes.length < 516 → x.got ≠ [] → Runs (.tftpData f) s fun t => (recLast
    (x.got ++ f.bytes.drop 4) = false → t.mg.tftp = none ∧ t.mg.recovered = s.mg.recovered) ∧ (recLast (x.got ++
    f.bytes.drop 4) = true → t.mg.recovered = true) ∧ t.sent.length = s.sent.length + 1) ∧
  (∀ (s : State) (f : TftpFrame) (x : Tftp), s.inRecovery = true → s.mg.tftp = some x → x.last = none → beNat (f.bytes.take
    2) = 3 → x.ip = f.srcIp.toNat → x.port = f.srcPort.toNat → beNat ((f.bytes.drop 2).take 2) = ((x.got.length + 511) / 512
    + 1) % 65536 → x.got.length % 512 = 0 → 4 ≤ f.bytes.length → f.bytes.length ≤ 516 → x.got = [] → s.recFirst
    (f.bytes.drop 4) = false → Runs (.tftpData f) s fun t => t.mg = { s.mg with tftp := none } ∧ t.mem = s.mem ∧
    t.sent.length = s.sent.length + 1) ∧
  (∀ (s : State), s.inRecovery = true → Runs .tftpTimeout s fun t => t = { s with mg := { s.mg with tftp := none } }) ∧
  (∀ (s : State) (f : RxFrame), s.inRecovery = true → beNat ((f.bytes.drop 12).take 2) = 0x0806 → (beNat (f.bytes.take 6) =
    2 ^ 48 - 1 ∨ beNat (f.bytes.take 6) = s.getSel 0x3C00) → arpFor (f.bytes.drop 14) s.recIp = true → Runs (.recoveryArp f)
    s fun t => t.sent = s.sent ++
    [⟨3, 0, minFrame ((f.bytes.drop 6).take 6 ++ beBytes 6 (s.getSel 0x3C00) ++ beBytes 2 0x0806 ++ arpReply (f.bytes.drop 14) (s.getSel 0x3C00) s.recIp)⟩]
    ∧ t.regs = s.regs ∧ t.mem = s.mem) ∧
  (∀ (s : State), s.inRecovery = true → s.mg.recovered = true → s.fld F.UPD_STAT_STAGE = 0 → Runs (.recoverySample true) s
    fun t => t.fld F.SUP_STAT_STAGE = 2 ∧ t.fld F.SUP_STAT_RECOVERY = 0 ∧ t.mg.recovered = false ∧ t.mem.flash = s.mem.flash)

/-- A step runs the command at the front of the queue (R274). That an empty queue lets one tick pass is the model's choice
(log 1). -/
def Obligations.StepRunsFront : Prop :=
  (∀ (s : State) (c : Instr) (l : List Instr), step { s with pending := c :: l } = exec c { s with pending := l }) ∧
  (∀ (s : State), s.pending = [] → step s = .next s.idle)

/-- Every command answers a next state (R13, R274, R282). -/
def Obligations.NeverStops : Prop :=
  ∀ (s : State) (c : Instr), Runs c s fun _ => True

/-- The state at power-on reset, where the spec gives it, and the invariants that hold there (R27, R87, R290, R292, R293,
R308, R326, R391). What a memory that nothing has written reads as is log 4, and the reset values that the spec does not
give are log 3. -/
def Obligations.ResetLeaves : Prop :=
  (State.reset.fld F.SUP_STAT_STAGE = 1 ∧ State.reset.sup.outEn = false ∧ (∀ n : Fin 64, State.reset.fld (F.FC_STAT_ON_HOLD
    n.val) = 1) ∧ (∀ n : Fin 128, State.reset.fld (F.VP_STAT_ON_HOLD n.val) = 1 ∧ State.reset.fld (F.VP_STAT_DRIVE n.val) =
    2) ∧ State.reset.armed = false ∧ State.reset.fld F.SEQ_STAT_HEAT = 0 ∧ State.reset.fld F.PLAN_STAT_PRESENT = 0 ∧
    State.reset.fld F.CLK_PLL_PLAN_N = 80 ∧ State.reset.fld F.DBG_STAT_FROZEN = 0 ∧ (∀ i : Fin 14, State.reset.level i.val =
    0 ∧ State.reset.fld (qMark i.val) = qDepth i.val / 2) ∧ State.reset.mem.dram = [] ∧ State.reset.mem.track = [] ∧
    State.reset.mem.course = [] ∧ State.reset.mem.dir = [] ∧ State.reset.mem.prof = [] ∧ State.reset.mem.pv = [] ∧
    State.reset.mem.wear = [] ∧ State.reset.mem.otp = [] ∧ State.reset.mem.otpLock = [] ∧ State.reset.mem.flash = [] ∧
    Memory.wf State.reset = true ∧ State.reset.queuesFit = true ∧ State.reset.live = false ∧ State.reset.pending = []) ∧
  (State.reset.stands = true) ∧
  (∀ (s : State), s.flag F.DBG_STAT_FROZEN = true → s.pending = [] → s.stands = true)

/-- A held device stands still under every command but those that may wake it (R308, R325, R326, R330, R391, R392). -/
def Obligations.HeldDeviceStands : Prop :=
  ∀ (s : State), s.stands = true → step s = .next { s with pending := s.pending.tail } ∧ State.stands
  { s with pending := s.pending.tail } = true

/-- Every command and every step keep the canonical form of the memories (R8, R62, R216, R227, R302, R304, R306, R364). The
canonical form, and what an unlisted address reads as, are the model's (log 4). -/
def Obligations.MemoryStaysCanonical : Prop :=
  (∀ (s : State) (c : Instr), Memory.wf s = true → Runs c s fun t => Memory.wf t = true) ∧
  (∀ (s : State), Memory.wf s = true → Steps s fun t => Memory.wf t = true)

/-- The checks of a register write, in their order (R25, R272, R274, R275, R276, R277, R278, R280, R281). -/
def Obligations.AccessChecks : Prop :=
  (∀ (s : State) (a : BitVec 24) (w : Word) (n : Nat) (p : Bool), s.live = true → s.bus = [] → (s.regAbsent (a.toNat / 4 *
    4) = true ∨ ((findReg (a.toNat / 4 * 4)).isSome = false ∧ s.regAsleep (a.toNat / 4 * 4) = none ∧ n = 4)) → Does
    (.registerWrite a w n p) s fun t => t = s) ∧
  (∀ (s : State) (a : BitVec 24) (w : Word) (n : Nat) (p : Bool) (d : Nat), s.live = true → s.bus = [] → s.regAbsent
    (a.toNat / 4 * 4) = false → s.regAsleep (a.toNat / 4 * 4) = some d → Does (.registerWrite a w n p) s fun t => t =
    { ({ s with bus := [⟨a.toNat, true, w, n, p, false, false, false⟩] } : State).startWake d with sup := { (({ s with bus := [⟨a.toNat, true, w, n, p, false, false, false⟩] } : State).startWake d).sup with stay := putBit (({ s with bus := [⟨a.toNat, true, w, n, p, false, false, false⟩] } : State).startWake d).sup.stay d true } }) ∧
  (∀ (s : State) (a : BitVec 24) (w : Word) (n : Nat) (p : Bool), s.live = true → s.bus = [] → s.regAbsent (a.toNat / 4 *
    4) = false → s.regAsleep (a.toNat / 4 * 4) = none → n ≠ 4 → Does (.registerWrite a w n p) s fun t => t = s.busErr 4
    ⟨a.toNat, true, w, n, p, false, false, false⟩ ∧ t.rd 0x50 = BitVec.ofNat 32 (a.toNat + 2 ^ 24 * 4 + 2 ^ 28 + 2 ^ 29 *
    b2n p) ∧ t.fld (errFlag 4) = 1 ∧ t.fld F.GLB_ERR_ERR_COUNT = min (s.fld F.GLB_ERR_ERR_COUNT + 1) 65535 ∧ (∀ f : Fin 6,
    f.val ≠ 0 → f.val ≠ 4 → t.fld (errFlag f.val) = s.fld (errFlag f.val)) ∧ t.mem = s.mem ∧ t.q = s.q) ∧
  (∀ (s : State) (a : BitVec 24) (w : Word) (n : Nat) (p : Bool), s.live = true → s.bus = [] → (findReg (a.toNat / 4 *
    4)).isSome = true → s.regAbsent (a.toNat / 4 * 4) = false → s.regAsleep (a.toNat / 4 * 4) = none → n = 4 → s.regPriv
    (a.toNat / 4 * 4) = true → p = false → Does (.registerWrite a w n p) s fun t => t = s.busErr 5 ⟨a.toNat, true, w, n, p,
    false, false, false⟩ ∧ t.rd 0x50 = BitVec.ofNat 32 (a.toNat + 2 ^ 24 * 5 + 2 ^ 28 + 2 ^ 29 * b2n p) ∧ t.fld (errFlag 5)
    = 1 ∧ t.fld F.GLB_ERR_ERR_COUNT = min (s.fld F.GLB_ERR_ERR_COUNT + 1) 65535 ∧ (∀ f : Fin 6, f.val ≠ 0 → f.val ≠ 5 →
    t.fld (errFlag f.val) = s.fld (errFlag f.val)) ∧ t.mem = s.mem ∧ t.q = s.q) ∧
  (∀ (s : State) (a : BitVec 24) (w : Word) (n : Nat) (p : Bool), s.live = true → s.bus = [] → (findReg (a.toNat / 4 *
    4)).isSome = true → s.regAbsent (a.toNat / 4 * 4) = false → s.regAsleep (a.toNat / 4 * 4) = none → n = 4 → keyReg
    (a.toNat / 4 * 4) = true → s.armed = false → Does (.registerWrite a w n p) s fun t => t = s.busErr 2 ⟨a.toNat, true, w,
    n, p, false, false, false⟩ ∧ t.rd 0x50 = BitVec.ofNat 32 (a.toNat + 2 ^ 24 * 2 + 2 ^ 28 + 2 ^ 29 * b2n p) ∧ t.fld
    (errFlag 2) = 1 ∧ t.fld F.GLB_ERR_ERR_COUNT = min (s.fld F.GLB_ERR_ERR_COUNT + 1) 65535 ∧ (∀ f : Fin 6, f.val ≠ 0 →
    f.val ≠ 2 → t.fld (errFlag f.val) = s.fld (errFlag f.val)) ∧ t.mem = s.mem ∧ t.q = s.q) ∧
  (∀ (s : State) (k : Fin 16) (w : Word) (p : Bool), s.live = true → s.bus = [] → s.awake 2 = true → 2 ≤ s.fld
    F.SEQ_STAT_HEAT → s.fld F.SEQ_STAT_HEAT ≤ 4 → getBits 0 8 w ≠ getBits 0 8 (s.rd (0x30200 + 4 * k.val)) → s.shadowOf
    (0x30200 + 4 * k.val) = none → Does (.registerWrite (BitVec.ofNat 24 (0x30200 + 4 * k.val)) w 4 p) s fun t => t.rd
    (0x30200 + 4 * k.val) = s.rd (0x30200 + 4 * k.val) ∧ t.fld F.GLB_ERR_LOCK_VIOL = 1 ∧ t.rd 0x50 = BitVec.ofNat 32
    (0x30200 + 4 * k.val + 2 ^ 24 + 2 ^ 28 + 2 ^ 29 * b2n p) ∧ t.fld F.GLB_ERR_ERR_COUNT = min (s.fld F.GLB_ERR_ERR_COUNT +
    1) 65535 ∧ t.bus = []) ∧
  (∀ (s : State) (k : Fin 16) (w : Word) (p : Bool), s.live = true → s.bus = [] → s.awake 2 = true → getBits 0 8 w =
    getBits 0 8 (s.rd (0x30200 + 4 * k.val)) → s.shadowOf (0x30200 + 4 * k.val) = none → Does (.registerWrite (BitVec.ofNat
    24 (0x30200 + 4 * k.val)) w 4 p) s fun t => getBits 0 8 (t.rd (0x30200 + 4 * k.val)) = getBits 0 8 w ∧ t.fld
    F.GLB_ERR_LOCK_VIOL = s.fld F.GLB_ERR_LOCK_VIOL ∧ t.rd 0x50 = s.rd 0x50 ∧ t.bus = []) ∧
  (∀ (s : State) (w : Word) (p : Bool), s.opens 0x130000 p = true → s.anyActive = true → getBits 0 2 w ≠ s.role → s.fld
    F.MIR_STAT_HB_NOW = 0 → Does (.roleWrite w p) s fun t => t.role = s.role ∧ t.fld F.MIR_CTRL_GAP = getBits 4 4 w ∧ t.fld
    F.MIR_CTRL_AUTO_TAKE = getBits 8 1 w ∧ t.fld F.GLB_ERR_LOCK_VIOL = 1 ∧ t.fld F.GLB_ERR_ERR_COUNT = min (s.fld
    F.GLB_ERR_ERR_COUNT + 1) 65535 ∧ t.mir = s.mir ∧ t.bus = [])

/-- What the events of the data ports, the Baton engine and the updater leave unchanged (R247, R248, R249, R252, R254, R256,
R259, R262, R267, R373, R377, R378). -/
def Obligations.NetworkAndUpdateRowsKeep : Prop :=
  (∀ (s : State) (c : Instr), netRow c = true → Runs c s fun t => t =
    { s with regs := t.regs, bat := { s.bat with ports := t.bat.ports }, sent := t.sent, free := t.free } ∧ (∀ a, a /
    0x10000 ≠ 0xE → t.rd a = s.rd a)) ∧
  (∀ (s : State) (c : Instr), batonRow c = true → Runs c s fun t => t =
    { s with regs := t.regs, q := t.q, bat := t.bat, sent := t.sent, free := t.free } ∧ (batqRow c = false → capqRow c =
    false → t.bat = { s.bat with sess := t.bat.sess, ports := t.bat.ports } ∧ recordsOnly s.q t.q) ∧ (batqRow c = true →
    recordsOnly { s.q with batq := t.q.batq } t.q) ∧ (capqRow c = true → t.bat =
    { s.bat with ports := t.bat.ports, recs := t.bat.recs } ∧ recordsOnly { s.q with capq := t.q.capq } t.q) ∧ (∀ a, a /
    0x10000 ≠ 0xD → a / 0x10000 ≠ 0xE → (capqRow c = true → a ≠ F.CAPQ_CNT_CORR_COUNT.a) → recordRegs.contains a = false →
    t.rd a = s.rd a)) ∧
  (∀ (s : State) (c : Instr), updateRow c = true → Runs c s fun t => t =
    { s with regs := t.regs, sel := t.sel, q := t.q, mem := { s.mem with pv := t.mem.pv, wear := t.mem.wear, flash := t.mem.flash }, mir := { s.mir with txSeq := t.mir.txSeq }, mg := t.mg, sent := t.sent, free := t.free }
    ∧ (∀ k, k ≠ 0x4400 → k ≠ selHigh 0x4400 → t.getSel k = s.getSel k) ∧ recordsOnly { s.q with updq := t.q.updq } t.q ∧
    t.mg =
    { s.mg with ip := t.mg.ip, port := t.mg.port, mac := t.mg.mac, frags := t.mg.frags, dropAt := t.mg.dropAt, asked := t.mg.asked, updHeld := t.mg.updHeld, updWait := t.mg.updWait, updTags := t.mg.updTags, copied := t.mg.copied }
    ∧ (∀ a, a / 0x10000 ≠ 0x11 → (recordRegs ++
    [F.PV_STAT_LAST_STATUS.a, F.PV_WORN_ADDR_INDEX.a, F.UPDQ_LVL_XING.a, F.UPDQ_CNT_CORR_COUNT.a]).contains a = false → t.rd
    a = s.rd a))

/-- Every command and every step keep each queue within its depth (R127, R290, R291, R324, R352, R382). That the updater
takes a frame of UPDQ in the step that brings it is the model's choice (log 18); that the link takes a record of MIR_TX in
each tick, log 13. -/
def Obligations.QueuesStayWithinDepth : Prop :=
  (∀ (s : State) (c : Instr), s.queuesFit = true → Runs c s fun t => t.queuesFit = true) ∧
  (∀ (s : State), s.queuesFit = true → Steps s fun t => t.queuesFit = true)

/-- What the events of the clocks and of DRAM maintenance leave unchanged (R36, R48, R52, R54, R233, R234, R235, R236, R238,
R240). -/
def Obligations.ClockAndDramRowsKeep : Prop :=
  (∀ (s : State) (c : Instr), clockRow c = true → Runs c s fun t => t.mem = s.mem ∧ t.dram = s.dram ∧ t.plan = s.plan ∧
    t.cap = s.cap ∧ t.bat = s.bat ∧ t.fab = s.fab ∧ t.mg = s.mg ∧ t.saves = s.saves ∧ t.bus = s.bus ∧ t.rdata = s.rdata) ∧
  (∀ (s : State) (c : Instr), dramRow c = true → Runs c s fun t => t.mem = s.mem ∧ t.clk = s.clk ∧ t.tm = s.tm ∧ t.plan =
    s.plan ∧ t.cap = s.cap ∧ t.bat = s.bat ∧ t.fab = s.fab ∧ t.mg = s.mg ∧ t.outs = s.outs ∧ t.saves = s.saves ∧ t.bus =
    s.bus ∧ t.rdata = s.rdata)

/-- Every DRAM address has its own place, and a store reaches no other (R8, R227, R228). -/
def Obligations.DramPlacesApart : Prop :=
  (∀ (s : State) (a : Nat) (b : Nat) (x : Nat × Nat), s.dramSane = true → a ≠ b → x ∈ s.dramLocs a → x ∉ s.dramLocs b ∧ x.2
    < s.chSize) ∧
  (∀ (s : State) (a : Nat) (b : Nat) (v : Byte), s.dramSane = true → a ≠ b → (s.dramWrite a v).dramRead b = s.dramRead b)

/-- What ends a freeze, and nothing else does (R330). -/
def Obligations.FreezeEnds : Prop :=
  (∀ (s : State) (c : Instr), s.thawedBy c = true → s.mayThaw c = true) ∧
  (∀ (s : State), s.flag F.DBG_STAT_FROZEN = true → s.sup.frzLow = true → s.flag F.DBG_STAT_FRZ_REG = false → Runs
    .freezePinRelease s fun t => t.fld F.DBG_STAT_FROZEN = 0 ∧ t.fld F.SUP_STAT_STAGE = 2 ∧ t.fld F.SUP_RESET_CAUSE = 1) ∧
  (∀ (s : State) (w : Word) (p : Bool), s.flag F.DBG_STAT_FROZEN = true → s.sup.frzLow = false → Runs (.release w p) s fun
    t => t.fld F.DBG_STAT_FROZEN = 0 ∧ t.fld F.SUP_STAT_STAGE = 2 ∧ t.fld F.SUP_RESET_CAUSE = 1) ∧
  (∀ (s : State) (w : Word) (p : Bool), s.flag F.DBG_STAT_FROZEN = true → s.sup.frzLow = true → Runs (.release w p) s fun t
    => t = s.put F.DBG_CTRL_STATUS stState) ∧
  (∀ (s : State) (c : Instr), s.flag F.DBG_STAT_FROZEN = true → (c = .brownOut ∨ c = .porNLow) → Runs c s fun t => t.fld
    F.DBG_STAT_FROZEN = 0 ∧ t.fld F.SUP_STAT_STAGE = 1)

/-- Fault records in front of LOGQ: held, dropped, counted, and the LOST record (R324). AO_US of each record is that of the
last and a free number more (log 6). -/
def Obligations.FaultRecordsHeld : Prop :=
  (∀ (s : State) (src : Nat) (code : Nat) (cls : Nat) (unit : Nat) (d : Nat) (t : State), t = s.log src code cls unit d →
    s.q.logHold = [] → s.level 12 < 1024 → s.q.logDrop = 0 → (t.getQ 12).recs = (s.getQ 12).recs ++
    [logRec s.tm.tb src code cls unit (s.q.aoUs + (Config.aoUs s.free).toNat) d] ∧ t.q.logHold = [] ∧ t.q.logDrop = 0 ∧
    t.bus = s.bus ∧ t.tm = s.tm ∧ t.sq = s.sq ∧ t.mem = s.mem) ∧
  (∀ (s : State) (src : Nat) (code : Nat) (cls : Nat) (unit : Nat) (d : Nat) (t : State), t = s.log src code cls unit d →
    (s.q.logHold ≠ [] ∨ 1024 ≤ s.level 12) → s.q.logHold.length < 64 → s.q.logDrop = 0 → t.q.logHold = s.q.logHold ++
    [logRec s.tm.tb src code cls unit (s.q.aoUs + (Config.aoUs s.free).toNat) d] ∧ t.getQ 12 = s.getQ 12 ∧ t.q.logDrop = 0 ∧
    t.fld F.LOGQ_LOST_LOST_COUNT = s.fld F.LOGQ_LOST_LOST_COUNT ∧ t.bus = s.bus ∧ t.tm = s.tm ∧ t.sq = s.sq ∧ t.mem = s.mem) ∧
  (∀ (s : State) (src : Nat) (code : Nat) (cls : Nat) (unit : Nat) (d : Nat) (t : State), t = s.log src code cls unit d →
    64 ≤ s.q.logHold.length → t.q.logHold = s.q.logHold ∧ t.getQ 12 = s.getQ 12 ∧ t.q.logDrop = s.q.logDrop + 1 ∧ t.fld
    F.LOGQ_LOST_LOST_COUNT = min (s.fld F.LOGQ_LOST_LOST_COUNT + 1) 65535 ∧ t.fld F.SUP_STAT_LOG_LOST = 1 ∧ t.bus = s.bus ∧
    t.tm = s.tm ∧ t.sq = s.sq ∧ t.mem = s.mem) ∧
  (∀ (s : State) (src : Nat) (code : Nat) (cls : Nat) (unit : Nat) (d : Nat) (t : State), t = s.log src code cls unit d →
    (s.q.logHold ≠ [] ∨ 1024 ≤ s.level 12) → s.q.logHold.length < 63 → 0 < s.q.logDrop → t.q.logHold = s.q.logHold ++
    [logRec s.tm.tb 0x14 0x08 0 0 (s.q.aoUs + (Config.aoUs s.free).toNat) (s.q.logDrop % 2 ^ 32), logRec s.tm.tb src code cls unit (s.q.aoUs + (Config.aoUs s.free).toNat + (Config.aoUs (s.free + 1)).toNat) d]
    ∧ t.getQ 12 = s.getQ 12 ∧ t.q.logDrop = 0 ∧ t.bus = s.bus ∧ t.tm = s.tm ∧ t.sq = s.sq ∧ t.mem = s.mem) ∧
  (∀ (s : State) (src : Nat) (code : Nat) (cls : Nat) (unit : Nat) (d : Nat) (t : State), t = s.log src code cls unit d →
    s.q.logHold.length = 63 → 0 < s.q.logDrop → t.q.logHold = s.q.logHold ++
    [logRec s.tm.tb 0x14 0x08 0 0 (s.q.aoUs + (Config.aoUs s.free).toNat) (s.q.logDrop % 2 ^ 32)] ∧ t.getQ 12 = s.getQ 12 ∧
    t.q.logDrop = 1 ∧ t.fld F.SUP_STAT_LOG_LOST = 1 ∧ t.bus = s.bus ∧ t.tm = s.tm ∧ t.sq = s.sq ∧ t.mem = s.mem) ∧
  (∀ (s : State) (src : Nat) (code : Nat) (cls : Nat) (unit : Nat) (d : Nat) (t : State), t = s.log src code cls unit d →
    s.q.logHold = [] → s.level 12 < 1023 → 0 < s.q.logDrop → (t.getQ 12).recs = (s.getQ 12).recs ++
    [logRec s.tm.tb 0x14 0x08 0 0 (s.q.aoUs + (Config.aoUs s.free).toNat) (s.q.logDrop % 2 ^ 32), logRec s.tm.tb src code cls unit (s.q.aoUs + (Config.aoUs s.free).toNat + (Config.aoUs (s.free + 1)).toNat) d]
    ∧ t.q.logHold = [] ∧ t.q.logDrop = 0 ∧ t.bus = s.bus ∧ t.tm = s.tm ∧ t.sq = s.sq ∧ t.mem = s.mem)

/-- A record of EVQ is read as four words, and a read of an empty EVQ stalls (R128). -/
def Obligations.EvqReads : Prop :=
  (∀ (s : State) (x : BusRead) (r : Rec) (l : List Rec), s.gives 0x30040 x.p = true → readOk x = true → s.q.evq.recs = r ::
    l → s.q.evq.rd < 3 → Does (.evqRead x false) s fun t => t.rdata = (lookAcc 0x30040 x false false).part (r.getD
    s.q.evq.rd 0) ∧ t.q.evq = { s.q.evq with rd := s.q.evq.rd + 1 } ∧ t.q.evHold = s.q.evHold ∧ t.bus = [] ∧ t.regs = s.regs) ∧
  (∀ (s : State) (x : BusRead) (r : Rec) (l : List Rec), s.gives 0x30040 x.p = true → readOk x = true → s.q.evq.recs = r ::
    l → s.q.evq.rd = 3 → bitOf s.q.upset 8 = false → Does (.evqRead x false) s fun t => t.rdata = (lookAcc 0x30040 x false
    false).part (r.getD 3 0) ∧ t.q.evq.rd = 0 ∧ t.q.evq.recs.take l.length = l ∧ (s.q.evHold = [] → t.q.evq.recs = l ∧
    t.regs = s.regs) ∧ t.bus = []) ∧
  (∀ (s : State) (x : BusRead), s.opens 0x30040 x.p = true → readOk x = true → s.q.evq.recs = [] → Does (.evqRead x false)
    s fun t => t = { s with bus := [lookAcc 0x30040 x false false] }) ∧
  (∀ (s : State) (x : BusRead), ({ s with bus := [] } : State).opens 0x30040 x.p = true → readOk x = true → s.bus =
    [lookAcc 0x30040 x false false] → s.q.evq.recs = [] → s.fld F.MBX_STAT_BUSY = 0 → s.plan.waitPll = false → s.fld
    F.FABRIC_STAT_BUSY = 0 → s.mg.rxq = [] → Does .busTimeout s fun t => t.rdata = 0 ∧ t.q = s.q ∧ t.bus = [] ∧ t.fld
    F.GLB_ERR_BUS_TIMEOUT = 1 ∧ t.rd 0x50 = BitVec.ofNat 32 (0x30040 + x.ofs + 3 * 2 ^ 24 + 2 ^ 29 * b2n x.p))

/-- UNLOAD of a loaded plan, and in any other heat state (R164). That the directory and PLAN_ID are empty too, as after a
plan that a LOAD discards, is the model's reading (DEDUCED, log 25). -/
def Obligations.PlanUnloads : Prop :=
  (∀ (s : State) (w : Word) (p : Bool), s.orders F.PLAN_CTRL_UNLOAD [0, 1] w p = true → s.fld F.PLAN_STAT_BUSY = 0 → s.fld
    F.SEQ_STAT_HEAT = 1 → Does (.unload w p) s fun t => t.fld F.PLAN_STAT_STATUS = stOk ∧ t.fld F.PLAN_STAT_PRESENT = 0 ∧
    t.getSel 0x1001 = 0 ∧ t.fld F.SEQ_STAT_HEAT_MASK = 0 ∧ t.mem.dir = [] ∧ t.mem.course = [] ∧ t.plan.stg = [] ∧
    t.plan.wake = [] ∧ t.plan.wakeLeft = [] ∧ t.sup.owned = 0 ∧ t.sq = [] ∧ t.fld F.SEQ_STAT_HEAT = 0 ∧ (∀ n : Fin 8,
    t.sqState n.val = sqIdle)) ∧
  (∀ (s : State) (w : Word) (p : Bool), s.orders F.PLAN_CTRL_UNLOAD [0, 1] w p = true → s.fld F.PLAN_STAT_BUSY = 0 → s.fld
    F.SEQ_STAT_HEAT ≠ 1 → Does (.unload w p) s fun t => t = s.put F.PLAN_STAT_STATUS stState)

/-- Software pulses and software levels (R120). -/
def Obligations.SoftwareEvents : Prop :=
  (∀ (s : State) (hi : Bool) (w : Word) (p : Bool), (s.takes (if hi then 0x30014 else 0x30010) w p = true) → Does
    (.evtSwPulse hi w p) s fun t => (∀ i : Fin 64, t.pulsed i.val = (s.pulsed i.val || (decide (i.val / 32 = b2n hi) &&
    bitOf w.toNat (i.val % 32) && decide (s.evSrc i.val = 0x20) && !s.evLevelKind i.val))) ∧ t.fld F.EVT_STAT_SW_IGN =
    (if (List.range 32).any (fun i => bitOf w.toNat i && !(decide (s.evSrc (32 * b2n hi + i) = 0x20) && !s.evLevelKind (32 * b2n hi + i))) then 1 else s.fld F.EVT_STAT_SW_IGN)) ∧
  (∀ (s : State) (hi : Bool) (w : Word) (p : Bool), (s.takes (if hi then 0x3001C else 0x30018) w p = true) → Runs
    (.evtSwLevel hi w p) s fun t => t.rd (if hi then 0x3001C else 0x30018) = w ∧ t.rd (if hi then 0x30018 else 0x3001C) =
    s.rd (if hi then 0x30018 else 0x3001C) ∧ t.tm = s.tm ∧ t.mem = s.mem) ∧
  (∀ (s : State) (i : Fin 64), s.evSrc i.val = 0x20 → s.evLevelKind i.val = true → s.evLevel i.val = bitOf
    (s.rd (if i.val < 32 then 0x30018 else 0x3001C)).toNat (i.val % 32))

/-- OT_NOW, OT_SEEN, OT_COUNT and the records of over-temperature (R318). -/
def Obligations.Overtemperature : Prop :=
  (∀ (s : State) (l : List Int), s.live = true → s.fld F.SUP_STAT_OT_NOW = 0 → l.length = 16 → (l.all (fun v => decide
    (-32768 ≤ v ∧ v < 32768)) = true) → (l.any (fun v => decide (8 * (s.fld F.SUP_THERM_OT_THRESH : Int) ≤ v)) = true) →
    Does (.sensorConversion l) s fun t => (∀ i : Fin 16, t.fld (F.SUP_TEMP_TEMP i.val) = unsigned 16 (l.getD i.val 0)) ∧
    t.fld F.SUP_STAT_OT_NOW = 1 ∧ t.fld F.SUP_STAT_OT_SEEN = 1 ∧ t.fld F.SUP_THERM_OT_COUNT = min (s.fld
    F.SUP_THERM_OT_COUNT + 1) 255 ∧ (∀ i : Fin 16, t.temp i.val ≤ t.temp t.hottest) ∧ (s.evRoom 0x14 = true → t.lastRec 8 =
    some (evRec s.tm.tb 0x14 0x02 (t.hottest + 2 ^ 16 * unsigned 16 (t.temp t.hottest)))) ∧ t.fc = s.fc ∧ t.vp = s.vp ∧
    t.outs = s.outs ∧ t.eff = s.eff) ∧
  (∀ (s : State) (l : List Int), s.live = true → s.fld F.SUP_STAT_OT_NOW = 1 → l.length = 16 → (l.all (fun v => decide
    (-32768 ≤ v ∧ v < 32768)) = true) → (l.all (fun v => decide (v < 8 * (s.fld F.SUP_THERM_OT_THRESH : Int) - 40)) = true)
    → Does (.sensorConversion l) s fun t => (∀ i : Fin 16, t.fld (F.SUP_TEMP_TEMP i.val) = unsigned 16 (l.getD i.val 0)) ∧
    t.fld F.SUP_STAT_OT_NOW = 0 ∧ t.fld F.SUP_STAT_OT_SEEN = s.fld F.SUP_STAT_OT_SEEN ∧ t.fld F.SUP_THERM_OT_COUNT = s.fld
    F.SUP_THERM_OT_COUNT ∧ (∀ i : Fin 16, t.temp i.val ≤ t.temp t.hottest) ∧ (s.evRoom 0x14 = true → t.lastRec 8 = some
    (evRec s.tm.tb 0x14 0x03 (t.hottest + 2 ^ 16 * unsigned 16 (t.temp t.hottest)))) ∧ t.fc = s.fc ∧ t.vp = s.vp ∧ t.outs =
    s.outs ∧ t.eff = s.eff) ∧
  (∀ (s : State) (l : List Int), s.live = true → l.length = 16 → (l.all (fun v => decide (-32768 ≤ v ∧ v < 32768)) = true)
    → (s.fld F.SUP_STAT_OT_NOW = 0 ∧ l.all (fun v => decide (v < 8 * (s.fld F.SUP_THERM_OT_THRESH : Int))) = true ∨ s.fld
    F.SUP_STAT_OT_NOW = 1 ∧ l.any (fun v => decide (8 * (s.fld F.SUP_THERM_OT_THRESH : Int) - 40 ≤ v)) = true) → Does
    (.sensorConversion l) s fun t => (∀ i : Fin 16, t.fld (F.SUP_TEMP_TEMP i.val) = unsigned 16 (l.getD i.val 0)) ∧ t.fld
    F.SUP_STAT_OT_NOW = s.fld F.SUP_STAT_OT_NOW ∧ t.fld F.SUP_STAT_OT_SEEN = s.fld F.SUP_STAT_OT_SEEN ∧ t.fld
    F.SUP_THERM_OT_COUNT = s.fld F.SUP_THERM_OT_COUNT ∧ t.q = s.q ∧ t.fc = s.fc ∧ t.vp = s.vp ∧ t.outs = s.outs ∧ t.eff =
    s.eff) ∧
  (∀ (s : State) (i : Fin 64), s.evSrc i.val = 0x50 → s.evLevelKind i.val = true → s.evLevel i.val = decide (s.fld
    F.SUP_STAT_OT_NOW = 1)) ∧
  (∀ (s : State) (w : Word) (p : Bool), s.takes 0x120000 w p = true → Runs (.registerWrite 0x120000#24 w 4 p) s fun t =>
    t.fld F.SUP_STAT_OT_NOW = s.fld F.SUP_STAT_OT_NOW ∧ (bitOf w.toNat 16 = true → t.fld F.SUP_STAT_OT_SEEN = 0) ∧ t.mem =
    s.mem)
end

