-- ==== Sys2Proof/Laws/Sparse.lean ====
section
/-! SUPPORT. Laws of the sparse maps: a read after a write, and that every write keeps the canonical form; and of bit fields
of a word. -/

namespace Sys2Proof.Machine

variable {α : Type}

/-- An empty map reads as its default everywhere. -/
@[simp] theorem Sp.get_nil (d : Nat → α) (k : Nat) : Sp.get d [] k = d k := rfl

/-- `Sp.get` of a cons. -/
theorem Sp.get_cons (d : Nat → α) (c : Nat × α) (m : Sp α) (k : Nat) :
    Sp.get d (c :: m) k = if c.1 = k then c.2 else Sp.get d m k := by
  unfold Sp.get
  by_cases h : c.1 = k <;> simp [h]

/-- `Sp.get` of an append: the first part answers where it lists the key. -/
theorem Sp.get_append_not {d : Nat → α} {k : Nat} (a b : Sp α) (h : ∀ c ∈ a, c.1 ≠ k) :
    Sp.get d (a ++ b) k = Sp.get d b k := by
  induction a with
  | nil => rfl
  | cons c cs ih =>
    rw [List.cons_append, Sp.get_cons, if_neg (h c (by simp))]
    exact ih (fun x hx => h x (by simp [hx]))

/-- A key that a filter keeps reads as before, where nothing else is asked of it. -/
theorem Sp.get_filter {d : Nat → α} {k : Nat} (p : Nat → Bool) (m : Sp α) (hk : p k = true) :
    Sp.get d (m.filter (fun c => p c.1)) k = Sp.get d m k := by
  induction m with
  | nil => rfl
  | cons c cs ih =>
    rw [Sp.get_cons]
    by_cases hc : p c.1 = true
    · rw [List.filter_cons_of_pos (by simpa using hc), Sp.get_cons, ih]
    · rw [List.filter_cons_of_neg (by simpa using hc), ih]
      rw [if_neg]
      intro e
      exact hc (e ▸ hk)

/-- A key that a filter drops reads as the default. -/
theorem Sp.get_filter_not {d : Nat → α} {k : Nat} (p : Nat → Bool) (m : Sp α) (hk : p k = false) (b : Sp α) :
    Sp.get d (m.filter (fun c => p c.1) ++ b) k = Sp.get d b k := by
  apply Sp.get_append_not
  intro c hc e
  have := (List.mem_filter.1 hc).2
  rw [e, hk] at this
  exact Bool.noConfusion this

section
variable [DecidableEq α]

/-- A read of the key that was written gives the value written. -/
@[simp] theorem Sp.get_set_self (d : Nat → α) (m : Sp α) (k : Nat) (v : α) : Sp.get d (Sp.set d m k v) k = v := by
  unfold Sp.set
  rw [Sp.get_filter_not (fun n => decide (n < k)) m (by simp)]
  by_cases h : v = d k
  · rw [if_pos h, List.nil_append]
    rw [← List.append_nil (m.filter _), Sp.get_filter_not (fun n => decide (k < n)) m (by simp)]
    simp [h]
  · rw [if_neg h]
    simp [Sp.get_cons]

/-- A write leaves every other key alone. -/
theorem Sp.get_set_ne (d : Nat → α) (m : Sp α) (k j : Nat) (v : α) (h : j ≠ k) :
    Sp.get d (Sp.set d m k v) j = Sp.get d m j := by
  unfold Sp.set
  rcases Nat.lt_or_gt_of_ne h with hl | hg
  · have tail : Sp.get d ((if v = d k then [] else [(k, v)]) ++ m.filter (fun c => decide (k < c.1))) j = d j := by
      rw [Sp.get_append_not]
      · rw [← List.append_nil (m.filter _), Sp.get_filter_not (fun n => decide (k < n)) m (by simp; omega)]
        rfl
      · intro c hc
        split at hc
        · simp at hc
        · simp only [List.mem_singleton] at hc
          subst hc
          exact fun e => h e.symm
    have key : ∀ (a : Sp α) (b : Sp α), Sp.get d b j = d j → Sp.get d (a ++ b) j = Sp.get d a j := by
      intro a b hb
      induction a with
      | nil => simpa using hb
      | cons c cs ih => rw [List.cons_append, Sp.get_cons, Sp.get_cons, ih]
    rw [key _ _ tail, Sp.get_filter (fun n => decide (n < k)) m (by simpa using hl)]
  · rw [Sp.get_filter_not (fun n => decide (n < k)) m (by simp; omega), Sp.get_append_not]
    · exact Sp.get_filter (fun n => decide (k < n)) m (by simpa using hg)
    · intro c hc
      split at hc
      · simp at hc
      · simp only [List.mem_singleton] at hc
        subst hc
        exact fun e => h e.symm

/-- What any key reads as after a write. -/
theorem Sp.get_set (d : Nat → α) (m : Sp α) (k j : Nat) (v : α) :
    Sp.get d (Sp.set d m k v) j = if j = k then v else Sp.get d m j := by
  by_cases h : j = k
  · subst h; simp
  · simp [h, Sp.get_set_ne d m k j v h]

/-- The empty map has the canonical form. -/
@[simp] theorem Sp.wf_nil (d : Nat → α) : Sp.wf d ([] : Sp α) = true := rfl

/-- The canonical form, spelled out. -/
theorem Sp.wf_iff (d : Nat → α) (m : Sp α) :
    Sp.wf d m = true ↔ m.Pairwise (fun a b => a.1 < b.1) ∧ ∀ c ∈ m, c.2 ≠ d c.1 := by
  simp [Sp.wf]

/-- A filter keeps the canonical form. -/
theorem Sp.wf_filter {d : Nat → α} {m : Sp α} (p : Nat × α → Bool) (h : Sp.wf d m = true) : Sp.wf d (m.filter p) = true := by
  rw [Sp.wf_iff] at h ⊢
  exact ⟨h.1.filter p, fun c hc => h.2 c (List.mem_filter.1 hc).1⟩

/-- A write keeps the canonical form. -/
theorem Sp.wf_set {d : Nat → α} {m : Sp α} (k : Nat) (v : α) (h : Sp.wf d m = true) : Sp.wf d (Sp.set d m k v) = true := by
  rw [Sp.wf_iff] at h ⊢
  unfold Sp.set
  constructor
  · rw [List.pairwise_append]
    refine ⟨h.1.filter _, ?_, ?_⟩
    · rw [List.pairwise_append]
      refine ⟨by split <;> simp, h.1.filter _, ?_⟩
      intro a ha b hb
      have hb' := (List.mem_filter.1 hb).2
      split at ha
      · simp at ha
      · simp only [List.mem_singleton] at ha
        subst ha
        simpa using hb'
    · intro a ha b hb
      have ha' := (List.mem_filter.1 ha).2
      simp only [decide_eq_true_eq] at ha'
      rcases List.mem_append.1 hb with hb | hb
      · split at hb
        · simp at hb
        · simp only [List.mem_singleton] at hb
          subst hb
          exact ha'
      · have hb' := (List.mem_filter.1 hb).2
        simp only [decide_eq_true_eq] at hb'
        omega
  · intro c hc
    rcases List.mem_append.1 hc with hc | hc
    · exact h.2 c (List.mem_filter.1 hc).1
    · rcases List.mem_append.1 hc with hc | hc
      · split at hc
        · simp at hc
        · rename_i hv
          simp only [List.mem_singleton] at hc
          subst hc
          exact hv
      · exact h.2 c (List.mem_filter.1 hc).1

/-- Writing a list of values keeps the canonical form. -/
theorem Sp.wf_setMany {d : Nat → α} (vs : List α) : ∀ {m : Sp α} (k : Nat), Sp.wf d m = true →
    Sp.wf d (Sp.setMany d m k vs) = true := by
  induction vs with
  | nil => exact fun _ h => h
  | cons v vs ih => exact fun k h => ih (k + 1) (Sp.wf_set k v h)

/-- A list of writes by a fold keeps the canonical form. -/
theorem Sp.wf_foldl {β : Type} {d : Nat → α} (l : List β) (key : β → Nat) (val : β → α) : ∀ {m : Sp α}, Sp.wf d m = true →
    Sp.wf d (l.foldl (fun m x => Sp.set d m (key x) (val x)) m) = true := by
  induction l with
  | nil => exact fun h => h
  | cons x xs ih => exact fun h => ih (Sp.wf_set (key x) (val x) h)

end

/-! ### Bit fields -/

/-- A field's value is below its width's bound. -/
theorem getBits_lt (lo w : Nat) (x : Word) : getBits lo w x < 2 ^ w := Nat.mod_lt _ (Nat.two_pow_pos w)

/-- Bit `i` of a word whose field was replaced. -/
theorem setBits_getLsbD (lo w v : Nat) (x : Word) (i : Nat) (hi : i < 32) :
    (setBits lo w v x).getLsbD i = if lo ≤ i ∧ i < lo + w then v.testBit (i - lo) else x.getLsbD i := by
  unfold setBits
  simp only [BitVec.getLsbD_or, BitVec.getLsbD_and, BitVec.getLsbD_not, BitVec.getLsbD_shiftLeft, BitVec.getLsbD_ofNat,
    Nat.testBit_two_pow_sub_one, Nat.testBit_mod_two_pow, hi, decide_true, Bool.true_and]
  by_cases h1 : i < lo
  · simp [h1, Nat.not_le.2 h1]
  · by_cases h2 : i < lo + w
    · have a : i - lo < w := by omega
      have b : i - lo < 32 := by omega
      simp [h1, h2, Nat.not_lt.1 h1, a, b]
    · have a : ¬ i - lo < w := by omega
      simp [h1, h2, a]

/-- Bit `i` of a field read as a number. -/
theorem getBits_testBit (lo w : Nat) (x : Word) (i : Nat) :
    (getBits lo w x).testBit i = (decide (i < w) && x.getLsbD (lo + i)) := by
  unfold getBits
  rw [Nat.testBit_mod_two_pow, Nat.testBit_shiftRight]
  rfl

/-- A field that was set reads as the value, cut to the field's width. -/
@[simp] theorem getBits_setBits_self (lo w v : Nat) (x : Word) (h : lo + w ≤ 32) :
    getBits lo w (setBits lo w v x) = v % 2 ^ w := by
  apply Nat.eq_of_testBit_eq
  intro i
  rw [getBits_testBit, Nat.testBit_mod_two_pow]
  by_cases hi : i < w
  · rw [setBits_getLsbD _ _ _ _ _ (by omega)]
    simp [hi]
  · simp [hi]

/-- A field apart from the one that was set keeps its value. -/
theorem getBits_setBits_ne (lo w lo' w' v : Nat) (x : Word) (h' : lo' + w' ≤ 32)
    (h : lo + w ≤ lo' ∨ lo' + w' ≤ lo) : getBits lo' w' (setBits lo w v x) = getBits lo' w' x := by
  apply Nat.eq_of_testBit_eq
  intro i
  rw [getBits_testBit, getBits_testBit]
  by_cases hi : i < w'
  · rw [setBits_getLsbD _ _ _ _ _ (by omega), if_neg (by omega)]
  · simp [hi]

end Sys2Proof.Machine
end

