-- ==== Sys2Proof/Laws/State.lean ====
section
/-! SUPPORT. What each update of the state leaves of every other field, and the laws of register fields: what a field reads as
after a write to it, and that a write leaves every field apart from it alone. -/

namespace Sys2Proof.Machine

/-! ### `State.wr` changes only `regs` -/

@[simp] theorem State.wr_pending (s : State) (a : Nat) (v : Word) : (s.wr a v).pending = s.pending := rfl
@[simp] theorem State.wr_shadow (s : State) (a : Nat) (v : Word) : (s.wr a v).shadow = s.shadow := rfl
@[simp] theorem State.wr_sel (s : State) (a : Nat) (v : Word) : (s.wr a v).sel = s.sel := rfl
@[simp] theorem State.wr_bus (s : State) (a : Nat) (v : Word) : (s.wr a v).bus = s.bus := rfl
@[simp] theorem State.wr_rdata (s : State) (a : Nat) (v : Word) : (s.wr a v).rdata = s.rdata := rfl
@[simp] theorem State.wr_tm (s : State) (a : Nat) (v : Word) : (s.wr a v).tm = s.tm := rfl
@[simp] theorem State.wr_clk (s : State) (a : Nat) (v : Word) : (s.wr a v).clk = s.clk := rfl
@[simp] theorem State.wr_ev (s : State) (a : Nat) (v : Word) : (s.wr a v).ev = s.ev := rfl
@[simp] theorem State.wr_q (s : State) (a : Nat) (v : Word) : (s.wr a v).q = s.q := rfl
@[simp] theorem State.wr_sq (s : State) (a : Nat) (v : Word) : (s.wr a v).sq = s.sq := rfl
@[simp] theorem State.wr_plan (s : State) (a : Nat) (v : Word) : (s.wr a v).plan = s.plan := rfl
@[simp] theorem State.wr_mem (s : State) (a : Nat) (v : Word) : (s.wr a v).mem = s.mem := rfl
@[simp] theorem State.wr_fc (s : State) (a : Nat) (v : Word) : (s.wr a v).fc = s.fc := rfl
@[simp] theorem State.wr_vp (s : State) (a : Nat) (v : Word) : (s.wr a v).vp = s.vp := rfl
@[simp] theorem State.wr_eff (s : State) (a : Nat) (v : Word) : (s.wr a v).eff = s.eff := rfl
@[simp] theorem State.wr_outs (s : State) (a : Nat) (v : Word) : (s.wr a v).outs = s.outs := rfl
@[simp] theorem State.wr_was (s : State) (a : Nat) (v : Word) : (s.wr a v).was = s.was := rfl
@[simp] theorem State.wr_saves (s : State) (a : Nat) (v : Word) : (s.wr a v).saves = s.saves := rfl
@[simp] theorem State.wr_dram (s : State) (a : Nat) (v : Word) : (s.wr a v).dram = s.dram := rfl
@[simp] theorem State.wr_cap (s : State) (a : Nat) (v : Word) : (s.wr a v).cap = s.cap := rfl
@[simp] theorem State.wr_bat (s : State) (a : Nat) (v : Word) : (s.wr a v).bat = s.bat := rfl
@[simp] theorem State.wr_fab (s : State) (a : Nat) (v : Word) : (s.wr a v).fab = s.fab := rfl
@[simp] theorem State.wr_sup (s : State) (a : Nat) (v : Word) : (s.wr a v).sup = s.sup := rfl
@[simp] theorem State.wr_mir (s : State) (a : Nat) (v : Word) : (s.wr a v).mir = s.mir := rfl
@[simp] theorem State.wr_mg (s : State) (a : Nat) (v : Word) : (s.wr a v).mg = s.mg := rfl
@[simp] theorem State.wr_sent (s : State) (a : Nat) (v : Word) : (s.wr a v).sent = s.sent := rfl
@[simp] theorem State.wr_free (s : State) (a : Nat) (v : Word) : (s.wr a v).free = s.free := rfl

/-! ### `State.put` changes only `regs` -/

@[simp] theorem State.put_pending (s : State) (f : Fld) (v : Nat) : (s.put f v).pending = s.pending := rfl
@[simp] theorem State.put_shadow (s : State) (f : Fld) (v : Nat) : (s.put f v).shadow = s.shadow := rfl
@[simp] theorem State.put_sel (s : State) (f : Fld) (v : Nat) : (s.put f v).sel = s.sel := rfl
@[simp] theorem State.put_bus (s : State) (f : Fld) (v : Nat) : (s.put f v).bus = s.bus := rfl
@[simp] theorem State.put_rdata (s : State) (f : Fld) (v : Nat) : (s.put f v).rdata = s.rdata := rfl
@[simp] theorem State.put_tm (s : State) (f : Fld) (v : Nat) : (s.put f v).tm = s.tm := rfl
@[simp] theorem State.put_clk (s : State) (f : Fld) (v : Nat) : (s.put f v).clk = s.clk := rfl
@[simp] theorem State.put_ev (s : State) (f : Fld) (v : Nat) : (s.put f v).ev = s.ev := rfl
@[simp] theorem State.put_q (s : State) (f : Fld) (v : Nat) : (s.put f v).q = s.q := rfl
@[simp] theorem State.put_sq (s : State) (f : Fld) (v : Nat) : (s.put f v).sq = s.sq := rfl
@[simp] theorem State.put_plan (s : State) (f : Fld) (v : Nat) : (s.put f v).plan = s.plan := rfl
@[simp] theorem State.put_mem (s : State) (f : Fld) (v : Nat) : (s.put f v).mem = s.mem := rfl
@[simp] theorem State.put_fc (s : State) (f : Fld) (v : Nat) : (s.put f v).fc = s.fc := rfl
@[simp] theorem State.put_vp (s : State) (f : Fld) (v : Nat) : (s.put f v).vp = s.vp := rfl
@[simp] theorem State.put_eff (s : State) (f : Fld) (v : Nat) : (s.put f v).eff = s.eff := rfl
@[simp] theorem State.put_outs (s : State) (f : Fld) (v : Nat) : (s.put f v).outs = s.outs := rfl
@[simp] theorem State.put_was (s : State) (f : Fld) (v : Nat) : (s.put f v).was = s.was := rfl
@[simp] theorem State.put_saves (s : State) (f : Fld) (v : Nat) : (s.put f v).saves = s.saves := rfl
@[simp] theorem State.put_dram (s : State) (f : Fld) (v : Nat) : (s.put f v).dram = s.dram := rfl
@[simp] theorem State.put_cap (s : State) (f : Fld) (v : Nat) : (s.put f v).cap = s.cap := rfl
@[simp] theorem State.put_bat (s : State) (f : Fld) (v : Nat) : (s.put f v).bat = s.bat := rfl
@[simp] theorem State.put_fab (s : State) (f : Fld) (v : Nat) : (s.put f v).fab = s.fab := rfl
@[simp] theorem State.put_sup (s : State) (f : Fld) (v : Nat) : (s.put f v).sup = s.sup := rfl
@[simp] theorem State.put_mir (s : State) (f : Fld) (v : Nat) : (s.put f v).mir = s.mir := rfl
@[simp] theorem State.put_mg (s : State) (f : Fld) (v : Nat) : (s.put f v).mg = s.mg := rfl
@[simp] theorem State.put_sent (s : State) (f : Fld) (v : Nat) : (s.put f v).sent = s.sent := rfl
@[simp] theorem State.put_free (s : State) (f : Fld) (v : Nat) : (s.put f v).free = s.free := rfl

/-! ### `State.raise` changes only `regs` -/

@[simp] theorem State.raise_pending (s : State) (f : Fld) : (s.raise f).pending = s.pending := rfl
@[simp] theorem State.raise_shadow (s : State) (f : Fld) : (s.raise f).shadow = s.shadow := rfl
@[simp] theorem State.raise_sel (s : State) (f : Fld) : (s.raise f).sel = s.sel := rfl
@[simp] theorem State.raise_bus (s : State) (f : Fld) : (s.raise f).bus = s.bus := rfl
@[simp] theorem State.raise_rdata (s : State) (f : Fld) : (s.raise f).rdata = s.rdata := rfl
@[simp] theorem State.raise_tm (s : State) (f : Fld) : (s.raise f).tm = s.tm := rfl
@[simp] theorem State.raise_clk (s : State) (f : Fld) : (s.raise f).clk = s.clk := rfl
@[simp] theorem State.raise_ev (s : State) (f : Fld) : (s.raise f).ev = s.ev := rfl
@[simp] theorem State.raise_q (s : State) (f : Fld) : (s.raise f).q = s.q := rfl
@[simp] theorem State.raise_sq (s : State) (f : Fld) : (s.raise f).sq = s.sq := rfl
@[simp] theorem State.raise_plan (s : State) (f : Fld) : (s.raise f).plan = s.plan := rfl
@[simp] theorem State.raise_mem (s : State) (f : Fld) : (s.raise f).mem = s.mem := rfl
@[simp] theorem State.raise_fc (s : State) (f : Fld) : (s.raise f).fc = s.fc := rfl
@[simp] theorem State.raise_vp (s : State) (f : Fld) : (s.raise f).vp = s.vp := rfl
@[simp] theorem State.raise_eff (s : State) (f : Fld) : (s.raise f).eff = s.eff := rfl
@[simp] theorem State.raise_outs (s : State) (f : Fld) : (s.raise f).outs = s.outs := rfl
@[simp] theorem State.raise_was (s : State) (f : Fld) : (s.raise f).was = s.was := rfl
@[simp] theorem State.raise_saves (s : State) (f : Fld) : (s.raise f).saves = s.saves := rfl
@[simp] theorem State.raise_dram (s : State) (f : Fld) : (s.raise f).dram = s.dram := rfl
@[simp] theorem State.raise_cap (s : State) (f : Fld) : (s.raise f).cap = s.cap := rfl
@[simp] theorem State.raise_bat (s : State) (f : Fld) : (s.raise f).bat = s.bat := rfl
@[simp] theorem State.raise_fab (s : State) (f : Fld) : (s.raise f).fab = s.fab := rfl
@[simp] theorem State.raise_sup (s : State) (f : Fld) : (s.raise f).sup = s.sup := rfl
@[simp] theorem State.raise_mir (s : State) (f : Fld) : (s.raise f).mir = s.mir := rfl
@[simp] theorem State.raise_mg (s : State) (f : Fld) : (s.raise f).mg = s.mg := rfl
@[simp] theorem State.raise_sent (s : State) (f : Fld) : (s.raise f).sent = s.sent := rfl
@[simp] theorem State.raise_free (s : State) (f : Fld) : (s.raise f).free = s.free := rfl

/-! ### `State.addTo` changes only `regs` -/

@[simp] theorem State.addTo_pending (s : State) (f : Fld) (n : Nat) : (s.addTo f n).pending = s.pending := rfl
@[simp] theorem State.addTo_shadow (s : State) (f : Fld) (n : Nat) : (s.addTo f n).shadow = s.shadow := rfl
@[simp] theorem State.addTo_sel (s : State) (f : Fld) (n : Nat) : (s.addTo f n).sel = s.sel := rfl
@[simp] theorem State.addTo_bus (s : State) (f : Fld) (n : Nat) : (s.addTo f n).bus = s.bus := rfl
@[simp] theorem State.addTo_rdata (s : State) (f : Fld) (n : Nat) : (s.addTo f n).rdata = s.rdata := rfl
@[simp] theorem State.addTo_tm (s : State) (f : Fld) (n : Nat) : (s.addTo f n).tm = s.tm := rfl
@[simp] theorem State.addTo_clk (s : State) (f : Fld) (n : Nat) : (s.addTo f n).clk = s.clk := rfl
@[simp] theorem State.addTo_ev (s : State) (f : Fld) (n : Nat) : (s.addTo f n).ev = s.ev := rfl
@[simp] theorem State.addTo_q (s : State) (f : Fld) (n : Nat) : (s.addTo f n).q = s.q := rfl
@[simp] theorem State.addTo_sq (s : State) (f : Fld) (n : Nat) : (s.addTo f n).sq = s.sq := rfl
@[simp] theorem State.addTo_plan (s : State) (f : Fld) (n : Nat) : (s.addTo f n).plan = s.plan := rfl
@[simp] theorem State.addTo_mem (s : State) (f : Fld) (n : Nat) : (s.addTo f n).mem = s.mem := rfl
@[simp] theorem State.addTo_fc (s : State) (f : Fld) (n : Nat) : (s.addTo f n).fc = s.fc := rfl
@[simp] theorem State.addTo_vp (s : State) (f : Fld) (n : Nat) : (s.addTo f n).vp = s.vp := rfl
@[simp] theorem State.addTo_eff (s : State) (f : Fld) (n : Nat) : (s.addTo f n).eff = s.eff := rfl
@[simp] theorem State.addTo_outs (s : State) (f : Fld) (n : Nat) : (s.addTo f n).outs = s.outs := rfl
@[simp] theorem State.addTo_was (s : State) (f : Fld) (n : Nat) : (s.addTo f n).was = s.was := rfl
@[simp] theorem State.addTo_saves (s : State) (f : Fld) (n : Nat) : (s.addTo f n).saves = s.saves := rfl
@[simp] theorem State.addTo_dram (s : State) (f : Fld) (n : Nat) : (s.addTo f n).dram = s.dram := rfl
@[simp] theorem State.addTo_cap (s : State) (f : Fld) (n : Nat) : (s.addTo f n).cap = s.cap := rfl
@[simp] theorem State.addTo_bat (s : State) (f : Fld) (n : Nat) : (s.addTo f n).bat = s.bat := rfl
@[simp] theorem State.addTo_fab (s : State) (f : Fld) (n : Nat) : (s.addTo f n).fab = s.fab := rfl
@[simp] theorem State.addTo_sup (s : State) (f : Fld) (n : Nat) : (s.addTo f n).sup = s.sup := rfl
@[simp] theorem State.addTo_mir (s : State) (f : Fld) (n : Nat) : (s.addTo f n).mir = s.mir := rfl
@[simp] theorem State.addTo_mg (s : State) (f : Fld) (n : Nat) : (s.addTo f n).mg = s.mg := rfl
@[simp] theorem State.addTo_sent (s : State) (f : Fld) (n : Nat) : (s.addTo f n).sent = s.sent := rfl
@[simp] theorem State.addTo_free (s : State) (f : Fld) (n : Nat) : (s.addTo f n).free = s.free := rfl

/-! ### `State.bump` changes only `regs` -/

@[simp] theorem State.bump_pending (s : State) (f : Fld) : (s.bump f).pending = s.pending := rfl
@[simp] theorem State.bump_shadow (s : State) (f : Fld) : (s.bump f).shadow = s.shadow := rfl
@[simp] theorem State.bump_sel (s : State) (f : Fld) : (s.bump f).sel = s.sel := rfl
@[simp] theorem State.bump_bus (s : State) (f : Fld) : (s.bump f).bus = s.bus := rfl
@[simp] theorem State.bump_rdata (s : State) (f : Fld) : (s.bump f).rdata = s.rdata := rfl
@[simp] theorem State.bump_tm (s : State) (f : Fld) : (s.bump f).tm = s.tm := rfl
@[simp] theorem State.bump_clk (s : State) (f : Fld) : (s.bump f).clk = s.clk := rfl
@[simp] theorem State.bump_ev (s : State) (f : Fld) : (s.bump f).ev = s.ev := rfl
@[simp] theorem State.bump_q (s : State) (f : Fld) : (s.bump f).q = s.q := rfl
@[simp] theorem State.bump_sq (s : State) (f : Fld) : (s.bump f).sq = s.sq := rfl
@[simp] theorem State.bump_plan (s : State) (f : Fld) : (s.bump f).plan = s.plan := rfl
@[simp] theorem State.bump_mem (s : State) (f : Fld) : (s.bump f).mem = s.mem := rfl
@[simp] theorem State.bump_fc (s : State) (f : Fld) : (s.bump f).fc = s.fc := rfl
@[simp] theorem State.bump_vp (s : State) (f : Fld) : (s.bump f).vp = s.vp := rfl
@[simp] theorem State.bump_eff (s : State) (f : Fld) : (s.bump f).eff = s.eff := rfl
@[simp] theorem State.bump_outs (s : State) (f : Fld) : (s.bump f).outs = s.outs := rfl
@[simp] theorem State.bump_was (s : State) (f : Fld) : (s.bump f).was = s.was := rfl
@[simp] theorem State.bump_saves (s : State) (f : Fld) : (s.bump f).saves = s.saves := rfl
@[simp] theorem State.bump_dram (s : State) (f : Fld) : (s.bump f).dram = s.dram := rfl
@[simp] theorem State.bump_cap (s : State) (f : Fld) : (s.bump f).cap = s.cap := rfl
@[simp] theorem State.bump_bat (s : State) (f : Fld) : (s.bump f).bat = s.bat := rfl
@[simp] theorem State.bump_fab (s : State) (f : Fld) : (s.bump f).fab = s.fab := rfl
@[simp] theorem State.bump_sup (s : State) (f : Fld) : (s.bump f).sup = s.sup := rfl
@[simp] theorem State.bump_mir (s : State) (f : Fld) : (s.bump f).mir = s.mir := rfl
@[simp] theorem State.bump_mg (s : State) (f : Fld) : (s.bump f).mg = s.mg := rfl
@[simp] theorem State.bump_sent (s : State) (f : Fld) : (s.bump f).sent = s.sent := rfl
@[simp] theorem State.bump_free (s : State) (f : Fld) : (s.bump f).free = s.free := rfl

/-! ### `State.setSel` changes only `sel` -/

@[simp] theorem State.setSel_regs (s : State) (n v : Nat) : (s.setSel n v).regs = s.regs := rfl
@[simp] theorem State.setSel_pending (s : State) (n v : Nat) : (s.setSel n v).pending = s.pending := rfl
@[simp] theorem State.setSel_shadow (s : State) (n v : Nat) : (s.setSel n v).shadow = s.shadow := rfl
@[simp] theorem State.setSel_bus (s : State) (n v : Nat) : (s.setSel n v).bus = s.bus := rfl
@[simp] theorem State.setSel_rdata (s : State) (n v : Nat) : (s.setSel n v).rdata = s.rdata := rfl
@[simp] theorem State.setSel_tm (s : State) (n v : Nat) : (s.setSel n v).tm = s.tm := rfl
@[simp] theorem State.setSel_clk (s : State) (n v : Nat) : (s.setSel n v).clk = s.clk := rfl
@[simp] theorem State.setSel_ev (s : State) (n v : Nat) : (s.setSel n v).ev = s.ev := rfl
@[simp] theorem State.setSel_q (s : State) (n v : Nat) : (s.setSel n v).q = s.q := rfl
@[simp] theorem State.setSel_sq (s : State) (n v : Nat) : (s.setSel n v).sq = s.sq := rfl
@[simp] theorem State.setSel_plan (s : State) (n v : Nat) : (s.setSel n v).plan = s.plan := rfl
@[simp] theorem State.setSel_mem (s : State) (n v : Nat) : (s.setSel n v).mem = s.mem := rfl
@[simp] theorem State.setSel_fc (s : State) (n v : Nat) : (s.setSel n v).fc = s.fc := rfl
@[simp] theorem State.setSel_vp (s : State) (n v : Nat) : (s.setSel n v).vp = s.vp := rfl
@[simp] theorem State.setSel_eff (s : State) (n v : Nat) : (s.setSel n v).eff = s.eff := rfl
@[simp] theorem State.setSel_outs (s : State) (n v : Nat) : (s.setSel n v).outs = s.outs := rfl
@[simp] theorem State.setSel_was (s : State) (n v : Nat) : (s.setSel n v).was = s.was := rfl
@[simp] theorem State.setSel_saves (s : State) (n v : Nat) : (s.setSel n v).saves = s.saves := rfl
@[simp] theorem State.setSel_dram (s : State) (n v : Nat) : (s.setSel n v).dram = s.dram := rfl
@[simp] theorem State.setSel_cap (s : State) (n v : Nat) : (s.setSel n v).cap = s.cap := rfl
@[simp] theorem State.setSel_bat (s : State) (n v : Nat) : (s.setSel n v).bat = s.bat := rfl
@[simp] theorem State.setSel_fab (s : State) (n v : Nat) : (s.setSel n v).fab = s.fab := rfl
@[simp] theorem State.setSel_sup (s : State) (n v : Nat) : (s.setSel n v).sup = s.sup := rfl
@[simp] theorem State.setSel_mir (s : State) (n v : Nat) : (s.setSel n v).mir = s.mir := rfl
@[simp] theorem State.setSel_mg (s : State) (n v : Nat) : (s.setSel n v).mg = s.mg := rfl
@[simp] theorem State.setSel_sent (s : State) (n v : Nat) : (s.setSel n v).sent = s.sent := rfl
@[simp] theorem State.setSel_free (s : State) (n v : Nat) : (s.setSel n v).free = s.free := rfl

/-! ### `State.setShadow` changes only `shadow` -/

@[simp] theorem State.setShadow_regs (s : State) (a : Nat) (v : Option Word) : (s.setShadow a v).regs = s.regs := rfl
@[simp] theorem State.setShadow_pending (s : State) (a : Nat) (v : Option Word) : (s.setShadow a v).pending = s.pending := rfl
@[simp] theorem State.setShadow_sel (s : State) (a : Nat) (v : Option Word) : (s.setShadow a v).sel = s.sel := rfl
@[simp] theorem State.setShadow_bus (s : State) (a : Nat) (v : Option Word) : (s.setShadow a v).bus = s.bus := rfl
@[simp] theorem State.setShadow_rdata (s : State) (a : Nat) (v : Option Word) : (s.setShadow a v).rdata = s.rdata := rfl
@[simp] theorem State.setShadow_tm (s : State) (a : Nat) (v : Option Word) : (s.setShadow a v).tm = s.tm := rfl
@[simp] theorem State.setShadow_clk (s : State) (a : Nat) (v : Option Word) : (s.setShadow a v).clk = s.clk := rfl
@[simp] theorem State.setShadow_ev (s : State) (a : Nat) (v : Option Word) : (s.setShadow a v).ev = s.ev := rfl
@[simp] theorem State.setShadow_q (s : State) (a : Nat) (v : Option Word) : (s.setShadow a v).q = s.q := rfl
@[simp] theorem State.setShadow_sq (s : State) (a : Nat) (v : Option Word) : (s.setShadow a v).sq = s.sq := rfl
@[simp] theorem State.setShadow_plan (s : State) (a : Nat) (v : Option Word) : (s.setShadow a v).plan = s.plan := rfl
@[simp] theorem State.setShadow_mem (s : State) (a : Nat) (v : Option Word) : (s.setShadow a v).mem = s.mem := rfl
@[simp] theorem State.setShadow_fc (s : State) (a : Nat) (v : Option Word) : (s.setShadow a v).fc = s.fc := rfl
@[simp] theorem State.setShadow_vp (s : State) (a : Nat) (v : Option Word) : (s.setShadow a v).vp = s.vp := rfl
@[simp] theorem State.setShadow_eff (s : State) (a : Nat) (v : Option Word) : (s.setShadow a v).eff = s.eff := rfl
@[simp] theorem State.setShadow_outs (s : State) (a : Nat) (v : Option Word) : (s.setShadow a v).outs = s.outs := rfl
@[simp] theorem State.setShadow_was (s : State) (a : Nat) (v : Option Word) : (s.setShadow a v).was = s.was := rfl
@[simp] theorem State.setShadow_saves (s : State) (a : Nat) (v : Option Word) : (s.setShadow a v).saves = s.saves := rfl
@[simp] theorem State.setShadow_dram (s : State) (a : Nat) (v : Option Word) : (s.setShadow a v).dram = s.dram := rfl
@[simp] theorem State.setShadow_cap (s : State) (a : Nat) (v : Option Word) : (s.setShadow a v).cap = s.cap := rfl
@[simp] theorem State.setShadow_bat (s : State) (a : Nat) (v : Option Word) : (s.setShadow a v).bat = s.bat := rfl
@[simp] theorem State.setShadow_fab (s : State) (a : Nat) (v : Option Word) : (s.setShadow a v).fab = s.fab := rfl
@[simp] theorem State.setShadow_sup (s : State) (a : Nat) (v : Option Word) : (s.setShadow a v).sup = s.sup := rfl
@[simp] theorem State.setShadow_mir (s : State) (a : Nat) (v : Option Word) : (s.setShadow a v).mir = s.mir := rfl
@[simp] theorem State.setShadow_mg (s : State) (a : Nat) (v : Option Word) : (s.setShadow a v).mg = s.mg := rfl
@[simp] theorem State.setShadow_sent (s : State) (a : Nat) (v : Option Word) : (s.setShadow a v).sent = s.sent := rfl
@[simp] theorem State.setShadow_free (s : State) (a : Nat) (v : Option Word) : (s.setShadow a v).free = s.free := rfl

/-! ### `State.setSq` changes only `sq` -/

@[simp] theorem State.setSq_regs (s : State) (n : Nat) (q : Sq) : (s.setSq n q).regs = s.regs := rfl
@[simp] theorem State.setSq_pending (s : State) (n : Nat) (q : Sq) : (s.setSq n q).pending = s.pending := rfl
@[simp] theorem State.setSq_shadow (s : State) (n : Nat) (q : Sq) : (s.setSq n q).shadow = s.shadow := rfl
@[simp] theorem State.setSq_sel (s : State) (n : Nat) (q : Sq) : (s.setSq n q).sel = s.sel := rfl
@[simp] theorem State.setSq_bus (s : State) (n : Nat) (q : Sq) : (s.setSq n q).bus = s.bus := rfl
@[simp] theorem State.setSq_rdata (s : State) (n : Nat) (q : Sq) : (s.setSq n q).rdata = s.rdata := rfl
@[simp] theorem State.setSq_tm (s : State) (n : Nat) (q : Sq) : (s.setSq n q).tm = s.tm := rfl
@[simp] theorem State.setSq_clk (s : State) (n : Nat) (q : Sq) : (s.setSq n q).clk = s.clk := rfl
@[simp] theorem State.setSq_ev (s : State) (n : Nat) (q : Sq) : (s.setSq n q).ev = s.ev := rfl
@[simp] theorem State.setSq_q (s : State) (n : Nat) (q : Sq) : (s.setSq n q).q = s.q := rfl
@[simp] theorem State.setSq_plan (s : State) (n : Nat) (q : Sq) : (s.setSq n q).plan = s.plan := rfl
@[simp] theorem State.setSq_mem (s : State) (n : Nat) (q : Sq) : (s.setSq n q).mem = s.mem := rfl
@[simp] theorem State.setSq_fc (s : State) (n : Nat) (q : Sq) : (s.setSq n q).fc = s.fc := rfl
@[simp] theorem State.setSq_vp (s : State) (n : Nat) (q : Sq) : (s.setSq n q).vp = s.vp := rfl
@[simp] theorem State.setSq_eff (s : State) (n : Nat) (q : Sq) : (s.setSq n q).eff = s.eff := rfl
@[simp] theorem State.setSq_outs (s : State) (n : Nat) (q : Sq) : (s.setSq n q).outs = s.outs := rfl
@[simp] theorem State.setSq_was (s : State) (n : Nat) (q : Sq) : (s.setSq n q).was = s.was := rfl
@[simp] theorem State.setSq_saves (s : State) (n : Nat) (q : Sq) : (s.setSq n q).saves = s.saves := rfl
@[simp] theorem State.setSq_dram (s : State) (n : Nat) (q : Sq) : (s.setSq n q).dram = s.dram := rfl
@[simp] theorem State.setSq_cap (s : State) (n : Nat) (q : Sq) : (s.setSq n q).cap = s.cap := rfl
@[simp] theorem State.setSq_bat (s : State) (n : Nat) (q : Sq) : (s.setSq n q).bat = s.bat := rfl
@[simp] theorem State.setSq_fab (s : State) (n : Nat) (q : Sq) : (s.setSq n q).fab = s.fab := rfl
@[simp] theorem State.setSq_sup (s : State) (n : Nat) (q : Sq) : (s.setSq n q).sup = s.sup := rfl
@[simp] theorem State.setSq_mir (s : State) (n : Nat) (q : Sq) : (s.setSq n q).mir = s.mir := rfl
@[simp] theorem State.setSq_mg (s : State) (n : Nat) (q : Sq) : (s.setSq n q).mg = s.mg := rfl
@[simp] theorem State.setSq_sent (s : State) (n : Nat) (q : Sq) : (s.setSq n q).sent = s.sent := rfl
@[simp] theorem State.setSq_free (s : State) (n : Nat) (q : Sq) : (s.setSq n q).free = s.free := rfl

/-! ### `State.setFc` changes only `fc` -/

@[simp] theorem State.setFc_regs (s : State) (n : Nat) (c : Fc) : (s.setFc n c).regs = s.regs := rfl
@[simp] theorem State.setFc_pending (s : State) (n : Nat) (c : Fc) : (s.setFc n c).pending = s.pending := rfl
@[simp] theorem State.setFc_shadow (s : State) (n : Nat) (c : Fc) : (s.setFc n c).shadow = s.shadow := rfl
@[simp] theorem State.setFc_sel (s : State) (n : Nat) (c : Fc) : (s.setFc n c).sel = s.sel := rfl
@[simp] theorem State.setFc_bus (s : State) (n : Nat) (c : Fc) : (s.setFc n c).bus = s.bus := rfl
@[simp] theorem State.setFc_rdata (s : State) (n : Nat) (c : Fc) : (s.setFc n c).rdata = s.rdata := rfl
@[simp] theorem State.setFc_tm (s : State) (n : Nat) (c : Fc) : (s.setFc n c).tm = s.tm := rfl
@[simp] theorem State.setFc_clk (s : State) (n : Nat) (c : Fc) : (s.setFc n c).clk = s.clk := rfl
@[simp] theorem State.setFc_ev (s : State) (n : Nat) (c : Fc) : (s.setFc n c).ev = s.ev := rfl
@[simp] theorem State.setFc_q (s : State) (n : Nat) (c : Fc) : (s.setFc n c).q = s.q := rfl
@[simp] theorem State.setFc_sq (s : State) (n : Nat) (c : Fc) : (s.setFc n c).sq = s.sq := rfl
@[simp] theorem State.setFc_plan (s : State) (n : Nat) (c : Fc) : (s.setFc n c).plan = s.plan := rfl
@[simp] theorem State.setFc_mem (s : State) (n : Nat) (c : Fc) : (s.setFc n c).mem = s.mem := rfl
@[simp] theorem State.setFc_vp (s : State) (n : Nat) (c : Fc) : (s.setFc n c).vp = s.vp := rfl
@[simp] theorem State.setFc_eff (s : State) (n : Nat) (c : Fc) : (s.setFc n c).eff = s.eff := rfl
@[simp] theorem State.setFc_outs (s : State) (n : Nat) (c : Fc) : (s.setFc n c).outs = s.outs := rfl
@[simp] theorem State.setFc_was (s : State) (n : Nat) (c : Fc) : (s.setFc n c).was = s.was := rfl
@[simp] theorem State.setFc_saves (s : State) (n : Nat) (c : Fc) : (s.setFc n c).saves = s.saves := rfl
@[simp] theorem State.setFc_dram (s : State) (n : Nat) (c : Fc) : (s.setFc n c).dram = s.dram := rfl
@[simp] theorem State.setFc_cap (s : State) (n : Nat) (c : Fc) : (s.setFc n c).cap = s.cap := rfl
@[simp] theorem State.setFc_bat (s : State) (n : Nat) (c : Fc) : (s.setFc n c).bat = s.bat := rfl
@[simp] theorem State.setFc_fab (s : State) (n : Nat) (c : Fc) : (s.setFc n c).fab = s.fab := rfl
@[simp] theorem State.setFc_sup (s : State) (n : Nat) (c : Fc) : (s.setFc n c).sup = s.sup := rfl
@[simp] theorem State.setFc_mir (s : State) (n : Nat) (c : Fc) : (s.setFc n c).mir = s.mir := rfl
@[simp] theorem State.setFc_mg (s : State) (n : Nat) (c : Fc) : (s.setFc n c).mg = s.mg := rfl
@[simp] theorem State.setFc_sent (s : State) (n : Nat) (c : Fc) : (s.setFc n c).sent = s.sent := rfl
@[simp] theorem State.setFc_free (s : State) (n : Nat) (c : Fc) : (s.setFc n c).free = s.free := rfl

/-! ### `State.takeFree` changes only `free` -/

@[simp] theorem State.takeFree_regs (s : State) : (s.takeFree).regs = s.regs := rfl
@[simp] theorem State.takeFree_pending (s : State) : (s.takeFree).pending = s.pending := rfl
@[simp] theorem State.takeFree_shadow (s : State) : (s.takeFree).shadow = s.shadow := rfl
@[simp] theorem State.takeFree_sel (s : State) : (s.takeFree).sel = s.sel := rfl
@[simp] theorem State.takeFree_bus (s : State) : (s.takeFree).bus = s.bus := rfl
@[simp] theorem State.takeFree_rdata (s : State) : (s.takeFree).rdata = s.rdata := rfl
@[simp] theorem State.takeFree_tm (s : State) : (s.takeFree).tm = s.tm := rfl
@[simp] theorem State.takeFree_clk (s : State) : (s.takeFree).clk = s.clk := rfl
@[simp] theorem State.takeFree_ev (s : State) : (s.takeFree).ev = s.ev := rfl
@[simp] theorem State.takeFree_q (s : State) : (s.takeFree).q = s.q := rfl
@[simp] theorem State.takeFree_sq (s : State) : (s.takeFree).sq = s.sq := rfl
@[simp] theorem State.takeFree_plan (s : State) : (s.takeFree).plan = s.plan := rfl
@[simp] theorem State.takeFree_mem (s : State) : (s.takeFree).mem = s.mem := rfl
@[simp] theorem State.takeFree_fc (s : State) : (s.takeFree).fc = s.fc := rfl
@[simp] theorem State.takeFree_vp (s : State) : (s.takeFree).vp = s.vp := rfl
@[simp] theorem State.takeFree_eff (s : State) : (s.takeFree).eff = s.eff := rfl
@[simp] theorem State.takeFree_outs (s : State) : (s.takeFree).outs = s.outs := rfl
@[simp] theorem State.takeFree_was (s : State) : (s.takeFree).was = s.was := rfl
@[simp] theorem State.takeFree_saves (s : State) : (s.takeFree).saves = s.saves := rfl
@[simp] theorem State.takeFree_dram (s : State) : (s.takeFree).dram = s.dram := rfl
@[simp] theorem State.takeFree_cap (s : State) : (s.takeFree).cap = s.cap := rfl
@[simp] theorem State.takeFree_bat (s : State) : (s.takeFree).bat = s.bat := rfl
@[simp] theorem State.takeFree_fab (s : State) : (s.takeFree).fab = s.fab := rfl
@[simp] theorem State.takeFree_sup (s : State) : (s.takeFree).sup = s.sup := rfl
@[simp] theorem State.takeFree_mir (s : State) : (s.takeFree).mir = s.mir := rfl
@[simp] theorem State.takeFree_mg (s : State) : (s.takeFree).mg = s.mg := rfl
@[simp] theorem State.takeFree_sent (s : State) : (s.takeFree).sent = s.sent := rfl

/-! ### `State.setCapt` changes only `cap` -/

@[simp] theorem State.setCapt_regs (s : State) (b : Nat) (c : CaptBank) : (s.setCapt b c).regs = s.regs := rfl
@[simp] theorem State.setCapt_pending (s : State) (b : Nat) (c : CaptBank) : (s.setCapt b c).pending = s.pending := rfl
@[simp] theorem State.setCapt_shadow (s : State) (b : Nat) (c : CaptBank) : (s.setCapt b c).shadow = s.shadow := rfl
@[simp] theorem State.setCapt_sel (s : State) (b : Nat) (c : CaptBank) : (s.setCapt b c).sel = s.sel := rfl
@[simp] theorem State.setCapt_bus (s : State) (b : Nat) (c : CaptBank) : (s.setCapt b c).bus = s.bus := rfl
@[simp] theorem State.setCapt_rdata (s : State) (b : Nat) (c : CaptBank) : (s.setCapt b c).rdata = s.rdata := rfl
@[simp] theorem State.setCapt_tm (s : State) (b : Nat) (c : CaptBank) : (s.setCapt b c).tm = s.tm := rfl
@[simp] theorem State.setCapt_clk (s : State) (b : Nat) (c : CaptBank) : (s.setCapt b c).clk = s.clk := rfl
@[simp] theorem State.setCapt_ev (s : State) (b : Nat) (c : CaptBank) : (s.setCapt b c).ev = s.ev := rfl
@[simp] theorem State.setCapt_q (s : State) (b : Nat) (c : CaptBank) : (s.setCapt b c).q = s.q := rfl
@[simp] theorem State.setCapt_sq (s : State) (b : Nat) (c : CaptBank) : (s.setCapt b c).sq = s.sq := rfl
@[simp] theorem State.setCapt_plan (s : State) (b : Nat) (c : CaptBank) : (s.setCapt b c).plan = s.plan := rfl
@[simp] theorem State.setCapt_mem (s : State) (b : Nat) (c : CaptBank) : (s.setCapt b c).mem = s.mem := rfl
@[simp] theorem State.setCapt_fc (s : State) (b : Nat) (c : CaptBank) : (s.setCapt b c).fc = s.fc := rfl
@[simp] theorem State.setCapt_vp (s : State) (b : Nat) (c : CaptBank) : (s.setCapt b c).vp = s.vp := rfl
@[simp] theorem State.setCapt_eff (s : State) (b : Nat) (c : CaptBank) : (s.setCapt b c).eff = s.eff := rfl
@[simp] theorem State.setCapt_outs (s : State) (b : Nat) (c : CaptBank) : (s.setCapt b c).outs = s.outs := rfl
@[simp] theorem State.setCapt_was (s : State) (b : Nat) (c : CaptBank) : (s.setCapt b c).was = s.was := rfl
@[simp] theorem State.setCapt_saves (s : State) (b : Nat) (c : CaptBank) : (s.setCapt b c).saves = s.saves := rfl
@[simp] theorem State.setCapt_dram (s : State) (b : Nat) (c : CaptBank) : (s.setCapt b c).dram = s.dram := rfl
@[simp] theorem State.setCapt_bat (s : State) (b : Nat) (c : CaptBank) : (s.setCapt b c).bat = s.bat := rfl
@[simp] theorem State.setCapt_fab (s : State) (b : Nat) (c : CaptBank) : (s.setCapt b c).fab = s.fab := rfl
@[simp] theorem State.setCapt_sup (s : State) (b : Nat) (c : CaptBank) : (s.setCapt b c).sup = s.sup := rfl
@[simp] theorem State.setCapt_mir (s : State) (b : Nat) (c : CaptBank) : (s.setCapt b c).mir = s.mir := rfl
@[simp] theorem State.setCapt_mg (s : State) (b : Nat) (c : CaptBank) : (s.setCapt b c).mg = s.mg := rfl
@[simp] theorem State.setCapt_sent (s : State) (b : Nat) (c : CaptBank) : (s.setCapt b c).sent = s.sent := rfl
@[simp] theorem State.setCapt_free (s : State) (b : Nat) (c : CaptBank) : (s.setCapt b c).free = s.free := rfl

/-! ### `State.setDch` changes only `dram` -/

@[simp] theorem State.setDch_regs (s : State) (c : Nat) (d : Dch) : (s.setDch c d).regs = s.regs := rfl
@[simp] theorem State.setDch_pending (s : State) (c : Nat) (d : Dch) : (s.setDch c d).pending = s.pending := rfl
@[simp] theorem State.setDch_shadow (s : State) (c : Nat) (d : Dch) : (s.setDch c d).shadow = s.shadow := rfl
@[simp] theorem State.setDch_sel (s : State) (c : Nat) (d : Dch) : (s.setDch c d).sel = s.sel := rfl
@[simp] theorem State.setDch_bus (s : State) (c : Nat) (d : Dch) : (s.setDch c d).bus = s.bus := rfl
@[simp] theorem State.setDch_rdata (s : State) (c : Nat) (d : Dch) : (s.setDch c d).rdata = s.rdata := rfl
@[simp] theorem State.setDch_tm (s : State) (c : Nat) (d : Dch) : (s.setDch c d).tm = s.tm := rfl
@[simp] theorem State.setDch_clk (s : State) (c : Nat) (d : Dch) : (s.setDch c d).clk = s.clk := rfl
@[simp] theorem State.setDch_ev (s : State) (c : Nat) (d : Dch) : (s.setDch c d).ev = s.ev := rfl
@[simp] theorem State.setDch_q (s : State) (c : Nat) (d : Dch) : (s.setDch c d).q = s.q := rfl
@[simp] theorem State.setDch_sq (s : State) (c : Nat) (d : Dch) : (s.setDch c d).sq = s.sq := rfl
@[simp] theorem State.setDch_plan (s : State) (c : Nat) (d : Dch) : (s.setDch c d).plan = s.plan := rfl
@[simp] theorem State.setDch_mem (s : State) (c : Nat) (d : Dch) : (s.setDch c d).mem = s.mem := rfl
@[simp] theorem State.setDch_fc (s : State) (c : Nat) (d : Dch) : (s.setDch c d).fc = s.fc := rfl
@[simp] theorem State.setDch_vp (s : State) (c : Nat) (d : Dch) : (s.setDch c d).vp = s.vp := rfl
@[simp] theorem State.setDch_eff (s : State) (c : Nat) (d : Dch) : (s.setDch c d).eff = s.eff := rfl
@[simp] theorem State.setDch_outs (s : State) (c : Nat) (d : Dch) : (s.setDch c d).outs = s.outs := rfl
@[simp] theorem State.setDch_was (s : State) (c : Nat) (d : Dch) : (s.setDch c d).was = s.was := rfl
@[simp] theorem State.setDch_saves (s : State) (c : Nat) (d : Dch) : (s.setDch c d).saves = s.saves := rfl
@[simp] theorem State.setDch_cap (s : State) (c : Nat) (d : Dch) : (s.setDch c d).cap = s.cap := rfl
@[simp] theorem State.setDch_bat (s : State) (c : Nat) (d : Dch) : (s.setDch c d).bat = s.bat := rfl
@[simp] theorem State.setDch_fab (s : State) (c : Nat) (d : Dch) : (s.setDch c d).fab = s.fab := rfl
@[simp] theorem State.setDch_sup (s : State) (c : Nat) (d : Dch) : (s.setDch c d).sup = s.sup := rfl
@[simp] theorem State.setDch_mir (s : State) (c : Nat) (d : Dch) : (s.setDch c d).mir = s.mir := rfl
@[simp] theorem State.setDch_mg (s : State) (c : Nat) (d : Dch) : (s.setDch c d).mg = s.mg := rfl
@[simp] theorem State.setDch_sent (s : State) (c : Nat) (d : Dch) : (s.setDch c d).sent = s.sent := rfl
@[simp] theorem State.setDch_free (s : State) (c : Nat) (d : Dch) : (s.setDch c d).free = s.free := rfl

/-! ### `State.send` changes only `sent` -/

@[simp] theorem State.send_regs (s : State) (p k : Nat) (bs : List Byte) : (s.send p k bs).regs = s.regs := rfl
@[simp] theorem State.send_pending (s : State) (p k : Nat) (bs : List Byte) : (s.send p k bs).pending = s.pending := rfl
@[simp] theorem State.send_shadow (s : State) (p k : Nat) (bs : List Byte) : (s.send p k bs).shadow = s.shadow := rfl
@[simp] theorem State.send_sel (s : State) (p k : Nat) (bs : List Byte) : (s.send p k bs).sel = s.sel := rfl
@[simp] theorem State.send_bus (s : State) (p k : Nat) (bs : List Byte) : (s.send p k bs).bus = s.bus := rfl
@[simp] theorem State.send_rdata (s : State) (p k : Nat) (bs : List Byte) : (s.send p k bs).rdata = s.rdata := rfl
@[simp] theorem State.send_tm (s : State) (p k : Nat) (bs : List Byte) : (s.send p k bs).tm = s.tm := rfl
@[simp] theorem State.send_clk (s : State) (p k : Nat) (bs : List Byte) : (s.send p k bs).clk = s.clk := rfl
@[simp] theorem State.send_ev (s : State) (p k : Nat) (bs : List Byte) : (s.send p k bs).ev = s.ev := rfl
@[simp] theorem State.send_q (s : State) (p k : Nat) (bs : List Byte) : (s.send p k bs).q = s.q := rfl
@[simp] theorem State.send_sq (s : State) (p k : Nat) (bs : List Byte) : (s.send p k bs).sq = s.sq := rfl
@[simp] theorem State.send_plan (s : State) (p k : Nat) (bs : List Byte) : (s.send p k bs).plan = s.plan := rfl
@[simp] theorem State.send_mem (s : State) (p k : Nat) (bs : List Byte) : (s.send p k bs).mem = s.mem := rfl
@[simp] theorem State.send_fc (s : State) (p k : Nat) (bs : List Byte) : (s.send p k bs).fc = s.fc := rfl
@[simp] theorem State.send_vp (s : State) (p k : Nat) (bs : List Byte) : (s.send p k bs).vp = s.vp := rfl
@[simp] theorem State.send_eff (s : State) (p k : Nat) (bs : List Byte) : (s.send p k bs).eff = s.eff := rfl
@[simp] theorem State.send_outs (s : State) (p k : Nat) (bs : List Byte) : (s.send p k bs).outs = s.outs := rfl
@[simp] theorem State.send_was (s : State) (p k : Nat) (bs : List Byte) : (s.send p k bs).was = s.was := rfl
@[simp] theorem State.send_saves (s : State) (p k : Nat) (bs : List Byte) : (s.send p k bs).saves = s.saves := rfl
@[simp] theorem State.send_dram (s : State) (p k : Nat) (bs : List Byte) : (s.send p k bs).dram = s.dram := rfl
@[simp] theorem State.send_cap (s : State) (p k : Nat) (bs : List Byte) : (s.send p k bs).cap = s.cap := rfl
@[simp] theorem State.send_bat (s : State) (p k : Nat) (bs : List Byte) : (s.send p k bs).bat = s.bat := rfl
@[simp] theorem State.send_fab (s : State) (p k : Nat) (bs : List Byte) : (s.send p k bs).fab = s.fab := rfl
@[simp] theorem State.send_sup (s : State) (p k : Nat) (bs : List Byte) : (s.send p k bs).sup = s.sup := rfl
@[simp] theorem State.send_mir (s : State) (p k : Nat) (bs : List Byte) : (s.send p k bs).mir = s.mir := rfl
@[simp] theorem State.send_mg (s : State) (p k : Nat) (bs : List Byte) : (s.send p k bs).mg = s.mg := rfl
@[simp] theorem State.send_free (s : State) (p k : Nat) (bs : List Byte) : (s.send p k bs).free = s.free := rfl

/-! ### Registers -/

/-- Two fields have no bit in common. -/
@[simp] def Fld.apart (f g : Fld) : Bool :=
  decide (f.a ≠ g.a) || (decide (f.lo + f.w ≤ g.lo) || decide (g.lo + g.w ≤ f.lo)) && decide (f.lo + f.w ≤ 32)

/-- What a register reads as after a write. -/
theorem State.wr_rd (s : State) (a b : Nat) (v : Word) : (s.wr a v).rd b = if b = a then v else s.rd b :=
  Sp.get_set resetOf s.regs a b v

@[simp] theorem State.wr_rd_self (s : State) (a : Nat) (v : Word) : (s.wr a v).rd a = v := by simp [State.wr_rd]

@[simp] theorem State.wr_rd_ne {s : State} {a b : Nat} {v : Word} (h : b ≠ a) : (s.wr a v).rd b = s.rd b := by
  simp [State.wr_rd, h]

@[simp] theorem State.put_rd_ne {s : State} {f : Fld} {v b : Nat} (h : b ≠ f.a) : (s.put f v).rd b = s.rd b :=
  State.wr_rd_ne h

@[simp] theorem State.raise_rd_ne {s : State} {f : Fld} {b : Nat} (h : b ≠ f.a) : (s.raise f).rd b = s.rd b :=
  State.wr_rd_ne h

@[simp] theorem State.bump_rd_ne {s : State} {f : Fld} {b : Nat} (h : b ≠ f.a) : (s.bump f).rd b = s.rd b :=
  State.wr_rd_ne h

@[simp] theorem State.addTo_rd_ne {s : State} {f : Fld} {n b : Nat} (h : b ≠ f.a) : (s.addTo f n).rd b = s.rd b :=
  State.wr_rd_ne h

/-- A field that was set reads as its value, cut to its width. -/
@[simp] theorem State.put_fld_self {s : State} {f : Fld} {v : Nat} (h : f.lo + f.w ≤ 32) :
    (s.put f v).fld f = v % 2 ^ f.w := by
  simp [State.put, State.fld, h]

/-- A field apart from the one that was set keeps its value. -/
@[simp] theorem State.put_fld_apart {s : State} {f g : Fld} {v : Nat} (h : Fld.apart f g = true) :
    (s.put g v).fld f = s.fld f := by
  simp only [Fld.apart, Bool.or_eq_true, Bool.and_eq_true, decide_eq_true_eq] at h
  by_cases e : f.a = g.a
  · unfold State.put State.fld
    rw [e, State.wr_rd_self]
    apply getBits_setBits_ne <;> omega
  · unfold State.fld
    rw [State.put_rd_ne e]

/-- A field of another register keeps its value. -/
@[simp] theorem State.put_fld_ne {s : State} {f g : Fld} {v : Nat} (h : f.a ≠ g.a) : (s.put g v).fld f = s.fld f :=
  State.put_fld_apart (by simp [h])

@[simp] theorem State.wr_fld_ne {s : State} {f : Fld} {a : Nat} {v : Word} (h : f.a ≠ a) : (s.wr a v).fld f = s.fld f := by
  simp [State.fld, State.wr_rd_ne h]

/-- A field of a register that was written whole. -/
@[simp] theorem State.wr_fld_self {s : State} {f : Fld} {v : Word} : (s.wr f.a v).fld f = getBits f.lo f.w v := by
  simp [State.fld]

/-- Raising a flag is setting it to 1. -/
theorem State.raise_eq (s : State) (f : Fld) : s.raise f = s.put f 1 := rfl

@[simp] theorem State.raise_fld_self {s : State} {f : Fld} (h : f.lo + f.w ≤ 32) : (s.raise f).fld f = 1 % 2 ^ f.w :=
  State.put_fld_self h

@[simp] theorem State.raise_fld_apart {s : State} {f g : Fld} (h : Fld.apart f g = true) : (s.raise g).fld f = s.fld f :=
  State.put_fld_apart h

/-- A counter counts, up to its largest value (R283). -/
@[simp] theorem State.addTo_fld_self {s : State} {f : Fld} {n : Nat} (h : f.lo + f.w ≤ 32) :
    (s.addTo f n).fld f = min (s.fld f + n) (2 ^ f.w - 1) := by
  unfold State.addTo
  rw [State.put_fld_self h, Nat.mod_eq_of_lt]
  have := Nat.two_pow_pos f.w
  omega

@[simp] theorem State.addTo_fld_apart {s : State} {f g : Fld} {n : Nat} (h : Fld.apart f g = true) :
    (s.addTo g n).fld f = s.fld f := State.put_fld_apart h

@[simp] theorem State.bump_fld_self {s : State} {f : Fld} (h : f.lo + f.w ≤ 32) :
    (s.bump f).fld f = min (s.fld f + 1) (2 ^ f.w - 1) := State.addTo_fld_self h

@[simp] theorem State.bump_fld_apart {s : State} {f g : Fld} (h : Fld.apart f g = true) : (s.bump g).fld f = s.fld f :=
  State.put_fld_apart h

/-- A flag is its field, compared with 0. -/
theorem State.flag_iff (s : State) (f : Fld) : s.flag f = true ↔ s.fld f ≠ 0 := by simp [State.flag]

/-- Every field's value is below its width's bound. -/
theorem State.fld_lt (s : State) (f : Fld) : s.fld f < 2 ^ f.w := getBits_lt f.lo f.w (s.rd f.a)

@[simp] theorem State.setSel_rd (s : State) (n v : Nat) (r : Nat) : (s.setSel n v).rd r = s.rd r := rfl
@[simp] theorem State.setSel_fld (s : State) (n v : Nat) (g : Fld) : (s.setSel n v).fld g = s.fld g := rfl
@[simp] theorem State.setShadow_rd (s : State) (a : Nat) (v : Option Word) (r : Nat) : (s.setShadow a v).rd r = s.rd r := rfl
@[simp] theorem State.setShadow_fld (s : State) (a : Nat) (v : Option Word) (g : Fld) : (s.setShadow a v).fld g = s.fld g := rfl
@[simp] theorem State.setSq_rd (s : State) (n : Nat) (q : Sq) (r : Nat) : (s.setSq n q).rd r = s.rd r := rfl
@[simp] theorem State.setSq_fld (s : State) (n : Nat) (q : Sq) (g : Fld) : (s.setSq n q).fld g = s.fld g := rfl
@[simp] theorem State.setFc_rd (s : State) (n : Nat) (c : Fc) (r : Nat) : (s.setFc n c).rd r = s.rd r := rfl
@[simp] theorem State.setFc_fld (s : State) (n : Nat) (c : Fc) (g : Fld) : (s.setFc n c).fld g = s.fld g := rfl
@[simp] theorem State.takeFree_rd (s : State) (r : Nat) : (s.takeFree).rd r = s.rd r := rfl
@[simp] theorem State.takeFree_fld (s : State) (g : Fld) : (s.takeFree).fld g = s.fld g := rfl
@[simp] theorem State.setCapt_rd (s : State) (b : Nat) (c : CaptBank) (r : Nat) : (s.setCapt b c).rd r = s.rd r := rfl
@[simp] theorem State.setCapt_fld (s : State) (b : Nat) (c : CaptBank) (g : Fld) : (s.setCapt b c).fld g = s.fld g := rfl
@[simp] theorem State.setDch_rd (s : State) (c : Nat) (d : Dch) (r : Nat) : (s.setDch c d).rd r = s.rd r := rfl
@[simp] theorem State.setDch_fld (s : State) (c : Nat) (d : Dch) (g : Fld) : (s.setDch c d).fld g = s.fld g := rfl
@[simp] theorem State.send_rd (s : State) (p k : Nat) (bs : List Byte) (r : Nat) : (s.send p k bs).rd r = s.rd r := rfl
@[simp] theorem State.send_fld (s : State) (p k : Nat) (bs : List Byte) (g : Fld) : (s.send p k bs).fld g = s.fld g := rfl

/-! ### What stands in the records of State -/

@[simp] theorem State.setSq_sqn_self (s : State) (n : Nat) (q : Sq) : (s.setSq n q).sqn n = q := Sp.get_set_self _ s.sq n q

@[simp] theorem State.setSq_sqn_ne {s : State} {n m : Nat} {q : Sq} (h : m ≠ n) : (s.setSq n q).sqn m = s.sqn m :=
  Sp.get_set_ne _ s.sq n m q h

@[simp] theorem State.setFc_fcn_self (s : State) (n : Nat) (c : Fc) : (s.setFc n c).fcn n = c := Sp.get_set_self _ s.fc n c

@[simp] theorem State.setFc_fcn_ne {s : State} {n m : Nat} {c : Fc} (h : m ≠ n) : (s.setFc n c).fcn m = s.fcn m :=
  Sp.get_set_ne _ s.fc n m c h

@[simp] theorem State.setDch_dch_self (s : State) (c : Nat) (d : Dch) : (s.setDch c d).dch c = d :=
  Sp.get_set_self _ s.dram.ch c d

@[simp] theorem State.setDch_dch_ne {s : State} {c m : Nat} {d : Dch} (h : m ≠ c) : (s.setDch c d).dch m = s.dch m :=
  Sp.get_set_ne _ s.dram.ch c m d h

@[simp] theorem State.setCapt_capt_self (s : State) (b : Nat) (c : CaptBank) : (s.setCapt b c).capt b = c :=
  Sp.get_set_self _ s.cap.banks b c

@[simp] theorem State.setSel_getSel_self (s : State) (n v : Nat) : (s.setSel n v).getSel n = v % 2 ^ 64 := by
  simp [State.setSel, State.getSel]

@[simp] theorem State.setSel_getSel_ne {s : State} {n m v : Nat} (h : m ≠ n) : (s.setSel n v).getSel m = s.getSel m := by
  simp [State.setSel, State.getSel, Sp.get_set_ne _ s.sel n m _ h]

/-- A queue that was set reads as it was set (R290). -/
@[simp] theorem State.setQ_getQ_self (s : State) (i : Nat) (v : Q) : (s.setQ i v).getQ i = v := by
  unfold State.setQ State.getQ
  split <;> simp

/-- Setting a queue changes no register. -/
@[simp] theorem State.setQ_regs (s : State) (i : Nat) (v : Q) : (s.setQ i v).regs = s.regs := by unfold State.setQ; split <;> rfl

@[simp] theorem State.setQ_rd (s : State) (i : Nat) (v : Q) (a : Nat) : (s.setQ i v).rd a = s.rd a := by
  unfold State.rd; rw [State.setQ_regs]

@[simp] theorem State.setQ_fld (s : State) (i : Nat) (v : Q) (f : Fld) : (s.setQ i v).fld f = s.fld f := by
  unfold State.fld; rw [State.setQ_rd]

end Sys2Proof.Machine
end

