-- ==== Sys2Proof/Laws/Queue.lean ====
section
/-! SUPPORT. The queues and their records (R127, R290–R295, R321–R324): what a record that enters, an event record and a fault
record change, each said once. -/

namespace Sys2Proof.Machine

/-- `t` is `s` but for its queues, its count of free values, and registers of the list `A`. -/
def OnlyQ (A : List Nat) (s t : State) : Prop :=
  (∃ g q n, t = { s with regs := g, q := q, free := n }) ∧ ∀ a, a ∉ A → t.rd a = s.rd a

theorem OnlyQ.refl (A : List Nat) (s : State) : OnlyQ A s s := ⟨⟨s.regs, s.q, s.free, rfl⟩, fun _ _ => rfl⟩

theorem OnlyQ.trans {A : List Nat} {s t u : State} (h : OnlyQ A s t) (k : OnlyQ A t u) : OnlyQ A s u := by
  obtain ⟨⟨g, q, n, rfl⟩, h2⟩ := h
  obtain ⟨⟨g', q', n', rfl⟩, k2⟩ := k
  exact ⟨⟨g', q', n', rfl⟩, fun a ha => (k2 a ha).trans (h2 a ha)⟩

theorem OnlyQ.put {A : List Nat} (s : State) (f : Fld) (v : Nat) (h : f.a ∈ A) : OnlyQ A s (s.put f v) :=
  ⟨⟨_, s.q, s.free, rfl⟩, fun _ ha => State.put_rd_ne (fun e => ha (e ▸ h))⟩

theorem OnlyQ.raise {A : List Nat} (s : State) (f : Fld) (h : f.a ∈ A) : OnlyQ A s (s.raise f) := OnlyQ.put s f 1 h

theorem OnlyQ.addTo {A : List Nat} (s : State) (f : Fld) (n : Nat) (h : f.a ∈ A) : OnlyQ A s (s.addTo f n) := OnlyQ.put s f _ h

theorem OnlyQ.bump {A : List Nat} (s : State) (f : Fld) (h : f.a ∈ A) : OnlyQ A s (s.bump f) := OnlyQ.put s f _ h

theorem OnlyQ.setQ (A : List Nat) (s : State) (i : Nat) (v : Q) : OnlyQ A s (s.setQ i v) := by
  refine ⟨?_, fun _ _ => s.setQ_rd i v _⟩
  unfold State.setQ
  split <;> exact ⟨s.regs, _, s.free, rfl⟩

/-- A change of the queues alone. -/
theorem OnlyQ.q (A : List Nat) (s : State) (q : Qs) : OnlyQ A s { s with q := q } := ⟨⟨s.regs, q, s.free, rfl⟩, fun _ _ => rfl⟩

theorem OnlyQ.takeFree (A : List Nat) (s : State) : OnlyQ A s s.takeFree := ⟨⟨s.regs, s.q, _, rfl⟩, fun _ _ => rfl⟩

theorem OnlyQ.aoTick (A : List Nat) (s : State) : OnlyQ A s s.aoTick := ⟨⟨s.regs, _, _, rfl⟩, fun _ _ => rfl⟩

/-- A record that enters a queue changes the queue and, at an upward crossing, XING and XING_COUNT (R291, R293). -/
theorem State.enter_only {A : List Nat} (s : State) (i : Nat) (r : Rec) (h1 : (qXing i).a ∈ A) (h2 : (qXcnt i).a ∈ A) :
    OnlyQ A s (s.enter i r) := by
  unfold State.enter
  dsimp only
  split
  · exact ((OnlyQ.setQ A s i _).trans (OnlyQ.raise _ _ h1)).trans (OnlyQ.bump _ _ h2)
  · exact OnlyQ.setQ A s i _

/-- The registers that a fault record may change: SUP_STAT, LOGQ_LVL, LOGQ_CNT and LOGQ_LOST. -/
def logRegs : List Nat := [0x120000, 0x120044, 0x120048, 0x12004C]

/-- The registers that an event record may change: EVT_STAT, EVQ_LVL and EVQ_LOST; where EVQ's pointers are found to disagree as it
enters (R294), also GLB_ERR and those of the fault record. -/
def evRegs : List Nat := [0x30000, 0x30044, 0x30048, 0x54] ++ logRegs

theorem OnlyQ.mono {A B : List Nat} {s t : State} (h : OnlyQ A s t) (k : ∀ a, a ∈ A → a ∈ B) : OnlyQ B s t :=
  ⟨h.1, fun a ha => h.2 a (fun x => ha (k a x))⟩

theorem State.evEnter_only (s : State) (r : Rec) : OnlyQ evRegs s (s.evEnter r) :=
  (s.enter_only 8 r (by decide) (by decide)).trans (OnlyQ.q _ _ _)

theorem State.logEnter_only (s : State) (r : Rec) : OnlyQ logRegs s (s.logEnter r) :=
  (s.enter_only 12 r (by decide) (by decide)).trans (OnlyQ.q _ _ _)

theorem State.logPut_only (s : State) (r : Rec) : OnlyQ logRegs s (s.logPut r) := by
  unfold State.logPut
  split
  · exact s.logEnter_only r
  · exact OnlyQ.q _ _ _

theorem State.logLost_only (s : State) : OnlyQ logRegs s s.logLost := by
  unfold State.logLost
  split
  · exact ((OnlyQ.aoTick _ s).trans (State.logPut_only _ _)).trans (OnlyQ.q _ _ _)
  · exact OnlyQ.refl _ _

/-- A fault record changes nothing but LOGQ, what stands in front of it, and SUP_STAT, LOGQ_LVL, LOGQ_CNT and LOGQ_LOST
(R321–R324). -/
theorem State.log_only (s : State) (src code cls unit detail : Nat) : OnlyQ logRegs s (s.log src code cls unit detail) := by
  unfold State.log
  dsimp only
  split
  · exact (s.logLost_only).trans ((OnlyQ.aoTick _ _).trans (State.logPut_only _ _))
  · exact (s.logLost_only).trans (((OnlyQ.bump _ _ (by decide)).trans (OnlyQ.raise _ _ (by decide))).trans (OnlyQ.q _ _ _))

theorem State.log_onlyEv (s : State) (src code cls unit detail : Nat) : OnlyQ evRegs s (s.log src code cls unit detail) :=
  (s.log_only src code cls unit detail).mono (by decide)

theorem State.evDrain_only (k : Nat) (s : State) : OnlyQ evRegs s (State.evDrain k s) := by
  induction k generalizing s with
  | zero => exact OnlyQ.refl _ _
  | succ k ih =>
    unfold State.evDrain
    split
    · exact OnlyQ.refl _ _
    · split
      · exact OnlyQ.refl _ _
      · exact ((OnlyQ.q _ s _).trans (State.evEnter_only _ _)).trans (ih _)

theorem State.clearQ_only (A : List Nat) (s : State) (i : Nat) : OnlyQ A s (s.clearQ i) :=
  (OnlyQ.setQ A s i _).trans (OnlyQ.q _ _ _)

theorem State.evDiscard_only (s : State) (n : Nat) : OnlyQ evRegs s (s.evDiscard n) := by
  unfold State.evDiscard
  dsimp only
  have h : OnlyQ evRegs s (s.addTo F.EVQ_LOST_LOST_COUNT n) := OnlyQ.addTo s _ n (by decide)
  generalize s.addTo F.EVQ_LOST_LOST_COUNT n = u at h ⊢
  refine h.trans (OnlyQ.trans ?_ (State.evDrain_only 256 _))
  split
  · exact OnlyQ.q _ u _
  · exact (OnlyQ.q _ u _).trans (State.evEnter_only _ _)

/-- A pointer mismatch of EVQ changes its queue, what stands in front of it, and the registers of `evRegs` (R294). -/
theorem State.ptrMismatch_only (s : State) : OnlyQ evRegs s (s.ptrMismatch 8) := by
  unfold State.ptrMismatch
  dsimp only
  rw [if_pos rfl]
  exact (((((State.clearQ_only _ s 8).trans (State.evDiscard_only _ _)).trans (OnlyQ.raise _ _ (by decide))).trans
    (OnlyQ.put _ _ _ (by decide))).trans (OnlyQ.bump _ _ (by decide))).trans (State.log_onlyEv _ _ _ _ _ _)

theorem State.ptrCheck_only (s : State) : OnlyQ evRegs s (s.ptrCheck 8) := by
  unfold State.ptrCheck
  split
  · exact s.ptrMismatch_only
  · exact OnlyQ.refl _ _

theorem State.evPlace_only (s : State) (k : Nat) (r : Rec) : OnlyQ evRegs s (s.evPlace k r) := by
  unfold State.evPlace
  split
  · exact ((s.evEnter_only r).trans (OnlyQ.q _ _ _)).trans (State.ptrCheck_only _)
  · exact OnlyQ.q _ _ _

theorem State.evLost_only (s : State) : OnlyQ evRegs s s.evLost := by
  unfold State.evLost
  split
  · exact (OnlyQ.q _ s _).trans (State.evPlace_only _ 0 _)
  · exact OnlyQ.refl _ _

/-- An event record changes nothing but EVQ, what stands in front of it, and EVT_STAT, EVQ_LVL and EVQ_LOST (R127). -/
theorem State.event_only (s : State) (r : Rec) : OnlyQ evRegs s (s.event r) := by
  unfold State.event
  dsimp only
  split
  · exact (s.evLost_only).trans ((OnlyQ.q _ _ _).trans (State.evPlace_only _ _ r))
  · exact (s.evLost_only).trans (((OnlyQ.bump _ _ (by decide)).trans (OnlyQ.raise _ _ (by decide))).trans (OnlyQ.q _ _ _))

theorem State.eventNow_only (s : State) (src code data : Nat) : OnlyQ evRegs s (s.eventNow src code data) := s.event_only _

theorem OnlyQ.pending {A : List Nat} {s t : State} (h : OnlyQ A s t) : t.pending = s.pending := by obtain ⟨⟨_, _, _, rfl⟩, _⟩ := h; rfl
theorem OnlyQ.shadow {A : List Nat} {s t : State} (h : OnlyQ A s t) : t.shadow = s.shadow := by obtain ⟨⟨_, _, _, rfl⟩, _⟩ := h; rfl
theorem OnlyQ.sel {A : List Nat} {s t : State} (h : OnlyQ A s t) : t.sel = s.sel := by obtain ⟨⟨_, _, _, rfl⟩, _⟩ := h; rfl
theorem OnlyQ.bus {A : List Nat} {s t : State} (h : OnlyQ A s t) : t.bus = s.bus := by obtain ⟨⟨_, _, _, rfl⟩, _⟩ := h; rfl
theorem OnlyQ.rdata {A : List Nat} {s t : State} (h : OnlyQ A s t) : t.rdata = s.rdata := by obtain ⟨⟨_, _, _, rfl⟩, _⟩ := h; rfl
theorem OnlyQ.tm {A : List Nat} {s t : State} (h : OnlyQ A s t) : t.tm = s.tm := by obtain ⟨⟨_, _, _, rfl⟩, _⟩ := h; rfl
theorem OnlyQ.clk {A : List Nat} {s t : State} (h : OnlyQ A s t) : t.clk = s.clk := by obtain ⟨⟨_, _, _, rfl⟩, _⟩ := h; rfl
theorem OnlyQ.ev {A : List Nat} {s t : State} (h : OnlyQ A s t) : t.ev = s.ev := by obtain ⟨⟨_, _, _, rfl⟩, _⟩ := h; rfl
theorem OnlyQ.sq {A : List Nat} {s t : State} (h : OnlyQ A s t) : t.sq = s.sq := by obtain ⟨⟨_, _, _, rfl⟩, _⟩ := h; rfl
theorem OnlyQ.plan {A : List Nat} {s t : State} (h : OnlyQ A s t) : t.plan = s.plan := by obtain ⟨⟨_, _, _, rfl⟩, _⟩ := h; rfl
theorem OnlyQ.mem {A : List Nat} {s t : State} (h : OnlyQ A s t) : t.mem = s.mem := by obtain ⟨⟨_, _, _, rfl⟩, _⟩ := h; rfl
theorem OnlyQ.fc {A : List Nat} {s t : State} (h : OnlyQ A s t) : t.fc = s.fc := by obtain ⟨⟨_, _, _, rfl⟩, _⟩ := h; rfl
theorem OnlyQ.vp {A : List Nat} {s t : State} (h : OnlyQ A s t) : t.vp = s.vp := by obtain ⟨⟨_, _, _, rfl⟩, _⟩ := h; rfl
theorem OnlyQ.eff {A : List Nat} {s t : State} (h : OnlyQ A s t) : t.eff = s.eff := by obtain ⟨⟨_, _, _, rfl⟩, _⟩ := h; rfl
theorem OnlyQ.outs {A : List Nat} {s t : State} (h : OnlyQ A s t) : t.outs = s.outs := by obtain ⟨⟨_, _, _, rfl⟩, _⟩ := h; rfl
theorem OnlyQ.saves {A : List Nat} {s t : State} (h : OnlyQ A s t) : t.saves = s.saves := by obtain ⟨⟨_, _, _, rfl⟩, _⟩ := h; rfl
theorem OnlyQ.dram {A : List Nat} {s t : State} (h : OnlyQ A s t) : t.dram = s.dram := by obtain ⟨⟨_, _, _, rfl⟩, _⟩ := h; rfl
theorem OnlyQ.cap {A : List Nat} {s t : State} (h : OnlyQ A s t) : t.cap = s.cap := by obtain ⟨⟨_, _, _, rfl⟩, _⟩ := h; rfl
theorem OnlyQ.bat {A : List Nat} {s t : State} (h : OnlyQ A s t) : t.bat = s.bat := by obtain ⟨⟨_, _, _, rfl⟩, _⟩ := h; rfl
theorem OnlyQ.fab {A : List Nat} {s t : State} (h : OnlyQ A s t) : t.fab = s.fab := by obtain ⟨⟨_, _, _, rfl⟩, _⟩ := h; rfl
theorem OnlyQ.sup {A : List Nat} {s t : State} (h : OnlyQ A s t) : t.sup = s.sup := by obtain ⟨⟨_, _, _, rfl⟩, _⟩ := h; rfl
theorem OnlyQ.mir {A : List Nat} {s t : State} (h : OnlyQ A s t) : t.mir = s.mir := by obtain ⟨⟨_, _, _, rfl⟩, _⟩ := h; rfl
theorem OnlyQ.mg {A : List Nat} {s t : State} (h : OnlyQ A s t) : t.mg = s.mg := by obtain ⟨⟨_, _, _, rfl⟩, _⟩ := h; rfl
theorem OnlyQ.sent {A : List Nat} {s t : State} (h : OnlyQ A s t) : t.sent = s.sent := by obtain ⟨⟨_, _, _, rfl⟩, _⟩ := h; rfl

/-! ### Event records -/

@[simp] theorem State.event_pending (s : State) (r : Rec) : (s.event r).pending = s.pending := (s.event_only r).pending
@[simp] theorem State.event_shadow (s : State) (r : Rec) : (s.event r).shadow = s.shadow := (s.event_only r).shadow
@[simp] theorem State.event_sel (s : State) (r : Rec) : (s.event r).sel = s.sel := (s.event_only r).sel
@[simp] theorem State.event_bus (s : State) (r : Rec) : (s.event r).bus = s.bus := (s.event_only r).bus
@[simp] theorem State.event_rdata (s : State) (r : Rec) : (s.event r).rdata = s.rdata := (s.event_only r).rdata
@[simp] theorem State.event_tm (s : State) (r : Rec) : (s.event r).tm = s.tm := (s.event_only r).tm
@[simp] theorem State.event_clk (s : State) (r : Rec) : (s.event r).clk = s.clk := (s.event_only r).clk
@[simp] theorem State.event_ev (s : State) (r : Rec) : (s.event r).ev = s.ev := (s.event_only r).ev
@[simp] theorem State.event_sq (s : State) (r : Rec) : (s.event r).sq = s.sq := (s.event_only r).sq
@[simp] theorem State.event_plan (s : State) (r : Rec) : (s.event r).plan = s.plan := (s.event_only r).plan
@[simp] theorem State.event_mem (s : State) (r : Rec) : (s.event r).mem = s.mem := (s.event_only r).mem
@[simp] theorem State.event_fc (s : State) (r : Rec) : (s.event r).fc = s.fc := (s.event_only r).fc
@[simp] theorem State.event_vp (s : State) (r : Rec) : (s.event r).vp = s.vp := (s.event_only r).vp
@[simp] theorem State.event_eff (s : State) (r : Rec) : (s.event r).eff = s.eff := (s.event_only r).eff
@[simp] theorem State.event_outs (s : State) (r : Rec) : (s.event r).outs = s.outs := (s.event_only r).outs
@[simp] theorem State.event_saves (s : State) (r : Rec) : (s.event r).saves = s.saves := (s.event_only r).saves
@[simp] theorem State.event_dram (s : State) (r : Rec) : (s.event r).dram = s.dram := (s.event_only r).dram
@[simp] theorem State.event_cap (s : State) (r : Rec) : (s.event r).cap = s.cap := (s.event_only r).cap
@[simp] theorem State.event_bat (s : State) (r : Rec) : (s.event r).bat = s.bat := (s.event_only r).bat
@[simp] theorem State.event_fab (s : State) (r : Rec) : (s.event r).fab = s.fab := (s.event_only r).fab
@[simp] theorem State.event_sup (s : State) (r : Rec) : (s.event r).sup = s.sup := (s.event_only r).sup
@[simp] theorem State.event_mir (s : State) (r : Rec) : (s.event r).mir = s.mir := (s.event_only r).mir
@[simp] theorem State.event_mg (s : State) (r : Rec) : (s.event r).mg = s.mg := (s.event_only r).mg
@[simp] theorem State.event_sent (s : State) (r : Rec) : (s.event r).sent = s.sent := (s.event_only r).sent
@[simp] theorem State.eventNow_pending (s : State) (a b c : Nat) : (s.eventNow a b c).pending = s.pending := (s.eventNow_only a b c).pending
@[simp] theorem State.eventNow_shadow (s : State) (a b c : Nat) : (s.eventNow a b c).shadow = s.shadow := (s.eventNow_only a b c).shadow
@[simp] theorem State.eventNow_sel (s : State) (a b c : Nat) : (s.eventNow a b c).sel = s.sel := (s.eventNow_only a b c).sel
@[simp] theorem State.eventNow_bus (s : State) (a b c : Nat) : (s.eventNow a b c).bus = s.bus := (s.eventNow_only a b c).bus
@[simp] theorem State.eventNow_rdata (s : State) (a b c : Nat) : (s.eventNow a b c).rdata = s.rdata := (s.eventNow_only a b c).rdata
@[simp] theorem State.eventNow_tm (s : State) (a b c : Nat) : (s.eventNow a b c).tm = s.tm := (s.eventNow_only a b c).tm
@[simp] theorem State.eventNow_clk (s : State) (a b c : Nat) : (s.eventNow a b c).clk = s.clk := (s.eventNow_only a b c).clk
@[simp] theorem State.eventNow_ev (s : State) (a b c : Nat) : (s.eventNow a b c).ev = s.ev := (s.eventNow_only a b c).ev
@[simp] theorem State.eventNow_sq (s : State) (a b c : Nat) : (s.eventNow a b c).sq = s.sq := (s.eventNow_only a b c).sq
@[simp] theorem State.eventNow_plan (s : State) (a b c : Nat) : (s.eventNow a b c).plan = s.plan := (s.eventNow_only a b c).plan
@[simp] theorem State.eventNow_mem (s : State) (a b c : Nat) : (s.eventNow a b c).mem = s.mem := (s.eventNow_only a b c).mem
@[simp] theorem State.eventNow_fc (s : State) (a b c : Nat) : (s.eventNow a b c).fc = s.fc := (s.eventNow_only a b c).fc
@[simp] theorem State.eventNow_vp (s : State) (a b c : Nat) : (s.eventNow a b c).vp = s.vp := (s.eventNow_only a b c).vp
@[simp] theorem State.eventNow_eff (s : State) (a b c : Nat) : (s.eventNow a b c).eff = s.eff := (s.eventNow_only a b c).eff
@[simp] theorem State.eventNow_outs (s : State) (a b c : Nat) : (s.eventNow a b c).outs = s.outs := (s.eventNow_only a b c).outs
@[simp] theorem State.eventNow_saves (s : State) (a b c : Nat) : (s.eventNow a b c).saves = s.saves := (s.eventNow_only a b c).saves
@[simp] theorem State.eventNow_dram (s : State) (a b c : Nat) : (s.eventNow a b c).dram = s.dram := (s.eventNow_only a b c).dram
@[simp] theorem State.eventNow_cap (s : State) (a b c : Nat) : (s.eventNow a b c).cap = s.cap := (s.eventNow_only a b c).cap
@[simp] theorem State.eventNow_bat (s : State) (a b c : Nat) : (s.eventNow a b c).bat = s.bat := (s.eventNow_only a b c).bat
@[simp] theorem State.eventNow_fab (s : State) (a b c : Nat) : (s.eventNow a b c).fab = s.fab := (s.eventNow_only a b c).fab
@[simp] theorem State.eventNow_sup (s : State) (a b c : Nat) : (s.eventNow a b c).sup = s.sup := (s.eventNow_only a b c).sup
@[simp] theorem State.eventNow_mir (s : State) (a b c : Nat) : (s.eventNow a b c).mir = s.mir := (s.eventNow_only a b c).mir
@[simp] theorem State.eventNow_mg (s : State) (a b c : Nat) : (s.eventNow a b c).mg = s.mg := (s.eventNow_only a b c).mg
@[simp] theorem State.eventNow_sent (s : State) (a b c : Nat) : (s.eventNow a b c).sent = s.sent := (s.eventNow_only a b c).sent

@[simp] theorem State.event_rd {s : State} {r : Rec} {a : Nat} (h : a ∉ evRegs) : (s.event r).rd a = s.rd a :=
  (s.event_only r).2 a h

@[simp] theorem State.event_fld {s : State} {r : Rec} {f : Fld} (h : f.a ∉ evRegs) : (s.event r).fld f = s.fld f := by
  unfold State.fld; rw [State.event_rd h]

@[simp] theorem State.eventNow_rd {s : State} {x y z a : Nat} (h : a ∉ evRegs) : (s.eventNow x y z).rd a = s.rd a :=
  State.event_rd h

@[simp] theorem State.eventNow_fld {s : State} {x y z : Nat} {f : Fld} (h : f.a ∉ evRegs) : (s.eventNow x y z).fld f = s.fld f :=
  State.event_fld h

/-! ### Fault records -/

@[simp] theorem State.log_pending (s : State) (a b c d e : Nat) : (s.log a b c d e).pending = s.pending := (s.log_only a b c d e).pending
@[simp] theorem State.log_shadow (s : State) (a b c d e : Nat) : (s.log a b c d e).shadow = s.shadow := (s.log_only a b c d e).shadow
@[simp] theorem State.log_sel (s : State) (a b c d e : Nat) : (s.log a b c d e).sel = s.sel := (s.log_only a b c d e).sel
@[simp] theorem State.log_bus (s : State) (a b c d e : Nat) : (s.log a b c d e).bus = s.bus := (s.log_only a b c d e).bus
@[simp] theorem State.log_rdata (s : State) (a b c d e : Nat) : (s.log a b c d e).rdata = s.rdata := (s.log_only a b c d e).rdata
@[simp] theorem State.log_tm (s : State) (a b c d e : Nat) : (s.log a b c d e).tm = s.tm := (s.log_only a b c d e).tm
@[simp] theorem State.log_clk (s : State) (a b c d e : Nat) : (s.log a b c d e).clk = s.clk := (s.log_only a b c d e).clk
@[simp] theorem State.log_ev (s : State) (a b c d e : Nat) : (s.log a b c d e).ev = s.ev := (s.log_only a b c d e).ev
@[simp] theorem State.log_sq (s : State) (a b c d e : Nat) : (s.log a b c d e).sq = s.sq := (s.log_only a b c d e).sq
@[simp] theorem State.log_plan (s : State) (a b c d e : Nat) : (s.log a b c d e).plan = s.plan := (s.log_only a b c d e).plan
@[simp] theorem State.log_mem (s : State) (a b c d e : Nat) : (s.log a b c d e).mem = s.mem := (s.log_only a b c d e).mem
@[simp] theorem State.log_fc (s : State) (a b c d e : Nat) : (s.log a b c d e).fc = s.fc := (s.log_only a b c d e).fc
@[simp] theorem State.log_vp (s : State) (a b c d e : Nat) : (s.log a b c d e).vp = s.vp := (s.log_only a b c d e).vp
@[simp] theorem State.log_eff (s : State) (a b c d e : Nat) : (s.log a b c d e).eff = s.eff := (s.log_only a b c d e).eff
@[simp] theorem State.log_outs (s : State) (a b c d e : Nat) : (s.log a b c d e).outs = s.outs := (s.log_only a b c d e).outs
@[simp] theorem State.log_saves (s : State) (a b c d e : Nat) : (s.log a b c d e).saves = s.saves := (s.log_only a b c d e).saves
@[simp] theorem State.log_dram (s : State) (a b c d e : Nat) : (s.log a b c d e).dram = s.dram := (s.log_only a b c d e).dram
@[simp] theorem State.log_cap (s : State) (a b c d e : Nat) : (s.log a b c d e).cap = s.cap := (s.log_only a b c d e).cap
@[simp] theorem State.log_bat (s : State) (a b c d e : Nat) : (s.log a b c d e).bat = s.bat := (s.log_only a b c d e).bat
@[simp] theorem State.log_fab (s : State) (a b c d e : Nat) : (s.log a b c d e).fab = s.fab := (s.log_only a b c d e).fab
@[simp] theorem State.log_sup (s : State) (a b c d e : Nat) : (s.log a b c d e).sup = s.sup := (s.log_only a b c d e).sup
@[simp] theorem State.log_mir (s : State) (a b c d e : Nat) : (s.log a b c d e).mir = s.mir := (s.log_only a b c d e).mir
@[simp] theorem State.log_mg (s : State) (a b c d e : Nat) : (s.log a b c d e).mg = s.mg := (s.log_only a b c d e).mg
@[simp] theorem State.log_sent (s : State) (a b c d e : Nat) : (s.log a b c d e).sent = s.sent := (s.log_only a b c d e).sent

@[simp] theorem State.log_rd {s : State} {x y z u v a : Nat} (h : a ∉ logRegs) : (s.log x y z u v).rd a = s.rd a :=
  (s.log_only x y z u v).2 a h

@[simp] theorem State.log_fld {s : State} {x y z u v : Nat} {f : Fld} (h : f.a ∉ logRegs) :
    (s.log x y z u v).fld f = s.fld f := by
  unfold State.fld; rw [State.log_rd h]

/-! ### What the queue holds afterwards -/

/-- A record enters at the end of its queue (R291). -/
@[simp] theorem State.enter_getQ (s : State) (i : Nat) (r : Rec) :
    (s.enter i r).getQ i = { s.getQ i with recs := (s.getQ i).recs ++ [r] } := by
  have aux : ∀ (t : State) (g : Sp Word), ({ t with regs := g } : State).getQ i = t.getQ i := by
    intro t g; unfold State.getQ; split <;> rfl
  unfold State.enter
  dsimp only
  split
  · unfold State.bump State.addTo State.raise State.put State.wr
    rw [aux, aux, State.setQ_getQ_self]
  · exact State.setQ_getQ_self s i _

theorem insertBack_zero {α : Type} (r : α) (l : List α) : insertBack 0 r l = l ++ [r] := by simp [insertBack]

theorem State.evEnter_upset (s : State) (r : Rec) : (s.evEnter r).q.upset = s.q.upset := by
  unfold State.evEnter State.enter
  dsimp only
  split <;> rfl

/-- With space in EVQ, nothing in front of it and its pointers in agreement, a record takes its place (R127, R294). -/
theorem State.evPlace_room {s : State} (k : Nat) (r : Rec) (h1 : s.q.evHold.isEmpty = true) (h2 : s.qFull 8 = false)
    (h3 : bitOf s.q.upset 8 = false) : (s.evPlace k r).q.evq.recs = insertBack k r s.q.evq.recs := by
  unfold State.evPlace State.ptrCheck
  rw [if_pos (by simp [h1, h2]), if_neg]
  show ¬ bitOf (s.evEnter r).q.upset 8 = true
  rw [s.evEnter_upset, h3]
  decide

/-- With room in EVQ an event record is its last (R127, R291). -/
theorem State.event_room {s : State} {r : Rec} (h : s.evRoom (evSource r) = true) :
    (s.event r).q.evq.recs = s.q.evq.recs ++ [r] := by
  simp only [State.evRoom, Bool.and_eq_true, decide_eq_true_eq, Bool.not_eq_true'] at h
  obtain ⟨⟨⟨⟨h1, h2⟩, h3⟩, h4⟩, h5⟩ := h
  have hl : s.evLost = s := by unfold State.evLost; simp [h3]
  unfold State.event
  rw [hl]
  dsimp only
  rw [if_pos (by simp [State.evSpace, h1, h2, h3]), State.evPut, h4]
  rw [State.evPlace_room, insertBack_zero]
  · exact h1
  · exact h2
  · exact h5

/-- With room in EVQ an event record stamped with the present timebase is its last. -/
theorem State.eventNow_room {s : State} {src code data : Nat} (hs : src < 256) (h : s.evRoom src = true) :
    (s.eventNow src code data).q.evq.recs = s.q.evq.recs ++ [evRec s.tm.tb src code data] := by
  apply State.event_room
  have : evSource (evRec s.tm.tb src code data) = src := by
    simp only [evSource, evRec, List.getD_cons_succ, List.getD_cons_zero, BitVec.toNat_ofNat]
    omega
  rw [this]; exact h

/-- With room in LOGQ a fault record is its last (R321, R323, R324). -/
theorem State.log_room {s : State} {src code cls unit detail : Nat} (h : s.logRoom = true) :
    (s.log src code cls unit detail).q.logq.recs =
      s.q.logq.recs ++ [logRec s.tm.tb src code cls unit (s.q.aoUs + (Config.aoUs s.free).toNat) detail] := by
  simp only [State.logRoom, Bool.and_eq_true, decide_eq_true_eq, Bool.not_eq_true'] at h
  obtain ⟨⟨h1, h2⟩, h3⟩ := h
  have hl : s.logLost = s := by unfold State.logLost; simp [h3]
  unfold State.log
  rw [hl]
  have hq : s.aoTick.qFull 12 = false := h2
  have hh : s.aoTick.q.logHold.isEmpty = true := h1
  rw [if_pos (by simp [State.logSpace, h1, h2, h3])]
  unfold State.logPut
  rw [if_pos (by simp [hq, hh])]
  exact congrArg Q.recs (s.aoTick.enter_getQ 12 _)

end Sys2Proof.Machine
end

