-- ==== Sys2Proof/Laws/Bus.lean ====
section
/-! SUPPORT. The register bus (R274–R282): an access that meets no check acts at once; what a write under the field types
changes. -/

namespace Sys2Proof.Machine

@[simp] theorem State.setBus_live (s : State) (b : List Access) : ({ s with bus := b } : State).live = s.live := rfl

theorem State.setBus_lookahead (s : State) (b : List Access) (n : Nat) : ∀ k o e : Nat,
    ({ s with bus := b } : State).lookaheadSegs n k o e = s.lookaheadSegs n k o e := by
  intro k
  induction k with
  | zero => intro o e; rfl
  | succ k ih =>
    intro o e
    unfold State.lookaheadSegs
    simp only [ih]
    rfl

/-- What waits on the bus does not bear on which segments are active. -/
theorem State.setBus_segActive (s : State) (b : List Access) (k : Nat) :
    ({ s with bus := b } : State).segActive k = s.segActive k := by
  have h : ∀ n, ({ s with bus := b } : State).sqSegs n = s.sqSegs n := by
    intro n
    unfold State.sqSegs
    simp only [State.setBus_lookahead]
    rfl
  unfold State.segActive
  simp only [h]
  rfl

/-- What waits on the bus has no part in the decisions of the present tick. -/
theorem State.setBus_thisTick (s : State) (b : List Access) : ({ s with bus := b } : State).thisTick = s.thisTick := rfl

/-- What waits on the bus does not bear on what a write finds active. -/
theorem State.setBus_segActiveNow (s : State) (b : List Access) (k : Nat) :
    ({ s with bus := b } : State).segActiveNow k = s.segActiveNow k := by
  unfold State.segActiveNow
  rw [State.setBus_segActive, State.setBus_thisTick]

/-- What `State.opens` says, part by part. -/
theorem State.opens_iff {s : State} {a : Nat} {p : Bool} (h : s.opens a p = true) :
    s.live = true ∧ s.bus = [] ∧ (findReg a).isNone = false ∧ s.regAbsent a = false ∧ s.regAsleep a = none ∧
      (s.regPriv a && !p) = false := by
  simp only [State.opens, Bool.and_eq_true, Bool.or_eq_true, Bool.not_eq_true', List.isEmpty_iff, Option.isNone_iff_eq_none] at h
  obtain ⟨⟨⟨⟨⟨h1, h2⟩, h3⟩, h4⟩, h5⟩, h6⟩ := h
  refine ⟨h1, h2, ?_, h4, h5, ?_⟩
  · cases hf : findReg a <;> simp_all
  · rcases h6 with h6 | h6 <;> simp [h6]

/-- What waits on the bus does not bear on whether a port makes an access wait. -/
theorem State.setBus_portWait (s : State) (b : List Access) (w : Bool) (a : Nat) :
    ({ s with bus := b } : State).portWait w a = s.portWait w a := by
  have h1 : ({ s with bus := b } : State).segwIn = s.segwIn := rfl
  have h2 : ∀ k, ({ s with bus := b } : State).segInDram k = s.segInDram k := fun _ => rfl
  have h3 : ∀ k, ({ s with bus := b } : State).dramCh k = s.dramCh k := fun _ => rfl
  have h4 : ∀ f, ({ s with bus := b } : State).flag f = s.flag f := fun _ => rfl
  have h5 : ∀ f, ({ s with bus := b } : State).fld f = s.fld f := fun _ => rfl
  have h6 : ∀ k, ({ s with bus := b } : State).seg k = s.seg k := fun _ => rfl
  have h7 : ∀ i, ({ s with bus := b } : State).getQ i = s.getQ i := by intro i; unfold State.getQ; split <;> rfl
  have h8 : ∀ i, ({ s with bus := b } : State).qFull i = s.qFull i := by
    intro i; unfold State.qFull State.level; rw [h7]
  have h9 : ∀ c, ({ s with bus := b } : State).chWaits c = s.chWaits c := fun _ => rfl
  unfold State.portWait
  simp only [State.setBus_segActiveNow, h1, h2, h3, h4, h5, h6, h7, h8, h9]

theorem State.setBus_mbxHeld (s : State) (b : List Access) (a : Nat) :
    ({ s with bus := b } : State).mbxHeld a = s.mbxHeld a := by
  have h4 : ∀ f, ({ s with bus := b } : State).flag f = s.flag f := fun _ => rfl
  unfold State.mbxHeld
  rw [h4]

theorem State.setBus_regPriv (s : State) (b : List Access) (a : Nat) :
    ({ s with bus := b } : State).regPriv a = s.regPriv a := by
  have h4 : ∀ i, ({ s with bus := b } : State).qPriv i = s.qPriv i := fun _ => rfl
  unfold State.regPriv
  simp only [h4]

theorem State.setBus_regAbsent (s : State) (b : List Access) (a : Nat) :
    ({ s with bus := b } : State).regAbsent a = s.regAbsent a := by
  have h4 : ∀ i, ({ s with bus := b } : State).domPresent i = s.domPresent i := fun _ => rfl
  unfold State.regAbsent
  simp only [h4]

theorem State.setBus_regAsleep (s : State) (b : List Access) (a : Nat) :
    ({ s with bus := b } : State).regAsleep a = s.regAsleep a := by
  have h4 : ∀ i, ({ s with bus := b } : State).awake i = s.awake i := fun _ => rfl
  unfold State.regAsleep
  simp only [h4]

/-- What waits on the bus does not bear on the locks. -/
theorem State.setBus_regLocks (s : State) (b : List Access) (a : Nat) (v : Word) :
    ({ s with bus := b } : State).regLocks a v = s.regLocks a v := by
  have h1 : ∀ f, ({ s with bus := b } : State).flag f = s.flag f := fun _ => rfl
  have h2 : ∀ f, ({ s with bus := b } : State).fld f = s.fld f := fun _ => rfl
  have h3 : ∀ f, ({ s with bus := b } : State).rd f = s.rd f := fun _ => rfl
  have h4 : ({ s with bus := b } : State).anyActive = s.anyActive := rfl
  have h5 : ∀ f, ({ s with bus := b } : State).bankActive f = s.bankActive f := fun _ => rfl
  have h6 : ∀ f, ({ s with bus := b } : State).fcOwnerActive f = s.fcOwnerActive f := fun _ => rfl
  unfold State.regLocks State.evtLocks State.planLocks State.fineLocks State.vecLocks State.dramLocks State.netLocks
    State.mirLocks State.syncLocks State.fabLocks
  simp only [h1, h2, h3, h4, h5, h6]

theorem State.setBus_useKey (s : State) (b : List Access) (a : Nat) :
    ({ s with bus := b } : State).useKey a = { s.useKey a with bus := b } := by
  unfold State.useKey
  split <;> rfl

theorem State.setBus_cfgRead (s : State) (b : List Access) (a : Nat) :
    ({ s with bus := b } : State).cfgRead a = s.cfgRead a := rfl

/-- What waits on the bus does not bear on what a write makes of locked bits. -/
theorem State.setBus_lockOut (s : State) (b : List Access) (a : Nat) (m v : Word) :
    ({ s with bus := b } : State).lockOut a m v = s.lockOut a m v := by
  unfold State.lockOut
  rw [State.setBus_cfgRead]

/-- A write that passes every check of R276 acts at once, and the bus is free again. -/
theorem State.writeRow_takes {s : State} {a : Nat} {v : Word} {p : Bool} (h : s.takes a v p = true) :
    s.writeRow a v p = (s.wrote a v p).noteLevels := by
  simp only [State.takes, Bool.and_eq_true, decide_eq_true_eq, Bool.not_eq_true', Bool.or_eq_true] at h
  obtain ⟨⟨⟨⟨⟨⟨ho, ha⟩, hk⟩, hm⟩, hw⟩, hl⟩, hv⟩ := h
  obtain ⟨h1, h2, h3, h4, h5, h6⟩ := State.opens_iff ho
  have e : a / 4 * 4 = a := by omega
  have e1 : ∀ b, ({ s with bus := b } : State).regAbsent a = s.regAbsent a := fun b => s.setBus_regAbsent b a
  have e2 : ∀ b, ({ s with bus := b } : State).regAsleep a = s.regAsleep a := fun b => s.setBus_regAsleep b a
  have e3 : ∀ b, ({ s with bus := b } : State).regPriv a = s.regPriv a := fun b => s.setBus_regPriv b a
  have e4 : ∀ b, ({ s with bus := b } : State).portWait true a = s.portWait true a := fun b => s.setBus_portWait b true a
  have e5 : ∀ b, ({ s with bus := b } : State).mbxHeld a = s.mbxHeld a := fun b => s.setBus_mbxHeld b a
  have e6 : ∀ b, ({ s with bus := b } : State).armed = s.armed := fun _ => rfl
  have e7 : ∀ b, (({ s with bus := b } : State).useKey a).regLocks a v = (s.useKey a).regLocks a v := fun b => by
    rw [State.setBus_useKey, State.setBus_regLocks]
  have e8 : ∀ b m, (({ s with bus := b } : State).useKey a).lockOut a m v = (s.useKey a).lockOut a m v := fun b m => by
    rw [State.setBus_useKey, State.setBus_lockOut]
  unfold State.writeRow State.busRow
  rw [if_pos h1]
  congr 1
  unfold State.busAccess State.busGo
  simp only [h2, List.nil_append, List.length_cons, List.length_nil, Nat.zero_add]
  unfold State.busRun
  simp only [State.setBus_live, h1, Bool.not_true, Bool.false_eq_true, if_false]
  have ht : ({ s with bus := [wrAcc a v p] } : State).tryAccess (wrAcc a v p) =
      ⟨true, false, (({ s with bus := [wrAcc a v p] } : State).useKey a).regWrite (wrAcc a v p) a v⟩ := by
    unfold State.tryAccess
    simp only [wrAcc, e, h3, e1, h4, e2, h5, e3, h6, e4, hw, Bool.false_eq_true, if_false, Bool.not_true, Bool.false_and,
      if_true, ne_eq, not_true_eq_false, decide_false, Bool.and_false]
    unfold State.tryWrite
    have hk' : (keyReg a && !s.armed) = false := by rcases hk with hk | hk <;> simp [hk]
    simp only [e6, hk', e5, hm, Bool.false_eq_true, if_false, e7, e8, hv, if_neg hl]
  rw [ht]
  unfold State.wrote State.atBus State.endAccess State.busRun
  rfl

theorem State.setBus_capqHeld (s : State) (b : List Access) (a : Nat) :
    ({ s with bus := b } : State).capqHeld a = s.capqHeld a := by
  have h4 : ∀ f, ({ s with bus := b } : State).flag f = s.flag f := fun _ => rfl
  unfold State.capqHeld
  rw [h4]

/-- A 32-bit read returns the whole register (R275). -/
theorem rdAcc_part {a : Nat} {p : Bool} (w : Word) (h : a % 4 = 0) : (rdAcc a p).part w = w := by
  apply BitVec.eq_of_toNat_eq
  simp only [Access.part, h, BitVec.toNat_ofNat]
  have := w.isLt
  omega

/-- A read of any width that passes every check of R276 answers at once, and the bus is free again. -/
theorem State.eccRow_gives {s : State} {a : Nat} {r : BusRead} {c u : Bool} (h : s.gives a r.p = true) (hr : r.ofs < 4) :
    s.eccRow a r c u = (s.gavePart a r c u).noteLevels := by
  simp only [State.gives, Bool.and_eq_true, decide_eq_true_eq, Bool.not_eq_true'] at h
  obtain ⟨⟨⟨ho, ha⟩, hq⟩, hw⟩ := h
  obtain ⟨h1, h2, h3, h4, h5, h6⟩ := State.opens_iff ho
  have e : (a + r.ofs) / 4 * 4 = a := by omega
  unfold State.eccRow State.busRow
  rw [if_pos h1]
  congr 1
  unfold State.busAccess State.busGo
  simp only [h2, List.nil_append, List.length_cons, List.length_nil, Nat.zero_add]
  unfold State.busRun
  simp only [State.setBus_live, h1, Bool.not_true, Bool.false_eq_true, if_false]
  have ht : ({ s with bus := [lookAcc a r c u] } : State).tryAccess (lookAcc a r c u) =
      ⟨true, false, { (({ s with bus := [lookAcc a r c u] } : State).regRead (lookAcc a r c u) a).2 with
        rdata := (lookAcc a r c u).part (({ s with bus := [lookAcc a r c u] } : State).regRead (lookAcc a r c u) a).1 }⟩ := by
    unfold State.tryAccess
    simp only [e, h3, State.setBus_regAbsent, h4, State.setBus_regAsleep, h5, State.setBus_regPriv, h6,
      State.setBus_capqHeld, hq, State.setBus_portWait, hw, Bool.false_eq_true, if_false, Bool.false_and, Bool.and_false,
      Bool.not_false]
    unfold State.answerRead
    simp only [Bool.false_eq_true, if_false]
  rw [ht]
  unfold State.gavePart State.endAccess State.busRun
  rfl

/-- The read of a whole register that passes every check of R276. -/
theorem State.readRow_gives {s : State} {a : Nat} {p : Bool} (h : s.gives a p = true) :
    s.readRow a ⟨p, 4, 0⟩ = (s.gave a p).noteLevels := by
  have ha : a % 4 = 0 := by
    simp only [State.gives, Bool.and_eq_true, decide_eq_true_eq] at h
    exact h.1.1.2
  have hp := State.eccRow_gives (r := ⟨p, 4, 0⟩) (c := false) (u := false) h (by show 0 < 4; decide)
  unfold State.readRow
  rw [hp]
  have hw : ∀ w, (lookAcc a ⟨p, 4, 0⟩ false false).part w = w := fun w => rdAcc_part (p := p) w ha
  unfold State.gavePart State.gave
  dsimp only
  rw [hw]
  rfl

/-- A command row whose write passes the checks. -/
theorem State.cmdRow_takes {s : State} {f : Fld} {w : Word} {p : Bool} (h : s.takes f.a (setBits f.lo 1 1 w) p = true) :
    s.cmdRow f w p = (s.wrote f.a (setBits f.lo 1 1 w) p).noteLevels := State.writeRow_takes h

/-- A command row whose register write clears a bit. -/
theorem State.offRow_takes {s : State} {f : Fld} {w : Word} {p : Bool} (h : s.takes f.a (setBits f.lo 1 0 w) p = true) :
    s.offRow f w p = (s.wrote f.a (setBits f.lo 1 0 w) p).noteLevels := State.writeRow_takes h

/-- What a write does to a register that is no mode switch, port or LVL register and has no key: its block acts. -/
theorem State.wrote_block {s : State} {a : Nat} {v : Word} {p : Bool} (hk : keyReg a = false) (h1 : bufOfMode a = none)
    (h2 : writePort a = none) (h3 : lvlReg a = none) :
    s.wrote a v p =
      { ({ s with bus := [wrAcc a v p] } : State).blockWrite (wrAcc a v p) a v with
        bus := (({ s with bus := [wrAcc a v p] } : State).blockWrite (wrAcc a v p) a v).bus.drop 1 } := by
  unfold State.wrote State.atBus State.regWrite State.useKey
  simp only [hk, h1, h2, h3, Bool.false_eq_true, if_false]

/-! ### A write under the field types (R13, R284) -/

theorem not_zero_word : (~~~(0 : Word)) = BitVec.allOnes 32 := by decide

/-- A write changes only registers, shadows and what is on its way to the outputs; of the registers only its own. -/
theorem State.cfgWrite_only (s : State) (a : Nat) (v : Word) :
    (∃ g h e, s.cfgWrite a v = { s with regs := g, shadow := h, eff := e }) ∧ ∀ b, b ≠ a → (s.cfgWrite a v).rd b = s.rd b := by
  unfold State.cfgWrite
  split
  · constructor
    · unfold State.schedule
      split
      · exact ⟨_, s.shadow, _, rfl⟩
      · exact ⟨_, s.shadow, s.eff, rfl⟩
    · intro b hb
      unfold State.schedule
      split
      · exact State.wr_rd_ne hb
      · exact State.wr_rd_ne hb
  · exact ⟨⟨_, _, s.eff, rfl⟩, fun b hb => State.wr_rd_ne hb⟩

/-- The same of a write under the field types. -/
theorem State.plain_only (s : State) (a : Nat) (v : Word) :
    (∃ g h e, s.plain a v = { s with regs := g, shadow := h, eff := e }) ∧ ∀ b, b ≠ a → (s.plain a v).rd b = s.rd b := by
  unfold State.plain
  split
  · exact ⟨⟨s.regs, s.shadow, s.eff, rfl⟩, fun _ _ => rfl⟩
  · exact State.cfgWrite_only s a _

@[simp] theorem State.plain_pending (s : State) (a : Nat) (v : Word) : (s.plain a v).pending = s.pending := by
  obtain ⟨⟨_, _, _, h⟩, _⟩ := s.plain_only a v; rw [h]
@[simp] theorem State.plain_sel (s : State) (a : Nat) (v : Word) : (s.plain a v).sel = s.sel := by
  obtain ⟨⟨_, _, _, h⟩, _⟩ := s.plain_only a v; rw [h]
@[simp] theorem State.plain_bus (s : State) (a : Nat) (v : Word) : (s.plain a v).bus = s.bus := by
  obtain ⟨⟨_, _, _, h⟩, _⟩ := s.plain_only a v; rw [h]
@[simp] theorem State.plain_rdata (s : State) (a : Nat) (v : Word) : (s.plain a v).rdata = s.rdata := by
  obtain ⟨⟨_, _, _, h⟩, _⟩ := s.plain_only a v; rw [h]
@[simp] theorem State.plain_tm (s : State) (a : Nat) (v : Word) : (s.plain a v).tm = s.tm := by
  obtain ⟨⟨_, _, _, h⟩, _⟩ := s.plain_only a v; rw [h]
@[simp] theorem State.plain_clk (s : State) (a : Nat) (v : Word) : (s.plain a v).clk = s.clk := by
  obtain ⟨⟨_, _, _, h⟩, _⟩ := s.plain_only a v; rw [h]
@[simp] theorem State.plain_ev (s : State) (a : Nat) (v : Word) : (s.plain a v).ev = s.ev := by
  obtain ⟨⟨_, _, _, h⟩, _⟩ := s.plain_only a v; rw [h]
@[simp] theorem State.plain_q (s : State) (a : Nat) (v : Word) : (s.plain a v).q = s.q := by
  obtain ⟨⟨_, _, _, h⟩, _⟩ := s.plain_only a v; rw [h]
@[simp] theorem State.plain_sq (s : State) (a : Nat) (v : Word) : (s.plain a v).sq = s.sq := by
  obtain ⟨⟨_, _, _, h⟩, _⟩ := s.plain_only a v; rw [h]
@[simp] theorem State.plain_plan (s : State) (a : Nat) (v : Word) : (s.plain a v).plan = s.plan := by
  obtain ⟨⟨_, _, _, h⟩, _⟩ := s.plain_only a v; rw [h]
@[simp] theorem State.plain_mem (s : State) (a : Nat) (v : Word) : (s.plain a v).mem = s.mem := by
  obtain ⟨⟨_, _, _, h⟩, _⟩ := s.plain_only a v; rw [h]
@[simp] theorem State.plain_fc (s : State) (a : Nat) (v : Word) : (s.plain a v).fc = s.fc := by
  obtain ⟨⟨_, _, _, h⟩, _⟩ := s.plain_only a v; rw [h]
@[simp] theorem State.plain_vp (s : State) (a : Nat) (v : Word) : (s.plain a v).vp = s.vp := by
  obtain ⟨⟨_, _, _, h⟩, _⟩ := s.plain_only a v; rw [h]
@[simp] theorem State.plain_outs (s : State) (a : Nat) (v : Word) : (s.plain a v).outs = s.outs := by
  obtain ⟨⟨_, _, _, h⟩, _⟩ := s.plain_only a v; rw [h]
@[simp] theorem State.plain_saves (s : State) (a : Nat) (v : Word) : (s.plain a v).saves = s.saves := by
  obtain ⟨⟨_, _, _, h⟩, _⟩ := s.plain_only a v; rw [h]
@[simp] theorem State.plain_dram (s : State) (a : Nat) (v : Word) : (s.plain a v).dram = s.dram := by
  obtain ⟨⟨_, _, _, h⟩, _⟩ := s.plain_only a v; rw [h]
@[simp] theorem State.plain_cap (s : State) (a : Nat) (v : Word) : (s.plain a v).cap = s.cap := by
  obtain ⟨⟨_, _, _, h⟩, _⟩ := s.plain_only a v; rw [h]
@[simp] theorem State.plain_bat (s : State) (a : Nat) (v : Word) : (s.plain a v).bat = s.bat := by
  obtain ⟨⟨_, _, _, h⟩, _⟩ := s.plain_only a v; rw [h]
@[simp] theorem State.plain_fab (s : State) (a : Nat) (v : Word) : (s.plain a v).fab = s.fab := by
  obtain ⟨⟨_, _, _, h⟩, _⟩ := s.plain_only a v; rw [h]
@[simp] theorem State.plain_sup (s : State) (a : Nat) (v : Word) : (s.plain a v).sup = s.sup := by
  obtain ⟨⟨_, _, _, h⟩, _⟩ := s.plain_only a v; rw [h]
@[simp] theorem State.plain_mir (s : State) (a : Nat) (v : Word) : (s.plain a v).mir = s.mir := by
  obtain ⟨⟨_, _, _, h⟩, _⟩ := s.plain_only a v; rw [h]
@[simp] theorem State.plain_mg (s : State) (a : Nat) (v : Word) : (s.plain a v).mg = s.mg := by
  obtain ⟨⟨_, _, _, h⟩, _⟩ := s.plain_only a v; rw [h]
@[simp] theorem State.plain_sent (s : State) (a : Nat) (v : Word) : (s.plain a v).sent = s.sent := by
  obtain ⟨⟨_, _, _, h⟩, _⟩ := s.plain_only a v; rw [h]
@[simp] theorem State.plain_free (s : State) (a : Nat) (v : Word) : (s.plain a v).free = s.free := by
  obtain ⟨⟨_, _, _, h⟩, _⟩ := s.plain_only a v; rw [h]

@[simp] theorem State.plain_rd_ne {s : State} {a b : Nat} {v : Word} (h : b ≠ a) : (s.plain a v).rd b = s.rd b :=
  (s.plain_only a v).2 b h

@[simp] theorem State.plain_fld_ne {s : State} {a : Nat} {f : Fld} {v : Word} (h : f.a ≠ a) : (s.plain a v).fld f = s.fld f := by
  unfold State.fld; rw [State.plain_rd_ne h]

/-- A register without buffered fields takes a write under its field types at once. -/
theorem State.plain_rd_self {s : State} {a : Nat} {v : Word} {r : RegRow} (h : findReg a = some r) (hb : r.buf = 0) :
    (s.plain a v).rd a = mergeWrite r (s.rd a) v := by
  have hm : bufMask a = 0 := by simp [bufMask, h, hb]
  have hc : s.cfgRead a = s.rd a := by
    unfold State.cfgRead
    split
    · rfl
    · rw [hm, not_zero_word]; simp only [BitVec.and_allOnes]; simp
  unfold State.plain
  rw [h]
  simp only [hc]
  unfold State.cfgWrite
  split
  · have : ∀ (t : State) (k : Nat), (t.schedule k a (mergeWrite r (s.rd a) v)).rd a = t.rd a := by
      intro t k; unfold State.schedule; split <;> rfl
    rw [this, State.wr_rd_self]
  · rw [State.wr_rd_self, hm, not_zero_word]; simp only [BitVec.and_allOnes]; simp

/-- A register without a row in the map takes nothing. -/
theorem State.plain_none {s : State} {a : Nat} {v : Word} (h : findReg a = none) : s.plain a v = s := by
  unfold State.plain; rw [h]

/-- Of several command bits at 1 none acts; of one, its command; while BUSY, none (R282). -/
theorem State.command_one {s : State} {st : Fld} {l : List Nat} {v : Word} {run : Nat → State → State} {i : Nat}
    (h : cmdBits l v = [i]) : s.command st false l v run = run i s := by
  simp [State.command, h]

theorem State.command_busy {s : State} {st : Fld} {l : List Nat} {v : Word} {run : Nat → State → State} {i : Nat}
    (h : cmdBits l v = [i]) : s.command st true l v run = s.put st stBusy := by
  simp [State.command, h]

theorem State.command_none {s : State} {st : Fld} {b : Bool} {l : List Nat} {v : Word} {run : Nat → State → State}
    (h : cmdBits l v = []) : s.command st b l v run = s := by
  simp [State.command, h]

end Sys2Proof.Machine
end

