-- ==== Sys2Proof/Laws/Memory.lean ====
section
/-! SUPPORT. The memories (R62, R216, R227, R302, R306, R364): a byte reads as it was last written, every other byte stands, and
every operation on a memory keeps its canonical form. -/

namespace Sys2Proof.Machine

/-- The parts of the canonical form. -/
theorem Memory.wf_iff (s : State) : Memory.wf s = true ↔
    Sp.wf s.dramDef s.mem.dram = true ∧ Sp.wf (fun _ => (0 : Byte)) s.mem.track = true ∧
    Sp.wf (fun _ => (0 : Word)) s.mem.course = true ∧ Sp.wf (fun _ => (0 : Word)) s.mem.dir = true ∧
    Sp.wf (fun _ => (0 : Word)) s.mem.prof = true ∧ Sp.wf (fun _ => (0 : Word)) s.mem.pv = true ∧
    Sp.wf (fun _ => (0 : Nat)) s.mem.wear = true ∧ Sp.wf otpDef s.mem.otp = true ∧
    Sp.wf flashDef s.mem.flash = true := by
  simp only [Memory.wf, Bool.and_eq_true, and_assoc]

/-- The memories at reset have it. -/
theorem Memory.wf_reset : Memory.wf State.reset = true := by decide

/-! ### Track memory (R216) -/

@[simp] theorem State.trackWrite_trackRead_self (s : State) (a : Nat) (v : Byte) : (s.trackWrite a v).trackRead a = v :=
  Sp.get_set_self _ s.mem.track a v

@[simp] theorem State.trackWrite_trackRead_ne {s : State} {a b : Nat} {v : Byte} (h : b ≠ a) :
    (s.trackWrite a v).trackRead b = s.trackRead b := Sp.get_set_ne _ s.mem.track a b v h

theorem Memory.wf_trackWrite {s : State} (a : Nat) (v : Byte) (h : Memory.wf s = true) : Memory.wf (s.trackWrite a v) = true := by
  rw [Memory.wf_iff] at h ⊢
  exact ⟨h.1, Sp.wf_set a v h.2.1, h.2.2⟩

theorem Memory.wf_trackPut (bs : List Byte) : ∀ {s : State} (a : Nat), Memory.wf s = true → Memory.wf (s.trackPut a bs) = true := by
  induction bs with
  | nil => exact fun _ h => h
  | cons b bs ih => exact fun a h => ih (a + 1) (Memory.wf_trackWrite a b h)

/-- A byte outside the range written keeps its value. -/
theorem State.trackPut_ne (bs : List Byte) : ∀ {s : State} {a b : Nat}, (b < a ∨ a + bs.length ≤ b) →
    (s.trackPut a bs).trackRead b = s.trackRead b := by
  induction bs with
  | nil => intro _ _ _ _; rfl
  | cons c cs ih =>
    intro s a b h
    simp only [List.length_cons] at h
    have := ih (s := s.trackWrite a c) (a := a + 1) (b := b) (by omega)
    rw [State.trackPut, this, State.trackWrite_trackRead_ne (by omega)]

/-- A byte of the range written reads as its value. -/
theorem State.trackPut_at (bs : List Byte) : ∀ {s : State} {a i : Nat}, i < bs.length →
    (s.trackPut a bs).trackRead (a + i) = bs.getD i 0 := by
  induction bs with
  | nil => intro _ _ i h; simp at h
  | cons c cs ih =>
    intro s a i h
    cases i with
    | zero =>
      rw [State.trackPut, State.trackPut_ne cs (by omega)]
      simp
    | succ i =>
      have := ih (s := s.trackWrite a c) (a := a + 1) (i := i) (by simpa using h)
      rw [State.trackPut, show a + (i + 1) = a + 1 + i by omega, this]
      rfl

/-! ### DRAM (R227, R228) -/

theorem Memory.wf_dramWrite {s : State} (a : Nat) (v : Byte) (h : Memory.wf s = true) : Memory.wf (s.dramWrite a v) = true := by
  rw [Memory.wf_iff] at h ⊢
  exact ⟨Sp.wf_foldl _ dramKey (fun _ => v) h.1, h.2⟩

theorem Memory.wf_dramPut (bs : List Byte) : ∀ {s : State} (a : Nat), Memory.wf s = true → Memory.wf (s.dramPut a bs) = true := by
  induction bs with
  | nil => exact fun _ h => h
  | cons b bs ih => exact fun a h => ih (a + 1) (Memory.wf_dramWrite a b h)

/-- Where a DRAM byte lies does not depend on what DRAM holds. -/
@[simp] theorem State.dramWrite_dramLocs (s : State) (a b : Nat) (v : Byte) : (s.dramWrite a v).dramLocs b = s.dramLocs b := rfl

@[simp] theorem State.dramWrite_fenced (s : State) (a c : Nat) (v : Byte) : (s.dramWrite a v).fenced c = s.fenced c := rfl

/-- What a key reads as after a list of writes of one value. -/
theorem Sp.get_foldl_set {α : Type} [DecidableEq α] (d : Nat → α) (v : α) (ks : List (Nat × Nat)) : ∀ (m : Sp α) (k : Nat),
    Sp.get d (ks.foldl (fun m l => Sp.set d m (dramKey l) v) m) k =
      if ks.any (fun l => decide (dramKey l = k)) then v else Sp.get d m k := by
  induction ks with
  | nil => intro m k; simp
  | cons x xs ih =>
    intro m k
    rw [List.foldl_cons, ih, List.any_cons, Sp.get_set]
    by_cases h : k = dramKey x
    · subst h; simp
    · have h' : ¬ dramKey x = k := fun e => h e.symm
      simp only [if_neg h, h', decide_false, Bool.false_or]

/-- A DRAM byte that some reachable channel holds reads as it was last written. -/
theorem State.dramWrite_dramRead_self {s : State} {a : Nat} {v : Byte} (h : (s.dramRead a).isSome = true) :
    (s.dramWrite a v).dramRead a = some v := by
  unfold State.dramRead at h ⊢
  rw [State.dramWrite_dramLocs]
  simp only [State.dramWrite_fenced]
  cases hl : (s.dramLocs a).find? (fun l => !s.fenced l.1) with
  | none => rw [hl] at h; simp at h
  | some l =>
    have hm := List.mem_of_find?_eq_some hl
    have hp := List.find?_some hl
    have : ((s.dramLocs a).filter (fun l => !s.fenced l.1)).any (fun x => decide (dramKey x = dramKey l)) = true :=
      List.any_eq_true.2 ⟨l, List.mem_filter.2 ⟨hm, hp⟩, by simp⟩
    have hd : (s.dramWrite a v).dramDef = s.dramDef := rfl
    show some (Sp.get (s.dramWrite a v).dramDef (s.dramWrite a v).mem.dram (dramKey l)) = some v
    rw [hd]
    unfold State.dramWrite
    rw [Sp.get_foldl_set, this]
    simp

/-! ### Directory, courses, persistent cells, flash -/

theorem Memory.wf_setDir {s : State} (k w : Nat) (v : Word) (h : Memory.wf s = true) : Memory.wf (s.setDir k w v) = true := by
  rw [Memory.wf_iff] at h ⊢
  exact ⟨h.1, h.2.1, h.2.2.1, Sp.wf_set _ v h.2.2.2.1, h.2.2.2.2⟩

theorem Memory.wf_setCrs {s : State} (n e w : Nat) (v : Word) (h : Memory.wf s = true) : Memory.wf (s.setCrs n e w v) = true := by
  rw [Memory.wf_iff] at h ⊢
  exact ⟨h.1, h.2.1, Sp.wf_set _ v h.2.2.1, h.2.2.2⟩

theorem Memory.wf_pvCommit {s : State} (i : Nat) (v : Word) (h : Memory.wf s = true) : Memory.wf (s.pvCommit i v) = true := by
  rw [Memory.wf_iff] at h ⊢
  exact ⟨h.1, h.2.1, h.2.2.1, h.2.2.2.1, h.2.2.2.2.1, Sp.wf_set _ v h.2.2.2.2.2.1, Sp.wf_set _ _ h.2.2.2.2.2.2.1,
    h.2.2.2.2.2.2.2⟩

theorem Memory.wf_flashErase {s : State} (a n : Nat) (h : Memory.wf s = true) : Memory.wf (s.flashErase a n) = true := by
  rw [Memory.wf_iff] at h ⊢
  exact ⟨h.1, h.2.1, h.2.2.1, h.2.2.2.1, h.2.2.2.2.1, h.2.2.2.2.2.1, h.2.2.2.2.2.2.1, h.2.2.2.2.2.2.2.1,
    Sp.wf_filter _ h.2.2.2.2.2.2.2.2⟩

theorem Memory.wf_flashPut {s : State} (a : Nat) (b : List Byte) (h : Memory.wf s = true) : Memory.wf (s.flashPut a b) = true := by
  rw [Memory.wf_iff] at h ⊢
  exact ⟨h.1, h.2.1, h.2.2.1, h.2.2.2.1, h.2.2.2.2.1, h.2.2.2.2.2.1, h.2.2.2.2.2.2.1, h.2.2.2.2.2.2.2.1,
    Sp.wf_setMany b a h.2.2.2.2.2.2.2.2⟩

/-- A change of what no memory and no channel record holds keeps the form. -/
theorem Memory.wf_congr {s t : State} (hm : t.mem = s.mem) (hd : t.dram.ch = s.dram.ch) (h : Memory.wf s = true) :
    Memory.wf t = true := by
  have e : t.dramDef = s.dramDef := by
    funext k
    simp only [State.dramDef, State.dch, hd]
    rfl
  unfold Memory.wf at h ⊢
  rw [hm, e]
  exact h

/-- A channel's loss keeps the form: its bytes take their new unlisted values (R242, R243). -/
theorem Memory.wf_loseChannel {s : State} (c : Nat) (h : Memory.wf s = true) : Memory.wf (s.loseChannel c) = true := by
  rw [Memory.wf_iff] at h ⊢
  refine ⟨?_, h.2⟩
  have h1 := (Sp.wf_iff s.dramDef s.mem.dram).1 h.1
  rw [Sp.wf_iff]
  refine ⟨h1.1.filter _, fun x hx => ?_⟩
  obtain ⟨hm, hp⟩ := List.mem_filter.1 hx
  have hp : x.1 / 2 ^ 34 ≠ c := by simpa using hp
  have : (s.loseChannel c).dramDef x.1 = s.dramDef x.1 := by
    unfold State.dramDef
    have hd : (s.loseChannel c).dch (x.1 / 2 ^ 34) = s.dch (x.1 / 2 ^ 34) := by
      unfold State.loseChannel
      exact State.setDch_dch_ne hp
    simp only [hd]
  rw [this]
  exact h1.2 x hm

end Sys2Proof.Machine
end

