-- ==== Sys2Proof/Laws/Mirror.lean ====
section
/-! SUPPORT. What the small operations of the mirror pair and of the updater's replies change, and that they change nothing else. -/

namespace Sys2Proof.Machine

/-- The end of a takeover changes its own records of the pair and registers (R349). -/
theorem State.takeEnd_only (s : State) (st : Nat) :
    s.takeEnd st = { s with regs := (s.takeEnd st).regs, mir := { s.mir with trig := none, byCmd := false } } := by
  cases h : s.mir.byCmd <;> simp [State.takeEnd, State.put, State.wr, h]

/-- A sample of PEER_EN changes its own record of the pair, registers and the index of the next free value (R342). -/
theorem State.samplePeer_only (s : State) (high : Bool) :
    s.samplePeer high = { s with
      regs := (s.samplePeer high).regs, free := (s.samplePeer high).free,
      mir := { s.mir with peerAt := some s.tm.tb, lowFor := (s.samplePeer high).mir.lowFor } } := by
  cases h : (s.mir.peerAt != some s.tm.tb && s.mir.peerAt != some (s.tm.tb - 1)) <;>
    simp [State.samplePeer, State.takeFree, State.put, State.wr, h]

/-- A look at PEER_EN leaves a sample of the present tick (R342). -/
theorem State.peerLook_now (s : State) : s.peerLook.mir.peerAt = some s.tm.tb := by
  unfold State.peerLook
  split
  · assumption
  · rw [State.samplePeer_only]; rfl

/-- Where no VERIFY or ACTIVATE waits for its REPLY, none is sent (R375). -/
theorem State.answerAsked_none (s : State) (st : Nat) (h : s.mg.asked = none) : s.answerAsked st = s := by
  simp [State.answerAsked, h]

end Sys2Proof.Machine
end

