-- ==== Sys2Proof/Laws/Note.lean ====
section
/-! SUPPORT. The look at the level events (R97, R116, R122, R174, R344), pulses and decisions: what they leave unchanged. -/

namespace Sys2Proof.Machine

/-- The registers that a look at the events, a pulse or a decision may change: EVT_STAT, EVQ_LVL, EVQ_LOST, MIR_STAT, SYNC_STAT,
the sequencers' own registers, and every register with buffered fields, by a strobe. -/
def noteReg (a : Nat) : Bool :=
  evRegs.contains a || decide (a = F.MIR_STAT_PAIR.a) || decide (a = F.SYNC_STAT_CLAMP.a) ||
    (decide (0x20100 ≤ a) && decide (a < 0x20300)) || bufAll.any (fun b => b.addrs.contains a)

/-- What a look at the events, a pulse or a decision leaves of a state `s`. -/
structure Noted (s t : State) : Prop where
  pending : t.pending = s.pending
  sel : t.sel = s.sel
  bus : t.bus = s.bus
  rdata : t.rdata = s.rdata
  tm : t.tm = s.tm
  clk : t.clk = s.clk
  plan : t.plan = s.plan
  mem : t.mem = s.mem
  outs : t.outs = s.outs
  saves : t.saves = s.saves
  dram : t.dram = s.dram
  cap : t.cap = s.cap
  bat : t.bat = s.bat
  fab : t.fab = s.fab
  mg : t.mg = s.mg
  shadow : t.shadow = s.shadow
  sup : ∃ b, t.sup = { s.sup with outEn := b }
  rd : ∀ a, noteReg a = false → t.rd a = s.rd a

theorem Noted.refl (s : State) : Noted s s := by
  constructor <;> first | rfl | exact ⟨s.sup.outEn, rfl⟩ | exact fun _ _ => rfl

theorem Noted.trans {s t u : State} (h : Noted s t) (k : Noted t u) : Noted s u := by
  obtain ⟨b, hb⟩ := h.sup
  obtain ⟨c, hc⟩ := k.sup
  exact {
    pending := k.pending.trans h.pending
    sel := k.sel.trans h.sel
    bus := k.bus.trans h.bus
    rdata := k.rdata.trans h.rdata
    tm := k.tm.trans h.tm
    clk := k.clk.trans h.clk
    plan := k.plan.trans h.plan
    mem := k.mem.trans h.mem
    outs := k.outs.trans h.outs
    saves := k.saves.trans h.saves
    dram := k.dram.trans h.dram
    cap := k.cap.trans h.cap
    bat := k.bat.trans h.bat
    fab := k.fab.trans h.fab
    mg := k.mg.trans h.mg
    shadow := k.shadow.trans h.shadow
    sup := ⟨c, by rw [hc, hb]⟩
    rd := fun a ha => (k.rd a ha).trans (h.rd a ha) }

/-- Both branches of a choice. -/
theorem Noted.ite {s a b : State} (c : Prop) [Decidable c] (ha : Noted s a) (hb : Noted s b) : Noted s (if c then a else b) := by
  split
  · exact ha
  · exact hb

/-- A fold of steps that each leave what `Noted` names leaves it. -/
theorem Noted.foldl {α : Type} (l : List α) (f : State → α → State) (h : ∀ t x, Noted t (f t x)) :
    ∀ s : State, Noted s (l.foldl f s) := by
  induction l with
  | nil => exact Noted.refl
  | cons x xs ih => exact fun s => (h s x).trans (ih (f s x))

/-- The same over a list all of whose elements have a property. -/
theorem Noted.foldl_mem {α : Type} (l : List α) (f : State → α → State) (h : ∀ t, ∀ x ∈ l, Noted t (f t x)) :
    ∀ s : State, Noted s (l.foldl f s) := by
  induction l with
  | nil => exact Noted.refl
  | cons x xs ih =>
    exact fun s => (h s x (by simp)).trans (ih (fun t y hy => h t y (by simp [hy])) (f s x))

theorem Noted.put (s : State) (f : Fld) (v : Nat) (h : noteReg f.a = true) : Noted s (s.put f v) := by
  constructor <;> first | rfl | exact ⟨s.sup.outEn, rfl⟩ | skip
  intro a ha
  exact State.put_rd_ne (fun e => by rw [e, h] at ha; exact Bool.noConfusion ha)

theorem Noted.raise (s : State) (f : Fld) (h : noteReg f.a = true) : Noted s (s.raise f) := Noted.put s f 1 h

theorem Noted.bump (s : State) (f : Fld) (h : noteReg f.a = true) : Noted s (s.bump f) := Noted.put s f _ h

theorem Noted.event (s : State) (r : Rec) : Noted s (s.event r) := by
  constructor <;> first | simp only [State.event_pending, State.event_sel, State.event_bus,
    State.event_rdata, State.event_tm, State.event_clk, State.event_plan, State.event_mem, State.event_outs, State.event_saves,
    State.event_dram, State.event_cap, State.event_bat, State.event_fab, State.event_mg, State.event_shadow] | skip
  · exact ⟨s.sup.outEn, by rw [State.event_sup]⟩
  · intro a ha
    refine State.event_rd (fun h => ?_)
    have : evRegs.contains a = true := by simpa using h
    simp only [noteReg, this, Bool.true_or] at ha
    exact Bool.noConfusion ha

/-- A change of what no register shows, of the kinds a look at the events makes. -/
theorem Noted.plain (s : State) (e : List Eff) (ev : Ev) (fc : Sp Fc) (vp : Sp Vp) (sq : Sp Sq) (m : Mir) (l : List Sent) (b : Bool) :
    Noted s { s with eff := e, ev := ev, fc := fc, vp := vp, sq := sq, mir := m, sent := l, sup := { s.sup with outEn := b } } := by
  constructor <;> first | rfl | exact ⟨b, rfl⟩ | exact fun _ _ => rfl

theorem Noted.setSq (s : State) (n : Nat) (q : Sq) : Noted s (s.setSq n q) := Noted.plain s s.eff s.ev s.fc s.vp _ s.mir s.sent s.sup.outEn

theorem Noted.setFc (s : State) (n : Nat) (c : Fc) : Noted s (s.setFc n c) := Noted.plain s s.eff s.ev _ s.vp s.sq s.mir s.sent s.sup.outEn

theorem Noted.addSw (s : State) (n : Nat) (w : Sw) : Noted s (s.addSw n w) := Noted.setFc s n _

theorem Noted.schedule (s : State) (k a : Nat) (v : Word) : Noted s (s.schedule k a v) := by
  unfold State.schedule
  split
  · exact Noted.plain s _ s.ev s.fc s.vp s.sq s.mir s.sent s.sup.outEn
  · exact Noted.refl s

theorem Noted.wr (s : State) (a : Nat) (v : Word) (h : noteReg a = true) : Noted s (s.wr a v) := by
  constructor <;> first | rfl | exact ⟨s.sup.outEn, rfl⟩ | skip
  intro b hb
  exact State.wr_rd_ne (fun e => by rw [e, h] at hb; exact Bool.noConfusion hb)

theorem Noted.copyShadow (s : State) (k a : Nat) (h : noteReg a = true) : Noted s (s.copyShadow k a) := by
  unfold State.copyShadow
  split
  · exact Noted.refl s
  · exact (Noted.wr s a _ h).trans (Noted.schedule _ k a _)

theorem Noted.copyInst (s : State) (k : Nat) (b : BufInst) (h : b ∈ bufAll) : Noted s (s.copyInst k b) := by
  unfold State.copyInst
  split
  · refine Noted.foldl_mem b.addrs _ (fun t a ha => Noted.copyShadow t k a ?_) s
    have : bufAll.any (fun b => b.addrs.contains a) = true :=
      List.any_eq_true.2 ⟨b, h, by simpa using ha⟩
    unfold noteReg
    rw [this, Bool.or_true]
  · exact Noted.refl s

theorem Noted.moveDelay (s old : State) (j k : Nat) : Noted s (s.moveDelay old j k) := by
  unfold State.moveDelay
  split
  · exact Noted.setFc s _ _
  · split
    · exact Noted.plain s s.eff s.ev s.fc _ s.sq s.mir s.sent s.sup.outEn
    · exact Noted.refl s

theorem noteReg_clamp : noteReg F.SYNC_STAT_CLAMP.a = true := by simp [noteReg]

theorem noteReg_pair : noteReg F.MIR_STAT_PAIR.a = true := by simp [noteReg]

theorem noteReg_sq (a : Nat) (h : 0x20100 ≤ a) (k : a < 0x20300) : noteReg a = true := by
  simp [noteReg, h, k]

theorem Noted.retrim (s old : State) (k : Nat) : Noted s (s.retrim old k) := by
  refine Noted.foldl _ _ (fun t j => ?_) s
  split
  · exact Noted.refl t
  · split
    · exact (Noted.moveDelay t old j k).trans (Noted.raise _ _ noteReg_clamp)
    · exact Noted.moveDelay t old j k

/-- An update strobe (R285). -/
theorem Noted.strobe (s : State) (k g : Nat) : Noted s (s.strobe k g) := by
  have hfc : ∀ n, n < 64 → bufFc n ∈ bufAll := by
    intro n hn
    simp only [bufAll, List.mem_append, List.mem_map, List.mem_range]
    exact Or.inl (Or.inl (Or.inr ⟨n, hn, rfl⟩))
  have hvb : ∀ n, n < 4 → bufVb n ∈ bufAll := by
    intro n hn
    simp only [bufAll, List.mem_append, List.mem_map, List.mem_range]
    exact Or.inl (Or.inr ⟨n, hn, rfl⟩)
  have hg0 : ∀ b, b ∈ bufGroup0 → b ∈ bufAll := by
    intro b hb
    simp only [bufAll, List.mem_append]
    exact Or.inl (Or.inl (Or.inl hb))
  have hcap : bufCapt ∈ bufAll := by simp [bufAll]
  unfold State.strobe
  refine Noted.trans (t := if g = 0 then (bufGroup0.foldl (fun t b => t.copyInst k b) s).retrim s k else s) ?_ ?_
  · split
    · exact (Noted.foldl_mem _ _ (fun t b hb => Noted.copyInst t k b (hg0 b hb)) s).trans (Noted.retrim _ _ _)
    · exact Noted.refl s
  · generalize (if g = 0 then (bufGroup0.foldl (fun t b => t.copyInst k b) s).retrim s k else s) = s1
    dsimp only
    have h2 : ∀ s1, Noted s1 ((List.range 64).foldl (fun t n =>
        if t.fld (F.FC_CFG_STRB_GRP n) = g then
          if (t.copyInst k (bufFc n)).flag (F.FC_CFG_PROF_ON_STROBE n) && (t.copyInst k (bufFc n)).usesNco n then
            (t.copyInst k (bufFc n)).addSw n ((t.copyInst k (bufFc n)).mkSw n 2 (k + 48)
              ((t.copyInst k (bufFc n)).profAhead n).1 ((t.copyInst k (bufFc n)).profAhead n).2)
          else t.copyInst k (bufFc n)
        else t) s1) := by
      refine Noted.foldl_mem _ _ (fun t n hn => ?_)
      have hn := List.mem_range.1 hn
      split
      · split
        · exact (Noted.copyInst t k _ (hfc n hn)).trans (Noted.addSw _ _ _)
        · exact Noted.copyInst t k _ (hfc n hn)
      · exact Noted.refl t
    have h3 : ∀ s1, Noted s1 ((List.range 4).foldl (fun t b =>
        if t.fld (F.VB_CFG_STRB_GRP b) = g then t.copyInst k (bufVb b) else t) s1) := by
      refine Noted.foldl_mem _ _ (fun t n hn => ?_)
      have hn := List.mem_range.1 hn
      split
      · exact Noted.copyInst t k _ (hvb n hn)
      · exact Noted.refl t
    have h4 : ∀ s1 : State, Noted s1 (if s1.fld F.CAPT_CTRL_STRB_GRP = g then s1.copyInst k bufCapt else s1) := by
      intro s1
      split
      · exact Noted.copyInst _ k _ hcap
      · exact Noted.refl _
    exact (h2 _).trans ((h3 _).trans (h4 _))

theorem Noted.strobesAt (s : State) (k m : Nat) : Noted s (s.strobesAt k m) := Noted.foldl _ _ (fun t g => Noted.strobe t k g) s

theorem Noted.send (s : State) (p k : Nat) (b : List Byte) : Noted s (s.send p k b) :=
  Noted.plain s s.eff s.ev s.fc s.vp s.sq s.mir _ s.sup.outEn

theorem Noted.takeFree (s : State) : Noted s s.takeFree := by
  constructor <;> first | rfl | exact ⟨s.sup.outEn, rfl⟩ | exact fun _ _ => rfl

theorem Noted.mirFrame (s : State) (ty : Nat) (b : List Byte) (gap : Nat) : Noted s (s.mirFrame ty b gap) := by
  unfold State.mirFrame
  exact Noted.ite _ (Noted.plain s s.eff s.ev s.fc s.vp s.sq _ _ s.sup.outEn) (Noted.refl s)

theorem Noted.mirSend (s : State) (ty : Nat) (b : List Byte) : Noted s (s.mirSend ty b) :=
  (Noted.takeFree s).trans (Noted.mirFrame _ ty b _)

theorem Noted.mirDecision (s : State) (n kind d arg : Nat) : Noted s (s.mirDecision n kind d arg) := by
  unfold State.mirDecision
  split
  · exact (Noted.mirSend s _ _).trans (Noted.mirFrame _ _ _ 0)
  · split
    · exact Noted.plain s s.eff s.ev s.fc s.vp s.sq _ s.sent s.sup.outEn
    · exact Noted.refl s

theorem Noted.driveOutEn (s : State) : Noted s s.driveOutEn := by
  unfold State.driveOutEn
  split
  · exact Noted.refl s
  · exact (Noted.put s F.MIR_STAT_OUT_EN _ (by simp [noteReg])).trans
      (Noted.plain _ s.eff s.ev s.fc s.vp s.sq s.mir s.sent _)

theorem Noted.pairEval (s : State) : Noted s s.pairEval := by
  unfold State.pairEval
  split
  · exact Noted.refl s
  · exact ((Noted.put s F.MIR_STAT_PAIR _ noteReg_pair).trans (Noted.put _ F.MIR_STAT_WHY _ (by simp [noteReg]))).trans
      (Noted.driveOutEn _)

theorem Noted.stageLoad (s : State) (n g : Nat) : Noted s (s.stageLoad n g) := by
  unfold State.stageLoad
  split
  · exact Noted.refl s
  · exact Noted.setSq s n _

theorem Noted.addDec (s : State) (n : Nat) (d : Dec) : Noted s (s.addDec n d) := Noted.setSq s n _

theorem Noted.takeTail (s : State) (n o : Nat) : Noted s (s.takeTail n o) := Noted.setSq s n _

theorem Noted.prepOuts (s : State) (n e o : Nat) : Noted s (s.prepOuts n e o) := by
  unfold State.prepOuts
  exact (Noted.strobesAt s _ _).trans (Noted.ite _ (Noted.foldl _ _ (fun t c => Noted.addSw t c _) _) (Noted.refl _))

theorem Noted.prepGroup (s : State) (n e : Nat) : Noted s (s.prepGroup n e) := by
  unfold State.prepGroup
  exact Noted.ite _ (Noted.refl s) (Noted.stageLoad s n _)

theorem Noted.prepVisit (s : State) (n e o : Nat) : Noted s (s.prepVisit n e o) :=
  (Noted.prepOuts s n e o).trans (Noted.prepGroup _ n e)

theorem Noted.fallbackOf (s : State) (n k o c sc : Nat) : Noted s (s.fallbackOf n k o c sc) := by
  unfold State.fallbackOf
  exact Noted.ite _ (Noted.addDec s n _)
    (((Noted.prepVisit s n _ o).trans (Noted.addDec _ n _)).trans (Noted.takeTail _ n o))

theorem Noted.decideFallback (s : State) (n o c sc : Nat) : Noted s (s.decideFallback n o c sc) := by
  unfold State.decideFallback
  split
  · exact Noted.refl s
  · exact Noted.fallbackOf s n _ o c sc

theorem noteReg_cnt (n : Nat) (h : n < 8) : noteReg (F.SQ_CNT_SHORT_COUNT n).a = true := by
  apply noteReg_sq <;> simp <;> omega

theorem noteReg_flags (n : Nat) (h : n < 8) : noteReg (F.SQ_FLAGS_SHORTFALL n).a = true := by
  apply noteReg_sq <;> simp <;> omega

theorem noteReg_stat (n : Nat) (h : n < 8) : noteReg (F.SQ_STAT_PENDING n).a = true := by
  exact noteReg_sq _ (by simp) (by simp; omega)

theorem noteReg_latch (n ev : Nat) (h : n < 8) : noteReg (latchFld n ev).a = true := by
  unfold latchFld
  split
  · apply noteReg_sq <;> simp <;> omega
  · apply noteReg_sq <;> simp <;> omega

theorem Noted.shortfall (s : State) (n o e : Nat) (j : Bool) (hn : n < 8) : Noted s (s.shortfall n o e j) := by
  unfold State.shortfall
  split
  · exact Noted.refl s
  · rename_i v _
    have h1 : ∀ x y z : Nat, Noted s (((s.bump (F.SQ_CNT_SHORT_COUNT n)).raise (F.SQ_FLAGS_SHORTFALL n)).sqRec n x y z) :=
      fun x y z => ((Noted.bump s _ (noteReg_cnt n hn)).trans (Noted.raise _ _ (noteReg_flags n hn))).trans (Noted.event _ _)
    have h2 : ∀ (b : Bool) (u : State), Noted u (if b then u.decideFallback n o 0 2
        else ((u.setSq n { u.sqn n with pend := some e, pendJump := j }).raise (F.SQ_STAT_PENDING n)).addDec n ⟨o, .go⟩) := by
      intro b u
      split
      · exact Noted.decideFallback u n o 0 2
      · exact ((Noted.setSq u n _).trans (Noted.raise _ _ (noteReg_stat n hn))).trans (Noted.addDec _ n _)
    dsimp only
    split
    · exact (h1 _ _ _).trans (h2 _ _)
    · exact (h1 _ _ _).trans (Noted.addDec _ n _)
    · exact (h1 _ _ _).trans (Noted.decideFallback _ n o 0 2)

theorem Noted.goTo (s : State) (n o e : Nat) (j : Bool) : Noted s (s.goTo n o e j) := by
  have h1 : Noted s ((s.prepVisit n e o).addDec n ⟨o, .visit e j⟩) := (Noted.prepVisit s n e o).trans (Noted.addDec _ n _)
  unfold State.goTo
  exact Noted.ite _ (h1.trans (Noted.takeTail _ n o)) h1

/-- A decision for a visit or its shortfall (R77, R91, R93, R99–R102). -/
theorem Noted.select (s : State) (n o e : Nat) (j : Bool) (hn : n < 8) : Noted s (s.select n o e j) := by
  unfold State.select
  exact Noted.ite _ (Noted.goTo s n o e j) (Noted.shortfall s n o e j hn)

theorem Noted.zones (s : State) (n : Nat) (l : List (Nat × Nat)) (hn : n < 8) : Noted s (s.zones n l) :=
  (Noted.setSq s n _).trans (Noted.put _ (F.SQ_STAT_ZONE n) _ (noteReg_sq _ (by simp) (by simp; omega)))

/-- The condition of an IMMEDIATE entry is met (R97). -/
theorem Noted.immediate (s : State) (n t : Nat) (hn : n < 8) : Noted s (s.immediate n t) := by
  have h1 : ∀ (u : State) (ev : Nat), Noted u (if u.evLevelKind ev then u else u.put (latchFld n ev) 0) := fun u ev =>
    Noted.ite _ (Noted.refl u) (Noted.put u _ 0 (noteReg_latch n ev hn))
  unfold State.immediate
  dsimp only
  cases (s.sqn n).visit
  · exact Noted.refl s
  · dsimp only
    exact Noted.ite _ ((Noted.setSq s n _).trans ((h1 _ _).trans ((Noted.setSq _ n _).trans ((Noted.zones _ n _ hn).trans
      ((Noted.mirDecision _ _ _ _ _).trans (Noted.select _ n _ _ _ hn)))))) (Noted.setSq s n _)

theorem Noted.latchPulse (s : State) (n ev : Nat) (hn : n < 8) : Noted s (s.latchPulse n ev) := by
  unfold State.latchPulse
  split
  · exact (Noted.bump s (F.SQ_CNT_MERGE_COUNT n) (noteReg_cnt n hn)).trans
      (Noted.raise _ (F.SQ_FLAGS_LATCH_MERGE n) (noteReg_flags n hn))
  · exact Noted.raise s _ (noteReg_latch n ev hn)

theorem Noted.pulseTo (s : State) (n ev : Nat) (hn : n < 8) : Noted s (s.pulseTo n ev) := by
  unfold State.pulseTo
  exact Noted.ite _ (Noted.refl s) (Noted.ite _ (Noted.ite _ (Noted.immediate s n _ hn)
    ((Noted.immediate s n _ hn).trans (Noted.latchPulse _ n ev hn))) (Noted.latchPulse s n ev hn))

theorem Noted.pennantEvent (s : State) (ev t : Nat) : Noted s (s.pennantEvent ev t) :=
  Noted.plain s s.eff _ s.fc s.vp s.sq s.mir s.sent s.sup.outEn

theorem Noted.hopEvent (s : State) (ev : Nat) : Noted s (s.hopEvent ev) := by
  refine Noted.foldl _ _ (fun t c => ?_) s
  split
  · exact Noted.refl t
  · exact Noted.ite _ (Noted.addSw t c _) (Noted.refl t)

theorem Noted.setEv (s : State) (e : Ev) : Noted s { s with ev := e } :=
  Noted.plain s s.eff e s.fc s.vp s.sq s.mir s.sent s.sup.outEn

/-- A pulse of an event (R93, R97, R116, R121, R122, R174). -/
theorem Noted.pulse (s : State) (ev : Nat) : Noted s (s.pulse ev) := by
  unfold State.pulse
  exact Noted.ite _ (Noted.bump s F.EVT_STAT_EDGE_MERGE (by simp [noteReg, evRegs]))
    ((Noted.setEv s _).trans ((Noted.pennantEvent _ ev _).trans ((Noted.ite _ (Noted.setEv _ _) (Noted.hopEvent _ ev)).trans
      (Noted.foldl_mem _ _ (fun t n hn => Noted.pulseTo t n ev (List.mem_range.1 hn)) _))))

theorem Noted.pulseSrc (s : State) (src : Nat) : Noted s (s.pulseSrc src) :=
  Noted.foldl _ _ (fun t ev => Noted.ite _ (Noted.pulse t ev) (Noted.refl t)) s

/-- The heat's look at the level events (R97, R174). -/
theorem Noted.heatLevels (s : State) (now : Nat) : Noted s (s.heatLevels now) := by
  unfold State.heatLevels
  refine Noted.ite _ (Noted.refl s) ((Noted.setEv s _).trans (Noted.foldl _ _ (fun t ev => Noted.ite _ (Noted.refl t) ?_) _))
  exact (Noted.ite _ (Noted.hopEvent t ev) (Noted.refl t)).trans (Noted.foldl_mem _ _ (fun u n hn =>
    Noted.ite _ (Noted.immediate u n _ (List.mem_range.1 hn)) (Noted.refl u)) _)

/-- A look at the level events (R97, R116, R122, R174, R344). -/
theorem Noted.noteLevels (s : State) : Noted s s.noteLevels := by
  unfold State.noteLevels
  refine (Noted.pairEval s).trans (Noted.trans ?_ (Noted.heatLevels _ _))
  exact Noted.ite _ (Noted.refl _) ((Noted.setEv _ _).trans
    (Noted.foldl _ _ (fun t ev => Noted.ite _ (Noted.pennantEvent t ev _) (Noted.refl t)) _))

@[simp] theorem State.noteLevels_pending (s : State) : s.noteLevels.pending = s.pending := (Noted.noteLevels s).pending
@[simp] theorem State.noteLevels_sel (s : State) : s.noteLevels.sel = s.sel := (Noted.noteLevels s).sel
@[simp] theorem State.noteLevels_bus (s : State) : s.noteLevels.bus = s.bus := (Noted.noteLevels s).bus
@[simp] theorem State.noteLevels_rdata (s : State) : s.noteLevels.rdata = s.rdata := (Noted.noteLevels s).rdata
@[simp] theorem State.noteLevels_tm (s : State) : s.noteLevels.tm = s.tm := (Noted.noteLevels s).tm
@[simp] theorem State.noteLevels_clk (s : State) : s.noteLevels.clk = s.clk := (Noted.noteLevels s).clk
@[simp] theorem State.noteLevels_plan (s : State) : s.noteLevels.plan = s.plan := (Noted.noteLevels s).plan
@[simp] theorem State.noteLevels_mem (s : State) : s.noteLevels.mem = s.mem := (Noted.noteLevels s).mem
@[simp] theorem State.noteLevels_outs (s : State) : s.noteLevels.outs = s.outs := (Noted.noteLevels s).outs
@[simp] theorem State.noteLevels_saves (s : State) : s.noteLevels.saves = s.saves := (Noted.noteLevels s).saves
@[simp] theorem State.noteLevels_dram (s : State) : s.noteLevels.dram = s.dram := (Noted.noteLevels s).dram
@[simp] theorem State.noteLevels_cap (s : State) : s.noteLevels.cap = s.cap := (Noted.noteLevels s).cap
@[simp] theorem State.noteLevels_bat (s : State) : s.noteLevels.bat = s.bat := (Noted.noteLevels s).bat
@[simp] theorem State.noteLevels_fab (s : State) : s.noteLevels.fab = s.fab := (Noted.noteLevels s).fab
@[simp] theorem State.noteLevels_mg (s : State) : s.noteLevels.mg = s.mg := (Noted.noteLevels s).mg
@[simp] theorem State.noteLevels_shadow (s : State) : s.noteLevels.shadow = s.shadow := (Noted.noteLevels s).shadow

@[simp] theorem State.noteLevels_rd {s : State} {a : Nat} (h : noteReg a = false) : s.noteLevels.rd a = s.rd a :=
  (Noted.noteLevels s).rd a h

@[simp] theorem State.noteLevels_fld {s : State} {f : Fld} (h : noteReg f.a = false) : s.noteLevels.fld f = s.fld f := by
  unfold State.fld; rw [State.noteLevels_rd h]

end Sys2Proof.Machine
end

