-- ==== Sys2Proof/Tests/Slice0.lean ====
section
/-! SUPPORT. The model's own tests: ill-formed commands, the spec's worked examples, and a witness for the hypotheses of every
statement. -/

namespace Sys2Proof.Tests

open Sys2Proof Sys2Proof.Machine

set_option Elab.async false

/-- Set a list of fields. -/
def puts (s : State) (l : List (Fld × Nat)) : State := l.foldl (fun t x => t.put x.1 x.2) s

/-- A device that has started: every unit present and every domain awake, the clocks locked, the timebase counting. -/
def up : State :=
  puts { State.reset with sup := { por := false, stay := 2 ^ 40 - 1 }, clk := { lockN := 80 } }
    [(F.SUP_STAT_STAGE, 9), (⟨0x120058, 0, 32⟩, 2 ^ 32 - 1), (⟨0x12005C, 0, 32⟩, 63), (F.FABRIC_UNITS_CLUSTERS, 255),
      (F.FABRIC_UNITS_BANKS, 15), (F.FABRIC_UNITS_OTHER, 15), (F.FABRIC_STAT_LOADED, 1), (F.CLK_STAT_LOCK, 1),
      (F.CLK_STAT_REF_VALID, 1), (F.TB_STAT_COUNTING, 1), (F.DRAM_CFG_CH_EN, 255), (F.DRAM_STAT_TRAINED, 255),
      (F.DRAM_CFG_CH_SIZE, 1), (F.DRAM_CFG_MAPPED, 255), (F.DRAM_CFG_RES_GIB, 1)]

/-- The same with the key armed. -/
def upKey : State := up.wr 0x10 0xC41A#32

/-- The cells of bytes from key `k` on: those that are not 0. -/
def cellsAt (k : Nat) : List Byte → Sp Byte
  | [] => []
  | x :: xs => if x = 0 then cellsAt (k + 1) xs else (k, x) :: cellsAt (k + 1) xs


/-- A directory record of an image (R134, R296). -/
def dirRec (type ofs : Nat) (b : List Byte) : List Byte :=
  leBytes 2 type ++ leBytes 2 0 ++ leBytes 4 ofs ++ leBytes 4 b.length ++ leBytes 4 (crc32c b).toNat

/-- The sections of a small fabric image: UNITS, OWNERS, DRAM (R297). -/
def fabSec1 : List Byte := [255, 15, 15] ++ List.replicate 13 0

@[inherit_doc fabSec1] def fabSec2 : List Byte := List.replicate 192 0xFF

@[inherit_doc fabSec1] def fabSec5 : List Byte := [255, 1, 0, 1, 0, 0, 0, 0]

/-- Header and directory of the image, HDR_CRC given. -/
def fabHead (crc : Nat) : List Byte :=
  leBytes 4 0x58464854 ++ leBytes 2 1 ++ leBytes 2 3 ++ leBytes 4 crc ++ leBytes 4 392 ++ leBytes 8 7 ++ leBytes 4 0x9648 ++
    List.replicate 36 0 ++ dirRec 1 128 fabSec1 ++ dirRec 2 192 fabSec2 ++ dirRec 5 384 fabSec5

/-- The image. -/
def fabImg : List Byte := fabHead (crc32c (fabHead 0)).toNat ++ List.replicate 16 0 ++ fabSec1 ++ List.replicate 48 0 ++ fabSec2 ++ fabSec5

/-- A state whose reserve holds the image at 0 (R300). -/
def fabUp : State :=
  let s := upKey.put F.FABRIC_LEN_LEN 392
  { s with mem := { s.mem with dram := cellsAt 0 fabImg } }
/-- The course memory of SQ2: entries from 0 on, eight words each (R67). -/
def crs (l : List (List Word)) : Sp Word :=
  (l.zipIdx.flatMap (fun x => x.1.zipIdx.map (fun y => (8 * (2 * 65536 + x.2) + y.2, y.1)))).filter (fun c => c.2 ≠ 0)

/-- Five entries of 128 ticks: 0 plays twice and goes to 1; 1 jumps at a lap's end to 3 on EV5 and stops at rest; 2 holds for READY
of segment 1; 3 is endless and immediate; 4 falls back to 1. -/
def raceCrs : Sp Word :=
  crs [[0x00010000, 0x00010001, 2, 8, 0, 0, 0x80000000], [0x00000000, 0x00000003, 1, 0x02000008, 0x45, 0, 0x80000000],
    [0x00020001, 0x00010001, 1, 0x80000008, 0, 0, 0x80000000], [0x00000000, 0, 0, 0x04000008, 5, 0, 0x80000000],
    [0x00040001, 0x00010001, 1, 0x40000008, 0, 0, 0x80000000]]

/-- A plan of SQ2 alone is loaded. -/
def loaded : State :=
  let s := puts up [(F.SEQ_STAT_HEAT, 1), (F.SEQ_STAT_HEAT_MASK, 4), (F.SQ_STAT_STATE 2, 1), (F.PLAN_INFO_PLAN_N, 80),
    (F.PLAN_INFO_SW_START, 1), (F.PLAN_STAT_PRESENT, 1)]
  { s with mem := { s.mem with course := raceCrs, dir := [(5, 0x00000822#32)] },
           plan := { s.plan with starts := (List.range 128).map (fun i => (i, if i = 32 then 0 else 0xFFFF)), crsLen := [(2, 5)] } }

/-- SQ2 runs at heat tick `h` in a visit to entry `e` that began at heat tick 48. -/
def race (e h : Nat) (next : List Dec) (hold : Option Hold) : State :=
  let s := puts loaded [(F.SEQ_STAT_HEAT, 3), (F.SEQ_STAT_RUN_MASK, 4), (F.SQ_STAT_STATE 2, 3), (F.SQ_STAT_ENTRY 2, e), (F.SQ_POS_LAP 2, 1)]
  { s.setSq 2 { visit := some { entry := e, f := 48, cur := 48 }, lapAt := 48, next := next, hold := hold } with
      tm := { s.tm with tb := 100000 + h, heat := h, fed := 100000 + h } }
/-- The sections of a plan image with empty courses (R135), all but the directory of the image. -/
def planBody : List Byte :=
  List.replicate 64 0xFF ++ List.replicate 384 0 ++ List.replicate 256 0xFF ++ List.replicate 4160 0

@[inherit_doc planBody] def planSects : List Byte :=
  dirRec 1 256 (List.replicate 64 0xFF) ++ dirRec 2 320 [] ++ dirRec 3 320 (List.replicate 256 0) ++
    dirRec 4 576 (List.replicate 128 0) ++ dirRec 5 704 (List.replicate 256 0xFF) ++ dirRec 6 960 (List.replicate 4096 0) ++
    dirRec 7 5056 [] ++ dirRec 8 5056 (List.replicate 64 0)

/-- Header and directory of the plan image, HDR_CRC given. -/
def planHead (crc : Nat) : List Byte :=
  leBytes 4 0x4E4C5053 ++ leBytes 2 1 ++ leBytes 2 8 ++ leBytes 4 crc ++ leBytes 4 5120 ++ leBytes 8 99 ++ leBytes 4 0x9648 ++
    List.replicate 12 0 ++ leBytes 8 7 ++ [80, 0, 0, 1] ++ leBytes 2 12800 ++ leBytes 2 128 ++ leBytes 2 16 ++ leBytes 2 1 ++
    List.replicate 68 0 ++ planSects

/-- The plan image up to its last byte that is not 0. -/
def planFront : List Byte :=
  planHead (crc32c (planHead 0)).toNat ++ (List.replicate 64 0xFF ++ List.replicate 384 0 ++ List.replicate 256 0xFF)

/-- A state whose reserve holds the plan image at 0. -/
def planUp : State :=
  let s := { (up.put F.PLAN_LEN_LEN 5120).setSel 0x5400 7 with dram := { up.dram with rate := some 4 } }
  { s with mem := { s.mem with dram := cellsAt 0 planFront } }

/-- Segment 3 of SQ2 in track memory: 64 ticks of one DIRECT lane. -/
def segUp : State :=
  let r := (loaded.wr 0x1500C0 10).put F.SEGW_SEG_SEG 3
  { r with plan := { r.plan with lanes := [(0, 1)] }, mem := { r.mem with dir := [(13, 0x00000422#32)] } }

/-- The same segment in DRAM. -/
def segDram : State := { segUp with mem := { segUp.mem with dir := [(12, 0x01000000#32), (13, 0x00000423#32)] } }
/-- SQ2 plays a VEC track from track memory on pin 0; in output tick 60, vector 0, the pin expects LOW. -/
def vecRace : State :=
  let r := (race 0 100 [] none).wr 0x150040 10
  { r with mem := { r.mem with dir := [(1, 0x00000820#32)], track := [(1152, 4#8)] } }

/-- SQ2 plays a DRAM segment of one DIRECT lane. -/
def dramRace : State :=
  let r := (race 0 100 [] none).wr 0x1500C0 10
  { r with plan := { r.plan with lanes := [(0, 1)] }, mem := { r.mem with dir := [(0, 0x01000000#32), (1, 0x00000821#32)] } }
/-- NET0 is ready in its first mode, its link is up, and the Baton engine runs. -/
def netUp : State :=
  puts up [(F.NET_CTRL_EN 0, 1), (F.NET_STAT_READY 0, 1), (F.NET_STAT_LINK_UP 0, 1), (F.BAT_CTRL_EN, 1),
    (F.NETL_CFG_V4_EN 0 0, 1), (F.NETL_CFG_V6_EN 0 0, 1)]

/-- An ARP request for 0.0.0.0, the address of the link before any is written. -/
def arpBytes : List Byte :=
  beBytes 6 (2 ^ 48 - 1) ++ beBytes 6 0x112233445566 ++ beBytes 2 0x0806 ++ beBytes 8 0x0001080006040001 ++
    beBytes 6 0x112233445566 ++ beBytes 4 0x0A000001 ++ beBytes 10 0

/-- A neighbour solicitation for ::, the address of the link before any is written. -/
def ndBytes : List Byte :=
  beBytes 6 0x3333FF000000 ++ beBytes 6 0x112233445566 ++ beBytes 2 0x86DD ++ beBytes 4 0x60000000 ++ beBytes 2 24 ++ [58, 255] ++
    beBytes 16 5 ++ beBytes 16 0 ++ [135, 0] ++ beBytes 6 0 ++ beBytes 16 0

/-- Two frames wait in NET0. -/
def txWait : State := netUp.setPort 0 { tx := [⟨0, 3, [1]⟩, ⟨0, 4, [2]⟩], paused := [3] }

/-- A UDP datagram of 10.0.0.1 on the wire, to the port of BAT_UDP at the link's address 0.0.0.0. -/
def wire (b : List Byte) : RxFrame :=
  ⟨etherHead 0 0x1122 none 0x0800 ++ ipPacket 0 0xFFFF0A000001 0xFFFF00000000 (udpPart 0xFFFF0A000001 0xFFFF00000000 4791 (up.fld F.BAT_UDP_PORT) b)⟩

/-- A Baton frame from 10.0.0.1. -/
def bfr (type skey ofs : Nat) (body : List Byte) : RxFrame := wire (batFrame ⟨type, skey, 1, body.length, ofs, 3, 0, 0⟩ body)

/-- What the engine reads of it. -/
def bin (type skey ofs : Nat) (body : List Byte) : BatIn :=
  ⟨type, skey, 1, body.length, ofs, 3, body, 0x1122, 0xFFFF0A000001, 4791⟩

/-- Body of an OPEN: its key, its end. -/
def openBody (key e : Nat) : List Byte := beBytes 4 key ++ beBytes 4 0 ++ beBytes 8 e

/-- A session of the range 0 to 128 of grant 3, of which `rx` bytes have arrived. -/
def ses (rx : Nat) : Sess := ⟨9, 1, 3, 0, 128, 0xFFFF0A000001, 4791, 0x1122, 0, 0, rx, 0, false, none, none⟩

/-- Grant 3 is a region of 256 bytes at the bottom of the heat region, session 9 admitted to half of it. -/
def batUp : State :=
  { netUp with bat := { netUp.bat with grants := [(3, ⟨2, 0, 7, 2, 2 ^ 30, 256, 0, [⟨0, 128, 0⟩]⟩)], sess := [ses 64] } }

/-- One frame of 64 bytes waits in NET0's ingest buffer. -/
def ingest : State := batUp.setPort 0 { buf := [⟨9, 0, List.replicate 64 5⟩] }

/-- A BATQ record from its bytes. -/
def brec (b : List Nat) : Rec := (List.range 16).map (fun i => BitVec.ofNat 32 ((List.range 4).foldl (fun m j => m + 2 ^ (8 * j) * b.getD (4 * i + j) 0) 0))

/-- A record stands at BATQ's head. -/
def batqOf (b : List Nat) (s : State) : State := s.setQ 10 { recs := [brec b] }

/-- A stream has a destination on NET0's link. -/
def outUp (i : Nat) : State := (netUp.put F.CAPT_CTRL_OUTBOUND 1).setDest i (some ⟨0, 0, 0, false, 0, 4791, 7, 1, 2, 0xFFFF0A000001, 4791⟩)

/-- What start-up finds where one DRAM channel responds and trains. -/
def env (recovery ref : Bool) : StartEnv :=
  { recovery := recovery, storeBad := 0, ref := ref, lock := ⟨5, 7, 40, 3⟩, density := [some 0], trained := [true], late := 0,
    rails := [], codes := [], temps := [], miss := false }

/-- SHA-384 of no bytes. -/
def noDigest : List Byte :=
  beBytes 48 0x38B060A751AC96384CD9327EB1B1E36A21FDB71114BE07434C0CC7BF63F6E1DA274EDEBFE76F65FBD51AD2F14898B95B

/-- A device that waits in stage 5 for its reference, with one DRAM channel, no cluster or bank, and an empty image in slot A. -/
def waits5 : State :=
  let s := puts { State.reset with sup := { por := false } }
    [(F.SUP_STAT_STAGE, 5), (F.DRAM_CFG_CH_EN, 1), (F.DRAM_CFG_RES_GIB, 1), (F.FABRIC_STAT_LOADED, 1), (F.CLK_PLL_PLAN_N, 80)]
  let f := Sp.setMany flashDef [] 0 (BootRec.bytes ⟨1, 0, false, 0, false, (0, 0), (0, 0), (noDigest, [])⟩)
  { s with mem := { pv := [(705, 1#32)], flash := Sp.setMany flashDef f 0x100000 (List.replicate 64 0) } }

/-- A device in ASLEEP. -/
def slept : State :=
  puts up [(F.DBG_STAT_ASLEEP, 1), (F.SUP_STAT_PSTATE, 1), (F.SUP_WAKE_PIN_EN, 1), (F.SUP_WAKE_TIMER_EN, 1), (F.SUP_WAKE_JTAG_EN, 1)]

/-- A frozen device. -/
def frozen : State := (up.put F.DBG_STAT_FROZEN 1).put F.DBG_STAT_FRZ_PIN 1

/-- The mirror link is up, under a role and a state of the pair. -/
def mirUp (role pair : Nat) : State :=
  puts up [(F.MIR_CTRL_ROLE, role), (F.MIR_STAT_PAIR, pair), (F.MIR_STAT_LINK_UP, 1), (F.MIR_CTRL_GAP, 2)]

/-- A follower in lockstep in a heat, with one decision of its own. -/
def follows (m : MyDec) : State :=
  let r := puts (race 0 100 [] none) [(F.MIR_CTRL_ROLE, 2), (F.MIR_STAT_PAIR, 3), (F.MIR_STAT_LINK_UP, 1)]
  { r with mir := { mine := [m] } }

/-- An update frame from 10.0.0.1. -/
def ufr (type sid chunk frag stage : Nat) (body : List Byte) : UpdFrame :=
  let h := beBytes 2 0xBA72 ++ beBytes 1 1 ++ beBytes 1 type ++ beBytes 4 sid ++ beBytes 4 chunk ++ beBytes 1 frag ++ beBytes 1 stage ++
    [0, 0] ++ beBytes 2 body.length ++ [0, 0]
  ⟨h ++ beBytes 4 (crc32c (h ++ body)).toNat ++ body, 0x1122, 0xFFFF0A000001, 4791, none, 0⟩

/-- The source of those frames, on the management port. -/
def ufrom : UpdFrom := ⟨0, 0x1122, 0xFFFF0A000001, 4791⟩

/-- A device in STANDBY whose updater is in stage `g`, its lock held by session 7 of 10.0.0.1; the progress sector names a package
of `len` bytes. -/
def updUp (g len : Nat) : State :=
  let s := puts up [(F.SUP_STAT_STAGE, 0xA), (F.UPD_STAT_STAGE, g), (F.UPD_LOCK_HELD, 1), (F.UPD_LOCK_SID_SID, 7), (F.UPD_PROG_TOTAL, 2)]
  { s with mg := { ip := 0xFFFF0A000001, port := 4791, mac := 0x1122 },
           mem := { s.mem with flash := Sp.setMany flashDef [] (progBase + 48) (leBytes 4 len) } }

/-- The same with a boot record. -/
def bootUp (g : Nat) (tent : Bool) : State :=
  let s := updUp g 0
  { s with mem := { s.mem with flash := Sp.setMany flashDef s.mem.flash 0 (BootRec.bytes ⟨5, 0, tent, 1, true, (0, 0), (0, 0), ([], [])⟩) } }

/-- The boot ROM in recovery mode with a transfer of which `got` has arrived. -/
def romUp (t : Option Tftp) : State := { up.put F.SUP_STAT_STAGE 0xF with mg := { tftp := t } }

/-- A transfer from 10.0.0.1. -/
def tft (got : List Byte) : Tftp := ⟨0x1122, 0x0A000001, 5000, 77, got, none⟩

/-- A TFTP message from 10.0.0.1. -/
def tfr (b : List Byte) : TftpFrame := ⟨b, 0x1122, 0x0A000001, 5000⟩

/-- Rings of one descriptor at the bottom of the heat region, its buffer 4 KiB above. -/
def ringUp (len own : Nat) : State :=
  let s := puts up [(F.MGMT_PORT_RX_EN, 1), (F.MGMT_PORT_TX_EN, 1), (F.MGMT_PORT_LINK, 1)]
  ((s.setSel 0x3C02 (2 ^ 30 + 2 ^ 48)).setSel 0x3C03 (2 ^ 30 + 2 ^ 48)).dramPut (2 ^ 30)
    (leBytes 8 (2 ^ 30 + 4096) ++ leBytes 2 len ++ leBytes 2 own)


/-! ### Well-formedness: each check refuses an ill-formed command -/

theorem test_wf_refuses :
    [Instr.registerWrite 0x10 0 3 true, .registerWrite 0x12 0 4 true, .refBack 0 0 (2 ^ 32), .starterEdge 0 10000 false, .evqRead ⟨true, 4, 1⟩ false,
      .underrun 0 0 0, .dramTempPoll [] [], .trainDone [true], .sensorConversion [], .trip 0 959, .supplyCheckDone [],
      .dbgAccess ⟨2 ^ 57, false, false⟩, .bypass 0x20, .msg [], .mgmtRxFrame ⟨[]⟩ false, .alignDone [],
      .startUp ⟨false, 0, true, ⟨0, 0, 0, 0⟩, [], [], 0, [], [], [], false⟩].all (fun i => !i.wf) = true := by decide +kernel

theorem test_wf_accepts :
    [Instr.registerWrite 0x12 0 2 true, .refBack 0 0 5, .underrun 0 0 1, .trip 3 960, .bypass 0xFF, .lockIdle].all Instr.wf = true := by
  decide +kernel

/-! ### The queue -/

theorem test_step_front :
    (match step { State.reset with pending := [.porNLow, .lockIdle] } with | .next t => t.pending | _ => []) = [.lockIdle] := by
  decide +kernel

/-! ### Worked examples of the spec -/

/-- R34: A for the four frequencies of its table. -/
theorem test_R34 : [64, 72, 75, 80].map alignPeriod = [2, 9, 75, 5] := by decide

/-- R47: c + 16 is 7,019, and the start tick is the aligned boundary 7,022. -/
theorem test_R47 :
    ((puts { up with tm := { up.tm with tb := 7003 } } [(F.TB_STAT_TB_ALIGN, 2), (F.TB_CTRL_ARM, 1)]).starterAim 130 0).1 = 7022 := by
  decide +kernel

/-- R58: the first eight bytes of an S20 track hold +1, −2 and +262,144. -/
theorem test_R58_s20 :
    [0, 1, 2].map (directSample (fun i => [0x01, 0x00, 0xE0, 0xFF, 0xFF, 0x00, 0x00, 0x04].getD i 0) 2) = [1, -2, 262144] := by decide +kernel

/-- R58: a row of VB1 in which VP40 carries C1, VP41 D0, VP42 D1 and every other pin X. -/
theorem test_R58_vec :
    [7, 8, 9, 10, 31].map (vecCode (fun i => [0xFF, 0xFF, 0xFF, 0x45, 0xFE, 0xFF, 0xFF, 0xFF, 0xFF, 0xFF, 0xFF, 0xFF].getD i 0) 0 0) =
      [7, 5, 0, 1, 7] := by decide +kernel

/-- R61: B and the track starts of SQ2's lanes. -/
theorem test_R61 :
    (let l := [16, 17, 18, 19].map (fun c => Lane.fine c 2) ++ [20, 21].map (fun c => Lane.fine c 3) ++
       [22, 23].map (fun c => Lane.fine c 0) ++ [Lane.vec 1]
     (lanesBytes l, [0, 1, 4, 5, 6, 8].map (trackStart l 2048))) =
      (124, [0, 10240, 40960, 49152, 57344, 57344]) := by decide +kernel

/-- R67: entry 12 of SQ2's course. -/
theorem test_R67 :
    (let w : List Word := [0x000D0105, 0x00290028, 0x02000400, 0x1A000080, 0x00004509, 0x00000009, 0x80050004, 0]
     let x := ((List.range 8).foldl (fun t i => State.setCrs t 2 12 i (w.getD i 0)) up).entry 2 12
     ([x.seg, x.succ, x.target, x.fallback, x.laps, x.maxExt, x.len16, x.jevt, x.prof, x.pen, x.strobe],
       [x.jsense, x.profEn, x.phase, x.penLap, x.captEn, x.consume, x.valid])) =
      ([261, 13, 40, 41, 1024, 2, 128, 9, 5, 9, 4], [true, true, false, true, true, false, true]) := by decide +kernel

/-- R192: the drive states and the compared codes of the table. -/
theorem test_R192 : ((List.range 8).map (fun c => driveAfter c 9), (List.range 8).map compared) =
    ([0, 1, 2, 9, 2, 2, 2, 9], [false, false, false, false, true, true, true, false]) := by decide

/-- R228: the worked example, SKEWED and LINEAR, and after DC3 is fenced. -/
theorem test_R228 :
    [heatLoc (List.range 8) 5 536870912 1235520, heatLoc (List.range 8) 1 536870912 1235520,
      heatLoc (List.range 8) 5 536870912 1243712, heatLoc [0, 1, 2, 4, 5, 6, 7] 5 536870912 1235520].map (Option.map Prod.fst) =
      [some 4, some 6, some 5, some 7] ∧
    heatLoc (List.range 8) 5 536870912 1235520 = some (4, 537025088) ∧
    heatLoc [0, 1, 2, 4, 5, 6, 7] 5 536870912 1235520 = some (7, 537047616) := by decide +kernel

/-- R227: S is 512 MiB with RES of 4 GiB over eight channels. -/
theorem test_R227 : resShare 8 4 false = 536870912 := by decide +kernel

/-- R280: the key arms, is consumed by the freeze's register, and a write without it is a KEY_MISS. -/
theorem test_R280 :
    (match exec (.glbKeyWrite 0xC41A true) up with | .next t => t.armed | _ => false) = true ∧
    (match exec (.freeze 0 true) up with | .next t => t.fld F.GLB_ERR_KEY_MISS | _ => 0) = 1 := by decide +kernel

/-- R331, R391: after power-on reset no access of the cores is taken. -/
theorem test_reset_idle :
    (match exec (.glbKeyWrite 0xC41A true) State.reset with | .next t => decide (t = State.reset) | _ => false) = true := by
  decide +kernel

/-- R388, R389: every ball of each zone is a signal, NC, a supply or VSS; the balls of a DRAM channel and the control balls. -/
theorem test_R388 :
    [Zone.north, .west, .east, .south, .centre].all (fun z =>
      decide (((List.range 62).flatMap (fun r => (List.range 62).map (fun c => zoneOf r (c + 1)))).count z =
        (zoneBalls z).1 + (zoneBalls z).2.1 + (zoneBalls z).2.2.1 + (zoneBalls z).2.2.2)) = true ∧
    dramBalls = 50 ∧ controlBalls = 30 := by decide +kernel

/-- R193: the comparator pair at the thresholds 1,000 and 1,500 mV, and one with only the upper comparator. -/
theorem test_R193 : [compOf 1000 1500 1600000, compOf 1000 1500 900000, compOf 1000 1500 1200000, compOf 1500 1000 1200000] =
    [.high, .low, .mid, .mid] := by decide

/-! ### Witnesses -/

/-! ### A plan image that passes every check -/

/-- The state of the LOAD row once the row is on the bus. -/
def planBusy : State := ((planUp.atBus 0x40000 1#32 false).put F.PLAN_STAT_BUSY 1).put F.PLAN_STAT_PHASE 1

/-- The plan image. -/
def planImg : List Byte := planHead (crc32c (planHead 0)).toNat ++ planBody

theorem dramBytes_add (s : State) (n : Nat) : ∀ (a m : Nat), s.dramBytes a (m + n) = s.dramBytes a m ++ s.dramBytes (a + m) n
  | _, 0 => by simp [State.dramBytes]
  | a, m + 1 => by
    have h : m + 1 + n = (m + n) + 1 := by omega
    rw [h, State.dramBytes, dramBytes_add s n (a + 1) m, State.dramBytes, List.cons_append]
    congr 3; omega

theorem dramBytes_length (s : State) : ∀ (n a : Nat), (s.dramBytes a n).length = n
  | 0, _ => rfl
  | n + 1, a => by simp [State.dramBytes, dramBytes_length s n]

theorem dramBytes_take {s : State} {a n : Nat} {b : List Byte} (h : s.dramBytes a n = b) (k : Nat) (hk : k ≤ n) :
    s.dramBytes a k = b.take k := by
  obtain ⟨m, rfl⟩ := Nat.exists_eq_add_of_le hk
  rw [← h, dramBytes_add, List.take_left' (dramBytes_length s k a)]

theorem dramBytes_eq {s : State} : ∀ {b : List Byte} {a : Nat}, (∀ i < b.length, s.dramRead (a + i) = some (b.getD i 0)) →
    s.dramBytes a b.length = b
  | [], _, _ => rfl
  | x :: xs, a, h => by
    have h0 : s.dramRead a = some x := h 0 (by simp)
    rw [List.length_cons, State.dramBytes, h0, dramBytes_eq (fun i hi => by
      have := h (i + 1) (by simpa using hi)
      simpa [Nat.add_assoc, Nat.add_comm 1 i] using this)]
    rfl

theorem cellsAt_get : ∀ (b : List Byte) (k i : Nat), Sp.get (fun _ => 0) (cellsAt k b) (k + i) = b.getD i 0
  | [], _, _ => rfl
  | x :: xs, k, 0 => by
    have low : ∀ (b : List Byte) (k j : Nat), j < k → Sp.get (fun _ => (0 : Byte)) (cellsAt k b) j = 0 := by
      intro b
      induction b with
      | nil => intros; rfl
      | cons y ys ih =>
        intro k j h
        by_cases hy : y = 0
        · simpa [cellsAt, hy] using ih (k + 1) j (by omega)
        · rw [cellsAt, if_neg hy]
          simpa [Sp.get, show ¬ k = j by omega] using ih (k + 1) j (by omega)
    by_cases hx : x = 0
    · simpa [cellsAt, hx] using low xs (k + 1) k (by omega)
    · rw [cellsAt, if_neg hx]
      simp [Sp.get]
  | x :: xs, k, i + 1 => by
    have ih := cellsAt_get xs (k + 1) i
    rw [show k + 1 + i = k + (i + 1) by omega] at ih
    by_cases hx : x = 0
    · simpa [cellsAt, hx] using ih
    · rw [cellsAt, if_neg hx]
      simpa [Sp.get] using ih

/-- A byte of the reserve over eight channels, none of them fenced or ever lost, by its cell. -/
theorem dramRead_cell {s : State} {m : Sp Byte} (he : s.enabled = [0, 1, 2, 3, 4, 5, 6, 7]) (hr : s.resBytes = 2 ^ 30)
    (hm : s.flag F.DRAM_CFG_RES_MIRROR = false) (hf : ∀ c < 8, s.fenced c = false) (hc : s.dram.ch = []) (hq : s.mem.dram = m)
    (a : Nat) (h : a < 5120) : s.dramRead a = some (Sp.get (fun _ => 0) m (dramKey (a / 4096, a % 4096))) := by
  have hd : ∀ k, s.dramDef k = 0 := by
    intro k; simp [State.dramDef, State.dch, hc, Sp.get, lostByte]
  have hl : s.dramLocs a = [(a / 4096, a % 4096)] := by
    have : a / 4096 = 0 ∨ a / 4096 = 1 := by omega
    rcases this with h | h <;> simp [State.dramLocs, he, hr, hm, h, show a < 1073741824 by omega]
  simp only [State.dramRead, hl, List.find?_cons, hf _ (show a / 4096 < 8 by omega), hq, Sp.get, hd, Bool.not_false]

theorem planFront_length : planFront.length = 960 := by decide +kernel

theorem planImg_split : planImg = planFront ++ List.replicate 4160 0 := by
  simp only [planImg, planBody, planFront, List.append_assoc]

theorem getD_zeros (n i : Nat) : (List.replicate n (0 : Byte)).getD i 0 = 0 := by
  rw [List.getD_eq_getElem?_getD, List.getElem?_replicate]
  split <;> rfl

theorem planBusy_read (a : Nat) (h : a < 5120) : planBusy.dramRead a = some (planImg.getD a 0) := by
  have h1 := dramRead_cell (s := planBusy) (m := cellsAt 0 planFront) (by decide +kernel) (by decide +kernel) (by decide +kernel)
    (by decide +kernel) (by decide +kernel) rfl a h
  have h2 := cellsAt_get planFront 0 (dramKey (a / 4096, a % 4096))
  rw [Nat.zero_add] at h2
  rw [h1, h2, planImg_split]
  by_cases hk : a < 960
  · rw [show dramKey (a / 4096, a % 4096) = a by simp only [dramKey]; omega,
      List.getD_append _ _ _ _ (by rw [planFront_length]; exact hk)]
  · rw [List.getD_eq_default _ _ (by rw [planFront_length]; simp only [dramKey]; omega),
      List.getD_append_right _ _ _ _ (by rw [planFront_length]; omega), getD_zeros]

theorem planBusy_bytes : planBusy.dramBytes 0 5120 = planImg := by
  have hn : planImg.length = 5120 := by rw [planImg_split, List.length_append, planFront_length, List.length_replicate]
  have h := dramBytes_eq (s := planBusy) (b := planImg) (a := 0) (fun i hi => by
    rw [Nat.zero_add]; exact planBusy_read i (hn ▸ hi))
  rwa [hn] at h

theorem bodyCheck_none {s : State} {b : List Byte} (hb : s.dramBytes (s.getSel 0x1000) (leField s.imageHead 12 4) = b)
    (hc : stepCrc b = none) (hi : s.stepBinding b = none) (hf : s.stepFenced b = none) (hs : stepSections b = none)
    (ht : (s.place b).stepContent b = none) (hr : (s.place b).stepCourses b = none) (hg : (s.place b).stepBudget b = none) :
    s.bodyCheck = none := by
  simp only [State.bodyCheck, hb, hc, hi, hf, hs, ht, hr, hg, Option.or_none]

theorem foldl_plan {α : Type} {f : State → α → State} (hf : ∀ t x, (f t x).plan = t.plan) :
    ∀ (l : List α) (s : State), (l.foldl f s).plan = s.plan
  | [], _ => rfl
  | x :: l, s => (foldl_plan hf l (f s x)).trans (hf s x)

theorem placeProfs_plan (s : State) (b : List Byte) : (s.placeProfs b).plan = s.plan := by
  unfold State.placeProfs
  split <;> rfl

theorem place_tl (s : State) (b : List Byte) : (s.place b).plan.tl = Sp.setMany (fun _ => (0 : Byte)) [] 0 (sectD b 6) := by
  unfold State.place
  rw [placeProfs_plan, foldl_plan, State.placePens, foldl_plan, State.placeEvents, foldl_plan] <;> intros <;> rfl

theorem setMany_zero : ∀ (n k : Nat), Sp.setMany (fun _ => (0 : Byte)) [] k (List.replicate n 0) = []
  | 0, _ => rfl
  | n + 1, k => by simpa [List.replicate_succ, Sp.setMany, Sp.set] using setMany_zero n (k + 1)

/-- The image's timeline section is zeros. -/
theorem planImg_timeline : sectD planImg 6 = List.replicate 4096 0 := by
  have hf : (sectsOf planImg).find? (fun x => decide (x.type = 6)) =
      some ⟨6, 960, 4096, (crc32c (List.replicate 4096 0)).toNat, true⟩ := by decide +kernel
  simp only [sectD, sectOf, hf, Option.map_some, Option.getD_some, Sect.data]
  rw [planImg_split, List.drop_left' planFront_length, List.take_replicate]
  rfl

theorem planBusy_tl : (planBusy.place planImg).plan.tl = [] := by
  rw [place_tl, planImg_timeline]
  exact setMany_zero 4096 0

theorem rowBad_nil {d : State} (h : d.plan.tl = []) (q : Nat) : d.rowBad q = false := by
  simp [State.rowBad, State.tlByte, h, Sp.get]

theorem firstBad_nil {l : Nat → List Nat} (h : ∀ n ∈ List.range 8, l n = []) (p : Nat → Nat → Bool) : firstBad l p = none := by
  simp only [firstBad, List.findSome?_eq_none_iff]
  intro n hn
  rw [h n hn]; rfl

theorem stepCourses_none {d : State} {b : List Byte} (hl : d.plan.tl = [])
    (hc : (List.range 8).find? (fun n => decide (65536 < d.crsCount n)) = none) (hv : ∀ n ∈ List.range 8, d.validEntries n = [])
    (hs : d.plan.stg = []) (hd : State.dirSegs b = []) (hk : bankClash [] (d.bankUse b) = none) (hw : d.wakeBad b = none)
    (ht : recs16 (sectD b 0x0A) = []) (hp : ((sectD b 8).drop 32).any (fun x => decide (x ≠ 0)) = false) :
    d.stepCourses b = none := by
  have hn : (List.range d.plan.rows).find? (fun q => d.rowBad q) = none := by simp [rowBad_nil hl]
  simp only [State.stepCourses, hn, hp, hc, firstBad_nil hv, hs, hd, hk, hw, ht, List.length_nil, List.range_zero, List.find?_nil]
  rfl

theorem planBusy_stopPad : ((sectD planImg 8).drop 32).any (fun x => decide (x ≠ 0)) = false := by decide +kernel

theorem planBusy_courses : (planBusy.place planImg).stepCourses planImg = none :=
  stepCourses_none planBusy_tl (by decide +kernel) (by decide +kernel) (by decide +kernel) (by decide +kernel) (by decide +kernel)
    (by decide +kernel) (by decide +kernel) planBusy_stopPad

theorem planBusy_len : leField planBusy.imageHead 12 4 = 5120 := by decide +kernel

theorem planBusy_check : planBusy.bodyCheck = none := by
  have ha : planBusy.getSel 0x1000 = 0 := by decide +kernel
  refine bodyCheck_none (b := planImg) (by rw [planBusy_len, ha]; exact planBusy_bytes) ?_ ?_ ?_ ?_ ?_ ?_ ?_
  · decide +kernel
  · decide +kernel
  · decide +kernel
  · decide +kernel
  · decide +kernel
  · exact planBusy_courses
  · decide +kernel

/-- The hypotheses of RegisterWritesAct are met, clause by clause. -/
theorem wit_RegisterWritesAct :
    (∃ (s : State) (w : Word) (p : Bool) (n : Fin 16),
      s.takes (0x30200 + 4 * n.val) w p = true) ∧
    (∃ (s : State) (w : Word) (p : Bool),
      s.takes 0x54 w p = true) ∧
    (∃ (s : State) (w : Word) (p : Bool),
      s.takes 0x10 w p = true) ∧
    (∃ (s : State),
      s.live = true ∧
      s.armed = true) ∧
    (∃ (s : State) (p : Bool),
      s.takes 0x20 0x00000400#32 p = true ∧
      s.awake 2 = true) ∧
    (∃ (s : State) (p : Bool),
      s.takes 0x20 0x00010401#32 p = true ∧
      s.awake 2 = true) ∧
    (∃ (s : State),
      s.live = true ∧
      s.flag F.MBX_STAT_BUSY = true) ∧
    (∃ (s : State),
      s.live = true ∧
      s.flag F.MBX_STAT_BUSY = false ∧
      s.bus = [rdAcc 0x30040 true] ∧
      s.awake 2 = true ∧
      s.q.evq.recs = []) :=
  ⟨⟨up,
    0x123456F8#32,
    false,
    5,
    by decide +kernel⟩,
   ⟨up.wr 0x54 0x0003057F#32,
    0x00090041#32,
    false,
    by decide +kernel⟩,
   ⟨up,
    0xC41A#32,
    true,
    by decide +kernel⟩,
   ⟨up.wr 0x10 0xC41A#32,
    by decide +kernel⟩,
   ⟨{ up with tm := { up.tm with tb := 0x500000007 } },
    false,
    by decide +kernel⟩,
   ⟨(up.wr 0x28 5).wr 0x2C 1,
    false,
    by decide +kernel⟩,
   ⟨up.put F.MBX_STAT_BUSY 1,
    by decide +kernel⟩,
   ⟨{ up with bus := [rdAcc 0x30040 true] },
    by decide +kernel⟩⟩

/-- The hypotheses of CellsAndFabric are met, clause by clause. -/
theorem wit_CellsAndFabric :
    (∃ (s : State) (w : Word) (p : Bool) (i : Fin 8160),
      s.takes (0x100100 + 4 * i.val) w p = true ∧
      pvReadOnly i.val = false ∧
      s.pvWord i.val ≠ w ∧
      pvEnc i.val w = true ∧
      s.pvWorn i.val = false) ∧
    (∃ (s : State) (w : Word) (p : Bool),
      s.orders F.OTP_CMD_PROG [0] w p = true ∧
      s.flag F.OTP_CMD_BUSY = false ∧
      otpUser (s.fld F.OTP_ADDR_WORD) = true ∧
      s.otpWord (s.fld F.OTP_ADDR_WORD) = 0 ∧
      s.mem.otpLock.contains (s.fld F.OTP_ADDR_WORD) = false) ∧
    (∃ (s : State) (v : Word) (k : Nat),
      s.live = true ∧
      s.mem.otpJob = some (k, v)) ∧
    (∃ (s : State) (w : Word) (p : Bool) (e : Nat) (l : List (Nat × Word)),
      s.orders F.CLK_BAND_BAND_SAVE [14] w p = true ∧
      s.clkBusy = false ∧
      e = min (getBits 0 5 w) 16 ∧
      (l = [(328 + 2 * e, s.bandWord (2 * e)), (329 + 2 * e, s.bandWord (2 * e + 1))].filter (fun x => decide (s.pvWord x.1 ≠ x.2))) ∧
      l ≠ [] ∧
      (l.any (fun x => s.pvWorn x.1) = false)) ∧
    (∃ (s : State) (j : SaveJob) (rest : List SaveJob) (i : Nat) (v : Word) (y : Nat × Word) (more : List (Nat × Word)),
      s.live = true ∧
      s.saves = j :: rest ∧
      j.todo = (i, v) :: y :: more ∧
      s.pvWord i ≠ v ∧
      s.pvWorn i = false) ∧
    (∃ (s : State) (i : Nat) (v : Word),
      s.live = true ∧
      s.saves = [⟨F.CLK_STAT_CMD_BUSY.a, F.CLK_STAT_CMD_BUSY.lo, F.CLK_STAT_CMD_STATUS.a, F.CLK_STAT_CMD_STATUS.lo, [(i, v)]⟩] ∧
      s.pvWorn i = false) ∧
    (∃ (s : State) (j : SaveJob) (rest : List SaveJob) (i : Nat) (v : Word) (y : Nat × Word) (more : List (Nat × Word)),
      s.live = true ∧
      s.saves = j :: rest ∧
      j.todo = (i, v) :: y :: more ∧
      (s.pvWord i = v ∨ s.pvWorn i = true)) ∧
    (∃ (s : State) (w : Word) (p : Bool) (u : State),
      s.orders F.FABRIC_CTRL_LOAD [0] w p = true ∧
      u = s.atBus F.FABRIC_CTRL_LOAD.a (setBits 0 1 1 w) p ∧
      u.flag F.FABRIC_STAT_BUSY = false ∧
      u.anyActive = false ∧
      u.fld F.FABRIC_LEN_LEN ≤ 65536 ∧
      u.getSel 0x5401 % 64 = 0 ∧
      u.getSel 0x5401 + u.fld F.FABRIC_LEN_LEN ≤ u.resBytes ∧
      u.dramReach (u.getSel 0x5401) (u.fld F.FABRIC_LEN_LEN) = u ∧
      u.rangeWaits (u.getSel 0x5401) (u.fld F.FABRIC_LEN_LEN) = false ∧
      u.fabCheck (u.dramBytes (u.getSel 0x5401) (u.fld F.FABRIC_LEN_LEN)) (u.fld F.FABRIC_LEN_LEN) = none ∧
      u.fabDramSame (u.dramBytes (u.getSel 0x5401) (u.fld F.FABRIC_LEN_LEN)) = true) ∧
    (∃ (s : State),
      s.live = true ∧
      s.flag F.FABRIC_STAT_BUSY = true ∧
      s.fld F.FABRIC_STAT_PHASE = 2) :=
  ⟨⟨up,
    7,
    false,
    5,
    by decide +kernel⟩,
   ⟨(((up.wr 0x10 0xC41A#32).put F.OTP_ADDR_WORD 64).wr 0x100018 9),
    1,
    true,
    by decide +kernel⟩,
   ⟨{ up with mem := { up.mem with otpJob := some (64, 9) } },
    9,
    64,
    by decide +kernel⟩,
   ⟨{ up with clk := { up.clk with band := [(6, 5#32)] } },
    3,
    false,
    3,
    [(334, 5#32)],
    by decide +kernel⟩,
   ⟨{ up with saves := [⟨0x10008, 16, 0x10008, 24, [(328, 1), (329, 2)]⟩] },
    ⟨0x10008, 16, 0x10008, 24, [(328, 1), (329, 2)]⟩,
    [],
    328,
    1,
    (329, 2),
    [],
    by decide +kernel⟩,
   ⟨{ up with saves := [⟨F.CLK_STAT_CMD_BUSY.a, F.CLK_STAT_CMD_BUSY.lo, F.CLK_STAT_CMD_STATUS.a, F.CLK_STAT_CMD_STATUS.lo, [(329, 2)]⟩] },
    329,
    2,
    by decide +kernel⟩,
   ⟨{ up with saves := [⟨0x10008, 16, 0x10008, 24, [(328, 1), (329, 2)]⟩], mem := { up.mem with wear := [(392, 1000000)] } },
    ⟨0x10008, 16, 0x10008, 24, [(328, 1), (329, 2)]⟩,
    [],
    328,
    1,
    (329, 2),
    [],
    by decide +kernel⟩,
   ⟨fabUp,
    1,
    true,
    (fabUp : State).atBus F.FABRIC_CTRL_LOAD.a (setBits 0 1 1 (1 : Word)) (true : Bool),
    by decide +kernel⟩,
   ⟨(up.put F.FABRIC_STAT_BUSY 1).put F.FABRIC_STAT_PHASE 2,
    by decide +kernel⟩⟩

/-- The hypotheses of RelocksBegin are met, clause by clause. -/
theorem wit_RelocksBegin :
    (∃ (s : State) (w : Word) (p : Bool),
      s.orders F.CLK_PLL_HOP [16, 17, 18, 19] w p = true ∧
      s.clkBusy = false ∧
      s.anyActive = false ∧
      s.fld F.CLK_STAT_LOCK = 1 ∧
      s.fld F.CLK_STAT_COAST = 0) ∧
    (∃ (s : State) (w : Word) (p : Bool),
      s.orders F.CLK_PLL_BAND_SEARCH [16, 17, 18, 19] w p = true ∧
      s.clkBusy = false ∧
      s.anyActive = false ∧
      s.fld F.CLK_STAT_LOCK = 1 ∧
      s.fld F.CLK_STAT_COAST = 0 ∧
      s.fld F.CLK_STAT_REF_VALID = 1) ∧
    (∃ (s : State) (w : Word) (p : Bool),
      s.orders F.CLK_PLL_HARD_RELOCK [16, 17, 18, 19] w p = true ∧
      s.clkBusy = false ∧
      s.fld F.CLK_STAT_REF_VALID = 1) ∧
    (∃ (s : State) (w : Word) (p : Bool),
      s.takes 0x10000 w p = true ∧
      s.fld F.CLK_REF_REF_SEL ≠ getBits 0 2 w ∧
      s.anyActive = false ∧
      s.clkBusy = false ∧
      s.clk.lockN ≠ 0) ∧
    (∃ (s : State) (w : Word) (p : Bool),
      s.takes 0x10000 w p = true ∧
      (s.fld F.CLK_REF_REF_SEL = getBits 0 2 w ∨ (s.anyActive = false ∧ s.clkBusy = false ∧ s.clk.lockN = 0))) ∧
    (∃ (s : State) (w : Word) (p : Bool),
      s.takes 0x10000 w p = true ∧
      s.fld F.CLK_REF_REF_SEL ≠ getBits 0 2 w ∧
      s.anyActive = true) ∧
    (∃ (s : State) (w : Word) (p : Bool),
      s.takes 0x10000 w p = true ∧
      s.fld F.CLK_REF_REF_SEL ≠ getBits 0 2 w ∧
      s.anyActive = false ∧
      s.clkBusy = true) ∧
    (∃ (s : State) (w : Word) (p : Bool),
      s.orders F.CLK_PLL_HOP [16, 17, 18, 19] w p = true ∧
      s.clkBusy = false ∧
      (s.anyActive = true ∨ s.fld F.CLK_STAT_LOCK = 0 ∨ s.fld F.CLK_STAT_COAST = 1)) ∧
    (∃ (s : State) (w : Word) (p : Bool),
      s.orders F.CLK_PLL_BAND_SEARCH [16, 17, 18, 19] w p = true ∧
      s.clkBusy = false ∧
      (s.anyActive = true ∨ s.fld F.CLK_STAT_LOCK = 0 ∨ s.fld F.CLK_STAT_REF_VALID = 0 ∨ s.fld F.CLK_STAT_COAST = 1)) ∧
    (∃ (s : State) (w : Word) (p : Bool),
      s.orders F.CLK_PLL_HARD_RELOCK [16, 17, 18, 19] w p = true ∧
      s.clkBusy = false ∧
      s.fld F.CLK_STAT_REF_VALID = 0) :=
  ⟨⟨up,
    72,
    false,
    by decide +kernel⟩,
   ⟨up,
    72,
    false,
    by decide +kernel⟩,
   ⟨up.put F.SEQ_STAT_HEAT 3,
    72,
    false,
    by decide +kernel⟩,
   ⟨up,
    1,
    false,
    by decide +kernel⟩,
   ⟨{ up with clk := {} },
    3,
    false,
    by decide +kernel⟩,
   ⟨up.put (F.SQ_STAT_STATE 3) 2,
    1,
    false,
    by decide +kernel⟩,
   ⟨{ up with clk := { up.clk with cmd := .hop } },
    1,
    false,
    by decide +kernel⟩,
   ⟨up.put F.CLK_STAT_LOCK 0,
    72,
    false,
    by decide +kernel⟩,
   ⟨up.put F.CLK_STAT_LOCK 0,
    72,
    false,
    by decide +kernel⟩,
   ⟨up.put F.CLK_STAT_REF_VALID 0,
    72,
    false,
    by decide +kernel⟩⟩

/-- The hypotheses of RelocksEnd are met, clause by clause. -/
theorem wit_RelocksEnd :
    (∃ (s : State),
      s.live = true ∧
      s.clk.relock = .hop ∧
      s.fld F.CLK_STAT_REF_VALID = 1 ∧
      s.tm.load = none) ∧
    (∃ (s : State),
      s.live = true ∧
      s.clk.relock = .search ∧
      s.fld F.CLK_STAT_REF_VALID = 1 ∧
      s.tm.load = none) ∧
    (∃ (s : State),
      s.live = true ∧
      (s.clk.relock = .hard ∨ s.clk.relock = .refSel) ∧
      s.fld F.CLK_STAT_REF_VALID = 1 ∧
      s.tm.load = none) ∧
    (∃ (s : State),
      s.live = true ∧
      s.clk.relock = .realign ∧
      s.fld F.CLK_STAT_REF_VALID = 1 ∧
      s.tm.load = none) ∧
    (∃ (s : State),
      s.live = true ∧
      s.clk.relock = .fault ∧
      s.fld F.CLK_STAT_REF_VALID = 1 ∧
      s.tm.load = none) ∧
    (∃ (s : State) (v : Nat),
      s.live = true ∧
      s.clk.relock = .fault ∧
      s.fld F.CLK_STAT_REF_VALID = 1 ∧
      s.tm.load = some v) ∧
    (∃ (s : State),
      s.live = true ∧
      s.clk.cmd = .hop) ∧
    (∃ (s : State),
      s.live = true ∧
      (s.clk.cmd = .hard ∨ s.clk.cmd = .refSel)) ∧
    (∃ (s : State),
      s.live = true ∧
      s.clk.cmd = .search) ∧
    (∃ (s : State),
      s.live = true ∧
      s.clk.relock ≠ .none ∧
      s.clk.cold = false) :=
  ⟨⟨{ (((up.put F.CLK_STAT_LOCK 0).put F.TB_STAT_COUNTING 0).put F.TB_STAT_HALTED 1).put F.CLK_STAT_CMD_BUSY 1 with clk := { lockN := 80, target := 72, cmd := .hop, relock := .hop } },
    by decide +kernel⟩,
   ⟨{ (((up.put F.CLK_STAT_LOCK 0).put F.TB_STAT_COUNTING 0).put F.TB_STAT_HALTED 1).put F.CLK_STAT_CMD_BUSY 1 with clk := { lockN := 80, target := 72, cmd := .search, relock := .search, cold := true } },
    by decide +kernel⟩,
   ⟨{ (((up.put F.CLK_STAT_LOCK 0).put F.TB_STAT_COUNTING 0).put F.TB_STAT_HALTED 1).put F.CLK_STAT_CMD_BUSY 1 with clk := { lockN := 80, target := 72, cmd := .refSel, relock := .refSel } },
    by decide +kernel⟩,
   ⟨{ (((up.put F.CLK_STAT_LOCK 0).put F.TB_STAT_COUNTING 0).put F.TB_STAT_HALTED 1).put F.CLK_STAT_CMD_BUSY 1 with clk := { lockN := 80, target := 72, cmd := .idle, relock := .realign } },
    by decide +kernel⟩,
   ⟨{ (((up.put F.CLK_STAT_LOCK 0).put F.TB_STAT_COUNTING 0).put F.TB_STAT_HALTED 1).put F.CLK_STAT_CMD_BUSY 1 with clk := { lockN := 80, target := 72, cmd := .idle, relock := .fault } },
    by decide +kernel⟩,
   ⟨{ { (((up.put F.CLK_STAT_LOCK 0).put F.TB_STAT_COUNTING 0).put F.TB_STAT_HALTED 1).put F.CLK_STAT_CMD_BUSY 1 with clk := { lockN := 80, target := 72, cmd := .idle, relock := .fault } } with tm := { load := some 77 } },
    77,
    by decide +kernel⟩,
   ⟨{ (((up.put F.CLK_STAT_LOCK 0).put F.TB_STAT_COUNTING 0).put F.TB_STAT_HALTED 1).put F.CLK_STAT_CMD_BUSY 1 with clk := { lockN := 80, target := 72, cmd := .hop, relock := .hop } },
    by decide +kernel⟩,
   ⟨{ (((up.put F.CLK_STAT_LOCK 0).put F.TB_STAT_COUNTING 0).put F.TB_STAT_HALTED 1).put F.CLK_STAT_CMD_BUSY 1 with clk := { lockN := 80, target := 72, cmd := .hard, relock := .hard } },
    by decide +kernel⟩,
   ⟨{ (((up.put F.CLK_STAT_LOCK 0).put F.TB_STAT_COUNTING 0).put F.TB_STAT_HALTED 1).put F.CLK_STAT_CMD_BUSY 1 with clk := { lockN := 80, target := 72, cmd := .search, relock := .search, band := [(16, 0x10005#32)] } },
    by decide +kernel⟩,
   ⟨{ (((up.put F.CLK_STAT_LOCK 0).put F.TB_STAT_COUNTING 0).put F.TB_STAT_HALTED 1).put F.CLK_STAT_CMD_BUSY 1 with clk := { lockN := 80, target := 72, cmd := .hop, relock := .hop } },
    by decide +kernel⟩⟩

/-- The hypotheses of ReferenceEvents are met, clause by clause. -/
theorem wit_ReferenceEvents :
    (∃ (s : State),
      s.fld F.DBG_STAT_FROZEN = 0 ∧
      s.sup.por = false ∧
      s.fld F.CLK_STAT_REF_VALID = 1) ∧
    (∃ (s : State),
      s.live = true ∧
      s.fld F.CLK_STAT_COAST = 1 ∧
      s.fld F.CLK_COAST_COAST_TIME ≤ 1000 * s.fld F.CLK_LIMIT_COAST_ALARM) ∧
    (∃ (s : State),
      s.live = true ∧
      s.sup.wakeWait = false ∧
      s.fld F.CLK_STAT_REF_VALID = 0) ∧
    (∃ (s : State),
      s.live = true ∧
      s.sup.wakeWait = false ∧
      s.fld F.CLK_STAT_REF_VALID = 0) ∧
    (∃ (s : State),
      s.live = true ∧
      s.clk.measuring = true) ∧
    (∃ (s : State) (w : Word) (p : Bool),
      s.orders F.CLK_PLL_SOFT_GO [16, 17, 18, 19] w p = true ∧
      s.clkBusy = false ∧
      s.fld F.CLK_STAT_REF_VALID = 1 ∧
      s.fld F.CLK_STAT_COAST = 1 ∧
      s.clk.measured = true ∧
      s.clk.relock = .none ∧
      s.inWindow = true) ∧
    (∃ (s : State),
      s.live = true ∧
      s.fld F.CLK_STAT_SOFT_ACTIVE = 1) ∧
    (∃ (s : State),
      s.live = true ∧
      s.clk.realign = true ∧
      s.fld F.CLK_STAT_REF_VALID = 1 ∧
      s.anyActive = false ∧
      s.clkBusy = false ∧
      s.clk.relock = .none) ∧
    (∃ (s : State),
      s.live = true ∧
      (s.fld F.CLK_STAT_LOCK = 1 ∨ s.sup.tripLock = true) ∧
      s.fld F.CLK_STAT_REF_VALID = 1 ∧
      s.awake 1 = true) ∧
    (∃ (s : State),
      s.live = true ∧
      s.sup.tripLock = true ∧
      s.fld F.CLK_STAT_REF_VALID = 1 ∧
      s.awake 1 = false) :=
  ⟨⟨up,
    by decide +kernel⟩,
   ⟨(up.put F.CLK_STAT_LOCK 0).put F.CLK_STAT_COAST 1,
    by decide +kernel⟩,
   ⟨((up.put F.CLK_STAT_LOCK 0).put F.CLK_STAT_COAST 1).put F.CLK_STAT_REF_VALID 0,
    by decide +kernel⟩,
   ⟨((up.put F.CLK_STAT_LOCK 0).put F.CLK_STAT_COAST 1).put F.CLK_STAT_REF_VALID 0,
    by decide +kernel⟩,
   ⟨{ up.put F.CLK_REF_RET_POLICY 1 with clk := { lockN := 80, measuring := true } },
    by decide +kernel⟩,
   ⟨{ (up.put F.CLK_STAT_LOCK 0).put F.CLK_STAT_COAST 1 with clk := { lockN := 80, measured := true } },
    72,
    false,
    by decide +kernel⟩,
   ⟨((up.put F.CLK_STAT_LOCK 0).put F.CLK_STAT_COAST 1).put F.CLK_STAT_SOFT_ACTIVE 1,
    by decide +kernel⟩,
   ⟨{ (up.put F.CLK_STAT_LOCK 0).put F.CLK_STAT_COAST 1 with clk := { lockN := 80, measured := true, realign := true } },
    by decide +kernel⟩,
   ⟨up,
    by decide +kernel⟩,
   ⟨{ (up.put (awakeBit 1) 0).put F.CLK_STAT_LOCK 0 with sup := { up.sup with tripLock := true } },
    by decide +kernel⟩⟩

/-- The hypotheses of StartTicks are met, clause by clause. -/
theorem wit_StartTicks :
    (∃ (s : State),
      s.live = true ∧
      s.fld F.TB_STAT_COUNTING = 1 ∧
      s.tm.starter = none ∧
      s.tm.tb < 2 ^ 64 ∧
      (s.fld F.SYNC_CTRL_GRID = 0 ∨ s.fld F.TB_CTRL_ARM = 0)) ∧
    (∃ (s : State) (ph : BitVec 9) (r : BitVec 14) (m : Bool),
      s.live = true ∧
      s.fld F.TB_STAT_COUNTING = 1 ∧
      s.tm.starter = none ∧
      s.fld F.SYNC_CTRL_GRID = 1 ∧
      s.fld F.TB_CTRL_ARM = 1 ∧
      gridSlip s.clk.lockN (s.fld F.TB_STAT_TB_ALIGN) s.tm.tb ph.toNat (r.toNat + 10000 * b2n m) = 0) ∧
    (∃ (s : State) (ph : BitVec 9) (r : BitVec 14) (m : Bool) (k : Nat),
      s.live = true ∧
      s.fld F.TB_STAT_COUNTING = 1 ∧
      s.tm.starter = none ∧
      s.fld F.SYNC_CTRL_GRID = 1 ∧
      s.fld F.TB_CTRL_ARM = 1 ∧
      gridSlip s.clk.lockN (s.fld F.TB_STAT_TB_ALIGN) s.tm.tb ph.toNat (r.toNat + 10000 * b2n m) = k ∧
      k ≠ 0 ∧
      s.allAtRest = true) ∧
    (∃ (s : State) (ph : BitVec 9) (r : BitVec 14) (m : Bool),
      s.live = true ∧
      s.fld F.TB_STAT_COUNTING = 1 ∧
      s.tm.starter = none ∧
      s.fld F.SYNC_CTRL_GRID = 1 ∧
      s.fld F.TB_CTRL_ARM = 1 ∧
      gridSlip s.clk.lockN (s.fld F.TB_STAT_TB_ALIGN) s.tm.tb ph.toNat (r.toNat + 10000 * b2n m) ≠ 0 ∧
      s.allAtRest = false) ∧
    (∃ (s : State) (x : Nat),
      s.live = true ∧
      s.fld F.TB_STAT_COUNTING = 1 ∧
      s.tm.starter = some x ∧
      s.tm.tb < x) ∧
    (∃ (s : State) (x : Nat),
      s.live = true ∧
      s.fld F.TB_STAT_COUNTING = 1 ∧
      s.tm.starter = some x ∧
      s.fld F.TB_CTRL_ARM = 1) ∧
    (∃ (s : State) (x : Nat),
      s.live = true ∧
      s.fld F.TB_STAT_COUNTING = 1 ∧
      s.tm.starter = some x ∧
      s.fld F.TB_CTRL_ARM = 0) ∧
    (∃ (s : State) (w : Word) (p : Bool),
      s.orders F.TB_CTRL_LOAD_NOW [1] w p = true ∧
      s.clkBusy = false ∧
      s.anyActive = false ∧
      s.fld F.TB_STAT_COUNTING = 1) ∧
    (∃ (s : State) (w : Word) (p : Bool),
      s.orders F.TB_CTRL_LOAD_NOW [1] w p = true ∧
      s.clkBusy = false ∧
      s.anyActive = false ∧
      s.fld F.TB_STAT_COUNTING = 0) :=
  ⟨⟨{ up with tm := { up.tm with tb := 1000003 } },
    by decide +kernel⟩,
   ⟨((up.put F.SYNC_CTRL_GRID 1).put F.TB_CTRL_ARM 1),
    0,
    0,
    false,
    by decide +kernel⟩,
   ⟨((up.put F.SYNC_CTRL_GRID 1).put F.TB_CTRL_ARM 1),
    0,
    0,
    true,
    1,
    by decide +kernel⟩,
   ⟨((up.put F.SYNC_CTRL_GRID 1).put F.TB_CTRL_ARM 1).put (F.FC_STAT_AT_REST 3) 0,
    0,
    0,
    true,
    by decide +kernel⟩,
   ⟨{ up with tm := { up.tm with tb := 999999980, starter := some 999999999 } },
    999999999,
    by decide +kernel⟩,
   ⟨{ (up.put F.TB_CTRL_ARM 1).setSel 0x0401 77777 with tm := { up.tm with tb := 999999980, starter := some 999999999 } },
    999999999,
    by decide +kernel⟩,
   ⟨{ up with tm := { up.tm with tb := 999999980, starter := some 999999999 } },
    999999999,
    by decide +kernel⟩,
   ⟨up.setSel 0x0401 123456789012,
    0,
    false,
    by decide +kernel⟩,
   ⟨(up.setSel 0x0401 123456789012).put F.TB_STAT_COUNTING 0,
    0,
    false,
    by decide +kernel⟩⟩

/-- The hypotheses of EventsOccur are met, clause by clause. -/
theorem wit_EventsOccur :
    (∃ (s : State) (a : Fin 8),
      s.live = true ∧
      s.awake 2 = true ∧
      bitOf (s.fld F.EVT_ALARM_CTRL_EN) a.val = true ∧
      bitOf s.tm.fired a.val = false ∧
      s.tm.tb ≤ s.getSel (0xC00 + a.val) ∧
      s.fld F.TB_STAT_COUNTING = 1 ∧
      s.fld (F.EVT_APER_PERIOD a.val) = 0) ∧
    (∃ (s : State) (a : Fin 8),
      s.live = true ∧
      s.awake 2 = true ∧
      bitOf (s.fld F.EVT_ALARM_CTRL_EN) a.val = true ∧
      bitOf s.tm.fired a.val = false ∧
      s.tm.tb ≤ s.getSel (0xC00 + a.val) ∧
      s.fld F.TB_STAT_COUNTING = 1 ∧
      s.fld (F.EVT_APER_PERIOD a.val) ≠ 0 ∧
      s.getSel (0xC00 + a.val) + s.fld (F.EVT_APER_PERIOD a.val) < 2 ^ 64) ∧
    (∃ (s : State) (m : Fin 16) (high : Bool) (held : Nat),
      s.live = true ∧
      s.awake 2 = true ∧
      s.fld (F.EVT_TI_CFG_FILT m.val) < held ∧
      bitOf s.ev.ti m.val ≠ (high != s.flag (F.EVT_TI_CFG_INVERT m.val)) ∧
      edgeSel (s.fld (F.EVT_TI_CFG_EDGE m.val)) (high != s.flag (F.EVT_TI_CFG_INVERT m.val)) = true) ∧
    (∃ (s : State) (m : Fin 16) (held : Nat),
      s.live = true ∧
      s.fld (F.EVT_TI_CFG_FILT m.val) ≥ held) ∧
    (∃ (s : State) (m : Fin 16) (high : Bool) (held : Nat),
      s.live = true ∧
      s.awake 2 = true ∧
      s.fld (F.EVT_TI_CFG_FILT m.val) < held ∧
      bitOf s.ev.ti m.val ≠ (high != s.flag (F.EVT_TI_CFG_INVERT m.val)) ∧
      edgeSel (s.fld (F.EVT_TI_CFG_EDGE m.val)) (high != s.flag (F.EVT_TI_CFG_INVERT m.val)) = false) :=
  ⟨⟨{ (up.put F.EVT_ALARM_CTRL_EN 255).setSel 0xC03 5000000000 with tm := { tb := 4999999990 } },
    3,
    by decide +kernel⟩,
   ⟨{ ((up.put F.EVT_ALARM_CTRL_EN 255).put (F.EVT_APER_PERIOD 3) 17).setSel 0xC03 5000000000 with tm := { tb := 4999999990 } },
    3,
    by decide +kernel⟩,
   ⟨up.put (F.EVT_TI_CFG_STAMP 6) 1,
    6,
    true,
    9,
    by decide +kernel⟩,
   ⟨up.put (F.EVT_TI_CFG_FILT 6) 9,
    6,
    9,
    by decide +kernel⟩,
   ⟨up.put (F.EVT_TI_CFG_EDGE 6) 1,
    6,
    true,
    9,
    by decide +kernel⟩⟩

/-- The hypotheses of PennantsHopsAndReads are met, clause by clause. -/
theorem wit_PennantsHopsAndReads :
    (∃ (s : State) (pn : Fin 32) (f : PnEv),
      s.live = true ∧
      firstPn s.ev.fires pn.val = some f ∧
      s.pnComes f = true ∧
      s.fld (F.PN_CFG_MODE pn.val) ≠ 0) ∧
    (∃ (s : State) (pn : Fin 32) (f : PnEv),
      s.live = true ∧
      firstPn s.ev.fires pn.val = some f ∧
      s.pnComes f = true ∧
      s.fld (F.PN_CFG_MODE pn.val) = 0) ∧
    (∃ (s : State) (pn : Fin 32) (f : PnEv),
      s.live = true ∧
      firstPn s.ev.on pn.val = some f ∧
      s.pnComes f = true) ∧
    (∃ (s : State) (c : Fin 64) (x : Sw),
      s.live = true ∧
      ((s.fcn c.val).sw.find? (fun w => w.kind = 1) = some x) ∧
      s.fld F.SEQ_STAT_HEAT = 3 ∧
      (((s.arrive x.tick).fcn c.val).sw.any (fun w => (decide (w.kind = 0) || decide (w.kind = 3)) && decide (w.tick = x.tick)) = false) ∧
      x.prof < 64 ∧
      x.rule < 2) ∧
    (∃ (s : State) (c : Fin 64) (x : Sw),
      s.live = true ∧
      ((s.fcn c.val).sw.find? (fun w => w.kind = 1) = some x) ∧
      s.fld F.SEQ_STAT_HEAT = 3 ∧
      (((s.arrive x.tick).fcn c.val).sw.any (fun w => (decide (w.kind = 0) || decide (w.kind = 3)) && decide (w.tick = x.tick)) = true)) ∧
    (∃ (s : State),
      s.live = true ∧
      0 < s.q.evDrop ∧
      s.q.evHold = [] ∧
      s.qFull 8 = false ∧
      bitOf s.q.upset 8 = false) ∧
    (∃ (s : State),
      s.live = true ∧
      0 < s.q.evDrop ∧
      s.q.evHold ≠ [] ∧
      s.q.evHold.length < 256) ∧
    (∃ (s : State) (x : BusRead),
      s.gives 0x30040 x.p = true ∧
      readOk x = true ∧
      s.q.evq.rd = 3) :=
  ⟨⟨{ up.put (F.PN_CFG_MODE 7) 1 with ev := { up.ev with fires := [⟨4, 90, 3, false, 0⟩, ⟨7, 80, 5, false, 0⟩], on := [⟨7, 70, 0, false, 0⟩] } },
    7,
    ⟨7, 80, 5, false, 0⟩,
    by decide +kernel⟩,
   ⟨{ up with ev := { up.ev with fires := [⟨4, 90, 3, false, 0⟩, ⟨7, 80, 5, false, 0⟩] } },
    7,
    ⟨7, 80, 5, false, 0⟩,
    by decide +kernel⟩,
   ⟨{ up with ev := { up.ev with on := [⟨4, 90, 3, false, 0⟩, ⟨7, 80, 5, false, 0⟩] } },
    7,
    ⟨7, 80, 5, false, 0⟩,
    by decide +kernel⟩,
   ⟨(up.put F.SEQ_STAT_HEAT 3).setFc 9 { sw := [⟨1, 500, 33, 1, 123456, 7, 99⟩] },
    9,
    ⟨1, 500, 33, 1, 123456, 7, 99⟩,
    by decide +kernel⟩,
   ⟨(up.put F.SEQ_STAT_HEAT 3).setFc 9 { sw := [⟨0, 500, 5, 0, 1, 2, 3⟩, ⟨1, 500, 33, 1, 123456, 7, 99⟩] },
    9,
    ⟨1, 500, 33, 1, 123456, 7, 99⟩,
    by decide +kernel⟩,
   ⟨{ up with q := { up.q with evDrop := 9 } },
    by decide +kernel⟩,
   ⟨{ up with q := { up.q with evDrop := 9, evHold := [[1, 2, 3, 4]], evq := { recs := List.replicate 4096 [5, 6, 7, 8] } } },
    by decide +kernel⟩,
   ⟨{ up with q := { up.q with evq := { recs := [[5, 6, 7, 8], [1, 2, 3, 4]], rd := 3 } } },
    ⟨true, 2, 2⟩,
    by decide +kernel⟩⟩

/-- The hypotheses of StrobesAct are met, clause by clause. -/
theorem wit_StrobesAct :
    (∃ (s : State) (w : Word) (p : Bool) (n : Fin 64) (g : Fin 16) (v : Word),
      s.takes 0x40 w p = true ∧
      bitOf w.toNat g.val = true ∧
      s.fld (F.FC_CFG_STRB_GRP n.val) = g.val ∧
      s.fld (F.FC_CFG_MODE_BUFFERED n.val) = 1 ∧
      s.shadowOf (0x80008 + 0x400 * n.val) = some v) ∧
    (∃ (s : State) (w : Word) (p : Bool) (v : Word),
      s.takes 0x40 w p = true ∧
      bitOf w.toNat 0 = true ∧
      s.fld F.CLK_CFG_MODE_BUFFERED = 1 ∧
      s.shadowOf 0x1000C = some v) ∧
    (∃ (s : State) (e : Eff),
      s.live = true ∧
      s.fld F.TB_STAT_COUNTING = 1 ∧
      s.eff = [e] ∧
      (∀ n : Fin 64, (s.fcn n.val).sw = []) ∧
      (∀ n : Fin 8, (s.sqn n.val).prep = none)) :=
  ⟨⟨((up.put (F.FC_CFG_STRB_GRP 5) 3).put (F.FC_CFG_MODE_BUFFERED 5) 1).setShadow (0x80008 + 0x400 * 5) (some 0x1234#32),
    0xFFFF0009#32,
    false,
    5,
    3,
    0x1234#32,
    by decide +kernel⟩,
   ⟨(up.put F.CLK_CFG_MODE_BUFFERED 1).setShadow 0x1000C (some 0x00050064#32),
    1,
    false,
    0x00050064#32,
    by decide +kernel⟩,
   ⟨{ up with eff := [⟨700, 0x80008, 0x11#32⟩] },
    ⟨700, 0x80008, 0x11#32⟩,
    by decide +kernel⟩⟩

/-- The hypotheses of FineChannelRegisters are met, clause by clause. -/
theorem wit_FineChannelRegisters :
    (∃ (s : State) (c : Fin 64) (w : Word) (p : Bool),
      s.takes (0x80010 + 0x400 * c.val) w p = true ∧
      trimOk w = true ∧
      s.shadowOf (0x80010 + 0x400 * c.val) = none) ∧
    (∃ (s : State) (c : Fin 64) (w : Word) (p : Bool),
      s.takes (0x80010 + 0x400 * c.val) w p = true ∧
      trimOk w = false) ∧
    (∃ (s : State) (c : Fin 64) (w : Word) (p : Bool),
      s.takes (0x80000 + 0x400 * c.val) w p = true ∧
      getBits 0 1 w ≠ s.fld (F.FC_CFG_BW c.val)) ∧
    (∃ (s : State) (c : Fin 64) (w : Word) (p : Bool),
      s.orders (F.FC_PCMD_READ c.val) [0, 1] w p = true ∧
      s.fld (F.FC_PCMD_BUSY c.val) = 0) ∧
    (∃ (s : State) (c : Fin 64) (w : Word) (p : Bool),
      s.orders (F.FC_PCMD_WRITE c.val) [0, 1] w p = true ∧
      s.fld (F.FC_PCMD_BUSY c.val) = 0) :=
  ⟨⟨up,
    9,
    0x1FFF#32,
    false,
    by decide +kernel⟩,
   ⟨up,
    9,
    0xFFF#32,
    false,
    by decide +kernel⟩,
   ⟨up,
    9,
    0x1FFF#32,
    false,
    by decide +kernel⟩,
   ⟨{ up.put (F.FC_PSEL_PROF 9) 2 with mem := { up.mem with prof := [(2312, 5#32), (2313, 0x8000#32), (2314, 77#32), (2315, 0xFFFFF#32)] } },
    9,
    0,
    false,
    by decide +kernel⟩,
   ⟨(((up.put (F.FC_PSEL_PROF 9) 2).setSel 0x2009 0xABCD123456789).put (F.FC_PAMP_AMP 9) 44).wr (0x8001C + 0x400 * 9) 55,
    9,
    0,
    false,
    by decide +kernel⟩⟩

/-- The hypotheses of CalibrationAndReadBack are met, clause by clause. -/
theorem wit_CalibrationAndReadBack :
    (∃ (s : State) (c : Fin 64) (w : Word) (p : Bool),
      s.orders (F.FC_CAL_RUN c.val) [0, 1] w p = true ∧
      s.fld (F.FC_CAL_BUSY c.val) = 0 ∧
      s.fcOwnerActive c.val = false ∧
      s.fld F.CLK_STAT_LOCK = 1 ∧
      s.monBusy = false) ∧
    (∃ (s : State) (c : Fin 64),
      s.live = true ∧
      (s.fcn c.val).job = 1 ∧
      s.awake 0x25 = true ∧
      s.awake (8 + c.val / 8) = true) ∧
    (∃ (s : State) (c : Fin 64) (w : Word) (p : Bool),
      s.orders (F.FC_CAL_SAVE c.val) [0, 1] w p = true ∧
      s.fld (F.FC_CAL_BUSY c.val) = 0 ∧
      s.pvWord (64 + 2 * c.val) ≠ BitVec.ofNat 32 (s.fld (F.FC_CALRES_TRIM_G c.val)) ∧
      s.pvWord (65 + 2 * c.val) = BitVec.ofNat 32 (s.fld (F.FC_CALRES_TRIM_O c.val)) ∧
      s.pvWorn (64 + 2 * c.val) = false) ∧
    (∃ (s : State) (c : Fin 64) (w : Word) (p : Bool),
      s.orders (F.FC_CAL_SAVE c.val) [0, 1] w p = true ∧
      s.fld (F.FC_CAL_BUSY c.val) = 0 ∧
      s.pvWord (64 + 2 * c.val) = BitVec.ofNat 32 (s.fld (F.FC_CALRES_TRIM_G c.val)) ∧
      s.pvWord (65 + 2 * c.val) = BitVec.ofNat 32 (s.fld (F.FC_CALRES_TRIM_O c.val))) ∧
    (∃ (s : State) (c : Fin 64) (w : Word) (p : Bool),
      s.orders (F.FC_RB_RUN c.val) [0] w p = true ∧
      s.fld (F.FC_RB_BUSY c.val) = 0 ∧
      s.fld (F.FC_STAT_AT_REST c.val) = 1 ∧
      s.monBusy = false ∧
      s.fld F.SUP_MON_CMD_BUSY = 0) ∧
    (∃ (s : State) (c : Fin 64),
      s.live = true ∧
      (s.fcn c.val).job = 2 ∧
      s.awake 0x25 = true) :=
  ⟨⟨up,
    9,
    0,
    false,
    by decide +kernel⟩,
   ⟨up.setFc 9 { job := 1 },
    9,
    by decide +kernel⟩,
   ⟨up.put (F.FC_CALRES_TRIM_G 9) 5,
    9,
    0,
    false,
    by decide +kernel⟩,
   ⟨up,
    9,
    0,
    false,
    by decide +kernel⟩,
   ⟨up.put (F.FC_STAT_AT_REST 9) 1,
    9,
    0,
    false,
    by decide +kernel⟩,
   ⟨up.setFc 9 { job := 2 },
    9,
    by decide +kernel⟩⟩

/-- The hypotheses of HeatBegins are met, clause by clause. -/
theorem wit_HeatBegins :
    (∃ (s : State) (u : State) (w : Word) (p : Bool),
      s.orders F.SEQ_CTRL_START [0, 1, 2, 3] w p = true ∧
      u = ((s.atBus 0x20000 (setBits 0 1 1 w) p).plain 0x20000 (setBits 0 1 1 w)) ∧
      u.startCheck = stOk) ∧
    (∃ (s : State) (x : Nat),
      s.live = true ∧
      s.tm.startWait = false ∧
      s.tm.startAt = some x ∧
      s.tm.starter = none ∧
      s.fld F.SEQ_STAT_HEAT = 2 ∧
      s.fld F.TB_STAT_COUNTING = 1 ∧
      s.role = roleSingle) :=
  ⟨⟨loaded,
    (((loaded : State).atBus 0x20000 0x21#32 false).plain 0x20000 0x21#32),
    0x20#32,
    false,
    by decide +kernel⟩,
   ⟨{ puts loaded [(F.SEQ_STAT_HEAT, 2), (F.SQ_STAT_STATE 2, 2), (F.SQ_START_ENTRY 2, 1)] with tm := { loaded.tm with startAt := some 5000 } },
    5000,
    by decide +kernel⟩⟩

/-- The hypotheses of HeatStandsAndEnds are met, clause by clause. -/
theorem wit_HeatStandsAndEnds :
    (∃ (s : State) (w : Word) (p : Bool),
      s.orders F.SEQ_CTRL_PAUSE [0, 1, 2, 3] w p = true ∧
      s.role ≠ roleFollower ∧
      s.fld F.SEQ_STAT_HEAT = 3 ∧
      (∀ n : Fin 8, ∀ d ∈ (s.sqn n.val).next, s.tm.heat + 16 < d.o)) ∧
    (∃ (s : State) (u : State) (w : Word) (p : Bool),
      s.orders F.SEQ_CTRL_RESUME [0, 1, 2, 3] w p = true ∧
      u = ((s.atBus 0x20000 (setBits 2 1 1 w) p).plain 0x20000 (setBits 2 1 1 w)) ∧
      s.role = roleSingle ∧
      s.fld F.SEQ_STAT_HEAT = 4 ∧
      s.tm.resAt = none ∧
      s.tm.resWait = false ∧
      u.fld F.SEQ_CTRL_RESUME_SRC ≠ 3 ∧
      (u.fld F.SEQ_CTRL_RESUME_SRC = 1 → s.tm.tb + 16 ≤ s.getSel 0x0800)) ∧
    (∃ (s : State) (x : Nat),
      s.live = true ∧
      s.tm.resWait = false ∧
      s.tm.resAt = some x ∧
      s.tm.starter ≠ some x ∧
      s.fld F.SEQ_STAT_HEAT = 4 ∧
      s.fld F.TB_STAT_COUNTING = 1) ∧
    (∃ (s : State) (w : Word) (p : Bool),
      s.orders F.SEQ_CTRL_ABORT [0, 1, 2, 3] w p = true ∧
      s.role ≠ roleFollower ∧
      2 ≤ s.fld F.SEQ_STAT_HEAT ∧
      s.fld F.SEQ_STAT_HEAT ≤ 4) :=
  ⟨⟨race 0 100 [] none,
    0x100#32,
    false,
    by decide +kernel⟩,
   ⟨((race 0 100 [] none).put F.SEQ_STAT_HEAT 4).put (F.SQ_STAT_STATE 2) 4,
    (((((race 0 100 [] none).put F.SEQ_STAT_HEAT 4).put (F.SQ_STAT_STATE 2) 4 : State).atBus 0x20000 0x84#32 false).plain 0x20000 0x84#32),
    0x80#32,
    false,
    by decide +kernel⟩,
   ⟨let r := ((race 0 100 [] none).put F.SEQ_STAT_HEAT 4).put (F.SQ_STAT_STATE 2) 4; { r with tm := { r.tm with resAt := some 100200, pausedAt := 100100 } },
    100200,
    by decide +kernel⟩,
   ⟨race 0 100 [] none,
    0#32,
    false,
    by decide +kernel⟩⟩

/-- The hypotheses of CommandRecords are met, clause by clause. -/
theorem wit_CommandRecords :
    (∃ (s : State) (n : Fin 8) (w : Word) (p : Bool),
      s.takes (0x20120 + 0x40 * n.val) w p = true ∧
      bitOf s.q.upset n.val = false) ∧
    (∃ (s : State) (u : State) (n : Fin 8) (c : Cmd),
      s.live = true ∧
      s.awake 2 = true ∧
      s.fld F.TB_STAT_COUNTING = 1 ∧
      s.role = roleSingle ∧
      bitOf s.q.upset n.val = false ∧
      u = s.nextTake n.val ∧
      s.cmdHead n.val 1 = some c ∧
      c.op = 1 ∧
      c.argsOk = true ∧
      s.runOrPaused n.val = true) ∧
    (∃ (s : State) (u : State) (n : Fin 8) (c : Cmd),
      s.live = true ∧
      s.awake 2 = true ∧
      s.fld F.TB_STAT_COUNTING = 1 ∧
      s.role = roleSingle ∧
      bitOf s.q.upset n.val = false ∧
      u = s.nextTake n.val ∧
      s.cmdHead n.val 2 = some c ∧
      c.op = 2 ∧
      c.argsOk = true ∧
      s.runOrPaused n.val = true) ∧
    (∃ (s : State) (u : State) (n : Fin 8) (c : Cmd) (h : Hold) (v : Visit),
      s.live = true ∧
      s.awake 2 = true ∧
      s.fld F.TB_STAT_COUNTING = 1 ∧
      s.role = roleSingle ∧
      bitOf s.q.upset n.val = false ∧
      u = s.nextTake n.val ∧
      s.cmdHead n.val 3 = some c ∧
      c.op = 3 ∧
      c.argsOk = true ∧
      s.sqState n.val = sqRunning ∧
      (s.sqn n.val).hold = some h ∧
      h.exit = false ∧
      (s.sqn n.val).visit = some v ∧
      u.contReady n.val h.e = false ∧
      u.segFenced (u.entry n.val h.e).seg = false) ∧
    (∃ (s : State) (u : State) (n : Fin 8) (c : Cmd),
      s.live = true ∧
      s.awake 2 = true ∧
      s.fld F.TB_STAT_COUNTING = 1 ∧
      s.role = roleSingle ∧
      bitOf s.q.upset n.val = false ∧
      u = s.nextTake n.val ∧
      s.cmdHead n.val 4 = some c ∧
      c.op = 4 ∧
      c.argsOk = true) :=
  ⟨⟨up.setQ 2 { part := [1, 2, 3] },
    2,
    4#32,
    true,
    by decide +kernel⟩,
   ⟨let r := race 0 100 [] none; r.setQ 2 { recs := [[0x00070000#32 + BitVec.ofNat 32 1, 4#32, 0#32, 0]] },
    (let r := race 0 100 [] none; r.setQ 2 { recs := [[0x00070000#32 + BitVec.ofNat 32 1, 4#32, 0#32, 0]] } : State).nextTake 2,
    2,
    ⟨1, 0, 7, 4, 0⟩,
    by decide +kernel⟩,
   ⟨let r := ((race 0 100 [] none).put (F.SQ_LATCH_LO_LATCH 2) 0xFF); r.setQ 2 { recs := [[0x00070000#32 + BitVec.ofNat 32 2, 0#32, 9#32, 0]] },
    (let r := ((race 0 100 [] none).put (F.SQ_LATCH_LO_LATCH 2) 0xFF); r.setQ 2 { recs := [[0x00070000#32 + BitVec.ofNat 32 2, 0#32, 9#32, 0]] } : State).nextTake 2,
    2,
    ⟨2, 0, 7, 0, 9⟩,
    by decide +kernel⟩,
   ⟨let r := race 2 400 [] (some ⟨176, 2, 0, false⟩); r.setQ 2 { recs := [[0x00070000#32 + BitVec.ofNat 32 3, 0#32, 0#32, 0]] },
    (let r := race 2 400 [] (some ⟨176, 2, 0, false⟩); r.setQ 2 { recs := [[0x00070000#32 + BitVec.ofNat 32 3, 0#32, 0#32, 0]] } : State).nextTake 2,
    2,
    ⟨3, 0, 7, 0, 0⟩,
    ⟨176, 2, 0, false⟩,
    { entry := 2, f := 48, cur := 48 },
    by decide +kernel⟩,
   ⟨let r := race 0 100 [] none; r.setQ 2 { recs := [[0x00070000#32 + BitVec.ofNat 32 4, 0#32, 0#32, 0]] },
    (let r := race 0 100 [] none; r.setQ 2 { recs := [[0x00070000#32 + BitVec.ofNat 32 4, 0#32, 0#32, 0]] } : State).nextTake 2,
    2,
    ⟨4, 0, 7, 0, 0⟩,
    by decide +kernel⟩⟩

/-- The hypotheses of CommitDecisions are met, clause by clause. -/
theorem wit_CommitDecisions :
    (∃ (s : State) (n : Fin 8) (v : Visit) (x : Entry) (o : Nat) (u : State),
      s.plays n.val = true ∧
      (s.sqn n.val).visit = some v ∧
      (s.sqn n.val).next = [] ∧
      (s.sqn n.val).hold = none ∧
      (s.sqn n.val).stopReq = none ∧
      x = s.entry n.val v.entry ∧
      o = nextBoundary x v.f v.cur ∧
      48 ≤ o ∧
      s.tm.heat ≤ o - 48 ∧
      u = s.arrive (o - 48) ∧
      (s.sqn n.val).pend = none ∧
      isOpp x v.f o = false ∧
      isLastEnd x v.f o = false) ∧
    (∃ (s : State) (n : Fin 8) (v : Visit) (x : Entry) (o : Nat) (u : State),
      s.plays n.val = true ∧
      (s.sqn n.val).visit = some v ∧
      (s.sqn n.val).next = [] ∧
      (s.sqn n.val).hold = none ∧
      (s.sqn n.val).stopReq = none ∧
      x = s.entry n.val v.entry ∧
      o = nextBoundary x v.f v.cur ∧
      48 ≤ o ∧
      s.tm.heat ≤ o - 48 ∧
      u = s.arrive (o - 48) ∧
      (s.sqn n.val).pend = none ∧
      (isOpp x v.f o = false ∨ u.condMet n.val x = false) ∧
      isLastEnd x v.f o = true ∧
      x.endAct = 0 ∧
      u.contReady n.val x.succ = true) ∧
    (∃ (s : State) (n : Fin 8) (v : Visit) (x : Entry) (o : Nat) (u : State),
      s.plays n.val = true ∧
      (s.sqn n.val).visit = some v ∧
      (s.sqn n.val).next = [] ∧
      (s.sqn n.val).hold = none ∧
      (s.sqn n.val).stopReq = none ∧
      x = s.entry n.val v.entry ∧
      o = nextBoundary x v.f v.cur ∧
      48 ≤ o ∧
      s.tm.heat ≤ o - 48 ∧
      u = s.arrive (o - 48) ∧
      (s.sqn n.val).pend = none ∧
      (isOpp x v.f o = false ∨ u.condMet n.val x = false) ∧
      isLastEnd x v.f o = true ∧
      x.endAct ≠ 0) ∧
    (∃ (s : State) (n : Fin 8) (v : Visit) (x : Entry) (o : Nat) (u : State),
      s.plays n.val = true ∧
      (s.sqn n.val).visit = some v ∧
      (s.sqn n.val).next = [] ∧
      (s.sqn n.val).hold = none ∧
      (s.sqn n.val).stopReq = none ∧
      x = s.entry n.val v.entry ∧
      o = nextBoundary x v.f v.cur ∧
      48 ≤ o ∧
      s.tm.heat ≤ o - 48 ∧
      u = s.arrive (o - 48) ∧
      (s.sqn n.val).pend = none ∧
      isOpp x v.f o = true ∧
      u.condMet n.val x = true ∧
      u.contReady n.val x.target = true) ∧
    (∃ (s : State) (n : Fin 8) (v : Visit) (x : Entry) (o : Nat) (u : State),
      s.plays n.val = true ∧
      (s.sqn n.val).visit = some v ∧
      (s.sqn n.val).next = [] ∧
      (s.sqn n.val).hold = none ∧
      (s.sqn n.val).stopReq = none ∧
      x = s.entry n.val v.entry ∧
      o = nextBoundary x v.f v.cur ∧
      48 ≤ o ∧
      s.tm.heat ≤ o - 48 ∧
      u = s.arrive (o - 48) ∧
      (s.sqn n.val).pend = none ∧
      isOpp x v.f o = false ∧
      isLastEnd x v.f o = true ∧
      x.endAct = 0 ∧
      u.contReady n.val x.succ = false ∧
      x.refill = 2) ∧
    (∃ (s : State) (n : Fin 8) (v : Visit) (x : Entry) (o : Nat) (u : State),
      s.plays n.val = true ∧
      (s.sqn n.val).visit = some v ∧
      (s.sqn n.val).next = [] ∧
      (s.sqn n.val).hold = none ∧
      (s.sqn n.val).stopReq = none ∧
      x = s.entry n.val v.entry ∧
      o = nextBoundary x v.f v.cur ∧
      48 ≤ o ∧
      s.tm.heat ≤ o - 48 ∧
      u = s.arrive (o - 48) ∧
      (s.sqn n.val).pend = none ∧
      isOpp x v.f o = false ∧
      isLastEnd x v.f o = true ∧
      x.endAct = 0 ∧
      u.contReady n.val x.succ = false ∧
      x.refill = 0 ∧
      x.maxExt ≠ 0 ∧
      x.succ < 65536) ∧
    (∃ (s : State) (n : Fin 8) (v : Visit) (x : Entry) (o : Nat) (u : State),
      s.plays n.val = true ∧
      (s.sqn n.val).visit = some v ∧
      (s.sqn n.val).next = [] ∧
      (s.sqn n.val).hold = none ∧
      (s.sqn n.val).stopReq = none ∧
      x = s.entry n.val v.entry ∧
      o = nextBoundary x v.f v.cur ∧
      48 ≤ o ∧
      s.tm.heat ≤ o - 48 ∧
      u = s.arrive (o - 48) ∧
      (s.sqn n.val).pend = none ∧
      isOpp x v.f o = false ∧
      isLastEnd x v.f o = true ∧
      x.endAct = 0 ∧
      u.contReady n.val x.succ = false ∧
      x.refill = 1 ∧
      x.fbRest = false ∧
      (u.seg (u.entry n.val x.fallback).seg).staged = false ∧
      u.segFenced (u.entry n.val x.fallback).seg = false) :=
  ⟨⟨race 0 100 [] none,
    2,
    ⟨0, 48, 48, none⟩,
    (race 0 100 [] none : State).entry 2 0,
    176,
    (race 0 100 [] none : State).arrive ((176 : Nat) - 48),
    by decide +kernel⟩,
   ⟨(race 0 200 [] none).setSq 2 { visit := some ⟨0, 48, 176, none⟩, lapAt := 176 },
    2,
    ⟨0, 48, 176, none⟩,
    ((race 0 200 [] none).setSq 2 { visit := some ⟨0, 48, 176, none⟩, lapAt := 176 } : State).entry 2 0,
    304,
    ((race 0 200 [] none).setSq 2 { visit := some ⟨0, 48, 176, none⟩, lapAt := 176 } : State).arrive ((304 : Nat) - 48),
    by decide +kernel⟩,
   ⟨race 1 100 [] none,
    2,
    ⟨1, 48, 48, none⟩,
    (race 1 100 [] none : State).entry 2 1,
    176,
    (race 1 100 [] none : State).arrive ((176 : Nat) - 48),
    by decide +kernel⟩,
   ⟨((race 1 100 [] none).put (F.SQ_LATCH_LO_LATCH 2) 0x20).put (F.EVT_MAP_ROUTE 5) 255,
    2,
    ⟨1, 48, 48, none⟩,
    (((race 1 100 [] none).put (F.SQ_LATCH_LO_LATCH 2) 0x20).put (F.EVT_MAP_ROUTE 5) 255 : State).entry 2 1,
    176,
    (((race 1 100 [] none).put (F.SQ_LATCH_LO_LATCH 2) 0x20).put (F.EVT_MAP_ROUTE 5) 255 : State).arrive ((176 : Nat) - 48),
    by decide +kernel⟩,
   ⟨{ race 2 100 [] none with mem := { loaded.mem with dir := [(5, 0x00000822#32)] } },
    2,
    ⟨2, 48, 48, none⟩,
    ({ race 2 100 [] none with mem := { loaded.mem with dir := [(5, 0x00000822#32)] } } : State).entry 2 2,
    176,
    ({ race 2 100 [] none with mem := { loaded.mem with dir := [(5, 0x00000822#32)] } } : State).arrive ((176 : Nat) - 48),
    by decide +kernel⟩,
   ⟨{ race 0 100 [] none with mem := { loaded.mem with course := crs [[0x00000001, 0, 0x05000001, 8, 0, 0, 0x80000000]] } },
    2,
    ⟨0, 48, 48, none⟩,
    ({ race 0 100 [] none with mem := { loaded.mem with course := crs [[0x00000001, 0, 0x05000001, 8, 0, 0, 0x80000000]] } } : State).entry 2 0,
    176,
    ({ race 0 100 [] none with mem := { loaded.mem with course := crs [[0x00000001, 0, 0x05000001, 8, 0, 0, 0x80000000]] } } : State).arrive ((176 : Nat) - 48),
    by decide +kernel⟩,
   ⟨race 4 100 [] none,
    2,
    ⟨4, 48, 48, none⟩,
    (race 4 100 [] none : State).entry 2 4,
    176,
    (race 4 100 [] none : State).arrive ((176 : Nat) - 48),
    by decide +kernel⟩⟩

/-- The hypotheses of DecisionsApply are met, clause by clause. -/
theorem wit_DecisionsApply :
    (∃ (s : State) (n : Fin 8) (o : Nat) (e : Nat) (j : Bool),
      s.plays n.val = true ∧
      firstDec (s.sqn n.val).next = some ⟨o, .visit e j⟩ ∧
      (s.sqn n.val).hold = none) ∧
    (∃ (s : State) (n : Fin 8) (o : Nat) (v : Visit),
      s.plays n.val = true ∧
      firstDec (s.sqn n.val).next = some ⟨o, .go⟩ ∧
      (s.sqn n.val).visit = some v ∧
      isLapEnd (s.entry n.val v.entry) v.f o = true) ∧
    (∃ (s : State) (n : Fin 8) (o : Nat) (e : Nat) (a : Nat) (b : Nat),
      s.plays n.val = true ∧
      firstDec (s.sqn n.val).next = some ⟨o, .fallback (some e) a b⟩) ∧
    (∃ (s : State) (n : Fin 8) (o : Nat) (a : Nat) (b : Nat),
      s.plays n.val = true ∧
      firstDec (s.sqn n.val).next = some ⟨o, .fallback none a b⟩) ∧
    (∃ (s : State) (n : Fin 8) (o : Nat) (r : Bool) (b : Nat),
      s.plays n.val = true ∧
      firstDec (s.sqn n.val).next = some ⟨o, .stop r b⟩) ∧
    (∃ (s : State) (n : Fin 8) (o : Nat) (e : Nat),
      s.plays n.val = true ∧
      firstDec (s.sqn n.val).next = some ⟨o, .hold e⟩) ∧
    (∃ (s : State) (n : Fin 8) (o : Nat) (e : Nat) (j : Bool) (h : Hold),
      s.plays n.val = true ∧
      firstDec (s.sqn n.val).next = some ⟨o, .visit e j⟩ ∧
      (s.sqn n.val).hold = some h) :=
  ⟨⟨race 0 300 [⟨304, .visit 1 false⟩] none,
    2,
    304,
    1,
    false,
    by decide +kernel⟩,
   ⟨race 0 150 [⟨176, .go⟩] none,
    2,
    176,
    ⟨0, 48, 48, none⟩,
    by decide +kernel⟩,
   ⟨race 0 300 [⟨304, .fallback (some 1) 0 2⟩] none,
    2,
    304,
    1,
    0,
    2,
    by decide +kernel⟩,
   ⟨race 0 300 [⟨304, .fallback none 0 2⟩] none,
    2,
    304,
    0,
    2,
    by decide +kernel⟩,
   ⟨race 0 300 [⟨304, .stop true 1⟩] none,
    2,
    304,
    true,
    1,
    by decide +kernel⟩,
   ⟨race 2 170 [⟨176, .hold 2⟩] none,
    2,
    176,
    2,
    by decide +kernel⟩,
   ⟨race 2 470 [⟨480, .visit 2 false⟩] (some ⟨176, 2, 0, true⟩),
    2,
    480,
    2,
    false,
    ⟨176, 2, 0, true⟩,
    by decide +kernel⟩⟩

/-- The hypotheses of HoldsUnderrunsAndFaults are met, clause by clause. -/
theorem wit_HoldsUnderrunsAndFaults :
    (∃ (s : State) (n : Fin 8) (h : Hold),
      s.plays n.val = true ∧
      (s.sqn n.val).hold = some h ∧
      h.exit = false ∧
      s.contReady n.val h.e = true) ∧
    (∃ (s : State) (n : Fin 8) (h : Hold) (v : Visit) (u : State),
      s.plays n.val = true ∧
      (s.sqn n.val).visit = some v ∧
      (s.sqn n.val).hold = some h ∧
      h.exit = false ∧
      h.limit ≠ 0 ∧
      u = s.arrive (h.o + h.limit) ∧
      u.contReady n.val h.e = false ∧
      u.segFenced (u.entry n.val h.e).seg = false) ∧
    (∃ (s : State) (n : Fin 8) (lane : BitVec 8) (v : Visit),
      s.plays n.val = true ∧
      (s.sqn n.val).visit = some v ∧
      lane.toNat < (s.lanesOf n.val).length ∧
      s.segInDram (s.entry n.val v.entry).seg = true ∧
      (s.sqn n.val).hold = none) ∧
    (∃ (s : State) (n : Fin 8),
      s.live = true ∧
      s.sqActive n.val = true ∧
      s.inHeat n.val = true) ∧
    (∃ (s : State) (r : WakeRec) (rs : List WakeRec),
      s.live = true ∧
      s.fld F.SEQ_STAT_HEAT = 3 ∧
      s.plan.wakeLeft = r :: rs ∧
      r.dom ≠ 0x14 ∧
      r.release = false) ∧
    (∃ (s : State) (r : WakeRec) (rs : List WakeRec),
      s.live = true ∧
      s.fld F.SEQ_STAT_HEAT = 3 ∧
      s.plan.wakeLeft = r :: rs ∧
      r.dom ≠ 0x14 ∧
      r.release = true) ∧
    (∃ (s : State) (d : BitVec 6) (u : Nat),
      s.live = true ∧
      s.fld F.SEQ_STAT_HEAT = 3 ∧
      (s.plan.wake.any (fun r => decide (r.dom = d.toNat) && !r.release && decide (r.use = u) && s.notReady r) = true) ∧
      u ≤ s.tm.heat ∧
      s.tm.heat ≤ s.tm.tb) :=
  ⟨⟨race 0 401 [] (some ⟨176, 0, 0, false⟩),
    2,
    ⟨176, 0, 0, false⟩,
    by decide +kernel⟩,
   ⟨race 2 190 [] (some ⟨176, 2, 160, false⟩),
    2,
    ⟨176, 2, 160, false⟩,
    ⟨2, 48, 48, none⟩,
    (race 2 190 [] (some ⟨176, 2, 160, false⟩) : State).arrive 336,
    by decide +kernel⟩,
   ⟨let r := (race 0 100 [] none).wr 0x1500C0 10; { r with plan := { r.plan with lanes := [(0, 1)] }, mem := { r.mem with dir := [(1, 0x00000821#32), (5, 0x00000822#32)] } },
    2,
    0,
    ⟨0, 48, 48, none⟩,
    by decide +kernel⟩,
   ⟨race 0 100 [] none,
    2,
    by decide +kernel⟩,
   ⟨let r := race 0 100 [] none; { r with plan := { r.plan with wakeLeft := [⟨500, 9, false, 0, 600⟩] } },
    ⟨500, 9, false, 0, 600⟩,
    [],
    by decide +kernel⟩,
   ⟨let r := race 0 100 [] none; { r with plan := { r.plan with wakeLeft := [⟨500, 9, true, 0, 0⟩] } },
    ⟨500, 9, true, 0, 0⟩,
    [],
    by decide +kernel⟩,
   ⟨let r := (race 0 100 [] none).put (awakeBit 9) 0; { r with plan := { r.plan with wake := [⟨50, 9, false, 0, 90⟩] }, sup := { r.sup with owned := 512 } },
    9,
    90,
    by decide +kernel⟩⟩

/-- The hypotheses of CourseAndDirectoryWindows are met, clause by clause. -/
theorem wit_CourseAndDirectoryWindows :
    (∃ (s : State) (w : Word) (p : Bool),
      s.orders F.CRS_CMD_READ [0, 1] w p = true) ∧
    (∃ (s : State) (w : Word) (p : Bool),
      s.orders F.CRS_CMD_WRITE [0, 1] w p = true ∧
      s.crsCheck = stOk) ∧
    (∃ (s : State) (w : Word) (p : Bool),
      s.orders F.SEGD_CMD_READ [0, 1, 2] w p = true ∧
      s.fld F.PLAN_STAT_PRESENT = 1) ∧
    (∃ (s : State) (w : Word) (p : Bool),
      s.orders F.SEGD_CMD_SET_READY [0, 1, 2] w p = true ∧
      s.readyCheck = stOk ∧
      (s.seg (s.fld F.SEGD_SEL_SEG)).ready = false) ∧
    (∃ (s : State) (w : Word) (p : Bool),
      s.orders F.SEGD_CMD_CLR_READY [0, 1, 2] w p = true ∧
      s.readyCheck = stOk) ∧
    (∃ (s : State) (w : Word) (p : Bool),
      s.orders F.SEGD_CMD_SET_READY [0, 1, 2] w p = true ∧
      s.fld F.PLAN_STAT_PRESENT = 0) :=
  ⟨⟨(loaded.put F.CRS_SEL_SQ 2).put F.CRS_SEL_ENTRY 1,
    4#32,
    false,
    by decide +kernel⟩,
   ⟨puts loaded [(F.CRS_SEL_SQ, 2), (F.EVT_MAP_ROUTE 0, 255), (F.CRS_D_WORD 0, 0x00010000), (F.CRS_D_WORD 1, 0x00010001), (F.CRS_D_WORD 2, 2), (F.CRS_D_WORD 3, 8), (F.CRS_D_WORD 5, 255), (F.CRS_D_WORD 6, 0x80020000)],
    4#32,
    false,
    by decide +kernel⟩,
   ⟨loaded.put F.SEGD_SEL_SEG 1,
    0#32,
    false,
    by decide +kernel⟩,
   ⟨loaded.put F.SEGD_SEL_SEG 1,
    0#32,
    false,
    by decide +kernel⟩,
   ⟨let r := loaded.put F.SEGD_SEL_SEG 1; { r with mem := { r.mem with dir := [(5, 0x00000826#32)] } },
    0#32,
    false,
    by decide +kernel⟩,
   ⟨up,
    0#32,
    false,
    by decide +kernel⟩⟩

/-- The hypotheses of SegmentAndTrackWindows are met, clause by clause. -/
theorem wit_SegmentAndTrackWindows :
    (∃ (s : State) (x : BusRead),
      s.gives 0x28088 x.p = true ∧
      readOk x = true ∧
      s.segwIn = true) ∧
    (∃ (s : State) (x : BusRead),
      s.gives 0x28088 x.p = true ∧
      readOk x = true ∧
      s.segwIn = false) ∧
    (∃ (s : State) (w : Word) (p : Bool),
      s.takes 0x28088 w p = true ∧
      s.segwIn = true ∧
      s.segActiveNow (s.fld F.SEGW_SEG_SEG) = false ∧
      (s.segInDram (s.fld F.SEGW_SEG_SEG) = false ∨ (s.dramCh (64 * (s.seg (s.fld F.SEGW_SEG_SEG)).base + (4 * s.fld F.SEGW_OFS_WORD_OFS))).isSome = true)) ∧
    (∃ (s : State) (w : Word) (p : Bool),
      s.takes 0x28088 w p = true ∧
      s.segwIn = true ∧
      s.segActiveNow (s.fld F.SEGW_SEG_SEG) = true) ∧
    (∃ (s : State) (x : BusRead),
      s.gives 0xC0084 x.p = true ∧
      readOk x = true) ∧
    (∃ (s : State) (col : Bool),
      s.live = true ∧
      s.bus = [] ∧
      s.trackHeld (4 * s.fld F.TRK_WADDR_WORD) false = false ∧
      (col = false ∨ s.copyBegins (4 * s.fld F.TRK_WADDR_WORD) = false)) ∧
    (∃ (s : State),
      s.live = true ∧
      s.bus = [] ∧
      s.trackHeld (4 * s.fld F.TRK_WADDR_WORD) true = false ∧
      s.copyBegins (4 * s.fld F.TRK_WADDR_WORD) = true) ∧
    (∃ (s : State) (m : Fin 512),
      s.live = true ∧
      s.fld F.TRK_RET_EN = 1 ∧
      s.flag (retFld m.val) = false ∧
      bitOf s.sup.ownedBanks m.val = false ∧
      (m.val < 480 ∨ s.fld F.PLAN_STAT_PRESENT = 0)) ∧
    (∃ (s : State) (m : Fin 512),
      s.live = true ∧
      s.flag (retFld m.val) = true ∧
      bitOf s.sup.wakingBanks m.val = false ∧
      s.bankReader m.val = none) ∧
    (∃ (s : State) (m : Fin 512),
      s.live = true ∧
      s.flag (retFld m.val) = true ∧
      bitOf s.sup.wakingBanks m.val = true) ∧
    (∃ (s : State) (m : Fin 512) (n : Nat) (e : Nat),
      s.live = true ∧
      s.flag (retFld m.val) = true ∧
      bitOf s.sup.wakingBanks m.val = false ∧
      s.bankReader m.val = some (n, e)) :=
  ⟨⟨{ segDram.put F.SEGW_OFS_WORD_OFS 3 with pending := [] },
    ⟨false, 1, 3⟩,
    by decide +kernel⟩,
   ⟨segUp.put F.SEGW_OFS_WORD_OFS 64,
    ⟨false, 4, 0⟩,
    by decide +kernel⟩,
   ⟨segDram.put F.SEGW_OFS_WORD_OFS 3,
    0x12345678#32,
    false,
    by decide +kernel⟩,
   ⟨let r := segUp.put F.SEGW_OFS_WORD_OFS 3; let q := r.setSq 2 { resident := [0] }; { q with plan := { q.plan with stg := [⟨3, 2, 0, 0, 4⟩] } },
    0x12345678#32,
    false,
    by decide +kernel⟩,
   ⟨(up.put F.TRK_WADDR_WORD (2 ^ 26 - 1)).trackPut (2 ^ 28 - 3) [1, 2],
    ⟨false, 2, 0⟩,
    by decide +kernel⟩,
   ⟨up.put F.TRK_WADDR_WORD 9,
    true,
    by decide +kernel⟩,
   ⟨let q := (segDram.setSq 2 { loads := [0] }).put F.SEQ_STAT_HEAT 3; { q.put F.TRK_WADDR_WORD (16 * (regionGranule + 3)) with plan := { q.plan with stg := [⟨3, 2, 1, 0, 4⟩] }, mem := { q.mem with dir := [(12, 0x01000000#32), (13, 0x00000427#32)] } },
    by decide +kernel⟩,
   ⟨((up.put F.TRK_RET_EN 1).put (retFld 77) 0).put F.TRK_STAT_AWAKE 1,
    77,
    by decide +kernel⟩,
   ⟨up.put (retFld 77) 1,
    77,
    by decide +kernel⟩,
   ⟨let r := up.put (retFld 77) 1; { r with sup := { r.sup with wakingBanks := 2 ^ 77 } },
    77,
    by decide +kernel⟩,
   ⟨vecRace.put (retFld 0) 1,
    0,
    2,
    0,
    by decide +kernel⟩⟩

/-- The hypotheses of PlansComeAndGo are met, clause by clause. -/
theorem wit_PlansComeAndGo :
    (∃ (s : State) (u : State) (v : State) (x : State) (w : Word) (p : Bool),
      (s.orders F.PLAN_CTRL_LOAD [0, 1] w p = true ∧
       s.fld F.PLAN_STAT_BUSY = 0 ∧
       s.awake 1 = true ∧
       u = ((s.atBus 0x40000 (setBits 0 1 1 w) p).put F.PLAN_STAT_BUSY 1).put F.PLAN_STAT_PHASE 1 ∧
       u.loadLegal = true ∧
       u.rangeWaits (u.getSel 0x1000) u.imageHead.length = false ∧
       v = u.dramReach (u.getSel 0x1000) u.imageHead.length ∧
       v.headCheck = none ∧
       v.rangeWaits (u.getSel 0x1000) (leField v.imageHead 12 4) = false ∧
       x = v.dramReach (u.getSel 0x1000) (leField v.imageHead 12 4)) ∧
      x.bodyCheck = none) ∧
    (∃ (s : State) (w : Word) (p : Bool),
      s.orders F.PLAN_CTRL_LOAD [0, 1] w p = true ∧
      s.fld F.PLAN_STAT_BUSY = 0 ∧
      s.awake 1 = true ∧
      s.anyActive = true) ∧
    (∃ (s : State) (u : State) (x : State) (y : State),
      s.live = true ∧
      s.plan.writing = true ∧
      s.rangeWaits s.plan.addr (leField s.plan.head 12 4) = false ∧
      u = s.dramReach s.plan.addr (leField s.plan.head 12 4) ∧
      writeOrder.find? (crcBad u.reread) = none ∧
      (u.place u.reread).loadBlocks = (x, true) ∧
      x.loadTm u.reread = (y, true)) ∧
    (∃ (s : State) (u : State) (ty : Nat),
      s.live = true ∧
      s.plan.writing = true ∧
      s.rangeWaits s.plan.addr (leField s.plan.head 12 4) = false ∧
      u = s.dramReach s.plan.addr (leField s.plan.head 12 4) ∧
      writeOrder.find? (crcBad u.reread) = some ty) ∧
    (∃ (s : State) (n : Fin 8) (i : Nat) (r : StgRec),
      s.live = true ∧
      s.fld F.SEQ_STAT_HEAT = 3 ∧
      s.nextLoad n.val = some i ∧
      s.plan.stg[i]? = some r ∧
      s.blockFenced r.seg = false ∧
      ((s.blockChs r.seg).any (fun c => s.chWaits c) = false)) ∧
    (∃ (s : State) (n : Fin 8) (i : Nat) (h : Nat) (k : Nat) (r : StgRec) (u : State),
      s.live = true ∧
      s.fld F.SEQ_STAT_HEAT = 3 ∧
      s.fld F.TB_STAT_COUNTING = 1 ∧
      ((s.lateNote n.val).sqn n.val).lateFrom = some (i, h) ∧
      (s.lateNote n.val).lateTicks n.val i = some k ∧
      u = (s.lateNote n.val).arrive (h + k) ∧
      (u.sqn n.val).lateFrom = some (i, h) ∧
      u.plan.stg[i]? = some r ∧
      u.blockFenced r.seg = false ∧
      ((u.blockChs r.seg).any (fun c => u.chWaits c) = false)) :=
  ⟨⟨planUp,
    (((planUp : State).atBus 0x40000 1#32 false).put F.PLAN_STAT_BUSY 1).put F.PLAN_STAT_PHASE 1,
    ((((planUp : State).atBus 0x40000 1#32 false).put F.PLAN_STAT_BUSY 1).put F.PLAN_STAT_PHASE 1 : State),
    ((((planUp : State).atBus 0x40000 1#32 false).put F.PLAN_STAT_BUSY 1).put F.PLAN_STAT_PHASE 1 : State),
    0#32,
    false,
    by decide +kernel, planBusy_check⟩,
   ⟨race 0 100 [] none,
    0#32,
    false,
    by decide +kernel⟩,
   ⟨{ up with plan := { up.plan with writing := true, head := List.replicate 128 0 } },
    ({ up with plan := { up.plan with writing := true, head := List.replicate 128 0 } } : State).dramReach ({ up with plan := { up.plan with writing := true, head := List.replicate 128 0 } } : State).plan.addr (leField ({ up with plan := { up.plan with writing := true, head := List.replicate 128 0 } } : State).plan.head 12 4),
    ((({ up with plan := { up.plan with writing := true, head := List.replicate 128 0 } } : State).dramReach ({ up with plan := { up.plan with writing := true, head := List.replicate 128 0 } } : State).plan.addr (leField ({ up with plan := { up.plan with writing := true, head := List.replicate 128 0 } } : State).plan.head 12 4) : State).place (({ up with plan := { up.plan with writing := true, head := List.replicate 128 0 } } : State).dramReach ({ up with plan := { up.plan with writing := true, head := List.replicate 128 0 } } : State).plan.addr (leField ({ up with plan := { up.plan with writing := true, head := List.replicate 128 0 } } : State).plan.head 12 4) : State).reread).loadBlocks.1,
    ((((({ up with plan := { up.plan with writing := true, head := List.replicate 128 0 } } : State).dramReach ({ up with plan := { up.plan with writing := true, head := List.replicate 128 0 } } : State).plan.addr (leField ({ up with plan := { up.plan with writing := true, head := List.replicate 128 0 } } : State).plan.head 12 4) : State).place (({ up with plan := { up.plan with writing := true, head := List.replicate 128 0 } } : State).dramReach ({ up with plan := { up.plan with writing := true, head := List.replicate 128 0 } } : State).plan.addr (leField ({ up with plan := { up.plan with writing := true, head := List.replicate 128 0 } } : State).plan.head 12 4) : State).reread).loadBlocks.1 : State).loadTm (({ up with plan := { up.plan with writing := true, head := List.replicate 128 0 } } : State).dramReach ({ up with plan := { up.plan with writing := true, head := List.replicate 128 0 } } : State).plan.addr (leField ({ up with plan := { up.plan with writing := true, head := List.replicate 128 0 } } : State).plan.head 12 4) : State).reread).1,
    by decide +kernel⟩,
   ⟨{ up with plan := { up.plan with writing := true, head := List.replicate 6 0 ++ [1, 0] ++ List.replicate 120 0 ++ [5, 0, 0, 0, 144, 0, 0, 0] ++ List.replicate 4 0 ++ [1, 0, 0, 0] } },
    ({ up with plan := { up.plan with writing := true, head := List.replicate 6 0 ++ [1, 0] ++ List.replicate 120 0 ++ [5, 0, 0, 0, 144, 0, 0, 0] ++ List.replicate 4 0 ++ [1, 0, 0, 0] } } : State).dramReach ({ up with plan := { up.plan with writing := true, head := List.replicate 6 0 ++ [1, 0] ++ List.replicate 120 0 ++ [5, 0, 0, 0, 144, 0, 0, 0] ++ List.replicate 4 0 ++ [1, 0, 0, 0] } } : State).plan.addr (leField ({ up with plan := { up.plan with writing := true, head := List.replicate 6 0 ++ [1, 0] ++ List.replicate 120 0 ++ [5, 0, 0, 0, 144, 0, 0, 0] ++ List.replicate 4 0 ++ [1, 0, 0, 0] } } : State).plan.head 12 4),
    5,
    by decide +kernel⟩,
   ⟨let q := (segDram.setSq 2 { loads := [0] }).put F.SEQ_STAT_HEAT 3; { q with plan := { q.plan with stg := [⟨3, 2, 1, 0, 4⟩] }, mem := { q.mem with dir := [(12, 0x01000000#32), (13, 0x00000427#32)] } },
    2,
    0,
    ⟨3, 2, 1, 0, 4⟩,
    by decide +kernel⟩,
   ⟨let q := (segDram.setSq 2 { late := [0] }).put F.SEQ_STAT_HEAT 3; { q with plan := { q.plan with stg := [⟨3, 2, 0, 0, 4⟩], dcMask := 1, rows := 1, tl := [(18, 1)] }, mem := { q.mem with dir := [(12, 0x01000000#32), (13, 0x00000427#32)] } },
    2,
    0,
    0,
    64,
    ⟨3, 2, 0, 0, 4⟩,
    ((let q := (segDram.setSq 2 { late := [0] }).put F.SEQ_STAT_HEAT 3; { q with plan := { q.plan with stg := [⟨3, 2, 0, 0, 4⟩], dcMask := 1, rows := 1, tl := [(18, 1)] }, mem := { q.mem with dir := [(12, 0x01000000#32), (13, 0x00000427#32)] } } : State).lateNote 2).arrive 64,
    by decide +kernel⟩⟩

/-- The hypotheses of CompareAndFailLog are met, clause by clause. -/
theorem wit_CompareAndFailLog :
    (∃ (s : State) (vp : Fin 128) (st : Bool) (w : Word) (p : Bool),
      (s.takes ((if st then 0x90010 else 0x9000C) + 0x100 * vp.val) w p = true) ∧
      trimOk w = true ∧
      (s.shadowOf ((if st then 0x90010 else 0x9000C) + 0x100 * vp.val) = none)) ∧
    (∃ (s : State) (vp : Fin 128) (st : Bool) (w : Word) (p : Bool),
      (s.takes ((if st then 0x90010 else 0x9000C) + 0x100 * vp.val) w p = true) ∧
      trimOk w = false) ∧
    (∃ (s : State) (u : State) (b : Fin 4) (h : Nat) (l : List Strobe) (p : Fin 32) (v : Fin 8) (n : Nat) (c : Nat) (z : Comp),
      s.live = true ∧
      s.comparing h = true ∧
      s.awake (16 + b.val) = true ∧
      s.awake 0x23 = true ∧
      h ≤ s.seenAt ∧
      s.comes (s.tickNow h + 16).toNat = true ∧
      u = s.passTo (s.tickNow h + 16).toNat ∧
      u.codeAt b.val p.val v.val h = some (n, c) ∧
      z = u.compAt (32 * b.val + p.val) h (strobeUv l p.val v.val) ∧
      n < 8 ∧
      fails c z = true ∧
      bitOf (u.maskAt b.val h).toNat p.val = false) ∧
    (∃ (s : State) (u : State) (b : Fin 4) (h : Nat) (l : List Strobe),
      s.live = true ∧
      s.comparing h = true ∧
      s.awake (16 + b.val) = true ∧
      s.awake 0x23 = true ∧
      h ≤ s.seenAt ∧
      s.comes (s.tickNow h + 16).toNat = true ∧
      u = s.passTo (s.tickNow h + 16).toNat ∧
      u.failsOf b.val h l = []) ∧
    (∃ (s : State) (b : Fin 4) (st : Nat) (r : Rec) (l : List (Nat × Rec)),
      s.live = true ∧
      s.nextRec = some (false, b.val) ∧
      (s.capt b.val).fails = (st, r) :: l ∧
      s.qFull 11 = false ∧
      s.cap.tick ≠ some s.tm.tb) ∧
    (∃ (s : State) (b : Fin 4) (st : Nat) (r : Rec) (l : List (Nat × Rec)),
      s.live = true ∧
      s.nextRec = some (true, b.val) ∧
      (s.capt b.val).spans = (st, r) :: l ∧
      (s.capt b.val).wait = none ∧
      s.qFull 11 = false ∧
      s.cap.tick ≠ some s.tm.tb) ∧
    (∃ (s : State) (b : Fin 4),
      s.live = true ∧
      (s.capt b.val).drops ≠ 0 ∧
      (s.capt b.val).fails.length < 1024) :=
  ⟨⟨up,
    99,
    true,
    0x1FF0#32,
    false,
    by decide +kernel⟩,
   ⟨up,
    99,
    false,
    0x1000#32,
    false,
    by decide +kernel⟩,
   ⟨vecRace.put (F.VB_CFG_FL_ON 0) 1,
    (vecRace.put (F.VB_CFG_FL_ON 0) 1 : State).passTo ((vecRace.put (F.VB_CFG_FL_ON 0) 1 : State).tickNow 60 + 16).toNat,
    0,
    60,
    [⟨0, 0, 9000000⟩],
    0,
    0,
    2,
    4,
    ((vecRace.put (F.VB_CFG_FL_ON 0) 1 : State).passTo ((vecRace.put (F.VB_CFG_FL_ON 0) 1 : State).tickNow 60 + 16).toNat : State).compAt 0 60 9000000,
    by decide +kernel⟩,
   ⟨vecRace.put (F.VP_VTH_VTH_LO 0) 500,
    (vecRace.put (F.VP_VTH_VTH_LO 0) 500 : State).passTo ((vecRace.put (F.VP_VTH_VTH_LO 0) 500 : State).tickNow 60 + 16).toNat,
    0,
    60,
    [⟨0, 0, -5⟩],
    by decide +kernel⟩,
   ⟨up.setCapt 1 { fails := [(7, [1, 2])] },
    1,
    7,
    [1, 2],
    [],
    by decide +kernel⟩,
   ⟨(up.setCapt 1 { fails := [(7, [1, 2])] }).setCapt 2 { spans := [(9, [1, 2])] },
    2,
    9,
    [1, 2],
    [],
    by decide +kernel⟩,
   ⟨up.setCapt 1 { drops := 5, dropFails := 9, dropFirst := 100, dropLast := 200 },
    1,
    by decide +kernel⟩⟩

/-- The hypotheses of CaptureAndTimeline are met, clause by clause. -/
theorem wit_CaptureAndTimeline :
    (∃ (s : State) (b : Fin 4) (x : Span),
      s.live = true ∧
      s.fld F.SEQ_STAT_HEAT = 4 ∧
      (s.capt b.val).span = some x ∧
      s.seenAt ≤ (s.capt b.val).next ∧
      (s.capt b.val).spans.length < 16) ∧
    (∃ (s : State) (b : Fin 4) (w : Word) (p : Bool),
      s.takes (0xA0108 + 0x20 * b.val) w p = true ∧
      w.toNat < s.fld (F.CAPT_RING_SIZE_SIZE b.val) ∧
      (w.toNat + s.fld (F.CAPT_RING_SIZE_SIZE b.val) - s.fld (F.CAPT_RING_RD_RD b.val)) % s.fld (F.CAPT_RING_SIZE_SIZE b.val) ≤ s.ringLvl b.val) ∧
    (∃ (s : State) (b : Fin 4) (w : Word) (p : Bool),
      s.takes (0xA0108 + 0x20 * b.val) w p = true ∧
      s.fld (F.CAPT_RING_SIZE_SIZE b.val) ≠ 0 ∧
      (s.fld (F.CAPT_RING_SIZE_SIZE b.val) ≤ w.toNat ∨ s.ringLvl b.val < (w.toNat + s.fld (F.CAPT_RING_SIZE_SIZE b.val) - s.fld (F.CAPT_RING_RD_RD b.val)) % s.fld (F.CAPT_RING_SIZE_SIZE b.val))) ∧
    (∃ (s : State) (b : Fin 4) (w : Word) (p : Bool),
      s.takes (0xA0100 + 0x20 * b.val) w p = true) ∧
    (∃ (s : State) (x : BusRead),
      s.gives 0xA0040 x.p = true ∧
      readOk x = true) ∧
    (∃ (s : State) (x : BusRead),
      s.gives 0xA0040 x.p = true ∧
      readOk x = true) ∧
    (∃ (s : State) (x : BusRead),
      s.opens 0xA0040 x.p = true ∧
      readOk x = true ∧
      s.fld F.CAPT_CTRL_OUTBOUND = 1) ∧
    (∃ (s : State),
      s.live = true ∧
      s.fld F.SEQ_STAT_HEAT = 3 ∧
      s.bus = []) :=
  ⟨⟨(vecRace.put F.SEQ_STAT_HEAT 4).setCapt 1 { next := 101, span := some ⟨5, 0, false, 48, 3, 0, false, 0, []⟩ },
    1,
    ⟨5, 0, false, 48, 3, 0, false, 0, []⟩,
    by decide +kernel⟩,
   ⟨puts up [(F.CAPT_CTRL_OUTBOUND, 0), (F.CAPT_RING_SIZE_SIZE 1, 100), (F.CAPT_RING_WR_WR 1, 40)],
    1,
    40#32,
    false,
    by decide +kernel⟩,
   ⟨puts up [(F.CAPT_CTRL_OUTBOUND, 0), (F.CAPT_RING_SIZE_SIZE 1, 100), (F.CAPT_RING_WR_WR 1, 40)],
    1,
    41#32,
    false,
    by decide +kernel⟩,
   ⟨puts up [(F.CAPT_CTRL_OUTBOUND, 0), (F.CAPT_RING_SIZE_SIZE 1, 100), (F.CAPT_RING_WR_WR 1, 40)],
    1,
    0x10000#32,
    false,
    by decide +kernel⟩,
   ⟨{ up.put F.CAPT_CTRL_OUTBOUND 0 with q := { up.q with capq := { recs := [List.replicate 16 7], rd := 15 } } },
    ⟨true, 1, 1⟩,
    by decide +kernel⟩,
   ⟨{ up.put F.CAPT_CTRL_OUTBOUND 0 with q := { up.q with capq := { recs := [List.replicate 16 7], rd := 5 } } },
    ⟨true, 4, 0⟩,
    by decide +kernel⟩,
   ⟨up.put F.CAPT_CTRL_OUTBOUND 1,
    ⟨true, 2, 0⟩,
    by decide +kernel⟩,
   ⟨let r := dramRace; { r with plan := { r.plan with row := 6, dcMask := 3, rows := 16, tl := [(256 * 6 + 27, 2#8)] } },
    by decide +kernel⟩⟩

/-- The hypotheses of Refreshes are met, clause by clause. -/
theorem wit_Refreshes :
    (∃ (s : State) (n : Fin 8) (l : BitVec 16),
      s.live = true ∧
      s.hasLead n.val = true ∧
      s.fld (F.DRAM_PORT_PANIC n.val) = 0 ∧
      l.toNat < s.fld F.DRAM_PANIC_MARK) ∧
    (∃ (s : State) (n : Fin 8) (l : Option (BitVec 16)),
      s.live = true ∧
      s.fld (F.DRAM_PORT_PANIC n.val) = 1 ∧
      (match l with | some x => s.fld F.DRAM_PANIC_MARK + 16 ≤ x.toNat | none => s.hasLead n.val = false)) ∧
    (∃ (s : State) (c : Fin 8),
      s.live = true ∧
      s.chServes c.val = true ∧
      0 < (s.dch c.val).owed ∧
      s.fetchesOn c.val = 0) ∧
    (∃ (s : State) (c : Fin 8),
      s.live = true ∧
      s.enabled.contains c.val = true ∧
      s.fenced c.val = false ∧
      s.fld F.DRAM_REF_POST_MAX ≤ (s.dch c.val).owed) ∧
    (∃ (s : State) (c : Fin 8),
      s.live = true ∧
      s.chServes c.val = true ∧
      s.fld F.SEQ_STAT_HEAT ≠ 3) ∧
    (∃ (s : State) (c : Fin 8),
      s.live = true ∧
      s.enabled.contains c.val = true ∧
      s.flag (retrainBit c.val) = true ∧
      s.fenced c.val = false ∧
      s.fld F.SEQ_STAT_HEAT ≠ 3 ∧
      (s.dch c.val).owed < s.fld F.DRAM_REF_POST_MAX) ∧
    (∃ (s : State),
      s.live = true) ∧
    (∃ (s : State) (c : Fin 8),
      s.live = true ∧
      s.chServes c.val = true ∧
      bitOf s.sup.owned (0x18 + c.val) = false ∧
      bitOf s.sup.stay (0x18 + c.val) = false ∧
      (s.dch c.val).owed = 0 ∧
      s.fetchesOn c.val = 0 ∧
      (s.dram.job = .idle ∨ s.dram.job = .save) ∧
      s.matesIdle c.val = true) ∧
    (∃ (s : State) (c : Fin 8),
      s.live = true ∧
      s.flag (selfRef c.val) = true ∧
      s.fenced c.val = false ∧
      s.refOk = true ∧
      s.chGrouped c.val = false ∧
      s.plan.waitPll = false ∧
      s.bus = [] ∧
      s.fld F.MBX_STAT_BUSY = 0 ∧
      s.fld F.FABRIC_STAT_BUSY = 0 ∧
      s.mg.rxq = []) ∧
    (∃ (s : State) (c : Fin 8),
      s.live = true ∧
      s.flag (selfRef c.val) = true ∧
      s.fenced c.val = false ∧
      s.fld F.CLK_STAT_REF_VALID = 1 ∧
      s.chGrouped c.val = true ∧
      bitOf s.sup.waking (0x18 + c.val) = true ∧
      s.wakeHeld (0x18 + c.val) = false ∧
      s.plan.waitPll = false ∧
      s.bus = [] ∧
      s.fld F.MBX_STAT_BUSY = 0 ∧
      s.fld F.FABRIC_STAT_BUSY = 0 ∧
      s.mg.rxq = []) ∧
    (∃ (s : State),
      s.live = true ∧
      s.refOk = false) ∧
    (∃ (s : State) (c : Fin 8),
      s.live = true ∧
      s.chServes c.val = true ∧
      bitOf s.sup.owned (0x18 + c.val) = false ∧
      s.fetchesOn c.val = 0) :=
  ⟨⟨dramRace,
    2,
    5,
    by decide +kernel⟩,
   ⟨dramRace.put (F.DRAM_PORT_PANIC 2) 1,
    2,
    some 500,
    by decide +kernel⟩,
   ⟨up.setDch 3 { owed := 2 },
    3,
    by decide +kernel⟩,
   ⟨up.setDch 3 { owed := 8 },
    3,
    by decide +kernel⟩,
   ⟨up,
    3,
    by decide +kernel⟩,
   ⟨up.put (retrainBit 3) 1,
    3,
    by decide +kernel⟩,
   ⟨up.put F.DRAM_STAT_FENCED 1,
    by decide +kernel⟩,
   ⟨{ up with sup := { up.sup with stay := 0 } },
    3,
    by decide +kernel⟩,
   ⟨up.put (selfRef 3) 1,
    3,
    by decide +kernel⟩,
   ⟨let r := (((up.put (selfRef 3) 1).put (awakeBit 0x1B) 0).put (F.FABRIC_PDGRP_GRP 6) 0x0505).wr (F.FABRIC_PDGRP_GRP 6).a 0x05050000#32; { r with sup := { r.sup with waking := 2 ^ 0x1B } },
    3,
    by decide +kernel⟩,
   ⟨(up.put (selfRef 3) 1).put F.CLK_STAT_REF_VALID 0,
    by decide +kernel⟩,
   ⟨up,
    3,
    by decide +kernel⟩⟩

/-- The hypotheses of TrainingAndFences are met, clause by clause. -/
theorem wit_TrainingAndFences :
    (∃ (s : State) (w : Word) (p : Bool),
      s.orders F.DRAM_TRAIN_TRAIN [8, 9, 10, 11] w p = true ∧
      s.fld F.DRAM_TRAIN_BUSY = 0 ∧
      s.fld F.PLAN_STAT_PRESENT = 0) ∧
    (∃ (s : State) (x : Nat),
      s.live = true ∧
      s.refOk = true ∧
      s.dram.job = .train x) ∧
    (∃ (s : State) (w : Word) (p : Bool) (c : Fin 8),
      s.orders F.DRAM_TRAIN_RETRAIN [8, 9, 10, 11] w p = true ∧
      s.fld F.DRAM_TRAIN_BUSY = 0 ∧
      getBits 4 3 w = c.val ∧
      s.enabled.contains c.val = true ∧
      s.fld F.SEQ_STAT_HEAT < 2 ∧
      s.fenced c.val = false ∧
      s.flag (retrainBit c.val) = false) ∧
    (∃ (s : State) (c : Fin 8),
      s.live = true ∧
      s.chServes c.val = true) ∧
    (∃ (s : State) (c : Fin 8),
      s.live = true ∧
      s.flag (retrainBit c.val) = true ∧
      s.refOk = true ∧
      s.plan.waitPll = false ∧
      s.bus = [] ∧
      s.fld F.MBX_STAT_BUSY = 0 ∧
      s.fld F.FABRIC_STAT_BUSY = 0 ∧
      s.mg.rxq = []) ∧
    (∃ (s : State) (c : Fin 8),
      s.live = true ∧
      s.flag (retrainBit c.val) = true ∧
      s.refOk = true ∧
      s.plan.waitPll = false ∧
      s.bus = [] ∧
      s.fld F.MBX_STAT_BUSY = 0 ∧
      s.fld F.FABRIC_STAT_BUSY = 0 ∧
      s.mg.rxq = []) ∧
    (∃ (s : State) (c : Fin 8),
      s.live = true ∧
      s.flag (retrainBit c.val) = true ∧
      s.refOk = true ∧
      s.plan.waitPll = false ∧
      s.bus = [] ∧
      s.fld F.MBX_STAT_BUSY = 0 ∧
      s.fld F.FABRIC_STAT_BUSY = 0 ∧
      s.mg.rxq = []) ∧
    (∃ (s : State),
      s.live = true ∧
      s.refOk = false) ∧
    (∃ (s : State) (w : Word) (p : Bool) (c : Fin 8),
      s.orders F.DRAM_TRAIN_UNFENCE [8, 9, 10, 11] w p = true ∧
      s.fld F.DRAM_TRAIN_BUSY = 0 ∧
      s.fld F.MBX_STAT_BUSY = 0 ∧
      getBits 4 3 w = c.val ∧
      s.fenced c.val = true ∧
      s.fld F.PLAN_STAT_PRESENT = 0 ∧
      s.refOk = true ∧
      s.fld F.FABRIC_STAT_BUSY = 0 ∧
      s.mg.rxq = [] ∧
      s.plan.waitPll = false) ∧
    (∃ (s : State) (w : Word) (p : Bool) (c : Fin 8),
      s.orders F.DRAM_TRAIN_UNFENCE [8, 9, 10, 11] w p = true ∧
      s.fld F.DRAM_TRAIN_BUSY = 0 ∧
      s.fld F.MBX_STAT_BUSY = 0 ∧
      getBits 4 3 w = c.val ∧
      s.fenced c.val = true ∧
      s.fld F.PLAN_STAT_PRESENT = 0 ∧
      s.refOk = true ∧
      s.fld F.FABRIC_STAT_BUSY = 0 ∧
      s.mg.rxq = [] ∧
      s.plan.waitPll = false) ∧
    (∃ (s : State) (w : Word) (p : Bool) (c : Fin 8),
      s.orders F.DRAM_TRAIN_UNFENCE [8, 9, 10, 11] w p = true ∧
      s.fld F.DRAM_TRAIN_BUSY = 0 ∧
      getBits 4 3 w = c.val ∧
      s.fenced c.val = true ∧
      s.fld F.PLAN_STAT_PRESENT = 0 ∧
      s.refOk = false) ∧
    (∃ (s : State) (w : Word) (p : Bool) (l : List (Nat × Word)),
      s.orders F.DRAM_TRAIN_SAVE [8, 9, 10, 11] w p = true ∧
      s.fld F.DRAM_TRAIN_BUSY = 0 ∧
      (l = ((s.enabled.filter (fun c => !(s.dch c).lkg.isEmpty)).flatMap (fun c => (List.range 32).map (fun i => (384 + 32 * c + i, (s.dch c).lkg.getD i 0)))).filter (fun x => s.pvWord x.1 ≠ x.2)) ∧
      l ≠ [] ∧
      (l.any (fun x => s.pvWorn x.1) = false)) ∧
    (∃ (s : State) (c : Fin 8),
      s.live = true ∧
      s.enabled.contains c.val = true) ∧
    (∃ (s : State) (c : Fin 8),
      s.live = true ∧
      s.enabled.contains c.val = true ∧
      s.fenced c.val = true) :=
  ⟨⟨up,
    4#32,
    false,
    by decide +kernel⟩,
   ⟨{ up.put F.DRAM_TRAIN_BUSY 1 with dram := { up.dram with job := .train 4 } },
    4,
    by decide +kernel⟩,
   ⟨up,
    0x30#32,
    false,
    3,
    by decide +kernel⟩,
   ⟨up,
    3,
    by decide +kernel⟩,
   ⟨{ up.put (retrainBit 3) 1 with dram := { up.dram with job := .retrain 3 } },
    3,
    by decide +kernel⟩,
   ⟨{ up.put (retrainBit 3) 1 with dram := { up.dram with job := .retrain 3 } },
    3,
    by decide +kernel⟩,
   ⟨{ up.put (retrainBit 3) 1 with dram := { up.dram with job := .retrain 3 } },
    3,
    by decide +kernel⟩,
   ⟨(up.put (retrainBit 3) 1).put F.CLK_STAT_REF_VALID 0,
    by decide +kernel⟩,
   ⟨up.put (fencedBit 3) 1,
    0x30#32,
    false,
    3,
    by decide +kernel⟩,
   ⟨up.put (fencedBit 3) 1,
    0x30#32,
    false,
    3,
    by decide +kernel⟩,
   ⟨(up.put (fencedBit 3) 1).put F.CLK_STAT_REF_VALID 0,
    0x30#32,
    false,
    3,
    by decide +kernel⟩,
   ⟨up.setDch 3 { lkg := 5#32 :: List.replicate 31 0 },
    0#32,
    false,
    [(480, 5#32)],
    by decide +kernel⟩,
   ⟨up,
    3,
    by decide +kernel⟩,
   ⟨up.put (fencedBit 3) 1,
    3,
    by decide +kernel⟩⟩

/-- The hypotheses of PortsAndLinks are met, clause by clause. -/
theorem wit_PortsAndLinks :
    (∃ (s : State) (pt : Fin 2) (w : Word) (p : Bool),
      s.takes (0xE0000 + 0x1000 * pt.val) (setBits 0 1 1 w) p = true ∧
      s.fld (F.NET_CTRL_EN pt.val) = 0) ∧
    (∃ (s : State) (pt : Fin 2),
      s.live = true ∧
      s.bus = [] ∧
      s.hasOther pt.val = true ∧
      s.awake (0x20 + pt.val) = false) ∧
    (∃ (s : State) (pt : Fin 2) (w : Word) (p : Bool),
      s.takes (0xE0000 + 0x1000 * pt.val) (setBits 0 1 0 w) p = true ∧
      s.fld (F.NET_CTRL_EN pt.val) = 1) ∧
    (∃ (s : State) (pt : Fin 2) (w : Word) (p : Bool),
      s.takes (0xE0000 + 0x1000 * pt.val) (setBits 0 1 0 w) p = true ∧
      s.fld (F.NET_CTRL_EN pt.val) = 0) ∧
    (∃ (s : State) (pt : Fin 2),
      s.live = true ∧
      s.awake (0x20 + pt.val) = true ∧
      s.plan.waitPll = false ∧
      s.bus = [] ∧
      s.fld F.MBX_STAT_BUSY = 0 ∧
      s.fld F.FABRIC_STAT_BUSY = 0 ∧
      s.mg.rxq = []) ∧
    (∃ (s : State) (pt : Fin 2),
      s.live = true ∧
      s.awake (0x20 + pt.val) = false ∧
      bitOf s.sup.waking (0x20 + pt.val) = true ∧
      s.wakeHeld (0x20 + pt.val) = false ∧
      s.maySleep (0x20 + pt.val) = false ∧
      s.plan.waitPll = false ∧
      s.bus = [] ∧
      s.fld F.MBX_STAT_BUSY = 0 ∧
      s.fld F.FABRIC_STAT_BUSY = 0 ∧
      s.mg.rxq = []) ∧
    (∃ (s : State) (pt : Fin 2),
      s.live = true ∧
      s.awake (0x20 + pt.val) = false ∧
      bitOf s.sup.waking (0x20 + pt.val) = true ∧
      s.groupOf (0x20 + pt.val) = [0x20 + pt.val] ∧
      s.maySleep (0x20 + pt.val) = true ∧
      s.plan.waitPll = false ∧
      s.bus = [] ∧
      s.fld F.MBX_STAT_BUSY = 0 ∧
      s.fld F.FABRIC_STAT_BUSY = 0 ∧
      s.mg.rxq = []) ∧
    (∃ (s : State),
      s.live = true ∧
      bitOf s.sup.waking 0x22 = true ∧
      s.wakeHeld 0x22 = false ∧
      s.maySleep 0x22 = false ∧
      s.plan.waitPll = false ∧
      s.bus = [] ∧
      s.fld F.MBX_STAT_BUSY = 0 ∧
      s.fld F.FABRIC_STAT_BUSY = 0 ∧
      s.mg.rxq = []) ∧
    (∃ (s : State) (pt : Fin 2) (k : Fin 4),
      s.live = true ∧
      s.fld (F.NET_CTRL_EN pt.val) = 1 ∧
      s.fld (F.NET_STAT_READY pt.val) = 1 ∧
      linkExists (s.fld (F.NET_CTRL_MODE pt.val)) k.val = true) ∧
    (∃ (s : State),
      s.live = true) :=
  ⟨⟨up,
    1,
    0x2A#32,
    false,
    by decide +kernel⟩,
   ⟨up.put (awakeBit 0x21) 0,
    1,
    by decide +kernel⟩,
   ⟨netUp,
    0,
    0#32,
    false,
    by decide +kernel⟩,
   ⟨(up.put (F.NET_CTRL_MODE 1) 2).setDest 3 (some ⟨1, 3, 0, false, 0, 4791, 7, 1, 2, 3, 4791⟩),
    1,
    2#32,
    false,
    by decide +kernel⟩,
   ⟨up,
    1,
    by decide +kernel⟩,
   ⟨{ up.put (awakeBit 0x21) 0 with sup := { up.sup with waking := 2 ^ 0x21, domJob := some 0x21 } },
    1,
    by decide +kernel⟩,
   ⟨{ up.put (awakeBit 0x21) 0 with sup := { up.sup with waking := 2 ^ 0x21, stay := 0 } },
    1,
    by decide +kernel⟩,
   ⟨{ up.put (awakeBit 0x22) 0 with sup := { up.sup with waking := 2 ^ 0x22 } },
    by decide +kernel⟩,
   ⟨txWait.put (F.NET_STAT_LINK_UP 0) 0,
    0,
    0,
    by decide +kernel⟩,
   ⟨txWait,
    by decide +kernel⟩⟩

/-- The hypotheses of PortFrames are met, clause by clause. -/
theorem wit_PortFrames :
    (∃ (s : State) (pt : Fin 2) (k : Fin 4) (f : RxFrame) (b : List Byte) (p : Bool),
      s.live = true ∧
      s.linkUp pt.val k.val = true ∧
      s.arpIn pt.val k.val f.bytes = some (b, p)) ∧
    (∃ (s : State) (pt : Fin 2) (k : Fin 4) (f : RxFrame),
      s.live = true ∧
      s.linkUp pt.val k.val = true ∧
      s.arpIn pt.val k.val f.bytes = none) ∧
    (∃ (s : State) (pt : Fin 2) (k : Fin 4) (f : RxFrame) (b : List Byte) (p : Bool),
      s.live = true ∧
      s.linkUp pt.val k.val = true ∧
      s.ndIn pt.val k.val f.bytes = some (b, p)) ∧
    (∃ (s : State) (pt : Fin 2) (k : Fin 4) (f : RxFrame),
      s.live = true ∧
      s.linkUp pt.val k.val = true ∧
      s.ndIn pt.val k.val f.bytes = none) ∧
    (∃ (s : State) (pt : Fin 2) (k : Fin 4) (p : Bool) (n : BitVec 16),
      s.live = true ∧
      s.linkUp pt.val k.val = true ∧
      (s.fld (F.NET_CTRL_FC pt.val) = if p then 2 else 1) ∧
      n ≠ 0) ∧
    (∃ (s : State) (pt : Fin 2) (k : Fin 4) (p : Bool),
      s.live = true ∧
      s.linkUp pt.val k.val = true ∧
      (s.fld (F.NET_CTRL_FC pt.val) = if p then 2 else 1)) ∧
    (∃ (s : State) (pt : Fin 2) (k : Fin 4) (p : Bool),
      s.live = true ∧
      s.linkUp pt.val k.val = true ∧
      (s.fld (F.NET_CTRL_FC pt.val) ≠ if p then 2 else 1)) ∧
    (∃ (s : State),
      s.live = true) ∧
    (∃ (s : State) (pt : Fin 2),
      s.live = true ∧
      (s.netPort pt.val).bp.isSome = true ∧
      s.fcOn pt.val = true) ∧
    (∃ (s : State) (pt : Fin 2),
      s.live = true ∧
      ((s.netPort pt.val).bp = none ∨ s.fcOn pt.val = false)) ∧
    (∃ (s : State) (pt : Fin 2) (k : Fin 4),
      s.live = true ∧
      s.linkUp pt.val k.val = true) ∧
    (∃ (s : State) (pt : Fin 2) (k : Fin 4) (f : RxFrame),
      s.live = true ∧
      s.linkUp pt.val k.val = true ∧
      s.accepts pt.val k.val f.bytes = false) ∧
    (∃ (s : State) (pt : Fin 2) (k : Fin 4) (f : RxFrame),
      s.live = true ∧
      s.linkUp pt.val k.val = true ∧
      s.accepts pt.val k.val f.bytes = true) :=
  ⟨⟨netUp,
    0,
    0,
    ⟨arpBytes⟩,
    arpBytes.drop 14,
    false,
    by decide +kernel⟩,
   ⟨netUp,
    0,
    0,
    ⟨ndBytes⟩,
    by decide +kernel⟩,
   ⟨netUp,
    0,
    0,
    ⟨ndBytes⟩,
    ndBytes.drop 14,
    false,
    by decide +kernel⟩,
   ⟨netUp,
    0,
    0,
    ⟨arpBytes⟩,
    by decide +kernel⟩,
   ⟨netUp.put (F.NET_CTRL_FC 0) 2,
    0,
    0,
    true,
    100,
    by decide +kernel⟩,
   ⟨txWait.put (F.NET_CTRL_FC 0) 2,
    0,
    0,
    true,
    by decide +kernel⟩,
   ⟨netUp,
    0,
    0,
    false,
    by decide +kernel⟩,
   ⟨txWait.put (F.NET_CTRL_FC 0) 2,
    by decide +kernel⟩,
   ⟨(netUp.setPort 0 { bp := some 5 }).put (F.NET_CTRL_FC 0) 2,
    0,
    by decide +kernel⟩,
   ⟨netUp,
    0,
    by decide +kernel⟩,
   ⟨netUp,
    0,
    0,
    by decide +kernel⟩,
   ⟨netUp,
    0,
    0,
    ⟨[1, 2, 3]⟩,
    by decide +kernel⟩,
   ⟨netUp,
    0,
    0,
    ⟨arpBytes⟩,
    by decide +kernel⟩⟩

/-- The hypotheses of BatonSessions are met, clause by clause. -/
theorem wit_BatonSessions :
    (∃ (s : State) (pt : Fin 2) (k : Fin 4) (h : RxFrame) (d : Datagram),
      s.batonOn pt.val k.val = true ∧
      s.datagram pt.val k.val h.bytes = some d ∧
      (d.body.length < 32 ∨ beNat (d.body.take 2) ≠ 0xBA70 ∨ beNat ((d.body.drop 2).take 1) ≠ 1 ∨ (beNat ((d.body.drop 3).take 1) = 1 ∧ beNat ((d.body.drop 28).take 4) ≠ (crc32c (d.body.take 28)).toNat))) ∧
    (∃ (s : State) (pt : Fin 2) (k : Fin 4) (h : RxFrame),
      s.live = true ∧
      s.linkUp pt.val k.val = true ∧
      s.datagram pt.val k.val h.bytes = none) ∧
    (∃ (s : State) (pt : Fin 2) (k : Fin 4) (h : RxFrame) (x : BatIn),
      s.batonOn pt.val k.val = true ∧
      s.frameIn pt.val k.val h = some x ∧
      x.type = 2 ∧
      s.openCheck (x.grant % 1024) (beNat (x.body.take 4)) x.ofs (beNat ((x.body.drop 8).take 8)) x.skey x.ip x.port ≠ stOk) ∧
    (∃ (s : State) (pt : Fin 2) (k : Fin 4) (h : RxFrame) (x : BatIn) (e : Nat) (a : Nat),
      s.batonOn pt.val k.val = true ∧
      s.frameIn pt.val k.val h = some x ∧
      x.type = 2 ∧
      e = beNat ((x.body.drop 8).take 8) ∧
      s.openCheck (x.grant % 1024) (beNat (x.body.take 4)) x.ofs e x.skey x.ip x.port = stOk ∧
      s.session x.skey = none ∧
      (a = (match (s.grant (x.grant % 1024)).ranges.find? (fun r => decide (r.a = x.ofs) && decide (r.e = e)) with | some r => r.acked | none => x.ofs)) ∧
      a ≠ e) ∧
    (∃ (s : State) (pt : Fin 2) (k : Fin 4) (h : RxFrame) (x : BatIn) (y : Sess),
      s.batonOn pt.val k.val = true ∧
      s.frameIn pt.val k.val h = some x ∧
      x.type = 5 ∧
      s.match' x = some y ∧
      (s.netPort 0).bp = none ∧
      (s.netPort 1).bp = none ∧
      (s.netPort 0).buf = [] ∧
      (s.netPort 1).buf = [] ∧
      0 < s.fld F.BAT_BUF_XOFF_KIB) ∧
    (∃ (s : State) (pt : Fin 2) (k : Fin 4) (h : RxFrame) (x : BatIn) (y : Sess),
      s.batonOn pt.val k.val = true ∧
      s.frameIn pt.val k.val h = some x ∧
      x.type = 7 ∧
      s.match' x = some y) ∧
    (∃ (s : State) (n : BitVec 32) (y : Sess),
      s.live = true ∧
      s.session n.toNat = some y) ∧
    (∃ (s : State) (n : BitVec 32) (y : Sess),
      s.live = true ∧
      s.session n.toNat = some y ∧
      (s.netPort 0).bp = none ∧
      (s.netPort 1).bp = none ∧
      (s.netPort 0).buf = [] ∧
      (s.netPort 1).buf = [] ∧
      0 < s.fld F.BAT_BUF_XOFF_KIB) :=
  ⟨⟨batUp,
    0,
    0,
    wire ((batFrame ⟨1, 9, 1, 64, 64, 3, 0, 0⟩ (List.replicate 64 1)).set 5 1),
    ⟨0xFFFF0A000001, 0xFFFF00000000, 4791, up.fld F.BAT_UDP_PORT, (batFrame ⟨1, 9, 1, 64, 64, 3, 0, 0⟩ (List.replicate 64 1)).set 5 1⟩,
    by decide +kernel⟩,
   ⟨batUp,
    0,
    0,
    ⟨List.replicate 64 1⟩,
    by decide +kernel⟩,
   ⟨batUp,
    0,
    0,
    bfr 2 9 128 (openBody 8 256),
    bin 2 9 128 (openBody 8 256),
    by decide +kernel⟩,
   ⟨batUp,
    0,
    0,
    bfr 2 10 128 (openBody 7 256),
    bin 2 10 128 (openBody 7 256),
    256,
    128,
    by decide +kernel⟩,
   ⟨batUp,
    0,
    0,
    bfr 5 9 0 ([]),
    bin 5 9 0 ([]),
    ses 64,
    by decide +kernel⟩,
   ⟨batUp,
    0,
    0,
    bfr 7 9 0 ([]),
    bin 7 9 0 ([]),
    ses 64,
    by decide +kernel⟩,
   ⟨{ batUp with bat := { batUp.bat with sess := [{ ses 64 with due := true }] } },
    9,
    { ses 64 with due := true },
    by decide +kernel⟩,
   ⟨batUp,
    9,
    ses 64,
    by decide +kernel⟩⟩

/-- The hypotheses of BatonData are met, clause by clause. -/
theorem wit_BatonData :
    (∃ (s : State) (pt : Fin 2) (k : Fin 4) (h : RxFrame) (x : BatIn),
      s.batonOn pt.val k.val = true ∧
      s.frameIn pt.val k.val h = some x ∧
      x.type = 1 ∧
      s.match' x = none) ∧
    (∃ (s : State) (pt : Fin 2) (k : Fin 4) (h : RxFrame) (x : BatIn) (y : Sess),
      s.batonOn pt.val k.val = true ∧
      s.frameIn pt.val k.val h = some x ∧
      x.type = 1 ∧
      s.match' x = some y ∧
      (x.len % 64 ≠ 0 ∨ x.len < 64 ∨ 8192 < x.len ∨ x.ofs % 64 ≠ 0 ∨ y.e < x.ofs + x.len)) ∧
    (∃ (s : State) (pt : Fin 2) (k : Fin 4) (h : RxFrame) (x : BatIn) (y : Sess),
      s.batonOn pt.val k.val = true ∧
      s.frameIn pt.val k.val h = some x ∧
      x.type = 1 ∧
      s.match' x = some y ∧
      x.len % 64 = 0 ∧
      64 ≤ x.len ∧
      x.len ≤ 8192 ∧
      x.ofs % 64 = 0 ∧
      x.ofs + x.len ≤ y.e ∧
      x.ofs = y.rx ∧
      (s.netPort pt.val).fill + x.len ≤ 8388608) ∧
    (∃ (s : State) (pt : Fin 2) (k : Fin 4) (h : RxFrame) (x : BatIn) (y : Sess),
      s.batonOn pt.val k.val = true ∧
      s.frameIn pt.val k.val h = some x ∧
      x.type = 1 ∧
      s.match' x = some y ∧
      x.len % 64 = 0 ∧
      64 ≤ x.len ∧
      x.len ≤ 8192 ∧
      x.ofs % 64 = 0 ∧
      x.ofs + x.len ≤ y.e ∧
      x.ofs = y.rx ∧
      8388608 < (s.netPort pt.val).fill + x.len) ∧
    (∃ (s : State) (pt : Fin 2) (k : Fin 4) (h : RxFrame) (x : BatIn) (y : Sess),
      s.batonOn pt.val k.val = true ∧
      s.frameIn pt.val k.val h = some x ∧
      x.type = 1 ∧
      s.match' x = some y ∧
      x.len % 64 = 0 ∧
      64 ≤ x.len ∧
      x.len ≤ 8192 ∧
      x.ofs % 64 = 0 ∧
      x.ofs + x.len ≤ y.e ∧
      x.ofs < y.rx) ∧
    (∃ (s : State) (pt : Fin 2) (k : Fin 4) (h : RxFrame) (x : BatIn) (y : Sess),
      s.batonOn pt.val k.val = true ∧
      s.frameIn pt.val k.val h = some x ∧
      x.type = 1 ∧
      s.match' x = some y ∧
      x.len % 64 = 0 ∧
      64 ≤ x.len ∧
      x.len ≤ 8192 ∧
      x.ofs % 64 = 0 ∧
      x.ofs + x.len ≤ y.e ∧
      y.rx < x.ofs) ∧
    (∃ (s : State) (pt : Fin 2) (b : Buffered) (l : List Buffered) (x : Sess) (a : Nat),
      s.live = true ∧
      s.awake 0x22 = true ∧
      (s.netPort pt.val).buf = b :: l ∧
      s.session b.skey = some x ∧
      b.ofs = s.acked x ∧
      a = (s.grant x.slot).base + b.ofs ∧
      s.landsActive a b.data.length = false ∧
      ((s.grant x.slot).kind = 1 → s.segActiveNow (s.grant x.slot).seg = false) ∧
      s.landsFenced a b.data.length = false ∧
      s.landsBusy a b.data.length = false ∧
      (∃ r ∈ (s.grant x.slot).ranges, r.a = x.a ∧ r.e = x.e)) ∧
    (∃ (s : State) (pt : Fin 2) (b : Buffered) (x : Sess) (a : Nat),
      s.live = true ∧
      s.awake 0x22 = true ∧
      (s.netPort pt.val).buf = [b] ∧
      s.session b.skey = some x ∧
      b.ofs = s.acked x ∧
      a = (s.grant x.slot).base + b.ofs ∧
      s.landsActive a b.data.length = false ∧
      ((s.grant x.slot).kind = 1 → s.segActiveNow (s.grant x.slot).seg = false) ∧
      s.landsFenced a b.data.length = false ∧
      s.landsBusy a b.data.length = false ∧
      (s.grant x.slot).ranges = [⟨x.a, x.e, x.e - b.data.length⟩] ∧
      x.a = 0 ∧
      b.data.length ≤ x.e ∧
      (s.grant x.slot).len = x.e) ∧
    (∃ (s : State) (pt : Fin 2) (b : Buffered) (l : List Buffered) (x : Sess) (a : Nat),
      s.live = true ∧
      s.awake 0x22 = true ∧
      (s.netPort pt.val).buf = b :: l ∧
      s.session b.skey = some x ∧
      b.ofs = s.acked x ∧
      a = (s.grant x.slot).base + b.ofs ∧
      (s.landsActive a b.data.length = true ∨ ((s.grant x.slot).kind = 1 ∧ s.segActiveNow (s.grant x.slot).seg = true) ∨ s.landsFenced a b.data.length = true)) ∧
    (∃ (s : State) (pt : Fin 2) (b : Buffered) (l : List Buffered) (x : Sess),
      s.live = true ∧
      s.awake 0x22 = true ∧
      (s.netPort pt.val).buf = b :: l ∧
      s.session b.skey = some x ∧
      b.ofs ≠ s.acked x) :=
  ⟨⟨batUp,
    0,
    0,
    bfr 1 10 64 (List.replicate 64 1),
    bin 1 10 64 (List.replicate 64 1),
    by decide +kernel⟩,
   ⟨batUp,
    0,
    0,
    bfr 1 9 64 (List.replicate 63 1),
    bin 1 9 64 (List.replicate 63 1),
    ses 64,
    by decide +kernel⟩,
   ⟨batUp,
    0,
    0,
    bfr 1 9 64 (List.replicate 64 1),
    bin 1 9 64 (List.replicate 64 1),
    ses 64,
    by decide +kernel⟩,
   ⟨batUp.setPort 0 { buf := List.replicate 1024 ⟨9, 0, List.replicate 8192 5⟩ },
    0,
    0,
    bfr 1 9 64 (List.replicate 64 1),
    bin 1 9 64 (List.replicate 64 1),
    ses 64,
    by decide +kernel⟩,
   ⟨batUp,
    0,
    0,
    bfr 1 9 0 (List.replicate 64 1),
    bin 1 9 0 (List.replicate 64 1),
    ses 64,
    by decide +kernel⟩,
   ⟨{ batUp with bat := { batUp.bat with sess := [ses 0] } },
    0,
    0,
    bfr 1 9 64 (List.replicate 64 1),
    bin 1 9 64 (List.replicate 64 1),
    ses 0,
    by decide +kernel⟩,
   ⟨ingest,
    0,
    ⟨9, 0, List.replicate 64 5⟩,
    [],
    ses 64,
    2 ^ 30,
    by decide +kernel⟩,
   ⟨{ ingest with mem := { dir := [(21, 0x00000020#32)] }, bat := { ingest.bat with grants := [(3, ⟨1, 5, 7, 2, 2 ^ 30, 128, 0, [⟨0, 128, 64⟩]⟩)] } }.setPort 0 { buf := [⟨9, 64, List.replicate 64 5⟩] },
    0,
    ⟨9, 64, List.replicate 64 5⟩,
    ses 64,
    2 ^ 30 + 64,
    by decide +kernel⟩,
   ⟨ingest.put F.DRAM_STAT_FENCED 255,
    0,
    ⟨9, 0, List.replicate 64 5⟩,
    [],
    ses 64,
    2 ^ 30,
    by decide +kernel⟩,
   ⟨batUp.setPort 0 { buf := [⟨9, 64, List.replicate 64 5⟩] },
    0,
    ⟨9, 64, List.replicate 64 5⟩,
    [],
    ses 64,
    by decide +kernel⟩⟩

/-- The hypotheses of BatonRecords are met, clause by clause. -/
theorem wit_BatonRecords :
    (∃ (s : State) (w : Word) (p : Bool),
      s.takes 0xD0040 w p = true ∧
      bitOf s.q.upset 10 = false) ∧
    (∃ (s : State) (r : Rec) (l : List Rec) (b : List Byte),
      s.live = true ∧
      s.awake 0x22 = true ∧
      (s.getQ 10).recs = r :: l ∧
      b = recBytes r ∧
      leField b 0 1 = 1 ∧
      batqClean b = true ∧
      leField b 4 2 ≤ 1023 ∧
      1 ≤ leField b 12 1 ∧
      leField b 12 1 ≤ 16 ∧
      s.fld F.PLAN_STAT_PRESENT = 1 ∧
      (s.grant (leField b 4 2)).kind = 0 ∧
      (s.bat.grants.any (fun c => decide (c.2.kind = 1) && decide (c.2.seg = leField b 6 2)) = false) ∧
      (s.seg (leField b 6 2)).slen16 ≠ 0 ∧
      (s.seg (leField b 6 2)).dram = true) ∧
    (∃ (s : State) (r : Rec) (l : List Rec) (b : List Byte),
      s.live = true ∧
      s.awake 0x22 = true ∧
      (s.getQ 10).recs = r :: l ∧
      b = recBytes r ∧
      leField b 0 1 = 2 ∧
      batqClean b = true ∧
      leField b 4 2 ≤ 1023 ∧
      1 ≤ leField b 12 1 ∧
      leField b 12 1 ≤ 16 ∧
      leField b 16 8 % 64 = 0 ∧
      leField b 24 8 % 64 = 0 ∧
      0 < leField b 24 8 ∧
      (s.grant (leField b 4 2)).kind = 0 ∧
      s.resBytes ≤ leField b 16 8 ∧
      leField b 16 8 + leField b 24 8 ≤ s.resBytes + s.heatBytes ∧
      s.usedSegs = []) ∧
    (∃ (s : State) (r : Rec) (l : List Rec) (b : List Byte),
      s.live = true ∧
      s.awake 0x22 = true ∧
      (s.getQ 10).recs = r :: l ∧
      b = recBytes r ∧
      leField b 0 1 = 3 ∧
      batqClean b = true ∧
      leField b 4 2 ≤ 1023 ∧
      (s.grant (leField b 4 2)).kind ≠ 0) ∧
    (∃ (s : State) (r : Rec) (l : List Rec) (b : List Byte) (y : Sess),
      s.live = true ∧
      s.awake 0x22 = true ∧
      (s.getQ 10).recs = r :: l ∧
      b = recBytes r ∧
      leField b 0 1 = 4 ∧
      batqClean b = true ∧
      s.session (leField b 8 4) = some y) ∧
    (∃ (s : State) (r : Rec) (l : List Rec) (b : List Byte),
      s.live = true ∧
      s.awake 0x22 = true ∧
      (s.getQ 10).recs = r :: l ∧
      b = recBytes r ∧
      leField b 0 1 = 5 ∧
      batqClean b = true ∧
      leField b 4 1 ≤ 4 ∧
      s.hasOther (leField b 5 1 / 4) = true ∧
      linkExists (s.fld (F.NET_CTRL_MODE (leField b 5 1 / 4))) (leField b 5 1 % 4) = true) ∧
    (∃ (s : State) (r : Rec) (l : List Rec) (b : List Byte),
      s.live = true ∧
      s.awake 0x22 = true ∧
      (s.getQ 10).recs = r :: l ∧
      b = recBytes r ∧
      leField b 0 1 = 6 ∧
      batqClean b = true) ∧
    (∃ (s : State) (r : Rec) (l : List Rec) (w : Fin 16) (c : Nat × Instr),
      c ∈ [(1, Instr.grantSeg (some w)), (2, Instr.grantRegion (some w)), (3, Instr.revoke (some w)), (4, Instr.retire (some w)), (5, Instr.outDest (some w)), (6, Instr.batqMark (some w))] ∧
      s.live = true ∧
      s.awake 0x22 = true ∧
      (s.getQ 10).recs = r :: l ∧
      leField (recBytes r) 0 1 = c.1) ∧
    (∃ (s : State) (w : Word) (p : Bool),
      s.takes 0xD0000 (setBits 0 1 0 w) p = true ∧
      s.fld F.BAT_CTRL_EN = 1) :=
  ⟨⟨up.setQ 10 { part := List.replicate 15 1 },
    4#32,
    true,
    by decide +kernel⟩,
   ⟨batqOf [1, 0, 7, 0, 3, 0, 5, 0, 9, 9, 9, 9, 2] ({ up.put F.PLAN_STAT_PRESENT 1 with mem := { dir := [(4 * 5, 0x01000000#32), (4 * 5 + 1, 0x00000821#32)] } }),
    brec [1, 0, 7, 0, 3, 0, 5, 0, 9, 9, 9, 9, 2],
    [],
    recBytes (brec [1, 0, 7, 0, 3, 0, 5, 0, 9, 9, 9, 9, 2]),
    by decide +kernel⟩,
   ⟨batqOf [2, 0, 7, 0, 3, 0, 0, 0, 9, 9, 9, 9, 2, 0, 0, 0, 0, 0, 0, 64, 0, 0, 0, 0, 0, 1] (up),
    brec [2, 0, 7, 0, 3, 0, 0, 0, 9, 9, 9, 9, 2, 0, 0, 0, 0, 0, 0, 64, 0, 0, 0, 0, 0, 1],
    [],
    recBytes (brec [2, 0, 7, 0, 3, 0, 0, 0, 9, 9, 9, 9, 2, 0, 0, 0, 0, 0, 0, 64, 0, 0, 0, 0, 0, 1]),
    by decide +kernel⟩,
   ⟨batqOf [3, 0, 7, 0, 3] (batUp),
    brec [3, 0, 7, 0, 3],
    [],
    recBytes (brec [3, 0, 7, 0, 3]),
    by decide +kernel⟩,
   ⟨batqOf [4, 0, 7, 0, 0, 0, 0, 0, 9] (batUp),
    brec [4, 0, 7, 0, 0, 0, 0, 0, 9],
    [],
    recBytes (brec [4, 0, 7, 0, 0, 0, 0, 0, 9]),
    ses 64,
    by decide +kernel⟩,
   ⟨batqOf [5, 0, 7, 0, 2, 4, 9] (up),
    brec [5, 0, 7, 0, 2, 4, 9],
    [],
    recBytes (brec [5, 0, 7, 0, 2, 4, 9]),
    by decide +kernel⟩,
   ⟨batqOf [6, 0, 7, 1] (batUp),
    brec [6, 0, 7, 1],
    [],
    recBytes (brec [6, 0, 7, 1]),
    by decide +kernel⟩,
   ⟨batqOf [3, 0, 7, 0, 3] batUp,
    brec [3, 0, 7, 0, 3],
    [],
    4,
    (3, .revoke (some 4)),
    by decide +kernel⟩,
   ⟨ingest,
    0#32,
    false,
    by decide +kernel⟩⟩

/-- The hypotheses of OutboundStreams are met, clause by clause. -/
theorem wit_OutboundStreams :
    (∃ (s : State) (n : Nat),
      s.streamOpen 0 = true ∧
      n = min (s.level 11) (s.outMax / 64) ∧
      n ≠ 0) ∧
    (∃ (s : State) (i : Fin 4) (n : Nat),
      s.streamOpen (i.val + 1) = true ∧
      n = min (min (s.ringLvl i.val) (s.outMax / 64)) (s.fld (F.CAPT_RING_SIZE_SIZE i.val) - s.fld (F.CAPT_RING_RD_RD i.val)) ∧
      n ≠ 0 ∧
      s.landsBusy (s.getSel (0x2800 + i.val) + 64 * s.fld (F.CAPT_RING_RD_RD i.val)) (64 * n) = false) :=
  ⟨⟨(outUp 0).setQ 11 { recs := [List.replicate 16 7] },
    1,
    by decide +kernel⟩,
   ⟨((outUp 2).put (F.CAPT_RING_SIZE_SIZE 1) 100).put (F.CAPT_RING_WR_WR 1) 3,
    1,
    3,
    by decide +kernel⟩⟩

/-- The hypotheses of StartUpRuns are met, clause by clause. -/
theorem wit_StartUpRuns :
    (∃ (s : State) (e : StartEnv),
      s.sup.por = true ∧
      s.fld F.SUP_STAT_STAGE = 1 ∧
      s.fld F.DBG_STAT_FROZEN = 0 ∧
      s.fld F.DBG_STAT_ASLEEP = 0 ∧
      s.sup.frzLow = false ∧
      (e.recovery = true ∨ s.curRec = none)) ∧
    (∃ (s : State) (e : StartEnv) (u : State),
      (s.sup.por = false ∧
       s.fld F.SUP_STAT_STAGE = 5 ∧
       s.fld F.DBG_STAT_FROZEN = 0 ∧
       s.fld F.DBG_STAT_ASLEEP = 0 ∧
       (e.ref = true ∨ s.fld F.CLK_STAT_REF_VALID = 1) ∧
       u.reserveLost = false ∧
       u.imageOk = true) ∧
      u = ((((s.startRef e).stage5 e).stage6 e).stage7 e).stage8 e) :=
  ⟨⟨State.reset,
    env false true,
    by decide +kernel⟩,
   ⟨waits5,
    env false true,
    (((((waits5 : State).startRef (env false true : StartEnv)).stage5 (env false true : StartEnv)).stage6 (env false true : StartEnv)).stage7 (env false true : StartEnv)).stage8 (env false true : StartEnv),
    by decide +kernel, rfl⟩⟩

/-- The hypotheses of ResetsAndSleep are met, clause by clause. -/
theorem wit_ResetsAndSleep :
    (∃ (s : State) (c : Instr),
      (c = .porNLow ∨ c = .brownOut) ∧
      s.fld F.UPD_STAT_STAGE = 0 ∧
      s.mem.otpJob = none) ∧
    (∃ (s : State) (w : Word) (p : Bool),
      s.orders F.SUP_RESET_WARM [0] w p = true ∧
      s.fld F.UPD_STAT_STAGE = 0 ∧
      s.mem.otpJob = none) ∧
    (∃ (s : State) (w : Word) (p : Bool),
      s.orders F.SUP_PWR_SLEEP [0] w p = true ∧
      s.fld F.SUP_PWR_BUSY = 0 ∧
      s.fld F.SUP_STAT_PSTATE = 1 ∧
      (s.fld F.SUP_WAKE_PIN_EN = 1 ∨ s.fld F.SUP_WAKE_JTAG_EN = 1 ∨ s.fld F.SUP_WAKE_TIMER_EN = 1) ∧
      (s.fld F.SUP_WAKE_TIMER_EN = 0 ∨ s.fld F.SUP_WAKE_TIMER_MS ≠ 0)) ∧
    (∃ (s : State) (w : Word) (p : Bool),
      s.orders F.SUP_PWR_SLEEP [0] w p = true ∧
      s.fld F.SUP_PWR_BUSY = 0 ∧
      (s.fld F.SUP_STAT_PSTATE ≠ 1 ∨ (s.fld F.SUP_WAKE_PIN_EN = 0 ∧ s.fld F.SUP_WAKE_JTAG_EN = 0 ∧ s.fld F.SUP_WAKE_TIMER_EN = 0) ∨ (s.fld F.SUP_WAKE_TIMER_EN = 1 ∧ s.fld F.SUP_WAKE_TIMER_MS = 0))) ∧
    (∃ (s : State),
      s.live = true ∧
      s.fld F.SUP_PWR_BUSY = 1) ∧
    (∃ (s : State),
      s.live = true ∧
      s.fld F.SUP_PWR_BUSY = 1) ∧
    (∃ (s : State) (x : Instr × Nat × Fld),
      x ∈ [(Instr.wakePin, 1, F.SUP_WAKE_PIN_EN), (Instr.wakeTimer, 2, F.SUP_WAKE_TIMER_EN), (Instr.wakeJtag, 3, F.SUP_WAKE_JTAG_EN)] ∧
      s.asleep = true ∧
      s.fld x.2.2 = 1 ∧
      s.fld F.CLK_STAT_REF_VALID = 0) ∧
    (∃ (s : State) (x : Instr × Nat × Fld) (u : State),
      x ∈ [(Instr.wakePin, 1, F.SUP_WAKE_PIN_EN), (Instr.wakeTimer, 2, F.SUP_WAKE_TIMER_EN), (Instr.wakeJtag, 3, F.SUP_WAKE_JTAG_EN)] ∧
      s.asleep = true ∧
      s.fld x.2.2 = 1 ∧
      s.fld F.CLK_STAT_REF_VALID = 1 ∧
      (u = s.enabled.foldl (fun t c => if t.flag (selfRef c) && !t.fenced c then t.leaveSelfRef c else t) { (s.put F.DBG_STAT_ASLEEP 0).put F.SUP_WAKE_LAST x.2.1 with sup := { s.sup with wakeWait := false } }) ∧
      leField (u.dramBytes 0 8) 0 8 = 0x524553554D450001) :=
  ⟨⟨upKey,
    .brownOut,
    by decide +kernel⟩,
   ⟨upKey,
    0,
    false,
    by decide +kernel⟩,
   ⟨puts upKey [(F.SUP_STAT_PSTATE, 1), (F.SUP_WAKE_PIN_EN, 1)],
    0,
    false,
    by decide +kernel⟩,
   ⟨puts upKey [(F.SUP_STAT_PSTATE, 1), (F.SUP_WAKE_JTAG_EN, 0), (F.SUP_WAKE_PIN_EN, 0), (F.SUP_WAKE_TIMER_EN, 0)],
    0,
    false,
    by decide +kernel⟩,
   ⟨up.put F.SUP_PWR_BUSY 1,
    by decide +kernel⟩,
   ⟨up.put F.SUP_PWR_BUSY 1,
    by decide +kernel⟩,
   ⟨slept.put F.CLK_STAT_REF_VALID 0,
    (.wakeTimer, 2, F.SUP_WAKE_TIMER_EN),
    by decide +kernel⟩,
   ⟨(slept.put (selfRef 0) 1).dramPut 0 (leBytes 8 0x524553554D450001),
    (.wakePin, 1, F.SUP_WAKE_PIN_EN),
    ((slept.put (selfRef 0) 1).dramPut 0 (leBytes 8 0x524553554D450001) : State).enabled.foldl (fun t c => if t.flag (selfRef c) && !t.fenced c then t.leaveSelfRef c else t) { (((slept.put (selfRef 0) 1).dramPut 0 (leBytes 8 0x524553554D450001) : State).put F.DBG_STAT_ASLEEP 0).put F.SUP_WAKE_LAST ((.wakePin, 1, F.SUP_WAKE_PIN_EN) : Instr × Nat × Fld).2.1 with sup := { ((slept.put (selfRef 0) 1).dramPut 0 (leBytes 8 0x524553554D450001) : State).sup with wakeWait := false } },
    by decide +kernel⟩⟩

/-- The hypotheses of DomainCommands are met, clause by clause. -/
theorem wit_DomainCommands :
    (∃ (s : State) (w : Word) (p : Bool),
      s.orders F.SUP_DOM_CMD_WAKE [8, 9] w p = true ∧
      s.fld F.SUP_DOM_CMD_BUSY = 0 ∧
      domCmdCode (getBits 0 6 w) = true ∧
      s.domPresent (getBits 0 6 w) = true ∧
      ((s.groupOf (getBits 0 6 w)).any (fun e => s.monUses e) = false)) ∧
    (∃ (s : State) (w : Word) (p : Bool) (c : Instr),
      ((c = .domainWake w p ∧ s.orders F.SUP_DOM_CMD_WAKE [8, 9] w p = true) ∨ (c = .domainSleep w p ∧ s.orders F.SUP_DOM_CMD_SLEEP [8, 9] w p = true)) ∧
      s.fld F.SUP_DOM_CMD_BUSY = 0 ∧
      (domCmdCode (getBits 0 6 w) = false ∨ s.domPresent (getBits 0 6 w) = false)) ∧
    (∃ (s : State) (w : Word) (p : Bool),
      s.orders F.SUP_DOM_CMD_SLEEP [8, 9] w p = true ∧
      s.fld F.SUP_DOM_CMD_BUSY = 0 ∧
      domCmdCode (getBits 0 6 w) = true ∧
      s.domPresent (getBits 0 6 w) = true ∧
      ((s.groupOf (getBits 0 6 w)).any (fun e => s.monUses e) = false) ∧
      ((s.groupOf (getBits 0 6 w)).any (fun e => bitOf s.sup.owned e) = false) ∧
      s.fld F.PLAN_STAT_PRESENT = 0 ∧
      (getBits 0 6 w = 2 → s.awake 1 = false)) ∧
    (∃ (s : State) (d : BitVec 6),
      s.live = true ∧
      d.toNat ≠ 1 ∧
      d.toNat ≠ 2 ∧
      bitOf s.sup.waking d.toNat = true ∧
      s.wakeHeld d.toNat = false ∧
      s.maySleep d.toNat = false ∧
      (bitOf s.sup.stay 1 = true ∨ s.fld F.CLK_STAT_REF_VALID = 1) ∧
      s.plan.waitPll = false ∧
      s.bus = [] ∧
      s.fld F.MBX_STAT_BUSY = 0 ∧
      s.fld F.FABRIC_STAT_BUSY = 0 ∧
      s.mg.rxq = []) ∧
    (∃ (s : State) (d : BitVec 6),
      s.live = true ∧
      d.toNat ≠ 1 ∧
      d.toNat ≠ 2 ∧
      bitOf s.sup.waking d.toNat = true ∧
      s.wakeHeld d.toNat = true ∧
      s.plan.waitPll = false ∧
      s.bus = [] ∧
      s.fld F.MBX_STAT_BUSY = 0 ∧
      s.fld F.FABRIC_STAT_BUSY = 0 ∧
      s.mg.rxq = []) ∧
    (∃ (s : State) (d : BitVec 6),
      s.live = true ∧
      (d.toNat = 1 ∨ d.toNat = 2) ∧
      s.clk.relock = .wake ∧
      s.fld F.CLK_STAT_REF_VALID = 1 ∧
      s.plan.waitPll = false ∧
      s.bus = [] ∧
      s.fld F.MBX_STAT_BUSY = 0 ∧
      s.fld F.FABRIC_STAT_BUSY = 0 ∧
      s.mg.rxq = []) ∧
    (∃ (s : State) (d : Nat),
      s.live = true ∧
      s.sup.domJob = some d) :=
  ⟨⟨up.put (awakeBit 0x12) 0,
    0x12,
    false,
    by decide +kernel⟩,
   ⟨up,
    0x14,
    false,
    .domainWake 0x14 false,
    by decide +kernel⟩,
   ⟨up,
    0x12,
    false,
    by decide +kernel⟩,
   ⟨{ up.put (awakeBit 0x12) 0 with sup := { up.sup with waking := 2 ^ 0x12, domJob := some 0x12 } },
    0x12,
    by decide +kernel⟩,
   ⟨{ (up.put (awakeBit 0x1B) 0).put (fencedBit 3) 1 with sup := { up.sup with waking := 2 ^ 0x1B } },
    0x1B,
    by decide +kernel⟩,
   ⟨{ puts up [(awakeBit 1, 0), (awakeBit 2, 0), (F.CLK_STAT_LOCK, 0), (F.TB_STAT_COUNTING, 0)] with sup := { up.sup with waking := 6 }, clk := { target := 72, relock := .wake } },
    1,
    by decide +kernel⟩,
   ⟨{ up.put F.SUP_DOM_CMD_BUSY 1 with sup := { up.sup with domJob := some 0x12 } },
    0x12,
    by decide +kernel⟩⟩

/-- The hypotheses of TemperatureAndFaults are met, clause by clause. -/
theorem wit_TemperatureAndFaults :
    (∃ (s : State) (v : Int),
      s.live = true ∧
      s.fld F.SUP_STAT_TRIP_NOW = 0 ∧
      960 ≤ v) ∧
    (∃ (s : State),
      s.live = true) ∧
    (∃ (s : State) (w : Word) (p : Bool),
      s.orders F.SUP_MON_CMD_SUPPLY_CHECK [0] w p = true ∧
      s.fld F.SUP_MON_CMD_BUSY = 0) ∧
    (∃ (s : State),
      s.live = true ∧
      s.fld F.SUP_MON_CMD_BUSY = 1 ∧
      s.awake 0x25 = true) ∧
    (∃ (s : State),
      s.live = true ∧
      s.q.logDrop ≠ 0 ∧
      s.q.logHold = [] ∧
      s.qFull 12 = false) ∧
    (∃ (s : State) (x : BusRead),
      s.gives 0x120040 x.p = true ∧
      readOk x = true ∧
      bitOf s.q.upset 12 = false) :=
  ⟨⟨loaded,
    961,
    by decide +kernel⟩,
   ⟨up,
    by decide +kernel⟩,
   ⟨up.put (awakeBit 0x25) 0,
    0,
    false,
    by decide +kernel⟩,
   ⟨up.put F.SUP_MON_CMD_BUSY 1,
    by decide +kernel⟩,
   ⟨{ up with q := { up.q with logDrop := 3 } },
    by decide +kernel⟩,
   ⟨{ up with q := { up.q with logq := { recs := [[1, 2, 3, 4, 5, 6, 7, 8]], rd := 7 } } },
    ⟨true, 1, 2⟩,
    by decide +kernel⟩⟩

/-- The hypotheses of FreezeAndRelease are met, clause by clause. -/
theorem wit_FreezeAndRelease :
    (∃ (s : State),
      (s.sup.por = false ∨ s.fld F.SUP_STAT_STAGE ≠ 1) ∧
      s.fld F.DBG_STAT_FROZEN = 0) ∧
    (∃ (s : State),
      (s.sup.por = true ∧ s.fld F.SUP_STAT_STAGE = 1)) ∧
    (∃ (s : State) (w : Word) (p : Bool),
      s.orders F.DBG_FREEZE_FREEZE [0] w p = true) ∧
    (∃ (s : State),
      (s.sup.por = false ∨ s.fld F.SUP_STAT_STAGE ≠ 1) ∧
      s.fld F.DBG_STAT_FROZEN = 1) ∧
    (∃ (s : State),
      s.sup.frzLow = true ∧
      s.fld F.DBG_STAT_FROZEN = 1 ∧
      s.fld F.DBG_STAT_FRZ_REG = 0 ∧
      s.fld F.UPD_STAT_STAGE = 0) ∧
    (∃ (s : State),
      (s.fld F.DBG_STAT_FROZEN = 0 ∨ s.fld F.DBG_STAT_FRZ_REG = 1)) ∧
    (∃ (s : State),
      s.sup.por = false ∧
      s.fld F.DBG_STAT_FROZEN = 1 ∧
      s.sup.frzLow = false ∧
      s.fld F.UPD_STAT_STAGE = 0) ∧
    (∃ (s : State),
      s.sup.por = false ∧
      s.fld F.DBG_STAT_FROZEN = 1 ∧
      s.sup.frzLow = true) ∧
    (∃ (s : State) (w : Word) (p : Bool),
      s.takes 0x160004 (setBits 0 1 1 w) p = true) ∧
    (∃ (s : State) (x : BusRead),
      s.fld F.DBG_STAT_FROZEN = 1 ∧
      readOk x = true) ∧
    (∃ (s : State) (x : BusRead),
      s.gives 0x160010 x.p = true ∧
      readOk x = true) :=
  ⟨⟨up,
    by decide +kernel⟩,
   ⟨State.reset,
    by decide +kernel⟩,
   ⟨upKey,
    0,
    false,
    by decide +kernel⟩,
   ⟨frozen.put F.DBG_STAT_FRZ_PIN 0,
    by decide +kernel⟩,
   ⟨{ frozen with sup := { frozen.sup with frzLow := true } },
    by decide +kernel⟩,
   ⟨frozen.put F.DBG_STAT_FRZ_REG 1,
    by decide +kernel⟩,
   ⟨frozen,
    by decide +kernel⟩,
   ⟨{ frozen with sup := { frozen.sup with frzLow := true } },
    by decide +kernel⟩,
   ⟨up,
    0,
    true,
    by decide +kernel⟩,
   ⟨frozen.put F.DBG_RING_ADDR_WORD 127,
    ⟨true, 4, 0⟩,
    by decide +kernel⟩,
   ⟨up,
    ⟨true, 1, 3⟩,
    by decide +kernel⟩⟩

/-- The hypotheses of TestAccessPort are met, clause by clause. -/
theorem wit_TestAccessPort :
    (∃ (c : Instr),
      (c = .tapReset ∨ c = .idcode)) ∧
    (∃ (b : Byte),
      [0x00, 0x01, 0x02, 0x20, 0x21].contains b.toNat = false) ∧
    (∃ (s : State),
      s.sup.por = false ∧
      s.sup.accDone = false) ∧
    (∃ (s : State) (n : BitVec 64),
      s.gives (n.toNat / 2 ^ 32 % 2 ^ 24) true = true ∧
      (n.toNat / 2 ^ 32 % 2 ^ 24) < 0x10000 ∧
      bitOf n.toNat 56 = false ∧
      s.sup.accDone = true) ∧
    (∃ (s : State) (n : BitVec 64),
      s.opens 0x10 true = true ∧
      (n.toNat / 2 ^ 32 % 2 ^ 24) = 0x10 ∧
      bitOf n.toNat 56 = true ∧
      s.sup.accDone = true) ∧
    (∃ (s : State) (n : BitVec 64),
      s.fld F.DBG_STAT_FROZEN = 1 ∧
      (n.toNat / 2 ^ 32 % 2 ^ 24) / 0x10000 ≠ 0x16 ∧
      s.sup.accDone = true) ∧
    (∃ (s : State) (n : BitVec 64),
      s.fld F.DBG_STAT_FROZEN = 1 ∧
      (n.toNat / 2 ^ 32 % 2 ^ 24) = 0x160000 ∧
      bitOf n.toNat 56 = false ∧
      s.sup.accDone = true) :=
  ⟨⟨.idcode,
    by decide +kernel⟩,
   ⟨0xFF,
    by decide +kernel⟩,
   ⟨{ up with sup := { up.sup with accDone := false } },
    by decide +kernel⟩,
   ⟨up.put F.GLB_ID_STEP 3,
    0,
    by decide +kernel⟩,
   ⟨up,
    2 ^ 56 + 0x10 * 2 ^ 32 + 0xC41A,
    by decide +kernel⟩,
   ⟨frozen,
    0x10 * 2 ^ 32 + 0xC41A,
    by decide +kernel⟩,
   ⟨frozen,
    0x160000 * 2 ^ 32,
    by decide +kernel⟩⟩

/-- The hypotheses of SkewCalibration are met, clause by clause. -/
theorem wit_SkewCalibration :
    (∃ (s : State) (w : Word) (p : Bool),
      s.orders F.SYNC_CTRL_ALIGN [1, 2, 3] w p = true ∧
      s.fld F.SYNC_CTRL_BUSY = 0 ∧
      s.fld F.SEQ_STAT_HEAT < 2 ∧
      s.fld F.CLK_STAT_LOCK = 1) ∧
    (∃ (s : State) (w : Word) (p : Bool),
      s.orders F.SYNC_CTRL_ALIGN [1, 2, 3] w p = true ∧
      s.fld F.SYNC_CTRL_BUSY = 0 ∧
      (2 ≤ s.fld F.SEQ_STAT_HEAT ∨ s.fld F.CLK_STAT_LOCK = 0)) ∧
    (∃ (s : State),
      s.live = true ∧
      s.mir.job = 2) ∧
    (∃ (s : State) (w : Word) (p : Bool),
      s.orders F.SYNC_CTRL_CAL [1, 2, 3] w p = true ∧
      s.fld F.SYNC_CTRL_BUSY = 0) ∧
    (∃ (s : State),
      s.live = true ∧
      s.mir.job = 1) ∧
    (∃ (s : State) (r : Nat),
      s.live = true ∧
      s.mir.job = 1 ∧
      r ≤ 65534) ∧
    (∃ (s : State) (r : Nat),
      s.live = true ∧
      s.mir.job = 1 ∧
      65534 < r) ∧
    (∃ (s : State) (w : Word) (p : Bool) (l : List (Nat × Word)),
      s.orders F.SYNC_CTRL_SAVE [1, 2, 3] w p = true ∧
      s.fld F.SYNC_CTRL_BUSY = 0 ∧
      (l = s.syncWords.filter (fun x => decide (s.pvWord x.1 ≠ x.2))) ∧
      (l.any (fun x => s.pvWorn x.1) = false)) ∧
    (∃ (s : State) (w : Word) (p : Bool) (l : List (Nat × Word)),
      s.orders F.SYNC_CTRL_SAVE [1, 2, 3] w p = true ∧
      s.fld F.SYNC_CTRL_BUSY = 0 ∧
      (l = s.syncWords.filter (fun x => decide (s.pvWord x.1 ≠ x.2))) ∧
      (l.any (fun x => s.pvWorn x.1) = true)) :=
  ⟨⟨up,
    0,
    false,
    by decide +kernel⟩,
   ⟨up.put F.CLK_STAT_LOCK 0,
    0,
    false,
    by decide +kernel⟩,
   ⟨{ up.put F.SYNC_CTRL_BUSY 1 with mir := { job := 2, enLow := true } },
    by decide +kernel⟩,
   ⟨up,
    0,
    false,
    by decide +kernel⟩,
   ⟨{ up.put F.SYNC_CTRL_BUSY 1 with mir := { job := 1 } },
    by decide +kernel⟩,
   ⟨{ up.put F.SYNC_CTRL_BUSY 1 with mir := { job := 1 } },
    65534,
    by decide +kernel⟩,
   ⟨{ up.put F.SYNC_CTRL_BUSY 1 with mir := { job := 1 } },
    65535,
    by decide +kernel⟩,
   ⟨up.put F.SYNC_DEV_OFS_OFS 5,
    0,
    false,
    [(656, 5#32)],
    by decide +kernel⟩,
   ⟨let r := up.put F.SYNC_DEV_OFS_OFS 5; { r with mem := { r.mem with wear := [(720, 1000000)] } },
    0,
    false,
    [(656, 5#32)],
    by decide +kernel⟩⟩

/-- The hypotheses of MirrorPair are met, clause by clause. -/
theorem wit_MirrorPair :
    (∃ (s : State) (w : Word) (p : Bool),
      s.takes 0x130000 (setBits 16 1 0 w) p = true ∧
      getBits 0 2 w ≠ s.role) ∧
    (∃ (s : State),
      s.live = true ∧
      s.awake 0x24 = true ∧
      s.role ≠ 0 ∧
      s.fld F.MIR_STAT_LINK_UP = 0) ∧
    (∃ (s : State),
      s.live = true ∧
      s.fld F.MIR_STAT_LINK_UP = 1) ∧
    (∃ (s : State),
      s.mirLive = true) ∧
    (∃ (s : State),
      s.mirLive = true) ∧
    (∃ (s : State) (d : MirIdent),
      s.mirLive = true ∧
      s.fld F.MIR_STAT_HB_NOW = 0 ∧
      (¬(s.role = 1 ∧ d.role.toNat = 1 ∧ (s.mir.taken = true ∨ s.mir.fault = true)))) ∧
    (∃ (s : State) (r : BitVec 2),
      s.mirLive = true ∧
      s.fld F.MIR_STAT_HB_NOW = 0 ∧
      (¬(s.role = 1 ∧ r.toNat = 1 ∧ (s.mir.taken = true ∨ s.mir.fault = true)))) ∧
    (∃ (s : State),
      s.mirLive = true ∧
      s.fld F.MIR_STAT_HB_NOW = 1) ∧
    (∃ (s : State) (w : Word) (p : Bool),
      s.takes 0x130040 w p = true) ∧
    (∃ (s : State) (p : Bool),
      s.opens 0x130040 p = true ∧
      s.mir.txPart = [] ∧
      8 ≤ s.mir.txBuf.length) ∧
    (∃ (s : State) (l : List Word),
      s.mirLive = true ∧
      s.fld F.MIR_STAT_HB_NOW = 0 ∧
      s.role = 1 ∧
      s.fld F.TB_STAT_COUNTING = 1 ∧
      s.mir.txBuf = [l]) ∧
    (∃ (s : State) (l : List Word),
      s.mirLive = true ∧
      s.fld F.MIR_STAT_HB_NOW = 0 ∧
      l.length = 8 ∧
      bitOf s.q.upset 9 = false) ∧
    (∃ (s : State) (x : BusRead),
      s.gives 0x130044 x.p = true ∧
      readOk x = true ∧
      bitOf s.q.upset 9 = false) ∧
    (∃ (s : State),
      s.mirLive = true) :=
  ⟨⟨mirUp 1 1,
    0x130,
    false,
    by decide +kernel⟩,
   ⟨(mirUp 1 0).put F.MIR_STAT_LINK_UP 0,
    by decide +kernel⟩,
   ⟨mirUp 2 3,
    by decide +kernel⟩,
   ⟨mirUp 1 2,
    by decide +kernel⟩,
   ⟨mirUp 1 2,
    by decide +kernel⟩,
   ⟨mirUp 1 1,
    ⟨7, 0, 0, 80, 2, 1⟩,
    by decide +kernel⟩,
   ⟨(mirUp 1 1).put F.MIR_STAT_PFAULT_NOW 1,
    2,
    by decide +kernel⟩,
   ⟨(mirUp 1 1).put F.MIR_STAT_HB_NOW 1,
    by decide +kernel⟩,
   ⟨{ mirUp 1 1 with mir := { txSeq := 255, txPart := List.replicate 7 3 } },
    9,
    true,
    by decide +kernel⟩,
   ⟨{ mirUp 1 1 with mir := { txBuf := List.replicate 8 [3] } },
    true,
    by decide +kernel⟩,
   ⟨{ mirUp 1 2 with mir := { txBuf := [[1, 2, 3, 4, 5, 6, 7, 8]] } },
    [1, 2, 3, 4, 5, 6, 7, 8],
    by decide +kernel⟩,
   ⟨mirUp 1 1,
    List.replicate 8 5,
    by decide +kernel⟩,
   ⟨{ up with q := { up.q with mirq := { recs := [[1, 2, 3, 4, 5, 6, 7, 8]], rd := 7 } } },
    ⟨true, 4, 0⟩,
    by decide +kernel⟩,
   ⟨mirUp 1 1,
    by decide +kernel⟩⟩

/-- The hypotheses of Takeover are met, clause by clause. -/
theorem wit_Takeover :
    (∃ (s : State),
      s.mirLive = true ∧
      s.fld F.MIR_STAT_HB_NOW = 0) ∧
    (∃ (s : State),
      s.live = true ∧
      s.role ≠ 0 ∧
      s.fld F.MIR_STAT_HB_NOW = 0) ∧
    (∃ (s : State),
      s.mirLive = true ∧
      s.fld F.MIR_STAT_HB_NOW = 0 ∧
      s.role = 1) ∧
    (∃ (s : State) (w : Word) (p : Bool),
      s.orders F.MIR_CTRL_TAKEOVER [16] w p = true ∧
      getBits 0 2 w = s.role ∧
      s.fld F.MIR_CTRL_BUSY = 0 ∧
      s.fld F.MIR_STAT_HB_NOW = 0) ∧
    (∃ (s : State) (k : Nat),
      s.live = true ∧
      s.role ≠ 0 ∧
      s.mir.trig = some k) ∧
    (∃ (s : State) (k : Nat),
      s.live = true ∧
      s.mir.trig = some k ∧
      s.mayTake = true ∧
      s.mir.peerAt = some s.tm.tb ∧
      s.mir.lowFor < 2) ∧
    (∃ (s : State) (k : Nat),
      s.live = true ∧
      s.mir.trig = some k ∧
      s.mayTake = true ∧
      ((s.mir.peerAt = some s.tm.tb ∧ 2 ≤ s.mir.lowFor) ∨ (0 < s.tm.tb ∧ s.mir.peerAt = some (s.tm.tb - 1) ∧ 1 ≤ s.mir.lowFor))) ∧
    (∃ (s : State) (k : Nat),
      s.live = true ∧
      s.mir.trig = some k ∧
      s.mayTake = false) ∧
    (∃ (s : State) (x : Nat),
      s.live = true ∧
      s.mir.riseAt = some x ∧
      (s.fld F.TB_STAT_COUNTING = 1 ∨ x ≤ s.tm.tb)) :=
  ⟨⟨puts (mirUp 2 2) [(F.MIR_CTRL_AUTO_TAKE, 1), (F.MIR_STAT_PEER_EN, 1)],
    by decide +kernel⟩,
   ⟨puts (mirUp 2 2) [(F.MIR_CTRL_AUTO_TAKE, 1), (F.MIR_STAT_PEER_EN, 1)],
    by decide +kernel⟩,
   ⟨mirUp 1 2,
    by decide +kernel⟩,
   ⟨mirUp 2 2,
    2,
    false,
    by decide +kernel⟩,
   ⟨{ mirUp 2 2 with mir := { trig := some 1 } },
    1,
    by decide +kernel⟩,
   ⟨{ mirUp 2 2 with mir := { trig := some 1, peerAt := some 100065 }, tm := { tb := 100065 } },
    1,
    by decide +kernel⟩,
   ⟨{ mirUp 2 2 with mir := { trig := some 1, peerAt := some 100064, lowFor := 1 }, tm := { tb := 100065 } },
    1,
    by decide +kernel⟩,
   ⟨{ mirUp 2 1 with mir := { trig := some 1 } },
    1,
    by decide +kernel⟩,
   ⟨{ mirUp 1 2 with mir := { riseAt := some 9 } },
    9,
    by decide +kernel⟩⟩

/-- The hypotheses of Lockstep are met, clause by clause. -/
theorem wit_Lockstep :
    (∃ (s : State) (x : MirDecision) (m : MyDec),
      s.mirLive = true ∧
      s.fld F.MIR_STAT_HB_NOW = 0 ∧
      s.role = 2 ∧
      s.pair = 3 ∧
      x.kind = 0 ∧
      s.ownDec x.sq.val 0 (some x.d.toNat) = some m) ∧
    (∃ (s : State) (x : MirDecision) (m : MyDec),
      s.mirLive = true ∧
      s.fld F.MIR_STAT_HB_NOW = 0 ∧
      s.role = 2 ∧
      s.pair = 3 ∧
      ((x.kind = 1 ∧ m.d = x.d.toNat ∧ s.ownDec x.sq.val 1 none = some m) ∨ (x.kind = 2 ∧ m.d = x.arg.toNat ∧ s.ownDec x.sq.val 2 none = some m))) ∧
    (∃ (s : State) (x : MirDecision),
      s.mirLive = true ∧
      s.fld F.MIR_STAT_HB_NOW = 0 ∧
      s.role = 2 ∧
      s.pair = 3 ∧
      x.kind = 3 ∧
      x.ctrl = false ∧
      x.arg.toNat % 2 ^ 8 = 1 ∧
      x.arg.toNat / 2 ^ 32 % 4 = 0 ∧
      s.fld F.SEQ_STAT_HEAT = 3 ∧
      s.tm.heat = x.d.toNat ∧
      s.runOrPaused x.sq.val = true) ∧
    (∃ (s : State) (n : Fin 8) (m : MyDec),
      s.live = true ∧
      s.fld F.SEQ_STAT_HEAT = 3 ∧
      (s.mir.mine.find? (fun m => decide (m.sq = n.val)) = some m)) ∧
    (∃ (s : State) (h : Nat) (b : Nat),
      s.mirLive = true ∧
      s.role = 1 ∧
      s.pair = 3 ∧
      s.fld F.SEQ_STAT_HEAT = 3 ∧
      h = (s.tm.heat + 63) / 64 * 64 ∧
      b = s.tm.tb + (h - s.tm.heat)) ∧
    (∃ (s : State),
      s.mirLive = true ∧
      s.fld F.MIR_STAT_HB_NOW = 0 ∧
      s.role = 2 ∧
      s.pair = 3) ∧
    (∃ (s : State) (n : Fin 8),
      s.mirLive = true ∧
      s.fld F.MIR_STAT_HB_NOW = 0 ∧
      s.role = 2 ∧
      s.pair = 3 ∧
      s.recentGap n.val (s.tm.heat / 64 * 64) = false) :=
  ⟨⟨follows ⟨2, 0, 128, 1⟩,
    ⟨2, false, 0, 128, 0⟩,
    ⟨2, 0, 128, 1⟩,
    by decide +kernel⟩,
   ⟨follows ⟨2, 2, 128, 1⟩,
    ⟨2, false, 2, 5, 128⟩,
    ⟨2, 2, 128, 1⟩,
    by decide +kernel⟩,
   ⟨follows ⟨2, 2, 128, 1⟩,
    ⟨2, false, 3, 100, 1⟩,
    by decide +kernel⟩,
   ⟨follows ⟨2, 0, 128, 1⟩,
    2,
    ⟨2, 0, 128, 1⟩,
    by decide +kernel⟩,
   ⟨puts (race 0 100 [] none) [(F.MIR_CTRL_ROLE, 1), (F.MIR_STAT_PAIR, 3), (F.MIR_STAT_LINK_UP, 1)],
    128,
    100128,
    by decide +kernel⟩,
   ⟨follows ⟨2, 0, 128, 1⟩,
    by decide +kernel⟩,
   ⟨follows ⟨2, 0, 128, 1⟩,
    2,
    by decide +kernel⟩⟩

/-- The hypotheses of ManagementPort are met, clause by clause. -/
theorem wit_ManagementPort :
    (∃ (s : State) (f : RxFrame) (a : Nat) (c : Nat) (u : State),
      s.live = true ∧
      mgmtLong f.bytes = false ∧
      (s.updLive && (s.updCarried f.bytes).isSome) = false ∧
      s.fld F.MGMT_PORT_RX_EN = 1 ∧
      (beNat (f.bytes.take 6) = s.getSel 0x3C00 ∨ beNat (f.bytes.take 6) / 2 ^ 40 % 2 = 1) ∧
      a = s.descAt 0x3C02 s.mg.rx ∧
      s.mg.rxq = [] ∧
      (s.mgmtReach a 16).rangeWaits a 16 = false ∧
      (s.mgmtReach a 16).descOwned 0x3C02 s.mg.rx = true ∧
      c = leField ((s.mgmtReach a 16).dramBytes a 8) 0 8 ∧
      ((s.mgmtReach a 16).mgmtReach c f.bytes.length).rangeWaits c f.bytes.length = false ∧
      u = (((s.mgmtReach a 16).mgmtReach c f.bytes.length).dramPut c f.bytes).dramPut (a + 8) (leBytes 2 f.bytes.length)) ∧
    (∃ (s : State) (f : RxFrame) (a : Nat),
      s.live = true ∧
      mgmtLong f.bytes = false ∧
      (s.updLive && (s.updCarried f.bytes).isSome) = false ∧
      s.fld F.MGMT_PORT_RX_EN = 1 ∧
      (beNat (f.bytes.take 6) = s.getSel 0x3C00 ∨ beNat (f.bytes.take 6) / 2 ^ 40 % 2 = 1) ∧
      a = s.descAt 0x3C02 s.mg.rx ∧
      s.mg.rxq = [] ∧
      (s.mgmtReach a 16).rangeWaits a 16 = false ∧
      (s.mgmtReach a 16).descOwned 0x3C02 s.mg.rx = false) ∧
    (∃ (s : State) (f : RxFrame) (a : Nat),
      s.live = true ∧
      mgmtLong f.bytes = false ∧
      (s.updLive && (s.updCarried f.bytes).isSome) = false ∧
      s.fld F.MGMT_PORT_RX_EN = 1 ∧
      (beNat (f.bytes.take 6) = s.getSel 0x3C00 ∨ beNat (f.bytes.take 6) / 2 ^ 40 % 2 = 1) ∧
      a = s.descAt 0x3C02 s.mg.rx ∧
      s.mg.rxq = [] ∧
      (s.mgmtReach a 16).rangeWaits a 16 = true) ∧
    (∃ (s : State) (f : RxFrame) (p : Bool),
      s.live = true ∧
      (p = true ∨ mgmtLong f.bytes = true)) ∧
    (∃ (s : State) (w : Word) (p : Bool),
      s.takes 0xF000C (setBits 5 1 1 w) p = true) ∧
    (∃ (s : State) (a : Nat) (c : Nat) (n : Nat) (u : State),
      s.live = true ∧
      s.fld F.MGMT_PORT_TX_EN = 1 ∧
      s.fld F.MGMT_PORT_LINK = 1 ∧
      s.mg.txWait = false ∧
      a = s.descAt 0x3C03 s.mg.tx ∧
      (s.mgmtReach a 16).rangeWaits a 16 = false ∧
      (s.mgmtReach a 16).descOwned 0x3C03 s.mg.tx = true ∧
      c = leField ((s.mgmtReach a 16).dramBytes a 8) 0 8 ∧
      n = leField ((s.mgmtReach a 16).dramBytes (a + 8) 2) 0 2 ∧
      u = (s.mgmtReach a 16).mgmtReach c n ∧
      u.rangeWaits c n = false) ∧
    (∃ (s : State) (a : Nat),
      s.live = true ∧
      s.fld F.MGMT_PORT_TX_EN = 1 ∧
      s.fld F.MGMT_PORT_LINK = 1 ∧
      s.mg.txWait = false ∧
      a = s.descAt 0x3C03 s.mg.tx ∧
      (s.mgmtReach a 16).rangeWaits a 16 = false ∧
      (s.mgmtReach a 16).descOwned 0x3C03 s.mg.tx = false) ∧
    (∃ (s : State) (w : Word) (p : Bool),
      s.takes 0xF0010 (setBits 27 1 1 w) p = true ∧
      s.fld F.MGMT_MDIO_BUSY = 0) ∧
    (∃ (s : State) (w : Word) (p : Bool),
      s.takes 0xF0010 (setBits 27 1 1 w) p = true ∧
      s.fld F.MGMT_MDIO_BUSY = 1) ∧
    (∃ (s : State),
      s.live = true ∧
      s.fld F.MGMT_MDIO_BUSY = 1) ∧
    (∃ (s : State) (n : BitVec 2),
      s.live = true ∧
      n ≠ 3) :=
  ⟨⟨ringUp 0 1,
    ⟨arpBytes⟩,
    2 ^ 30,
    2 ^ 30 + 4096,
    ((((ringUp 0 1 : State).mgmtReach (2 ^ 30 : Nat) 16).mgmtReach (2 ^ 30 + 4096 : Nat) (⟨arpBytes⟩ : RxFrame).bytes.length).dramPut (2 ^ 30 + 4096 : Nat) (⟨arpBytes⟩ : RxFrame).bytes).dramPut ((2 ^ 30 : Nat) + 8) (leBytes 2 (⟨arpBytes⟩ : RxFrame).bytes.length),
    by decide +kernel⟩,
   ⟨ringUp 0 0,
    ⟨arpBytes⟩,
    2 ^ 30,
    by decide +kernel⟩,
   ⟨puts (ringUp 0 1) [(retrainBit 0, 1), (retrainBit 1, 1), (retrainBit 2, 1), (retrainBit 3, 1), (retrainBit 4, 1), (retrainBit 5, 1), (retrainBit 6, 1), (retrainBit 7, 1)],
    ⟨arpBytes⟩,
    2 ^ 30,
    by decide +kernel⟩,
   ⟨ringUp 0 1,
    ⟨arpBytes⟩,
    true,
    by decide +kernel⟩,
   ⟨{ up with mg := { txWait := true } },
    0x18,
    true,
    by decide +kernel⟩,
   ⟨ringUp 5 1,
    2 ^ 30,
    2 ^ 30 + 4096,
    5,
    ((ringUp 5 1 : State).mgmtReach (2 ^ 30 : Nat) 16).mgmtReach (2 ^ 30 + 4096 : Nat) (5 : Nat),
    by decide +kernel⟩,
   ⟨ringUp 5 0,
    2 ^ 30,
    by decide +kernel⟩,
   ⟨up,
    0x04231234,
    true,
    by decide +kernel⟩,
   ⟨up.put F.MGMT_MDIO_BUSY 1,
    0x04231234,
    true,
    by decide +kernel⟩,
   ⟨up.put F.MGMT_MDIO_BUSY 1,
    by decide +kernel⟩,
   ⟨up,
    2,
    by decide +kernel⟩⟩

/-- The hypotheses of UpdateDownload are met, clause by clause. -/
theorem wit_UpdateDownload :
    (∃ (s : State) (f : UpdFrame) (u : Upd) (d : UpdFrom) (i : List Byte),
      s.updLive = true ∧
      s.updReady f = true ∧
      updOf f.bytes = some u ∧
      u.type = 1 ∧
      f.ecc = none ∧
      d = ⟨0, f.srcMac.toNat, f.srcIp.toNat, f.srcPort.toNat⟩ ∧
      (s.fld F.UPD_LOCK_HELD = 0 ∨ s.held d u.sid = true) ∧
      s.bootedTent = false ∧
      0 < beNat ((u.body.drop 48).take 4) ∧
      beNat ((u.body.drop 48).take 4) ≤ pkgMax ∧
      s.fld F.UPD_STAT_STAGE ≠ 2 ∧
      s.fld F.UPD_STAT_STAGE ≠ 4 ∧
      i = padTo 48 u.body ∧
      s.flashBytes progBase 52 ≠ progHead i (beNat ((u.body.drop 48).take 4)) ∧
      s.fld F.UPD_CTRL_FORWARD = 0) ∧
    (∃ (s : State) (f : UpdFrame) (u : Upd) (d : UpdFrom) (i : List Byte),
      s.updLive = true ∧
      s.updReady f = true ∧
      updOf f.bytes = some u ∧
      u.type = 1 ∧
      f.ecc = none ∧
      d = ⟨0, f.srcMac.toNat, f.srcIp.toNat, f.srcPort.toNat⟩ ∧
      (s.fld F.UPD_LOCK_HELD = 0 ∨ s.held d u.sid = true) ∧
      s.bootedTent = false ∧
      0 < beNat ((u.body.drop 48).take 4) ∧
      beNat ((u.body.drop 48).take 4) ≤ pkgMax ∧
      (s.fld F.UPD_STAT_STAGE = 2 ∨ s.fld F.UPD_STAT_STAGE = 4) ∧
      i = padTo 48 u.body ∧
      s.flashBytes progBase 52 ≠ progHead i (beNat ((u.body.drop 48).take 4))) ∧
    (∃ (s : State) (f : UpdFrame) (u : Upd) (d : UpdFrom),
      s.updLive = true ∧
      s.updReady f = true ∧
      updOf f.bytes = some u ∧
      u.type = 1 ∧
      f.ecc = none ∧
      d = ⟨0, f.srcMac.toNat, f.srcIp.toNat, f.srcPort.toNat⟩ ∧
      s.fld F.UPD_LOCK_HELD = 1 ∧
      s.held d u.sid = false) ∧
    (∃ (s : State) (f : UpdFrame) (u : Upd) (d : UpdFrom),
      s.updLive = true ∧
      s.updReady f = true ∧
      updOf f.bytes = some u ∧
      u.type = 2 ∧
      f.ecc = none ∧
      d = ⟨0, f.srcMac.toNat, f.srcIp.toNat, f.srcPort.toNat⟩ ∧
      s.held d u.sid = true ∧
      u.body.length = 1024 ∧
      u.frag < 64 ∧
      s.fld F.UPD_STAT_STAGE = 1 ∧
      u.chunk = s.fld F.UPD_PROG_ACKED ∧
      u.chunk < s.fld F.UPD_PROG_TOTAL) ∧
    (∃ (s : State) (f : UpdFrame) (u : Upd) (d : UpdFrom),
      s.updLive = true ∧
      s.updReady f = true ∧
      updOf f.bytes = some u ∧
      u.type = 2 ∧
      f.ecc = none ∧
      d = ⟨0, f.srcMac.toNat, f.srcIp.toNat, f.srcPort.toNat⟩ ∧
      (s.held d u.sid = false ∨ u.body.length ≠ 1024 ∨ 64 ≤ u.frag)) ∧
    (∃ (s : State) (c : Nat),
      s.updLive = true ∧
      s.fld F.UPD_STAT_STAGE = 1 ∧
      s.chunkFull = true ∧
      c = s.fld F.UPD_PROG_ACKED ∧
      c < 1023) ∧
    (∃ (s : State),
      s.updLive = true ∧
      s.fld F.UPD_STAT_STAGE = 1 ∧
      s.chunkFull = true) ∧
    (∃ (s : State) (f : UpdFrame) (u : Upd) (d : UpdFrom),
      s.updLive = true ∧
      s.updReady f = true ∧
      updOf f.bytes = some u ∧
      u.type = 3 ∧
      f.ecc = none ∧
      d = ⟨0, f.srcMac.toNat, f.srcIp.toNat, f.srcPort.toNat⟩ ∧
      u.stage = 0 ∧
      s.held d u.sid = true) ∧
    (∃ (s : State) (f : UpdFrame) (u : Upd) (d : UpdFrom),
      s.updLive = true ∧
      s.updReady f = true ∧
      updOf f.bytes = some u ∧
      u.type = 4 ∧
      f.ecc = none ∧
      d = ⟨0, f.srcMac.toNat, f.srcIp.toNat, f.srcPort.toNat⟩ ∧
      s.held d u.sid = true) ∧
    (∃ (s : State) (f : UpdFrame) (u : Upd) (d : UpdFrom),
      s.updLive = true ∧
      s.updReady f = true ∧
      updOf f.bytes = some u ∧
      u.type = 5 ∧
      f.ecc = none ∧
      d = ⟨0, f.srcMac.toNat, f.srcIp.toNat, f.srcPort.toNat⟩ ∧
      s.fld F.UPD_CTRL_FORWARD = 0) ∧
    (∃ (s : State) (f : UpdFrame) (u : Upd),
      s.mirLive = true ∧
      s.updLive = true ∧
      s.fld F.MIR_STAT_HB_NOW = 0 ∧
      updOf f.bytes = some u ∧
      u.type = 6 ∧
      s.fld F.UPD_LOCK_HELD = 1 ∧
      s.fld F.UPD_LOCK_SRC = 0) ∧
    (∃ (s : State) (f : UpdFrame) (u : Upd),
      s.mirLive = true ∧
      s.updLive = true ∧
      s.fld F.MIR_STAT_HB_NOW = 0 ∧
      s.updReady f = true ∧
      updOf f.bytes = some u ∧
      u.type = 5 ∧
      f.ecc = none) ∧
    (∃ (s : State) (f : UpdFrame) (c : Instr),
      c ∈ ([.claim f, .frag f, .verify f, .activate f, .updAbort f, .updRelease f, .updQuery f] : List Instr) ∧
      s.updLive = true ∧
      updOf f.bytes = none) ∧
    (∃ (s : State) (f : UpdFrame) (u : Upd) (i : Fin 16),
      s.updLive = true ∧
      s.updReady f = true ∧
      updOf f.bytes = some u ∧
      u.type = 4 ∧
      f.ecc = some i) ∧
    (∃ (s : State) (p : Bool),
      s.live = true ∧
      (p = true → s.fld F.MIR_STAT_LINK_UP = 1)) ∧
    (∃ (s : State),
      s.live = true ∧
      s.fld F.UPD_LOCK_HELD = 1) :=
  ⟨⟨(updUp 0 0).put F.UPD_LOCK_HELD 0,
    ufr 1 9 0 0 0 (List.replicate 48 3 ++ beBytes 4 70000),
    ⟨1, 9, 0, 0, 0, List.replicate 48 3 ++ beBytes 4 70000⟩,
    ufrom,
    List.replicate 48 3,
    by decide +kernel⟩,
   ⟨(updUp 2 0).put F.UPD_LOCK_HELD 0,
    ufr 1 9 0 0 0 (List.replicate 48 3 ++ beBytes 4 70000),
    ⟨1, 9, 0, 0, 0, List.replicate 48 3 ++ beBytes 4 70000⟩,
    ufrom,
    List.replicate 48 3,
    by decide +kernel⟩,
   ⟨updUp 1 0,
    ufr 1 9 0 0 0 ([]),
    ⟨1, 9, 0, 0, 0, []⟩,
    ufrom,
    by decide +kernel⟩,
   ⟨updUp 1 0,
    ufr 2 7 0 5 0 (List.replicate 1024 3),
    ⟨2, 7, 0, 5, 0, List.replicate 1024 3⟩,
    ufrom,
    by decide +kernel⟩,
   ⟨updUp 1 0,
    ufr 2 8 0 5 0 ([1]),
    ⟨2, 8, 0, 5, 0, [1]⟩,
    ufrom,
    by decide +kernel⟩,
   ⟨{ updUp 1 65 with mg := { frags := (List.range 64).map (fun i => (i, [BitVec.ofNat 8 i])) } },
    0,
    by decide +kernel⟩,
   ⟨{ updUp 1 65 with mg := { frags := (List.range 64).map (fun i => (i, [BitVec.ofNat 8 i])) } },
    by decide +kernel⟩,
   ⟨updUp 1 0,
    ufr 3 7 0 0 0 ([]),
    ⟨3, 7, 0, 0, 0, []⟩,
    ufrom,
    by decide +kernel⟩,
   ⟨updUp 1 0,
    ufr 4 7 0 0 0 ([]),
    ⟨4, 7, 0, 0, 0, []⟩,
    ufrom,
    by decide +kernel⟩,
   ⟨updUp 1 0,
    ufr 5 8 0 0 0 ([]),
    ⟨5, 8, 0, 0, 0, []⟩,
    ufrom,
    by decide +kernel⟩,
   ⟨(updUp 1 0).put F.MIR_STAT_LINK_UP 1,
    ufr 6 7 1 0 1 ([]),
    ⟨6, 7, 1, 0, 1, []⟩,
    by decide +kernel⟩,
   ⟨(updUp 1 0).put F.MIR_STAT_LINK_UP 1,
    ufr 5 8 0 0 0 ([]),
    ⟨5, 8, 0, 0, 0, []⟩,
    by decide +kernel⟩,
   ⟨updUp 1 0,
    ⟨[1, 2, 3], 0, 0, 0, none, 0⟩,
    .verify ⟨[1, 2, 3], 0, 0, 0, none, 0⟩,
    by decide +kernel⟩,
   ⟨updUp 1 0,
    { ufr 4 7 0 0 0 [] with ecc := some 3 },
    ⟨4, 7, 0, 0, 0, []⟩,
    3,
    by decide +kernel⟩,
   ⟨up.put F.MIR_STAT_LINK_UP 1,
    true,
    by decide +kernel⟩,
   ⟨updUp 1 0,
    by decide +kernel⟩⟩

/-- The hypotheses of UpdateStages are met, clause by clause. -/
theorem wit_UpdateStages :
    (∃ (s : State) (f : UpdFrame) (u : Upd) (d : UpdFrom),
      s.updLive = true ∧
      s.updReady f = true ∧
      updOf f.bytes = some u ∧
      u.type = 3 ∧
      f.ecc = none ∧
      d = ⟨0, f.srcMac.toNat, f.srcIp.toNat, f.srcPort.toNat⟩ ∧
      u.stage = 2 ∧
      s.held d u.sid = true ∧
      (s.fld F.UPD_STAT_STAGE = 1 ∨ s.fld F.UPD_STAT_STAGE = 3)) ∧
    (∃ (s : State) (f : UpdFrame) (u : Upd) (d : UpdFrom) (c : Instr),
      s.updLive = true ∧
      s.updReady f = true ∧
      updOf f.bytes = some u ∧
      u.type = 3 ∧
      f.ecc = none ∧
      d = ⟨0, f.srcMac.toNat, f.srcIp.toNat, f.srcPort.toNat⟩ ∧
      ((c = .verify f ∧ u.stage = 2 ∧ s.fld F.UPD_STAT_STAGE ≠ 1 ∧ s.fld F.UPD_STAT_STAGE ≠ 3) ∨ (c = .activate f ∧ u.stage = 4 ∧ s.fld F.UPD_STAT_STAGE ≠ 3))) ∧
    (∃ (s : State) (r : Nat × State),
      s.updLive = true ∧
      s.fld F.UPD_STAT_STAGE = 2 ∧
      (r = (if s.verifyChecks s.package = stOk then s.verifyBuild s.package else (s.verifyChecks s.package, s)))) ∧
    (∃ (s : State) (f : UpdFrame) (u : Upd) (d : UpdFrom),
      s.updLive = true ∧
      s.updReady f = true ∧
      updOf f.bytes = some u ∧
      u.type = 3 ∧
      f.ecc = none ∧
      d = ⟨0, f.srcMac.toNat, f.srcIp.toNat, f.srcPort.toNat⟩ ∧
      u.stage = 4 ∧
      s.held d u.sid = true ∧
      s.fld F.UPD_STAT_STAGE = 3) ∧
    (∃ (s : State) (r : BootRec) (u : State),
      s.updLive = true ∧
      s.fld F.UPD_STAT_STAGE = 4 ∧
      s.curRec = some r ∧
      u = s.copyHalf s.mg.copied 8160) ∧
    (∃ (s : State) (w : Word) (p : Bool) (r : BootRec),
      s.orders F.UPD_CMD_CONFIRM [0, 1, 2] w p = true ∧
      s.fld F.UPD_CMD_BUSY = 0 ∧
      s.curRec = some r) ∧
    (∃ (s : State) (w : Word) (p : Bool) (r : BootRec),
      s.orders F.UPD_CMD_REVERT [0, 1, 2] w p = true ∧
      s.fld F.UPD_CMD_BUSY = 0 ∧
      s.curRec = some r) ∧
    (∃ (s : State) (w : Word) (p : Bool),
      s.orders F.UPD_CMD_BREAK [0, 1, 2] w p = true ∧
      s.fld F.UPD_CMD_BUSY = 0) :=
  ⟨⟨updUp 1 0,
    ufr 3 7 0 0 2 ([]),
    ⟨3, 7, 0, 0, 2, []⟩,
    ufrom,
    by decide +kernel⟩,
   ⟨updUp 1 0,
    ufr 3 7 0 0 4 ([]),
    ⟨3, 7, 0, 0, 4, []⟩,
    ufrom,
    .activate (ufr 3 7 0 0 4 []),
    by decide +kernel⟩,
   ⟨updUp 2 0,
    (stState, (updUp 2 0 : State)),
    by decide +kernel⟩,
   ⟨updUp 3 0,
    ufr 3 7 0 0 4 ([]),
    ⟨3, 7, 0, 0, 4, []⟩,
    ufrom,
    by decide +kernel⟩,
   ⟨{ bootUp 4 false with mg := { copied := 8160 } },
    ⟨5, 0, false, 1, true, (0, 0), (0, 0), (List.replicate 48 0, List.replicate 48 0)⟩,
    ({ bootUp 4 false with mg := { copied := 8160 } } : State).copyHalf ({ bootUp 4 false with mg := { copied := 8160 } } : State).mg.copied 8160,
    by decide +kernel⟩,
   ⟨bootUp 0 true,
    0,
    true,
    ⟨5, 0, true, 1, true, (0, 0), (0, 0), (List.replicate 48 0, List.replicate 48 0)⟩,
    by decide +kernel⟩,
   ⟨bootUp 0 true,
    0,
    true,
    ⟨5, 0, true, 1, true, (0, 0), (0, 0), (List.replicate 48 0, List.replicate 48 0)⟩,
    by decide +kernel⟩,
   ⟨updUp 1 0,
    0,
    true,
    by decide +kernel⟩⟩

/-- The hypotheses of RecoveryMode are met, clause by clause. -/
theorem wit_RecoveryMode :
    (∃ (s : State) (f : TftpFrame),
      s.inRecovery = true ∧
      tftpOctet f.bytes = true ∧
      s.mg.tftp = none) ∧
    (∃ (s : State) (f : TftpFrame),
      s.inRecovery = true ∧
      (beNat (f.bytes.take 2) = 1 ∨ beNat (f.bytes.take 2) = 2) ∧
      tftpOctet f.bytes = false) ∧
    (∃ (s : State) (f : TftpFrame) (x : Tftp),
      s.inRecovery = true ∧
      s.mg.tftp = some x ∧
      x.last = none ∧
      beNat (f.bytes.take 2) = 3 ∧
      x.ip = f.srcIp.toNat ∧
      x.port = f.srcPort.toNat ∧
      beNat ((f.bytes.drop 2).take 2) = ((x.got.length + 511) / 512 + 1) % 65536 ∧
      x.got.length % 512 = 0 ∧
      f.bytes.length = 516 ∧
      x.got ≠ []) ∧
    (∃ (s : State) (f : TftpFrame) (x : Tftp),
      s.inRecovery = true ∧
      s.mg.tftp = some x ∧
      x.last = none ∧
      beNat (f.bytes.take 2) = 3 ∧
      x.ip = f.srcIp.toNat ∧
      x.port = f.srcPort.toNat ∧
      beNat ((f.bytes.drop 2).take 2) = ((x.got.length + 511) / 512 + 1) % 65536 ∧
      x.got.length % 512 = 0 ∧
      f.bytes.length < 516 ∧
      x.got ≠ []) ∧
    (∃ (s : State) (f : TftpFrame) (x : Tftp),
      s.inRecovery = true ∧
      s.mg.tftp = some x ∧
      x.last = none ∧
      beNat (f.bytes.take 2) = 3 ∧
      x.ip = f.srcIp.toNat ∧
      x.port = f.srcPort.toNat ∧
      beNat ((f.bytes.drop 2).take 2) = ((x.got.length + 511) / 512 + 1) % 65536 ∧
      x.got.length % 512 = 0 ∧
      4 ≤ f.bytes.length ∧
      f.bytes.length ≤ 516 ∧
      x.got = [] ∧
      s.recFirst (f.bytes.drop 4) = false) ∧
    (∃ (s : State),
      s.inRecovery = true) ∧
    (∃ (s : State) (f : RxFrame),
      s.inRecovery = true ∧
      beNat ((f.bytes.drop 12).take 2) = 0x0806 ∧
      (beNat (f.bytes.take 6) = 2 ^ 48 - 1 ∨ beNat (f.bytes.take 6) = s.getSel 0x3C00) ∧
      arpFor (f.bytes.drop 14) s.recIp = true) ∧
    (∃ (s : State),
      s.inRecovery = true ∧
      s.mg.recovered = true ∧
      s.fld F.UPD_STAT_STAGE = 0) :=
  ⟨⟨romUp none,
    tfr (beBytes 2 2 ++ [102, 0, 79, 99, 116, 101, 116, 0]),
    by decide +kernel⟩,
   ⟨romUp none,
    tfr (beBytes 2 1 ++ [102, 0, 79, 99, 116, 101, 116, 0]),
    by decide +kernel⟩,
   ⟨romUp (some (tft (List.replicate 512 1))),
    tfr (beBytes 2 3 ++ beBytes 2 2 ++ List.replicate 512 7),
    tft (List.replicate 512 1),
    by decide +kernel⟩,
   ⟨romUp (some (tft (List.replicate 512 1))),
    tfr (beBytes 2 3 ++ beBytes 2 2 ++ List.replicate 100 7),
    tft (List.replicate 512 1),
    by decide +kernel⟩,
   ⟨romUp (some (tft [])),
    tfr (beBytes 2 3 ++ beBytes 2 1 ++ List.replicate 512 7),
    tft [],
    by decide +kernel⟩,
   ⟨romUp (some (tft [])),
    by decide +kernel⟩,
   ⟨romUp none,
    ⟨arpBytes.take 38 ++ [169, 254, 1, 1]⟩,
    by decide +kernel⟩,
   ⟨{ romUp none with mg := { recovered := true } },
    by decide +kernel⟩⟩

/-- The hypotheses of StepRunsFront are met, clause by clause. -/
theorem wit_StepRunsFront :
    (∃ (s : State),
      s.pending = []) :=
  ⟨up,
    by decide +kernel⟩

/-- The hypotheses of ResetLeaves are met, clause by clause. -/
theorem wit_ResetLeaves :
    (∃ (s : State),
      s.flag F.DBG_STAT_FROZEN = true ∧
      s.pending = []) :=
  ⟨State.reset.put F.DBG_STAT_FROZEN 1,
    by decide +kernel⟩

/-- The hypotheses of HeldDeviceStands are met, clause by clause. -/
theorem wit_HeldDeviceStands :
    (∃ (s : State),
      s.stands = true) :=
  ⟨{ State.reset with pending := [.lockIdle, .hopTimeout] },
    by decide +kernel⟩

/-- The hypotheses of MemoryStaysCanonical are met, clause by clause. -/
theorem wit_MemoryStaysCanonical :
    (∃ (s : State),
      Memory.wf s = true) ∧
    (∃ (s : State),
      Memory.wf s = true) :=
  ⟨⟨up,
    by decide +kernel⟩,
   ⟨{ up with pending := [.lockIdle] },
    by decide +kernel⟩⟩

/-- The hypotheses of AccessChecks are met, clause by clause. -/
theorem wit_AccessChecks :
    (∃ (s : State) (a : BitVec 24) (n : Nat),
      s.live = true ∧
      s.bus = [] ∧
      (s.regAbsent (a.toNat / 4 * 4) = true ∨ ((findReg (a.toNat / 4 * 4)).isSome = false ∧ s.regAsleep (a.toNat / 4 * 4) = none ∧ n = 4))) ∧
    (∃ (s : State) (a : BitVec 24) (d : Nat),
      s.live = true ∧
      s.bus = [] ∧
      s.regAbsent (a.toNat / 4 * 4) = false ∧
      s.regAsleep (a.toNat / 4 * 4) = some d) ∧
    (∃ (s : State) (a : BitVec 24) (n : Nat),
      s.live = true ∧
      s.bus = [] ∧
      s.regAbsent (a.toNat / 4 * 4) = false ∧
      s.regAsleep (a.toNat / 4 * 4) = none ∧
      n ≠ 4) ∧
    (∃ (s : State) (a : BitVec 24) (n : Nat) (p : Bool),
      s.live = true ∧
      s.bus = [] ∧
      (findReg (a.toNat / 4 * 4)).isSome = true ∧
      s.regAbsent (a.toNat / 4 * 4) = false ∧
      s.regAsleep (a.toNat / 4 * 4) = none ∧
      n = 4 ∧
      s.regPriv (a.toNat / 4 * 4) = true ∧
      p = false) ∧
    (∃ (s : State) (a : BitVec 24) (n : Nat),
      s.live = true ∧
      s.bus = [] ∧
      (findReg (a.toNat / 4 * 4)).isSome = true ∧
      s.regAbsent (a.toNat / 4 * 4) = false ∧
      s.regAsleep (a.toNat / 4 * 4) = none ∧
      n = 4 ∧
      keyReg (a.toNat / 4 * 4) = true ∧
      s.armed = false) ∧
    (∃ (s : State) (k : Fin 16) (w : Word),
      s.live = true ∧
      s.bus = [] ∧
      s.awake 2 = true ∧
      2 ≤ s.fld F.SEQ_STAT_HEAT ∧
      s.fld F.SEQ_STAT_HEAT ≤ 4 ∧
      getBits 0 8 w ≠ getBits 0 8 (s.rd (0x30200 + 4 * k.val)) ∧
      s.shadowOf (0x30200 + 4 * k.val) = none) ∧
    (∃ (s : State) (k : Fin 16) (w : Word),
      s.live = true ∧
      s.bus = [] ∧
      s.awake 2 = true ∧
      getBits 0 8 w = getBits 0 8 (s.rd (0x30200 + 4 * k.val)) ∧
      s.shadowOf (0x30200 + 4 * k.val) = none) ∧
    (∃ (s : State) (w : Word) (p : Bool),
      s.opens 0x130000 p = true ∧
      s.anyActive = true ∧
      getBits 0 2 w ≠ s.role ∧
      s.fld F.MIR_STAT_HB_NOW = 0) :=
  ⟨⟨up,
    0xFFFFFC,
    4,
    by decide +kernel⟩,
   ⟨up.put (awakeBit 0x22) 0,
    0xD0008,
    0x22,
    by decide +kernel⟩,
   ⟨up,
    0x30018,
    2,
    by decide +kernel⟩,
   ⟨up,
    0x20120,
    4,
    false,
    by decide +kernel⟩,
   ⟨up,
    0x160008,
    4,
    by decide +kernel⟩,
   ⟨up.put F.SEQ_STAT_HEAT 3,
    3,
    0xFF,
    by decide +kernel⟩,
   ⟨up.put F.SEQ_STAT_HEAT 3,
    3,
    0x5500,
    by decide +kernel⟩,
   ⟨(mirUp 1 1).put (F.SQ_STAT_STATE 2) sqRunning,
    0x132#32,
    false,
    by decide +kernel⟩⟩

/-- The hypotheses of NetworkAndUpdateRowsKeep are met, clause by clause. -/
theorem wit_NetworkAndUpdateRowsKeep :
    (∃ (c : Instr),
      netRow c = true) ∧
    (∃ (c : Instr),
      batonRow c = true) ∧
    (∃ (c : Instr),
      updateRow c = true) :=
  ⟨⟨.xoffRepeat 1,
    by decide +kernel⟩,
   ⟨.batqMark none,
    by decide +kernel⟩,
   ⟨.lockIdle,
    by decide +kernel⟩⟩

/-- The hypotheses of QueuesStayWithinDepth are met, clause by clause. -/
theorem wit_QueuesStayWithinDepth :
    (∃ (s : State),
      s.queuesFit = true) ∧
    (∃ (s : State),
      s.queuesFit = true) :=
  ⟨⟨up,
    by decide +kernel⟩,
   ⟨{ up with pending := [.lockIdle] },
    by decide +kernel⟩⟩

/-- The hypotheses of ClockAndDramRowsKeep are met, clause by clause. -/
theorem wit_ClockAndDramRowsKeep :
    (∃ (c : Instr),
      clockRow c = true) ∧
    (∃ (c : Instr),
      dramRow c = true) :=
  ⟨⟨.coastLong,
    by decide +kernel⟩,
   ⟨.owedRefresh 3,
    by decide +kernel⟩⟩

/-- The hypotheses of DramPlacesApart are met, clause by clause. -/
theorem wit_DramPlacesApart :
    (∃ (s : State) (a : Nat) (b : Nat) (x : Nat × Nat),
      s.dramSane = true ∧
      a ≠ b ∧
      x ∈ s.dramLocs a) ∧
    (∃ (s : State) (a : Nat) (b : Nat),
      s.dramSane = true ∧
      a ≠ b) :=
  ⟨⟨up,
    2 ^ 30,
    2 ^ 30 + 256,
    (0, 134217728),
    by decide +kernel⟩,
   ⟨up,
    2 ^ 30,
    5,
    by decide +kernel⟩⟩

/-- The hypotheses of FreezeEnds are met, clause by clause. -/
theorem wit_FreezeEnds :
    (∃ (s : State) (c : Instr),
      s.thawedBy c = true) ∧
    (∃ (s : State),
      s.flag F.DBG_STAT_FROZEN = true ∧
      s.sup.frzLow = true ∧
      s.flag F.DBG_STAT_FRZ_REG = false) ∧
    (∃ (s : State),
      s.flag F.DBG_STAT_FROZEN = true ∧
      s.sup.frzLow = false) ∧
    (∃ (s : State),
      s.flag F.DBG_STAT_FROZEN = true ∧
      s.sup.frzLow = true) ∧
    (∃ (s : State) (c : Instr),
      s.flag F.DBG_STAT_FROZEN = true ∧
      (c = .brownOut ∨ c = .porNLow)) :=
  ⟨⟨State.reset.put F.DBG_STAT_FROZEN 1,
    .brownOut,
    by decide +kernel⟩,
   ⟨{ frozen with sup := { frozen.sup with frzLow := true } },
    by decide +kernel⟩,
   ⟨frozen,
    by decide +kernel⟩,
   ⟨{ frozen with sup := { frozen.sup with frzLow := true } },
    by decide +kernel⟩,
   ⟨frozen,
    .porNLow,
    by decide +kernel⟩⟩

/-- The hypotheses of FaultRecordsHeld are met, clause by clause. -/
theorem wit_FaultRecordsHeld :
    (∃ (s : State) (src : Nat) (code : Nat) (cls : Nat) (unit : Nat) (d : Nat) (t : State),
      (s.q.logHold = [] ∧
       s.level 12 < 1024 ∧
       s.q.logDrop = 0) ∧
      t = s.log src code cls unit d) ∧
    (∃ (s : State) (src : Nat) (code : Nat) (cls : Nat) (unit : Nat) (d : Nat) (t : State),
      ((s.q.logHold ≠ [] ∨ 1024 ≤ s.level 12) ∧
       s.q.logHold.length < 64 ∧
       s.q.logDrop = 0) ∧
      t = s.log src code cls unit d) ∧
    (∃ (s : State) (src : Nat) (code : Nat) (cls : Nat) (unit : Nat) (d : Nat) (t : State),
      (64 ≤ s.q.logHold.length) ∧
      t = s.log src code cls unit d) ∧
    (∃ (s : State) (src : Nat) (code : Nat) (cls : Nat) (unit : Nat) (d : Nat) (t : State),
      ((s.q.logHold ≠ [] ∨ 1024 ≤ s.level 12) ∧
       s.q.logHold.length < 63 ∧
       0 < s.q.logDrop) ∧
      t = s.log src code cls unit d) ∧
    (∃ (s : State) (src : Nat) (code : Nat) (cls : Nat) (unit : Nat) (d : Nat) (t : State),
      (s.q.logHold.length = 63 ∧
       0 < s.q.logDrop) ∧
      t = s.log src code cls unit d) ∧
    (∃ (s : State) (src : Nat) (code : Nat) (cls : Nat) (unit : Nat) (d : Nat) (t : State),
      (s.q.logHold = [] ∧
       s.level 12 < 1023 ∧
       0 < s.q.logDrop) ∧
      t = s.log src code cls unit d) :=
  ⟨⟨up,
    0x14,
    5,
    2,
    8,
    0,
    (up : State).log 0x14 5 2 8 0,
    by decide +kernel, rfl⟩,
   ⟨{ up with q := { up.q with logq := { recs := List.replicate 1 [] }, logHold := [[]], logDrop := 0 } },
    0x14,
    5,
    2,
    8,
    0,
    ({ up with q := { up.q with logq := { recs := List.replicate 1 [] }, logHold := [[]], logDrop := 0 } } : State).log 0x14 5 2 8 0,
    by decide +kernel, rfl⟩,
   ⟨{ up with q := { up.q with logq := { recs := List.replicate 1 [] }, logHold := List.replicate 64 [], logDrop := 3 } },
    0x14,
    5,
    2,
    8,
    0,
    ({ up with q := { up.q with logq := { recs := List.replicate 1 [] }, logHold := List.replicate 64 [], logDrop := 3 } } : State).log 0x14 5 2 8 0,
    by decide +kernel, rfl⟩,
   ⟨{ up with q := { up.q with logq := { recs := List.replicate 1 [] }, logHold := [[]], logDrop := 3 } },
    0x14,
    5,
    2,
    8,
    0,
    ({ up with q := { up.q with logq := { recs := List.replicate 1 [] }, logHold := [[]], logDrop := 3 } } : State).log 0x14 5 2 8 0,
    by decide +kernel, rfl⟩,
   ⟨{ up with q := { up.q with logq := { recs := List.replicate 1 [] }, logHold := List.replicate 63 [], logDrop := 3 } },
    0x14,
    5,
    2,
    8,
    0,
    ({ up with q := { up.q with logq := { recs := List.replicate 1 [] }, logHold := List.replicate 63 [], logDrop := 3 } } : State).log 0x14 5 2 8 0,
    by decide +kernel, rfl⟩,
   ⟨{ up with q := { up.q with logq := { recs := List.replicate 1 [] }, logHold := [], logDrop := 3 } },
    0x14,
    5,
    2,
    8,
    0,
    ({ up with q := { up.q with logq := { recs := List.replicate 1 [] }, logHold := [], logDrop := 3 } } : State).log 0x14 5 2 8 0,
    by decide +kernel, rfl⟩⟩

/-- The hypotheses of EvqReads are met, clause by clause. -/
theorem wit_EvqReads :
    (∃ (s : State) (x : BusRead) (r : Rec) (l : List Rec),
      s.gives 0x30040 x.p = true ∧
      readOk x = true ∧
      s.q.evq.recs = r :: l ∧
      s.q.evq.rd < 3) ∧
    (∃ (s : State) (x : BusRead) (r : Rec) (l : List Rec),
      s.gives 0x30040 x.p = true ∧
      readOk x = true ∧
      s.q.evq.recs = r :: l ∧
      s.q.evq.rd = 3 ∧
      bitOf s.q.upset 8 = false) ∧
    (∃ (s : State) (x : BusRead),
      s.opens 0x30040 x.p = true ∧
      readOk x = true ∧
      s.q.evq.recs = []) ∧
    (∃ (s : State) (x : BusRead),
      ({ s with bus := [] } : State).opens 0x30040 x.p = true ∧
      readOk x = true ∧
      s.bus = [lookAcc 0x30040 x false false] ∧
      s.q.evq.recs = [] ∧
      s.fld F.MBX_STAT_BUSY = 0 ∧
      s.plan.waitPll = false ∧
      s.fld F.FABRIC_STAT_BUSY = 0 ∧
      s.mg.rxq = []) :=
  ⟨⟨{ up with q := { up.q with evq := { recs := [[5, 6, 7, 8], [1, 2, 3, 4]], rd := 2 } } },
    ⟨true, 4, 0⟩,
    [5, 6, 7, 8],
    [[1, 2, 3, 4]],
    by decide +kernel⟩,
   ⟨{ up with q := { up.q with evq := { recs := [[5, 6, 7, 8], [1, 2, 3, 4]], rd := 3 } } },
    ⟨true, 2, 2⟩,
    [5, 6, 7, 8],
    [[1, 2, 3, 4]],
    by decide +kernel⟩,
   ⟨up,
    ⟨true, 2, 2⟩,
    by decide +kernel⟩,
   ⟨{ up with bus := [lookAcc 0x30040 ⟨true, 2, 2⟩ false false] },
    ⟨true, 2, 2⟩,
    by decide +kernel⟩⟩

/-- The hypotheses of PlanUnloads are met, clause by clause. -/
theorem wit_PlanUnloads :
    (∃ (s : State) (w : Word) (p : Bool),
      s.orders F.PLAN_CTRL_UNLOAD [0, 1] w p = true ∧
      s.fld F.PLAN_STAT_BUSY = 0 ∧
      s.fld F.SEQ_STAT_HEAT = 1) ∧
    (∃ (s : State) (w : Word) (p : Bool),
      s.orders F.PLAN_CTRL_UNLOAD [0, 1] w p = true ∧
      s.fld F.PLAN_STAT_BUSY = 0 ∧
      s.fld F.SEQ_STAT_HEAT ≠ 1) :=
  ⟨⟨loaded,
    0#32,
    false,
    by decide +kernel⟩,
   ⟨up,
    0#32,
    false,
    by decide +kernel⟩⟩

/-- The hypotheses of SoftwareEvents are met, clause by clause. -/
theorem wit_SoftwareEvents :
    (∃ (s : State) (hi : Bool) (w : Word) (p : Bool),
      (s.takes (if hi then 0x30014 else 0x30010) w p = true)) ∧
    (∃ (s : State) (hi : Bool) (w : Word) (p : Bool),
      (s.takes (if hi then 0x3001C else 0x30018) w p = true)) ∧
    (∃ (s : State) (i : Fin 64),
      s.evSrc i.val = 0x20 ∧
      s.evLevelKind i.val = true) :=
  ⟨⟨up.put (F.EVT_MAP_SRC 35) 0x20,
    true,
    0x0108,
    false,
    by decide +kernel⟩,
   ⟨up,
    true,
    0x80000001#32,
    false,
    by decide +kernel⟩,
   ⟨puts up [(F.EVT_MAP_SRC 35, 0x20), (F.EVT_MAP_KIND 35, 1)],
    35,
    by decide +kernel⟩⟩

/-- The hypotheses of Overtemperature are met, clause by clause. -/
theorem wit_Overtemperature :
    (∃ (s : State) (l : List Int),
      s.live = true ∧
      s.fld F.SUP_STAT_OT_NOW = 0 ∧
      l.length = 16 ∧
      (l.all (fun v => decide (-32768 ≤ v ∧ v < 32768)) = true) ∧
      (l.any (fun v => decide (8 * (s.fld F.SUP_THERM_OT_THRESH : Int) ≤ v)) = true)) ∧
    (∃ (s : State) (l : List Int),
      s.live = true ∧
      s.fld F.SUP_STAT_OT_NOW = 1 ∧
      l.length = 16 ∧
      (l.all (fun v => decide (-32768 ≤ v ∧ v < 32768)) = true) ∧
      (l.all (fun v => decide (v < 8 * (s.fld F.SUP_THERM_OT_THRESH : Int) - 40)) = true)) ∧
    (∃ (s : State) (l : List Int),
      s.live = true ∧
      l.length = 16 ∧
      (l.all (fun v => decide (-32768 ≤ v ∧ v < 32768)) = true) ∧
      (s.fld F.SUP_STAT_OT_NOW = 0 ∧ l.all (fun v => decide (v < 8 * (s.fld F.SUP_THERM_OT_THRESH : Int))) = true ∨ s.fld F.SUP_STAT_OT_NOW = 1 ∧ l.any (fun v => decide (8 * (s.fld F.SUP_THERM_OT_THRESH : Int) - 40 ≤ v)) = true)) ∧
    (∃ (s : State) (i : Fin 64),
      s.evSrc i.val = 0x50 ∧
      s.evLevelKind i.val = true) ∧
    (∃ (s : State) (w : Word) (p : Bool),
      s.takes 0x120000 w p = true) :=
  ⟨⟨up.put F.SUP_THERM_OT_THRESH 100,
    (List.range 16).map (fun i => if i = 9 then 800 else (-40 : Int)),
    by decide +kernel⟩,
   ⟨(up.put F.SUP_STAT_OT_NOW 1).put F.SUP_THERM_OT_THRESH 100,
    (List.range 16).map (fun i => if i = 9 then 759 else (-40 : Int)),
    by decide +kernel⟩,
   ⟨(up.put F.SUP_STAT_OT_NOW 1).put F.SUP_THERM_OT_THRESH 100,
    (List.range 16).map (fun i => if i = 9 then 760 else (-40 : Int)),
    by decide +kernel⟩,
   ⟨puts up [(F.EVT_MAP_SRC 35, 0x50), (F.EVT_MAP_KIND 35, 1)],
    35,
    by decide +kernel⟩,
   ⟨(up.put F.SUP_STAT_OT_NOW 1).put F.SUP_STAT_OT_SEEN 1,
    0x10000,
    false,
    by decide +kernel⟩⟩

end Sys2Proof.Tests
end

section
/-! SUPPORT. The memories' canonical form under every function of the model that answers a state: one rule per function,
`Keeps.f`, which carries the form from `f`'s argument to its result, and from them one for `exec` and one for `step`. That
each command answers a next state (`Answers`) comes with them. -/

namespace Sys2Proof.Machine

/-- The memories of `t` have the canonical form wherever those of `s` have it. -/
def Keeps (s t : State) : Prop := Memory.wf s = true → Memory.wf t = true

/-- An outcome is a next state, whose memories have the canonical form wherever those of `s` have it. -/
def Answers (s : State) (o : Host.Outcome State Fault Refusal) : Prop := ∃ t, o = .next t ∧ Keeps s t

/-- What an unlisted byte of DRAM reads as depends only on what a reset leaves of the channels' records. -/
theorem State.dramDef_congr {s t : State} (h : ∀ c, (t.dch c).kept = (s.dch c).kept) : t.dramDef = s.dramDef := by
  funext k
  have e := h (k / 2 ^ 34)
  simp only [Dch.kept, Dch.mk.injEq, true_and, and_true] at e
  obtain ⟨h1, h2, h3, h4⟩ := e
  simp only [State.dramDef, h1, h2, h3, h4]

theorem Keeps.refl (s : State) : Keeps s s := id

section
variable {s₀ s t : State}

/-- A change that leaves the memories and the channels' records keeps the form. -/
theorem Keeps.frame (h : Keeps s₀ s) (hm : t.mem = s.mem := by dsimp only) (hd : t.dram.ch = s.dram.ch := by dsimp only) : Keeps s₀ t :=
  fun w => Memory.wf_congr hm hd (h w)

/-- A change of some memories: what each then has to show. A memory that the change leaves, shows nothing. -/
theorem Keeps.mem (h : Keeps s₀ s) (hd : t.dram.ch = s.dram.ch := by dsimp only)
    (dram : Sp.wf s.dramDef s.mem.dram = true → Sp.wf s.dramDef t.mem.dram = true := by exact id)
    (track : Sp.wf (fun _ => (0 : Byte)) s.mem.track = true → Sp.wf (fun _ => (0 : Byte)) t.mem.track = true := by exact id)
    (course : Sp.wf (fun _ => (0 : Word)) s.mem.course = true → Sp.wf (fun _ => (0 : Word)) t.mem.course = true := by exact id)
    (dir : Sp.wf (fun _ => (0 : Word)) s.mem.dir = true → Sp.wf (fun _ => (0 : Word)) t.mem.dir = true := by exact id)
    (prof : Sp.wf (fun _ => (0 : Word)) s.mem.prof = true → Sp.wf (fun _ => (0 : Word)) t.mem.prof = true := by exact id)
    (pv : Sp.wf (fun _ => (0 : Word)) s.mem.pv = true → Sp.wf (fun _ => (0 : Word)) t.mem.pv = true := by exact id)
    (wear : Sp.wf (fun _ => (0 : Nat)) s.mem.wear = true → Sp.wf (fun _ => (0 : Nat)) t.mem.wear = true := by exact id)
    (otp : Sp.wf otpDef s.mem.otp = true → Sp.wf otpDef t.mem.otp = true := by exact id)
    (flash : Sp.wf flashDef s.mem.flash = true → Sp.wf flashDef t.mem.flash = true := by exact id) : Keeps s₀ t := by
  intro w
  have e : t.dramDef = s.dramDef := State.dramDef_congr (fun c => by rw [State.dch, hd, State.dch])
  obtain ⟨w1, w2, w3, w4, w5, w6, w7, w8, w9⟩ := (Memory.wf_iff s).1 (h w)
  rw [Memory.wf_iff, e]
  exact ⟨dram w1, track w2, course w3, dir w4, prof w5, pv w6, wear w7, otp w8, flash w9⟩

theorem Keeps.ite {a b : State} {c : Prop} {_ : Decidable c} (ha : Keeps s₀ a) (hb : Keeps s₀ b) :
    Keeps s₀ (if c then a else b) := by
  split
  · exact ha
  · exact hb

theorem Keeps.foldl {α : Type} {l : List α} {f : State → α → State} (h : Keeps s₀ s)
    (hf : ∀ t x, Keeps s₀ t → Keeps s₀ (f t x)) : Keeps s₀ (l.foldl f s) :=
  l.foldlRecOn f h (fun t ht x _ => hf t x ht)

theorem Keeps.foldl_fst {α β : Type} {l : List α} {f : State × β → α → State × β} {x : State × β} (h : Keeps s₀ x.1)
    (hf : ∀ y a, Keeps s₀ y.1 → Keeps s₀ (f y a).1) : Keeps s₀ (l.foldl f x).1 :=
  List.foldlRecOn (motive := fun y : State × β => Keeps s₀ y.1) l f h (fun y hy a _ => hf y a hy)

theorem Answers.next (h : Keeps s₀ s) : Answers s₀ (.next s) := ⟨s, rfl, h⟩

theorem Answers.ite {a b : Host.Outcome State Fault Refusal} {c : Prop} {_ : Decidable c} (ha : Answers s₀ a)
    (hb : Answers s₀ b) : Answers s₀ (if c then a else b) := by
  split
  · exact ha
  · exact hb

end

section
set_option Elab.async false
variable {s₀ s : State}

/-! ### One rule for each function of the model, in the order in which they use each other -/

theorem Keeps.wr (h : Keeps s₀ s) {a : Nat} {v : Word} : Keeps s₀ (s.wr a v) := h.frame rfl rfl

theorem Keeps.put (h : Keeps s₀ s) {f : Fld} {v : Nat} : Keeps s₀ (s.put f v) := h.wr

theorem Keeps.driveOutEn (h : Keeps s₀ s) : Keeps s₀ s.driveOutEn := by
  unfold State.driveOutEn
  split
  · exact h
  · extract_lets up s1 s'
    have hs1 : Keeps s₀ s1 := h.put
    exact hs1.frame

theorem Keeps.pairEval (h : Keeps s₀ s) : Keeps s₀ s.pairEval := Keeps.ite h h.put.put.driveOutEn

theorem Keeps.pennantEvent (h : Keeps s₀ s) {ev t : Nat} : Keeps s₀ (s.pennantEvent ev t) := h.frame rfl rfl

theorem Keeps.setFc (h : Keeps s₀ s) {n : Nat} {c : Fc} : Keeps s₀ (s.setFc n c) := h.frame rfl rfl

theorem Keeps.addSw (h : Keeps s₀ s) {n : Nat} {w : Sw} : Keeps s₀ (s.addSw n w) := h.setFc

theorem Keeps.hopEvent (h : Keeps s₀ s) {ev : Nat} : Keeps s₀ (s.hopEvent ev) := by
  unfold State.hopEvent
  refine h.foldl fun t x ht => ?_
  split
  · exact ht
  · exact Keeps.ite ht.addSw ht

theorem Keeps.setSq (h : Keeps s₀ s) {n : Nat} {q : Sq} : Keeps s₀ (s.setSq n q) := h.frame rfl rfl

theorem Keeps.addDec (h : Keeps s₀ s) {n : Nat} {d : Dec} : Keeps s₀ (s.addDec n d) := h.setSq

theorem Keeps.stageLoad (h : Keeps s₀ s) {n g : Nat} : Keeps s₀ (s.stageLoad n g) := Keeps.ite h h.setSq

theorem Keeps.prepGroup (h : Keeps s₀ s) {n e : Nat} : Keeps s₀ (s.prepGroup n e) := Keeps.ite h h.stageLoad

theorem Keeps.moveDelay (h : Keeps s₀ s) {old : State} {j k : Nat} : Keeps s₀ (s.moveDelay old j k) :=
  Keeps.ite h.setFc (Keeps.ite h.frame h)

theorem Keeps.raise (h : Keeps s₀ s) {f : Fld} : Keeps s₀ (s.raise f) := h.put

theorem Keeps.retrim (h : Keeps s₀ s) {old : State} {k : Nat} : Keeps s₀ (s.retrim old k) := by
  unfold State.retrim
  refine h.foldl fun t x ht => ?_
  split
  · exact ht
  · extract_lets t1
    have ht1 : Keeps s₀ t1 := ht.moveDelay
    exact Keeps.ite ht1.raise ht1

theorem Keeps.schedule (h : Keeps s₀ s) {k a : Nat} {v : Word} : Keeps s₀ (s.schedule k a v) := Keeps.ite h.frame h

theorem Keeps.copyShadow (h : Keeps s₀ s) {k a : Nat} : Keeps s₀ (s.copyShadow k a) := by
  unfold State.copyShadow
  split
  · exact h
  · exact h.wr.schedule

theorem Keeps.copyInst (h : Keeps s₀ s) {k : Nat} {b : BufInst} : Keeps s₀ (s.copyInst k b) :=
  Keeps.ite (h.foldl (fun _ _ ht => ht.copyShadow)) h

theorem Keeps.strobe (h : Keeps s₀ s) {k g : Nat} : Keeps s₀ (s.strobe k g) := by
  unfold State.strobe
  extract_lets s1 s2 s3
  have hs1 : Keeps s₀ s1 := Keeps.ite ((h.foldl (fun _ _ ht => ht.copyInst)).retrim) h
  have hs2 : Keeps s₀ s2 := by
    unfold s2
    refine hs1.foldl fun t x ht => ?_
    split
    · extract_lets t1
      have ht1 : Keeps s₀ t1 := ht.copyInst
      exact Keeps.ite ht1.addSw ht1
    · exact ht
  have hs3 : Keeps s₀ s3 := hs2.foldl (fun _ _ ht => Keeps.ite ht.copyInst ht)
  exact Keeps.ite hs3.copyInst hs3

theorem Keeps.strobesAt (h : Keeps s₀ s) {k m : Nat} : Keeps s₀ (s.strobesAt k m) := h.foldl (fun _ _ ht => ht.strobe)

theorem Keeps.prepOuts (h : Keeps s₀ s) {n e o : Nat} : Keeps s₀ (s.prepOuts n e o) := by
  unfold State.prepOuts
  extract_lets x s1
  have hs1 : Keeps s₀ s1 := h.strobesAt
  exact Keeps.ite (hs1.foldl (fun _ _ ht => ht.addSw)) hs1

theorem Keeps.prepVisit (h : Keeps s₀ s) {n e o : Nat} : Keeps s₀ (s.prepVisit n e o) := h.prepOuts.prepGroup

theorem Keeps.takeTail (h : Keeps s₀ s) {n o : Nat} : Keeps s₀ (s.takeTail n o) := h.setSq

theorem Keeps.goTo (h : Keeps s₀ s) {n o e : Nat} {jump : Bool} : Keeps s₀ (s.goTo n o e jump) := by
  unfold State.goTo
  extract_lets s1
  have hs1 : Keeps s₀ s1 := h.prepVisit.addDec
  exact Keeps.ite hs1.takeTail hs1

theorem Keeps.setQ (h : Keeps s₀ s) {i : Nat} {v : Q} : Keeps s₀ (s.setQ i v) := by
  unfold State.setQ
  split
  · exact h.frame
  · exact h.frame
  · exact h.frame
  · exact h.frame
  · exact h.frame
  · exact h.frame
  · exact h.frame

theorem Keeps.addTo (h : Keeps s₀ s) {f : Fld} {n : Nat} : Keeps s₀ (s.addTo f n) := h.put

theorem Keeps.bump (h : Keeps s₀ s) {f : Fld} : Keeps s₀ (s.bump f) := h.addTo

theorem Keeps.enter (h : Keeps s₀ s) {i : Nat} {r : Rec} : Keeps s₀ (s.enter i r) := by
  unfold State.enter
  extract_lets q s1
  have hs1 : Keeps s₀ s1 := h.setQ
  exact Keeps.ite hs1.raise.bump hs1

theorem Keeps.evEnter (h : Keeps s₀ s) {r : Rec} : Keeps s₀ (s.evEnter r) := by
  unfold State.evEnter
  extract_lets s1 s'
  have hs1 : Keeps s₀ s1 := h.enter
  exact hs1.frame

theorem Keeps.evDrain (h : Keeps s₀ s) {k : Nat} : Keeps s₀ (State.evDrain k s) := by
  induction k generalizing s with
  | zero => exact h
  | succ k ih =>
    unfold State.evDrain
    split
    · exact h
    · exact Keeps.ite h (ih h.frame.evEnter)

theorem Keeps.evDiscard (h : Keeps s₀ s) {n : Nat} : Keeps s₀ (s.evDiscard n) := by
  unfold State.evDiscard
  extract_lets s1 s' s2 s'_1 s3
  have hs1 : Keeps s₀ s1 := h.addTo
  have hs2 : Keeps s₀ s2 := hs1.frame
  have hs3 : Keeps s₀ s3 := Keeps.ite hs2 hs2.frame.evEnter
  exact hs3.evDrain

theorem Keeps.resetQ (h : Keeps s₀ s) {i : Nat} : Keeps s₀ (s.resetQ i) := h.setQ

theorem Keeps.clearQ (h : Keeps s₀ s) {i : Nat} : Keeps s₀ (s.clearQ i) := by
  unfold State.clearQ
  extract_lets s1 s'
  have hs1 : Keeps s₀ s1 := h.resetQ
  exact hs1.frame

theorem Keeps.aoTick (h : Keeps s₀ s) : Keeps s₀ s.aoTick := h.frame rfl rfl

theorem Keeps.logEnter (h : Keeps s₀ s) {r : Rec} : Keeps s₀ (s.logEnter r) := by
  unfold State.logEnter
  extract_lets s1 s'
  have hs1 : Keeps s₀ s1 := h.enter
  exact hs1.frame

theorem Keeps.logPut (h : Keeps s₀ s) {r : Rec} : Keeps s₀ (s.logPut r) := Keeps.ite h.logEnter h.frame

theorem Keeps.logLost (h : Keeps s₀ s) : Keeps s₀ s.logLost := by
  unfold State.logLost
  split
  · extract_lets s0 s1 s'
    have hs0 : Keeps s₀ s0 := h.aoTick
    have hs1 : Keeps s₀ s1 := hs0.logPut
    exact hs1.frame
  · exact h

theorem Keeps.log (h : Keeps s₀ s) {src code cls unit detail : Nat} : Keeps s₀ (s.log src code cls unit detail) := by
  unfold State.log
  extract_lets s1 s2 s'
  have hs1 : Keeps s₀ s1 := h.logLost
  have hs2 : Keeps s₀ s2 := hs1.bump.raise
  exact Keeps.ite hs1.aoTick.logPut hs2.frame

theorem Keeps.ptrMismatch (h : Keeps s₀ s) {i : Nat} : Keeps s₀ (s.ptrMismatch i) :=
  (Keeps.ite h.clearQ.evDiscard h.clearQ).raise.put.bump.log

theorem Keeps.ptrCheck (h : Keeps s₀ s) {i : Nat} : Keeps s₀ (s.ptrCheck i) := Keeps.ite h.ptrMismatch h

theorem Keeps.evPlace (h : Keeps s₀ s) {k : Nat} {r : Rec} : Keeps s₀ (s.evPlace k r) := by
  unfold State.evPlace
  split
  · extract_lets s1 s' s'_1
    have hs1 : Keeps s₀ s1 := h.evEnter
    exact hs1.frame.ptrCheck
  · exact h.frame

theorem Keeps.evLost (h : Keeps s₀ s) : Keeps s₀ s.evLost := Keeps.ite h.frame.evPlace h

theorem Keeps.evPut (h : Keeps s₀ s) {r : Rec} : Keeps s₀ (s.evPut r) := h.frame.evPlace

theorem Keeps.event (h : Keeps s₀ s) {r : Rec} : Keeps s₀ (s.event r) := by
  unfold State.event
  extract_lets s1 s2 s'
  have hs1 : Keeps s₀ s1 := h.evLost
  have hs2 : Keeps s₀ s2 := hs1.bump.raise
  exact Keeps.ite hs1.evPut hs2.frame

theorem Keeps.sqRec (h : Keeps s₀ s) {n code data o : Nat} : Keeps s₀ (s.sqRec n code data o) := h.event

theorem Keeps.fallbackOf (h : Keeps s₀ s) {n e o cause stopCause : Nat} : Keeps s₀ (s.fallbackOf n e o cause stopCause) :=
  Keeps.ite h.addDec h.prepVisit.addDec.takeTail

theorem Keeps.decideFallback (h : Keeps s₀ s) {n o cause stopCause : Nat} : Keeps s₀ (s.decideFallback n o cause stopCause) := by
  unfold State.decideFallback
  split
  · exact h
  · exact h.fallbackOf

theorem Keeps.shortfall (h : Keeps s₀ s) {n o e : Nat} {jump : Bool} : Keeps s₀ (s.shortfall n o e jump) := by
  unfold State.shortfall
  split
  · exact h
  · extract_lets x_1 ext s1 q
    have hs1 : Keeps s₀ s1 := h.bump.raise.sqRec
    split
    · exact Keeps.ite hs1.decideFallback hs1.setSq.raise.addDec
    · exact hs1.addDec
    · exact hs1.decideFallback

theorem Keeps.select (h : Keeps s₀ s) {n o e : Nat} {jump : Bool} : Keeps s₀ (s.select n o e jump) := Keeps.ite h.goTo h.shortfall

theorem Keeps.send (h : Keeps s₀ s) {port link : Nat} {bs : List Byte} : Keeps s₀ (s.send port link bs) := h.frame rfl rfl

theorem Keeps.mirFrame (h : Keeps s₀ s) {type : Nat} {body : List Byte} {gap : Nat} : Keeps s₀ (s.mirFrame type body gap) := by
  unfold State.mirFrame
  split
  · extract_lets q b s1 s'
    have hs1 : Keeps s₀ s1 := h.send
    exact hs1.frame
  · exact h

theorem Keeps.mirNext (h : Keeps s₀ s) {type : Nat} {body : List Byte} : Keeps s₀ (s.mirNext type body) := h.mirFrame

theorem Keeps.takeFree (h : Keeps s₀ s) : Keeps s₀ s.takeFree := h.frame rfl rfl

theorem Keeps.mirSend (h : Keeps s₀ s) {type : Nat} {body : List Byte} : Keeps s₀ (s.mirSend type body) := h.takeFree.mirFrame

theorem Keeps.mirDecision (h : Keeps s₀ s) {n kind d arg : Nat} : Keeps s₀ (s.mirDecision n kind d arg) :=
  Keeps.ite h.mirSend.mirNext (Keeps.ite h.frame h)

theorem Keeps.zones (h : Keeps s₀ s) {n : Nat} {l : List (Nat × Nat)} : Keeps s₀ (s.zones n l) := h.setSq.put

theorem Keeps.immediate (h : Keeps s₀ s) {n t : Nat} : Keeps s₀ (s.immediate n t) := by
  unfold State.immediate
  extract_lets q s1
  have hs1 : Keeps s₀ s1 := h.setSq
  split
  · exact h
  · exact Keeps.ite ((Keeps.ite hs1 hs1.put).setSq.zones.mirDecision.select) hs1

theorem Keeps.heatLevels (h : Keeps s₀ s) {now : Nat} : Keeps s₀ (s.heatLevels now) :=
  Keeps.ite h (h.frame.foldl (fun _ _ ht => Keeps.ite ht ((Keeps.ite ht.hopEvent ht).foldl (fun _ _ hu => Keeps.ite hu.immediate hu))))

theorem Keeps.noteLevels {s0 : State} (h : Keeps s₀ s0) : Keeps s₀ s0.noteLevels := by
  unfold State.noteLevels
  extract_lets s now old s' s1
  have hs : Keeps s₀ s := h.pairEval
  have hs1 : Keeps s₀ s1 := Keeps.ite hs (hs.frame.foldl (fun _ _ ht => Keeps.ite ht.pennantEvent ht))
  exact hs1.heatLevels

theorem Keeps.restFc (h : Keeps s₀ s) {hold : Bool} {n : Nat} : Keeps s₀ (s.restFc hold n) := h.put.put

theorem Keeps.restVp (h : Keeps s₀ s) {hold : Bool} {n : Nat} : Keeps s₀ (s.restVp hold n) := h.put.put.put

theorem Keeps.restOuts (h : Keeps s₀ s) {hold : Bool} {fcs vps : List Nat} : Keeps s₀ (s.restOuts hold fcs vps) :=
  (h.foldl (fun _ _ ht => ht.restFc)).foldl (fun _ _ ht => ht.restVp)

theorem Keeps.allToHold (h : Keeps s₀ s) : Keeps s₀ s.allToHold := h.restOuts

theorem Keeps.eventNow (h : Keeps s₀ s) {src code data : Nat} : Keeps s₀ (s.eventNow src code data) := h.event

theorem Keeps.selfRefresh (h : Keeps s₀ s) {d : Nat} : Keeps s₀ (s.selfRefresh d) := Keeps.ite h.takeFree.eventNow.put h

theorem Keeps.sleepOne (h : Keeps s₀ s) {d : Nat} : Keeps s₀ (s.sleepOne d) := by
  unfold State.sleepOne
  extract_lets s1 s'
  have hs1 : Keeps s₀ s1 := h.selfRefresh.put.restOuts
  exact hs1.frame

theorem Keeps.dramNoRef (h : Keeps s₀ s) : Keeps s₀ s.dramNoRef := Keeps.ite h (h.foldl (fun _ _ ht => Keeps.ite ht.sleepOne ht))

theorem Keeps.holdTb (h : Keeps s₀ s) : Keeps s₀ s.holdTb := Keeps.ite h.put.raise.bump h

theorem Keeps.sleepPll (h : Keeps s₀ s) : Keeps s₀ s.sleepPll := by
  unfold State.sleepPll
  extract_lets s1 s2 s'
  have hs1 : Keeps s₀ s1 := h.sleepOne.sleepOne.allToHold.put
  have hs2 : Keeps s₀ s2 := hs1.holdTb.put.dramNoRef
  exact hs2.frame

theorem Keeps.pllIdle (h : Keeps s₀ s) : Keeps s₀ s.pllIdle := Keeps.ite h.sleepPll h

theorem Keeps.sleepDom (h : Keeps s₀ s) {d : Nat} : Keeps s₀ (s.sleepDom d) :=
  Keeps.ite h.sleepPll (h.foldl (fun _ _ ht => ht.sleepOne))

theorem Keeps.linkLost (h : Keeps s₀ s) : Keeps s₀ s.linkLost := by
  unfold State.linkLost
  split
  · extract_lets s0 s' s1
    have hs0 : Keeps s₀ s0 := Keeps.ite h h.raise
    have hs1 : Keeps s₀ s1 := hs0.frame
    exact hs1.put.put.put.driveOutEn
  · exact h

theorem Keeps.trySleep (h : Keeps s₀ s) {d : Nat} : Keeps s₀ (s.trySleep d) := Keeps.ite ((Keeps.ite h.linkLost h).sleepDom) h

theorem Keeps.sleepLate (h : Keeps s₀ s) : Keeps s₀ s.sleepLate := Keeps.ite ((h.foldl (fun _ _ ht => ht.trySleep)).pllIdle) h

theorem Keeps.markWaking (h : Keeps s₀ s) {d : Nat} : Keeps s₀ (s.markWaking d) := h.frame rfl rfl

theorem Keeps.beginRelock (h : Keeps s₀ s) {n : Nat} : Keeps s₀ (s.beginRelock n) := by
  unfold State.beginRelock
  extract_lets s1 s'
  have hs1 : Keeps s₀ s1 := h.put
  exact hs1.frame

theorem Keeps.wakePll (h : Keeps s₀ s) : Keeps s₀ s.wakePll := by
  unfold State.wakePll
  split
  · exact h
  · extract_lets s1 s2 s' s'_1
    have hs1 : Keeps s₀ s1 := h.markWaking.markWaking
    have hs2 : Keeps s₀ s2 := hs1.beginRelock
    exact hs2.frame

theorem Keeps.wakeBat (h : Keeps s₀ s) {d : Nat} : Keeps s₀ (s.wakeBat d) := Keeps.ite h.markWaking h

theorem Keeps.startWake (h : Keeps s₀ s) {d : Nat} : Keeps s₀ (s.startWake d) :=
  Keeps.ite h ((Keeps.ite h.wakePll h).markWaking.foldl (fun _ _ ht => ht.wakeBat))

theorem Keeps.offHold (h : Keeps s₀ s) {n : Nat} : Keeps s₀ (s.offHold n) := Keeps.ite h.setFc.put h

theorem Keeps.handOver (h : Keeps s₀ s) {fcs vps : List Nat} : Keeps s₀ (s.handOver fcs vps) :=
  (h.foldl (fun _ _ ht => ht.offHold)).foldl (fun _ _ ht => ht.put)

theorem Keeps.wakeOuts (h : Keeps s₀ s) {d : Nat} : Keeps s₀ (s.wakeOuts d) := h.handOver

theorem Keeps.calStart (h : Keeps s₀ s) : Keeps s₀ s.calStart := h.foldl (fun _ _ ht => Keeps.ite ht.setFc.put ht)

theorem Keeps.alignOuts (h : Keeps s₀ s) {fcs vps : List Nat} : Keeps s₀ (s.alignOuts fcs vps) :=
  (h.foldl (fun _ _ ht => ht.offHold.put)).foldl (fun _ _ ht => ht.put.put)

theorem Keeps.setAwake (h : Keeps s₀ s) {d : Nat} : Keeps s₀ (s.setAwake d) := by
  unfold State.setAwake
  extract_lets s1 s' s2
  have hs1 : Keeps s₀ s1 := h.put.wakeOuts
  have hs2 : Keeps s₀ s2 := hs1.frame.calStart
  exact Keeps.ite hs2.alignOuts hs2

theorem Keeps.leaveSelfRef (h : Keeps s₀ s) {c : Nat} : Keeps s₀ (s.leaveSelfRef c) := h.markWaking.put.setAwake.eventNow

/-- A change of a channel's record that leaves what a reset keeps of it. -/
theorem Keeps.setDch (h : Keeps s₀ s) {c : Nat} {d : Dch} (hd : d.kept = (s.dch c).kept := by rfl) : Keeps s₀ (s.setDch c d) := by
  intro w
  have e : (s.setDch c d).dramDef = s.dramDef := State.dramDef_congr fun b => by
    by_cases hb : b = c
    · rw [hb, State.setDch_dch_self, hd]
    · rw [State.setDch_dch_ne hb]
  have w' := (Memory.wf_iff s).1 (h w)
  rw [Memory.wf_iff, e]
  exact w'

theorem Keeps.channelWake (h : Keeps s₀ s) {c : Nat} : Keeps s₀ (s.channelWake c) :=
  (Keeps.ite h (Keeps.ite h.startWake h.leaveSelfRef)).setDch

theorem Keeps.resErr (h : Keeps s₀ s) {c kind addr : Nat} : Keeps s₀ (s.resErr c kind addr) := h.raise.log

theorem Keeps.mgmtReach (h : Keeps s₀ s) {a n : Nat} : Keeps s₀ (s.mgmtReach a n) := by
  unfold State.mgmtReach
  extract_lets s1
  have hs1 : Keeps s₀ s1 := h.foldl (fun _ _ ht => ht.channelWake)
  split
  · exact Keeps.ite hs1.resErr hs1
  · exact hs1

theorem Keeps.dramWrite (h : Keeps s₀ s) {a : Nat} {v : Byte} : Keeps s₀ (s.dramWrite a v) :=
  fun w => Memory.wf_dramWrite a v (h w)

theorem Keeps.dramPut (h : Keeps s₀ s) {a : Nat} {bs : List Byte} : Keeps s₀ (s.dramPut a bs) :=
  fun w => Memory.wf_dramPut bs a (h w)

theorem Keeps.descDone (h : Keeps s₀ s) {sel i : Nat} : Keeps s₀ (s.descDone sel i) := by
  unfold State.descDone
  extract_lets a s1 s'
  have hs1 : Keeps s₀ s1 := h.dramPut
  exact hs1.frame

theorem Keeps.rxTry (h : Keeps s₀ s) {b : List Byte} : Keeps s₀ (s.rxTry b).1 := by
  unfold State.rxTry
  extract_lets sel s0 a buf s1 s2 s'
  have hs0 : Keeps s₀ s0 := h.mgmtReach
  have hs1 : Keeps s₀ s1 := hs0.mgmtReach
  have hs2 : Keeps s₀ s2 := hs1.dramPut.dramPut.descDone
  split
  · exact hs0
  · split
    · exact hs0.bump
    · split
      · exact hs1
      · exact hs2.frame

theorem Keeps.rxDrain (h : Keeps s₀ s) {bs : List (List Byte)} : Keeps s₀ (State.rxDrain bs s) := by
  induction bs generalizing s with
  | nil => exact h
  | cons b bs ih =>
    unfold State.rxDrain
    extract_lets r
    have hr : Keeps s₀ r.1 := h.rxTry
    exact Keeps.ite (ih hr.frame) hr

theorem Keeps.rxGoesOn (h : Keeps s₀ s) : Keeps s₀ s.rxGoesOn := h.rxDrain

theorem Keeps.dramReach (h : Keeps s₀ s) {a n : Nat} : Keeps s₀ (s.dramReach a n) := by
  unfold State.dramReach
  extract_lets s1
  have hs1 : Keeps s₀ s1 := h.mgmtReach
  exact Keeps.ite hs1.raise hs1

theorem Keeps.fabRefuse (h : Keeps s₀ s) {r : Refused} : Keeps s₀ (s.fabRefuse r) := h.put.put.put.raise.put.put

theorem Keeps.fabCopy (h : Keeps s₀ s) : Keeps s₀ s.fabCopy := by
  unfold State.fabCopy
  extract_lets len addr s1 b s2
  have hs1 : Keeps s₀ s1 := h.dramReach
  have hs2 : Keeps s₀ s2 := hs1.frame
  split
  · exact hs1.put.put
  · split
    · exact hs2.fabRefuse
    · exact Keeps.ite hs2.fabRefuse hs2.put.put

theorem Keeps.fabGoesOn (h : Keeps s₀ s) : Keeps s₀ s.fabGoesOn := Keeps.ite h.fabCopy h

theorem Keeps.loaderIdle (h : Keeps s₀ s) : Keeps s₀ s.loaderIdle := by
  unfold State.loaderIdle
  extract_lets s1 s'
  have hs1 : Keeps s₀ s1 := h.put.put
  exact hs1.frame

theorem Keeps.report (h : Keeps s₀ s) {r : Refused} : Keeps s₀ (s.report r) := h.wr.wr.put.eventNow

theorem Keeps.refuseLoad (h : Keeps s₀ s) {r : Refused} : Keeps s₀ (s.refuseLoad r) := h.raise.report.loaderIdle.pllIdle

theorem Keeps.loadWait (h : Keeps s₀ s) : Keeps s₀ s.loadWait := h.frame rfl rfl

theorem Keeps.placeProfs (h : Keeps s₀ s) {b : List Byte} : Keeps s₀ (s.placeProfs b) := by
  unfold State.placeProfs
  split
  · exact h
  · extract_lets pr
    refine h.mem (prof := fun w => ?_)
    refine List.foldlRecOn (motive := fun m => Sp.wf (fun _ => (0 : Word)) m = true) _ _ w fun m hm c _ => ?_
    split
    · exact Sp.wf_setMany _ _ hm
    · exact hm

theorem Keeps.placePens (h : Keeps s₀ s) {b : List Byte} : Keeps s₀ (s.placePens b) := h.foldl (fun _ _ ht => ht.wr)

theorem Keeps.placeEvents (h : Keeps s₀ s) {b : List Byte} : Keeps s₀ (s.placeEvents b) := h.foldl (fun _ _ ht => ht.wr)

theorem Keeps.place (h : Keeps s₀ s) {b : List Byte} : Keeps s₀ (s.place b) := by
  unfold State.place
  extract_lets p m s1
  have hs1 : Keeps s₀ s1 := h.mem
    (course := fun _ => List.foldlRecOn (motive := fun m => Sp.wf (fun _ => (0 : Word)) m = true) _ _ (Sp.wf_nil _)
      fun _ hm _ _ => Sp.wf_setMany _ _ hm)
    (dir := fun _ => Sp.wf_setMany _ _ (Sp.wf_nil _))
  exact (hs1.placeEvents.placePens.foldl fun _ _ ht => ht.put).placeProfs

theorem Keeps.setGrant (h : Keeps s₀ s) {i : Nat} {g : Grant} : Keeps s₀ (s.setGrant i g) := h.frame rfl rfl

theorem Keeps.setPort (h : Keeps s₀ s) {p : Nat} {x : Port} : Keeps s₀ (s.setPort p x) := h.frame rfl rfl

theorem Keeps.sendXoff (h : Keeps s₀ s) {p quanta : Nat} : Keeps s₀ (s.sendXoff p quanta) :=
  Keeps.ite (h.foldl (fun _ _ ht => ht.send)) h

theorem Keeps.setSess (h : Keeps s₀ s) {x : Sess} : Keeps s₀ (s.setSess x) := h.frame rfl rfl

theorem Keeps.netSend (h : Keeps s₀ s) {p k prio : Nat} {bs : List Byte} : Keeps s₀ (s.netSend p k prio bs) :=
  Keeps.ite h (Keeps.ite h.send h.setPort)

theorem Keeps.udpSend (h : Keeps s₀ s) {p k prio : Nat} {tag : Option (Nat × Nat)} {mac ip sport dport : Nat} {bs : List Byte} :
    Keeps s₀ (s.udpSend p k prio tag mac ip sport dport bs) :=
  h.takeFree.netSend

theorem Keeps.ackSend (h : Keeps s₀ s) {p k mac ip port : Nat} {bs : List Byte} : Keeps s₀ (s.ackSend p k mac ip port bs) :=
  Keeps.ite h.udpSend h

theorem Keeps.sendAck (h : Keeps s₀ s) {x : Sess} {flags status gen : Nat} : Keeps s₀ (s.sendAck x flags status gen) :=
  h.ackSend.setSess

theorem Keeps.sendAck0 (h : Keeps s₀ s) {x : Sess} {flags status : Nat} : Keeps s₀ (s.sendAck0 x flags status) := h.sendAck

theorem Keeps.checkBp (h : Keeps s₀ s) {p : Nat} : Keeps s₀ (s.checkBp p) := by
  unfold State.checkBp
  extract_lets x
  split
  · exact Keeps.ite h.setPort.sendXoff.eventNow h
  · exact Keeps.ite (h.setPort.sendXoff.eventNow.foldl (fun _ _ ht => ht.sendAck0)) h

theorem Keeps.checkBps (h : Keeps s₀ s) : Keeps s₀ s.checkBps := h.checkBp.checkBp

theorem Keeps.dropFrames (h : Keeps s₀ s) {key : Nat} : Keeps s₀ (s.dropFrames key) :=
  (h.foldl (fun _ _ ht => ht.setPort)).checkBps

theorem Keeps.retire (h : Keeps s₀ s) {x : Sess} {cause : Nat} : Keeps s₀ (s.retire x cause) := h.frame.dropFrames.eventNow

theorem Keeps.revoke (h : Keeps s₀ s) {slot cause : Nat} : Keeps s₀ (s.revoke slot cause) :=
  (h.foldl (fun _ _ ht => ht.retire)).setGrant

theorem Keeps.revokeAll (h : Keeps s₀ s) : Keeps s₀ s.revokeAll := h.foldl (fun _ _ ht => ht.revoke)

theorem Keeps.sleepIdle (h : Keeps s₀ s) : Keeps s₀ s.sleepIdle := h.foldl (fun _ _ ht => ht.trySleep)

theorem Keeps.release (h : Keeps s₀ s) {ds : List Nat} : Keeps s₀ (s.release ds) := h.frame.foldl (fun _ _ ht => ht.trySleep)

theorem Keeps.releaseOwned (h : Keeps s₀ s) : Keeps s₀ s.releaseOwned := h.frame.release.sleepIdle

theorem Keeps.setPstate (h : Keeps s₀ s) : Keeps s₀ s.setPstate := Keeps.ite h h.put

theorem Keeps.setSel (h : Keeps s₀ s) {n v : Nat} : Keeps s₀ (s.setSel n v) := h.frame rfl rfl

theorem Keeps.emptyCourses (h : Keeps s₀ s) : Keeps s₀ s.emptyCourses := by
  unfold State.emptyCourses
  extract_lets s0 m s1 s2 s3 s4 s5
  have hs0 : Keeps s₀ s0 := h.releaseOwned
  have hs1 : Keeps s₀ s1 := hs0.mem (course := fun _ => Sp.wf_nil _) (dir := fun _ => Sp.wf_nil _)
  have hs3 : Keeps s₀ s3 := (hs1.foldl fun _ _ ht => ht.put).foldl fun _ _ ht => ht.put
  exact hs3.put.put.put.put.wr.raise.setSel.setPstate

theorem Keeps.loadAccept (h : Keeps s₀ s) : Keeps s₀ s.loadAccept := by
  unfold State.loadAccept
  extract_lets addr head s1 s'
  have hs1 : Keeps s₀ s1 := h.emptyCourses.revokeAll.put.put
  exact hs1.frame

theorem Keeps.loadJudge (h : Keeps s₀ s) : Keeps s₀ s.loadJudge := by
  unfold State.loadJudge
  split
  · exact h.refuseLoad
  · extract_lets addr hlen s1 ilen s2
    have hs1 : Keeps s₀ s1 := h.dramReach
    have hs2 : Keeps s₀ s2 := hs1.dramReach
    split
    · exact h.loadWait
    · split
      · exact hs1.refuseLoad
      · split
        · exact hs1.loadWait
        · split
          · exact hs2.refuseLoad
          · exact hs2.loadAccept

theorem Keeps.loadGoesOn (h : Keeps s₀ s) : Keeps s₀ s.loadGoesOn := Keeps.ite h.frame.loadJudge h

theorem Keeps.answerRead (h : Keeps s₀ s) {x : Access} {w : Word} : Keeps s₀ (s.answerRead x w) := Keeps.ite h h.frame

theorem Keeps.accessWake (h : Keeps s₀ s) {d : Nat} : Keeps s₀ (s.accessWake d) := by
  unfold State.accessWake
  extract_lets s1 s'
  have hs1 : Keeps s₀ s1 := h.startWake
  exact hs1.frame

theorem Keeps.busErr (h : Keeps s₀ s) {kind : Nat} {x : Access} : Keeps s₀ (s.busErr kind x) := h.wr.raise.bump

theorem Keeps.fineTick (h : Keeps s₀ s) {ls : List (Nat × Nat × Nat × Nat)} {fc t : Nat} : Keeps s₀ (s.fineTick ls fc t) :=
  h.frame rfl rfl

theorem Keeps.fineUp (h : Keeps s₀ s) {t : Nat} : Keeps s₀ (s.fineUp t) := by
  unfold State.fineUp
  split
  · exact h
  · split
    · exact h.frame
    · extract_lets cs ls ts s1 s'
      have hs1 : Keeps s₀ s1 := h.foldl (fun _ _ ht => ht.foldl (fun _ _ hu => hu.fineTick))
      exact hs1.frame

theorem Keeps.fineNow (h : Keeps s₀ s) : Keeps s₀ s.fineNow := h.fineUp

theorem Keeps.holdPrep (h : Keeps s₀ s) {n : Nat} : Keeps s₀ (s.holdPrep n) := by
  unfold State.holdPrep
  extract_lets q
  split
  · exact Keeps.ite h h.setSq.prepOuts
  · exact h

theorem Keeps.holdPreps (h : Keeps s₀ s) : Keeps s₀ s.holdPreps := Keeps.ite (h.foldl (fun _ _ ht => ht.holdPrep)) h

theorem Keeps.passed (h : Keeps s₀ s) : Keeps s₀ s.passed := h.holdPreps.fineNow

theorem Keeps.markNote (h : Keeps s₀ s) {h0 : Nat} : Keeps s₀ (s.markNote h0) := Keeps.ite h.frame h

theorem Keeps.mirMsg (h : Keeps s₀ s) {ws : List Word} : Keeps s₀ (s.mirMsg ws) := h.mirSend.mirNext

theorem Keeps.mirDrain (h : Keeps s₀ s) {k : Nat} : Keeps s₀ (s.mirDrain k) :=
  Keeps.ite h (h.frame.foldl (fun _ _ ht => ht.mirMsg))

theorem Keeps.linkTime (h : Keeps s₀ s) {k h0 : Nat} : Keeps s₀ (s.linkTime k h0) := h.mirDrain.markNote

theorem Keeps.toTick (h : Keeps s₀ s) {t : Nat} : Keeps s₀ (s.toTick t) := Keeps.ite h.frame h

theorem Keeps.lateNote (h : Keeps s₀ s) {n : Nat} : Keeps s₀ (s.lateNote n) := by
  unfold State.lateNote
  extract_lets q h_1
  split
  · exact h
  · split
    · exact h.setSq
    · exact Keeps.ite h h.setSq

theorem Keeps.lateNotes (h : Keeps s₀ s) : Keeps s₀ s.lateNotes := h.foldl (fun _ _ ht => ht.lateNote)

theorem Keeps.passTo (h : Keeps s₀ s) {t : Nat} : Keeps s₀ (s.passTo t) := h.lateNotes.toTick.linkTime.passed

theorem Keeps.shiftTb (h : Keeps s₀ s) {old v : Nat} : Keeps s₀ (s.shiftTb old v) :=
  (h.mem.foldl (fun _ _ ht => ht.setFc)).foldl (fun _ _ ht => ht.frame)

theorem Keeps.presetTb (h : Keeps s₀ s) {v : Nat} : Keeps s₀ (s.presetTb v) := by
  unfold State.presetTb
  extract_lets old s_1 s1 s2 a s'
  have hs_1 : Keeps s₀ s_1 := h.fineNow
  have hs1 : Keeps s₀ s1 := by
    unfold s1
    refine hs_1.shiftTb.foldl fun t x ht => ?_
    extract_lets x per t1
    have ht1 : Keeps s₀ t1 := ht.raise
    exact Keeps.ite (Keeps.ite ht1 ht1.setSel) ht
  have hs2 : Keeps s₀ s2 := hs1.foldl (fun _ _ ht => Keeps.ite ht.setFc ht)
  exact hs2.frame.put

theorem Keeps.strobes (h : Keeps s₀ s) {m : Nat} : Keeps s₀ (s.strobes m) := h.strobesAt

theorem Keeps.startTick (h : Keeps s₀ s) : Keeps s₀ s.startTick := by
  unfold State.startTick
  split
  · exact h
  · extract_lets s1 s' s2 s3
    have hs1 : Keeps s₀ s1 := h.passTo
    have hs2 : Keeps s₀ s2 := hs1.frame
    have hs3 : Keeps s₀ s3 := Keeps.ite hs2.presetTb.put hs2
    exact hs3.strobes

theorem Keeps.setCapt (h : Keeps s₀ s) {b : Nat} {c : CaptBank} : Keeps s₀ (s.setCapt b c) := h.frame rfl rfl

theorem Keeps.captStart (h : Keeps s₀ s) : Keeps s₀ s.captStart := h.foldl (fun _ _ ht => ht.setCapt)

theorem Keeps.clearSw (h : Keeps s₀ s) {n : Nat} : Keeps s₀ (s.clearSw n) := h.foldl (fun _ _ ht => ht.setFc)

theorem Keeps.enterStart (h : Keeps s₀ s) {n : Nat} : Keeps s₀ (s.enterStart n) :=
  (h.wr.wr.put.put.setSq.clearSw.prepVisit.foldl (fun _ _ ht => Keeps.ite ht.setFc ht.addSw)).addDec.sqRec

theorem Keeps.advance (h : Keeps s₀ s) {n : Nat} : Keeps s₀ (s.advance n) := Keeps.ite h.passTo h

theorem Keeps.setDir (h : Keeps s₀ s) {seg w : Nat} {v : Word} : Keeps s₀ (s.setDir seg w v) :=
  fun x => Memory.wf_setDir seg w v (h x)

theorem Keeps.clearReady (h : Keeps s₀ s) {k : Nat} : Keeps s₀ (s.clearReady k) := h.setDir

theorem Keeps.leaveVisit (h : Keeps s₀ s) {n o : Nat} : Keeps s₀ (s.leaveVisit n o) := by
  unfold State.leaveVisit
  extract_lets q stop
  split
  · exact h
  · exact (Keeps.ite h.clearReady h).setSq

theorem Keeps.cancelPens (h : Keeps s₀ s) {n : Nat} : Keeps s₀ (s.cancelPens n) := h.frame rfl rfl

theorem Keeps.noteStop (h : Keeps s₀ s) {n : Nat} : Keeps s₀ (s.noteStop n) := h.frame rfl rfl

theorem Keeps.faultStop {s0 : State} (h : Keeps s₀ s0) {n cause : Nat} : Keeps s₀ (s0.faultStop n cause) :=
  h.fineNow.leaveVisit.restOuts.put.put.put.put.put.setSq.cancelPens.eventNow.noteStop

theorem Keeps.pairAfterHeat (h : Keeps s₀ s) : Keeps s₀ s.pairAfterHeat := Keeps.ite h.put (Keeps.ite h.frame h)

theorem Keeps.endHeat (h : Keeps s₀ s) {n cause : Nat} : Keeps s₀ (s.endHeat n cause) := by
  unfold State.endHeat
  extract_lets m s0 s1 s2 s3 base run keep s' s'_1 s4
  have hs0 : Keeps s₀ s0 := h.fineNow
  have hs1 : Keeps s₀ s1 := hs0.eventNow.raise
  have hs2 : Keeps s₀ s2 := hs1.put.put
  have hs3 : Keeps s₀ s3 := hs2.foldl (fun _ _ ht => ht.put.setSq)
  have hs4 : Keeps s₀ s4 := hs3.frame
  exact hs4.raise.releaseOwned.pairAfterHeat.setPstate

theorem Keeps.abortHeat (h : Keeps s₀ s) : Keeps s₀ s.abortHeat :=
  (h.advance.foldl (fun _ _ ht => Keeps.ite ht.faultStop ht.restOuts.cancelPens)).endHeat

theorem Keeps.heatStart (h : Keeps s₀ s) : Keeps s₀ s.heatStart := by
  unfold State.heatStart
  extract_lets s0
  have hs0 : Keeps s₀ s0 := Keeps.ite h.startTick h
  split
  · exact hs0
  · split
    · exact hs0
    · extract_lets s1 s' s'_1 s2 s3 s4
      have hs1 : Keeps s₀ s1 := hs0.passTo
      have hs2 : Keeps s₀ s2 := hs1.frame.captStart
      have hs3 : Keeps s₀ s3 := hs2.setSel.put.put
      have hs4 : Keeps s₀ s4 := hs3.foldl (fun _ _ ht => ht.enterStart)
      exact Keeps.ite hs4.abortHeat (Keeps.ite hs4.put hs4)

theorem Keeps.arrive (h : Keeps s₀ s) {h' : Nat} : Keeps s₀ (s.arrive h') := h.passTo

theorem Keeps.clearLatch (h : Keeps s₀ s) {n ev : Nat} : Keeps s₀ (s.clearLatch n ev) := Keeps.ite h h.put

theorem Keeps.firePens (h : Keeps s₀ s) {n pen o : Nat} : Keeps s₀ (s.firePens n pen o) := h.frame rfl rfl

theorem Keeps.nextLap (h : Keeps s₀ s) {n o : Nat} : Keeps s₀ (s.nextLap n o) := by
  unfold State.nextLap
  extract_lets q s1 s2
  have hs1 : Keeps s₀ s1 := h.setSq.bump
  have hs2 : Keeps s₀ s2 := Keeps.ite hs1.put hs1
  split
  · exact h
  · extract_lets x_1 s3
    have hs3 : Keeps s₀ s3 := Keeps.ite hs2.clearLatch hs2
    exact Keeps.ite hs3.firePens hs3

theorem Keeps.captureFine {a : State} (h : Keeps s₀ a) {n c fmt j o : Nat} : Keeps s₀ (s.captureFine a n c fmt j o) := by
  unfold State.captureFine
  split
  · exact h
  · split
    · exact h.setFc
    · exact h

theorem Keeps.leaveDrive (h : Keeps s₀ s) {p d : Nat} : Keeps s₀ (s.leaveDrive p d) := Keeps.ite h.frame h.put

theorem Keeps.capture (h : Keeps s₀ s) {n o : Nat} : Keeps s₀ (s.capture n o) := by
  unfold State.capture
  extract_lets q ls s1
  have hs1 : Keeps s₀ s1 := by
    unfold s1
    refine h.foldl fun t x ht => ?_
    split
    · exact ht.captureFine
    · exact ht
  split
  · exact h
  · exact Keeps.ite h (hs1.foldl (fun _ _ ht => ht.leaveDrive))

theorem Keeps.playOuts (h : Keeps s₀ s) {n : Nat} : Keeps s₀ (s.playOuts n) :=
  (h.foldl (fun _ _ ht => ht.put.offHold)).foldl (fun _ _ ht => ht.put.put)

theorem Keeps.darkLanes (h : Keeps s₀ s) {n e o : Nat} : Keeps s₀ (s.darkLanes n e o) := by
  unfold State.darkLanes
  extract_lets banks s1 s2
  have hs1 : Keeps s₀ s1 := h.raise.foldl (fun _ _ ht => ht.frame)
  have hs2 : Keeps s₀ s2 := hs1.restOuts
  exact Keeps.ite h (Keeps.ite hs2 hs2.event)

theorem Keeps.applySw (h : Keeps s₀ s) {n tb : Nat} {w : Sw} : Keeps s₀ (s.applySw n tb w) := h.setFc.put.put

theorem Keeps.visitSwitch (h : Keeps s₀ s) {n o : Nat} : Keeps s₀ (s.visitSwitch n o) := by
  unfold State.visitSwitch
  refine h.foldl fun t x ht => ?_
  split
  · exact ht
  · exact Keeps.ite ht.applySw ((Keeps.ite ht.raise ht).setFc.applySw)

theorem Keeps.basePins (h : Keeps s₀ s) {n : Nat} : Keeps s₀ (s.basePins n) := h.foldl (fun _ _ ht => ht.frame)

theorem Keeps.stageRelease (h : Keeps s₀ s) {n g : Nat} : Keeps s₀ (s.stageRelease n g) := h.setSq

theorem Keeps.beginVisit (h : Keeps s₀ s) {n e o : Nat} {natural : Bool} : Keeps s₀ (s.beginVisit n e o natural) := by
  unfold State.beginVisit
  extract_lets x old s1 q s2 s3 s4 s5 s6 s7 s8 met
  have hs1 : Keeps s₀ s1 := h.capture.leaveVisit
  have hs2 : Keeps s₀ s2 := hs1.setSq
  have hs3 : Keeps s₀ s3 := hs2.put.put.put.zones
  have hs4 : Keeps s₀ s4 := hs3.put.put
  have hs5 : Keeps s₀ s5 := Keeps.ite hs4.clearLatch hs4
  have hs6 : Keeps s₀ s6 := Keeps.ite hs5.sqRec hs5
  have hs7 : Keeps s₀ s7 := hs6.firePens.visitSwitch.darkLanes.playOuts
  have hs8 : Keeps s₀ s8 := (Keeps.ite hs7 hs7.stageRelease).basePins
  exact Keeps.ite hs8.immediate hs8

theorem Keeps.stopSq (h : Keeps s₀ s) {n : Nat} {rest : Bool} {cause o : Nat} : Keeps s₀ (s.stopSq n rest cause o) := by
  unfold State.stopSq
  extract_lets e s1 s2 s3 s4 q s5 s6 s7
  have hs1 : Keeps s₀ s1 := h.capture.leaveVisit
  have hs2 : Keeps s₀ s2 := Keeps.ite hs1.restOuts hs1
  have hs3 : Keeps s₀ s3 := hs2.put.put.put.put
  have hs4 : Keeps s₀ s4 := hs3.put
  have hs5 : Keeps s₀ s5 := hs4.setSq
  have hs6 : Keeps s₀ s6 := hs5.sqRec
  have hs7 : Keeps s₀ s7 := hs6.noteStop
  exact Keeps.ite hs7.endHeat hs7

theorem Keeps.beginHold (h : Keeps s₀ s) {n e o : Nat} : Keeps s₀ (s.beginHold n e o) := h.capture.setSq.raise.raise.zones.sqRec

theorem Keeps.applyFallback (h : Keeps s₀ s) {n o : Nat} {dst : Option Nat} {cause stopCause : Nat} :
    Keeps s₀ (s.applyFallback n o dst cause stopCause) := by
  unfold State.applyFallback
  extract_lets left fbe s1
  have hs1 : Keeps s₀ s1 := h.raise.sqRec
  split
  · exact hs1.beginVisit
  · exact hs1.stopSq

theorem Keeps.applyDec (h : Keeps s₀ s) {n : Nat} {d : Dec} : Keeps s₀ (s.applyDec n d) := by
  unfold State.applyDec
  split
  · split
    · exact h
    · extract_lets s1
      have hs1 : Keeps s₀ s1 := h.zones
      exact Keeps.ite hs1.nextLap hs1
  · split
    · exact h.sqRec.beginVisit
    · exact h.beginVisit
  · exact h.stopSq
  · exact h.beginHold
  · exact h.applyFallback

theorem Keeps.applyFirst (h : Keeps s₀ s) {n : Nat} {d : Dec} : Keeps s₀ (s.applyFirst n d) := h.arrive.setSq.applyDec

theorem Keeps.applyDue (h : Keeps s₀ s) {k n h' : Nat} : Keeps s₀ (State.applyDue k n h' s) := by
  induction k generalizing s with
  | zero => exact h
  | succ k ih =>
    unfold State.applyDue
    split
    · exact Keeps.ite (ih h.applyFirst) h
    · exact h

theorem Keeps.commit (h : Keeps s₀ s) {n : Nat} : Keeps s₀ (s.commit n) := by
  unfold State.commit
  extract_lets q0
  split
  · exact h
  · split
    · exact h
    · extract_lets x_1 o s1 q c s2 lapEnd last opp s3 s' s4 short s4_1
      have hs1 : Keeps s₀ s1 := h.arrive.applyDue
      have hs2 : Keeps s₀ s2 := hs1.setSq
      have hs3 : Keeps s₀ s3 := Keeps.ite hs2.zones hs2
      have hs4 : Keeps s₀ s4 := Keeps.ite hs3 hs3.put
      have hs4_1 : Keeps s₀ s4_1 := Keeps.ite hs3.mirDecision hs3
      split
      · exact hs1
      · split
        · exact hs3
        · split
          · exact hs3.setSq.addDec
          · split
            · exact Keeps.ite hs3.addDec hs3.mirDecision.select
            · split
              · exact hs4.mirDecision.select
              · split
                · exact hs4_1.addDec
                · split
                  · exact hs4_1.select
                  · exact hs4_1.addDec
                  · exact hs4_1.addDec

theorem Keeps.commitNow (h : Keeps s₀ s) {n : Nat} : Keeps s₀ (s.commitNow n) := by
  unfold State.commitNow
  split
  · exact h
  · exact Keeps.ite h.commit h

theorem Keeps.useKey (h : Keeps s₀ s) {a : Nat} : Keeps s₀ (s.useKey a) := Keeps.ite h.wr h

theorem Keeps.bpsOf (h : Keeps s₀ s) {c : Bool} : Keeps s₀ (s.bpsOf c) := Keeps.ite h.checkBps h

theorem Keeps.setShadow (h : Keeps s₀ s) {a : Nat} {v : Option Word} : Keeps s₀ (s.setShadow a v) := h.frame rfl rfl

theorem Keeps.setMode (h : Keeps s₀ s) {b : BufInst} {on : Bool} : Keeps s₀ (s.setMode b on) :=
  Keeps.ite ((h.foldl (fun _ _ ht => ht.setShadow)).wr) (((h.copyInst.foldl (fun _ _ ht => ht.setShadow)).wr).retrim)

theorem Keeps.setLastWr (h : Keeps s₀ s) {i : Nat} {v : Word} : Keeps s₀ (s.setLastWr i v) := h.frame rfl rfl

theorem Keeps.mirTxWord (h : Keeps s₀ s) {w : Word} : Keeps s₀ (s.mirTxWord w) := by
  unfold State.mirTxWord
  extract_lets part s' s1 s'_1
  have hs1 : Keeps s₀ s1 := h.frame
  exact Keeps.ite h.frame (Keeps.ite hs1.frame hs1.raise)

theorem Keeps.writeQ (h : Keeps s₀ s) {i : Nat} {w : Word} : Keeps s₀ (s.writeQ i w) := Keeps.ite h.setQ.enter.ptrCheck h.setQ

theorem Keeps.portWrite (h : Keeps s₀ s) {i : Nat} {v : Word} : Keeps s₀ (s.portWrite i v) := by
  unfold State.portWrite
  extract_lets s1
  have hs1 : Keeps s₀ s1 := h.setLastWr
  exact Keeps.ite hs1.mirTxWord hs1.writeQ

theorem Keeps.cfgWrite (h : Keeps s₀ s) {a : Nat} {v : Word} : Keeps s₀ (s.cfgWrite a v) := by
  unfold State.cfgWrite
  split
  · exact h.wr.schedule
  · exact h.setShadow.wr

theorem Keeps.plain (h : Keeps s₀ s) {a : Nat} {v : Word} : Keeps s₀ (s.plain a v) := by
  unfold State.plain
  split
  · exact h
  · exact h.cfgWrite

theorem Keeps.lvlWrite (h : Keeps s₀ s) {i a : Nat} {v : Word} : Keeps s₀ (s.lvlWrite i a v) := h.plain

theorem Keeps.mbxEnd (h : Keeps s₀ s) {st v : Nat} : Keeps s₀ (s.mbxEnd st v) :=
  (Keeps.ite h (h.foldl (fun _ _ ht => ht.wr))).put.put.put

theorem Keeps.selWrite (h : Keeps s₀ s) {n v : Nat} : Keeps s₀ (s.selWrite n v).2 := by
  unfold State.selWrite
  split
  · split
    · exact h
    · split
      · exact h
      · exact h.setSel
  · split
    · split
      · extract_lets s1 s'
        have hs1 : Keeps s₀ s1 := h.setSel
        exact hs1.frame
      · exact h
    · split
      · split
        · exact h
        · extract_lets s1 s'
          have hs1 : Keeps s₀ s1 := h.setSel
          exact hs1.frame
      · split
        · exact h.setSel
        · split
          · exact h.setSel.setSel
          · exact h.setSel

theorem Keeps.mbxDo (h : Keeps s₀ s) {n : Nat} {i : SelInfo} : Keeps s₀ (s.mbxDo n i) := by
  unfold State.mbxDo
  split
  · exact h.mbxEnd
  · extract_lets v r s1
    have hs1 : Keeps s₀ s1 := h.selWrite.mbxEnd
    exact Keeps.ite hs1.busErr hs1

theorem Keeps.mbxStart (h : Keeps s₀ s) {p : Bool} : Keeps s₀ (s.mbxStart p) := by
  unfold State.mbxStart
  extract_lets s1 s' s2 n
  have hs1 : Keeps s₀ s1 := h.put
  have hs2 : Keeps s₀ s2 := hs1.frame
  split
  · exact hs2.mbxEnd
  · exact Keeps.ite hs2.mbxEnd (Keeps.ite hs2.mbxEnd (Keeps.ite hs2.accessWake.put hs2.mbxDo))

theorem Keeps.glbWrite (h : Keeps s₀ s) {x : Access} {a : Nat} {v : Word} : Keeps s₀ (s.glbWrite x a v) := by
  unfold State.glbWrite
  split
  · exact h.plain.mbxStart
  · exact h.plain.strobes.bpsOf
  · exact h.plain

theorem Keeps.aoSource (h : Keeps s₀ s) : Keeps s₀ s.aoSource := h.put

theorem Keeps.clkStatus (h : Keeps s₀ s) {st : Nat} : Keeps s₀ (s.clkStatus st) := h.put

theorem Keeps.retune (h : Keeps s₀ s) {k : Relock} {n : Nat} {cold : Bool} : Keeps s₀ (s.retune k n cold) := by
  unfold State.retune
  extract_lets s1 s'
  have hs1 : Keeps s₀ s1 := h.allToHold.holdTb.beginRelock.put
  exact hs1.frame

theorem Keeps.clkBegin (h : Keeps s₀ s) {c : ClkCmd} : Keeps s₀ (s.clkBegin c) := by
  unfold State.clkBegin
  extract_lets s1 s'
  have hs1 : Keeps s₀ s1 := h.put
  exact hs1.frame

theorem Keeps.refWrite (h : Keeps s₀ s) {v : Word} : Keeps s₀ (s.refWrite v) := by
  unfold State.refWrite
  extract_lets old keep s1
  have hs1 : Keeps s₀ s1 := h.plain.aoSource
  exact Keeps.ite h.plain.aoSource (Keeps.ite h.plain.aoSource.clkStatus
    (Keeps.ite h.plain.aoSource.clkStatus (Keeps.ite hs1 hs1.clkBegin.retune)))

theorem Keeps.command (h : Keeps s₀ s) {st : Fld} {busy : Bool} {l : List Nat} {v : Word} {run : Nat → State → State}
    (hr : ∀ i t, Keeps s₀ t → Keeps s₀ (run i t)) : Keeps s₀ (s.command st busy l v run) := by
  unfold State.command
  split
  · exact h
  · exact Keeps.ite h.put (hr _ _ h)
  · exact h.put

theorem Keeps.hopCmd (h : Keeps s₀ s) : Keeps s₀ s.hopCmd := Keeps.ite h.clkStatus h.clkBegin.retune

theorem Keeps.stoppedPens (h : Keeps s₀ s) {base : Int} : Keeps s₀ (State.stoppedPens base s) := h.frame rfl rfl

theorem Keeps.holdNco (h : Keeps s₀ s) {n : Nat} : Keeps s₀ (s.holdNco n) := h.foldl (fun _ _ ht => Keeps.ite ht.setFc ht)

theorem Keeps.keepDrives (h : Keeps s₀ s) {n : Nat} : Keeps s₀ (s.keepDrives n) := h.foldl (fun _ _ ht => ht.frame)

theorem Keeps.pauseHeat (h : Keeps s₀ s) {rest : Bool} : Keeps s₀ (s.pauseHeat rest) := by
  unfold State.pauseHeat
  extract_lets k s0 run base s0' s' s'_1 s1 s2
  have hs0 : Keeps s₀ s0 := h.foldl (fun _ _ ht => ht.commitNow)
  have hs0' : Keeps s₀ s0' := hs0.fineUp
  have hs1 : Keeps s₀ s1 := hs0'.frame
  have hs2 : Keeps s₀ s2 := hs1.put.put
  split
  · exact hs0
  · refine Keeps.stoppedPens ?_
    refine hs2.foldl fun t x ht => ?_
    extract_lets t0 t1
    have ht0 : Keeps s₀ t0 := Keeps.ite ht ht.capture
    have ht1 : Keeps s₀ t1 := (Keeps.ite ht0.keepDrives.restOuts ht0).holdNco
    exact ht1.put.event

theorem Keeps.pauseForRelock (h : Keeps s₀ s) : Keeps s₀ s.pauseForRelock := by
  unfold State.pauseForRelock
  split
  · exact h.pauseHeat
  · split
    · extract_lets s1 s'
      have hs1 : Keeps s₀ s1 := h.foldl (fun _ _ ht => ht.keepDrives)
      exact hs1.frame
    · exact h

theorem Keeps.hardRelockCmd (h : Keeps s₀ s) : Keeps s₀ s.hardRelockCmd := Keeps.ite h.clkStatus h.pauseForRelock.clkBegin.retune

theorem Keeps.softGoCmd (h : Keeps s₀ s) : Keeps s₀ s.softGoCmd := Keeps.ite h.put.clkStatus h.clkStatus

theorem Keeps.bandSearchCmd (h : Keeps s₀ s) : Keeps s₀ s.bandSearchCmd := Keeps.ite h.clkStatus h.clkBegin.retune

theorem Keeps.clkRun (h : Keeps s₀ s) {i : Nat} : Keeps s₀ (Machine.clkRun i s) := by
  unfold Machine.clkRun
  split
  · exact h.hopCmd
  · exact h.hardRelockCmd
  · exact h.softGoCmd
  · exact h.bandSearchCmd

theorem Keeps.beginSave (h : Keeps s₀ s) {busy st : Fld} {ws : List (Nat × Word)} : Keeps s₀ (s.beginSave busy st ws) := by
  unfold State.beginSave
  extract_lets ch s1
  have hs1 : Keeps s₀ s1 := h.put
  exact Keeps.ite h.put (Keeps.ite h.put hs1.frame)

theorem Keeps.bandSaveCmd (h : Keeps s₀ s) : Keeps s₀ s.bandSaveCmd := by
  unfold State.bandSaveCmd
  extract_lets e s1 s'
  have hs1 : Keeps s₀ s1 := h.beginSave
  exact Keeps.ite hs1.frame hs1

theorem Keeps.loadNowCmd (h : Keeps s₀ s) : Keeps s₀ s.loadNowCmd :=
  Keeps.ite h.clkStatus (Keeps.ite h.frame.clkStatus h.advance.presetTb.noteLevels.clkStatus)

theorem Keeps.clkWrite (h : Keeps s₀ s) {a : Nat} {v : Word} : Keeps s₀ (s.clkWrite a v) := by
  unfold State.clkWrite
  split
  · exact h.refWrite
  · exact (Keeps.ite h.plain h.plain.raise).command (fun _ _ ht => ht.clkRun)
  · exact Keeps.ite h.plain h.raise
  · exact Keeps.ite h h.plain
  · exact h.plain.command (fun _ _ ht => ht.bandSaveCmd)
  · exact h.plain.command (fun _ _ ht => ht.loadNowCmd)
  · exact h.plain

theorem Keeps.seqStatus (h : Keeps s₀ s) {st : Nat} : Keeps s₀ (s.seqStatus st) := h.put

theorem Keeps.sendIdent (h : Keeps s₀ s) : Keeps s₀ s.sendIdent := h.mirSend

theorem Keeps.bankRecord (h : Keeps s₀ s) {m : Nat} {release : Bool} : Keeps s₀ (s.bankRecord m release) := Keeps.ite h h.frame

theorem Keeps.runWake (h : Keeps s₀ s) {r : WakeRec} : Keeps s₀ (s.runWake r) := by
  unfold State.runWake
  split
  · exact h.bankRecord
  · split
    · exact h.release
    · extract_lets s' s1 s'_1 s2
      have hs1 : Keeps s₀ s1 := h.frame
      have hs2 : Keeps s₀ s2 := Keeps.ite hs1.setDch hs1
      exact hs2.startWake

theorem Keeps.beginSchedule (h : Keeps s₀ s) : Keeps s₀ s.beginSchedule := h.frame.foldl (fun _ _ ht => ht.runWake)

theorem Keeps.startAccept (h : Keeps s₀ s) : Keeps s₀ s.startAccept := by
  unfold State.startAccept
  extract_lets s' s1 s2 at' s'_1 s'_2 s3
  have hs1 : Keeps s₀ s1 := h.foldl (fun _ _ ht => ht.put.put)
  have hs2 : Keeps s₀ s2 := hs1.put.put
  have hs3 : Keeps s₀ s3 := hs2.frame
  exact hs3.beginSchedule.setPstate.driveOutEn.sendIdent

theorem Keeps.startCmd (h : Keeps s₀ s) : Keeps s₀ s.startCmd := Keeps.ite h.startAccept.seqStatus h.seqStatus

theorem Keeps.runTicks (h : Keeps s₀ s) {k : Nat} : Keeps s₀ (State.runTicks k s) := by
  induction k generalizing s with
  | zero => exact h
  | succ k ih =>
    unfold State.runTicks
    extract_lets s1
    have hs1 : Keeps s₀ s1 := h.advance
    exact ih (Keeps.ite (hs1.foldl fun _ _ ht => ht.applyDue.commitNow) hs1)

theorem Keeps.leaderDelay (h : Keeps s₀ s) {ok : Bool} {n arg : Nat} : Keeps s₀ (s.leaderDelay ok n arg) :=
  Keeps.ite ((Keeps.ite h.mirDecision h).runTicks) h

theorem Keeps.pauseCmd (h : Keeps s₀ s) : Keeps s₀ s.pauseCmd := Keeps.ite h.seqStatus h.leaderDelay.pauseHeat.seqStatus

theorem Keeps.resumeFrom (h : Keeps s₀ s) {src : Nat} : Keeps s₀ (s.resumeFrom src) := h.frame rfl rfl

theorem Keeps.resumeCmd (h : Keeps s₀ s) : Keeps s₀ s.resumeCmd :=
  Keeps.ite h.seqStatus (Keeps.ite h.seqStatus h.leaderDelay.resumeFrom.seqStatus)

theorem Keeps.abortCmd (h : Keeps s₀ s) : Keeps s₀ s.abortCmd := Keeps.ite h.seqStatus h.leaderDelay.abortHeat.seqStatus

theorem Keeps.seqRun (h : Keeps s₀ s) {i : Nat} : Keeps s₀ (Machine.seqRun i s) := by
  unfold Machine.seqRun
  split
  · exact h.startCmd
  · exact h.pauseCmd
  · exact h.resumeCmd
  · exact h.abortCmd

theorem Keeps.seqWrite (h : Keeps s₀ s) {a : Nat} {v : Word} : Keeps s₀ (s.seqWrite a v) :=
  Keeps.ite (h.plain.command (fun _ _ ht => ht.seqRun)) h.plain

theorem Keeps.crsNext (h : Keeps s₀ s) : Keeps s₀ s.crsNext := Keeps.ite h.put h

theorem Keeps.crsRead (h : Keeps s₀ s) : Keeps s₀ s.crsRead := (h.foldl (fun _ _ ht => ht.wr)).crsNext.put

theorem Keeps.setCrs (h : Keeps s₀ s) {n e w : Nat} {v : Word} : Keeps s₀ (s.setCrs n e w v) :=
  fun x => Memory.wf_setCrs n e w v (h x)

theorem Keeps.crsWrite (h : Keeps s₀ s) : Keeps s₀ s.crsWrite := Keeps.ite ((h.foldl (fun _ _ ht => ht.setCrs)).crsNext.put) h.put

theorem Keeps.segdRead (h : Keeps s₀ s) : Keeps s₀ s.segdRead := (h.foldl (fun _ _ ht => ht.wr)).put

theorem Keeps.completeGen (h : Keeps s₀ s) {k : Nat} : Keeps s₀ (s.completeGen k) := h.setDir.setDir

theorem Keeps.setReadyCmd (h : Keeps s₀ s) : Keeps s₀ s.setReadyCmd := (Keeps.ite h.completeGen h).put

theorem Keeps.clrReadyCmd (h : Keeps s₀ s) : Keeps s₀ s.clrReadyCmd := (Keeps.ite h.clearReady h).put

theorem Keeps.segdRun (h : Keeps s₀ s) {i : Nat} : Keeps s₀ (Machine.segdRun i s) := by
  unfold Machine.segdRun
  split
  · exact h.put
  · split
    · exact h.segdRead
    · exact h.setReadyCmd
    · exact h.clrReadyCmd

theorem Keeps.segwNext (h : Keeps s₀ s) : Keeps s₀ s.segwNext := h.put

theorem Keeps.segwRange (h : Keeps s₀ s) : Keeps s₀ s.segwRange := h.put.raise.segwNext

theorem Keeps.takeOpen (h : Keeps s₀ s) {c : Nat} : Keeps s₀ (s.takeOpen c) := h.frame rfl rfl

theorem Keeps.bankAwake (h : Keeps s₀ s) {m : Nat} : Keeps s₀ (s.bankAwake m) := h.put.put.put

theorem Keeps.wakeBank (h : Keeps s₀ s) {m : Nat} : Keeps s₀ (s.wakeBank m) := Keeps.ite h.bankAwake.raise h

theorem Keeps.segReach (h : Keeps s₀ s) {k ofs : Nat} : Keeps s₀ (s.segReach k ofs) := by
  unfold State.segReach
  extract_lets a
  split
  · split
    · exact h.channelWake.takeOpen
    · exact h.raise
  · exact h.wakeBank

theorem Keeps.trackWrite (h : Keeps s₀ s) {a : Nat} {v : Byte} : Keeps s₀ (s.trackWrite a v) :=
  fun w => Memory.wf_trackWrite a v (h w)

theorem Keeps.segWrite (h : Keeps s₀ s) {k ofs : Nat} {v : Byte} : Keeps s₀ (s.segWrite k ofs v) :=
  Keeps.ite h.dramWrite h.trackWrite

theorem Keeps.segwWrite (h : Keeps s₀ s) {v : Word} : Keeps s₀ (s.segwWrite v) := by
  unfold State.segwWrite
  extract_lets k o s1 s2
  have hs1 : Keeps s₀ s1 := h.segReach
  have hs2 : Keeps s₀ s2 := Keeps.ite hs1 (hs1.foldl (fun _ _ ht => ht.segWrite))
  exact Keeps.ite h.segwRange (Keeps.ite h.put.raise.bump.segwNext hs2.put.segwNext)

theorem Keeps.windowWrite (h : Keeps s₀ s) {a : Nat} {v : Word} : Keeps s₀ (s.windowWrite a v) := by
  unfold State.windowWrite
  split
  · exact h.plain.command (fun _ _ ht => Keeps.ite ht.crsRead ht.crsWrite)
  · exact h.command (fun _ _ ht => ht.segdRun)
  · exact h.segwWrite
  · exact h.plain

theorem Keeps.latchPulse (h : Keeps s₀ s) {n ev : Nat} : Keeps s₀ (s.latchPulse n ev) := Keeps.ite h.bump.raise h.raise

theorem Keeps.pulseTo (h : Keeps s₀ s) {n ev : Nat} : Keeps s₀ (s.pulseTo n ev) :=
  Keeps.ite h (Keeps.ite (Keeps.ite h.immediate h.immediate.latchPulse) h.latchPulse)

theorem Keeps.pulse (h : Keeps s₀ s) {ev : Nat} : Keeps s₀ (s.pulse ev) := by
  unfold State.pulse
  extract_lets fresh seen s' s1 s2 s'_1 s3
  have hs1 : Keeps s₀ s1 := h.frame
  have hs2 : Keeps s₀ s2 := hs1.pennantEvent
  have hs3 : Keeps s₀ s3 := Keeps.ite hs2.frame hs2.hopEvent
  exact Keeps.ite h.bump (hs3.foldl (fun _ _ ht => ht.pulseTo))

theorem Keeps.swPulse (h : Keeps s₀ s) {ev : Nat} : Keeps s₀ (s.swPulse ev) := Keeps.ite h.pulse h.raise

theorem Keeps.swPulses (h : Keeps s₀ s) {hi : Bool} {w : Word} : Keeps s₀ (s.swPulses hi w) := h.foldl (fun _ _ ht => ht.swPulse)

theorem Keeps.pulseSrc (h : Keeps s₀ s) {src : Nat} : Keeps s₀ (s.pulseSrc src) := h.foldl (fun _ _ ht => Keeps.ite ht.pulse ht)

theorem Keeps.tiAccept (h : Keeps s₀ s) {m : Nat} {v lvl : Bool} {phase : Nat} : Keeps s₀ (s.tiAccept m v lvl phase) := by
  unfold State.tiAccept
  extract_lets s' s1 s'_1 s2
  have hs1 : Keeps s₀ s1 := h.frame
  have hs'_1 : Keeps s₀ s'_1 := Keeps.ite hs1.eventNow hs1
  have hs2 : Keeps s₀ s2 := Keeps.ite hs'_1.pulseSrc hs1
  exact hs2.noteLevels

theorem Keeps.invertFlip (h : Keeps s₀ s) {m : Nat} : Keeps s₀ (s.invertFlip m) := h.takeFree.tiAccept

theorem Keeps.tiCfgWrite (h : Keeps s₀ s) {m a : Nat} {v : Word} : Keeps s₀ (s.tiCfgWrite m a v) := by
  unfold State.tiCfgWrite
  extract_lets s1
  have hs1 : Keeps s₀ s1 := h.plain
  exact Keeps.ite hs1 hs1.invertFlip

theorem Keeps.evtWrite (h : Keeps s₀ s) {a : Nat} {v : Word} : Keeps s₀ (s.evtWrite a v) :=
  Keeps.ite h.swPulses (Keeps.ite h.swPulses (Keeps.ite h.tiCfgWrite (Keeps.ite (Keeps.ite h.plain.retrim h.raise) h.plain)))

theorem Keeps.loadCmd (h : Keeps s₀ s) : Keeps s₀ s.loadCmd := by
  unfold State.loadCmd
  extract_lets s1
  have hs1 : Keeps s₀ s1 := h.put.put
  exact Keeps.ite hs1.loadJudge hs1.wakePll.loadWait

theorem Keeps.remap (h : Keeps s₀ s) {m : Nat} : Keeps s₀ (s.remap m) := Keeps.ite h h.revokeAll.put

theorem Keeps.unload (h : Keeps s₀ s) : Keeps s₀ s.unload := h.emptyCourses.remap.pllIdle

theorem Keeps.unloadCmd (h : Keeps s₀ s) : Keeps s₀ s.unloadCmd := Keeps.ite h.unload.put h.put

theorem Keeps.planRun (h : Keeps s₀ s) {i : Nat} : Keeps s₀ (Machine.planRun i s) := Keeps.ite h.loadCmd h.unloadCmd

theorem Keeps.planWrite (h : Keeps s₀ s) {a : Nat} {v : Word} : Keeps s₀ (s.planWrite a v) :=
  Keeps.ite (h.command (fun _ _ ht => ht.planRun)) h.plain

theorem Keeps.profRead (h : Keeps s₀ s) {n : Nat} : Keeps s₀ (s.profRead n) := h.put.put.setSel.put

theorem Keeps.profWrite (h : Keeps s₀ s) {n : Nat} : Keeps s₀ (s.profWrite n) := by
  unfold State.profWrite
  extract_lets p f ws
  exact (h.mem (prof := Sp.wf_setMany ws _)).put

theorem Keeps.monBegin (h : Keeps s₀ s) {n job : Nat} : Keeps s₀ (s.monBegin n job) := h.setFc.startWake

theorem Keeps.calRun (h : Keeps s₀ s) {n : Nat} : Keeps s₀ (s.calRun n) := by
  unfold State.calRun
  split
  · exact h.put
  · split
    · exact h.put
    · extract_lets s1
      have hs1 : Keeps s₀ s1 := h.monBegin.startWake.put
      exact (Keeps.ite hs1.offHold hs1).calStart

theorem Keeps.calSave (h : Keeps s₀ s) {n : Nat} : Keeps s₀ (s.calSave n) := h.beginSave

theorem Keeps.fcCalCmd (h : Keeps s₀ s) {n i : Nat} : Keeps s₀ (Machine.calCmd n i s) := Keeps.ite h.calRun h.calSave

theorem Keeps.rbRun (h : Keeps s₀ s) {n : Nat} : Keeps s₀ (s.rbRun n) :=
  Keeps.ite h.put (Keeps.ite h.put (Keeps.ite h.put h.monBegin.put))

theorem Keeps.fineWrite (h : Keeps s₀ s) {a : Nat} {v : Word} : Keeps s₀ (s.fineWrite a v) := by
  unfold State.fineWrite
  extract_lets n old s1
  have hs1 : Keeps s₀ s1 := h.plain
  split
  · exact Keeps.ite hs1.restFc hs1
  · exact Keeps.ite h.plain h.raise
  · exact h.command (fun _ _ ht => Keeps.ite ht.profRead ht.profWrite)
  · exact h.command (fun _ _ ht => ht.fcCalCmd)
  · exact h.command (fun _ _ ht => ht.rbRun)
  · exact h.plain

theorem Keeps.vecWrite (h : Keeps s₀ s) {a : Nat} {v : Word} : Keeps s₀ (s.vecWrite a v) := by
  unfold State.vecWrite
  split
  · extract_lets n bad lo hi
    have hbad : Keeps s₀ bad := h.raise
    split
    · exact Keeps.ite h.plain hbad
    · exact Keeps.ite h.plain hbad
    · exact Keeps.ite h.plain hbad
    · exact Keeps.ite h.plain hbad
    · exact h.plain
  · exact h.plain

theorem Keeps.ringSize (h : Keeps s₀ s) {b : Nat} {v : Word} : Keeps s₀ (s.ringSize b v) := h.plain.put.put.setCapt

theorem Keeps.ringRd (h : Keeps s₀ s) {b : Nat} {v : Word} : Keeps s₀ (s.ringRd b v) := Keeps.ite h.put (Keeps.ite h h.raise)

theorem Keeps.captWrite (h : Keeps s₀ s) {a : Nat} {v : Word} : Keeps s₀ (s.captWrite a v) := by
  unfold State.captWrite
  split
  · extract_lets b
    split
    · exact h.ringSize
    · exact h.ringRd
    · exact h.plain
  · exact h.plain

theorem Keeps.dramBegin (h : Keeps s₀ s) {j : DramJob} : Keeps s₀ (s.dramBegin j) := by
  unfold State.dramBegin
  extract_lets s1 s'
  have hs1 : Keeps s₀ s1 := h.put
  exact hs1.frame

theorem Keeps.trainCmd (h : Keeps s₀ s) : Keeps s₀ s.trainCmd := Keeps.ite h.put h.dramBegin

theorem Keeps.retrainBegin (h : Keeps s₀ s) {c : Nat} : Keeps s₀ (s.retrainBegin c) := (Keeps.ite h.leaveSelfRef h).put.put.setDch

theorem Keeps.retrainCmd (h : Keeps s₀ s) : Keeps s₀ s.retrainCmd :=
  Keeps.ite h.put (Keeps.ite h.put (Keeps.ite h.put (Keeps.ite h.put h.retrainBegin.dramBegin)))

theorem Keeps.unfenceCmd (h : Keeps s₀ s) : Keeps s₀ s.unfenceCmd := Keeps.ite h.put h.dramBegin

theorem Keeps.dramSaveCmd (h : Keeps s₀ s) : Keeps s₀ s.dramSaveCmd := by
  unfold State.dramSaveCmd
  extract_lets ws s1 s'
  have hs1 : Keeps s₀ s1 := h.beginSave
  exact Keeps.ite hs1.frame hs1

theorem Keeps.dramRun (h : Keeps s₀ s) {i : Nat} : Keeps s₀ (Machine.dramRun i s) := by
  unfold Machine.dramRun
  split
  · exact h.trainCmd
  · exact h.retrainCmd
  · exact h.unfenceCmd
  · exact h.dramSaveCmd

theorem Keeps.dramRange (h : Keeps s₀ s) {ok : Bool} {a : Nat} {v : Word} : Keeps s₀ (s.dramRange ok a v) :=
  Keeps.ite h.plain h.raise

theorem Keeps.dramRegWrite (h : Keeps s₀ s) {a : Nat} {v : Word} : Keeps s₀ (s.dramRegWrite a v) := by
  unfold State.dramRegWrite
  split
  · exact h.plain.command (fun _ _ ht => ht.dramRun)
  · exact h.dramRange
  · exact h.dramRange
  · exact h.dramRange
  · exact h.plain

theorem Keeps.countFree (h : Keeps s₀ s) {f : Fld} : Keeps s₀ (s.countFree f) := h.takeFree.addTo

theorem Keeps.confLook (h : Keeps s₀ s) {m : Nat} : Keeps s₀ (s.confLook m) := by
  unfold State.confLook
  split
  · exact h.countFree
  · split
    · extract_lets h_1 s1 s'
      have hs1 : Keeps s₀ s1 := h.countFree
      exact Keeps.ite hs1 hs1.frame
    · exact h

theorem Keeps.trackNext (h : Keeps s₀ s) : Keeps s₀ s.trackNext := h.put

theorem Keeps.trackPut (h : Keeps s₀ s) {a : Nat} {bs : List Byte} : Keeps s₀ (s.trackPut a bs) :=
  fun w => Memory.wf_trackPut bs a (h w)

theorem Keeps.trackWinWrite (h : Keeps s₀ s) {v : Word} {collide : Bool} : Keeps s₀ (s.trackWinWrite v collide) := by
  unfold State.trackWinWrite
  extract_lets a s1 s' s2
  have hs1 : Keeps s₀ s1 := h.wakeBank.put
  have hs' : Keeps s₀ s' := hs1.raise.bump
  have hs2 : Keeps s₀ s2 := Keeps.ite hs'.eventNow hs1.trackPut
  exact Keeps.ite h.put.raise.bump.trackNext hs2.trackNext

theorem Keeps.trackBlockWrite (h : Keeps s₀ s) {a : Nat} {v : Word} : Keeps s₀ (s.trackBlockWrite a v) := by
  unfold State.trackBlockWrite
  split
  · exact Keeps.ite h h.plain
  · exact h.trackWinWrite
  · exact h.plain

theorem Keeps.trackWrite' (h : Keeps s₀ s) {a : Nat} {v : Word} : Keeps s₀ (s.trackWrite' a v) := by
  unfold State.trackWrite'
  split
  · exact h.confLook.plain
  · exact h.trackBlockWrite

theorem Keeps.engineOff (h : Keeps s₀ s) : Keeps s₀ s.engineOff :=
  ((h.foldl (fun _ _ ht => ht.retire)).foldl (fun _ _ ht => ht.setPort)).checkBps

theorem Keeps.batRange (h : Keeps s₀ s) {ok : Bool} {a : Nat} {v : Word} : Keeps s₀ (s.batRange ok a v) :=
  Keeps.ite h.plain h.raise

theorem Keeps.batWrite (h : Keeps s₀ s) {a : Nat} {v : Word} : Keeps s₀ (s.batWrite a v) := by
  unfold State.batWrite
  extract_lets g was s1
  have hs1 : Keeps s₀ s1 := h.plain
  split
  · exact Keeps.ite hs1.engineOff hs1
  · exact h.batRange
  · exact h.batRange
  · exact h.batRange
  · exact h.batRange.checkBps
  · exact h.batRange
  · exact h.plain

theorem Keeps.setDest (h : Keeps s₀ s) {i : Nat} {d : Option Dest} : Keeps s₀ (s.setDest i d) := by
  unfold State.setDest
  extract_lets s1 s'
  have hs1 : Keeps s₀ s1 := h.put
  exact hs1.frame

theorem Keeps.dropDests (h : Keeps s₀ s) {p : Nat} : Keeps s₀ (s.dropDests p) := by
  unfold State.dropDests
  refine h.foldl fun t x ht => ?_
  split
  · exact Keeps.ite ht.setDest ht
  · exact ht

theorem Keeps.loseFrom (h : Keeps s₀ s) {key ofs : Nat} : Keeps s₀ (s.loseFrom key ofs) := by
  unfold State.loseFrom
  split
  · exact h
  · exact (Keeps.ite h.setSess h).foldl (fun _ _ ht => ht.setPort)

theorem Keeps.portOff (h : Keeps s₀ s) {p : Nat} : Keeps s₀ (s.portOff p) := by
  unfold State.portOff
  extract_lets x s1 s2 s3 s' s4
  have hs1 : Keeps s₀ s1 := h.setPort
  have hs2 : Keeps s₀ s2 := hs1.foldl (fun _ _ ht => ht.loseFrom)
  have hs3 : Keeps s₀ s3 := hs2.put.put.checkBps
  have hs4 : Keeps s₀ s4 := hs3.frame
  exact hs4.trySleep.trySleep

theorem Keeps.netCtrl (h : Keeps s₀ s) {p : Nat} {v : Word} : Keeps s₀ (s.netCtrl p v) := by
  unfold State.netCtrl
  extract_lets a was s1 now
  have hs1 : Keeps s₀ s1 := h.plain.dropDests
  exact Keeps.ite hs1.startWake (Keeps.ite hs1.portOff hs1)

theorem Keeps.netWrite (h : Keeps s₀ s) {a : Nat} {v : Word} : Keeps s₀ (s.netWrite a v) := by
  unfold State.netWrite
  split
  · exact h.netCtrl
  · exact h.netCtrl
  · exact h.plain

theorem Keeps.mdioGo (h : Keeps s₀ s) : Keeps s₀ s.mdioGo := by
  unfold State.mdioGo
  extract_lets wr s1 s'
  have hs1 : Keeps s₀ s1 := h.send.put
  exact hs1.frame

theorem Keeps.mgmtWrite (h : Keeps s₀ s) {a : Nat} {v : Word} : Keeps s₀ (s.mgmtWrite a v) := by
  unfold State.mgmtWrite
  split
  · exact h.plain
  · extract_lets s1 s'
    have hs1 : Keeps s₀ s1 := h.plain
    exact Keeps.ite hs1.frame hs1
  · exact Keeps.ite (Keeps.ite h h.plain.mdioGo) h.plain
  · exact h.plain

theorem Keeps.pvStatus (h : Keeps s₀ s) {st : Nat} : Keeps s₀ (s.pvStatus st) := h.put

theorem Keeps.pvEffect (h : Keeps s₀ s) {i : Nat} : Keeps s₀ (s.pvEffect i) := Keeps.ite h.put h

theorem Keeps.pvCommit (h : Keeps s₀ s) {i : Nat} {v : Word} : Keeps s₀ (s.pvCommit i v) :=
  fun w => Memory.wf_pvCommit i v (h w)

theorem Keeps.pvRegWrite (h : Keeps s₀ s) {i : Nat} {v : Word} : Keeps s₀ (s.pvRegWrite i v) := by
  unfold State.pvRegWrite
  split
  · exact h
  · split
    · exact h.pvStatus
    · split
      · exact h.pvStatus.raise
      · split
        · exact h.pvStatus.raise.put
        · extract_lets s1 s'
          have hs1 : Keeps s₀ s1 := h.pvCommit.pvStatus.pvEffect
          exact hs1.mem

theorem Keeps.progCmd (h : Keeps s₀ s) {x : Access} : Keeps s₀ (s.progCmd x) := by
  unfold State.progCmd
  extract_lets k st s1 s'
  have hs1 : Keeps s₀ s1 := h.put
  exact Keeps.ite h.put (Keeps.ite h.put (Keeps.ite h.put.busErr hs1.mem))

theorem Keeps.pvBlockWrite (h : Keeps s₀ s) {a : Nat} {v : Word} {x : Access} : Keeps s₀ (s.pvBlockWrite a v x) :=
  Keeps.ite h.pvRegWrite (Keeps.ite (Keeps.ite h.progCmd h) h.plain)

theorem Keeps.updStatus (h : Keeps s₀ s) {st : Nat} : Keeps s₀ (s.updStatus st) := h.put

theorem Keeps.showRec (h : Keeps s₀ s) : Keeps s₀ s.showRec := by
  unfold State.showRec
  split
  · exact h
  · exact h.put.put.put

theorem Keeps.flashPut (h : Keeps s₀ s) {a : Nat} {b : List Byte} : Keeps s₀ (s.flashPut a b) :=
  fun w => Memory.wf_flashPut a b (h w)

theorem Keeps.flashErase (h : Keeps s₀ s) {a n : Nat} : Keeps s₀ (s.flashErase a n) :=
  fun w => Memory.wf_flashErase a n (h w)

theorem Keeps.writeRec (h : Keeps s₀ s) {r : BootRec} : Keeps s₀ (s.writeRec r) := by
  unfold State.writeRec
  split
  rename_i seq s1 hs1
  have h1 : Keeps s₀ s1 := by
    split at hs1
    · cases hs1
      exact h
    · cases hs1
      exact h.takeFree
  exact h1.flashErase.flashPut.showRec

theorem Keeps.confirmCmd (h : Keeps s₀ s) : Keeps s₀ s.confirmCmd := by
  unfold State.confirmCmd
  split
  · exact Keeps.ite h.writeRec.updStatus h.updStatus
  · exact h.updStatus

theorem Keeps.revertCmd (h : Keeps s₀ s) : Keeps s₀ s.revertCmd := by
  unfold State.revertCmd
  split
  · exact Keeps.ite h.writeRec.updStatus h.updStatus
  · exact h.updStatus

theorem Keeps.freeLock (h : Keeps s₀ s) : Keeps s₀ s.freeLock := h.put

theorem Keeps.updParts (h : Keeps s₀ s) {b : List Byte} : Keeps s₀ (s.updParts b) := h.foldl (fun _ _ ht => ht.mirSend)

theorem Keeps.mgmtUdp (h : Keeps s₀ s) {src mac ip sport dport : Nat} {b : List Byte} :
    Keeps s₀ (s.mgmtUdp src mac ip sport dport b) :=
  h.takeFree.send

theorem Keeps.updTo (h : Keeps s₀ s) {d : UpdFrom} {b : List Byte} : Keeps s₀ (s.updTo d b) := Keeps.ite h.updParts h.mgmtUdp

theorem Keeps.reply (h : Keeps s₀ s) {d : UpdFrom} {sid st : Nat} : Keeps s₀ (s.reply d sid st) := h.updTo

theorem Keeps.answerAsked (h : Keeps s₀ s) {st : Nat} : Keeps s₀ (s.answerAsked st) := by
  unfold State.answerAsked
  split
  · exact h.frame.reply
  · exact h

theorem Keeps.answerCut (h : Keeps s₀ s) : Keeps s₀ s.answerCut := Keeps.ite h.takeFree.answerAsked h

theorem Keeps.stageRec (h : Keeps s₀ s) {st : Nat} : Keeps s₀ (s.stageRec st) := h.eventNow

theorem Keeps.toStage (h : Keeps s₀ s) {g st : Nat} : Keeps s₀ (s.toStage g st) := Keeps.ite h h.put.stageRec

theorem Keeps.prevOff (h : Keeps s₀ s) : Keeps s₀ s.prevOff := by
  unfold State.prevOff
  split
  · exact h.writeRec
  · exact h

theorem Keeps.breakBuild (h : Keeps s₀ s) : Keeps s₀ s.breakBuild := by
  unfold State.breakBuild
  extract_lets a n s1 s'
  have hs1 : Keeps s₀ s1 := h.prevOff.flashErase
  have hs' : Keeps s₀ s' := hs1.flashPut
  exact hs'.frame

theorem Keeps.leaveVerify (h : Keeps s₀ s) : Keeps s₀ s.leaveVerify := Keeps.ite h (Keeps.ite h.takeFree.breakBuild h.takeFree)

theorem Keeps.breakCmd (h : Keeps s₀ s) : Keeps s₀ s.breakCmd := by
  unfold State.breakCmd
  extract_lets s1
  have hs1 : Keeps s₀ s1 := h.freeLock
  exact (Keeps.ite hs1.leaveVerify.toStage.answerCut hs1).updStatus

theorem Keeps.updRun (h : Keeps s₀ s) {i : Nat} : Keeps s₀ (Machine.updRun i s) := by
  unfold Machine.updRun
  split
  · exact h.confirmCmd
  · exact h.revertCmd
  · exact h.breakCmd

theorem Keeps.updWrite (h : Keeps s₀ s) {a : Nat} {v : Word} : Keeps s₀ (s.updWrite a v) := by
  unfold State.updWrite
  split
  · exact Keeps.ite h.plain h.plain
  · exact h.command (fun _ _ ht => ht.updRun)
  · exact h.plain

theorem Keeps.loseChannel (h : Keeps s₀ s) {c : Nat} : Keeps s₀ (s.loseChannel c) :=
  fun w => Memory.wf_loseChannel c (h w)

theorem Keeps.keepDram (h : Keeps s₀ s) : Keeps s₀ s.keepDram := h.foldl (fun _ _ ht => Keeps.ite ht ht.loseChannel)

theorem Keeps.saveOne (h : Keeps s₀ s) {i : Nat} {v : Word} : Keeps s₀ (s.saveOne i v) :=
  Keeps.ite h (Keeps.ite h.raise.put h.pvCommit)

theorem Keeps.savesCut (h : Keeps s₀ s) {done : Bool} : Keeps s₀ (s.savesCut done) := by
  unfold State.savesCut
  split
  · extract_lets s1
    have hs1 : Keeps s₀ s1 := Keeps.ite h.saveOne (Keeps.ite h h.pvCommit)
    exact hs1.frame
  · exact h.frame

theorem Keeps.setOtp (h : Keeps s₀ s) {k : Nat} {v : Word} : Keeps s₀ (s.setOtp k v) := by
  unfold State.setOtp
  exact h.mem (otp := Sp.wf_set k v)

theorem Keeps.otpLocked (h : Keeps s₀ s) {k : Nat} : Keeps s₀ (s.otpLocked k) := by
  unfold State.otpLocked
  exact h.mem

theorem Keeps.progCut (h : Keeps s₀ s) : Keeps s₀ s.progCut := by
  unfold State.progCut
  split
  · exact h
  · extract_lets s1 s'
    have hs1 : Keeps s₀ s1 := h.takeFree.setOtp
    exact hs1.mem.otpLocked

theorem Keeps.clearBit (h : Keeps s₀ s) {c : Nat} : Keeps s₀ (s.clearBit c) := h.flashPut

theorem Keeps.chunkDone (h : Keeps s₀ s) {ok : Bool} : Keeps s₀ (s.chunkDone ok) := by
  unfold State.chunkDone
  extract_lets c b s' s0 s1 s2 g s'_1
  have hs0 : Keeps s₀ s0 := h.frame
  have hs1 : Keeps s₀ s1 := hs0.flashErase
  have hs2 : Keeps s₀ s2 := hs1.flashPut.clearBit.put
  have hs'_1 : Keeps s₀ s'_1 := hs1.flashPut
  exact Keeps.ite hs2.reply hs'_1.frame

theorem Keeps.copyHalf (h : Keeps s₀ s) {a b : Nat} : Keeps s₀ (s.copyHalf a b) := by
  unfold State.copyHalf
  extract_lets h'
  refine h.foldl fun t i ht => ?_
  extract_lets v k
  refine Keeps.ite ht (Keeps.ite ht.put.raise.put ?_)
  exact ht.mem (pv := Sp.wf_set k v) (wear := Sp.wf_set k _)

theorem Keeps.cutFlash (h : Keeps s₀ s) : Keeps s₀ s.cutFlash := by
  unfold State.cutFlash
  extract_lets bit s1 k s2
  have hs1 : Keeps s₀ s1 := h.takeFree
  have hs2 : Keeps s₀ s2 := hs1.takeFree.copyHalf
  split
  · exact Keeps.ite h.chunkDone h
  · exact Keeps.ite hs1.breakBuild hs1
  · exact Keeps.ite hs2.flashErase hs2
  · exact h

/-- A reset keeps of a channel's record what it keeps of it alone. -/
theorem State.cleared_dch (s : State) (c : Nat) : s.cleared.dch c = (s.dch c).kept := by
  show Sp.get _ (s.dram.ch.map fun x => (x.1, x.2.kept)) c = (Sp.get _ s.dram.ch c).kept
  induction s.dram.ch with
  | nil => rfl
  | cons x xs ih =>
    rw [List.map_cons, Sp.get_cons, Sp.get_cons, ih]
    split <;> rfl

theorem Keeps.cleared (h : Keeps s₀ s) : Keeps s₀ s.cleared := by
  intro w
  obtain ⟨w1, -, -, -, -, w6, w7, w8, w9⟩ := (Memory.wf_iff s).1 (h w)
  have e : s.cleared.dramDef = s.dramDef := State.dramDef_congr fun c => by rw [State.cleared_dch]; rfl
  rw [Memory.wf_iff, e]
  exact ⟨w1, rfl, rfl, rfl, rfl, w6, w7, w8, w9⟩

theorem Keeps.copyFld (h : Keeps s₀ s) {from' : State} {f : Fld} : Keeps s₀ (s.copyFld from' f) := h.put

theorem Keeps.warmReset (h : Keeps s₀ s) {cause : Nat} : Keeps s₀ (s.warmReset cause) := by
  unfold State.warmReset
  extract_lets s0 s1 m q u s2 s3
  have hs0 : Keeps s₀ s0 := h.cutFlash.progCut.savesCut.keepDram
  have hs1 : Keeps s₀ s1 := hs0.cleared
  have hs2 : Keeps s₀ s2 := fun w => by
    obtain ⟨-, htrack, -⟩ := (Memory.wf_iff s0).1 (hs0 w)
    exact (hs1.mem (track := fun _ => htrack) : Keeps s₀ s2) w
  have hs3 : Keeps s₀ s3 := hs2.foldl fun _ _ ht => ht.copyFld
  exact hs3.put.put.aoSource

theorem Keeps.holdOuts (h : Keeps s₀ s) : Keeps s₀ s.holdOuts :=
  ((h.foldl (fun _ _ ht => Keeps.ite ht.capture ht)).foldl (fun _ _ ht => ht.restFc)).foldl (fun _ _ ht => ht.put)

theorem Keeps.warmCmd (h : Keeps s₀ s) : Keeps s₀ s.warmCmd := h.holdOuts.warmReset

theorem Keeps.supplyCmd (h : Keeps s₀ s) : Keeps s₀ s.supplyCmd := Keeps.ite h.put h.put.startWake

theorem Keeps.sleepCmd (h : Keeps s₀ s) : Keeps s₀ s.sleepCmd := Keeps.ite h.put (Keeps.ite h.put h.put)

theorem Keeps.domStatus (h : Keeps s₀ s) {st : Nat} : Keeps s₀ (s.domStatus st) := h.put

theorem Keeps.domWake (h : Keeps s₀ s) : Keeps s₀ s.domWake := by
  unfold State.domWake
  extract_lets d st s1 s2 s'
  have hs1 : Keeps s₀ s1 := h.accessWake
  have hs2 : Keeps s₀ s2 := hs1.put
  exact Keeps.ite h.domStatus (Keeps.ite hs1.domStatus hs2.frame)

theorem Keeps.quiet (h : Keeps s₀ s) {d : Nat} : Keeps s₀ (s.quiet d) := Keeps.ite h.portOff (Keeps.ite h.linkLost h)

theorem Keeps.domSleep (h : Keeps s₀ s) : Keeps s₀ s.domSleep :=
  Keeps.ite h.domStatus (Keeps.ite h.domStatus (((((h.foldl (fun _ _ ht => ht.quiet)).sleepDom).trySleep).pllIdle).domStatus))

theorem Keeps.domRun (h : Keeps s₀ s) {i : Nat} : Keeps s₀ (Machine.domRun i s) := Keeps.ite h.domWake h.domSleep

theorem Keeps.supWrite (h : Keeps s₀ s) {a : Nat} {v : Word} : Keeps s₀ (s.supWrite a v) := by
  unfold State.supWrite
  split
  · exact Keeps.ite h.warmCmd h
  · exact Keeps.ite h.plain h.plain.raise
  · exact h.command (fun _ _ ht => ht.supplyCmd)
  · exact h.command (fun _ _ ht => ht.sleepCmd)
  · exact h.plain.command (fun _ _ ht => ht.domRun)
  · exact h.plain

theorem Keeps.takeEnd (h : Keeps s₀ s) {st : Nat} : Keeps s₀ (s.takeEnd st) := by
  unfold State.takeEnd
  extract_lets s1 s2 s'
  have hs1 : Keeps s₀ s1 := h.put
  have hs2 : Keeps s₀ s2 := Keeps.ite hs1.put hs1
  exact hs2.frame

theorem Keeps.mirPower (h : Keeps s₀ s) : Keeps s₀ s.mirPower := Keeps.ite h.startWake h.trySleep.pllIdle

theorem Keeps.setRole (h : Keeps s₀ s) {r : Nat} : Keeps s₀ (s.setRole r) := by
  unfold State.setRole
  extract_lets s1 s' s2
  have hs1 : Keeps s₀ s1 := h.put.takeEnd
  have hs2 : Keeps s₀ s2 := hs1.frame
  exact (((Keeps.ite hs2.put hs2).mirPower).pairEval).driveOutEn

theorem Keeps.samplePeer (h : Keeps s₀ s) {high : Bool} : Keeps s₀ (s.samplePeer high) := by
  unfold State.samplePeer
  extract_lets h_1 gap run s1 s'
  have hs1 : Keeps s₀ s1 := (Keeps.ite h.takeFree h).put
  exact hs1.frame

theorem Keeps.peerLook (h : Keeps s₀ s) : Keeps s₀ s.peerLook := Keeps.ite h h.takeFree.samplePeer

theorem Keeps.trigger (h : Keeps s₀ s) {k : Nat} : Keeps s₀ (s.trigger k) := by
  unfold State.trigger
  extract_lets s0 s' s1
  have hs0 : Keeps s₀ s0 := h.peerLook.put
  have hs1 : Keeps s₀ s1 := hs0.frame
  exact Keeps.ite hs1.raise hs1

theorem Keeps.autoTrigger (h : Keeps s₀ s) {k : Nat} : Keeps s₀ (s.autoTrigger k) := Keeps.ite h.trigger h

theorem Keeps.takeoverCmd (h : Keeps s₀ s) : Keeps s₀ s.takeoverCmd := Keeps.ite h.mirSend.trigger h.put

theorem Keeps.mirWrite (h : Keeps s₀ s) {a : Nat} {v : Word} : Keeps s₀ (s.mirWrite a v) := by
  unfold State.mirWrite
  split
  · extract_lets r s1 s2 s3
    have hs1 : Keeps s₀ s1 := h.plain
    have hs2 : Keeps s₀ s2 := Keeps.ite hs1 hs1.setRole
    have hs3 : Keeps s₀ s3 := Keeps.ite hs2.autoTrigger hs2
    exact hs3.command (fun _ _ ht => ht.takeoverCmd)
  · exact h.plain

theorem Keeps.syncStatus (h : Keeps s₀ s) {st : Nat} : Keeps s₀ (s.syncStatus st) := h.put

theorem Keeps.syncBegin (h : Keeps s₀ s) {job : Nat} : Keeps s₀ (s.syncBegin job) := by
  unfold State.syncBegin
  extract_lets s1 s'
  have hs1 : Keeps s₀ s1 := h.put
  exact hs1.frame

theorem Keeps.calCmd (h : Keeps s₀ s) : Keeps s₀ s.calCmd := Keeps.ite h.syncStatus h.syncBegin

theorem Keeps.alignCmd (h : Keeps s₀ s) : Keeps s₀ s.alignCmd := by
  unfold State.alignCmd
  split
  · exact h.syncStatus
  · extract_lets s1 s' s2 s3 up
    have hs1 : Keeps s₀ s1 := h.syncBegin
    have hs2 : Keeps s₀ s2 := hs1.frame.driveOutEn
    have hs3 : Keeps s₀ s3 := hs2.foldl (fun _ _ ht => ht.startWake)
    exact hs3.alignOuts

theorem Keeps.syncSaveCmd (h : Keeps s₀ s) : Keeps s₀ s.syncSaveCmd := by
  unfold State.syncSaveCmd
  extract_lets s1 s'
  have hs1 : Keeps s₀ s1 := h.beginSave
  exact Keeps.ite hs1.frame hs1

theorem Keeps.syncRun (h : Keeps s₀ s) {i : Nat} : Keeps s₀ (Machine.syncRun i s) := by
  unfold Machine.syncRun
  split
  · exact h.calCmd
  · exact h.alignCmd
  · exact h.syncSaveCmd

theorem Keeps.syncWrite (h : Keeps s₀ s) {a : Nat} {v : Word} : Keeps s₀ (s.syncWrite a v) := by
  unfold State.syncWrite
  split
  · exact h.plain.command (fun _ _ ht => ht.syncRun)
  · exact Keeps.ite h.plain.retrim h.raise
  · exact h.plain

theorem Keeps.fabLoadCmd (h : Keeps s₀ s) : Keeps s₀ s.fabLoadCmd :=
  Keeps.ite h.put (Keeps.ite h.fabRefuse (Keeps.ite h.fabRefuse h.fabCopy))

theorem Keeps.fabWrite (h : Keeps s₀ s) {a : Nat} {v : Word} : Keeps s₀ (s.fabWrite a v) :=
  Keeps.ite (Keeps.ite h.fabLoadCmd h) h.plain

theorem Keeps.releaseCmd (h : Keeps s₀ s) {jtag : Bool} : Keeps s₀ (s.releaseCmd jtag) := Keeps.ite h.put.warmReset h.put

theorem Keeps.calAbort (h : Keeps s₀ s) : Keeps s₀ s.calAbort := h.foldl (fun _ _ ht => Keeps.ite ht.setFc.put.put ht)

theorem Keeps.takeRing (h : Keeps s₀ s) : Keeps s₀ s.takeRing := h.frame.put

theorem Keeps.freezeDram (h : Keeps s₀ s) : Keeps s₀ s.freezeDram :=
  h.foldl (fun _ _ ht => Keeps.ite ht.loseChannel (Keeps.ite ht ht.selfRefresh))

theorem Keeps.freeze (h : Keeps s₀ s) : Keeps s₀ s.freeze := h.mem.put.calAbort.holdOuts.freezeDram.savesCut.progCut.takeRing

theorem Keeps.freezeBy (h : Keeps s₀ s) {f : Fld} : Keeps s₀ (s.freezeBy f) := by
  unfold State.freezeBy
  extract_lets s1
  have hs1 : Keeps s₀ s1 := h.put
  exact Keeps.ite hs1 hs1.freeze

theorem Keeps.dbgWrite (h : Keeps s₀ s) {x : Access} {a : Nat} {v : Word} : Keeps s₀ (s.dbgWrite x a v) := by
  unfold State.dbgWrite
  split
  · exact Keeps.ite h.releaseCmd h
  · exact Keeps.ite h.freezeBy h
  · exact h.plain

theorem Keeps.blockWrite (h : Keeps s₀ s) {x : Access} {a : Nat} {v : Word} : Keeps s₀ (s.blockWrite x a v) := by
  unfold State.blockWrite
  split
  · exact h.glbWrite
  · exact h.clkWrite
  · exact Keeps.ite h.seqWrite h.windowWrite
  · exact h.evtWrite
  · exact h.planWrite
  · exact h.fineWrite
  · exact h.vecWrite
  · exact h.captWrite
  · exact h.dramRegWrite
  · exact h.trackWrite'
  · exact h.batWrite
  · exact h.netWrite
  · exact h.mgmtWrite
  · exact h.pvBlockWrite
  · exact h.updWrite
  · exact h.supWrite
  · exact h.mirWrite
  · exact h.syncWrite
  · exact h.fabWrite
  · exact h.dbgWrite
  · exact h

theorem Keeps.regWrite (h : Keeps s₀ s) {x : Access} {a : Nat} {v : Word} : Keeps s₀ (s.regWrite x a v) := by
  unfold State.regWrite
  split
  · exact h.setMode.bpsOf
  · split
    · exact h.portWrite
    · split
      · exact h.lvlWrite
      · exact h.blockWrite

theorem Keeps.tryWrite (h : Keeps s₀ s) {x : Access} {a : Nat} : Keeps s₀ (s.tryWrite x a).s := by
  unfold State.tryWrite
  split
  · exact h.busErr
  · split
    · exact h.busErr
    · extract_lets s1 m
      have hs1 : Keeps s₀ s1 := h.useKey
      split
      extract_lets s2
      have hs2 : Keeps s₀ s2 := Keeps.ite hs1.busErr hs1
      exact Keeps.ite hs2 hs2.regWrite

theorem Keeps.leave (h : Keeps s₀ s) {i : Nat} : Keeps s₀ (s.leave i) := h.setQ

theorem Keeps.logDrain (h : Keeps s₀ s) {k : Nat} : Keeps s₀ (State.logDrain k s) := by
  induction k generalizing s with
  | zero => exact h
  | succ k ih =>
    unfold State.logDrain
    split
    · exact h
    · exact Keeps.ite h (ih h.frame.logEnter)

theorem Keeps.readQ (h : Keeps s₀ s) {i : Nat} : Keeps s₀ (s.readQ i).2 := by
  unfold State.readQ
  extract_lets q w s1
  have hs1 : Keeps s₀ s1 := h.leave.ptrCheck
  split
  · exact Keeps.ite hs1.evDrain (Keeps.ite hs1.logDrain hs1)
  · exact h.setQ

theorem Keeps.eccBad (h : Keeps s₀ s) {i word : Nat} : Keeps s₀ (s.eccBad i word) := by
  unfold State.eccBad
  extract_lets s1
  have hs1 : Keeps s₀ s1 := h.raise.put.bump
  exact Keeps.ite hs1 hs1.log

theorem Keeps.takeWord (h : Keeps s₀ s) {x : Access} {i : Nat} : Keeps s₀ (s.takeWord x i).2 := by
  unfold State.takeWord
  extract_lets r s1
  have hs1 : Keeps s₀ s1 := Keeps.ite h.readQ.bump h.readQ
  split
  · exact Keeps.ite hs1.eccBad hs1
  · exact h.readQ

theorem Keeps.fecLook (h : Keeps s₀ s) {p : Nat} : Keeps s₀ (s.fecLook p) := h.countFree.put

theorem Keeps.lookAt (h : Keeps s₀ s) {a : Nat} : Keeps s₀ (s.lookAt a) := by
  unfold State.lookAt
  split
  · exact h.countFree
  · exact h.confLook
  · exact Keeps.ite h.fecLook (Keeps.ite h.fecLook h)

theorem Keeps.coastTo (h : Keeps s₀ s) {us : Nat} : Keeps s₀ (s.coastTo us) := by
  unfold State.coastTo
  extract_lets old now lim s1
  have hs1 : Keeps s₀ s1 := h.put
  exact Keeps.ite hs1.raise.eventNow hs1

theorem Keeps.coastLook (h : Keeps s₀ s) : Keeps s₀ s.coastLook := Keeps.ite h.takeFree.coastTo h

theorem Keeps.segwRead (h : Keeps s₀ s) : Keeps s₀ s.segwRead.2 := by
  unfold State.segwRead
  split
  · extract_lets k o s1
    have hs1 : Keeps s₀ s1 := h.segReach
    exact hs1.put.segwNext
  · exact h.segwRange

theorem Keeps.alignDrive (h : Keeps s₀ s) {a : Nat} {w : Word} : Keeps s₀ (s.alignDrive a w).2 := by
  unfold State.alignDrive
  extract_lets n f
  split
  · exact h.takeFree
  · exact h

theorem Keeps.dramRegRead (h : Keeps s₀ s) {a : Nat} : Keeps s₀ (s.dramRegRead a).2 := by
  unfold State.dramRegRead
  split
  · extract_lets n l s' s1
    have hs1 : Keeps s₀ s1 := Keeps.ite h.setSq h
    split
    · exact hs1.takeFree
    · exact h
  · exact h

theorem Keeps.trackWinRead (h : Keeps s₀ s) : Keeps s₀ s.trackWinRead.2 := by
  unfold State.trackWinRead
  extract_lets a s1
  have hs1 : Keeps s₀ s1 := h.wakeBank
  exact hs1.put.trackNext

theorem Keeps.mirRead (h : Keeps s₀ s) {a : Nat} : Keeps s₀ (s.mirRead a).2 := by
  unfold State.mirRead
  split
  · exact h.peerLook
  · exact h

theorem Keeps.ringRead (h : Keeps s₀ s) : Keeps s₀ s.ringRead.2 := by
  unfold State.ringRead
  extract_lets k
  exact h.put

theorem Keeps.blockRead {s0 : State} (h : Keeps s₀ s0) {a : Nat} : Keeps s₀ (s0.blockRead a).2 := by
  unfold State.blockRead
  extract_lets s
  have hs : Keeps s₀ s := h.lookAt
  split
  · split
    · exact hs.coastLook
    · exact hs
  · split
    · exact hs.segwRead
    · exact hs
  · exact hs
  · exact hs.alignDrive
  · exact hs
  · exact hs.dramRegRead
  · split
    · exact hs.trackWinRead
    · exact hs
  · exact hs
  · exact hs
  · exact hs
  · exact hs.mirRead
  · exact hs
  · split
    · exact hs.ringRead
    · exact hs
  · exact hs

theorem Keeps.regRead (h : Keeps s₀ s) {x : Access} {a : Nat} : Keeps s₀ (s.regRead x a).2 := by
  unfold State.regRead
  split
  · exact h.takeWord
  · split
    · exact h
    · split
      · exact h
      · exact h.blockRead

theorem Keeps.tryAccess (h : Keeps s₀ s) {x : Access} : Keeps s₀ (s.tryAccess x).s := by
  unfold State.tryAccess
  extract_lets a r
  split
  · exact h.answerRead
  · split
    · exact h.accessWake
    · split
      · exact h.busErr
      · split
        · exact h.answerRead
        · split
          · exact h.busErr.answerRead
          · split
            · exact h.busErr.answerRead
            · split
              · exact h
              · split
                · exact h.tryWrite
                · exact h.regRead.answerRead

theorem Keeps.endAccess (h : Keeps s₀ s) {x : Access} {err : Bool} : Keeps s₀ (s.endAccess x err) := Keeps.ite h.frame h

theorem Keeps.busRun (h : Keeps s₀ s) {k : Nat} : Keeps s₀ (State.busRun k s) := by
  induction k generalizing s with
  | zero => exact h
  | succ k ih =>
    unfold State.busRun
    split
    · exact h
    · refine Keeps.ite h ?_
      extract_lets r s1
      have hr : Keeps s₀ r.s := h.tryAccess
      have hs1 : Keeps s₀ s1 := hr.endAccess
      exact Keeps.ite (ih hs1.frame) hr

theorem Keeps.busGo (h : Keeps s₀ s) : Keeps s₀ s.busGo := h.busRun

theorem Keeps.mbxResume (h : Keeps s₀ s) : Keeps s₀ s.mbxResume := by
  unfold State.mbxResume
  split
  · exact h
  · extract_lets n
    split
    · exact h
    · exact Keeps.ite h h.mbxDo

theorem Keeps.settle (h : Keeps s₀ s) : Keeps s₀ s.settle := h.mbxResume.busGo.loadGoesOn.fabGoesOn.rxGoesOn

theorem Keeps.tick1 (h : Keeps s₀ s) : Keeps s₀ s.tick1 := Keeps.ite h.frame h

theorem Keeps.idle (h : Keeps s₀ s) : Keeps s₀ s.idle :=
  Keeps.ite h.lateNotes.tick1.linkTime.passed.checkBps.settle.sleepLate.noteLevels h

theorem Keeps.busAccess (h : Keeps s₀ s) {x : Access} : Keeps s₀ (s.busAccess x) := h.frame.busGo

theorem Keeps.busRow (h : Keeps s₀ s) {x : Access} : Keeps s₀ (s.busRow x) := Keeps.ite h.busAccess.noteLevels h

theorem Keeps.execRegisterWrite (h : Keeps s₀ s) {a : BitVec 24} {w : Word} {bytes : Nat} {p : Bool} :
    Answers s₀ (Machine.execRegisterWrite a w bytes p s) :=
  .next h.busRow

theorem Keeps.timeoutHead (h : Keeps s₀ s) : Keeps s₀ s.timeoutHead := by
  unfold State.timeoutHead
  split
  · exact h
  · extract_lets s1
    have hs1 : Keeps s₀ s1 := h.busErr.answerRead.endAccess
    exact hs1.frame.busGo

theorem Keeps.execBusTimeout (h : Keeps s₀ s) : Answers s₀ (Machine.execBusTimeout s) :=
  .ite (.next h.settle.timeoutHead.noteLevels) (.next h)

theorem Keeps.writeRow (h : Keeps s₀ s) {a : Nat} {w : Word} {p : Bool} : Keeps s₀ (s.writeRow a w p) := h.busRow

theorem Keeps.execGlbKeyWrite (h : Keeps s₀ s) {w : Word} {p : Bool} : Answers s₀ (Machine.execGlbKeyWrite w p s) :=
  .next h.writeRow

theorem Keeps.execKeyExpiry (h : Keeps s₀ s) : Answers s₀ (Machine.execKeyExpiry s) := .ite (.next h.wr) (.next h)

theorem Keeps.execMailboxRead (h : Keeps s₀ s) {sel : BitVec 16} {p : Bool} : Answers s₀ (Machine.execMailboxRead sel p s) :=
  .next h.writeRow

theorem Keeps.execMailboxWrite (h : Keeps s₀ s) {sel : BitVec 16} {p : Bool} : Answers s₀ (Machine.execMailboxWrite sel p s) :=
  .next h.writeRow

theorem Keeps.execMailboxTimeout (h : Keeps s₀ s) : Answers s₀ (Machine.execMailboxTimeout s) :=
  .ite (.next h.mbxEnd.raise) (.next h)

theorem Keeps.execUpdateStrobe (h : Keeps s₀ s) {w : Word} {p : Bool} : Answers s₀ (Machine.execUpdateStrobe w p s) :=
  .next h.writeRow

theorem Keeps.applyEff (h : Keeps s₀ s) {x : Eff} : Keeps s₀ (s.applyEff x) := h.frame.retrim

theorem Keeps.reload (h : Keeps s₀ s) {n k : Nat} {w : Sw} : Keeps s₀ (s.reload n k w) := by
  unfold State.reload
  extract_lets s' s1 prof rule
  have hs1 : Keeps s₀ s1 := h.setFc
  exact Keeps.ite hs1 hs1.applySw

theorem Keeps.effAt (h : Keeps s₀ s) {k : Nat} : Keeps s₀ (s.effAt k) := by
  unfold State.effAt
  extract_lets s1 s2
  have hs1 : Keeps s₀ s1 := h.foldl (fun _ _ ht => ht.applyEff)
  have hs2 : Keeps s₀ s2 := hs1.frame
  refine hs2.foldl fun t x ht => ?_
  split
  · exact ht.reload
  · exact ht

theorem Keeps.execStrobeEffect (h : Keeps s₀ s) : Answers s₀ (Machine.execStrobeEffect s) := by
  unfold Machine.execStrobeEffect
  split
  · exact .next h
  · exact .ite (.next h.passTo.effAt.noteLevels) (.next h)

theorem Keeps.execPvWrite (h : Keeps s₀ s) {i : Fin 8160} {w : Word} {p : Bool} : Answers s₀ (Machine.execPvWrite i w p s) :=
  .next h.writeRow

theorem Keeps.cmdRow (h : Keeps s₀ s) {f : Fld} {w : Word} {p : Bool} : Keeps s₀ (s.cmdRow f w p) := h.writeRow

theorem Keeps.execProg (h : Keeps s₀ s) {w : Word} {p : Bool} : Answers s₀ (Machine.execProg w p s) := .next h.cmdRow

theorem Keeps.progEnd (h : Keeps s₀ s) {got : Word} : Keeps s₀ (s.progEnd got) := by
  unfold State.progEnd
  split
  · exact h
  · extract_lets s1 m s2
    have hs1 : Keeps s₀ s1 := h.setOtp.put
    have hs2 : Keeps s₀ s2 := hs1.mem
    exact Keeps.ite hs2.put hs2.otpLocked.put

theorem Keeps.execProgDone (h : Keeps s₀ s) {readBack : Word} : Answers s₀ (Machine.execProgDone readBack s) :=
  .ite (.next h.progEnd) (.next h)

theorem Keeps.execFabricLoad (h : Keeps s₀ s) {w : Word} {p : Bool} : Answers s₀ (Machine.execFabricLoad w p s) := .next h.cmdRow

theorem Keeps.dropUnits (h : Keeps s₀ s) {b : List Byte} : Keeps s₀ (s.dropUnits b) :=
  h.foldl (fun _ _ ht => (Keeps.ite ht.portOff (Keeps.ite ht.linkLost ht)).sleepOne)

theorem Keeps.writeFail (h : Keeps s₀ s) {st : Nat} : Keeps s₀ (s.writeFail st) :=
  h.emptyCourses.remap.raise.report.loaderIdle.pllIdle

theorem Keeps.yieldOn (h : Keeps s₀ s) {hi lo res idx k : Nat} : Keeps s₀ (s.yieldOn hi lo res idx k) := by
  unfold State.yieldOn
  split
  · exact h
  · extract_lets key y s1 set due
    have hset : ∀ t v, Keeps s₀ t → Keeps s₀ (set t v) := fun t v ht => ht.frame
    have hs1 : Keeps s₀ s1 := h.addTo
    exact Keeps.ite (hset _ _ hs1.eventNow) (hset _ _ hs1)

theorem Keeps.dropPlan (h : Keeps s₀ s) : Keeps s₀ s.dropPlan := Keeps.ite h.yieldOn.writeFail (Keeps.ite h.unload h)

theorem Keeps.structure' (h : Keeps s₀ s) {b : List Byte} : Keeps s₀ (s.structure' b) :=
  (((h.put.put.put.put.foldl (fun _ _ ht => ht.wr)).foldl (fun _ _ ht => ht.wr)).foldl (fun _ _ ht => ht.wr)).wr

theorem Keeps.fabApply (h : Keeps s₀ s) : Keeps s₀ s.fabApply :=
  h.dropPlan.revokeAll.dropUnits.structure'.put.setSel.raise.put.put.put.put.pllIdle

theorem Keeps.execFabricApplied (h : Keeps s₀ s) : Answers s₀ (Machine.execFabricApplied s) :=
  .ite (.next h.fabApply.noteLevels) (.next h)

theorem Keeps.coastFrom (h : Keeps s₀ s) {ctl : Nat} : Keeps s₀ (s.coastFrom ctl) := by
  unfold State.coastFrom
  split
  · extract_lets s1 s'
    have hs1 : Keeps s₀ s1 := h.put
    exact hs1.frame
  · split
    · exact h.put
    · split
      · extract_lets s1 s'
        have hs1 : Keeps s₀ s1 := h.put.put
        exact hs1.frame
      · exact h

theorem Keeps.refLoss (h : Keeps s₀ s) {ctl : Nat} : Keeps s₀ (s.refLoss ctl) := by
  unfold State.refLoss
  extract_lets s1 s2 s' s3
  have hs1 : Keeps s₀ s1 := h.put.aoSource.raise.bump
  have hs2 : Keeps s₀ s2 := hs1.coastFrom.put
  have hs3 : Keeps s₀ s3 := hs2.frame
  exact hs3.eventNow.dramNoRef

theorem Keeps.execRefLoss (h : Keeps s₀ s) {ctl : BitVec 20} : Answers s₀ (Machine.execRefLoss ctl s) :=
  .ite (.next h.refLoss.noteLevels) (.next h)

theorem Keeps.execCoastLong (h : Keeps s₀ s) : Answers s₀ (Machine.execCoastLong s) := .ite (.next h.coastTo) (.next h)

theorem Keeps.refQualified (h : Keeps s₀ s) {good : Bool} : Keeps s₀ (s.refQualified good) := by
  unfold State.refQualified
  split
  · exact h
  · split
    · exact h.raise
    · extract_lets s1 s'
      have hs1 : Keeps s₀ s1 := h.raise.aoSource
      exact hs1.frame

theorem Keeps.resume (h : Keeps s₀ s) {warm : State → State} (hw : ∀ t, Keeps s₀ t → Keeps s₀ (warm t)) :
    Keeps s₀ (s.resume warm) := by
  unfold State.resume
  extract_lets u s1 s2
  have hs1 : Keeps s₀ s1 := h.frame
  have hs2 : Keeps s₀ s2 := hs1.foldl fun _ _ ht => Keeps.ite ht.leaveSelfRef ht
  exact Keeps.ite hs2.dramPut (hw _ hs2)

theorem Keeps.warmOther (h : Keeps s₀ s) : Keeps s₀ s.warmOther := h.takeFree.warmReset

theorem Keeps.execRefQualified (h : Keeps s₀ s) {good : Bool} : Answers s₀ (Machine.execRefQualified good s) := by
  unfold Machine.execRefQualified
  split
  · exact .next h
  · extract_lets s1
    have hs1 : Keeps s₀ s1 := h.refQualified
    exact .next (Keeps.ite (hs1.resume (fun _ ht => ht.warmOther)) hs1)

theorem Keeps.refBack (h : Keeps s₀ s) {step fofs : Int} {us : Nat} : Keeps s₀ (s.refBack step fofs us) := by
  unfold State.refBack
  extract_lets st fo s1 s' s'_1 s2 s3 s4 s'_2
  have hs1 : Keeps s₀ s1 := h.put.put.coastTo
  have hs' : Keeps s₀ s' := hs1.raise
  have hs2 : Keeps s₀ s2 := hs'.frame
  have hs3 : Keeps s₀ s3 := hs2.eventNow
  have hs4 : Keeps s₀ s4 := Keeps.ite hs3 hs3.raise
  split
  · exact hs4
  · split
    · exact Keeps.ite hs4.put hs4
    · exact hs4.frame
    · exact hs4

theorem Keeps.execRefBack (h : Keeps s₀ s) {step fofs : Int} {coastUs : Nat} :
    Answers s₀ (Machine.execRefBack step fofs coastUs s) :=
  .ite (.next h.refBack) (.next h)

theorem Keeps.execRealignHardRelock (h : Keeps s₀ s) : Answers s₀ (Machine.execRealignHardRelock s) :=
  .ite (.next h.frame.put.retune) (.next h)

theorem Keeps.execSoftGo (h : Keeps s₀ s) {w : Word} {p : Bool} : Answers s₀ (Machine.execSoftGo w p s) := .next h.cmdRow

theorem Keeps.relockedRec (h : Keeps s₀ s) {kind : Nat} : Keeps s₀ (s.relockedRec kind) := h.eventNow

theorem Keeps.execSoftRelockDone (h : Keeps s₀ s) : Answers s₀ (Machine.execSoftRelockDone s) :=
  .ite (.next h.put.put.put.bump.relockedRec.noteLevels) (.next h)

theorem Keeps.execHop (h : Keeps s₀ s) {w : Word} {p : Bool} : Answers s₀ (Machine.execHop w p s) := .next h.cmdRow

theorem Keeps.hopRec (h : Keeps s₀ s) {late : Bool} : Keeps s₀ (s.hopRec late) := h.eventNow

theorem Keeps.clkDone (h : Keeps s₀ s) {st : Nat} : Keeps s₀ (s.clkDone st) := by
  unfold State.clkDone
  extract_lets s1 s'
  have hs1 : Keeps s₀ s1 := h.put.put
  exact hs1.frame

theorem Keeps.relocked (h : Keeps s₀ s) {late : Bool} : Keeps s₀ (s.relocked late) := (Keeps.ite h h.clkDone).bump

theorem Keeps.learnBand (h : Keeps s₀ s) {n : Nat} {l : LockInfo} : Keeps s₀ (s.learnBand n l) := h.frame rfl rfl

theorem Keeps.resumeTb (h : Keeps s₀ s) {us : Nat} : Keeps s₀ (s.resumeTb us) := (Keeps.ite h.put h).put.raise

theorem Keeps.resumeLoad (h : Keeps s₀ s) {us : Nat} : Keeps s₀ (s.resumeLoad us) := by
  unfold State.resumeLoad
  extract_lets s1 s'
  have hs1 : Keeps s₀ s1 := h.resumeTb
  split
  · exact hs1
  · exact hs1.frame.presetTb

theorem Keeps.outsBack (h : Keeps s₀ s) : Keeps s₀ s.outsBack := h.foldl (fun _ _ ht => Keeps.ite ht.wakeOuts ht)

theorem Keeps.showLat (h : Keeps s₀ s) {lat shown : Nat} : Keeps s₀ (s.showLat lat shown) := h.put.put

theorem Keeps.latAgain (h : Keeps s₀ s) : Keeps s₀ s.latAgain := Keeps.ite h.takeFree.showLat h

theorem Keeps.lockAt (h : Keeps s₀ s) {l : LockInfo} : Keeps s₀ (s.lockAt l) := by
  unfold State.lockAt
  extract_lets n s1 s2 s' s3
  have hs1 : Keeps s₀ s1 := Keeps.ite h.learnBand h
  have hs2 : Keeps s₀ s2 := hs1.put.put.put
  have hs3 : Keeps s₀ s3 := hs2.frame
  exact hs3.latAgain.setAwake.setAwake.outsBack.resumeLoad

theorem Keeps.execHopLock (h : Keeps s₀ s) {l : LockInfo} : Answers s₀ (Machine.execHopLock l s) :=
  .ite (.next h.lockAt.relocked.hopRec.pllIdle.noteLevels) (.next h)

theorem Keeps.clkTimeout (h : Keeps s₀ s) : Keeps s₀ s.clkTimeout := by
  unfold State.clkTimeout
  extract_lets s1 s'
  have hs1 : Keeps s₀ s1 := h.clkDone
  exact hs1.frame

theorem Keeps.execHopTimeout (h : Keeps s₀ s) : Answers s₀ (Machine.execHopTimeout s) := .ite (.next h.clkTimeout) (.next h)

theorem Keeps.execBandSearch (h : Keeps s₀ s) {w : Word} {p : Bool} : Answers s₀ (Machine.execBandSearch w p s) := .next h.cmdRow

theorem Keeps.execBandSearchLock (h : Keeps s₀ s) {l : LockInfo} : Answers s₀ (Machine.execBandSearchLock l s) :=
  .ite (.next h.lockAt.relocked.hopRec.pllIdle.noteLevels) (.next h)

theorem Keeps.execBandSearchTimeout (h : Keeps s₀ s) : Answers s₀ (Machine.execBandSearchTimeout s) := by
  unfold Machine.execBandSearchTimeout
  split
  · extract_lets k s1 s'
    have hs1 : Keeps s₀ s1 := h.clkTimeout
    exact .next hs1.frame
  · exact .next h

theorem Keeps.bandMiss (h : Keeps s₀ s) : Keeps s₀ s.bandMiss := by
  unfold State.bandMiss
  split
  · extract_lets s1 s'
    have hs1 : Keeps s₀ s1 := h.raise
    exact hs1.frame
  · exact h

theorem Keeps.execBandMiss (h : Keeps s₀ s) : Answers s₀ (Machine.execBandMiss s) := .ite (.next h.bandMiss) (.next h)

theorem Keeps.execBandSave (h : Keeps s₀ s) {w : Word} {p : Bool} : Answers s₀ (Machine.execBandSave w p s) := .next h.cmdRow

theorem Keeps.execHardRelock (h : Keeps s₀ s) {w : Word} {p : Bool} : Answers s₀ (Machine.execHardRelock w p s) := .next h.cmdRow

theorem Keeps.hardLock (h : Keeps s₀ s) {l : LockInfo} : Keeps s₀ (s.hardLock l) := by
  unfold State.hardLock
  extract_lets k s1 s2
  have hs1 : Keeps s₀ s1 := h.lockAt
  have hs2 : Keeps s₀ s2 := Keeps.ite hs1.bump hs1.relocked
  exact hs2.relockedRec.pllIdle

theorem Keeps.execHardRelockLock (h : Keeps s₀ s) {l : LockInfo} : Answers s₀ (Machine.execHardRelockLock l s) :=
  .ite (.next h.hardLock.noteLevels) (.next h)

theorem Keeps.pennantsOff (h : Keeps s₀ s) : Keeps s₀ s.pennantsOff := h.frame rfl rfl

theorem Keeps.mirrorFault (h : Keeps s₀ s) {src code : Nat} : Keeps s₀ (s.mirrorFault src code) := h.frame.driveOutEn.mirSend

theorem Keeps.faultStopAll (h : Keeps s₀ s) : Keeps s₀ s.faultStopAll := by
  unfold State.faultStopAll
  extract_lets act s1
  have hs1 : Keeps s₀ s1 := h.foldl fun _ _ ht => ht.faultStop.raise
  cases act with
  | nil => exact hs1
  | cons _ _ => exact hs1.endHeat

theorem Keeps.deviceFault (h : Keeps s₀ s) {src code unit detail : Nat} : Keeps s₀ (s.deviceFault src code unit detail) :=
  h.calAbort.allToHold.pennantsOff.log.faultStopAll.mirrorFault

theorem Keeps.unlock (h : Keeps s₀ s) {err : Int} : Keeps s₀ (s.unlock err) := by
  unfold State.unlock
  extract_lets s' s0 s1
  have hs0 : Keeps s₀ s0 := h.frame
  have hs1 : Keeps s₀ s1 := hs0.raise.deviceFault
  exact Keeps.ite hs1.retune hs1

theorem Keeps.execUnlock (h : Keeps s₀ s) {phaseErr : Int} : Answers s₀ (Machine.execUnlock phaseErr s) :=
  .ite (.next h.unlock.noteLevels) (.next h)

theorem Keeps.execFaultRelock (h : Keeps s₀ s) {l : LockInfo} : Answers s₀ (Machine.execFaultRelock l s) :=
  .ite (.next h.lockAt.bump.relockedRec.pllIdle.noteLevels) (.next h)

theorem Keeps.execRefSelWrite (h : Keeps s₀ s) {w : Word} {p : Bool} : Answers s₀ (Machine.execRefSelWrite w p s) :=
  .next h.writeRow

theorem Keeps.starterAim (h : Keeps s₀ s) {phase ref : Nat} : Keeps s₀ (s.starterAim phase ref).2 := by
  unfold State.starterAim
  extract_lets n c align r sl
  split
  · split
    · exact h.put
    · split
      · exact h.allToHold.outsBack.put.bump
      · exact h.put.raise
  · exact h.put

theorem Keeps.starterEdge (h : Keeps s₀ s) {phase ref : Nat} : Keeps s₀ (s.starterEdge phase ref) := by
  unfold State.starterEdge
  extract_lets s0 c
  have hs0 : Keeps s₀ s0 := by
    unfold s0
    split
    · exact Keeps.ite h.startTick h
    · exact h
  split
  · exact hs0.raise
  · split
    rename_i t s1 e
    have hs1 : Keeps s₀ s1 := by
      have k : Keeps s₀ (s0.starterAim phase ref).2 := hs0.starterAim
      rw [e] at k
      exact k
    extract_lets s2 s3
    have hs3 : Keeps s₀ s3 := hs1.put.put.raise.setSel.event
    exact hs3.frame

theorem Keeps.execStarterEdge (h : Keeps s₀ s) {phase : BitVec 9} {refPhase : BitVec 14} {missed : Bool} :
    Answers s₀ (Machine.execStarterEdge phase refPhase missed s) :=
  .ite (.next h.starterEdge) (.next h)

theorem Keeps.execStartTick (h : Keeps s₀ s) : Answers s₀ (Machine.execStartTick s) :=
  .ite (.next h.startTick.noteLevels) (.next h)

theorem Keeps.execLoadNow (h : Keeps s₀ s) {w : Word} {p : Bool} : Answers s₀ (Machine.execLoadNow w p s) := .next h.cmdRow

theorem Keeps.fireAlarm (h : Keeps s₀ s) {a : Nat} : Keeps s₀ (s.fireAlarm a) := by
  unfold State.fireAlarm
  extract_lets per s1 s'
  have hs1 : Keeps s₀ s1 := h.eventNow.pulseSrc
  exact Keeps.ite hs1.frame hs1.setSel

theorem Keeps.alarm (h : Keeps s₀ s) {a : Nat} : Keeps s₀ (s.alarm a) := Keeps.ite h h.passTo.fireAlarm

theorem Keeps.execAlarm (h : Keeps s₀ s) {a : Fin 8} : Answers s₀ (Machine.execAlarm a s) := .ite (.next h.alarm) (.next h)

theorem Keeps.triggerEdge (h : Keeps s₀ s) {m : Nat} {high : Bool} {phase held : Nat} {at7 : Bool} :
    Keeps s₀ (s.triggerEdge m high phase held at7) :=
  Keeps.ite h (Keeps.ite h h.tiAccept)

theorem Keeps.execTriggerEdge (h : Keeps s₀ s) {ti : Fin 16} {high : Bool} {phase : BitVec 9} {stay : Stay} :
    Answers s₀ (Machine.execTriggerEdge ti high phase stay s) :=
  .ite (.next h.triggerEdge) (.next h)

theorem Keeps.execEvtSwPulse (h : Keeps s₀ s) {hi : Bool} {w : Word} {p : Bool} : Answers s₀ (Machine.execEvtSwPulse hi w p s) :=
  .next h.writeRow

theorem Keeps.execEvtSwLevel (h : Keeps s₀ s) {hi : Bool} {w : Word} {p : Bool} : Answers s₀ (Machine.execEvtSwLevel hi w p s) :=
  .next h.writeRow

theorem Keeps.eventHop (h : Keeps s₀ s) {c : Nat} : Keeps s₀ (s.eventHop c) := by
  unfold State.eventHop
  split
  · exact h
  · extract_lets drop s1 s1_1 s2
    have hs1 : Keeps s₀ s1 := h.arrive
    have hs1_1 : Keeps s₀ s1_1 := by
      unfold s1_1
      split
      · exact hs1.applySw
      · exact hs1
    have hs2 : Keeps s₀ s2 := hs1_1.setFc
    exact Keeps.ite (Keeps.ite hs1.setFc.raise hs2.applySw) (Keeps.ite h h.setFc)

theorem Keeps.execEventHop (h : Keeps s₀ s) {fc : Fin 64} : Answers s₀ (Machine.execEventHop fc s) :=
  .ite (.next h.eventHop) (.next h)

theorem Keeps.toPn (h : Keeps s₀ s) {f : PnEv} : Keeps s₀ (s.toPn f) := Keeps.ite h.arrive h.passTo

theorem Keeps.pennantFire (h : Keeps s₀ s) {pn : Nat} : Keeps s₀ (s.pennantFire pn) := by
  unfold State.pennantFire
  split
  · exact h
  · split
    · exact h
    · split
      · exact h.frame
      · extract_lets s1 busy s2 s3 s'
        have hs1 : Keeps s₀ s1 := h.toPn.bump
        have hs2 : Keeps s₀ s2 := Keeps.ite hs1.bump hs1
        have hs3 : Keeps s₀ s3 := Keeps.ite hs2.raise hs2
        exact hs3.frame

theorem Keeps.execPennantFire (h : Keeps s₀ s) {pn : Fin 32} : Answers s₀ (Machine.execPennantFire pn s) :=
  .ite (.next h.pennantFire) (.next h)

theorem Keeps.pennantEnd (h : Keeps s₀ s) {pn : Nat} : Keeps s₀ (s.pennantEnd pn) := by
  unfold State.pennantEnd
  split
  · exact h
  · split
    · exact h
    · extract_lets s1 s'
      have hs1 : Keeps s₀ s1 := h.toPn
      exact hs1.frame

theorem Keeps.execPennantPulseEnd (h : Keeps s₀ s) {pn : Fin 32} : Answers s₀ (Machine.execPennantPulseEnd pn s) :=
  .ite (.next h.pennantEnd) (.next h)

theorem Keeps.execEvqLostRecord (h : Keeps s₀ s) : Answers s₀ (Machine.execEvqLostRecord s) := .ite (.next h.evLost) (.next h)

theorem Keeps.eccRow (h : Keeps s₀ s) {a : Nat} {r : BusRead} {corrected uncorr : Bool} :
    Keeps s₀ (s.eccRow a r corrected uncorr) :=
  h.busRow

theorem Keeps.readRow (h : Keeps s₀ s) {a : Nat} {r : BusRead} : Keeps s₀ (s.readRow a r) := h.eccRow

theorem Keeps.upset (h : Keeps s₀ s) {i : Nat} {mism : Bool} : Keeps s₀ (s.upset i mism) := Keeps.ite h.frame h

theorem Keeps.execEvqRead (h : Keeps s₀ s) {p : BusRead} {mism : Bool} : Answers s₀ (Machine.execEvqRead p mism s) :=
  .next h.upset.readRow

theorem Keeps.execStart (h : Keeps s₀ s) {w : Word} {p : Bool} : Answers s₀ (Machine.execStart w p s) := .next h.cmdRow

theorem Keeps.execHeatStart (h : Keeps s₀ s) : Answers s₀ (Machine.execHeatStart s) :=
  .ite (.next h.heatStart.noteLevels) (.next h)

theorem Keeps.execPause (h : Keeps s₀ s) {w : Word} {p : Bool} : Answers s₀ (Machine.execPause w p s) := .next h.cmdRow

theorem Keeps.execResume (h : Keeps s₀ s) {w : Word} {p : Bool} : Answers s₀ (Machine.execResume w p s) := .next h.cmdRow

theorem Keeps.pauseSeen (h : Keeps s₀ s) : Keeps s₀ s.pauseSeen := by
  unfold State.pauseSeen
  extract_lets s' s0 s1 s'_1
  have hs0 : Keeps s₀ s0 := h.frame
  have hs1 : Keeps s₀ s1 := hs0.foldl (fun _ _ ht => Keeps.ite ht.hopEvent ht)
  exact hs1.frame.foldl (fun _ _ ht => Keeps.ite ht.immediate ht)

theorem Keeps.backDrive (h : Keeps s₀ s) {p : Nat} : Keeps s₀ (s.backDrive p) := Keeps.ite h h.put

theorem Keeps.backDrives (h : Keeps s₀ s) {n : Nat} : Keeps s₀ (s.backDrives n) := h.foldl (fun _ _ ht => ht.backDrive)

theorem Keeps.resumption (h : Keeps s₀ s) : Keeps s₀ s.resumption := by
  unfold State.resumption
  split
  · exact h
  · split
    · exact h
    · extract_lets s0 s1 gap k1 s' s'_1 s2 s3 run
      have hs0 : Keeps s₀ s0 := Keeps.ite h.startTick h
      have hs1 : Keeps s₀ s1 := hs0.passTo
      have hs2 : Keeps s₀ s2 := hs1.frame
      have hs3 : Keeps s₀ s3 := hs2.put.put
      refine Keeps.pauseSeen ?_
      refine hs3.foldl fun t x ht => ?_
      extract_lets s'_2 u1 u2 u3 u4
      have hu1 : Keeps s₀ u1 := ht.put.setSq
      have hu2 : Keeps s₀ u2 := hu1.foldl (fun _ _ hu => Keeps.ite hu.setFc hu)
      have hu3 : Keeps s₀ u3 := Keeps.ite hu2.playOuts hu2
      have hu4 : Keeps s₀ u4 := Keeps.ite hu3.backDrives hu3
      exact hu4.event

theorem Keeps.execResumption (h : Keeps s₀ s) : Answers s₀ (Machine.execResumption s) :=
  .ite (.next h.resumption.noteLevels) (.next h)

theorem Keeps.execAbort (h : Keeps s₀ s) {w : Word} {p : Bool} : Answers s₀ (Machine.execAbort w p s) := .next h.cmdRow

theorem Keeps.execCmdqWordWrite (h : Keeps s₀ s) {n : Fin 8} {w : Word} {p mism : Bool} :
    Answers s₀ (Machine.execCmdqWordWrite n w p mism s) :=
  .next h.upset.writeRow

theorem Keeps.nextTake (h : Keeps s₀ s) {n : Nat} : Keeps s₀ (s.nextTake n) := by
  unfold State.nextTake
  extract_lets s1 s'
  have hs1 : Keeps s₀ s1 := Keeps.ite h.advance h
  exact hs1.frame

theorem Keeps.cmdDone (h : Keeps s₀ s) {n : Nat} {c : Cmd} {st : Nat} : Keeps s₀ (s.cmdDone n c st) :=
  (Keeps.ite h h.raise).wr.eventNow

theorem Keeps.takeCmd (h : Keeps s₀ s) {n op : Nat} {legal : State → Bool} {act : State → Cmd → State}
    (ha : ∀ t c, Keeps s₀ t → Keeps s₀ (act t c)) : Keeps s₀ (s.takeCmd n op legal act) := by
  unfold State.takeCmd
  split
  · exact h
  · split
    · exact h
    · extract_lets s' s0
      have hs0 : Keeps s₀ s0 := h.nextTake.leave.ptrCheck.leaderDelay
      exact Keeps.ite hs0.cmdDone (Keeps.ite hs0.cmdDone (Keeps.ite hs0.cmdDone (ha _ _ hs0).cmdDone))

theorem Keeps.stopAct (h : Keeps s₀ s) {n : Nat} {c : Cmd} : Keeps s₀ (State.stopAct n s c) := by
  unfold State.stopAct
  extract_lets hold q
  split
  · exact h.addDec
  · exact h.setSq
  · split
    · exact h
    · exact h.setSq

theorem Keeps.execStop (h : Keeps s₀ s) {n : Fin 8} : Answers s₀ (Machine.execStop n s) :=
  .next (h.takeCmd (fun _ _ ht => ht.stopAct))

theorem Keeps.applyIf (h : Keeps s₀ s) {n : Nat} {p : Dec → Bool} : Keeps s₀ (s.applyIf n p) := by
  unfold State.applyIf
  split
  · exact Keeps.ite h.applyFirst.noteLevels h
  · exact h

theorem Keeps.execStopTakesEffect (h : Keeps s₀ s) {n : Fin 8} : Answers s₀ (Machine.execStopTakesEffect n s) := .next h.applyIf

theorem Keeps.latchClrAct (h : Keeps s₀ s) {n : Nat} {c : Cmd} : Keeps s₀ (State.latchClrAct n s c) :=
  h.foldl (fun _ _ ht => ht.put)

theorem Keeps.execLatchClr (h : Keeps s₀ s) {n : Fin 8} : Answers s₀ (Machine.execLatchClr n s) :=
  .next (h.takeCmd (fun _ _ ht => ht.latchClrAct))

theorem Keeps.holdExit (h : Keeps s₀ s) {n k cause : Nat} : Keeps s₀ (s.holdExit n k cause) := by
  unfold State.holdExit
  extract_lets q
  split
  · exact h
  · exact Keeps.ite h h.setSq.decideFallback

theorem Keeps.resumeAt (h : Keeps s₀ s) {n : Nat} {h' : Hold} {r : Nat} : Keeps s₀ (s.resumeAt n h' r) :=
  h.setSq.prepGroup.addDec.takeTail.holdPrep

theorem Keeps.holdReady (h : Keeps s₀ s) {n : Nat} : Keeps s₀ (s.holdReady n) := by
  unfold State.holdReady
  extract_lets q y r
  split
  · exact h
  · exact Keeps.ite h h.mirDecision.resumeAt

theorem Keeps.holdEndAct (h : Keeps s₀ s) {n : Nat} {x2 : Cmd} : Keeps s₀ (State.holdEndAct n s x2) := h.holdReady.holdExit

theorem Keeps.execHoldEnd (h : Keeps s₀ s) {n : Fin 8} : Answers s₀ (Machine.execHoldEnd n s) :=
  .next (h.takeCmd (fun _ _ ht => ht.holdEndAct))

theorem Keeps.execMark (h : Keeps s₀ s) {n : Fin 8} : Answers s₀ (Machine.execMark n s) := .next (h.takeCmd (fun _ _ ht => ht))

theorem Keeps.execCommitDecision (h : Keeps s₀ s) {n : Fin 8} : Answers s₀ (Machine.execCommitDecision n s) :=
  .ite (.next h.commit.noteLevels) (.next h)

theorem Keeps.execExchange (h : Keeps s₀ s) {n : Fin 8} : Answers s₀ (Machine.execExchange n s) := .next h.applyIf

theorem Keeps.execLapEnd (h : Keeps s₀ s) {n : Fin 8} : Answers s₀ (Machine.execLapEnd n s) := .next h.applyIf

theorem Keeps.execFallback (h : Keeps s₀ s) {n : Fin 8} : Answers s₀ (Machine.execFallback n s) := .next h.applyIf

theorem Keeps.execHoldReady (h : Keeps s₀ s) {n : Fin 8} : Answers s₀ (Machine.execHoldReady n s) :=
  .ite (.next h.holdReady) (.next h)

theorem Keeps.execHoldResume (h : Keeps s₀ s) {n : Fin 8} : Answers s₀ (Machine.execHoldResume n s) := .next h.applyIf

theorem Keeps.execHoldLimit (h : Keeps s₀ s) {n : Fin 8} : Answers s₀ (Machine.execHoldLimit n s) := by
  unfold Machine.execHoldLimit
  split
  · exact .next h
  · exact .ite (.next h.arrive.holdReady.holdExit) (.next h)

theorem Keeps.gapBegin (h : Keeps s₀ s) {n j h' count : Nat} : Keeps s₀ (s.gapBegin n j h' count) := by
  unfold State.gapBegin
  extract_lets s1 s'
  have hs1 : Keeps s₀ s1 := by
    unfold s1
    split
    · exact h.captureFine
    · exact h
  exact hs1.setSq

theorem Keeps.underrun (h : Keeps s₀ s) {n lane missing : Nat} : Keeps s₀ (s.underrun n lane missing) := by
  unfold State.underrun
  split
  · exact h
  · exact Keeps.ite h.fineNow.gapBegin.raise.sqRec.pulseSrc h

theorem Keeps.execUnderrun (h : Keeps s₀ s) {n : Fin 8} {lane : BitVec 8} {missing : Nat} :
    Answers s₀ (Machine.execUnderrun n lane missing s) :=
  .next h.underrun

theorem Keeps.seqFault (h : Keeps s₀ s) {n word : Nat} {dir : Bool} : Keeps s₀ (s.seqFault n word dir) := by
  unfold State.seqFault
  extract_lets s1 s2 s3
  have hs1 : Keeps s₀ s1 := h.raise.put
  have hs2 : Keeps s₀ s2 := hs1.faultStop.raise.log
  have hs3 : Keeps s₀ s3 := hs2.mirrorFault
  exact Keeps.ite hs3.endHeat hs3

theorem Keeps.execSeqEcc (h : Keeps s₀ s) {n : Fin 8} {word : Word} {dir : Bool} : Answers s₀ (Machine.execSeqEcc n word dir s) :=
  .ite (.next h.seqFault.noteLevels) (.next h)

theorem Keeps.execLateWake (h : Keeps s₀ s) {d : BitVec 6} {firstUse : Nat} : Answers s₀ (Machine.execLateWake d firstUse s) :=
  .ite (.next h.arrive.event) (.next h)

theorem Keeps.execWakeRecord (h : Keeps s₀ s) : Answers s₀ (Machine.execWakeRecord s) := by
  unfold Machine.execWakeRecord
  split
  · exact .next h
  · split
    · extract_lets s1 s'
      have hs1 : Keeps s₀ s1 := h.arrive
      exact .next hs1.frame.runWake
    · exact .next h

theorem Keeps.execCrsRead (h : Keeps s₀ s) {w : Word} {p : Bool} : Answers s₀ (Machine.execCrsRead w p s) := .next h.cmdRow

theorem Keeps.execCrsWrite (h : Keeps s₀ s) {w : Word} {p : Bool} : Answers s₀ (Machine.execCrsWrite w p s) := .next h.cmdRow

theorem Keeps.execSegdRead (h : Keeps s₀ s) {w : Word} {p : Bool} : Answers s₀ (Machine.execSegdRead w p s) := .next h.cmdRow

theorem Keeps.execSetReady (h : Keeps s₀ s) {w : Word} {p : Bool} : Answers s₀ (Machine.execSetReady w p s) := .next h.cmdRow

theorem Keeps.execClrReady (h : Keeps s₀ s) {w : Word} {p : Bool} : Answers s₀ (Machine.execClrReady w p s) := .next h.cmdRow

theorem Keeps.execSegwRead (h : Keeps s₀ s) {p : BusRead} : Answers s₀ (Machine.execSegwRead p s) := .next h.readRow

theorem Keeps.execSegwWrite (h : Keeps s₀ s) {w : Word} {p : Bool} : Answers s₀ (Machine.execSegwWrite w p s) := .next h.writeRow

theorem Keeps.execLoad (h : Keeps s₀ s) {w : Word} {p : Bool} : Answers s₀ (Machine.execLoad w p s) := .next h.cmdRow

theorem Keeps.passReady (h : Keeps s₀ s) : Keeps s₀ s.passReady := by
  unfold State.passReady
  extract_lets s1
  have hs1 : Keeps s₀ s1 := h.dramReach
  exact Keeps.ite hs1 (hs1.foldl (fun _ _ ht => ht.channelWake))

theorem Keeps.copyAll {α : Type} {bad : State → α → Bool} {f : State → α → State} {l : List α} (h : Keeps s₀ s)
    (hf : ∀ t x, Keeps s₀ t → Keeps s₀ (f t x)) : Keeps s₀ (Machine.copyAll bad f l s).1 := by
  induction l generalizing s with
  | nil => exact h
  | cons x xs ih =>
    unfold Machine.copyAll
    split
    · exact h
    · exact ih (hf s x h)

theorem Keeps.copyBlock (h : Keeps s₀ s) {r : StgRec} : Keeps s₀ (s.copyBlock r) := h.foldl (fun _ _ ht => ht.trackPut)

theorem Keeps.loaderBanks (h : Keeps s₀ s) {a n : Nat} : Keeps s₀ (s.loaderBanks a n) :=
  h.foldl (fun _ _ ht => Keeps.ite ht.bankAwake ht)

theorem Keeps.loadBlocks (h : Keeps s₀ s) : Keeps s₀ s.loadBlocks.1 :=
  (h.copyAll fun _ _ ht => ht.loaderBanks.copyBlock).foldl fun _ _ ht => ht.setSq

theorem Keeps.writeCrc (h : Keeps s₀ s) {b : List Byte} {t : Nat} : Keeps s₀ (s.writeCrc b t) := by
  unfold State.writeCrc
  extract_lets done s1 s2 s3 s4
  have hs1 : Keeps s₀ s1 := Keeps.ite h.placeEvents h
  have hs2 : Keeps s₀ s2 := Keeps.ite hs1.placePens hs1
  have hs3 : Keeps s₀ s3 := Keeps.ite hs2.placeProfs hs2
  have hs4 : Keeps s₀ s4 := Keeps.ite hs3.place.loadBlocks hs3
  exact hs4.writeFail

theorem Keeps.loadTm (h : Keeps s₀ s) {b : List Byte} : Keeps s₀ (s.loadTm b).1 :=
  h.copyAll fun _ _ ht => ht.loaderBanks.trackPut

theorem Keeps.loadedPlan (h : Keeps s₀ s) {b : List Byte} : Keeps s₀ (s.loadedPlan b) :=
  (h.foldl (fun _ _ ht => ht.put)).put.put.wr.setSel.put.put.put.raise.loaderBanks.eventNow.loaderIdle.setPstate.sendIdent

theorem Keeps.writePass (h : Keeps s₀ s) : Keeps s₀ s.writePass := by
  unfold State.writePass
  extract_lets b
  split
  · exact h.writeCrc
  · split
    rename_i s2 ok e
    have hs2 : Keeps s₀ s2 := by
      have k : Keeps s₀ (s.place b).loadBlocks.1 := h.place.loadBlocks
      rw [e] at k
      exact k
    split
    rename_i s3 ok' e'
    have hs3 : Keeps s₀ s3 := by
      split at e'
      · have k : Keeps s₀ (s2.loadTm b).1 := hs2.loadTm
        rw [e'] at k
        exact k
      · cases e'
        exact hs2
    exact Keeps.ite hs3.loadedPlan hs3.raise.writeFail

theorem Keeps.execWritePass (h : Keeps s₀ s) : Answers s₀ (Machine.execWritePass s) := by
  unfold Machine.execWritePass
  split
  · extract_lets s1
    have hs1 : Keeps s₀ s1 := h.passReady
    exact .next (Keeps.ite hs1 hs1.writePass.noteLevels)
  · exact .next h

theorem Keeps.execUnload (h : Keeps s₀ s) {w : Word} {p : Bool} : Answers s₀ (Machine.execUnload w p s) := .next h.cmdRow

theorem Keeps.rowWants (h : Keeps s₀ s) {h0 : Nat} : Keeps s₀ (s.rowWants h0) := by
  unfold State.rowWants
  extract_lets stop s1 s'
  have hs1 : Keeps s₀ s1 := h.foldl (fun _ _ ht => Keeps.ite ht.setSq ht)
  exact hs1.frame

theorem Keeps.closeSpan (h : Keeps s₀ s) {b : Nat} : Keeps s₀ (s.closeSpan b) := by
  unfold State.closeSpan
  extract_lets c
  split
  · exact h
  · exact h.setCapt

theorem Keeps.loseTicks (h : Keeps s₀ s) {b k cause : Nat} : Keeps s₀ (s.loseTicks b k cause) := h.setCapt.raise.raise.addTo

theorem Keeps.yieldRungs (h : Keeps s₀ s) {hi lo c k : Nat} : Keeps s₀ (s.yieldRungs hi lo c k) := h.yieldOn

theorem Keeps.fenceYield (h : Keeps s₀ s) {a : Nat} : Keeps s₀ (s.fenceYield a) := by
  unfold State.fenceYield
  split
  · exact h.yieldRungs
  · exact h

theorem Keeps.loseTick (h : Keeps s₀ s) {b cause : Nat} : Keeps s₀ (s.loseTick b cause) := by
  unfold State.loseTick
  extract_lets s1
  have hs1 : Keeps s₀ s1 := h.closeSpan.loseTicks
  exact Keeps.ite hs1.raise (Keeps.ite hs1.fenceYield hs1)

theorem Keeps.lostRec (h : Keeps s₀ s) {b : Nat} : Keeps s₀ (s.lostRec b) := Keeps.ite h h.eventNow.setCapt

theorem Keeps.keepTick (h : Keeps s₀ s) {b h' f e : Nat} {two : Bool} {bytes : List Byte} :
    Keeps s₀ (s.keepTick b h' f e two bytes) := by
  unfold State.keepTick
  extract_lets c x s' s'_1 s1 c_1
  have hs' : Keeps s₀ s' := h.lostRec
  have hs1 : Keeps s₀ s1 := by
    unfold s1
    split
    · exact h
    · exact hs'.setCapt
  split
  · exact hs1
  · extract_lets data full c1 s2
    have hs2 : Keeps s₀ s2 := hs1.setCapt
    exact Keeps.ite hs2.closeSpan hs2

theorem Keeps.captTick {s0 : State} (h : Keeps s₀ s0) {b h' : Nat} {l : List CaptTick} : Keeps s₀ (s0.captTick b h' l) := by
  unfold State.captTick
  extract_lets s n two st
  have hs : Keeps s₀ s := Keeps.ite h.closeSpan h
  split
  · exact hs.closeSpan
  · extract_lets s1
    have hs1 : Keeps s₀ s1 := by
      unfold s1
      split
      · exact Keeps.ite hs hs.closeSpan
      · exact hs
    split
    · exact hs1.closeSpan
    · split
      · exact hs1.loseTick
      · exact hs1.keepTick

theorem Keeps.captUp (h : Keeps s₀ s) {b upTo : Nat} {l : List CaptTick} : Keeps s₀ (s.captUp b upTo l) := by
  unfold State.captUp
  extract_lets from' s1 s'
  have hs1 : Keeps s₀ s1 := h.foldl (fun _ _ ht => ht.captTick)
  exact Keeps.ite hs1.setCapt hs1

theorem Keeps.refresh (h : Keeps s₀ s) {c : Nat} : Keeps s₀ (s.refresh c) := h.setDch

theorem Keeps.forceRefresh (h : Keeps s₀ s) {c : Nat} : Keeps s₀ (s.forceRefresh c) := h.refresh.bump.raise.eventNow.yieldRungs

theorem Keeps.owe (h : Keeps s₀ s) {c : Nat} : Keeps s₀ (s.owe c) := Keeps.ite h.forceRefresh h.setDch

theorem Keeps.rowRefresh (h : Keeps s₀ s) {row c : Nat} {wait : Bool} : Keeps s₀ (s.rowRefresh row c wait) :=
  (h.foldl (fun _ _ ht => Keeps.ite ht.owe ht.refresh)).setDch.foldl (fun _ _ ht => ht.owe)

theorem Keeps.serve (h : Keeps s₀ s) {n c p a : Nat} : Keeps s₀ (s.serve n c p a) := Keeps.ite h h.setSq

theorem Keeps.serveUp (h : Keeps s₀ s) {n c k : Nat} : Keeps s₀ (s.serveUp n c k).1 := by
  unfold State.serveUp
  extract_lets p a
  exact h.serve

theorem Keeps.serveHeld (h : Keeps s₀ s) {c u : Nat} {d : RowDemand} : Keeps s₀ (s.serveHeld c u d) :=
  List.foldlRecOn (motive := fun x : State × Nat => Keeps s₀ x.1) _ _ h fun _ hx _ _ => hx.serveUp

theorem Keeps.serveAll (h : Keeps s₀ s) {c k : Nat} {ok : Nat → Bool} : Keeps s₀ (s.serveAll c k ok) :=
  List.foldlRecOn (motive := fun x : State × Nat => Keeps s₀ x.1) _ _ h fun _ hx _ _ => hx.serveUp

theorem Keeps.rowServe (h : Keeps s₀ s) {row c p u : Nat} {d : RowDemand} : Keeps s₀ (s.rowServe row c p u d) :=
  (h.foldl (fun _ _ ht => ht.serve)).serveAll.serveHeld

theorem Keeps.rowChannel (h : Keeps s₀ s) {row c capw : Nat} {d : RowDemand} : Keeps s₀ (s.rowChannel row c capw d).1 := by
  unfold State.rowChannel
  extract_lets rt retr asked spare sw panic unplanned wait s2 open0 p1 tRfl tCapr tCapw s3 u wantR r wantI i g top s4 s5 s6 left s7
  have hspare : ∀ t k, Keeps s₀ t → Keeps s₀ (spare t k) := fun t k ht => ht.frame
  have hsw : Keeps s₀ sw := Keeps.ite h.channelWake h
  have hs2 : Keeps s₀ s2 := hsw.rowRefresh
  split
  · exact hspare _ _ hsw
  · split
    · exact hspare _ _ hs2.yieldRungs.yieldRungs.yieldRungs.yieldRungs
    · have hs5 : Keeps s₀ s5 := hs2.yieldRungs.yieldRungs.yieldRungs.yieldRungs.yieldRungs
      have hs7 : Keeps s₀ s7 := hs5.yieldRungs.yieldRungs.yieldRungs
      exact hspare _ _ hs7.rowServe

theorem Keeps.splitSpan (h : Keeps s₀ s) {b k lost : Nat} : Keeps s₀ (s.splitSpan b k lost) := by
  unfold State.splitSpan
  extract_lets c
  split
  · exact h.loseTicks
  · extract_lets per s1 s2 left c2 y s3 s'
    have hs1 : Keeps s₀ s1 := Keeps.ite h.setCapt h.setCapt.closeSpan
    have hs2 : Keeps s₀ s2 := hs1.loseTicks
    have hs3 : Keeps s₀ s3 := hs2.lostRec
    exact Keeps.ite hs2 (Keeps.ite hs2.setCapt.loseTicks hs3.setCapt)

theorem Keeps.loseGran (h : Keeps s₀ s) {b g k : Nat} : Keeps s₀ (s.loseGran b g k) := by
  unfold State.loseGran
  extract_lets a
  split
  · exact h.splitSpan.fenceYield
  · exact h.loseTicks.fenceYield

theorem Keeps.granWrite (h : Keeps s₀ s) {b g k : Nat} {d : List Byte} : Keeps s₀ (s.granWrite b g k d) := by
  unfold State.granWrite
  extract_lets a
  split
  · exact h.channelWake.dramPut
  · exact h.loseGran

theorem Keeps.ringPut (h : Keeps s₀ s) {b : Nat} : Keeps s₀ (s.ringPut b) := by
  unfold State.ringPut
  extract_lets c size
  split
  · exact h
  · extract_lets s1 s2 l
    have hs1 : Keeps s₀ s1 := h.setCapt.granWrite
    have hs2 : Keeps s₀ s2 := hs1.put
    exact Keeps.ite hs2.raise.bump.eventNow hs2

theorem Keeps.captDrain {b k : Nat} {left : Sp Nat} (h : Keeps s₀ s) : Keeps s₀ (State.captDrain b k (s, left)).1 := by
  induction k generalizing s left with
  | zero => exact h
  | succ k ih =>
    unfold State.captDrain
    split
    · exact h
    · split
      · exact ih h.ringPut
      · extract_lets n
        split
        · exact h
        · exact ih h.ringPut

theorem Keeps.yieldsOf (h : Keeps s₀ s) {l : List YieldReport} : Keeps s₀ (s.yieldsOf l) := h.foldl (fun _ _ ht => ht.yieldOn)

theorem Keeps.timelineRow (h : Keeps s₀ s) {r : RowReport} : Keeps s₀ (s.timelineRow r) := by
  unfold State.timelineRow
  extract_lets row s0 s1 chs
  have hs0 : Keeps s₀ s0 := h.arrive.rowWants
  have hs1 : Keeps s₀ s1 := hs0.foldl fun _ _ ht => Keeps.ite ht.captUp ht.setCapt
  clear_value s1 chs
  split
  rename_i s3 left e
  have hs3 : Keeps s₀ (s3, left).1 := by
    rw [← e]
    refine Keeps.foldl_fst (x := (s1, [])) hs1 fun x c hx => ?_
    split
    rename_i u k e'
    have hu : Keeps s₀ (u, k).1 := by
      rw [← e']
      exact hx.rowChannel
    exact hu
  extract_lets s4 s'
  have hs4 : Keeps s₀ s4 := Keeps.foldl_fst hs3 fun _ _ hx => hx.captDrain
  have hs' : Keeps s₀ s' := hs4.yieldsOf
  exact hs'.frame

theorem Keeps.execTimelineRow (h : Keeps s₀ s) {r : RowReport} : Answers s₀ (Machine.execTimelineRow r s) :=
  .ite (.next h.timelineRow.settle.noteLevels) (.next h)

theorem Keeps.blockIn (h : Keeps s₀ s) {n i : Nat} : Keeps s₀ (s.blockIn n i) := h.setSq

theorem Keeps.wakeBanks (h : Keeps s₀ s) {a n : Nat} : Keeps s₀ (s.wakeBanks a n) :=
  Keeps.ite h (h.foldl (fun _ _ ht => ht.wakeBank))

theorem Keeps.prefetch (h : Keeps s₀ s) {n i : Nat} : Keeps s₀ (s.prefetch n i) := by
  unfold State.prefetch
  split
  · exact h
  · exact Keeps.ite h ((((h.foldl (fun _ _ ht => ht.channelWake)).wakeBanks).copyBlock).blockIn)

theorem Keeps.execBlockCopyDone (h : Keeps s₀ s) {n : Fin 8} : Answers s₀ (Machine.execBlockCopyDone n s) := by
  unfold Machine.execBlockCopyDone
  split
  · exact .next h
  · exact .ite (.next h.prefetch) (.next h)

theorem Keeps.lateCopy (h : Keeps s₀ s) {n : Nat} : Keeps s₀ (s.lateCopy n) := by
  unfold State.lateCopy
  extract_lets s0
  have hs0 : Keeps s₀ s0 := h.lateNote
  split
  · exact h
  · split
    · exact hs0
    · split
      · extract_lets s1
        have hs1 : Keeps s₀ s1 := hs0.arrive
        exact Keeps.ite hs1.prefetch hs1
      · exact hs0

theorem Keeps.execLateCopy (h : Keeps s₀ s) {n : Fin 8} : Answers s₀ (Machine.execLateCopy n s) := .next h.lateCopy

theorem Keeps.execFineTrimWrite (h : Keeps s₀ s) {fc : Fin 64} {w : Word} {p : Bool} :
    Answers s₀ (Machine.execFineTrimWrite fc w p s) :=
  .next h.writeRow

theorem Keeps.execBwWrite (h : Keeps s₀ s) {fc : Fin 64} {w : Word} {p : Bool} : Answers s₀ (Machine.execBwWrite fc w p s) :=
  .next h.writeRow

theorem Keeps.execProfileRead (h : Keeps s₀ s) {fc : Fin 64} {w : Word} {p : Bool} :
    Answers s₀ (Machine.execProfileRead fc w p s) :=
  .next h.cmdRow

theorem Keeps.execProfileWrite (h : Keeps s₀ s) {fc : Fin 64} {w : Word} {p : Bool} :
    Answers s₀ (Machine.execProfileWrite fc w p s) :=
  .next h.cmdRow

theorem Keeps.execCalRun (h : Keeps s₀ s) {fc : Fin 64} {w : Word} {p : Bool} : Answers s₀ (Machine.execCalRun fc w p s) :=
  .next h.cmdRow

theorem Keeps.execCalDone (h : Keeps s₀ s) {fc : Fin 64} {gain ofs : Int} : Answers s₀ (Machine.execCalDone fc gain ofs s) :=
  .ite (.next h.setFc.restFc.put.put.raise.put.put.sleepIdle.pllIdle) (.next h)

theorem Keeps.execCalSave (h : Keeps s₀ s) {fc : Fin 64} {w : Word} {p : Bool} : Answers s₀ (Machine.execCalSave fc w p s) :=
  .next h.cmdRow

theorem Keeps.execRbRun (h : Keeps s₀ s) {fc : Fin 64} {w : Word} {p : Bool} : Answers s₀ (Machine.execRbRun fc w p s) :=
  .next h.cmdRow

theorem Keeps.rbDone (h : Keeps s₀ s) {n : Nat} {code : Int} : Keeps s₀ (s.rbDone n code) := by
  unfold State.rbDone
  extract_lets c pass s' s1 s2 s3
  have hs1 : Keeps s₀ s1 := h.setFc.put
  have hs2 : Keeps s₀ s2 := hs1.put.put
  have hs3 : Keeps s₀ s3 := Keeps.ite hs2 hs2.raise.log
  exact hs3.put.sleepIdle.pllIdle

theorem Keeps.execRbDone (h : Keeps s₀ s) {fc : Fin 64} {code : Int} : Answers s₀ (Machine.execRbDone fc code s) :=
  .ite (.next h.rbDone) (.next h)

theorem Keeps.execPinTrimWrite (h : Keeps s₀ s) {vp : Fin 128} {strobe : Bool} {w : Word} {p : Bool} :
    Answers s₀ (Machine.execPinTrimWrite vp strobe w p s) :=
  .next h.writeRow

theorem Keeps.summaryIn (h : Keeps s₀ s) {b : Nat} : Keeps s₀ (s.summaryIn b) := Keeps.ite h h.setCapt

theorem Keeps.failIn (h : Keeps s₀ s) {b n h' mask fails : Nat} : Keeps s₀ (s.failIn b n h' mask fails) := by
  unfold State.failIn
  extract_lets s1 c st s2
  have hs1 : Keeps s₀ s1 := h.summaryIn
  have hs2 : Keeps s₀ s2 := hs1.bump.raise
  exact Keeps.ite hs2.setCapt hs1.setCapt

theorem Keeps.pulseOnce (h : Keeps s₀ s) {src : Nat} : Keeps s₀ (s.pulseOnce src) := h.foldl (fun _ _ ht => Keeps.ite ht.pulse ht)

theorem Keeps.compare (h : Keeps s₀ s) {b h' : Nat} {l : List Strobe} : Keeps s₀ (s.compare b h' l) := by
  unfold State.compare
  extract_lets s0 s1 fs s2 s3 s4
  have hs0 : Keeps s₀ s0 := h.passTo
  have hs1 : Keeps s₀ s1 := by
    unfold s1
    refine hs0.foldl fun t x ht => ?_
    split
    · exact ht.put
    · exact ht
  have hs2 : Keeps s₀ s2 := hs1.foldl (fun _ _ ht => ht.bump.raise)
  have hs3 : Keeps s₀ s3 := hs2.raise
  have hs4 : Keeps s₀ s4 := Keeps.ite (hs3.foldl (fun _ _ ht => Keeps.ite ht ht.failIn)) hs3
  exact Keeps.ite hs1 (Keeps.ite hs4 hs4.pulseOnce.pulseOnce)

theorem Keeps.execCompareReport (h : Keeps s₀ s) {b : Fin 4} {tick : Nat} {strobes : List Strobe} :
    Answers s₀ (Machine.execCompareReport b tick strobes s) :=
  .ite (.next h.compare.noteLevels) (.next h)

theorem Keeps.recEnter (h : Keeps s₀ s) : Keeps s₀ s.recEnter := by
  unfold State.recEnter
  split
  · exact h
  · split
    · exact h
    · extract_lets s1 c r c1 s2 s'
      have hs1 : Keeps s₀ s1 := Keeps.ite h.advance h
      have hs2 : Keeps s₀ s2 := hs1.setCapt.enter
      exact hs2.frame

theorem Keeps.execFailRecordEnter (h : Keeps s₀ s) : Answers s₀ (Machine.execFailRecordEnter s) :=
  .ite (.next h.recEnter) (.next h)

theorem Keeps.execSummary (h : Keeps s₀ s) {b : Fin 4} : Answers s₀ (Machine.execSummary b s) :=
  .ite (.next h.summaryIn) (.next h)

theorem Keeps.ringGo (h : Keeps s₀ s) {b : Nat} : Keeps s₀ (s.ringGo b) := by
  unfold State.ringGo
  split
  · exact h
  · split
    · exact h.ringPut
    · exact Keeps.ite h.channelWake h.ringPut

theorem Keeps.ringFlush (h : Keeps s₀ s) {b : Nat} : Keeps s₀ (s.ringFlush b) := h.foldl (fun _ _ ht => ht.ringGo)

theorem Keeps.spanClose (h : Keeps s₀ s) {b : Nat} {l : List CaptTick} : Keeps s₀ (s.spanClose b l) := by
  unfold State.spanClose
  extract_lets s1 n h_1 goes s2
  have hs1 : Keeps s₀ s1 := h.captUp
  have hs2 : Keeps s₀ s2 := Keeps.ite hs1 hs1.closeSpan
  exact Keeps.ite hs2.ringFlush.lostRec hs2

theorem Keeps.execSpanClose (h : Keeps s₀ s) {b : Fin 4} {capture : List CaptTick} :
    Answers s₀ (Machine.execSpanClose b capture s) :=
  .ite (.next h.spanClose) (.next h)

theorem Keeps.execRingRdWrite (h : Keeps s₀ s) {b : Fin 4} {w : Word} {p : Bool} : Answers s₀ (Machine.execRingRdWrite b w p s) :=
  .next h.writeRow

theorem Keeps.execRingSizeWrite (h : Keeps s₀ s) {b : Fin 4} {w : Word} {p : Bool} :
    Answers s₀ (Machine.execRingSizeWrite b w p s) :=
  .next h.writeRow

theorem Keeps.execCapqRead (h : Keeps s₀ s) {x : CapqLook} : Answers s₀ (Machine.execCapqRead x s) := .next h.eccRow

theorem Keeps.execTrackWindowRead (h : Keeps s₀ s) {p : BusRead} : Answers s₀ (Machine.execTrackWindowRead p s) := .next h.readRow

theorem Keeps.execTrackWindowWrite (h : Keeps s₀ s) {w : Word} {p collide : Bool} :
    Answers s₀ (Machine.execTrackWindowWrite w p collide s) :=
  .ite (.next h.trackWinWrite.noteLevels) (.next h.writeRow)

theorem Keeps.execBankRetention (h : Keeps s₀ s) {m : Fin 512} : Answers s₀ (Machine.execBankRetention m s) := by
  unfold Machine.execBankRetention
  split
  · extract_lets s1
    have hs1 : Keeps s₀ s1 := h.put.put
    exact .next (Keeps.ite hs1.put hs1)
  · exact .next h

theorem Keeps.joinSq (h : Keeps s₀ s) {n : Nat} : Keeps s₀ (s.joinSq n) := by
  unfold State.joinSq
  extract_lets s1
  have hs1 : Keeps s₀ s1 := h.playOuts
  exact Keeps.ite (hs1.foldl (fun _ _ ht => ht.backDrive)) hs1

theorem Keeps.joinAll (h : Keeps s₀ s) : Keeps s₀ s.joinAll :=
  h.fineNow.foldl (fun _ _ ht => Keeps.ite ht (Keeps.ite ht.joinSq ht))

theorem Keeps.bankReady (h : Keeps s₀ s) {m : Nat} : Keeps s₀ (s.bankReady m) := by
  unfold State.bankReady
  split
  · extract_lets s' s1
    have hs1 : Keeps s₀ s1 := h.frame
    exact (Keeps.ite hs1.bankAwake hs1).joinAll
  · split
    · exact h.fineNow.darkLanes
    · exact h.wakeBank

theorem Keeps.execBankWake (h : Keeps s₀ s) {m : Fin 512} : Answers s₀ (Machine.execBankWake m s) :=
  .ite (.next h.bankReady) (.next h)

theorem Keeps.execPanicEntry (h : Keeps s₀ s) {n : Fin 8} {lead : BitVec 16} : Answers s₀ (Machine.execPanicEntry n lead s) :=
  .ite (.next h.raise.bump.raise.eventNow.noteLevels) (.next h)

theorem Keeps.execPanicExit (h : Keeps s₀ s) {n : Fin 8} {lead : Option (BitVec 16)} :
    Answers s₀ (Machine.execPanicExit n lead s) :=
  .ite (.next h.put.eventNow.noteLevels) (.next h)

theorem Keeps.execOwedRefresh (h : Keeps s₀ s) {c : Fin 8} : Answers s₀ (Machine.execOwedRefresh c s) :=
  .ite (.next h.setDch.refresh) (.next h)

theorem Keeps.execRefreshForced (h : Keeps s₀ s) {c : Fin 8} : Answers s₀ (Machine.execRefreshForced c s) :=
  .ite (.next h.forceRefresh) (.next h)

theorem Keeps.tempReport (h : Keeps s₀ s) {c code : Nat} {beyond : Bool} : Keeps s₀ (s.tempReport c code beyond) := by
  unfold State.tempReport
  extract_lets s' s1
  have hs1 : Keeps s₀ s1 := h.put.setDch
  exact Keeps.ite hs1.raise.log hs1

theorem Keeps.execDramTempPoll (h : Keeps s₀ s) {mult : List Nat} {beyond : List Bool} :
    Answers s₀ (Machine.execDramTempPoll mult beyond s) :=
  .ite (.next (h.foldl (fun _ _ ht => ht.tempReport))) (.next h)

theorem Keeps.execSelfRefreshEntry (h : Keeps s₀ s) {c : Fin 8} : Answers s₀ (Machine.execSelfRefreshEntry c s) :=
  .ite (.next h.eventNow.put.sleepDom) (.next h)

theorem Keeps.domFinish (h : Keeps s₀ s) : Keeps s₀ s.domFinish := by
  unfold State.domFinish
  split
  · split
    · extract_lets s1 s'
      have hs1 : Keeps s₀ s1 := h.domStatus.put
      exact hs1.frame
    · exact h
  · exact h

theorem Keeps.portReady (h : Keeps s₀ s) {p : Nat} : Keeps s₀ (s.portReady p) := Keeps.ite h.setAwake.raise h

theorem Keeps.joinOuts (h : Keeps s₀ s) {d : Nat} : Keeps s₀ (s.joinOuts d) := by
  unfold State.joinOuts
  extract_lets s1 s' s2 s3
  have hs1 : Keeps s₀ s1 := h.joinAll
  have hs2 : Keeps s₀ s2 := Keeps.ite hs1.setCapt hs1
  have hs3 : Keeps s₀ s3 := hs2.foldl (fun _ _ ht => ht.put)
  exact Keeps.ite (hs3.foldl (fun _ _ ht => ht.put)) hs2

theorem Keeps.readyOne (h : Keeps s₀ s) {d : Nat} : Keeps s₀ (s.readyOne d) :=
  Keeps.ite h (Keeps.ite (Keeps.ite h.leaveSelfRef h.setAwake) (Keeps.ite h.portReady h.setAwake.joinOuts))

theorem Keeps.groupReady (h : Keeps s₀ s) {d : Nat} : Keeps s₀ (s.groupReady d) :=
  Keeps.ite h ((((h.foldl (fun _ _ ht => ht.readyOne)).domFinish).trySleep).pllIdle)

theorem Keeps.execSelfRefreshExit (h : Keeps s₀ s) {c : Fin 8} : Answers s₀ (Machine.execSelfRefreshExit c s) :=
  .ite (.next (((Keeps.ite h.groupReady h.leaveSelfRef).settle).noteLevels)) (.next h)

theorem Keeps.execPowerDownEntry (h : Keeps s₀ s) {c : Fin 8} : Answers s₀ (Machine.execPowerDownEntry c s) :=
  .ite (.next h.setDch) (.next h)

theorem Keeps.execTrain (h : Keeps s₀ s) {w : Word} {p : Bool} : Answers s₀ (Machine.execTrain w p s) := .next h.cmdRow

theorem Keeps.newLkg (h : Keeps s₀ s) {c : Nat} : Keeps s₀ (s.newLkg c) := by
  unfold State.newLkg
  extract_lets ws s' s'_1
  have hs'_1 : Keeps s₀ s'_1 := h.setDch
  exact hs'_1.frame

theorem Keeps.trained (h : Keeps s₀ s) {c : Nat} : Keeps s₀ (s.trained c) := (Keeps.ite h.leaveSelfRef h).newLkg.put.put.put

theorem Keeps.refuseFetches (h : Keeps s₀ s) {c : Nat} : Keeps s₀ (s.refuseFetches c) :=
  h.foldl (fun _ _ ht => Keeps.ite ht ht.setSq)

theorem Keeps.fenceGaps (h : Keeps s₀ s) {n k c t : Nat} : Keeps s₀ (s.fenceGaps n k c t) := by
  unfold State.fenceGaps
  extract_lets new s1
  have hs1 : Keeps s₀ s1 := h.foldl (fun _ _ ht => ht.gapBegin.raise.sqRec)
  exact Keeps.ite hs1 hs1.pulseSrc

theorem Keeps.fenceSq (h : Keeps s₀ s) {n c : Nat} : Keeps s₀ (s.fenceSq n c) := by
  unfold State.fenceSq
  refine Keeps.ite h ?_
  extract_lets t q now next s1 s2 q' s3 fell
  have hs1 : Keeps s₀ s1 := by
    cases e : now with
    | none => simpa only [s1, e] using h
    | some _ => simpa only [s1, e] using h.fenceGaps
  have hs2 : Keeps s₀ s2 := by
    cases e : next with
    | none => simpa only [s2, e] using hs1
    | some _ => simpa only [s2, e] using hs1.fenceGaps
  have hs3 : Keeps s₀ s3 := hs2.setSq
  clear_value now next
  split
  · exact Keeps.ite hs3 hs3.fallbackOf
  · exact Keeps.ite hs3 hs3.fallbackOf
  · exact hs3

theorem Keeps.fence (h : Keeps s₀ s) {c cause : Nat} : Keeps s₀ (s.fence c cause) := by
  unfold State.fence
  extract_lets s1 s2 s' s3 s4 s5
  have hs1 : Keeps s₀ s1 := h.put.put.put.put
  have hs2 : Keeps s₀ s2 := hs1.put.raise.eventNow.log
  have hs3 : Keeps s₀ s3 := hs2.setDch.yieldRungs
  have hs4 : Keeps s₀ s4 := hs3.refuseFetches.foldl (fun _ _ ht => ht.setSq)
  have hs5 : Keeps s₀ s5 := Keeps.ite (hs4.foldl (fun _ _ ht => ht.fenceSq)) (Keeps.ite hs4 hs4.remap)
  exact hs5.loseChannel

theorem Keeps.remapFree (h : Keeps s₀ s) : Keeps s₀ s.remapFree := Keeps.ite h h.remap

theorem Keeps.trainEnd (h : Keeps s₀ s) {rate : Nat} {ok : List Bool} : Keeps s₀ (s.trainEnd rate ok) :=
  (h.frame.foldl (fun _ _ ht => Keeps.ite ht.trained (Keeps.ite ht ht.fence))).remapFree

theorem Keeps.dramDone (h : Keeps s₀ s) {st : Nat} : Keeps s₀ (s.dramDone st) := by
  unfold State.dramDone
  extract_lets s1 s'
  have hs1 : Keeps s₀ s1 := h.put.put
  exact hs1.frame

/-- What is left of DRAM without a channel's bytes keeps the form where that channel's record alone changes. -/
theorem Sp.wf_offChannel {s t : State} {c : Nat} (h : ∀ b, b ≠ c → t.dch b = s.dch b)
    (w : Sp.wf s.dramDef s.mem.dram = true) :
    Sp.wf t.dramDef (s.mem.dram.filter fun x => decide (x.1 / 2 ^ 34 ≠ c)) = true := by
  obtain ⟨hp, hv⟩ := (Sp.wf_iff _ _).1 w
  rw [Sp.wf_iff]
  refine ⟨hp.filter _, fun x hx => ?_⟩
  obtain ⟨hm, hc⟩ := List.mem_filter.1 hx
  have e : t.dramDef x.1 = s.dramDef x.1 := by
    unfold State.dramDef
    dsimp only
    rw [h _ (of_decide_eq_true hc)]
  rw [e]
  exact hv x hm

theorem Keeps.rewriteReserve (h : Keeps s₀ s) {c : Nat} : Keeps s₀ (s.rewriteReserve c) := by
  unfold State.rewriteReserve
  split
  · exact h
  · extract_lets p top d s1 src rest
    intro w
    obtain ⟨w1, hw⟩ := (Memory.wf_iff s).1 (h w)
    have hrest : Sp.wf s1.dramDef rest = true := Sp.wf_offChannel (s := s) (fun b hb => State.setDch_dch_ne hb) w1
    rw [Memory.wf_iff]
    exact ⟨Sp.wf_foldl src (fun x => x.1) (fun x => x.2) hrest, hw⟩

theorem Keeps.unfenceEnd (h : Keeps s₀ s) {c : Nat} {ok : Bool} : Keeps s₀ (s.unfenceEnd c ok) := by
  unfold State.unfenceEnd
  split
  · extract_lets s1 s2
    have hs1 : Keeps s₀ s1 := h.trained
    have hs2 : Keeps s₀ s2 := Keeps.ite hs1.rewriteReserve hs1
    exact hs2.remapFree.dramDone
  · exact h.eventNow.dramDone

theorem Keeps.execTrainDone (h : Keeps s₀ s) {ok : List Bool} : Answers s₀ (Machine.execTrainDone ok s) := by
  unfold Machine.execTrainDone
  split
  · exact .next h
  · split
    · exact .next h.trainEnd.dramDone.noteLevels
    · exact .next h.unfenceEnd.noteLevels
    · exact .next h

theorem Keeps.execRetrain (h : Keeps s₀ s) {w : Word} {p : Bool} : Answers s₀ (Machine.execRetrain w p s) := .next h.cmdRow

theorem Keeps.execTrackingDrift (h : Keeps s₀ s) {c : Fin 8} : Answers s₀ (Machine.execTrackingDrift c s) :=
  .ite (.next h.retrainBegin) (.next h)

theorem Keeps.retrainEnd (h : Keeps s₀ s) {c : Nat} {newOk lkgOk : Bool} : Keeps s₀ (s.retrainEnd c newOk lkgOk) := by
  unfold State.retrainEnd
  extract_lets s0 s1 s2
  have hs0 : Keeps s₀ s0 := Keeps.ite h.leaveSelfRef h
  have hs1 : Keeps s₀ s1 := hs0.put.put
  have hs2 : Keeps s₀ s2 := Keeps.ite hs1.newLkg.bump.log (Keeps.ite hs1.bump.bump.log hs1.fence)
  exact Keeps.ite hs2.dramDone hs2

theorem Keeps.execRetrainDone (h : Keeps s₀ s) {c : Fin 8} {newOk lkgOk : Bool} :
    Answers s₀ (Machine.execRetrainDone c newOk lkgOk s) :=
  .ite (.next h.retrainEnd.settle.noteLevels) (.next h)

theorem Keeps.unfenceDone (h : Keeps s₀ s) {ok : Bool} : Keeps s₀ (s.unfenceDone ok) := by
  unfold State.unfenceDone
  split
  · exact Keeps.ite h.unfenceEnd.settle.noteLevels h
  · exact h

theorem Keeps.execUnfence (h : Keeps s₀ s) {w : Word} {p ok : Bool} : Answers s₀ (Machine.execUnfence w p ok s) := by
  unfold Machine.execUnfence
  extract_lets s1
  have hs1 : Keeps s₀ s1 := h.cmdRow
  exact .ite (.next hs1.unfenceDone) (.next hs1)

theorem Keeps.execDramSave (h : Keeps s₀ s) {w : Word} {p : Bool} : Answers s₀ (Machine.execDramSave w p s) := .next h.cmdRow

theorem Keeps.execResErr (h : Keeps s₀ s) {c : Fin 8} {unreachable : Bool} {addr : BitVec 48} :
    Answers s₀ (Machine.execResErr c unreachable addr s) :=
  .ite (.next (Keeps.ite h h.raise).resErr) (.next h)

theorem Keeps.execPortEnable (h : Keeps s₀ s) {pt : Fin 2} {w : Word} {p : Bool} : Answers s₀ (Machine.execPortEnable pt w p s) :=
  .next h.cmdRow

theorem Keeps.offRow (h : Keeps s₀ s) {f : Fld} {w : Word} {p : Bool} : Keeps s₀ (s.offRow f w p) := h.writeRow

theorem Keeps.execPortDisable (h : Keeps s₀ s) {pt : Fin 2} {w : Word} {p : Bool} :
    Answers s₀ (Machine.execPortDisable pt w p s) :=
  .next h.offRow

theorem Keeps.execModeChange (h : Keeps s₀ s) {pt : Fin 2} {w : Word} {p : Bool} : Answers s₀ (Machine.execModeChange pt w p s) :=
  .next h.writeRow

theorem Keeps.execPortReady (h : Keeps s₀ s) {pt : Fin 2} : Answers s₀ (Machine.execPortReady pt s) :=
  .ite (.next (((Keeps.ite h.portReady h.groupReady).settle).noteLevels)) (.next h)

theorem Keeps.execBatonReady (h : Keeps s₀ s) : Answers s₀ (Machine.execBatonReady s) :=
  .ite (.next h.groupReady.settle.noteLevels) (.next h)

theorem Keeps.netFlush (h : Keeps s₀ s) {p : Nat} : Keeps s₀ (s.netFlush p) := h.setPort.foldl (fun _ _ ht => ht.send)

theorem Keeps.execLinkUp (h : Keeps s₀ s) {pt : Fin 2} {k : Fin 4} : Answers s₀ (Machine.execLinkUp pt k s) :=
  .ite (.next h.put.netFlush) (.next h)

theorem Keeps.netDrop (h : Keeps s₀ s) {p : Nat} {bs : List Byte} : Keeps s₀ (s.netDrop p bs) := (Keeps.ite h.raise h).raise.bump

theorem Keeps.answer (h : Keeps s₀ s) {p k dst type : Nat} {tagged : Bool} {body : List Byte} :
    Keeps s₀ (s.answer p k dst type tagged body) :=
  h.takeFree.netSend

theorem Keeps.arpRequest (h : Keeps s₀ s) {p k : Nat} {bs : List Byte} : Keeps s₀ (s.arpRequest p k bs) := by
  unfold State.arpRequest
  split
  · exact h.netDrop
  · exact h.answer

theorem Keeps.execArpRequest (h : Keeps s₀ s) {pt : Fin 2} {k : Fin 4} {f : RxFrame} :
    Answers s₀ (Machine.execArpRequest pt k f s) :=
  .ite (.next h.arpRequest) (.next h)

theorem Keeps.neighbour (h : Keeps s₀ s) {p k : Nat} {bs : List Byte} : Keeps s₀ (s.neighbour p k bs) := by
  unfold State.neighbour
  split
  · exact h.netDrop
  · exact h.answer

theorem Keeps.execNeighbourSolicitation (h : Keeps s₀ s) {pt : Fin 2} {k : Fin 4} {f : RxFrame} :
    Answers s₀ (Machine.execNeighbourSolicitation pt k f s) :=
  .ite (.next h.neighbour) (.next h)

theorem Keeps.execPauseFrame (h : Keeps s₀ s) {pt : Fin 2} {k : Fin 4} {pfc : Bool} {prio : BitVec 8} {quanta : BitVec 16} :
    Answers s₀ (Machine.execPauseFrame pt k pfc prio quanta s) :=
  .ite (.next h) (.ite (.next h.netDrop) (.ite (.next h.setPort.netFlush) (.next h.setPort.raise)))

theorem Keeps.execFrameDrop (h : Keeps s₀ s) {pt : Fin 2} {k : Fin 4} {x : DroppedFrame} :
    Answers s₀ (Machine.execFrameDrop pt k x s) :=
  .ite (.ite (.next h.raise.bump) (.ite (.next h) (.next h.netDrop))) (.next h)

theorem Keeps.execXoffRepeat (h : Keeps s₀ s) {pt : Fin 2} : Answers s₀ (Machine.execXoffRepeat pt s) :=
  .ite (.next h.sendXoff) (.next h)

theorem Keeps.badFrame (h : Keeps s₀ s) : Keeps s₀ s.badFrame := h.raise.bump

theorem Keeps.onFrame (h : Keeps s₀ s) {p k type : Nat} {f : RxFrame} {run : State → BatIn → State}
    (hr : ∀ t x, Keeps s₀ t → Keeps s₀ (run t x)) : Keeps s₀ (s.onFrame p k type f run) := by
  unfold State.onFrame
  refine Keeps.ite h (Keeps.ite h.netDrop (Keeps.ite h ?_))
  split
  · exact h.badFrame
  · exact Keeps.ite (hr _ _ h) h

theorem Keeps.execBadFrame (h : Keeps s₀ s) {pt : Fin 2} {k : Fin 4} {f : RxFrame} : Answers s₀ (Machine.execBadFrame pt k f s) :=
  .next (h.onFrame (fun _ _ ht => ht))

theorem Keeps.openAck (h : Keeps s₀ s) {p k : Nat} {x : BatIn} {ofs gen flags st : Nat} :
    Keeps s₀ (s.openAck p k x ofs gen flags st) :=
  h.ackSend

theorem Keeps.openAdmit (h : Keeps s₀ s) {p k : Nat} {x : BatIn} {slot a e : Nat} : Keeps s₀ (s.openAdmit p k x slot a e) := by
  unfold State.openAdmit
  extract_lets s0 g old s1 acked resumed sess b s2 s3 done s4
  have hs0 : Keeps s₀ s0 := by
    unfold s0
    split
    · exact h.retire
    · exact h
  have hs1 : Keeps s₀ s1 := by
    cases e : old with
    | none => simpa only [s1, e] using hs0.setGrant
    | some _ => simpa only [s1, e] using hs0
  have hs2 : Keeps s₀ s2 := hs1.frame
  have hs4 : Keeps s₀ s4 := hs2.eventNow.openAck
  exact Keeps.ite hs4.retire hs4

theorem Keeps.openRefuse (h : Keeps s₀ s) {p k : Nat} {x : BatIn} {st : Nat} : Keeps s₀ (s.openRefuse p k x st) :=
  h.raise.bump.takeFree.openAck

theorem Keeps.openFrame (h : Keeps s₀ s) {p k : Nat} {x : BatIn} : Keeps s₀ (State.openFrame p k s x) :=
  Keeps.ite h.openAdmit h.openRefuse

theorem Keeps.execOpenSession (h : Keeps s₀ s) {pt : Fin 2} {k : Fin 4} {f : RxFrame} :
    Answers s₀ (Machine.execOpenSession pt k f s) :=
  .next (h.onFrame (fun _ _ ht => ht.openFrame))

theorem Keeps.tell (h : Keeps s₀ s) {y : Sess} {flag : Nat} : Keeps s₀ (s.tell y flag) := Keeps.ite h h.sendAck0

theorem Keeps.dataFrame (h : Keeps s₀ s) {p k : Nat} {x : BatIn} : Keeps s₀ (State.dataFrame p k s x) := by
  unfold State.dataFrame
  split
  · exact h.raise.bump
  · exact Keeps.ite h.sendAck0 (Keeps.ite h.tell (Keeps.ite h.tell (Keeps.ite h.raise.bump h.setPort.setSess.checkBp)))

theorem Keeps.execDataFrame (h : Keeps s₀ s) {pt : Fin 2} {k : Fin 4} {f : RxFrame} :
    Answers s₀ (Machine.execDataFrame pt k f s) :=
  .next (h.onFrame (fun _ _ ht => ht.dataFrame))

theorem Keeps.noSession (h : Keeps s₀ s) : Keeps s₀ s.noSession := h.bump

theorem Keeps.closeFrame (h : Keeps s₀ s) {p k : Nat} {x : BatIn} : Keeps s₀ (State.closeFrame p k s x) := by
  unfold State.closeFrame
  split
  · exact h.noSession
  · exact h.retire.ackSend

theorem Keeps.execCloseSession (h : Keeps s₀ s) {pt : Fin 2} {k : Fin 4} {f : RxFrame} :
    Answers s₀ (Machine.execCloseSession pt k f s) :=
  .next (h.onFrame (fun _ _ ht => ht.closeFrame))

theorem Keeps.queryFrame (h : Keeps s₀ s) {p k : Nat} {x : BatIn} : Keeps s₀ (State.queryFrame p k s x) := by
  unfold State.queryFrame
  split
  · exact h.noSession
  · exact h.setSess.sendAck0

theorem Keeps.execBatonQuery (h : Keeps s₀ s) {pt : Fin 2} {k : Fin 4} {f : RxFrame} :
    Answers s₀ (Machine.execBatonQuery pt k f s) :=
  .next (h.onFrame (fun _ _ ht => ht.queryFrame))

theorem Keeps.nackCommit (h : Keeps s₀ s) {x : Sess} {st : Nat} : Keeps s₀ (s.nackCommit x st) :=
  h.raise.bump.setSess.dropFrames.sendAck0

theorem Keeps.landsWake (h : Keeps s₀ s) {a n : Nat} : Keeps s₀ (s.landsWake a n) :=
  h.foldl (fun _ _ ht => ht.foldl (fun _ _ hu => Keeps.ite hu.startWake hu))

theorem Keeps.genComplete (h : Keeps s₀ s) {slot : Nat} : Keeps s₀ (s.genComplete slot) := by
  unfold State.genComplete
  extract_lets g s1 sg s2
  have hs1 : Keeps s₀ s1 := h.setGrant
  have hs2 : Keeps s₀ s2 := Keeps.ite hs1.completeGen hs1
  exact Keeps.ite hs2.eventNow hs1.eventNow

theorem Keeps.committed (h : Keeps s₀ s) {x : Sess} : Keeps s₀ (s.committed x) :=
  Keeps.ite ((Keeps.ite h.genComplete h).ackSend.retire) (Keeps.ite h.sendAck0 h.setSess)

theorem Keeps.dataCommit (h : Keeps s₀ s) {p : Nat} : Keeps s₀ (s.dataCommit p) := by
  unfold State.dataCommit
  extract_lets q
  split
  · exact h
  · split
    · exact h.setPort.checkBp
    · extract_lets g a n s1 s2 s3
      have hs1 : Keeps s₀ s1 := by
        unfold s1
        refine h.foldl fun t x ht => ?_
        split
        · exact ht.channelWake
        · exact ht
      have hs2 : Keeps s₀ s2 := hs1.setPort.dramPut
      have hs3 : Keeps s₀ s3 := hs2.setGrant
      exact Keeps.ite h (Keeps.ite h.nackCommit (Keeps.ite h.yieldRungs.nackCommit (Keeps.ite h.landsWake hs3.committed.checkBp)))

theorem Keeps.execDataCommit (h : Keeps s₀ s) {pt : Fin 2} : Answers s₀ (Machine.execDataCommit pt s) :=
  .ite (.next h.dataCommit) (.next h)

theorem Keeps.ackTimer (h : Keeps s₀ s) {x : Sess} : Keeps s₀ (s.ackTimer x) := Keeps.ite h.sendAck0 h

theorem Keeps.execAckTimer (h : Keeps s₀ s) {skey : Word} : Answers s₀ (Machine.execAckTimer skey s) := by
  unfold Machine.execAckTimer
  split
  · exact .next h
  · exact .ite (.next h.ackTimer) (.next h)

theorem Keeps.execSessionIdle (h : Keeps s₀ s) {skey : Word} : Answers s₀ (Machine.execSessionIdle skey s) := by
  unfold Machine.execSessionIdle
  split
  · exact .next h
  · exact .ite (.next h.retire) (.next h)

theorem Keeps.execBatqWordWrite (h : Keeps s₀ s) {w : Word} {p : Bool} : Answers s₀ (Machine.execBatqWordWrite w p s) :=
  .next h.writeRow

theorem Keeps.takeWords (h : Keeps s₀ s) {i : Nat} {corr : Fld} : Keeps s₀ (s.takeWords i corr) := h.leave.takeFree.addTo

theorem Keeps.batqDone (h : Keeps s₀ s) {b : List Byte} {st : Nat} : Keeps s₀ (s.batqDone b st) := by
  unfold State.batqDone
  extract_lets s1
  have hs1 : Keeps s₀ s1 := h.wr
  exact Keeps.ite hs1 hs1.raise.bump

theorem Keeps.takeBatq (h : Keeps s₀ s) {op : Nat} {ecc : Option (Fin 16)} {run : State → List Byte → Nat × State}
    (hr : ∀ t b, Keeps s₀ t → Keeps s₀ (run t b).2) : Keeps s₀ (s.takeBatq op ecc run) := by
  unfold State.takeBatq
  split
  · exact h
  · split
    · exact h
    · extract_lets s1
      have hs1 : Keeps s₀ s1 := h.takeWords
      split
      · exact hs1.eccBad.batqDone
      · split
        · exact hs1.batqDone
        · exact (hr _ _ hs1).batqDone

theorem Keeps.grantSeg (h : Keeps s₀ s) {b : List Byte} : Keeps s₀ (Machine.grantSeg s b).2 := by
  unfold Machine.grantSeg
  extract_lets slot k mr
  split
  · exact h
  · split
    · exact h
    · split
      · exact h
      · split
        · exact h
        · exact h.setGrant

theorem Keeps.execGrantSeg (h : Keeps s₀ s) {ecc : Option (Fin 16)} : Answers s₀ (Machine.execGrantSeg ecc s) :=
  .next (h.takeBatq (fun _ _ ht => ht.grantSeg))

theorem Keeps.grantRegion (h : Keeps s₀ s) {b : List Byte} : Keeps s₀ (Machine.grantRegion s b).2 := by
  unfold Machine.grantRegion
  extract_lets slot mr a n
  split
  · exact h
  · split
    · exact h
    · split
      · exact h
      · exact h.setGrant

theorem Keeps.execGrantRegion (h : Keeps s₀ s) {ecc : Option (Fin 16)} : Answers s₀ (Machine.execGrantRegion ecc s) :=
  .next (h.takeBatq (fun _ _ ht => ht.grantRegion))

theorem Keeps.revokeRec (h : Keeps s₀ s) {b : List Byte} : Keeps s₀ (Machine.revokeRec s b).2 := by
  unfold Machine.revokeRec
  extract_lets slot
  split
  · exact h
  · split
    · exact h
    · exact h.revoke

theorem Keeps.execRevoke (h : Keeps s₀ s) {ecc : Option (Fin 16)} : Answers s₀ (Machine.execRevoke ecc s) :=
  .next (h.takeBatq (fun _ _ ht => ht.revokeRec))

theorem Keeps.retireRec (h : Keeps s₀ s) {b : List Byte} : Keeps s₀ (Machine.retireRec s b).2 := by
  unfold Machine.retireRec
  split
  · exact h
  · exact h.retire

theorem Keeps.execRetire (h : Keeps s₀ s) {ecc : Option (Fin 16)} : Answers s₀ (Machine.execRetire ecc s) :=
  .next (h.takeBatq (fun _ _ ht => ht.retireRec))

theorem Keeps.outDest (h : Keeps s₀ s) {b : List Byte} : Keeps s₀ (Machine.outDest s b).2 := by
  unfold Machine.outDest
  extract_lets i l f s1 s'
  have hs1 : Keeps s₀ s1 := h.setDest
  split
  · exact h
  · split
    · exact h.setDest
    · exact Keeps.ite hs1.frame hs1

theorem Keeps.execOutDest (h : Keeps s₀ s) {ecc : Option (Fin 16)} : Answers s₀ (Machine.execOutDest ecc s) :=
  .next (h.takeBatq (fun _ _ ht => ht.outDest))

theorem Keeps.execBatqMark (h : Keeps s₀ s) {ecc : Option (Fin 16)} : Answers s₀ (Machine.execBatqMark ecc s) :=
  .next (h.takeBatq (fun _ _ ht => ht))

theorem Keeps.execEngineDisable (h : Keeps s₀ s) {w : Word} {p : Bool} : Answers s₀ (Machine.execEngineDisable w p s) :=
  .next h.offRow

theorem Keeps.leaveN (h : Keeps s₀ s) {k i : Nat} : Keeps s₀ (State.leaveN k i s) := by
  induction k generalizing s with
  | zero => exact h
  | succ k ih => exact ih h.leave

theorem Keeps.streamSend (h : Keeps s₀ s) {i type ofs : Nat} {body : List Byte} : Keeps s₀ (s.streamSend i type ofs body) := by
  unfold State.streamSend
  split
  · exact h
  · exact h.bump.udpSend

theorem Keeps.outRec (h : Keeps s₀ s) {corrected : Nat} {uncorr : Option (Fin 16)} : Keeps s₀ (s.outRec corrected uncorr) := by
  unfold State.outRec
  extract_lets n body s1 s2 s3 s'
  have hs1 : Keeps s₀ s1 := h.leaveN.addTo
  have hs2 : Keeps s₀ s2 := by
    unfold s2
    split
    · exact hs1.eccBad
    · exact hs1
  have hs3 : Keeps s₀ s3 := hs2.streamSend
  exact Keeps.ite h hs3.frame

theorem Keeps.execOutRec (h : Keeps s₀ s) {corrected : Nat} {uncorr : Option (Fin 16)} :
    Answers s₀ (Machine.execOutRec corrected uncorr s) :=
  .next h.outRec

theorem Keeps.outRing (h : Keeps s₀ s) {b : Nat} : Keeps s₀ (s.outRing b) := by
  unfold State.outRing
  extract_lets size rd n a s1 s2
  have hs1 : Keeps s₀ s1 := by
    unfold s1
    refine h.foldl fun t x ht => ?_
    split
    · exact ht.channelWake
    · exact ht
  have hs2 : Keeps s₀ s2 := hs1.streamSend
  exact Keeps.ite h (Keeps.ite h.landsWake hs2.put)

theorem Keeps.execOutRing (h : Keeps s₀ s) {b : Fin 4} : Answers s₀ (Machine.execOutRing b s) := .next h.outRing

theorem Keeps.stage1 (h : Keeps s₀ s) {e : StartEnv} : Keeps s₀ (s.stage1 e) := h.put.aoSource

theorem Keeps.atStage (h : Keeps s₀ s) {k : Nat} {f : State → State} (hf : ∀ t, Keeps s₀ t → Keeps s₀ (f t)) :
    Keeps s₀ (s.atStage k f) := Keeps.ite (hf s h) h

theorem Keeps.startRef (h : Keeps s₀ s) {e : StartEnv} : Keeps s₀ (s.startRef e) := Keeps.ite h.raise.aoSource h

theorem Keeps.romMdio (h : Keeps s₀ s) : Keeps s₀ s.romMdio := h.takeFree.send

theorem Keeps.phyUp (h : Keeps s₀ s) : Keeps s₀ s.phyUp := h.takeFree.foldl (fun _ _ ht => ht.romMdio)

theorem Keeps.recoveryMode (h : Keeps s₀ s) : Keeps s₀ s.recoveryMode :=
  (h.allToHold.foldl (fun _ _ ht => Keeps.ite ht.sleepPll ht.sleepOne)).put.put.driveOutEn.phyUp

theorem Keeps.revertBoot (h : Keeps s₀ s) {r : BootRec} : Keeps s₀ (s.revertBoot r).2 := h.writeRec.raise

theorem Keeps.bootOutcome (h : Keeps s₀ s) {r r' : BootRec} {t : State} (e : s.bootOutcome r = some (r', t)) : Keeps s₀ t := by
  have hw (r1 : BootRec) (k : some (r1, s.writeRec r1) = some (r', t)) : Keeps s₀ t := by
    simp only [Option.some.injEq, Prod.mk.injEq] at k
    rw [← k.2]
    exact h.writeRec
  have hv (k : some (s.revertBoot r) = some (r', t)) : Keeps s₀ t := by
    have hr : Keeps s₀ (s.revertBoot r).2 := h.revertBoot
    rw [Option.some.inj k] at hr
    exact hr
  unfold State.bootOutcome at e
  extract_lets skip at e
  split at e
  · exact hv e
  · split at e
    · exact hw _ e
    · split at e
      · cases e
      · split at e
        · exact hv e
        · split at e
          · exact hw _ e
          · simp only [Option.some.injEq, Prod.mk.injEq] at e
            rw [← e.2]
            exact h

theorem Keeps.bootSlot (h : Keeps s₀ s) {k : Nat} : Keeps s₀ (State.bootSlot k s).2 := by
  induction k generalizing s with
  | zero => exact h
  | succ k ih =>
    unfold State.bootSlot
    split
    · exact h
    · split
      · exact h
      · rename_i r1 s1 e
        have hs1 : Keeps s₀ s1 := h.bootOutcome e
        split
        · exact hs1
        · exact ih hs1.frame

theorem Keeps.loadStart (h : Keeps s₀ s) : Keeps s₀ s.loadStart := by
  unfold State.loadStart
  extract_lets w s1 s2 band th align s3 s' s'_1 s4 s5
  have hs1 : Keeps s₀ s1 := h.foldl (fun _ _ ht => Keeps.ite ht.put ht)
  have hs2 : Keeps s₀ s2 := hs1.foldl (fun _ _ ht => ht.put.put)
  have hs3 : Keeps s₀ s3 := hs2.put.put
  have hs4 : Keeps s₀ s4 := hs3.frame.put
  have hs5 : Keeps s₀ s5 := hs4.put.put
  exact hs5.put.retrim

theorem Keeps.setHalf (h : Keeps s₀ s) {h' : Nat} : Keeps s₀ (s.setHalf h') := by
  unfold State.setHalf
  exact h.put.mem (pv := Sp.wf_set 0 _)

theorem Keeps.stage3 (h : Keeps s₀ s) : Keeps s₀ s.stage3 := by
  unfold State.stage3
  extract_lets s0 s1
  have hs1 : Keeps s₀ s1 := h.setSel.put.put.put.showRec
  have hb : Keeps s₀ (State.bootSlot 6 s1).2 := hs1.bootSlot
  refine Keeps.ite hs1.recoveryMode ?_
  split
  · rename_i s2 e
    rw [e] at hb
    exact hb.recoveryMode
  · rename_i r s2 e
    rw [e] at hb
    extract_lets s3 h'
    have hs3 : Keeps s₀ s3 := hb.put.put
    exact Keeps.ite hs3 hs3.setHalf.loadStart.driveOutEn.mirPower

theorem Keeps.stage2 (h : Keeps s₀ s) {bad : Nat} : Keeps s₀ (s.stage2 bad) := by
  unfold State.stage2
  extract_lets h_1 s1 s2
  have hs1 : Keeps s₀ s1 := h.put.put
  have hs2 : Keeps s₀ s2 := Keeps.ite hs1.log hs1
  exact hs2.loadStart.driveOutEn.mirPower

theorem Keeps.fabDefault (h : Keeps s₀ s) : Keeps s₀ s.fabDefault :=
  (h.put.put.put.put.foldl (fun _ _ ht => ht.wr)).wr.put.put.put.setSel.raise

theorem Keeps.fabDram (h : Keeps s₀ s) {b : List Byte} : Keeps s₀ (s.fabDram b) := h.put.put.put.put.put

theorem Keeps.fabStart (h : Keeps s₀ s) : Keeps s₀ s.fabStart := by
  unfold State.fabStart
  extract_lets slot h_1 len b s1 s2
  have hs1 : Keeps s₀ s1 := h.frame.structure'.fabDram
  have hs2 : Keeps s₀ s2 := hs1.setSel.raise.put
  split
  · exact h.fabDefault
  · split
    · exact h.fabRefuse.fabDefault
    · exact hs2.put

theorem Keeps.stage4 (h : Keeps s₀ s) : Keeps s₀ s.stage4 := h.fabStart.mirPower.put

theorem Keeps.tempRec (h : Keeps s₀ s) {code : Nat} : Keeps s₀ (s.tempRec code) := h.eventNow

theorem Keeps.convert (h : Keeps s₀ s) {temps : List Int} : Keeps s₀ (s.convert temps) := by
  unfold State.convert
  extract_lets s1 all th s2
  have hs1 : Keeps s₀ s1 := by
    unfold s1
    refine h.foldl fun t x ht => ?_
    split
    · exact ht.put
    · exact ht
  have hs2 : Keeps s₀ s2 := Keeps.ite hs1.put hs1
  exact Keeps.ite hs2.put.raise.bump.tempRec (Keeps.ite hs2.put.tempRec hs2)

theorem Keeps.stage5 (h : Keeps s₀ s) {e : StartEnv} : Keeps s₀ (s.stage5 e) := by
  unfold State.stage5
  split
  · extract_lets s1
    have hs1 : Keeps s₀ s1 := h.convert.wakePll
    exact ((Keeps.ite hs1.bandMiss hs1).lockAt).put
  · exact h

theorem Keeps.startSetting (h : Keeps s₀ s) {c : Nat} : Keeps s₀ (s.startSetting c) := h.takeFree.newLkg.setDch

theorem Keeps.startChannel (h : Keeps s₀ s) {e : StartEnv} {c : Nat} : Keeps s₀ (s.startChannel e c) := by
  unfold State.startChannel
  split
  · exact h.fence
  · exact Keeps.ite h.fence (Keeps.ite ((Keeps.ite h.leaveSelfRef h).startSetting.put.put) h.fence)

theorem Keeps.stage6 (h : Keeps s₀ s) {e : StartEnv} : Keeps s₀ (s.stage6 e) := by
  unfold State.stage6
  extract_lets s' s0 dens size same on s1 s1_1 s2
  have hs0 : Keeps s₀ s0 := h.frame
  have hs1 : Keeps s₀ s1 := hs0.put.put
  have hs1_1 : Keeps s₀ s1_1 := Keeps.ite (hs1.foldl (fun _ _ ht => ht.fence)) hs0
  have hs2 : Keeps s₀ s2 := hs1_1.foldl (fun _ _ ht => ht.startChannel)
  exact hs2.remap.put

theorem Keeps.stage7 (h : Keeps s₀ s) {e : StartEnv} : Keeps s₀ (s.stage7 e) :=
  (h.foldl (fun _ _ ht => Keeps.ite ht (Keeps.ite ht.markWaking ht.setAwake))).put

theorem Keeps.supplyEnd (h : Keeps s₀ s) {mv : List Int} : Keeps s₀ (s.supplyEnd mv) :=
  (h.foldl (fun _ _ ht => ht.log.raise)).put.put.put

theorem Keeps.freeTicks (h : Keeps s₀ s) : Keeps s₀ s.freeTicks := by
  unfold State.freeTicks
  extract_lets s' s'_1
  have hs' : Keeps s₀ s' := h.takeFree
  exact hs'.frame

theorem Keeps.startReadBack (h : Keeps s₀ s) {e : StartEnv} {n : Nat} : Keeps s₀ (s.startReadBack e n) := by
  unfold State.startReadBack
  extract_lets c pass s1 s2
  have hs1 : Keeps s₀ s1 := h.put.put.put
  have hs2 : Keeps s₀ s2 := hs1.raise.log
  exact Keeps.ite hs1 hs2.put.raise

theorem Keeps.stage8 (h : Keeps s₀ s) {e : StartEnv} : Keeps s₀ (s.stage8 e) := by
  unfold State.stage8
  extract_lets s1 s2
  have hs1 : Keeps s₀ s1 := h.freeTicks.setAwake.supplyEnd
  have hs2 : Keeps s₀ s2 := Keeps.ite hs1 (hs1.foldl (fun _ _ ht => ht.startReadBack))
  exact hs2.freeTicks.put.sleepIdle.pllIdle

theorem Keeps.startFirmware (h : Keeps s₀ s) : Keeps s₀ s.startFirmware := by
  unfold State.startFirmware
  extract_lets slot h_1 s1 s' s2
  have hs1 : Keeps s₀ s1 := h.dramPut
  have hs2 : Keeps s₀ s2 := hs1.frame
  exact hs2.put.put

theorem Keeps.stage9 (h : Keeps s₀ s) : Keeps s₀ s.stage9 :=
  Keeps.ite h.frame.warmOther (Keeps.ite h.recoveryMode h.startFirmware)

theorem Keeps.stages (h : Keeps s₀ s) {e : StartEnv} : Keeps s₀ (s.stages e) :=
  ((((((h.startRef.atStage (fun _ ht => ht.stage2.stage3)).atStage (fun _ ht => ht.stage4)).atStage
     (fun _ ht => ht.stage5)).atStage (fun _ ht => ht.stage6)).atStage (fun _ ht => ht.stage7)).atStage
     (fun _ ht => ht.stage8)).atStage (fun _ ht => ht.stage9)

theorem Keeps.startUp (h : Keeps s₀ s) {e : StartEnv} : Keeps s₀ (s.startUp e) := by
  unfold State.startUp
  split
  · exact h
  · split
    · extract_lets s1 s'
      have hs1 : Keeps s₀ s1 := Keeps.ite h.stage1 h
      exact Keeps.ite hs1.freezeBy hs1.frame.put.stages
    · exact h.stages

theorem Keeps.execStartUp (h : Keeps s₀ s) {e : StartEnv} : Answers s₀ (Machine.execStartUp e s) := .next h.startUp

theorem Keeps.pvPowerCut (h : Keeps s₀ s) : Keeps s₀ s.pvPowerCut := by
  unfold State.pvPowerCut
  split
  · exact h
  · split
    · exact h
    · extract_lets s1
      have hs1 : Keeps s₀ s1 := h.takeFree
      exact Keeps.ite hs1 (hs1.mem (pv := Sp.wf_set _ _))

theorem Keeps.powerReset (h : Keeps s₀ s) : Keeps s₀ s.powerReset :=
  (h.cutFlash.progCut.takeFree.savesCut.pvPowerCut.foldl (fun _ _ ht => ht.loseChannel)).cleared

theorem Keeps.execBrownOut (h : Keeps s₀ s) : Answers s₀ (Machine.execBrownOut s) := .next h.powerReset

theorem Keeps.execWarm (h : Keeps s₀ s) {w : Word} {p : Bool} : Answers s₀ (Machine.execWarm w p s) := .next h.cmdRow

theorem Keeps.execSleep (h : Keeps s₀ s) {w : Word} {p : Bool} : Answers s₀ (Machine.execSleep w p s) := .next h.cmdRow

theorem Keeps.enterAsleep (h : Keeps s₀ s) : Keeps s₀ s.enterAsleep := by
  unfold State.enterAsleep
  extract_lets s1 s2 s3 s4 s'
  have hs1 : Keeps s₀ s1 := h.put.put
  have hs2 : Keeps s₀ s2 := hs1.portOff.portOff.linkLost.allToHold
  have hs3 : Keeps s₀ s3 := hs2.foldl (fun _ _ ht => ht.sleepOne)
  have hs4 : Keeps s₀ s4 := ((Keeps.ite hs3.sleepPll hs3).foldl (fun _ _ ht => ht.put)).put
  exact hs4.frame.put

theorem Keeps.execEnterAsleep (h : Keeps s₀ s) : Answers s₀ (Machine.execEnterAsleep s) := .ite (.next h.enterAsleep) (.next h)

theorem Keeps.execSleepTimeout (h : Keeps s₀ s) : Answers s₀ (Machine.execSleepTimeout s) := .ite (.next h.put.put) (.next h)

theorem Keeps.wake (h : Keeps s₀ s) {src : Nat} : Keeps s₀ (s.wake src) := by
  unfold State.wake
  extract_lets s1 s'
  have hs1 : Keeps s₀ s1 := h.put.put
  exact Keeps.ite (hs1.resume (fun _ ht => ht.warmOther)) hs1.frame

theorem Keeps.execWakePin (h : Keeps s₀ s) : Answers s₀ (Machine.execWakePin s) := .ite (.next h.wake) (.next h)

theorem Keeps.execWakeTimer (h : Keeps s₀ s) : Answers s₀ (Machine.execWakeTimer s) := .ite (.next h.wake) (.next h)

theorem Keeps.execWakeJtag (h : Keeps s₀ s) : Answers s₀ (Machine.execWakeJtag s) := .ite (.next h.wake) (.next h)

theorem Keeps.execDomainWake (h : Keeps s₀ s) {w : Word} {p : Bool} : Answers s₀ (Machine.execDomainWake w p s) := .next h.cmdRow

theorem Keeps.domainReady (h : Keeps s₀ s) {d : Nat} {l : LockInfo} : Keeps s₀ (s.domainReady d l) :=
  Keeps.ite (Keeps.ite h.lockAt.domFinish.loadGoesOn h) h.groupReady

theorem Keeps.execDomainReady (h : Keeps s₀ s) {d : BitVec 6} {l : LockInfo} : Answers s₀ (Machine.execDomainReady d l s) :=
  .ite (.next h.domainReady.settle.noteLevels) (.next h)

theorem Keeps.execDomainWakeTimeout (h : Keeps s₀ s) : Answers s₀ (Machine.execDomainWakeTimeout s) := by
  unfold Machine.execDomainWakeTimeout
  split
  · exact .next h
  · split
    · extract_lets s1 s'
      have hs1 : Keeps s₀ s1 := h.domStatus.put
      exact .next hs1.frame
    · exact .ite (.next h.frame.loadJudge) (.next h)

theorem Keeps.execDomainSleep (h : Keeps s₀ s) {w : Word} {p : Bool} : Answers s₀ (Machine.execDomainSleep w p s) :=
  .next h.cmdRow

theorem Keeps.execSensorConversion (h : Keeps s₀ s) {temps : List Int} : Answers s₀ (Machine.execSensorConversion temps s) :=
  .ite (.next h.convert.noteLevels) (.next h)

theorem Keeps.trip (h : Keeps s₀ s) {sensor : Nat} {temp : Int} : Keeps s₀ (s.trip sensor temp) := by
  unfold State.trip
  extract_lets s1 s2 s'
  have hs1 : Keeps s₀ s1 := h.raise.put.deviceFault
  have hs2 : Keeps s₀ s2 := (hs1.dropPlan.foldl (fun _ _ ht => ht.sleepDom)).pllIdle
  exact hs2.frame

theorem Keeps.execTrip (h : Keeps s₀ s) {sensor : Fin 16} {temp : Int} : Answers s₀ (Machine.execTrip sensor temp s) :=
  .ite (.next h.trip.noteLevels) (.next h)

theorem Keeps.execBridge (h : Keeps s₀ s) {up : Bool} : Answers s₀ (Machine.execBridge up s) :=
  .ite (.next h.raise.deviceFault.noteLevels) (.next h)

theorem Keeps.execSupplyCheck (h : Keeps s₀ s) {w : Word} {p : Bool} : Answers s₀ (Machine.execSupplyCheck w p s) :=
  .next h.cmdRow

theorem Keeps.execSupplyCheckDone (h : Keeps s₀ s) {mv : List Int} : Answers s₀ (Machine.execSupplyCheckDone mv s) :=
  .ite (.next h.supplyEnd.sleepIdle.pllIdle) (.next h)

theorem Keeps.execLogqLostRecord (h : Keeps s₀ s) : Answers s₀ (Machine.execLogqLostRecord s) := .ite (.next h.logLost) (.next h)

theorem Keeps.execLogqRead (h : Keeps s₀ s) {p : BusRead} {corrected uncorr : Bool} :
    Answers s₀ (Machine.execLogqRead p corrected uncorr s) :=
  .next h.eccRow

theorem Keeps.execFreezePin (h : Keeps s₀ s) : Answers s₀ (Machine.execFreezePin s) := by
  unfold Machine.execFreezePin
  extract_lets s' s1
  have hs1 : Keeps s₀ s1 := h.frame
  exact .ite (.next hs1) (.next hs1.freezeBy)

theorem Keeps.execFreeze (h : Keeps s₀ s) {w : Word} {p : Bool} : Answers s₀ (Machine.execFreeze w p s) := .next h.cmdRow

theorem Keeps.execFreezePinRelease (h : Keeps s₀ s) : Answers s₀ (Machine.execFreezePinRelease s) := by
  unfold Machine.execFreezePinRelease
  extract_lets s' s1
  have hs1 : Keeps s₀ s1 := h.frame
  exact .ite (.next hs1.warmReset) (.next hs1)

theorem Keeps.execRelease (h : Keeps s₀ s) {w : Word} {p : Bool} : Answers s₀ (Machine.execRelease w p s) :=
  .ite (.next h.releaseCmd) (.next h.cmdRow)

theorem Keeps.execRingDataRead (h : Keeps s₀ s) {p : BusRead} : Answers s₀ (Machine.execRingDataRead p s) :=
  .ite (.next h.ringRead.answerRead) (.next h.readRow)

theorem Keeps.tap (h : Keeps s₀ s) {ir dr : Nat} : Keeps s₀ (s.tap ir dr) := h.frame rfl rfl

theorem Keeps.execTapReset (h : Keeps s₀ s) : Answers s₀ (Machine.execTapReset s) := .next h.tap

theorem Keeps.scan (h : Keeps s₀ s) {ir dr : Nat} : Keeps s₀ (s.scan ir dr) := h.frame.tap

theorem Keeps.tapBoundary (h : Keeps s₀ s) {ir : Nat} : Keeps s₀ (s.tapBoundary ir) := h.takeFree.scan

theorem Keeps.execExtest (h : Keeps s₀ s) : Answers s₀ (Machine.execExtest s) := by
  unfold Machine.execExtest
  split
  · extract_lets s1 s'
    have hs1 : Keeps s₀ s1 := h.tapBoundary
    exact .next hs1.frame
  · exact .next h.scan

theorem Keeps.execIdcode (h : Keeps s₀ s) : Answers s₀ (Machine.execIdcode s) := .next h.scan

theorem Keeps.execSamplePreload (h : Keeps s₀ s) {bits : List Bool} : Answers s₀ (Machine.execSamplePreload bits s) := by
  unfold Machine.execSamplePreload
  extract_lets s1 s'
  have hs1 : Keeps s₀ s1 := h.tapBoundary
  exact .next hs1.frame

theorem Keeps.execStateRing (h : Keeps s₀ s) : Answers s₀ (Machine.execStateRing s) := .next h.scan

theorem Keeps.dbgDirect (h : Keeps s₀ s) {x : Access} : Keeps s₀ (s.dbgDirect x) := h.tryAccess.endAccess

theorem Keeps.accRefused (h : Keeps s₀ s) : Keeps s₀ s.accRefused := h.frame rfl rfl

theorem Keeps.jtagAccess (h : Keeps s₀ s) {x : Access} : Keeps s₀ (s.jtagAccess x) := by
  unfold State.jtagAccess
  extract_lets dbg s1
  have hs1 : Keeps s₀ s1 := h.wake
  exact Keeps.ite (Keeps.ite h.dbgDirect h.raise.accRefused)
    (Keeps.ite (Keeps.ite h.dbgDirect (Keeps.ite hs1.frame.busGo.noteLevels h.accRefused)) h.busAccess.noteLevels)

theorem Keeps.execDbgAccess (h : Keeps s₀ s) {d : DbgScan} : Answers s₀ (Machine.execDbgAccess d s) := by
  unfold Machine.execDbgAccess
  split
  · exact .next h
  · extract_lets n s1 a s' s2
    have hs1 : Keeps s₀ s1 := h.scan
    have hs2 : Keeps s₀ s2 := hs1.frame
    exact .ite (.next hs1) (.next hs2.jtagAccess)

theorem Keeps.execBypass (h : Keeps s₀ s) {op : Byte} : Answers s₀ (Machine.execBypass op s) := .ite (.next h) (.next h.scan)

theorem Keeps.execAlign (h : Keeps s₀ s) {w : Word} {p : Bool} : Answers s₀ (Machine.execAlign w p s) := .next h.cmdRow

theorem Keeps.execCal (h : Keeps s₀ s) {w : Word} {p : Bool} : Answers s₀ (Machine.execCal w p s) := .next h.cmdRow

theorem Keeps.syncDone (h : Keeps s₀ s) {st : Nat} : Keeps s₀ (s.syncDone st) := by
  unfold State.syncDone
  extract_lets s1 s'
  have hs1 : Keeps s₀ s1 := h.syncStatus.put
  exact hs1.frame

theorem Keeps.calComplete (h : Keeps s₀ s) {r : CalResult} : Keeps s₀ (s.calComplete r) := by
  unfold State.calComplete
  split
  · exact h.raise.syncDone
  · refine Keeps.ite h.syncDone ?_
    extract_lets last s0
    have hs0 : Keeps s₀ s0 := Keeps.ite h.passTo h
    split
    rename_i sp s1 e
    have hs1 : Keeps s₀ s1 := by
      split at e
      · cases e
        exact hs0
      · cases e
        exact hs0.takeFree
    exact hs1.put.put.put.bump.syncDone

theorem Keeps.execCalComplete (h : Keeps s₀ s) {r : CalResult} : Answers s₀ (Machine.execCalComplete r s) :=
  .ite (.next h.calComplete.pllIdle) (.next h)

theorem Keeps.execSyncSave (h : Keeps s₀ s) {w : Word} {p : Bool} : Answers s₀ (Machine.execSyncSave w p s) := .next h.cmdRow

theorem Keeps.execRoleWrite (h : Keeps s₀ s) {w : Word} {p : Bool} : Answers s₀ (Machine.execRoleWrite w p s) := .next h.offRow

theorem Keeps.pairBack (h : Keeps s₀ s) : Keeps s₀ s.pairBack := by
  unfold State.pairBack
  extract_lets h_1 b s' s1
  have hs1 : Keeps s₀ s1 := h.frame
  exact Keeps.ite hs1.put.driveOutEn hs1.pairEval

theorem Keeps.execMirrorLinkUp (h : Keeps s₀ s) {latNs : BitVec 10} {shown : Fin 21} :
    Answers s₀ (Machine.execMirrorLinkUp latNs shown s) :=
  .ite (.next h.showLat.put.pairBack.noteLevels) (.next h)

theorem Keeps.execHeartbeatSend (h : Keeps s₀ s) : Answers s₀ (Machine.execHeartbeatSend s) := .ite (.next h.mirSend) (.next h)

theorem Keeps.execIdentSend (h : Keeps s₀ s) : Answers s₀ (Machine.execIdentSend s) := .ite (.next h.sendIdent) (.next h)

theorem Keeps.mirRec (h : Keeps s₀ s) {code data : Nat} : Keeps s₀ (s.mirRec code data) := h.eventNow

theorem Keeps.mirSeen (h : Keeps s₀ s) : Keeps s₀ s.mirSeen := by
  unfold State.mirSeen
  split
  · extract_lets s1
    have hs1 : Keeps s₀ s1 := h.put.mirRec
    exact Keeps.ite hs1.takeEnd hs1
  · exact h

theorem Keeps.demote (h : Keeps s₀ s) {r : Nat} : Keeps s₀ (s.demote r) := by
  unfold State.demote
  split
  · extract_lets s1 s'
    have hs1 : Keeps s₀ s1 := h.put
    exact hs1.frame.driveOutEn
  · exact h

theorem Keeps.identFrame (h : Keeps s₀ s) {d : MirIdent} : Keeps s₀ (s.identFrame d) := by
  unfold State.identFrame
  extract_lets s1 l s'
  have hs1 : Keeps s₀ s1 := h.mirSeen
  exact hs1.frame.demote.pairEval.driveOutEn

theorem Keeps.execIdent (h : Keeps s₀ s) {id : MirIdent} : Answers s₀ (Machine.execIdent id s) :=
  .ite (.next h.identFrame.noteLevels) (.next h)

theorem Keeps.peerRole (h : Keeps s₀ s) {r : Nat} : Keeps s₀ (s.peerRole r) := by
  unfold State.peerRole
  split
  · exact h
  · exact h.frame

theorem Keeps.heartbeatFrame (h : Keeps s₀ s) {role : Nat} {fault peerEn : Bool} :
    Keeps s₀ (s.heartbeatFrame role fault peerEn) :=
  h.mirSeen.samplePeer.put.demote.peerRole.pairEval.driveOutEn

theorem Keeps.execHeartbeat (h : Keeps s₀ s) {role : BitVec 2} {pair : BitVec 3} {fault peerEn : Bool} :
    Answers s₀ (Machine.execHeartbeat role pair fault peerEn s) :=
  .ite (.next h.heartbeatFrame.noteLevels) (.next h)

theorem Keeps.ownCommit (h : Keeps s₀ s) {n d : Nat} : Keeps s₀ (s.ownCommit n d) := by
  unfold State.ownCommit
  split
  · exact Keeps.ite h.commit h
  · exact h

theorem Keeps.settled (h : Keeps s₀ s) {m : MyDec} : Keeps s₀ (s.settled m) := h.frame rfl rfl

theorem Keeps.diverge (h : Keeps s₀ s) {n kind : Nat} : Keeps s₀ (s.diverge n kind) := h.bump.raise.mirRec.pulseSrc

theorem Keeps.undo (h : Keeps s₀ s) {n o : Nat} : Keeps s₀ (s.undo n o) := by
  unfold State.undo
  extract_lets q s0 s' s1
  have hs0 : Keeps s₀ s0 := h.setSq
  have hs1 : Keeps s₀ s1 := Keeps.ite hs0.setSq hs0
  exact hs1.foldl (fun _ _ ht => ht.setFc)

theorem Keeps.leaderShort (h : Keeps s₀ s) {n o e k : Nat} {jump : Bool} : Keeps s₀ (s.leaderShort n o e k jump) := by
  unfold State.leaderShort
  split
  · exact h.setSq.raise.addDec
  · exact h.addDec
  · exact h.decideFallback

theorem Keeps.adopt (h : Keeps s₀ s) {n d own arg : Nat} : Keeps s₀ (s.adopt n d own arg) := by
  unfold State.adopt
  extract_lets o s0 fresh s' s1 jump k
  have hs0 : Keeps s₀ s0 := h.undo
  have hs1 : Keeps s₀ s1 := Keeps.ite hs0.setSq.put hs0
  split
  · exact hs0
  · extract_lets x_1 lvl s2 e
    have hs2 : Keeps s₀ s2 := Keeps.ite hs1 hs1.put
    split
    · exact Keeps.ite hs2.goTo hs2.leaderShort
    · split
      · exact hs2.leaderShort
      · split
        · exact hs2.goTo
        · split
          · exact hs2.addDec
          · split
            · exact hs2.goTo
            · exact hs2.addDec
            · exact hs2.addDec

theorem Keeps.leaderCommit (h : Keeps s₀ s) {n d arg : Nat} : Keeps s₀ (s.leaderCommit n d arg) := by
  unfold State.leaderCommit
  extract_lets s1
  have hs1 : Keeps s₀ s1 := h.ownCommit
  split
  · exact hs1
  · extract_lets s2
    have hs2 : Keeps s₀ s2 := hs1.settled
    exact Keeps.ite hs2 hs2.adopt.diverge

theorem Keeps.leaderImm (h : Keeps s₀ s) {n t : Nat} : Keeps s₀ (s.leaderImm n t) := by
  unfold State.leaderImm
  split
  · extract_lets s1 s2 s'
    have hs1 : Keeps s₀ s1 := h.settled
    have hs2 : Keeps s₀ s2 := hs1.undo
    exact Keeps.ite hs1 hs2.setSq.immediate.diverge
  · exact Keeps.ite h.immediate.diverge h

theorem Keeps.leaderResume (h : Keeps s₀ s) {n r : Nat} : Keeps s₀ (s.leaderResume n r) := by
  unfold State.leaderResume
  extract_lets go
  have hgo : ∀ t, Keeps s₀ t → Keeps s₀ (go t) := fun t ht => by
    unfold go
    split
    · exact ht
    · exact ht.resumeAt.diverge
  split
  · exact Keeps.ite h.settled (hgo _ h.settled.undo)
  · exact hgo _ h

theorem Keeps.leaderTick (h : Keeps s₀ s) {d : Nat} : Keeps s₀ (s.leaderTick d) := Keeps.ite h.arrive (Keeps.ite h.advance h)

theorem Keeps.leaderCmd (h : Keeps s₀ s) {n : Nat} {ctrl : Bool} {d arg : Nat} : Keeps s₀ (s.leaderCmd n ctrl d arg) := by
  unfold State.leaderCmd
  extract_lets s1 c
  have hs1 : Keeps s₀ s1 := h.leaderTick
  split
  · split
    · exact Keeps.ite hs1.pauseHeat hs1
    · exact Keeps.ite hs1.resumeFrom hs1
    · exact hs1.abortHeat
    · exact hs1
  · split
    · exact hs1
    · split
      · exact Keeps.ite hs1.stopAct hs1
      · exact Keeps.ite hs1.takeFree.latchClrAct hs1
      · exact Keeps.ite hs1.holdEndAct hs1
      · exact hs1

theorem Keeps.decisionFrame (h : Keeps s₀ s) {x : MirDecision} : Keeps s₀ (s.decisionFrame x) := by
  unfold State.decisionFrame
  extract_lets s1 n
  have hs1 : Keeps s₀ s1 := h.mirSeen
  split
  · exact hs1
  · split
    · exact hs1.leaderCommit
    · exact hs1.leaderImm
    · exact hs1.leaderResume
    · exact hs1.leaderCmd

theorem Keeps.execDecision (h : Keeps s₀ s) {dc : MirDecision} : Answers s₀ (Machine.execDecision dc s) :=
  .ite (.next h.decisionFrame.noteLevels) (.next h)

theorem Keeps.execDecisionTimeout (h : Keeps s₀ s) {n : Fin 8} : Answers s₀ (Machine.execDecisionTimeout n s) := by
  unfold Machine.execDecisionTimeout
  split
  · exact .next h
  · exact .ite (.next h.arrive.settled.bump) (.next h)

theorem Keeps.lapMarks (h : Keeps s₀ s) : Keeps s₀ s.lapMarks := h.arrive.mirSend.foldl (fun _ _ ht => ht.mirSend)

theorem Keeps.execLapMarkSend (h : Keeps s₀ s) : Answers s₀ (Machine.execLapMarkSend s) := .ite (.next h.lapMarks) (.next h)

theorem Keeps.broken (h : Keeps s₀ s) {n kind : Nat} : Keeps s₀ (s.broken n kind) := h.put.raise.diverge.driveOutEn

theorem Keeps.takeLatches (h : Keeps s₀ s) {n own lead : Nat} : Keeps s₀ (s.takeLatches n own lead) := h.wr.wr

theorem Keeps.lapMark (h : Keeps s₀ s) {m : MirLapMark} : Keeps s₀ (s.lapMark m) := by
  unfold State.lapMark
  extract_lets s1 h_1
  have hs1 : Keeps s₀ s1 := h.mirSeen
  split
  · exact hs1
  · split
    · exact Keeps.ite hs1 hs1.broken
    · extract_lets s2 own s3 p
      have hs2 : Keeps s₀ s2 := Keeps.ite hs1.diverge hs1
      have hs3 : Keeps s₀ s3 := Keeps.ite hs2 hs2.takeLatches.diverge
      exact Keeps.ite hs3 hs3.broken

theorem Keeps.execLapMark (h : Keeps s₀ s) {m : MirLapMark} : Answers s₀ (Machine.execLapMark m s) :=
  .ite (.next h.lapMark.noteLevels) (.next h)

theorem Keeps.faultFrame (h : Keeps s₀ s) {src code : Nat} : Keeps s₀ (s.faultFrame src code) :=
  h.mirSeen.put.raise.mirRec.autoTrigger

theorem Keeps.execMirFault (h : Keeps s₀ s) {src code : Byte} : Answers s₀ (Machine.execMirFault src code s) :=
  .ite (.next h.faultFrame.noteLevels) (.next h)

theorem Keeps.execHeartbeatLost (h : Keeps s₀ s) : Answers s₀ (Machine.execHeartbeatLost s) :=
  .ite (.next h.put.raise.mirRec.autoTrigger.noteLevels) (.next h)

theorem Keeps.execTake (h : Keeps s₀ s) : Answers s₀ (Machine.execTake s) := by
  unfold Machine.execTake
  split
  · extract_lets s1 s'
    have hs1 : Keeps s₀ s1 := h.mirSeen.advance
    exact .next hs1.frame.driveOutEn.noteLevels
  · exact .next h

theorem Keeps.execTakeover (h : Keeps s₀ s) {w : Word} {p : Bool} : Answers s₀ (Machine.execTakeover w p s) := .next h.cmdRow

theorem Keeps.takeNow (h : Keeps s₀ s) {k : Nat} : Keeps s₀ (s.takeNow k) := by
  unfold State.takeNow
  extract_lets s1 s2 s' s3
  have hs1 : Keeps s₀ s1 := h.put.raise.bump
  have hs2 : Keeps s₀ s2 := hs1.mirRec
  have hs3 : Keeps s₀ s3 := hs2.frame
  exact hs3.pulseSrc.driveOutEn

theorem Keeps.takeover (h : Keeps s₀ s) {peerEn : Bool} : Keeps s₀ (s.takeover peerEn) := by
  unfold State.takeover
  split
  · exact h
  · extract_lets s0
    have hs0 : Keeps s₀ s0 := h.samplePeer
    exact Keeps.ite hs0.raise (Keeps.ite hs0.takeEnd (Keeps.ite hs0 hs0.advance.takeNow))

theorem Keeps.execTakeoverTick (h : Keeps s₀ s) {peerEn : Bool} : Answers s₀ (Machine.execTakeoverTick peerEn s) :=
  .ite (.next h.takeover.noteLevels) (.next h)

theorem Keeps.execOutEnRise (h : Keeps s₀ s) : Answers s₀ (Machine.execOutEnRise s) := by
  unfold Machine.execOutEnRise
  split
  · exact .next h
  · split
    · extract_lets s1 s'
      have hs1 : Keeps s₀ s1 := h.passTo.takeEnd
      exact .next hs1.frame.driveOutEn
    · exact .next h

theorem Keeps.execMirTxWordWrite (h : Keeps s₀ s) {w : Word} {p : Bool} : Answers s₀ (Machine.execMirTxWordWrite w p s) :=
  .next h.writeRow

theorem Keeps.execMsg (h : Keeps s₀ s) {words : List Word} : Answers s₀ (Machine.execMsg words s) := by
  unfold Machine.execMsg
  split
  · extract_lets s1
    have hs1 : Keeps s₀ s1 := h.mirSeen
    exact .next ((Keeps.ite hs1 hs1.enter.ptrCheck).noteLevels)
  · exact .next h

theorem Keeps.execMirqRead (h : Keeps s₀ s) {p : BusRead} {mism : Bool} : Answers s₀ (Machine.execMirqRead p mism s) :=
  .next h.upset.readRow

theorem Keeps.claimStart (h : Keeps s₀ s) {id : List Byte} {len : Nat} : Keeps s₀ (s.claimStart id len) := by
  unfold State.claimStart
  extract_lets n same s1 next s2 s' s3 g
  have hs1 : Keeps s₀ s1 := Keeps.ite h h.flashErase.flashPut
  have hs2 : Keeps s₀ s2 := hs1.put.put
  have hs3 : Keeps s₀ s3 := Keeps.ite hs2 hs2.frame
  exact Keeps.ite hs3 hs3.toStage

theorem Keeps.grantLock (h : Keeps s₀ s) {d : UpdFrom} {sid : Nat} : Keeps s₀ (s.grantLock d sid) := by
  unfold State.grantLock
  extract_lets s1 s2 s'
  have hs1 : Keeps s₀ s1 := h.put.put.put
  have hs2 : Keeps s₀ s2 := hs1.setSel.setSel
  exact hs2.frame

theorem Keeps.claimLeaves (h : Keeps s₀ s) {id : List Byte} {len : Nat} : Keeps s₀ (s.claimLeaves id len) :=
  Keeps.ite h.leaveVerify.answerCut h

theorem Keeps.claim (h : Keeps s₀ s) {d : UpdFrom} {u : Upd} : Keeps s₀ (s.claim d u) :=
  Keeps.ite h.reply (Keeps.ite h.reply (Keeps.ite h.reply h.claimLeaves.grantLock.claimStart.reply))

theorem Keeps.fragOther (h : Keeps s₀ s) {d : UpdFrom} {sid : Nat} : Keeps s₀ (s.fragOther d sid) := by
  unfold State.fragOther
  extract_lets s1 s'
  have hs1 : Keeps s₀ s1 := Keeps.ite h h.takeFree
  exact Keeps.ite hs1 hs1.frame.reply

theorem Keeps.fragIn (h : Keeps s₀ s) {d : UpdFrom} {u : Upd} : Keeps s₀ (s.fragIn d u) :=
  Keeps.ite h (Keeps.ite h.frame h.fragOther)

theorem Keeps.stageEnd (h : Keeps s₀ s) {st : Nat} : Keeps s₀ (s.stageEnd st) := h.put.raise

theorem Keeps.stageRefuse (h : Keeps s₀ s) {d : UpdFrom} {sid st : Nat} : Keeps s₀ (s.stageRefuse d sid st) :=
  h.stageEnd.stageRec.reply

theorem Keeps.verifyCmd (h : Keeps s₀ s) {d : UpdFrom} {u : Upd} : Keeps s₀ (s.verifyCmd d u) :=
  Keeps.ite h.stageRefuse h.frame.toStage

theorem Keeps.activateCmd (h : Keeps s₀ s) {d : UpdFrom} {u : Upd} : Keeps s₀ (s.activateCmd d u) := by
  unfold State.activateCmd
  split
  · exact h.stageRefuse
  · extract_lets k s1 s'
    have hs1 : Keeps s₀ s1 := h.takeFree.copyHalf.toStage
    exact hs1.frame

theorem Keeps.abortUpd (h : Keeps s₀ s) {d : UpdFrom} {u : Upd} : Keeps s₀ (s.abortUpd d u) := by
  unfold State.abortUpd
  split
  · exact h.stageRefuse
  · extract_lets s0 s' s1
    have hs0 : Keeps s₀ s0 := h.leaveVerify.answerCut
    have hs1 : Keeps s₀ s1 := hs0.frame.stageEnd.toStage
    exact hs1.freeLock.reply

theorem Keeps.releaseUpd (h : Keeps s₀ s) {d : UpdFrom} {u : Upd} : Keeps s₀ (s.releaseUpd d u) :=
  Keeps.ite h.freeLock.reply h.reply

theorem Keeps.updAct (h : Keeps s₀ s) {d : UpdFrom} {u : Upd} : Keeps s₀ (s.updAct d u) := by
  unfold State.updAct
  split
  · exact h.claim
  · exact h.fragIn
  · split
    · exact h.verifyCmd
    · exact h.activateCmd
    · exact h.abortUpd
    · exact h.stageRefuse
  · exact h.releaseUpd
  · exact h.reply
  · exact h

theorem Keeps.updDo (h : Keeps s₀ s) {src : Nat} {f : UpdFrame} : Keeps s₀ (s.updDo src f) := by
  unfold State.updDo
  split
  · exact h
  · extract_lets s1 d s2
    have hs1 : Keeps s₀ s1 := h.addTo
    have hs2 : Keeps s₀ s2 := hs1.updAct
    split
    · exact hs1.eccBad
    · exact Keeps.ite hs2.updParts hs2

theorem Keeps.updEnter (h : Keeps s₀ s) {src : Nat} {f : UpdFrame} : Keeps s₀ (s.updEnter src f) := by
  unfold State.updEnter
  extract_lets l s1 s'
  have hs1 : Keeps s₀ s1 := h.foldl (fun _ _ ht => ht.enter)
  exact hs1.frame

theorem Keeps.updFill (h : Keeps s₀ s) : Keeps s₀ s.updFill := by
  unfold State.updFill
  split
  · exact h
  · exact Keeps.ite h.frame.updEnter h

theorem Keeps.updTake (h : Keeps s₀ s) : Keeps s₀ s.updTake := by
  unfold State.updTake
  split
  · exact h
  · extract_lets n s1 s'
    have hs1 : Keeps s₀ s1 := h.foldl (fun _ _ ht => ht.leave)
    exact hs1.frame.updFill.updDo

theorem Keeps.updTakeAll (h : Keeps s₀ s) : Keeps s₀ s.updTakeAll := h.updFill.foldl (fun _ _ ht => ht.updTake)

theorem Keeps.updPut (h : Keeps s₀ s) {src : Nat} {f : UpdFrame} : Keeps s₀ (s.updPut src f) :=
  Keeps.ite h.bump (Keeps.ite h.updEnter h.frame)

theorem Keeps.updIn (h : Keeps s₀ s) {src : Nat} {f : UpdFrame} : Keeps s₀ (s.updIn src f) := Keeps.ite h.bump h.updPut.updTakeAll

theorem Keeps.rxFill (h : Keeps s₀ s) {b : List Byte} : Keeps s₀ (s.rxFill b) := h.frame.rxGoesOn

theorem Keeps.mgmtRx (h : Keeps s₀ s) {b : List Byte} {bad : Bool} : Keeps s₀ (s.mgmtRx b bad) := by
  unfold State.mgmtRx
  extract_lets dst
  split
  · exact h.bump
  · split
    · exact h.updIn
    · exact Keeps.ite h.rxFill h

theorem Keeps.execMgmtRxFrame (h : Keeps s₀ s) {f : RxFrame} {bad : Bool} : Answers s₀ (Machine.execMgmtRxFrame f bad s) :=
  .ite (.next h.mgmtRx) (.next h)

theorem Keeps.execTxGo (h : Keeps s₀ s) {w : Word} {p : Bool} : Answers s₀ (Machine.execTxGo w p s) := .next h.cmdRow

theorem Keeps.descErr (h : Keeps s₀ s) {sel i : Nat} : Keeps s₀ (s.descErr sel i) := h.dramPut

theorem Keeps.mgmtTx (h : Keeps s₀ s) : Keeps s₀ s.mgmtTx := by
  unfold State.mgmtTx
  extract_lets sel s0 s' a buf len s1 s2 s3 s4 s'_1
  have hs0 : Keeps s₀ s0 := h.mgmtReach
  have hs1 : Keeps s₀ s1 := hs0.mgmtReach
  have hs2 : Keeps s₀ s2 := hs1.takeFree
  have hs3 : Keeps s₀ s3 := Keeps.ite hs2.descErr hs2.send
  have hs4 : Keeps s₀ s4 := hs3.descDone
  exact Keeps.ite hs0 (Keeps.ite hs0.frame (Keeps.ite hs1 hs4.frame))

theorem Keeps.execMgmtTxDone (h : Keeps s₀ s) : Answers s₀ (Machine.execMgmtTxDone s) := .ite (.next h.mgmtTx) (.next h)

theorem Keeps.execMdioGo (h : Keeps s₀ s) {w : Word} {p : Bool} : Answers s₀ (Machine.execMdioGo w p s) := .next h.cmdRow

theorem Keeps.execMdioDone (h : Keeps s₀ s) {data : BitVec 16} : Answers s₀ (Machine.execMdioDone data s) := by
  unfold Machine.execMdioDone
  split
  · extract_lets s1
    have hs1 : Keeps s₀ s1 := h.put
    exact .next (Keeps.ite hs1 hs1.put)
  · exact .next h

theorem Keeps.updRow (h : Keeps s₀ s) {f : UpdFrame} {type : Nat} {stage : Option Nat} : Keeps s₀ (s.updRow f type stage) :=
  Keeps.ite h.updIn h

theorem Keeps.execClaim (h : Keeps s₀ s) {f : UpdFrame} : Answers s₀ (Machine.execClaim f s) := .next h.updRow

theorem Keeps.execFrag (h : Keeps s₀ s) {f : UpdFrame} : Answers s₀ (Machine.execFrag f s) := .next h.updRow

theorem Keeps.execChunkProgrammed (h : Keeps s₀ s) {ok : Bool} : Answers s₀ (Machine.execChunkProgrammed ok s) :=
  .ite (.next h.chunkDone) (.next h)

theorem Keeps.execVerify (h : Keeps s₀ s) {f : UpdFrame} : Answers s₀ (Machine.execVerify f s) := .next h.updRow

theorem Keeps.verifyBuild (h : Keeps s₀ s) {b : List Byte} : Keeps s₀ (s.verifyBuild b).2 := by
  unfold State.verifyBuild
  extract_lets len base r a s1
  have hs1 : Keeps s₀ s1 := h.prevOff.flashErase.flashPut
  split
  · exact hs1
  · split
    · exact hs1
    · exact hs1

theorem Keeps.verifyDone (h : Keeps s₀ s) : Keeps s₀ s.verifyDone := by
  unfold State.verifyDone
  extract_lets b st r
  have hr : Keeps s₀ r.2 := by
    unfold r
    split
    · exact h.verifyBuild
    · exact h
  exact hr.stageEnd.toStage.answerAsked

theorem Keeps.execVerifyDone (h : Keeps s₀ s) : Answers s₀ (Machine.execVerifyDone s) := .ite (.next h.verifyDone) (.next h)

theorem Keeps.execActivate (h : Keeps s₀ s) {f : UpdFrame} : Answers s₀ (Machine.execActivate f s) := .next h.updRow

theorem Keeps.execUpdAbort (h : Keeps s₀ s) {f : UpdFrame} : Answers s₀ (Machine.execUpdAbort f s) := .next h.updRow

theorem Keeps.execUpdRelease (h : Keeps s₀ s) {f : UpdFrame} : Answers s₀ (Machine.execUpdRelease f s) := .next h.updRow

theorem Keeps.execUpdQuery (h : Keeps s₀ s) {f : UpdFrame} : Answers s₀ (Machine.execUpdQuery f s) := .next h.updRow

theorem Keeps.mirUpd (h : Keeps s₀ s) {f : UpdFrame} : Keeps s₀ (s.mirUpd f) := by
  unfold State.mirUpd
  extract_lets s1
  have hs1 : Keeps s₀ s1 := h.mirSeen
  split
  · split
    · split
      · exact hs1.updTo
      · exact hs1
    · exact hs1.updIn
  · exact hs1.updIn

theorem Keeps.execMirUpdFrame (h : Keeps s₀ s) {f : UpdFrame} : Answers s₀ (Machine.execMirUpdFrame f s) :=
  .ite (.next h.mirUpd.noteLevels) (.next h)

theorem Keeps.execLockIdle (h : Keeps s₀ s) : Answers s₀ (Machine.execLockIdle s) := .ite (.next h.freeLock) (.next h)

theorem Keeps.execConfirm (h : Keeps s₀ s) {w : Word} {p : Bool} : Answers s₀ (Machine.execConfirm w p s) := .next h.cmdRow

theorem Keeps.execRevert (h : Keeps s₀ s) {w : Word} {p : Bool} : Answers s₀ (Machine.execRevert w p s) := .next h.cmdRow

theorem Keeps.execBreakLock (h : Keeps s₀ s) {w : Word} {p : Bool} : Answers s₀ (Machine.execBreakLock w p s) := .next h.cmdRow

theorem Keeps.tftpSend (h : Keeps s₀ s) {mac ip port tid : Nat} {b : List Byte} : Keeps s₀ (s.tftpSend mac ip port tid b) :=
  h.mgmtUdp

theorem Keeps.tftpRequest (h : Keeps s₀ s) {f : TftpFrame} : Keeps s₀ (s.tftpRequest f) := by
  unfold State.tftpRequest
  extract_lets op tid s1 say s'
  have hs1 : Keeps s₀ s1 := h.takeFree
  exact Keeps.ite h (Keeps.ite hs1.tftpSend (Keeps.ite hs1.tftpSend hs1.frame.tftpSend))

theorem Keeps.execTftpWriteRequest (h : Keeps s₀ s) {f : TftpFrame} : Answers s₀ (Machine.execTftpWriteRequest f s) :=
  .ite (.next h.tftpRequest) (.next h)

theorem Keeps.recRecord (h : Keeps s₀ s) {b : List Byte} {target : Nat} : Keeps s₀ (s.recRecord b target) := by
  unfold State.recRecord
  split
  rename_i r s1 e
  have hs1 : Keeps s₀ s1 := by
    split at e
    · cases e
      exact h
    · cases e
      exact h.frame
  exact hs1.writeRec

theorem Keeps.tftpBlock (h : Keeps s₀ s) {t : Tftp} {got : List Byte} {size : Nat} : Keeps s₀ (s.tftpBlock t got size) := by
  unfold State.tftpBlock
  extract_lets n fail target s1 done s2 m s3 m'
  have hfail : ∀ u, Keeps s₀ u → Keeps s₀ (fail u) := fun u hu => hu.frame.tftpSend
  have hs1 : Keeps s₀ s1 := Keeps.ite h.prevOff.flashErase h
  have hs2 : Keeps s₀ s2 := hs1.flashPut
  have hs3 : Keeps s₀ s3 := hs2.recRecord
  exact Keeps.ite (hfail _ h) (Keeps.ite hs2.frame.tftpSend (Keeps.ite (hfail _ hs2) hs3.frame.tftpSend))

theorem Keeps.tftpIn (h : Keeps s₀ s) {f : TftpFrame} : Keeps s₀ (s.tftpIn f) := by
  unfold State.tftpIn
  split
  · exact h
  · exact Keeps.ite h (Keeps.ite h.tftpSend (Keeps.ite h.tftpBlock (Keeps.ite h.tftpSend h)))

theorem Keeps.execTftpData (h : Keeps s₀ s) {f : TftpFrame} : Answers s₀ (Machine.execTftpData f s) :=
  .ite (.next h.tftpIn) (.next h)

theorem Keeps.execTftpTimeout (h : Keeps s₀ s) : Answers s₀ (Machine.execTftpTimeout s) := .ite (.next h.frame) (.next h)

theorem Keeps.execRecoverySample (h : Keeps s₀ s) {low : Bool} : Answers s₀ (Machine.execRecoverySample low s) :=
  .ite (.next h.put.warmOther) (.next h)

theorem Keeps.execPorNLow (h : Keeps s₀ s) : Answers s₀ (Machine.execPorNLow s) := .next h.powerReset

theorem Keeps.execLinkDown (h : Keeps s₀ s) {pt : Fin 2} {k : Fin 4} : Answers s₀ (Machine.execLinkDown pt k s) :=
  .ite (.next h.put) (.next h)

theorem Keeps.execMirrorLinkDown (h : Keeps s₀ s) : Answers s₀ (Machine.execMirrorLinkDown s) :=
  .ite (.next h.linkLost.noteLevels) (.next h)

theorem Keeps.execMgmtLinkChange (h : Keeps s₀ s) {up : Bool} {speed : BitVec 2} :
    Answers s₀ (Machine.execMgmtLinkChange up speed s) :=
  .ite (.next h.put.put) (.next h)

theorem Keeps.execPauseTimeExpiry (h : Keeps s₀ s) {pt : Fin 2} {k : Fin 4} {prio : BitVec 3} :
    Answers s₀ (Machine.execPauseTimeExpiry pt k prio s) :=
  .ite (.next h) (.next h.setPort.netFlush)

theorem Keeps.saveDone (h : Keeps s₀ s) {j : SaveJob} : Keeps s₀ (s.saveDone j) := by
  unfold State.saveDone
  extract_lets s1 s' s'_1 s'_2
  have hs1 : Keeps s₀ s1 := h.put.put
  exact Keeps.ite hs1.frame (Keeps.ite hs1.frame (Keeps.ite hs1.frame hs1))

theorem Keeps.saveWord (h : Keeps s₀ s) : Keeps s₀ s.saveWord := by
  unfold State.saveWord
  split
  · exact h
  · split
    · exact h.frame.saveDone
    · extract_lets s1
      have hs1 : Keeps s₀ s1 := h.saveOne
      exact Keeps.ite hs1.frame.saveDone hs1.frame

theorem Keeps.execSaveWordCommit (h : Keeps s₀ s) : Answers s₀ (Machine.execSaveWordCommit s) :=
  .ite (.next h.saveWord.pllIdle) (.next h)

theorem Keeps.activateDone (h : Keeps s₀ s) : Keeps s₀ s.activateDone := by
  unfold State.activateDone
  extract_lets s1 s2
  have hs1 : Keeps s₀ s1 := h.copyHalf
  have hs2 : Keeps s₀ s2 := by
    unfold s2
    split
    · exact hs1.writeRec
    · exact hs1
  exact hs2.stageEnd.toStage.answerAsked.freeLock

theorem Keeps.execActivateDone (h : Keeps s₀ s) : Answers s₀ (Machine.execActivateDone s) := .ite (.next h.activateDone) (.next h)

theorem Keeps.alignOne (h : Keeps s₀ s) {j : Nat} {r : Int} : Keeps s₀ (s.alignOne j r) :=
  Keeps.ite h (Keeps.ite h.frame h.raise.put)

theorem Keeps.alignDone (h : Keeps s₀ s) {l : List Int} : Keeps s₀ (s.alignDone l) := by
  unfold State.alignDone
  extract_lets s1 bad s2 up s3 s' s4
  have hs1 : Keeps s₀ s1 := h.foldl (fun _ _ ht => ht.alignOne)
  have hs2 : Keeps s₀ s2 := hs1.put.retrim
  have hs3 : Keeps s₀ s3 := hs2.restOuts
  have hs4 : Keeps s₀ s4 := hs3.frame.driveOutEn
  exact hs4.syncDone.sleepIdle

theorem Keeps.execAlignDone (h : Keeps s₀ s) {trims : List Int} : Answers s₀ (Machine.execAlignDone trims s) :=
  .ite (.next h.alignDone.pllIdle.noteLevels) (.next h)

theorem Keeps.execHardRelockTimeout (h : Keeps s₀ s) : Answers s₀ (Machine.execHardRelockTimeout s) :=
  .ite (.next h.clkTimeout) (.next h)

theorem Keeps.freeRefresh (h : Keeps s₀ s) {c : Nat} : Keeps s₀ (s.freeRefresh c) :=
  Keeps.ite h (Keeps.ite h.refresh (Keeps.ite h.owe h))

theorem Keeps.execFreeModeRefresh (h : Keeps s₀ s) {x : FreeRefresh} : Answers s₀ (Machine.execFreeModeRefresh x s) :=
  .ite (.next h.freeRefresh.yieldsOf) (.next h)

theorem Keeps.execUpdateFrameDrop (h : Keeps s₀ s) {mirror : Bool} : Answers s₀ (Machine.execUpdateFrameDrop mirror s) :=
  .ite (.next h.bump) (.next h)

theorem Keeps.execMirrorCrcDrop (h : Keeps s₀ s) : Answers s₀ (Machine.execMirrorCrcDrop s) := .ite (.next h.bump) (.next h)

theorem Keeps.recArp (h : Keeps s₀ s) {b : List Byte} : Keeps s₀ (s.recArp b) := Keeps.ite h.send h

theorem Keeps.execRecoveryArp (h : Keeps s₀ s) {f : RxFrame} : Answers s₀ (Machine.execRecoveryArp f s) :=
  .ite (.next h.recArp) (.next h)

theorem Keeps.exec (h : Keeps s₀ s) {i : Instr} : Answers s₀ (Machine.exec i s) := by
  unfold Machine.exec
  split
  · exact h.execRegisterWrite
  · exact h.execBusTimeout
  · exact h.execGlbKeyWrite
  · exact h.execKeyExpiry
  · exact h.execMailboxRead
  · exact h.execMailboxWrite
  · exact h.execMailboxTimeout
  · exact h.execUpdateStrobe
  · exact h.execStrobeEffect
  · exact h.execPvWrite
  · exact h.execProg
  · exact h.execProgDone
  · exact h.execFabricLoad
  · exact h.execFabricApplied
  · exact h.execRefLoss
  · exact h.execCoastLong
  · exact h.execRefQualified
  · exact h.execRefBack
  · exact h.execRealignHardRelock
  · exact h.execSoftGo
  · exact h.execSoftRelockDone
  · exact h.execHop
  · exact h.execHopLock
  · exact h.execHopTimeout
  · exact h.execBandSearch
  · exact h.execBandSearchLock
  · exact h.execBandSearchTimeout
  · exact h.execBandMiss
  · exact h.execBandSave
  · exact h.execHardRelock
  · exact h.execHardRelockLock
  · exact h.execUnlock
  · exact h.execFaultRelock
  · exact h.execRefSelWrite
  · exact h.execStarterEdge
  · exact h.execStartTick
  · exact h.execLoadNow
  · exact h.execAlarm
  · exact h.execTriggerEdge
  · exact h.execEvtSwPulse
  · exact h.execEvtSwLevel
  · exact h.execEventHop
  · exact h.execPennantFire
  · exact h.execPennantPulseEnd
  · exact h.execEvqLostRecord
  · exact h.execEvqRead
  · exact h.execStart
  · exact h.execHeatStart
  · exact h.execPause
  · exact h.execResume
  · exact h.execResumption
  · exact h.execAbort
  · exact h.execCmdqWordWrite
  · exact h.execStop
  · exact h.execStopTakesEffect
  · exact h.execLatchClr
  · exact h.execHoldEnd
  · exact h.execMark
  · exact h.execCommitDecision
  · exact h.execExchange
  · exact h.execLapEnd
  · exact h.execFallback
  · exact h.execHoldReady
  · exact h.execHoldResume
  · exact h.execHoldLimit
  · exact h.execUnderrun
  · exact h.execSeqEcc
  · exact h.execLateWake
  · exact h.execWakeRecord
  · exact h.execCrsRead
  · exact h.execCrsWrite
  · exact h.execSegdRead
  · exact h.execSetReady
  · exact h.execClrReady
  · exact h.execSegwRead
  · exact h.execSegwWrite
  · exact h.execLoad
  · exact h.execWritePass
  · exact h.execUnload
  · exact h.execTimelineRow
  · exact h.execBlockCopyDone
  · exact h.execLateCopy
  · exact h.execFineTrimWrite
  · exact h.execBwWrite
  · exact h.execProfileRead
  · exact h.execProfileWrite
  · exact h.execCalRun
  · exact h.execCalDone
  · exact h.execCalSave
  · exact h.execRbRun
  · exact h.execRbDone
  · exact h.execPinTrimWrite
  · exact h.execCompareReport
  · exact h.execFailRecordEnter
  · exact h.execSummary
  · exact h.execSpanClose
  · exact h.execRingRdWrite
  · exact h.execRingSizeWrite
  · exact h.execCapqRead
  · exact h.execTrackWindowRead
  · exact h.execTrackWindowWrite
  · exact h.execBankRetention
  · exact h.execBankWake
  · exact h.execPanicEntry
  · exact h.execPanicExit
  · exact h.execOwedRefresh
  · exact h.execRefreshForced
  · exact h.execDramTempPoll
  · exact h.execSelfRefreshEntry
  · exact h.execSelfRefreshExit
  · exact h.execPowerDownEntry
  · exact h.execTrain
  · exact h.execTrainDone
  · exact h.execRetrain
  · exact h.execTrackingDrift
  · exact h.execRetrainDone
  · exact h.execUnfence
  · exact h.execDramSave
  · exact h.execResErr
  · exact h.execPortEnable
  · exact h.execPortDisable
  · exact h.execModeChange
  · exact h.execPortReady
  · exact h.execBatonReady
  · exact h.execLinkUp
  · exact h.execArpRequest
  · exact h.execNeighbourSolicitation
  · exact h.execPauseFrame
  · exact h.execFrameDrop
  · exact h.execXoffRepeat
  · exact h.execBadFrame
  · exact h.execOpenSession
  · exact h.execDataFrame
  · exact h.execCloseSession
  · exact h.execBatonQuery
  · exact h.execDataCommit
  · exact h.execAckTimer
  · exact h.execSessionIdle
  · exact h.execBatqWordWrite
  · exact h.execGrantSeg
  · exact h.execGrantRegion
  · exact h.execRevoke
  · exact h.execRetire
  · exact h.execOutDest
  · exact h.execBatqMark
  · exact h.execEngineDisable
  · exact h.execOutRec
  · exact h.execOutRing
  · exact h.execStartUp
  · exact h.execBrownOut
  · exact h.execWarm
  · exact h.execSleep
  · exact h.execEnterAsleep
  · exact h.execSleepTimeout
  · exact h.execWakePin
  · exact h.execWakeTimer
  · exact h.execWakeJtag
  · exact h.execDomainWake
  · exact h.execDomainReady
  · exact h.execDomainWakeTimeout
  · exact h.execDomainSleep
  · exact h.execSensorConversion
  · exact h.execTrip
  · exact h.execBridge
  · exact h.execSupplyCheck
  · exact h.execSupplyCheckDone
  · exact h.execLogqLostRecord
  · exact h.execLogqRead
  · exact h.execFreezePin
  · exact h.execFreeze
  · exact h.execFreezePinRelease
  · exact h.execRelease
  · exact h.execRingDataRead
  · exact h.execTapReset
  · exact h.execExtest
  · exact h.execIdcode
  · exact h.execSamplePreload
  · exact h.execStateRing
  · exact h.execDbgAccess
  · exact h.execBypass
  · exact h.execAlign
  · exact h.execCal
  · exact h.execCalComplete
  · exact h.execSyncSave
  · exact h.execRoleWrite
  · exact h.execMirrorLinkUp
  · exact h.execHeartbeatSend
  · exact h.execIdentSend
  · exact h.execIdent
  · exact h.execHeartbeat
  · exact h.execDecision
  · exact h.execDecisionTimeout
  · exact h.execLapMarkSend
  · exact h.execLapMark
  · exact h.execMirFault
  · exact h.execHeartbeatLost
  · exact h.execTake
  · exact h.execTakeover
  · exact h.execTakeoverTick
  · exact h.execOutEnRise
  · exact h.execMirTxWordWrite
  · exact h.execMsg
  · exact h.execMirqRead
  · exact h.execMgmtRxFrame
  · exact h.execTxGo
  · exact h.execMgmtTxDone
  · exact h.execMdioGo
  · exact h.execMdioDone
  · exact h.execClaim
  · exact h.execFrag
  · exact h.execChunkProgrammed
  · exact h.execVerify
  · exact h.execVerifyDone
  · exact h.execActivate
  · exact h.execUpdAbort
  · exact h.execUpdRelease
  · exact h.execUpdQuery
  · exact h.execMirUpdFrame
  · exact h.execLockIdle
  · exact h.execConfirm
  · exact h.execRevert
  · exact h.execBreakLock
  · exact h.execTftpWriteRequest
  · exact h.execTftpData
  · exact h.execTftpTimeout
  · exact h.execRecoverySample
  · exact h.execPorNLow
  · exact h.execLinkDown
  · exact h.execMirrorLinkDown
  · exact h.execMgmtLinkChange
  · exact h.execPauseTimeExpiry
  · exact h.execSaveWordCommit
  · exact h.execActivateDone
  · exact h.execAlignDone
  · exact h.execHardRelockTimeout
  · exact h.execFreeModeRefresh
  · exact h.execUpdateFrameDrop
  · exact h.execMirrorCrcDrop
  · exact h.execRecoveryArp

theorem Keeps.step (h : Keeps s₀ s) : Answers s₀ (Machine.step s) := by
  unfold Machine.step
  split
  · exact .next h.idle
  · exact h.frame.exec

end

/-- Settles O49, by the rules of `Keeps` for `exec` and `step`, from the state itself. -/
theorem memoryStaysCanonical : Obligations.MemoryStaysCanonical := by
  unfold Obligations.MemoryStaysCanonical
  refine ⟨fun s c w => ?_, fun s w => ?_⟩
  · obtain ⟨t, ht, hk⟩ := (Keeps.refl s).exec (i := c)
    exact ⟨t, ht, hk w⟩
  · obtain ⟨t, ht, hk⟩ := (Keeps.refl s).step
    exact ⟨t, ht, hk w⟩

/-- Settles O46: `Keeps.exec` answers a next state for every command, and asks nothing of the state. -/
theorem neverStops : Obligations.NeverStops := by
  unfold Obligations.NeverStops
  intro s c
  obtain ⟨t, ht, -⟩ := (Keeps.refl s).exec (i := c)
  exact ⟨t, ht, trivial⟩

end Sys2Proof.Machine
end

section
/-! SUPPORT. The places of DRAM addresses (R227, R228): every place of a reserve address lies below the share that its channel
sets aside, every place of a heat address above it, and each kind tells its addresses apart. -/

namespace Sys2Proof.Machine

theorem bits8_nodup (m : Nat) : (bits8 m).Nodup := List.nodup_range.filter _

theorem State.enabled_nodup (s : State) : s.enabled.Nodup := bits8_nodup _

/-- The copies that the reserve keeps of a byte. -/
def State.resCopies (s : State) : Nat := if s.flag F.DRAM_CFG_RES_MIRROR then 2 else 1

/-- The channels over which the reserve deals its pages, a mirrored pair counted once. -/
def State.resStripes (s : State) : Nat := s.enabled.length / s.resCopies

/-- The place of copy `k` of a reserve byte. -/
def State.resPlace (s : State) (a k : Nat) : Nat × Nat :=
  (s.enabled.getD (s.resCopies * (a / 4096 % s.resStripes) + k) 0, a / 4096 / s.resStripes * 4096 + a % 4096)

section
variable {s : State}

theorem State.resCopies_eq (s : State) : s.resCopies = 1 ∨ s.resCopies = 2 := by
  unfold State.resCopies
  split
  · exact .inr rfl
  · exact .inl rfl

theorem State.dramSane_iff : s.dramSane = true ↔ s.enabled ≠ [] ∧ (s.flag F.DRAM_CFG_RES_MIRROR = true → s.enabled.length % 2 = 0) ∧
    s.fld F.DRAM_CFG_CH_SIZE ≤ 2 ∧ s.share + 65536 ≤ s.chSize := by
  cases h : s.flag F.DRAM_CFG_RES_MIRROR <;> simp [State.dramSane, h, and_assoc]

/-- The channels are a whole number of the groups that hold one byte. -/
theorem State.resCopies_mul_resStripes (h : s.dramSane = true) : s.resCopies * s.resStripes = s.enabled.length := by
  obtain ⟨-, he, -⟩ := State.dramSane_iff.1 h
  refine Nat.mul_div_cancel' ?_
  unfold State.resCopies
  split
  · exact Nat.dvd_of_mod_eq_zero (he ‹_›)
  · exact one_dvd _

theorem State.resStripes_pos (h : s.dramSane = true) : 0 < s.resStripes := by
  obtain ⟨hne, -⟩ := State.dramSane_iff.1 h
  have he := List.length_pos_iff.2 hne
  rw [← State.resCopies_mul_resStripes h] at he
  exact Nat.pos_of_mul_pos_left he

/-- The places of a reserve address are those of its copies. -/
theorem State.dramLocs_reserve {a : Nat} {x : Nat × Nat} (ha : a < s.resBytes) (hx : x ∈ s.dramLocs a) :
    ∃ k < s.resCopies, x = s.resPlace a k := by
  unfold State.dramLocs at hx
  extract_lets en e r h ofs at hx
  split at hx
  · cases hx
  · unfold State.resPlace State.resStripes State.resCopies
    split at hx
    · rename_i hm
      simp only [List.mem_cons, List.not_mem_nil, or_false] at hx
      simp only [hm, if_true]
      obtain rfl | rfl := hx
      · exact ⟨0, by omega, rfl⟩
      · exact ⟨1, by omega, rfl⟩
    · rename_i hm
      rw [List.mem_singleton] at hx
      simp only [hm, Bool.false_eq_true, if_false, one_mul, Nat.div_one]
      exact ⟨0, by omega, hx⟩

/-- A heat address has the place that its channel set, grain and order give. -/
theorem State.dramLocs_heat {a : Nat} {x : Nat × Nat} (ha : ¬ a < s.resBytes) (hx : x ∈ s.dramLocs a) :
    a - s.resBytes < s.heatBytes ∧
      heatLoc s.mappedNow (s.fld F.DRAM_CFG_MAP_ORDER) s.share (a - s.resBytes) = some x := by
  unfold State.dramLocs at hx
  extract_lets en e r h ofs at hx
  split at hx
  · cases hx
  · split at hx
    · refine ⟨‹_›, ?_⟩
      split at hx
      · rw [List.mem_singleton] at hx
        rwa [hx]
      · cases hx
    · cases hx

/-! ### The reserve -/

/-- A page's number on its stripe is below the pages that each channel sets aside, which are rounded up. -/
theorem div_lt_share {c h r u : Nat} (hc : 0 < c) (hh : 0 < h) (hr : r < u) : r / h < (c * u + c * h - 1) / (c * h) := by
  have hq := Nat.div_add_mod (c * u + c * h - 1) (c * h)
  have hm := Nat.mod_lt (c * u + c * h - 1) (Nat.mul_pos hc hh)
  have hle : c * u ≤ c * (h * ((c * u + c * h - 1) / (c * h))) := by
    rw [← mul_assoc]
    omega
  exact Nat.div_lt_of_lt_mul (hr.trans_le (Nat.le_of_mul_le_mul_left hle hc))

theorem State.share_eq (h : s.dramSane = true) :
    s.share = (s.resCopies * (s.fld F.DRAM_CFG_RES_GIB * 2 ^ 18) + s.resCopies * s.resStripes - 1) /
      (s.resCopies * s.resStripes) * 4096 := by
  rw [State.resCopies_mul_resStripes h]
  unfold State.share resShare State.resCopies
  split <;> simp only [one_mul, *]

/-- A reserve place lies in the share that its channel sets aside. -/
theorem State.resPlace_lt {a k : Nat} (h : s.dramSane = true) (ha : a < s.resBytes) : (s.resPlace a k).2 < s.share := by
  have hc : 0 < s.resCopies := by
    have := s.resCopies_eq
    omega
  have hr : a / 4096 < s.fld F.DRAM_CFG_RES_GIB * 2 ^ 18 := by
    unfold State.resBytes at ha
    omega
  have hd := div_lt_share hc (State.resStripes_pos h) hr
  rw [State.share_eq h]
  unfold State.resPlace
  dsimp only
  omega

/-- Copies of two reserve bytes that share a place are copies of one byte. -/
theorem State.resPlace_inj {a b j k : Nat} (h : s.dramSane = true) (hj : j < s.resCopies) (hk : k < s.resCopies)
    (e : s.resPlace a j = s.resPlace b k) : a = b := by
  obtain ⟨hc, ho⟩ := Prod.mk.inj e
  have hpos := State.resStripes_pos h
  have hlt (r i : Nat) (hi : i < s.resCopies) : s.resCopies * (r % s.resStripes) + i < s.enabled.length := by
    rw [← State.resCopies_mul_resStripes h]
    calc s.resCopies * (r % s.resStripes) + i < s.resCopies * (r % s.resStripes + 1) := by rw [mul_add]; omega
      _ ≤ _ := Nat.mul_le_mul_left _ (Nat.mod_lt r hpos)
  rw [List.getD_eq_getElem _ _ (hlt _ _ hj), List.getD_eq_getElem _ _ (hlt _ _ hk), s.enabled_nodup.getElem_inj_iff] at hc
  have hmod : a / 4096 % s.resStripes = b / 4096 % s.resStripes := by
    rcases s.resCopies_eq with e | e <;> rw [e] at hc hj hk <;> omega
  have hdiv : a / 4096 / s.resStripes = b / 4096 / s.resStripes := by omega
  have hpage : a / 4096 = b / 4096 := Nat.ext_div_mod hdiv hmod
  omega

end

/-! ### The heat space -/

theorem grainOf_eq (o : Nat) : grainOf o = 256 ∨ grainOf o = 1024 ∨ grainOf o = 4096 := by
  unfold grainOf
  split
  · exact .inl rfl
  · exact .inr (.inl rfl)
  · exact .inr (.inr rfl)

theorem grainOf_dvd (o : Nat) : grainOf o ∣ 4096 := by
  rcases grainOf_eq o with h | h | h <;> rw [h] <;> decide

/-- The position in the mapped set of the channel that holds grain `u` of the heat space (R228). -/
def heatTurn (order d u : Nat) : Nat := if bitOf order 2 then (u + u / d) % d else u % d

theorem heatLoc_eq (chs : List Nat) (o share a : Nat) : heatLoc chs o share a =
    chs[heatTurn o chs.length (a / grainOf o)]?.map fun c => (c, share + a / grainOf o / chs.length * grainOf o + a % grainOf o) := by
  unfold heatLoc
  extract_lets g d u i
  have hi : heatTurn o d u = i := rfl
  rw [hi]
  cases chs[i]? <;> rfl

theorem heatLoc_some {chs : List Nat} {o share a : Nat} {x : Nat × Nat} (h : heatLoc chs o share a = some x) :
    chs[heatTurn o chs.length (a / grainOf o)]? = some x.1 ∧
      x.2 = share + a / grainOf o / chs.length * grainOf o + a % grainOf o := by
  rw [heatLoc_eq, Option.map_eq_some_iff] at h
  obtain ⟨c, hc, rfl⟩ := h
  exact ⟨hc, rfl⟩

/-- Within one round over the channels, each grain has its own turn. -/
theorem heatTurn_inj {o d u v : Nat} (hd : u / d = v / d) (h : heatTurn o d u = heatTurn o d v) : u = v := by
  refine Nat.ext_div_mod hd ?_
  unfold heatTurn at h
  split at h
  · rw [hd] at h
    exact Nat.ModEq.add_right_cancel' _ h
  · exact h

/-- Two heat bytes that share a place are one. -/
theorem heatLoc_inj {chs : List Nat} {o share a b : Nat} {x : Nat × Nat} (hn : chs.Nodup)
    (ha : heatLoc chs o share a = some x) (hb : heatLoc chs o share b = some x) : a = b := by
  obtain ⟨hac, hao⟩ := heatLoc_some ha
  obtain ⟨hbc, hbo⟩ := heatLoc_some hb
  have hg : 0 < grainOf o := Nat.pos_of_dvd_of_pos (grainOf_dvd o) (by decide)
  have hma := Nat.mod_lt a hg
  have hmb := Nat.mod_lt b hg
  have ho : a / grainOf o / chs.length = b / grainOf o / chs.length ∧ a % grainOf o = b % grainOf o := by
    rcases grainOf_eq o with e | e | e <;> rw [e] at hao hbo hma hmb ⊢ <;> omega
  have hlt := (List.getElem?_eq_some_iff.1 hac).1
  have ht := (List.getElem?_inj hlt hn).1 (hac.trans hbc.symm)
  exact Nat.ext_div_mod (heatTurn_inj ho.1 ht) ho.2

/-- A heat place lies above the share and inside the channel. -/
theorem heatLoc_bounds {chs : List Nat} {o share size a : Nat} {x : Nat × Nat} (hg : grainOf o ∣ size)
    (ha : a < chs.length * size) (h : heatLoc chs o share a = some x) : share ≤ x.2 ∧ x.2 < share + size := by
  obtain ⟨-, ho⟩ := heatLoc_some h
  obtain ⟨q, rfl⟩ := hg
  have hpos : 0 < grainOf o := Nat.pos_of_dvd_of_pos (grainOf_dvd o) (by decide)
  have hm := Nat.mod_lt a hpos
  have hu : a / grainOf o < chs.length * q := Nat.div_lt_of_lt_mul (by rwa [mul_left_comm])
  have hq : a / grainOf o / chs.length < q := Nat.div_lt_of_lt_mul hu
  have hle := Nat.mul_le_mul_left (grainOf o) hq
  rw [Nat.mul_succ, mul_comm] at hle
  omega

section
variable {s : State} {a b : Nat} {x : Nat × Nat}

/-- What a channel has left for the heat space is a whole number of grains. -/
theorem State.grain_dvd_heat (s : State) (o : Nat) : grainOf o ∣ s.chSize - s.share - 65536 := by
  refine (grainOf_dvd o).trans (Nat.dvd_sub (Nat.dvd_sub ?_ ?_) (by decide))
  · exact (pow_dvd_pow 2 (by omega : 12 ≤ 32 + s.fld F.DRAM_CFG_CH_SIZE) : 2 ^ 12 ∣ _)
  · exact Dvd.intro_left _ rfl

/-- A heat place lies above its channel's share, and inside the channel. -/
theorem State.dramLocs_heat_bounds (h : s.dramSane = true) (ha : ¬ a < s.resBytes) (hx : x ∈ s.dramLocs a) :
    s.share ≤ x.2 ∧ x.2 < s.chSize := by
  obtain ⟨hlt, hl⟩ := State.dramLocs_heat ha hx
  obtain ⟨-, -, -, hs⟩ := State.dramSane_iff.1 h
  have hb := heatLoc_bounds (s.grain_dvd_heat _) hlt hl
  omega

/-- A reserve place lies in its channel's share. -/
theorem State.dramLocs_reserve_lt (h : s.dramSane = true) (ha : a < s.resBytes) (hx : x ∈ s.dramLocs a) : x.2 < s.share := by
  obtain ⟨k, -, rfl⟩ := State.dramLocs_reserve ha hx
  exact State.resPlace_lt h ha

/-- Every place lies inside its channel. -/
theorem State.dramLocs_lt_chSize (h : s.dramSane = true) (hx : x ∈ s.dramLocs a) : x.2 < s.chSize := by
  obtain ⟨-, -, -, hs⟩ := State.dramSane_iff.1 h
  by_cases ha : a < s.resBytes
  · have := State.dramLocs_reserve_lt h ha hx
    omega
  · exact (State.dramLocs_heat_bounds h ha hx).2

/-- Two addresses that share a place are one. -/
theorem State.dramLocs_inj (h : s.dramSane = true) (ha : x ∈ s.dramLocs a) (hb : x ∈ s.dramLocs b) : a = b := by
  by_cases ra : a < s.resBytes <;> by_cases rb : b < s.resBytes
  · obtain ⟨j, hj, rfl⟩ := State.dramLocs_reserve ra ha
    obtain ⟨k, hk, e⟩ := State.dramLocs_reserve rb hb
    exact State.resPlace_inj h hj hk e
  · have hlt := State.dramLocs_reserve_lt h ra ha
    have hle := (State.dramLocs_heat_bounds h rb hb).1
    omega
  · have hlt := State.dramLocs_reserve_lt h rb hb
    have hle := (State.dramLocs_heat_bounds h ra ha).1
    omega
  · have hd := heatLoc_inj (bits8_nodup _) (State.dramLocs_heat ra ha).2 (State.dramLocs_heat rb hb).2
    omega

/-- Places inside a channel have keys of their own, since no channel is larger than 16 GiB. -/
theorem dramKey_inj {y : Nat × Nat} (h : s.dramSane = true) (hx : x.2 < s.chSize) (hy : y.2 < s.chSize)
    (e : dramKey x = dramKey y) : x = y := by
  obtain ⟨-, -, hc, -⟩ := State.dramSane_iff.1 h
  have hs : s.chSize ≤ 2 ^ 34 := Nat.pow_le_pow_right (by decide) (by omega)
  unfold dramKey at e
  exact Prod.ext (by omega) (by omega)

/-- A store leaves what an address reads as where it writes none of its keys. -/
theorem State.dramWrite_dramRead_of_keys {v : Byte} (h : ∀ y ∈ s.dramLocs a, ∀ l ∈ s.dramLocs b, dramKey y ≠ dramKey l) :
    (s.dramWrite a v).dramRead b = s.dramRead b := by
  unfold State.dramRead
  rw [State.dramWrite_dramLocs]
  simp only [State.dramWrite_fenced]
  split
  · rename_i l hl
    have hb : l ∈ s.dramLocs b := List.mem_of_find?_eq_some hl
    have hk : ((s.dramLocs a).filter (fun l => !s.fenced l.1)).any (fun y => decide (dramKey y = dramKey l)) = false := by
      rw [List.any_eq_false]
      exact fun y hy e => h y (List.mem_filter.1 hy).1 l hb (of_decide_eq_true e)
    have hd : (s.dramWrite a v).dramDef = s.dramDef := rfl
    rw [hd]
    unfold State.dramWrite
    rw [Sp.get_foldl_set, hk, if_neg Bool.false_ne_true]
  · rfl

/-- A store leaves what every other address reads as: none of the keys it writes is one of theirs. -/
theorem State.dramWrite_dramRead_ne {v : Byte} (h : s.dramSane = true) (hab : a ≠ b) :
    (s.dramWrite a v).dramRead b = s.dramRead b :=
  State.dramWrite_dramRead_of_keys fun _ hy _ hl e =>
    have hyl := dramKey_inj h (State.dramLocs_lt_chSize h hy) (State.dramLocs_lt_chSize h hl) e
    hab (State.dramLocs_inj h hy (hyl ▸ hl))

end

/-- Settles O54: by the places' injectivity and bounds, and for a store by that of their keys. -/
theorem dramPlacesApart : Obligations.DramPlacesApart := by
  unfold Obligations.DramPlacesApart
  exact ⟨fun _ _ _ _ h hab hx => ⟨fun hb => hab (State.dramLocs_inj h hx hb), State.dramLocs_lt_chSize h hx⟩,
    fun _ _ _ _ h hab => State.dramWrite_dramRead_ne h hab⟩

end Sys2Proof.Machine
end

section
/-! SUPPORT. A state in which the cycle of a register write also finds EVQ's pointers in disagreement (R294): the look at the
level events that ends the cycle (R97) decides a jump, its shortfall is recorded, and the record enters EVQ. -/

namespace Sys2Proof.Machine

/-- Sequencer 0 plays an IMMEDIATE entry whose level condition has just come to be met; the target's refilled segment is not READY;
EVQ is empty, and its pointers have been upset. -/
def State.upsetRace : State :=
  let s := (((State.reset.put F.SUP_STAT_STAGE 9).put F.SEQ_STAT_HEAT 3).put (F.SQ_STAT_STATE 0) sqRunning).put (F.EVT_MAP_ROUTE 5) 1
  { s.setSq 0 { visit := some { entry := 0, f := 0, cur := 0 } } with
      sup := { s.sup with por := false }
      ev := { s.ev with lvlHeat := 2 ^ 5 }
      q := { s.q with upset := 2 ^ 8 }
      mem := { s.mem with course := [(1, 1#32), (3, 0x04000000#32), (4, 5#32), (8, 1#32)], dir := [(5, 2#32)] } }

theorem State.upsetRace_takes : State.upsetRace.takes 0x54 0 false = true := by decide +kernel

/-- A write of zeros to GLB_ERR, every flag of which is 0, leaves QPTR_ERR at 1. -/
theorem State.upsetRace_writeRow :
    getBits 0 7 ((State.upsetRace.writeRow 0x54 0 false).rd 0x54) = 32 ∧ getBits 0 7 (State.upsetRace.rd 0x54 &&& ~~~0) = 0 := by
  decide +kernel

/-- Refutes O1: a pointer mismatch of EVQ found in the cycle of a write to GLB_ERR sets QPTR_ERR, which the write does not touch. -/
theorem not_registerWritesAct : ¬ Obligations.RegisterWritesAct := by
  unfold Obligations.RegisterWritesAct
  rintro ⟨-, hglb, -⟩
  obtain ⟨t, ht, hbits, -⟩ := hglb State.upsetRace 0 false State.upsetRace_takes
  obtain ⟨hset, hclear⟩ := State.upsetRace_writeRow
  have ht : State.upsetRace.writeRow 0x54 0 false = t := Host.Outcome.next.inj ht
  rw [← ht, hset, hclear] at hbits
  exact absurd hbits (by decide)

end Sys2Proof.Machine
end

section
/-! SUPPORT. What making a bank or a channel ready and what the outputs' joining leave: the memories, the lanes, the waking banks,
the DRAM's places, and every register but those they name. -/

namespace Sys2Proof.Machine

/-- Of the registers a change touches those of `A` alone, and of the rest nothing that a bank, a lane or a segment's place depends on. -/
structure Woken (A : Nat → Bool) (s t : State) : Prop where
  mem : t.mem = s.mem
  lanes : t.plan.lanes = s.plan.lanes
  waking : t.sup.wakingBanks = s.sup.wakingBanks
  unlisted : t.dramDef = s.dramDef
  sq : t.sq = s.sq
  heat : t.tm.heat = s.tm.heat
  fenced : t.fld F.DRAM_STAT_FENCED = s.fld F.DRAM_STAT_FENCED
  rd : ∀ a, A a = false → t.rd a = s.rd a

/-- The registers of the outputs: fine channels and vector pins. -/
def outReg (a : Nat) : Bool := decide (0x80000 ≤ a) && decide (a < 0x98000)

section
variable {A : Nat → Bool} {s t u : State}

theorem Woken.refl (A : Nat → Bool) (s : State) : Woken A s s := ⟨rfl, rfl, rfl, rfl, rfl, rfl, rfl, fun _ _ => rfl⟩

theorem Woken.trans (h : Woken A s t) (k : Woken A t u) : Woken A s u where
  mem := k.mem.trans h.mem
  lanes := k.lanes.trans h.lanes
  waking := k.waking.trans h.waking
  unlisted := k.unlisted.trans h.unlisted
  sq := k.sq.trans h.sq
  heat := k.heat.trans h.heat
  fenced := k.fenced.trans h.fenced
  rd := fun a ha => (k.rd a ha).trans (h.rd a ha)

theorem Woken.ite {c : Prop} [Decidable c] (h : Woken A s t) (k : Woken A s u) : Woken A s (if c then t else u) := by
  split
  · exact h
  · exact k

theorem Woken.foldl {α : Type} {l : List α} {f : State → α → State} (h : ∀ t, ∀ x ∈ l, Woken A t (f t x)) :
    Woken A s (l.foldl f s) :=
  List.foldlRecOn (motive := fun t => Woken A s t) l f (Woken.refl A s) fun t ht x hx => ht.trans (h t x hx)

theorem Woken.mono {B : Nat → Bool} (h : Woken A s t) (hAB : ∀ a, B a = false → A a = false) : Woken B s t :=
  { h with rd := fun a ha => h.rd a (hAB a ha) }

/-- A change of no register, of no memory and of nothing in a channel's record that a reset keeps. -/
theorem Woken.frame (hm : t.mem = s.mem) (hl : t.plan.lanes = s.plan.lanes) (hw : t.sup.wakingBanks = s.sup.wakingBanks)
    (hc : ∀ c, (t.dch c).kept = (s.dch c).kept) (hq : t.sq = s.sq) (hh : t.tm.heat = s.tm.heat) (hr : t.regs = s.regs) :
    Woken A s t where
  mem := hm
  lanes := hl
  waking := hw
  unlisted := State.dramDef_congr hc
  sq := hq
  heat := hh
  fenced := by rw [State.fld, State.rd, hr]; rfl
  rd := fun a _ => by rw [State.rd, hr]; rfl

theorem Woken.put {f : Fld} {v : Nat} (h : A f.a = true) (hf : Fld.apart F.DRAM_STAT_FENCED f = true) : Woken A s (s.put f v) where
  mem := rfl
  lanes := rfl
  waking := rfl
  unlisted := rfl
  sq := rfl
  heat := rfl
  fenced := State.put_fld_apart hf
  rd := fun a ha => State.put_rd_ne fun e => by rw [e, h] at ha; cases ha

/-- The status of an output changes. -/
theorem Woken.putOut {f : Fld} {v : Nat} (h : outReg f.a = true) : Woken outReg s (s.put f v) := by
  refine Woken.put h ?_
  simp only [outReg, Bool.and_eq_true, decide_eq_true_eq] at h
  simp only [Fld.apart, Bool.or_eq_true, decide_eq_true_eq]
  exact .inl (by omega)

/-- An event or fault record enters. -/
theorem Woken.onlyQ {B : List Nat} (h : OnlyQ B s t) (hB : ∀ a ∈ B, A a = true) (hf : 0xB0000 ∉ B) : Woken A s t where
  mem := h.mem
  lanes := by rw [h.plan]
  waking := by rw [h.sup]
  unlisted := State.dramDef_congr fun c => by rw [State.dch, h.dram]; rfl
  sq := h.sq
  heat := by rw [h.tm]
  fenced := by rw [State.fld, h.2 _ hf]; rfl
  rd := fun a ha => h.2 a fun hx => by rw [hB a hx] at ha; cases ha

end

/-! ### Outputs -/

section
variable {s : State}

theorem Woken.setFc {A : Nat → Bool} {n : Nat} {c : Fc} : Woken A s (s.setFc n c) := Woken.frame rfl rfl rfl (fun _ => rfl) rfl rfl rfl

theorem Woken.putFc {n k lo w v : Nat} (h : n < 64) (hk : k < 0x400) :
    Woken outReg s (s.put ⟨0x80000 + k + 0x400 * n, lo, w⟩ v) := by
  refine Woken.putOut ?_
  simp only [outReg, Bool.and_eq_true, decide_eq_true_eq]
  omega

theorem Woken.putVp {n k lo w v : Nat} (h : n < 128) (hk : k < 0x100) :
    Woken outReg s (s.put ⟨0x90000 + k + 0x100 * n, lo, w⟩ v) := by
  refine Woken.putOut ?_
  simp only [outReg, Bool.and_eq_true, decide_eq_true_eq]
  omega

theorem Woken.fcStat {n lo w v : Nat} (h : n < 64) : Woken outReg s (s.put ⟨0x80004 + 0x400 * n, lo, w⟩ v) :=
  Woken.putFc h (k := 4) (by decide)

theorem Woken.fcCnt {n lo w v : Nat} (h : n < 64) : Woken outReg s (s.put ⟨0x80038 + 0x400 * n, lo, w⟩ v) :=
  Woken.putFc h (k := 0x38) (by decide)

theorem Woken.vpStat {n lo w v : Nat} (h : n < 128) : Woken outReg s (s.put ⟨0x90014 + 0x100 * n, lo, w⟩ v) :=
  Woken.putVp h (k := 0x14) (by decide)

theorem Woken.offHold {n : Nat} (h : n < 64) : Woken outReg s (s.offHold n) :=
  Woken.ite (Woken.setFc.trans (Woken.fcStat h)) (Woken.refl _ s)

theorem Woken.restFc {hold : Bool} {n : Nat} (h : n < 64) : Woken outReg s (s.restFc hold n) :=
  (Woken.fcStat h).trans (Woken.fcStat h)

theorem Woken.restVp {hold : Bool} {n : Nat} (h : n < 128) : Woken outReg s (s.restVp hold n) :=
  ((Woken.vpStat h).trans (Woken.vpStat h)).trans (Woken.vpStat h)

theorem Woken.restOuts {hold : Bool} {fcs vps : List Nat} (hf : ∀ n ∈ fcs, n < 64) (hv : ∀ n ∈ vps, n < 128) :
    Woken outReg s (s.restOuts hold fcs vps) :=
  (Woken.foldl fun _ n hn => Woken.restFc (hf n hn)).trans (Woken.foldl fun _ n hn => Woken.restVp (hv n hn))

theorem Woken.satRegs {n : Nat} {sat isat : Bool} (h : n < 64) : Woken outReg s { s with regs := s.satRegs n sat isat } := by
  have hs : Woken outReg s (if sat then (s.raise (F.FC_STAT_SAT n)).bump (F.FC_CNT_SAT_COUNT n) else s) :=
    Woken.ite ((Woken.fcStat h).trans (Woken.fcCnt h)) (Woken.refl _ s)
  unfold State.satRegs
  cases sat <;> cases isat
  · exact Woken.refl _ s
  · exact hs.trans ((Woken.fcStat h).trans (Woken.fcCnt h))
  · exact hs
  · exact hs.trans ((Woken.fcStat h).trans (Woken.fcCnt h))

/-- A tick that goes through a channel changes the channel, its status and the count of free values. -/
theorem Woken.fineTick {ls : List (Nat × Nat × Nat × Nat)} {n t : Nat} (h : n < 64) : Woken outReg s (s.fineTick ls n t) :=
  (Woken.satRegs h).trans (Woken.frame rfl rfl rfl (fun _ => rfl) rfl rfl rfl)

theorem State.onPath_lt {n : Nat} (h : n ∈ s.onPath) : n < 64 := List.mem_range.1 (List.mem_filter.1 h).1

theorem State.fcsOf_lt {m n : Nat} (h : n ∈ s.fcsOf m) : n < 64 := List.mem_range.1 (List.mem_filter.1 h).1

theorem State.vpsOf_lt {m n : Nat} (h : n ∈ s.vpsOf m) : n < 128 := List.mem_range.1 (List.mem_filter.1 h).1

theorem Woken.fineUp {t : Nat} : Woken outReg s (s.fineUp t) := by
  unfold State.fineUp
  refine Woken.ite (Woken.refl _ s) (Woken.ite (Woken.frame rfl rfl rfl (fun _ => rfl) rfl rfl rfl) ?_)
  extract_lets cs ls ts s1
  have hs1 : Woken outReg s s1 := Woken.foldl fun _ _ _ => Woken.foldl fun _ _ hc => Woken.fineTick (State.onPath_lt hc)
  exact hs1.trans (Woken.frame rfl rfl rfl (fun _ => rfl) rfl rfl rfl)

theorem Woken.fineNow : Woken outReg s s.fineNow := Woken.fineUp

theorem Woken.playOuts {n : Nat} : Woken outReg s (s.playOuts n) := by
  unfold State.playOuts
  extract_lets e fcs vps s1
  have hs1 : Woken outReg s s1 := Woken.foldl fun _ c hc =>
    have hc := State.fcsOf_lt (List.mem_filter.1 hc).1
    (Woken.fcStat hc).trans (Woken.offHold hc)
  exact hs1.trans (Woken.foldl fun _ c hc =>
    have hc := State.vpsOf_lt (List.mem_filter.1 hc).1
    (Woken.vpStat hc).trans (Woken.vpStat hc))

theorem Woken.backDrive {p : Nat} (h : p < 128) : Woken outReg s (s.backDrive p) := Woken.ite (Woken.refl _ s) (Woken.vpStat h)

theorem Woken.joinSq {n : Nat} : Woken outReg s (s.joinSq n) := by
  unfold State.joinSq
  extract_lets s1
  have hs1 : Woken outReg s s1 := Woken.playOuts
  exact Woken.ite (hs1.trans (Woken.foldl fun _ p hp => Woken.backDrive (State.vpsOf_lt (List.mem_filter.1 hp).1))) hs1

theorem Woken.joinAll : Woken outReg s s.joinAll :=
  Woken.fineNow.trans (Woken.foldl fun _ _ _ => Woken.ite (Woken.refl _ _) (Woken.ite Woken.joinSq (Woken.refl _ _)))

end

/-! ### Channels -/

/-- The registers of the outputs, of the power state, of DRAM channels' readiness, and of event and fault records. -/
def reachReg (a : Nat) : Bool :=
  outReg a || evRegs.contains a || [0x10008, 0x120058, 0x12005C, 0xB0000, 0xB001C].contains a

section
variable {s : State}

theorem Woken.toReach {t : State} (h : Woken outReg s t) : Woken reachReg s t :=
  h.mono fun a ha => by
    simp only [reachReg, Bool.or_eq_false_iff] at ha
    exact ha.1.1

theorem awakeBit_a (d : Nat) : (awakeBit d).a = 0x120058 ∨ (awakeBit d).a = 0x12005C := by
  unfold awakeBit
  split
  · exact .inl rfl
  · exact .inr rfl

theorem Woken.putAwake {d v : Nat} : Woken reachReg s (s.put (awakeBit d) v) := by
  refine Woken.put ?_ ?_
  · rcases awakeBit_a d with h | h <;> rw [h] <;> decide
  · rcases awakeBit_a d with h | h <;> simp only [Fld.apart, h] <;> rfl

theorem Woken.eventNow {a b c : Nat} : Woken reachReg s (s.eventNow a b c) :=
  Woken.onlyQ (s.eventNow_only a b c) (by decide) (by decide)

theorem domFcs_lt {d n : Nat} (h : n ∈ domFcs d) : n < 64 := by
  unfold domFcs at h
  split at h
  · obtain ⟨j, hj, rfl⟩ := List.mem_map.1 h
    have := List.mem_range.1 hj
    omega
  · cases h

theorem domVps_lt {d n : Nat} (h : n ∈ domVps d) : n < 128 := by
  unfold domVps at h
  split at h
  · obtain ⟨j, hj, rfl⟩ := List.mem_map.1 h
    have := List.mem_range.1 hj
    omega
  · cases h

theorem Woken.handOver {d : Nat} : Woken outReg s (s.handOver (domFcs d) (domVps d)) :=
  (Woken.foldl fun _ _ hn => Woken.offHold (domFcs_lt hn)).trans (Woken.foldl fun _ _ hn => Woken.vpStat (domVps_lt hn))

theorem Woken.calStart : Woken outReg s s.calStart :=
  Woken.foldl fun _ _ hn => Woken.ite (Woken.setFc.trans (Woken.fcStat (List.mem_range.1 hn))) (Woken.refl _ _)

theorem Woken.alignOuts {d : Nat} : Woken outReg s (s.alignOuts (domFcs d) (domVps d)) :=
  (Woken.foldl fun _ _ hn => (Woken.offHold (domFcs_lt hn)).trans (Woken.fcStat (domFcs_lt hn))).trans
    (Woken.foldl fun _ _ hn => (Woken.vpStat (domVps_lt hn)).trans (Woken.vpStat (domVps_lt hn)))

theorem Woken.setAwake {d : Nat} : Woken reachReg s (s.setAwake d) := by
  unfold State.setAwake
  extract_lets s1 u s2
  have hs1 : Woken reachReg s s1 := Woken.putAwake.trans Woken.handOver.toReach
  have hs2 : Woken reachReg s s2 := by
    unfold s2
    refine (hs1.trans ?_).trans Woken.calStart.toReach
    exact Woken.frame rfl rfl rfl (fun _ => rfl) rfl rfl rfl
  exact Woken.ite (hs2.trans Woken.alignOuts.toReach) hs2

theorem Woken.markWaking {d : Nat} : Woken reachReg s (s.markWaking d) := Woken.frame rfl rfl rfl (fun _ => rfl) rfl rfl rfl

theorem selfRef_apart (c : Nat) : Fld.apart F.DRAM_STAT_FENCED (selfRef c) = true := by
  have h : (selfRef c).lo = 16 + c := rfl
  simp [h]

/-- A channel leaves self-refresh (R238). -/
theorem Woken.leaveSelfRef {c : Nat} : Woken reachReg s (s.leaveSelfRef c) := by
  have hp : Woken reachReg (s.markWaking (0x18 + c)) ((s.markWaking (0x18 + c)).put (selfRef c) 0) :=
    Woken.put rfl (selfRef_apart c)
  exact ((Woken.markWaking.trans hp).trans Woken.setAwake).trans Woken.eventNow

theorem Woken.wakePll : Woken reachReg s s.wakePll := by
  unfold State.wakePll
  refine Woken.ite (Woken.refl _ s) ?_
  extract_lets s1 s2
  have hs1 : Woken reachReg s s1 := Woken.markWaking.trans Woken.markWaking
  have hs2 : Woken reachReg s s2 :=
    hs1.trans ((Woken.put rfl rfl).trans (Woken.frame rfl rfl rfl (fun _ => rfl) rfl rfl rfl))
  exact hs2.trans (Woken.frame rfl rfl rfl (fun _ => rfl) rfl rfl rfl)

theorem Woken.startWake {d : Nat} : Woken reachReg s (s.startWake d) := by
  unfold State.startWake
  refine Woken.ite (Woken.refl _ s) ?_
  extract_lets g s1
  have hs1 : Woken reachReg s s1 := Woken.ite Woken.wakePll (Woken.refl _ s)
  exact (hs1.trans Woken.markWaking).trans (Woken.foldl fun _ _ _ => Woken.ite Woken.markWaking (Woken.refl _ _))

/-- A change of a channel's record that leaves what a reset keeps of it. -/
theorem Woken.setDch {c : Nat} {d : Dch} (h : d.kept = (s.dch c).kept) : Woken reachReg s (s.setDch c d) := by
  refine Woken.frame rfl rfl rfl (fun b => ?_) rfl rfl rfl
  by_cases hb : b = c
  · rw [hb, State.setDch_dch_self, h]
  · rw [State.setDch_dch_ne hb]

theorem Woken.channelWake {c : Nat} : Woken reachReg s (s.channelWake c) := by
  unfold State.channelWake
  extract_lets s1
  have hs1 : Woken reachReg s s1 := Woken.ite (Woken.refl _ s) (Woken.ite Woken.startWake Woken.leaveSelfRef)
  exact hs1.trans (Woken.setDch rfl)

end

/-! ### Banks -/

/-- The registers that bank `m`'s waking changes: its retention, the count of banks awake, and the domain's. -/
def bankReg (m a : Nat) : Bool := decide (a = 0xC0000) || decide (a = 0x120058) || decide (a = 0xC0040 + 4 * (m / 32))

section
variable {s : State} {m : Nat}

theorem bankReg_retFld (m : Nat) : bankReg m (retFld m).a = true := by
  simp [bankReg, retFld]

theorem retFld_apart (m : Nat) : Fld.apart F.DRAM_STAT_FENCED (retFld m) = true := by
  have h : F.DRAM_STAT_FENCED.a ≠ (retFld m).a := by
    show 0xB0000 ≠ 0xC0040 + 4 * (m / 32)
    omega
  simp only [Fld.apart, h, ne_eq, not_false_eq_true, decide_true, Bool.true_or]

theorem Woken.bankAwake : Woken (bankReg m) s (s.bankAwake m) :=
  ((Woken.put (bankReg_retFld m) (retFld_apart m)).trans (Woken.put rfl rfl)).trans (Woken.put rfl rfl)

theorem Woken.wakeBank : Woken (bankReg m) s (s.wakeBank m) :=
  Woken.ite (Woken.bankAwake.trans (Woken.put rfl rfl)) (Woken.refl _ s)

end

/-! ### Where a segment's bytes lie -/

/-- The registers on which the places of segments' bytes depend: the DRAM's configuration and the owners of channels and pins. -/
def placeReg (a : Nat) : Bool := decide (a = 0xB0004) || decide (0x150040 ≤ a) && decide (a < 0x150100)

/-- Every segment's bytes lie in `t` where they lie in `s`, and what has not been written there reads the same. -/
structure SamePlaces (s t : State) : Prop where
  seg : ∀ k, t.seg k = s.seg k
  lanes : ∀ n, t.lanesOf n = s.lanesOf n
  locs : ∀ a, t.dramLocs a = s.dramLocs a
  fenced : ∀ c, t.fenced c = s.fenced c
  unlisted : t.dramDef = s.dramDef

section
variable {s t u : State}

theorem SamePlaces.refl (s : State) : SamePlaces s s := ⟨fun _ => rfl, fun _ => rfl, fun _ => rfl, fun _ => rfl, rfl⟩

theorem SamePlaces.trans (h : SamePlaces s t) (k : SamePlaces t u) : SamePlaces s u where
  seg := fun i => (k.seg i).trans (h.seg i)
  lanes := fun i => (k.lanes i).trans (h.lanes i)
  locs := fun i => (k.locs i).trans (h.locs i)
  fenced := fun i => (k.fenced i).trans (h.fenced i)
  unlisted := k.unlisted.trans h.unlisted

theorem State.lanesOf_congr (hl : t.plan.lanes = s.plan.lanes) (hr : ∀ a, placeReg a = true → t.rd a = s.rd a) (n : Nat) :
    t.lanesOf n = s.lanesOf n := by
  have hf : ∀ c, t.fmt c = s.fmt c := fun c => by rw [State.fmt, hl]; rfl
  have hc : t.fcsOf n = s.fcsOf n := List.filter_congr fun c hc => by
    have hlt := List.mem_range.1 hc
    rw [State.fcOwner, State.fcOwner, hr _ (by simp only [placeReg, Bool.or_eq_true, Bool.and_eq_true, decide_eq_true_eq]; omega)]
  have hv (c : Nat) (h : c < 128) : t.vpOwner c = s.vpOwner c := by
    rw [State.vpOwner, State.vpOwner, hr _ (by simp only [placeReg, Bool.or_eq_true, Bool.and_eq_true, decide_eq_true_eq]; omega)]
  have hb : (List.range 4).filter (fun b => t.ownsBank n b) = (List.range 4).filter (fun b => s.ownsBank n b) :=
    List.filter_congr fun b hb => by
      have hlt := List.mem_range.1 hb
      rw [Bool.eq_iff_iff, State.ownsBank, State.ownsBank, List.any_eq_true, List.any_eq_true]
      refine exists_congr fun p => and_congr_right fun hp => ?_
      have := List.mem_range.1 hp
      rw [hv _ (by omega)]
  simp only [State.lanesOf, hf, hc, hb]

/-- Places depend on the directory, the lanes, and the registers of `placeReg`. -/
theorem SamePlaces.of (hm : t.mem.dir = s.mem.dir) (hl : t.plan.lanes = s.plan.lanes) (hu : t.dramDef = s.dramDef)
    (hf : t.fld F.DRAM_STAT_FENCED = s.fld F.DRAM_STAT_FENCED) (hr : ∀ a, placeReg a = true → t.rd a = s.rd a) : SamePlaces s t where
  seg := fun k => by
    unfold State.seg State.dirWord
    rw [hm]
  lanes := State.lanesOf_congr hl hr
  locs := fun a => by
    have h (f : Fld) (e : f.a = 0xB0004) : t.fld f = s.fld f := by rw [State.fld, hr _ (by rw [e]; rfl)]; rfl
    have he : t.enabled = s.enabled := congrArg bits8 (h F.DRAM_CFG_CH_EN rfl)
    have hd : t.mappedNow = s.mappedNow := congrArg bits8 (h F.DRAM_CFG_MAPPED rfl)
    have hb : t.resBytes = s.resBytes := congrArg (· * 2 ^ 30) (h F.DRAM_CFG_RES_GIB rfl)
    have hx : t.flag F.DRAM_CFG_RES_MIRROR = s.flag F.DRAM_CFG_RES_MIRROR := by rw [State.flag, h _ rfl]; rfl
    have hs : t.share = s.share := by rw [State.share, he, hx, h _ rfl]; rfl
    have hc : t.chSize = s.chSize := by unfold State.chSize; rw [h F.DRAM_CFG_CH_SIZE rfl]
    have hh : t.heatBytes = s.heatBytes := by unfold State.heatBytes; rw [hd, hc, hs]
    unfold State.dramLocs
    rw [he, hd, hb, hx, hs, hh, h F.DRAM_CFG_MAP_ORDER rfl]
  fenced := fun c => by rw [State.fenced, hf]; rfl
  unlisted := hu

theorem Woken.samePlaces {A : Nat → Bool} (h : Woken A s t) (hA : ∀ a, placeReg a = true → A a = false) : SamePlaces s t :=
  SamePlaces.of (by rw [h.mem]) h.lanes h.unlisted h.fenced fun a ha => h.rd a (hA a ha)

theorem contains_of_fabric {l : List Nat} {a : Nat} (hl : ∀ c ∈ l, c < 0x150000) (h : 0x150000 ≤ a) : l.contains a = false := by
  rw [← Bool.not_eq_true, List.contains_iff_mem]
  exact fun hm => absurd (hl a hm) (by omega)

/-- A look at the level events touches no register of the blocks from the fabric's on. -/
theorem noteReg_of_fabric {a : Nat} (h : 0x150000 ≤ a) : noteReg a = false := by
  have hb : ∀ b ∈ bufAll, ∀ c ∈ b.addrs, c < 0x150000 := by decide +kernel
  have h1 : evRegs.contains a = false := contains_of_fabric (by decide) h
  have h2 : bufAll.any (fun b => b.addrs.contains a) = false := by
    rw [List.any_eq_false]
    exact fun b hm hc => Bool.false_ne_true ((contains_of_fabric (hb b hm) h).symm.trans hc)
  have h3 : a ≠ 0x130004 ∧ a ≠ 0x140004 ∧ ¬ a < 0x20300 := by omega
  simp only [noteReg, h1, h2, h3, decide_false, Bool.and_false, Bool.or_false]

theorem noteReg_place {a : Nat} (h : placeReg a = true) : noteReg a = false := by
  simp only [placeReg, Bool.or_eq_true, Bool.and_eq_true, decide_eq_true_eq] at h
  rcases h with rfl | h
  · decide
  · exact noteReg_of_fabric (by omega)

theorem SamePlaces.noteLevels (s : State) : SamePlaces s s.noteLevels := by
  refine SamePlaces.of (by rw [State.noteLevels_mem]) (by rw [State.noteLevels_plan]) ?_ (State.noteLevels_fld ?_) fun a ha =>
    State.noteLevels_rd ?_
  · exact State.dramDef_congr fun c => by rw [State.dch, State.noteLevels_dram]; rfl
  · decide
  · exact noteReg_place ha

theorem SamePlaces.segInDram (h : SamePlaces s t) (k : Nat) : t.segInDram k = s.segInDram k := by
  simp only [State.segInDram, h.seg, h.lanes]

theorem SamePlaces.dramCh (h : SamePlaces s t) (a : Nat) : t.dramCh a = s.dramCh a := by
  simp only [State.dramCh, h.locs, h.fenced]

theorem SamePlaces.segRead (h : SamePlaces s t) (hd : t.mem.dram = s.mem.dram) (ht : t.mem.track = s.mem.track) (k o : Nat) :
    t.segRead k o = s.segRead k o := by
  simp only [State.segRead, h.segInDram, h.seg, State.dramRead, State.trackRead, h.locs, h.fenced, h.unlisted, hd, ht]

end

end Sys2Proof.Machine
end

section
/-! SUPPORT. Words of a segment (R79, R82): its four bytes lie side by side, so that a write of one leaves the others. -/

namespace Sys2Proof.Machine

section
variable {s : State} {a i : Nat}

theorem four_dvd_grain (o : Nat) : 4 ∣ grainOf o := by
  rcases grainOf_eq o with h | h | h <;> rw [h] <;> decide

theorem heatLoc_word {chs : List Nat} {o share : Nat} (ha : a % 4 = 0) (hi : i < 4) :
    heatLoc chs o share (a + i) = (heatLoc chs o share a).map fun l => (l.1, l.2 + i) := by
  have hd : (a + i) / grainOf o = a / grainOf o ∧ (a + i) % grainOf o = a % grainOf o + i := by
    rcases grainOf_eq o with h | h | h <;> rw [h] <;> omega
  rw [heatLoc_eq, heatLoc_eq, hd.1, hd.2, Option.map_map]
  simp only [Function.comp_def, add_assoc]

/-- The places of the bytes of an aligned word: each copy holds them side by side. -/
theorem State.dramLocs_word (s : State) (ha : a % 4 = 0) (hi : i < 4) :
    s.dramLocs (a + i) = (s.dramLocs a).map fun l => (l.1, l.2 + i) := by
  have hb : s.resBytes % 4 = 0 := by
    unfold State.resBytes
    omega
  have hh : s.heatBytes % 4 = 0 :=
    Nat.mod_eq_zero_of_dvd (((four_dvd_grain 0).trans (s.grain_dvd_heat 0)).mul_left _)
  have hr : a + i < s.resBytes ↔ a < s.resBytes := by omega
  have hp : (a + i) / 4096 = a / 4096 ∧ (a + i) % 4096 = a % 4096 + i := by omega
  unfold State.dramLocs
  dsimp only
  rw [hp.1, hp.2]
  split
  · rfl
  · split
    · rw [if_pos (hr.1 ‹_›)]
      split <;> simp only [List.map_cons, List.map_nil, add_assoc]
    · rename_i hn
      rw [if_neg (mt hr.2 hn)]
      have hs : a + i - s.resBytes = a - s.resBytes + i := by omega
      have hl : a - s.resBytes + i < s.heatBytes ↔ a - s.resBytes < s.heatBytes := by omega
      rw [hs]
      split
      · rw [if_pos (hl.1 ‹_›), heatLoc_word (by omega) hi]
        cases heatLoc s.mappedNow (s.fld F.DRAM_CFG_MAP_ORDER) s.share (a - s.resBytes) <;> rfl
      · rw [if_neg (mt hl.2 ‹_›)]
        rfl

/-- An aligned word's first byte lies at an aligned place. -/
theorem State.dramLocs_aligned {x : Nat × Nat} (ha : a % 4 = 0) (hx : x ∈ s.dramLocs a) : x.2 % 4 = 0 := by
  by_cases h : a < s.resBytes
  · obtain ⟨k, -, rfl⟩ := State.dramLocs_reserve h hx
    unfold State.resPlace
    dsimp only
    omega
  · obtain ⟨-, hl⟩ := State.dramLocs_heat h hx
    obtain ⟨-, ho⟩ := heatLoc_some hl
    have hs : s.share % 4 = 0 := by
      unfold State.share resShare
      dsimp only
      omega
    have hb : s.resBytes % 4 = 0 := by
      unfold State.resBytes
      omega
    rcases grainOf_eq (s.fld F.DRAM_CFG_MAP_ORDER) with e | e | e <;> rw [e] at ho <;> omega

/-- Every byte of a word has a place that is reached if the first has. -/
theorem State.dramCh_word (ha : a % 4 = 0) (hi : i < 4) : s.dramCh (a + i) = s.dramCh a := by
  unfold State.dramCh
  rw [s.dramLocs_word ha hi, List.find?_map, Option.map_map]
  rfl

/-- A byte written to DRAM where a channel takes it reads as it was written. -/
theorem State.dramWrite_read_self {v : Byte} (h : (s.dramCh a).isSome = true) : (s.dramWrite a v).dramRead a = some v := by
  refine State.dramWrite_dramRead_self ?_
  unfold State.dramCh at h
  rw [Option.isSome_map] at h
  obtain ⟨l, hl⟩ := Option.isSome_iff_exists.1 h
  rw [State.dramRead, hl]
  rfl

/-- The bytes of a word share no key. -/
theorem dramKey_word {x y : Nat × Nat} {i j : Nat} (hx : x ∈ s.dramLocs (a + i)) (hy : y ∈ s.dramLocs (a + j)) (ha : a % 4 = 0)
    (hi : i < 4) (hj : j < 4) (hij : i ≠ j) : dramKey x ≠ dramKey y := by
  rw [s.dramLocs_word ha hi, List.mem_map] at hx
  rw [s.dramLocs_word ha hj, List.mem_map] at hy
  obtain ⟨x', hx', rfl⟩ := hx
  obtain ⟨y', hy', rfl⟩ := hy
  have := State.dramLocs_aligned ha hx'
  have := State.dramLocs_aligned ha hy'
  unfold dramKey
  dsimp only
  omega

/-- A write of one byte of a word leaves the others. -/
theorem State.dramWrite_read_word {j : Nat} {v : Byte} (ha : a % 4 = 0) (hi : i < 4) (hj : j < 4) (hij : i ≠ j) :
    (s.dramWrite (a + i) v).dramRead (a + j) = s.dramRead (a + j) :=
  State.dramWrite_dramRead_of_keys fun _ hx _ hy => dramKey_word hx hy ha hi hj hij

/-! ### A segment's word -/

theorem State.seg_word (k : Nat) {o : Nat} (ho : o % 4 = 0) : (64 * (s.seg k).base + o) % 4 = 0 := by omega

/-- The word at `o` of a segment can be stored: it lies in track memory, or a channel takes it. -/
def State.segTakes (s : State) (k o : Nat) : Prop := s.segInDram k = false ∨ (s.dramCh (64 * (s.seg k).base + o)).isSome = true

theorem SamePlaces.segTakes {t : State} (h : SamePlaces s t) {k o : Nat} (hk : s.segTakes k o) : t.segTakes k o := by
  unfold State.segTakes
  rwa [h.segInDram, h.seg, h.dramCh]

theorem SamePlaces.segWrite (s : State) (k o : Nat) (v : Byte) : SamePlaces s (s.segWrite k o v) := by
  unfold State.segWrite
  dsimp only
  split
  · exact ⟨fun _ => rfl, fun _ => rfl, fun _ => rfl, fun _ => rfl, rfl⟩
  · exact ⟨fun _ => rfl, fun _ => rfl, fun _ => rfl, fun _ => rfl, rfl⟩

theorem State.segWrite_segRead_self {k o : Nat} {v : Byte} (ho : o % 4 = 0) (hi : i < 4) (h : s.segTakes k o) :
    (s.segWrite k (o + i) v).segRead k (o + i) = v := by
  have hp := SamePlaces.segWrite s k (o + i) v
  unfold State.segRead
  rw [hp.segInDram, hp.seg]
  unfold State.segWrite
  dsimp only
  split
  · rename_i hd
    rcases h with h | h
    · rw [h] at hd
      cases hd
    · rw [State.dramWrite_read_self]
      · rfl
      · rwa [← add_assoc, State.dramCh_word (State.seg_word k ho) hi]
  · exact State.trackWrite_trackRead_self _ _ _

theorem State.segWrite_segRead_ne {k o j : Nat} {v : Byte} (ho : o % 4 = 0) (hi : i < 4) (hj : j < 4) (hij : i ≠ j) :
    (s.segWrite k (o + i) v).segRead k (o + j) = s.segRead k (o + j) := by
  have hp := SamePlaces.segWrite s k (o + i) v
  unfold State.segRead
  rw [hp.segInDram, hp.seg]
  unfold State.segWrite
  dsimp only
  split
  · rw [← add_assoc, ← add_assoc, State.dramWrite_read_word (State.seg_word k ho) hi hj hij]
  · exact State.trackWrite_trackRead_ne (by omega)

/-- Bytes of a word of a segment, written one after another. -/
def State.segWrites (s : State) (k o n : Nat) (b : Nat → Byte) : State :=
  (List.range n).foldl (fun t i => t.segWrite k (o + i) (b i)) s

theorem State.segWrites_succ (s : State) (k o n : Nat) (b : Nat → Byte) :
    s.segWrites k o (n + 1) b = (s.segWrites k o n b).segWrite k (o + n) (b n) := by
  unfold State.segWrites
  rw [List.range_succ, List.foldl_concat]

theorem SamePlaces.segWrites (s : State) (k o n : Nat) (b : Nat → Byte) : SamePlaces s (s.segWrites k o n b) := by
  induction n with
  | zero => exact SamePlaces.refl s
  | succ n ih =>
    rw [State.segWrites_succ]
    exact ih.trans (SamePlaces.segWrite _ k _ _)

/-- Each byte written reads as it was written. -/
theorem State.segWrites_segRead {k o n : Nat} {b : Nat → Byte} (h : s.segTakes k o) (ho : o % 4 = 0) (hn : n ≤ 4) (hi : i < n) :
    (s.segWrites k o n b).segRead k (o + i) = b i := by
  induction n with
  | zero => omega
  | succ n ih =>
    rw [State.segWrites_succ]
    by_cases e : i = n
    · rw [e]
      exact State.segWrite_segRead_self ho (by omega) ((SamePlaces.segWrites s k o n b).segTakes h)
    · rw [State.segWrite_segRead_ne ho (by omega) (by omega) (Ne.symm e)]
      exact ih (by omega) (by omega)

end

end Sys2Proof.Machine
end

section
/-! SUPPORT. The segment window and the track window (R82, R222, R223): what an access does to the state in which it acts. -/

namespace Sys2Proof.Machine

/-- A read of a register that is no port and no level register: its block answers. -/
theorem State.regRead_block {s : State} {x : Access} {a : Nat} (h1 : readPort a = none) (h2 : writePort a = none)
    (h3 : lvlReg a = none) : s.regRead x a = s.blockRead a := by
  unfold State.regRead
  rw [h1, h2, h3]

theorem readOk_ofs {x : BusRead} (h : readOk x = true) : x.ofs < 4 := by
  simp only [readOk, Bool.and_eq_true, decide_eq_true_eq] at h
  exact h.2

theorem State.regRead_segw (s : State) (x : Access) : s.regRead x 0x28088 = s.segwRead := by
  rw [State.regRead_block rfl rfl rfl]
  rfl

theorem State.regRead_trackWin (s : State) (x : Access) : s.regRead x 0xC0084 = s.trackWinRead := by
  rw [State.regRead_block rfl rfl rfl]
  rfl

/-! ### The segment window -/

/-- The registers that making a word of a segment ready may change. -/
def segReg (a : Nat) : Bool := reachReg a || decide (0xC0000 ≤ a) && decide (a < 0x100000)

theorem segReg_place {a : Nat} (h : placeReg a = true) : segReg a = false := by
  simp only [placeReg, Bool.or_eq_true, Bool.and_eq_true, decide_eq_true_eq] at h
  rcases h with rfl | h
  · rfl
  · have h1 : evRegs.contains a = false := contains_of_fabric (by decide) (by omega)
    have h2 : [0x10008, 0x120058, 0x12005C, 0xB0000, 0xB001C].contains a = false := contains_of_fabric (by decide) (by omega)
    have h3 : outReg a = false := by
      simp only [outReg, Bool.and_eq_false_iff, decide_eq_false_iff_not]
      omega
    have h4 : ¬ a < 0x100000 := by omega
    simp only [segReg, reachReg, h1, h2, h3, h4, decide_false, Bool.and_false, Bool.or_self]

section
variable {s : State} {k o : Nat}

theorem State.seg_base_lt (s : State) (k : Nat) : (s.seg k).base < 2 ^ 32 := (s.dirWord k 0).isLt

theorem Woken.segReach (ho : o < 2 ^ 35) : Woken segReg s (s.segReach k o) := by
  have hb := s.seg_base_lt k
  unfold State.segReach
  extract_lets a
  split
  · have hr {u : State} (h : Woken reachReg s u) : Woken segReg s u := h.mono fun b hb => by
      simp only [segReg, Bool.or_eq_false_iff] at hb
      exact hb.1
    split
    · exact hr (Woken.channelWake.trans (Woken.frame rfl rfl rfl (fun _ => rfl) rfl rfl rfl))
    · exact Woken.put rfl rfl
  · refine Woken.mono Woken.wakeBank fun b hb => ?_
    have hm : a / 524288 / 32 < 32768 := by omega
    simp only [segReg, reachReg, Bool.or_eq_false_iff, Bool.and_eq_false_iff, decide_eq_false_iff_not] at hb
    obtain ⟨⟨-, hl⟩, hrange⟩ := hb
    have h1 : b ≠ 0x120058 := by
      rintro rfl
      exact absurd hl (by decide)
    simp only [bankReg, h1, decide_false, Bool.or_false, Bool.or_eq_false_iff, decide_eq_false_iff_not]
    omega

/-- A read inside the segment returns the word, and the window moves on. -/
theorem State.segwRead_in (h : s.segwIn = true) :
    s.segwRead.1 = BitVec.ofNat 32 (leNat ((List.range 4).map fun i =>
      s.segRead (s.fld F.SEGW_SEG_SEG) (4 * s.fld F.SEGW_OFS_WORD_OFS + i))) ∧
    s.segwRead.2.fld F.SEGW_STAT_LAST_STATUS = stOk ∧
    s.segwRead.2.fld F.SEGW_OFS_WORD_OFS = (s.fld F.SEGW_OFS_WORD_OFS + 1) % 2 ^ 32 ∧ s.segwRead.2.mem = s.mem := by
  have ho := s.fld_lt F.SEGW_OFS_WORD_OFS
  have hw : Woken segReg s (s.segReach (s.fld F.SEGW_SEG_SEG) (4 * s.fld F.SEGW_OFS_WORD_OFS)) :=
    Woken.segReach (by simp only at ho; omega)
  have hp := hw.samePlaces fun _ => segReg_place
  have hofs : (s.segReach (s.fld F.SEGW_SEG_SEG) (4 * s.fld F.SEGW_OFS_WORD_OFS)).fld F.SEGW_OFS_WORD_OFS =
      s.fld F.SEGW_OFS_WORD_OFS := congrArg (getBits 0 32) (hw.rd 0x28084 rfl)
  unfold State.segwRead
  rw [if_pos h]
  extract_lets k o s1
  refine ⟨?_, ?_, ?_, ?_⟩
  · refine congrArg (fun l => BitVec.ofNat 32 (leNat l)) (List.map_congr_left fun i _ => ?_)
    exact hp.segRead (by rw [hw.mem]) (by rw [hw.mem]) _ _
  · simp [State.segwNext, stOk]
  · simp [State.segwNext, s1, k, o, hofs]
  · exact hw.mem

/-- Outside the segment a read returns zero with RANGE, and the window moves on. -/
theorem State.segwRead_out (h : s.segwIn = false) :
    s.segwRead.1 = 0 ∧ s.segwRead.2.fld F.SEGW_STAT_LAST_STATUS = stRange ∧ s.segwRead.2.fld F.SEGW_STAT_RANGE_HIT = 1 ∧
    s.segwRead.2.fld F.SEGW_OFS_WORD_OFS = (s.fld F.SEGW_OFS_WORD_OFS + 1) % 2 ^ 32 ∧ s.segwRead.2.mem = s.mem := by
  unfold State.segwRead
  rw [h, if_neg Bool.false_ne_true]
  refine ⟨rfl, ?_, ?_, ?_, rfl⟩
  · simp [State.segwRange, State.segwNext, stRange]
  · simp [State.segwRange, State.segwNext]
  · simp [State.segwRange, State.segwNext]

theorem State.segWrite_regs (s : State) (k o : Nat) (v : Byte) : (s.segWrite k o v).regs = s.regs := by
  unfold State.segWrite
  dsimp only
  split <;> rfl

theorem State.segWrites_regs (s : State) (k o n : Nat) (b : Nat → Byte) : (s.segWrites k o n b).regs = s.regs := by
  induction n with
  | zero => rfl
  | succ n ih => rw [State.segWrites_succ, State.segWrite_regs, ih]

theorem State.segWrites_fld (s : State) (k o n : Nat) (b : Nat → Byte) (f : Fld) : (s.segWrites k o n b).fld f = s.fld f := by
  unfold State.fld State.rd
  rw [State.segWrites_regs]

/-- A field of a register on which no place depends is set. -/
theorem State.put_segRead {f : Fld} {v : Nat} (h : placeReg f.a = false) (hf : F.DRAM_STAT_FENCED.a ≠ f.a) :
    (s.put f v).segRead k o = s.segRead k o := by
  have hp : SamePlaces s (s.put f v) := SamePlaces.of rfl rfl rfl (State.put_fld_ne hf) fun a ha =>
    State.put_rd_ne fun e => by rw [e, h] at ha; cases ha
  exact hp.segRead rfl rfl k o

/-- A write to a word of an inactive segment makes its place ready, stores its bytes, and the window moves on. -/
theorem State.segwWrite_eq {v : Word} (h : s.segwIn = true) (ha : s.segActiveNow (s.fld F.SEGW_SEG_SEG) = false)
    (ht : (s.segReach (s.fld F.SEGW_SEG_SEG) (4 * s.fld F.SEGW_OFS_WORD_OFS)).segTakes (s.fld F.SEGW_SEG_SEG)
      (4 * s.fld F.SEGW_OFS_WORD_OFS)) :
    s.segwWrite v = (((s.segReach (s.fld F.SEGW_SEG_SEG) (4 * s.fld F.SEGW_OFS_WORD_OFS)).segWrites (s.fld F.SEGW_SEG_SEG)
      (4 * s.fld F.SEGW_OFS_WORD_OFS) 4 fun i => (leBytes 4 v.toNat).getD i 0).put F.SEGW_STAT_LAST_STATUS stOk).segwNext := by
  simp only [State.segwWrite, h, ha, Bool.not_true, Bool.false_eq_true, if_false]
  rw [if_neg]
  · rfl
  · rw [Bool.and_eq_true, Option.isNone_iff_eq_none]
    rintro ⟨hd, hc⟩
    rcases ht with ht | ht
    · exact Bool.false_ne_true (ht.symm.trans hd)
    · rw [hc] at ht
      cases ht

/-- After it each byte reads as written. -/
theorem State.segwWrite_in {v : Word} (h : s.segwIn = true) (ha : s.segActiveNow (s.fld F.SEGW_SEG_SEG) = false)
    (ht : s.segTakes (s.fld F.SEGW_SEG_SEG) (4 * s.fld F.SEGW_OFS_WORD_OFS)) :
    (∀ i < 4, (s.segwWrite v).segRead (s.fld F.SEGW_SEG_SEG) (4 * s.fld F.SEGW_OFS_WORD_OFS + i) = (leBytes 4 v.toNat).getD i 0) ∧
    (s.segwWrite v).fld F.SEGW_STAT_LAST_STATUS = stOk ∧
    (s.segwWrite v).fld F.SEGW_OFS_WORD_OFS = (s.fld F.SEGW_OFS_WORD_OFS + 1) % 2 ^ 32 := by
  have ho := s.fld_lt F.SEGW_OFS_WORD_OFS
  have hw : Woken segReg s (s.segReach (s.fld F.SEGW_SEG_SEG) (4 * s.fld F.SEGW_OFS_WORD_OFS)) :=
    Woken.segReach (by simp only at ho; omega)
  have hofs : (s.segReach (s.fld F.SEGW_SEG_SEG) (4 * s.fld F.SEGW_OFS_WORD_OFS)).fld F.SEGW_OFS_WORD_OFS =
      s.fld F.SEGW_OFS_WORD_OFS := congrArg (getBits 0 32) (hw.rd 0x28084 rfl)
  have htake := (hw.samePlaces fun _ => segReg_place).segTakes ht
  rw [State.segwWrite_eq h ha htake]
  refine ⟨fun i hi => ?_, ?_, ?_⟩
  · rw [State.segwNext, State.put_segRead rfl (by decide), State.put_segRead rfl (by decide)]
    exact State.segWrites_segRead htake (by omega) le_rfl hi
  · simp [State.segwNext, stOk]
  · simp [State.segwNext, State.segWrites_fld, hofs]

/-- A write to an active segment stores nothing and sets ACTIVE. -/
theorem State.segwWrite_active {v : Word} (h : s.segwIn = true) (ha : s.segActiveNow (s.fld F.SEGW_SEG_SEG) = true) :
    (s.segwWrite v).mem = s.mem ∧ (s.segwWrite v).fld F.SEGW_STAT_LAST_STATUS = stActive ∧
    (s.segwWrite v).fld F.SEGW_STAT_ACTIVE_HIT = 1 ∧
    (s.segwWrite v).fld F.SEGW_STAT_ACTIVE_COUNT = min (s.fld F.SEGW_STAT_ACTIVE_COUNT + 1) 65535 ∧
    (s.segwWrite v).fld F.SEGW_OFS_WORD_OFS = (s.fld F.SEGW_OFS_WORD_OFS + 1) % 2 ^ 32 := by
  have e : s.segwWrite v =
      (((s.put F.SEGW_STAT_LAST_STATUS stActive).raise F.SEGW_STAT_ACTIVE_HIT).bump F.SEGW_STAT_ACTIVE_COUNT).segwNext := by
    simp only [State.segwWrite, h, ha, Bool.not_true, Bool.false_eq_true, if_false, if_true]
  rw [e]
  refine ⟨rfl, ?_, ?_, ?_, ?_⟩
  · simp [State.segwNext, stActive]
  · simp [State.segwNext]
  · simp [State.segwNext]
  · simp [State.segwNext]

end

/-- What a read row that passes every check answers. -/
theorem State.gavePart_eq {s : State} {a : Nat} {x : BusRead} {r : Word × State}
    (h : ({ s with bus := [lookAcc a x false false] } : State).regRead (lookAcc a x false false) a = r) :
    s.gavePart a x false false = { r.2 with rdata := (lookAcc a x false false).part r.1, bus := r.2.bus.drop 1 } := by
  subst h
  rfl

theorem State.wrote_segw (s : State) (v : Word) (p : Bool) : s.wrote 0x28088 v p =
    { ({ s with bus := [wrAcc 0x28088 v p] } : State).segwWrite v with
      bus := (({ s with bus := [wrAcc 0x28088 v p] } : State).segwWrite v).bus.drop 1 } :=
  State.wrote_block (by decide) (by decide +kernel) (by decide) (by decide)

theorem execSegwRead_gives {s : State} {x : BusRead} (h : s.gives 0x28088 x.p = true) (hr : readOk x = true) :
    exec (.segwRead x) s = .next (s.gavePart 0x28088 x false false).noteLevels :=
  congrArg Host.Outcome.next (State.eccRow_gives h (readOk_ofs hr))

theorem execSegwWrite_takes {s : State} {w : Word} {p : Bool} (h : s.takes 0x28088 w p = true) :
    exec (.segwWrite w p) s = .next (s.wrote 0x28088 w p).noteLevels :=
  congrArg Host.Outcome.next (State.writeRow_takes h)

/-- What a segment reads as does not depend on the look at the level events. -/
theorem State.noteLevels_segRead (s : State) (k o : Nat) : s.noteLevels.segRead k o = s.segRead k o :=
  (SamePlaces.noteLevels s).segRead (by rw [State.noteLevels_mem]) (by rw [State.noteLevels_mem]) k o

end Sys2Proof.Machine
end

section
/-! SUPPORT. The segment window as a command (R82). -/

namespace Sys2Proof.Machine

section
variable {s : State} {x : BusRead} {w : Word} {p : Bool}

theorem execSegwRead_runs (h : s.gives 0x28088 x.p = true) (hr : readOk x = true) {P : State → Prop}
    (hP : P { ({ s with bus := [lookAcc 0x28088 x false false] } : State).segwRead.2 with
      rdata := (lookAcc 0x28088 x false false).part ({ s with bus := [lookAcc 0x28088 x false false] } : State).segwRead.1
      bus := ({ s with bus := [lookAcc 0x28088 x false false] } : State).segwRead.2.bus.drop 1 }.noteLevels) :
    Runs (.segwRead x) s P := by
  refine ⟨_, execSegwRead_gives h hr, ?_⟩
  rw [State.gavePart_eq (State.regRead_segw _ _)]
  exact hP

theorem execSegwWrite_runs (h : s.takes 0x28088 w p = true) {P : State → Prop}
    (hP : P { ({ s with bus := [wrAcc 0x28088 w p] } : State).segwWrite w with
      bus := (({ s with bus := [wrAcc 0x28088 w p] } : State).segwWrite w).bus.drop 1 }.noteLevels) :
    Runs (.segwWrite w p) s P := by
  refine ⟨_, execSegwWrite_takes h, ?_⟩
  rw [State.wrote_segw]
  exact hP

/-- A read inside the segment. -/
theorem segwRead_inside (h : s.gives 0x28088 x.p = true) (hr : readOk x = true) (hin : s.segwIn = true) :
    Runs (.segwRead x) s fun t => t.rdata = (lookAcc 0x28088 x false false).part (BitVec.ofNat 32 (leNat ((List.range 4).map
      fun i => s.segRead (s.fld F.SEGW_SEG_SEG) ((4 * s.fld F.SEGW_OFS_WORD_OFS) + i)))) ∧
      t.fld F.SEGW_STAT_LAST_STATUS = stOk ∧
      t.fld F.SEGW_OFS_WORD_OFS = (s.fld F.SEGW_OFS_WORD_OFS + 1) % 2 ^ 32 ∧ t.mem = s.mem := by
  obtain ⟨hw, hst, hofs, hm⟩ := State.segwRead_in (s := { s with bus := [lookAcc 0x28088 x false false] }) hin
  refine execSegwRead_runs h hr ⟨?_, ?_, ?_, ?_⟩
  · rw [State.noteLevels_rdata]
    dsimp only
    rw [hw]
    rfl
  · rw [State.noteLevels_fld (by decide)]
    exact hst
  · rw [State.noteLevels_fld (by decide)]
    exact hofs
  · rw [State.noteLevels_mem]
    exact hm

theorem Access.part_zero (y : Access) : y.part 0 = 0 := by
  simp [Access.part]

/-- A read outside the segment. -/
theorem segwRead_outside (h : s.gives 0x28088 x.p = true) (hr : readOk x = true) (hin : s.segwIn = false) :
    Runs (.segwRead x) s fun t => t.rdata = 0 ∧ t.fld F.SEGW_STAT_LAST_STATUS = stRange ∧ t.fld F.SEGW_STAT_RANGE_HIT = 1 ∧
      t.fld F.SEGW_OFS_WORD_OFS = (s.fld F.SEGW_OFS_WORD_OFS + 1) % 2 ^ 32 ∧ t.mem = s.mem := by
  obtain ⟨hw, hst, hhit, hofs, hm⟩ := State.segwRead_out (s := { s with bus := [lookAcc 0x28088 x false false] }) hin
  refine execSegwRead_runs h hr ⟨?_, ?_, ?_, ?_, ?_⟩
  · rw [State.noteLevels_rdata]
    dsimp only
    rw [hw, Access.part_zero]
  · rw [State.noteLevels_fld (by decide)]
    exact hst
  · rw [State.noteLevels_fld (by decide)]
    exact hhit
  · rw [State.noteLevels_fld (by decide)]
    exact hofs
  · rw [State.noteLevels_mem]
    exact hm

/-- A write to an inactive segment. -/
theorem segwWrite_inactive (h : s.takes 0x28088 w p = true) (hin : s.segwIn = true)
    (ha : s.segActiveNow (s.fld F.SEGW_SEG_SEG) = false)
    (ht : s.segTakes (s.fld F.SEGW_SEG_SEG) (4 * s.fld F.SEGW_OFS_WORD_OFS)) :
    Runs (.segwWrite w p) s fun t => (∀ i : Fin 4, t.segRead (s.fld F.SEGW_SEG_SEG) ((4 * s.fld F.SEGW_OFS_WORD_OFS) + i.val) =
      (leBytes 4 w.toNat).getD i.val 0) ∧ t.fld F.SEGW_STAT_LAST_STATUS = stOk ∧
      t.fld F.SEGW_OFS_WORD_OFS = (s.fld F.SEGW_OFS_WORD_OFS + 1) % 2 ^ 32 := by
  obtain ⟨hb, hst, hofs⟩ := State.segwWrite_in (s := { s with bus := [wrAcc 0x28088 w p] }) (v := w) hin
    ((s.setBus_segActiveNow _ _).trans ha) ht
  refine execSegwWrite_runs h ⟨fun i => ?_, ?_, ?_⟩
  · rw [State.noteLevels_segRead]
    exact hb i i.isLt
  · rw [State.noteLevels_fld (by decide)]
    exact hst
  · rw [State.noteLevels_fld (by decide)]
    exact hofs

/-- A write to an active segment. -/
theorem segwWrite_ofActive (h : s.takes 0x28088 w p = true) (hin : s.segwIn = true)
    (ha : s.segActiveNow (s.fld F.SEGW_SEG_SEG) = true) :
    Runs (.segwWrite w p) s fun t => t.mem = s.mem ∧ t.fld F.SEGW_STAT_LAST_STATUS = stActive ∧
      t.fld F.SEGW_STAT_ACTIVE_HIT = 1 ∧ t.fld F.SEGW_STAT_ACTIVE_COUNT = min (s.fld F.SEGW_STAT_ACTIVE_COUNT + 1) 65535 ∧
      t.fld F.SEGW_OFS_WORD_OFS = (s.fld F.SEGW_OFS_WORD_OFS + 1) % 2 ^ 32 := by
  obtain ⟨hm, hst, hhit, hcnt, hofs⟩ := State.segwWrite_active (s := { s with bus := [wrAcc 0x28088 w p] }) (v := w) hin
    ((s.setBus_segActiveNow _ _).trans ha)
  refine execSegwWrite_runs h ⟨?_, ?_, ?_, ?_, ?_⟩
  · rw [State.noteLevels_mem]
    exact hm
  · rw [State.noteLevels_fld (by decide)]
    exact hst
  · rw [State.noteLevels_fld (by decide)]
    exact hhit
  · rw [State.noteLevels_fld (by decide)]
    exact hcnt
  · rw [State.noteLevels_fld (by decide)]
    exact hofs

end
end Sys2Proof.Machine
end

section
/-! SUPPORT. The track window as a command (R222, R223). -/

namespace Sys2Proof.Machine

section
variable {s : State} {x : BusRead} {w : Word} {p : Bool}

theorem bankReg_trk {m a : Nat} (hm : m < 512) (h : a = 0xC0080 ∨ a = 0xC0088 ∨ a = 0xC0008) : bankReg m a = false := by
  simp only [bankReg, Bool.or_eq_false_iff, decide_eq_false_iff_not]
  omega

theorem State.trkBank_lt (s : State) : 4 * s.fld F.TRK_WADDR_WORD / 524288 < 512 := by
  have h : s.fld F.TRK_WADDR_WORD < 2 ^ 26 := s.fld_lt F.TRK_WADDR_WORD
  omega

/-- A read returns the word, and the window moves on. -/
theorem State.trackWinRead_eq (s : State) :
    s.trackWinRead.1 = BitVec.ofNat 32 (leNat ((List.range 4).map fun i => s.trackRead (4 * s.fld F.TRK_WADDR_WORD + i))) ∧
    s.trackWinRead.2.fld F.TRK_WSTAT_LAST_STATUS = stOk ∧
    s.trackWinRead.2.fld F.TRK_WADDR_WORD = (s.fld F.TRK_WADDR_WORD + 1) % 2 ^ 26 ∧ s.trackWinRead.2.mem = s.mem := by
  have hw : Woken _ s (s.wakeBank (4 * s.fld F.TRK_WADDR_WORD / 524288)) := Woken.wakeBank
  have ha : (s.wakeBank (4 * s.fld F.TRK_WADDR_WORD / 524288)).fld F.TRK_WADDR_WORD = s.fld F.TRK_WADDR_WORD :=
    congrArg (getBits 0 26) (hw.rd 0xC0080 (bankReg_trk s.trkBank_lt (by decide)))
  unfold State.trackWinRead
  extract_lets a s1
  refine ⟨?_, ?_, ?_, hw.mem⟩
  · refine congrArg (fun l => BitVec.ofNat 32 (leNat l)) (List.map_congr_left fun i _ => ?_)
    rw [State.trackRead, hw.mem]
    rfl
  · simp [State.trackNext, stOk]
  · simp [State.trackNext, s1, a, ha]

/-- A read of the window. -/
theorem trackWindowRead_gives (h : s.gives 0xC0084 x.p = true) (hr : readOk x = true) :
    Runs (.trackWindowRead x) s fun t => t.rdata = (lookAcc 0xC0084 x false false).part (BitVec.ofNat 32 (leNat ((List.range
      4).map fun i => s.trackRead (4 * s.fld F.TRK_WADDR_WORD + i)))) ∧ t.fld F.TRK_WSTAT_LAST_STATUS = stOk ∧
      t.fld F.TRK_WADDR_WORD = (s.fld F.TRK_WADDR_WORD + 1) % 2 ^ 26 ∧ t.mem = s.mem := by
  obtain ⟨hw, hst, hadr, hm⟩ := State.trackWinRead_eq { s with bus := [lookAcc 0xC0084 x false false] }
  refine ⟨_, congrArg Host.Outcome.next (State.eccRow_gives h (readOk_ofs hr)), ?_⟩
  rw [State.gavePart_eq (State.regRead_trackWin _ _)]
  refine ⟨?_, ?_, ?_, ?_⟩
  · rw [State.noteLevels_rdata]
    dsimp only
    rw [hw]
    rfl
  · rw [State.noteLevels_fld (by decide)]
    exact hst
  · rw [State.noteLevels_fld (by decide)]
    exact hadr
  · rw [State.noteLevels_mem]
    exact hm

theorem State.put_trackRead (s : State) (f : Fld) (v a : Nat) : (s.put f v).trackRead a = s.trackRead a := rfl

theorem State.trackPut_regs (bs : List Byte) : ∀ (s : State) (a : Nat), (s.trackPut a bs).regs = s.regs := by
  induction bs with
  | nil => exact fun _ _ => rfl
  | cons b bs ih => exact fun s a => ih (s.trackWrite a b) (a + 1)

theorem State.trackPut_fld (s : State) (a : Nat) (bs : List Byte) (f : Fld) : (s.trackPut a bs).fld f = s.fld f := by
  unfold State.fld State.rd
  rw [State.trackPut_regs]

theorem leBytes_length (n v : Nat) : (leBytes n v).length = n := by
  induction n generalizing v with
  | zero => rfl
  | succ n ih => exact congrArg (· + 1) (ih _)

/-- A write that no reader and no resident block holds off stores its bytes, and the window moves on. -/
theorem State.trackWinWrite_free {v : Word} (h : s.trackHeld (4 * s.fld F.TRK_WADDR_WORD) false = false) :
    (∀ i < 4, (s.trackWinWrite v false).trackRead (4 * s.fld F.TRK_WADDR_WORD + i) = (leBytes 4 v.toNat).getD i 0) ∧
    (s.trackWinWrite v false).fld F.TRK_WSTAT_LAST_STATUS = stOk ∧
    (s.trackWinWrite v false).fld F.TRK_WADDR_WORD = (s.fld F.TRK_WADDR_WORD + 1) % 2 ^ 26 := by
  have hw : Woken _ s (s.wakeBank (4 * s.fld F.TRK_WADDR_WORD / 524288)) := Woken.wakeBank
  have ha : (s.wakeBank (4 * s.fld F.TRK_WADDR_WORD / 524288)).fld F.TRK_WADDR_WORD = s.fld F.TRK_WADDR_WORD :=
    congrArg (getBits 0 26) (hw.rd 0xC0080 (bankReg_trk s.trkBank_lt (by decide)))
  unfold State.trackWinWrite
  simp only [h, Bool.false_and, Bool.false_eq_true, if_false]
  refine ⟨fun i hi => ?_, ?_, ?_⟩
  · rw [State.trackNext, State.put_trackRead]
    exact State.trackPut_at _ (by rwa [leBytes_length])
  · simp [State.trackNext, State.trackPut_fld, stOk]
  · simp [State.trackNext, State.trackPut_fld, ha]

/-- Where no bit is locked, a write passes as it is. -/
theorem State.lockOut_zero (s : State) (a : Nat) (v : Word) : s.lockOut a 0#32 v = (false, v) := by
  have hv : v &&& ~~~0#32 = v := by rw [BitVec.not_zero, BitVec.and_allOnes]
  simp only [State.lockOut, hv, BitVec.and_zero, BitVec.zero_and, BitVec.or_zero, ne_eq, BitVec.ofNat_eq_ofNat, not_true_eq_false,
    decide_false, Bool.or_self]

/-- The window's data register has no domain, no key and no locks: while the cores run, a write of it passes every check. -/
theorem State.takes_trackWin (hl : s.live = true) (hb : s.bus = []) : s.takes 0xC0084 w p = true := by
  have h1 : s.regAbsent 0xC0084 = false := rfl
  have h2 : s.regAsleep 0xC0084 = none := rfl
  have h3 : s.regPriv 0xC0084 = false := rfl
  have h4 : s.mbxHeld 0xC0084 = false := rfl
  have h5 : s.portWait true 0xC0084 = false := rfl
  have h6 : s.useKey 0xC0084 = s := rfl
  have h7 : s.regLocks 0xC0084 w = 0#32 := rfl
  have h8 : s.lockOut 0xC0084 0#32 w = (false, w) := s.lockOut_zero _ w
  have h9 : (findReg 0xC0084).isSome = true := by decide
  have h10 : keyReg 0xC0084 = false := by decide
  simp [State.takes, State.opens, hl, hb, h1, h2, h3, h4, h5, h6, h7, h8, h9, h10]

theorem State.wrote_trackWin (s : State) (v : Word) (p : Bool) : s.wrote 0xC0084 v p =
    { ({ s with bus := [wrAcc 0xC0084 v p] } : State).trackWinWrite v false with
      bus := (({ s with bus := [wrAcc 0xC0084 v p] } : State).trackWinWrite v false).bus.drop 1 } :=
  State.wrote_block (by decide) (by decide +kernel) (by decide) (by decide)

theorem State.setBus_trackHeld (s : State) (b : List Access) (a : Nat) (c : Bool) :
    ({ s with bus := b } : State).trackHeld a c = s.trackHeld a c := by
  have h (n : Nat) : ({ s with bus := b } : State).sqSegs n = s.sqSegs n := by
    unfold State.sqSegs
    simp only [State.setBus_lookahead]
    rfl
  unfold State.trackHeld
  simp only [h]
  rfl

/-- A write of the window that no copy begins with. -/
theorem trackWindowWrite_stores {col : Bool} (hl : s.live = true) (hb : s.bus = [])
    (hh : s.trackHeld (4 * s.fld F.TRK_WADDR_WORD) false = false)
    (hc : col = false ∨ s.copyBegins (4 * s.fld F.TRK_WADDR_WORD) = false) :
    Runs (.trackWindowWrite w p col) s fun t => (∀ i : Fin 4, t.trackRead (4 * s.fld F.TRK_WADDR_WORD + i.val) =
      (leBytes 4 w.toNat).getD i.val 0) ∧ t.fld F.TRK_WSTAT_LAST_STATUS = stOk ∧
      t.fld F.TRK_WADDR_WORD = (s.fld F.TRK_WADDR_WORD + 1) % 2 ^ 26 := by
  have he : exec (.trackWindowWrite w p col) s = .next (s.wrote 0xC0084 w p).noteLevels := by
    show execTrackWindowWrite w p col s = _
    unfold execTrackWindowWrite
    rw [if_neg, State.writeRow_takes (State.takes_trackWin hl hb)]
    rcases hc with hc | hc <;> simp [hc]
  obtain ⟨hbytes, hst, hadr⟩ := State.trackWinWrite_free (s := { s with bus := [wrAcc 0xC0084 w p] }) (v := w)
    ((s.setBus_trackHeld _ _ _).trans hh)
  refine ⟨_, he, ?_⟩
  rw [State.wrote_trackWin]
  refine ⟨fun i => ?_, ?_, ?_⟩
  · rw [State.trackRead, State.noteLevels_mem]
    exact hbytes i i.isLt
  · rw [State.noteLevels_fld (by decide)]
    exact hst
  · rw [State.noteLevels_fld (by decide)]
    exact hadr

theorem State.copyBegins_region {a : Nat} (h : s.copyBegins a = true) : 64 * regionGranule ≤ a := by
  obtain ⟨n, -, hn⟩ := List.any_eq_true.1 h
  obtain ⟨i, -, hi⟩ := List.any_eq_true.1 hn
  unfold State.blockHas at hi
  split at hi
  · simp only [Bool.and_eq_true, decide_eq_true_eq] at hi
    omega
  · cases hi

/-- A write that collides with a copy is lost, and counted (R223). -/
theorem trackWindowWrite_lost (hl : s.live = true) (hb : s.bus = [])
    (hh : s.trackHeld (4 * s.fld F.TRK_WADDR_WORD) true = false)
    (hc : s.copyBegins (4 * s.fld F.TRK_WADDR_WORD) = true) :
    Does (.trackWindowWrite w p true) s fun t => t.mem = s.mem ∧ t.fld F.TRK_STAT_WR_LOST = 1 ∧
      t.fld F.TRK_LOST_LOST_COUNT = min (s.fld F.TRK_LOST_LOST_COUNT + 1) (2 ^ 32 - 1) ∧
      t.fld F.TRK_WADDR_WORD = (s.fld F.TRK_WADDR_WORD + 1) % 2 ^ 26 := by
  have hw : Woken _ s (s.wakeBank (4 * s.fld F.TRK_WADDR_WORD / 524288)) := Woken.wakeBank
  have ha : (s.wakeBank (4 * s.fld F.TRK_WADDR_WORD / 524288)).fld F.TRK_WADDR_WORD = s.fld F.TRK_WADDR_WORD :=
    congrArg (getBits 0 26) (hw.rd 0xC0080 (bankReg_trk s.trkBank_lt (by decide)))
  have hn : (s.wakeBank (4 * s.fld F.TRK_WADDR_WORD / 524288)).fld F.TRK_LOST_LOST_COUNT = s.fld F.TRK_LOST_LOST_COUNT :=
    congrArg (getBits 0 32) (hw.rd 0xC0008 (bankReg_trk s.trkBank_lt (by decide)))
  refine ⟨s.trackWinWrite w true, ?_, ?_⟩
  · show execTrackWindowWrite w p true s = _
    unfold execTrackWindowWrite
    rw [if_pos (by simp [hl, hb, hc])]
  · unfold State.trackWinWrite
    simp only [hh, Bool.false_eq_true, if_false, Bool.true_and, decide_eq_true_eq, State.copyBegins_region hc, if_true]
    refine ⟨?_, ?_, ?_, ?_⟩
    · simp [State.trackNext, hw.mem]
    · simp [State.trackNext, evRegs, logRegs]
    · simp [State.trackNext, evRegs, logRegs, hn]
    · simp [State.trackNext, evRegs, logRegs, ha]

end
end Sys2Proof.Machine
end

section
/-! SUPPORT. Banks of track memory: retention and waking (R221, R224). -/

namespace Sys2Proof.Machine

section
variable {s : State} {m : Nat}

theorem retFld_w (m : Nat) : (retFld m).lo + (retFld m).w ≤ 32 := by
  show m % 32 + 1 ≤ 32
  omega

theorem retFld_ne {a : Nat} (h : a = 0xC0000 ∨ a = 0x120058) (hm : m < 512) : (retFld m).a ≠ a := by
  show 0xC0040 + 4 * (m / 32) ≠ a
  omega

theorem State.flag_eq_true {f : Fld} (h : s.fld f = 1) : s.flag f = true := by
  rw [State.flag, h]
  rfl

theorem State.flag_eq_false {f : Fld} (h : s.fld f = 0) : s.flag f = false := by
  rw [State.flag, h]
  rfl

theorem State.flag_of_rd {t : State} {f : Fld} (h : t.rd f.a = s.rd f.a) : t.flag f = s.flag f := by
  rw [State.flag, State.flag, State.fld, State.fld, h]

/-- An idle bank enters retention, and with the last one the domain sleeps. -/
theorem bankRetention_runs {m : Fin 512} (hl : s.live = true) (he : s.fld F.TRK_RET_EN = 1) (hr : s.flag (retFld m.val) = false)
    (ho : bitOf s.sup.ownedBanks m.val = false) (hp : m.val < 480 ∨ s.fld F.PLAN_STAT_PRESENT = 0) :
    Runs (.bankRetention m) s fun t => t.flag (retFld m.val) = true ∧ t.fld F.TRK_STAT_AWAKE = s.fld F.TRK_STAT_AWAKE - 1 ∧
      (t.fld F.TRK_STAT_AWAKE = 0 → t.awake 0x14 = false) ∧ t.mem = s.mem := by
  have hgo : (s.live && s.flag F.TRK_RET_EN && !s.flag (retFld m.val) && !bitOf s.sup.ownedBanks m.val &&
      !(decide (480 ≤ m.val) && s.flag F.PLAN_STAT_PRESENT)) = true := by
    rw [hl, State.flag_eq_true he, hr, ho]
    rcases hp with hp | hp
    · simp [Nat.not_le.2 hp]
    · simp [State.flag_eq_false hp]
  have hlt : s.fld F.TRK_STAT_AWAKE < 2 ^ 10 := s.fld_lt _
  have hA : ((s.put (retFld m.val) 1).put F.TRK_STAT_AWAKE (s.fld F.TRK_STAT_AWAKE - 1)).fld F.TRK_STAT_AWAKE =
      s.fld F.TRK_STAT_AWAKE - 1 := by
    rw [State.put_fld_self (by decide), Nat.mod_eq_of_lt (by show _ < 2 ^ 10; omega)]
  have hR : ((s.put (retFld m.val) 1).put F.TRK_STAT_AWAKE (s.fld F.TRK_STAT_AWAKE - 1)).flag (retFld m.val) = true := by
    refine State.flag_eq_true ?_
    rw [State.put_fld_ne (retFld_ne (.inl rfl) m.isLt), State.put_fld_self (retFld_w _)]
    rfl
  refine ⟨_, if_pos hgo, ?_⟩
  dsimp only
  split
  · refine ⟨?_, ?_, fun _ => ?_, rfl⟩
    · rw [State.flag_of_rd (State.put_rd_ne (retFld_ne (.inr rfl) m.isLt))]
      exact hR
    · rw [State.put_fld_ne (by decide)]
      exact hA
    · refine State.flag_eq_false ?_
      rw [State.put_fld_self (by decide)]
      rfl
  · rename_i hne
    exact ⟨hR, hA, fun h => absurd h hne, rfl⟩

/-- A bank out of retention. -/
theorem State.bankAwake_ready (hm : m < 512) : (s.bankAwake m).flag (retFld m) = false ∧
    (s.bankAwake m).fld F.TRK_STAT_AWAKE = min (s.fld F.TRK_STAT_AWAKE + 1) 512 ∧ (s.bankAwake m).awake 0x14 = true := by
  unfold State.bankAwake
  refine ⟨State.flag_eq_false ?_, ?_, State.flag_eq_true ?_⟩
  · rw [State.put_fld_ne (retFld_ne (.inr rfl) hm), State.put_fld_ne (retFld_ne (.inl rfl) hm), State.put_fld_self (retFld_w m)]
    rfl
  · rw [State.put_fld_ne (by decide), State.put_fld_self (by decide)]
    exact Nat.mod_eq_of_lt (by show _ < 2 ^ 10; omega)
  · rw [State.put_fld_self (by decide)]
    rfl

/-- An access wakes a bank at once. -/
theorem bankWake_access {m : Fin 512} (hl : s.live = true) (hr : s.flag (retFld m.val) = true)
    (hw : bitOf s.sup.wakingBanks m.val = false) (hb : s.bankReader m.val = none) :
    Runs (.bankWake m) s fun t => t.flag (retFld m.val) = false ∧ t.fld F.TRK_STAT_RET_HIT = 1 ∧
      t.fld F.TRK_STAT_AWAKE = min (s.fld F.TRK_STAT_AWAKE + 1) 512 ∧ t.awake 0x14 = true ∧ t.mem = s.mem := by
  obtain ⟨hret, hcnt, hawake⟩ := State.bankAwake_ready (s := s) m.isLt
  have he : s.bankReady m.val = (s.bankAwake m.val).raise F.TRK_STAT_RET_HIT := by
    simp only [State.bankReady, hw, hb, State.wakeBank, hr, Bool.false_eq_true, if_false, if_true]
  refine ⟨_, if_pos hl, ?_⟩
  rw [he]
  refine ⟨?_, ?_, ?_, ?_, rfl⟩
  · rw [State.flag_of_rd (State.raise_rd_ne (retFld_ne (.inl rfl) m.isLt))]
    exact hret
  · exact State.raise_fld_self (by decide)
  · rw [State.raise_fld_apart (by decide)]
    exact hcnt
  · exact (State.flag_of_rd (State.raise_rd_ne (by decide))).trans hawake

theorem testBit_putBit_self (x i : Nat) (b : Bool) : (putBit x i b).testBit i = b := by
  unfold putBit
  split
  · assumption
  · rename_i h
    rw [Nat.testBit_xor, Nat.testBit_two_pow_self]
    cases hx : x.testBit i <;> cases b <;> simp_all

theorem testBit_putBit_ne {x i j : Nat} {b : Bool} (h : i ≠ j) : (putBit x i b).testBit j = x.testBit j := by
  unfold putBit
  split
  · rfl
  · rw [Nat.testBit_xor, Nat.testBit_two_pow_of_ne h, Bool.xor_false]

theorem outReg_bank {a : Nat} (h : 0xC0000 ≤ a) : outReg a = false := by
  simp only [outReg, Bool.and_eq_false_iff, decide_eq_false_iff_not]
  omega

/-- A bank whose wake ends is ready, and the outputs that waited for it join. -/
theorem bankWake_ends {m : Fin 512} (hl : s.live = true) (hr : s.flag (retFld m.val) = true)
    (hw : bitOf s.sup.wakingBanks m.val = true) :
    Runs (.bankWake m) s fun t => t.flag (retFld m.val) = false ∧ bitOf t.sup.wakingBanks m.val = false ∧
      t.fld F.TRK_STAT_AWAKE = min (s.fld F.TRK_STAT_AWAKE + 1) 512 ∧ t.awake 0x14 = true ∧ t.mem = s.mem := by
  obtain ⟨hret, hcnt, hawake⟩ := State.bankAwake_ready
    (s := { s with sup := { s.sup with wakingBanks := putBit s.sup.wakingBanks m.val false } }) m.isLt
  have he : s.bankReady m.val =
      (({ s with sup := { s.sup with wakingBanks := putBit s.sup.wakingBanks m.val false } } : State).bankAwake m.val).joinAll := by
    unfold State.bankReady
    rw [if_pos hw]
    exact congrArg State.joinAll (if_pos hr)
  have hj := Woken.joinAll
    (s := ({ s with sup := { s.sup with wakingBanks := putBit s.sup.wakingBanks m.val false } } : State).bankAwake m.val)
  refine ⟨_, if_pos hl, ?_⟩
  rw [he]
  refine ⟨?_, ?_, ?_, ?_, ?_⟩
  · rw [State.flag_of_rd (hj.rd _ (outReg_bank (by show 0xC0000 ≤ 0xC0040 + 4 * (m.val / 32); omega)))]
    exact hret
  · rw [hj.waking]
    exact testBit_putBit_self _ _ _
  · rw [State.fld, hj.rd _ rfl]
    exact hcnt
  · exact (State.flag_of_rd (hj.rd _ rfl)).trans hawake
  · rw [hj.mem]
    rfl

end

/-! ### A reader's access -/

section
variable {s : State} {m n e : Nat}

/-- What a bank's reader plays: a visit in which some lane reads the bank in the present tick. -/
theorem State.bankReader_some (h : s.bankReader m = some (n, e)) :
    ∃ j < (s.lanesOf n).length, m ∈ s.laneBanks n e j (s.visitTick n) := by
  unfold State.bankReader at h
  split at h
  · cases h
  · obtain ⟨k, -, hk⟩ := List.exists_of_findSome?_eq_some h
    split at hk
    · rename_i v hv
      split at hk
      · rename_i hc
        obtain ⟨-, -, hany⟩ := hc
        obtain ⟨rfl, rfl⟩ := Prod.mk.inj (Option.some.inj hk)
        obtain ⟨j, hj, hmem⟩ := List.any_eq_true.1 hany
        refine ⟨j, List.mem_range.1 hj, ?_⟩
        rw [State.visitTick, hv]
        exact List.contains_iff_mem.1 hmem
      · cases hk
    · cases hk

theorem Woken.places {t : State} (h : Woken outReg s t) : SamePlaces s t :=
  h.samePlaces fun a ha => by
    simp only [placeReg, outReg, Bool.or_eq_true, Bool.and_eq_true, decide_eq_true_eq, Bool.and_eq_false_iff,
      decide_eq_false_iff_not] at ha ⊢
    omega

/-- The banks that a lane reads do not depend on the outputs' state. -/
theorem Woken.laneBanks {t : State} (h : Woken outReg s t) (j d : Nat) : t.laneBanks n e j d = s.laneBanks n e j d := by
  have he : t.entry n e = s.entry n e := by
    unfold State.entry State.crsWord
    rw [h.mem]
  simp only [State.laneBanks, he, h.places.lanes, h.places.seg, h.places.segInDram]

theorem Woken.visitTick {t : State} (h : Woken outReg s t) : t.visitTick n = s.visitTick n := by
  unfold State.visitTick State.sqn
  rw [h.sq, h.heat]

/-- Banks begin to wake. -/
def State.wakeAll (s : State) (l : List Nat) : State :=
  { s with sup := { s.sup with wakingBanks := l.foldl (fun w m => putBit w m true) s.sup.wakingBanks } }

theorem State.wakeAll_eq (l : List Nat) (s : State) :
    l.foldl (fun t m => { t with sup := { t.sup with wakingBanks := putBit t.sup.wakingBanks m true } }) s = s.wakeAll l := by
  induction l generalizing s with
  | nil => rfl
  | cons m l ih => exact ih _

theorem testBit_foldl_putBit {l : List Nat} {w : Nat} (h : m ∈ l ∨ w.testBit m = true) :
    (l.foldl (fun w m => putBit w m true) w).testBit m = true := by
  induction l generalizing w with
  | nil =>
    rcases h with h | h
    · cases h
    · exact h
  | cons k l ih =>
    refine ih ?_
    by_cases hk : k = m
    · rw [hk]
      exact .inr (testBit_putBit_self w m true)
    · rw [testBit_putBit_ne hk]
      exact h.imp_left fun hm => (List.mem_cons.1 hm).resolve_left (Ne.symm hk)

/-- Where a lane's visit reads a bank in retention, the bank begins to wake, and RET_HIT is set. -/
theorem State.darkLanes_wakes {j o : Nat} (hj : j < (s.lanesOf n).length) (hm : m ∈ s.laneBanks n e j (s.visitTick n))
    (hr : s.flag (retFld m) = true) (hlt : m < 512) :
    (s.darkLanes n e o).flag (retFld m) = true ∧ bitOf (s.darkLanes n e o).sup.wakingBanks m = true ∧
      (s.darkLanes n e o).fld F.TRK_STAT_RET_HIT = 1 ∧ (s.darkLanes n e o).mem = s.mem := by
  unfold State.darkLanes
  extract_lets banks s1 s2
  have hbank : m ∈ banks := List.mem_filter.2 ⟨List.mem_flatMap.2 ⟨j, List.mem_range.2 hj, hm⟩, hr⟩
  have hs1 : s1 = (s.raise F.TRK_STAT_RET_HIT).wakeAll banks := State.wakeAll_eq _ _
  have hs2 : Woken outReg s1 s2 :=
    Woken.restOuts (fun c hc => State.fcsOf_lt (List.mem_filter.1 hc).1) (fun c hc => State.vpsOf_lt (List.mem_filter.1 hc).1)
  have hret : s2.flag (retFld m) = true := by
    rw [State.flag_of_rd (hs2.rd _ (outReg_bank (by show 0xC0000 ≤ 0xC0040 + 4 * (m / 32); omega))), hs1]
    exact (State.flag_of_rd (State.raise_rd_ne (retFld_ne (.inl rfl) hlt))).trans hr
  have hwake : bitOf s2.sup.wakingBanks m = true := by
    rw [hs2.waking, hs1]
    exact testBit_foldl_putBit (.inl hbank)
  have hhit : s2.fld F.TRK_STAT_RET_HIT = 1 := by
    rw [State.fld, hs2.rd _ rfl, hs1]
    exact State.raise_fld_self (s := s) (by decide)
  have hmem : s2.mem = s.mem := by
    rw [hs2.mem, hs1]
    rfl
  rw [if_neg (by rw [List.isEmpty_iff]; exact List.ne_nil_of_mem hbank)]
  split
  · exact ⟨hret, hwake, hhit, hmem⟩
  · refine ⟨?_, ?_, ?_, ?_⟩
    · rw [State.flag_of_rd (State.event_rd ?_)]
      · exact hret
      · show 0xC0040 + 4 * (m / 32) ∉ evRegs
        intro hx
        have hb : ∀ a ∈ evRegs, a < 0xC0040 ∨ 0xC0080 ≤ a := by decide
        have := hb _ hx
        omega
    · rw [State.event_sup]
      exact hwake
    · rw [State.event_fld (by decide)]
      exact hhit
    · rw [State.event_mem]
      exact hmem

end

/-- A reader's access begins the bank's wake. -/
theorem bankWake_reader {s : State} {m : Fin 512} {n e : Nat} (hl : s.live = true) (hr : s.flag (retFld m.val) = true)
    (hw : bitOf s.sup.wakingBanks m.val = false) (hb : s.bankReader m.val = some (n, e)) :
    Runs (.bankWake m) s fun t => t.flag (retFld m.val) = true ∧ bitOf t.sup.wakingBanks m.val = true ∧
      t.fld F.TRK_STAT_RET_HIT = 1 ∧ t.mem = s.mem := by
  have hu : Woken outReg s s.fineNow := Woken.fineNow
  obtain ⟨j, hj, hm⟩ := State.bankReader_some hb
  have he : s.bankReady m.val = s.fineNow.darkLanes n e s.tm.heat := by
    simp only [State.bankReady, hw, hb, Bool.false_eq_true, if_false]
  have hj' : j < (s.fineNow.lanesOf n).length := by rwa [hu.places.lanes]
  have hm' : m.val ∈ s.fineNow.laneBanks n e j (s.fineNow.visitTick n) := by rwa [hu.laneBanks, hu.visitTick]
  have hr' : s.fineNow.flag (retFld m.val) = true :=
    (State.flag_of_rd (hu.rd _ (outReg_bank (by show 0xC0000 ≤ 0xC0040 + 4 * (m.val / 32); omega)))).trans hr
  obtain ⟨hret, hwake, hhit, hmem⟩ := State.darkLanes_wakes (o := s.tm.heat) hj' hm' hr' m.isLt
  refine ⟨_, if_pos hl, ?_⟩
  rw [he]
  exact ⟨hret, hwake, hhit, hmem.trans hu.mem⟩

/-- Settles O19, window by window and bank by bank. -/
theorem segmentAndTrackWindows : Obligations.SegmentAndTrackWindows := by
  unfold Obligations.SegmentAndTrackWindows
  refine ⟨?_, ?_, ?_, ?_, ?_, ?_, ?_, ?_, ?_, ?_, ?_⟩
  · exact fun _ _ h hr hin => segwRead_inside h hr hin
  · exact fun _ _ h hr hin => segwRead_outside h hr hin
  · exact fun _ _ _ h hin ha ht => segwWrite_inactive h hin ha ht
  · exact fun _ _ _ h hin ha => segwWrite_ofActive h hin ha
  · exact fun _ _ h hr => trackWindowRead_gives h hr
  · exact fun _ _ _ _ hl hb hh hc => trackWindowWrite_stores hl hb hh hc
  · exact fun _ _ _ hl hb hh hc => trackWindowWrite_lost hl hb hh hc
  · exact fun _ _ hl he hr ho hp => bankRetention_runs hl he hr ho hp
  · exact fun _ _ hl hr hw hb => bankWake_access hl hr hw hb
  · exact fun _ _ hl hr hw => bankWake_ends hl hr hw
  · exact fun _ _ _ _ hl hr hw hb => bankWake_reader hl hr hw hb

end Sys2Proof.Machine
end

section
/-! SUPPORT. The state at power-on reset (R308) and the states that are held. -/

namespace Sys2Proof.Machine

/-- In reset every fine channel is on the hold path, and every vector pin with its driver off (R184, R212). -/
theorem State.reset_outputs_onHold :
    (∀ n : Fin 64, State.reset.fld (F.FC_STAT_ON_HOLD n.val) = 1) ∧
    (∀ n : Fin 128, State.reset.fld (F.VP_STAT_ON_HOLD n.val) = 1 ∧ State.reset.fld (F.VP_STAT_DRIVE n.val) = 2) := by
  decide

/-- In reset every queue is empty, with its MARK at half its depth (R292, R293). -/
theorem State.reset_queues_empty :
    ∀ i : Fin 14, State.reset.level i.val = 0 ∧ State.reset.fld (qMark i.val) = qDepth i.val / 2 := by
  decide

/-- A frozen device for which no command waits stands (R326). -/
theorem State.stands_of_frozen {s : State} (hf : s.flag F.DBG_STAT_FROZEN = true) (hp : s.pending = []) :
    s.stands = true := by
  simp only [State.stands, State.heldStill, hf, hp, Bool.true_or, List.all_nil, Bool.and_self]

/-- Settles O47: each value of the reset state is its register's reset value or its record's own. -/
theorem resetLeaves : Obligations.ResetLeaves := by
  unfold Obligations.ResetLeaves
  obtain ⟨hFine, hPins⟩ := State.reset_outputs_onHold
  refine ⟨⟨?_, rfl, hFine, hPins, ?_, ?_, ?_, ?_, ?_, State.reset_queues_empty, rfl, rfl, rfl, rfl, rfl, rfl, rfl, rfl, rfl,
    rfl, Memory.wf_reset, ?queuesFit, ?live, rfl⟩, ?stands, fun s => State.stands_of_frozen⟩
  all_goals decide

end Sys2Proof.Machine
end

section
/-! SUPPORT. One access of the management cores on a free bus (R274, R276): what the bus makes of an access that completes and of one
that waits, and what an error of the bus loads (R278). -/

namespace Sys2Proof.Machine

variable {s u : State} {x : Access}

/-- An access that completes leaves the bus free again. -/
theorem State.busRow_done {e : Bool} (hl : s.live = true) (hb : s.bus = []) (hj : x.jtag = false)
    (ht : ({ s with bus := [x] } : State).tryAccess x = ⟨true, e, u⟩) :
    s.busRow x = ({ u with bus := u.bus.drop 1 } : State).noteLevels := by
  unfold State.busRow State.busAccess State.busGo
  rw [if_pos hl, hb, List.nil_append]
  simp only [List.length_cons, List.length_nil, Nat.zero_add, State.busRun, State.setBus_live, hl, Bool.not_true,
    Bool.false_eq_true, if_false, ht, if_true, State.endAccess, hj]

/-- An access that waits stands on the bus. -/
theorem State.busRow_waits {e : Bool} (hl : s.live = true) (hb : s.bus = [])
    (ht : ({ s with bus := [x] } : State).tryAccess x = ⟨false, e, u⟩) : s.busRow x = u.noteLevels := by
  unfold State.busRow State.busAccess State.busGo
  rw [if_pos hl, hb, List.nil_append]
  simp only [List.length_cons, List.length_nil, Nat.zero_add, State.busRun, State.setBus_live, hl, Bool.not_true,
    Bool.false_eq_true, if_false, ht]

/-- The bus was free: dropping what stands on it gives it back as it was. -/
theorem State.freeBus (hb : s.bus = []) : ({ s with bus := [] } : State) = s := by
  cases s
  simp only at hb
  rw [hb]

/-! ### The errors of the bus -/

/-- The flags of different errors are different bits of GLB_ERR (R278). -/
theorem errFlag_apart : ∀ f k : Fin 6, f.val ≠ 0 → k.val ≠ 0 → f ≠ k →
    Fld.apart (errFlag f.val) (errFlag k.val) = true := by decide

theorem errFlag_count : ∀ k : Fin 6, Fld.apart F.GLB_ERR_ERR_COUNT (errFlag k.val) = true ∧
    Fld.apart (errFlag k.val) F.GLB_ERR_ERR_COUNT = true ∧ (errFlag k.val).a = 0x54 ∧
    (errFlag k.val).lo + (errFlag k.val).w ≤ 32 ∧ (errFlag k.val).w = 1 := by decide

/-- An error of the bus loads ERR_ADDR, sets its own flag alone, and counts (R278). -/
theorem State.busErr_loads (s : State) {k : Nat} (x : Access) (hk : k ≠ 0) (hk6 : k < 6) :
    (s.busErr k x).rd 0x50 = BitVec.ofNat 32 (x.a % 2 ^ 24 + 2 ^ 24 * k + 2 ^ 28 * b2n x.wr + 2 ^ 29 * b2n x.p) ∧
    (s.busErr k x).fld (errFlag k) = 1 ∧
    (s.busErr k x).fld F.GLB_ERR_ERR_COUNT = min (s.fld F.GLB_ERR_ERR_COUNT + 1) 65535 ∧
    ∀ f : Fin 6, f.val ≠ 0 → f.val ≠ k → (s.busErr k x).fld (errFlag f.val) = s.fld (errFlag f.val) := by
  obtain ⟨hck, hkc, ha, hw, hw1⟩ := errFlag_count ⟨k, hk6⟩
  simp only at hck hkc ha hw hw1
  unfold State.busErr
  refine ⟨?_, ?_, ?_, fun f hf hfk => ?_⟩
  · rw [State.bump_rd_ne (by decide), State.raise_rd_ne (by rw [ha]; decide), State.wr_rd_self]
  · rw [State.bump_fld_apart hkc, State.raise_fld_self hw, hw1]
    rfl
  · rw [State.bump_fld_self (by decide), State.raise_fld_apart hck, State.wr_fld_ne (by decide)]
    rfl
  · obtain ⟨-, hfc, hfa, -, -⟩ := errFlag_count f
    have hapart : Fld.apart (errFlag f.val) (errFlag k) = true := errFlag_apart f ⟨k, hk6⟩ hf hk (Fin.ne_of_val_ne hfk)
    rw [State.bump_fld_apart hfc, State.raise_fld_apart hapart, State.wr_fld_ne (by rw [hfa]; decide)]

/-- What waits on the bus does not bear on an error of it, which leaves it as it is. -/
theorem State.setBus_busErr (s : State) (b : List Access) (k : Nat) (x : Access) :
    ({ s with bus := b } : State).busErr k x = { s.busErr k x with bus := b } := rfl

/-! ### A register write that a check ends -/

/-- The access of REGISTER_WRITE. -/
abbrev regAcc (a : BitVec 24) (w : Word) (n : Nat) (p : Bool) : Access := ⟨a.toNat, true, w, n, p, false, false, false⟩

section
variable {a : BitVec 24} {w : Word} {n : Nat} {p : Bool}

/-- A write that ends with an error of the bus and does nothing else. -/
theorem registerWrite_error {k : Nat} (hk : k ≠ 0) (hk6 : k < 6) (hl : s.live = true) (hb : s.bus = [])
    (ht : ({ s with bus := [regAcc a w n p] } : State).tryAccess (regAcc a w n p) =
      ⟨true, true, ({ s with bus := [regAcc a w n p] } : State).busErr k (regAcc a w n p)⟩) :
    Does (.registerWrite a w n p) s fun t => t = s.busErr k (regAcc a w n p) ∧
      t.rd 0x50 = BitVec.ofNat 32 (a.toNat + 2 ^ 24 * k + 2 ^ 28 + 2 ^ 29 * b2n p) ∧ t.fld (errFlag k) = 1 ∧
      t.fld F.GLB_ERR_ERR_COUNT = min (s.fld F.GLB_ERR_ERR_COUNT + 1) 65535 ∧
      (∀ f : Fin 6, f.val ≠ 0 → f.val ≠ k → t.fld (errFlag f.val) = s.fld (errFlag f.val)) ∧ t.mem = s.mem ∧ t.q = s.q := by
  obtain ⟨hrd, hflag, hcount, hothers⟩ := State.busErr_loads s (regAcc a w n p) hk hk6
  refine ⟨s.busErr k (regAcc a w n p), ?_, rfl, ?_, hflag, hcount, hothers, rfl, rfl⟩
  · show Host.Outcome.next (s.busRow (regAcc a w n p)) = _
    have hbus : (s.busErr k (regAcc a w n p)).bus = [] := hb
    rw [State.busRow_done hl hb rfl ht, State.setBus_busErr]
    simp only [List.drop_one, List.tail_cons, State.freeBus hbus]
  · rw [hrd, Nat.mod_eq_of_lt a.isLt]
    simp only [b2n, if_true, Nat.mul_one]

/-- A write to an absent unit, and one of 32 bits to no register of an awake unit, changes nothing (R272, R276 step 1). -/
theorem registerWrite_ignored (hl : s.live = true) (hb : s.bus = [])
    (h : s.regAbsent (a.toNat / 4 * 4) = true ∨
      ((findReg (a.toNat / 4 * 4)).isSome = false ∧ s.regAsleep (a.toNat / 4 * 4) = none ∧ n = 4)) :
    Does (.registerWrite a w n p) s fun t => t = s := by
  refine ⟨s, ?_, rfl⟩
  have ht : ∃ e, ({ s with bus := [regAcc a w n p] } : State).tryAccess (regAcc a w n p) =
      ⟨true, e, ({ s with bus := [regAcc a w n p] } : State)⟩ := by
    unfold State.tryAccess
    simp only [State.setBus_regAbsent, State.setBus_regAsleep]
    by_cases habs : s.regAbsent (a.toNat / 4 * 4) = true
    · exact ⟨true, if_pos habs⟩
    · obtain ⟨hreg, hawake, hn⟩ := h.resolve_left habs
      refine ⟨false, ?_⟩
      simp only [if_neg habs, hawake, hn, Option.isSome_eq_false_iff.1 hreg, State.answerRead]
      simp
  obtain ⟨e, ht⟩ := ht
  show Host.Outcome.next (s.busRow (regAcc a w n p)) = _
  rw [State.busRow_done hl hb rfl ht]
  exact congrArg (fun t : State => Host.Outcome.next t.noteLevels) (State.freeBus hb)

/-- A write to a domain that is asleep starts its wake and waits (R276 step 2, R277). -/
theorem registerWrite_asleep {d : Nat} (hl : s.live = true) (hb : s.bus = [])
    (habs : s.regAbsent (a.toNat / 4 * 4) = false) (hd : s.regAsleep (a.toNat / 4 * 4) = some d) :
    Does (.registerWrite a w n p) s fun t => t = ({ s with bus := [regAcc a w n p] } : State).accessWake d := by
  refine ⟨_, ?_, rfl⟩
  have ht : ({ s with bus := [regAcc a w n p] } : State).tryAccess (regAcc a w n p) =
      ⟨false, false, ({ s with bus := [regAcc a w n p] } : State).accessWake d⟩ := by
    unfold State.tryAccess
    simp only [State.setBus_regAbsent, State.setBus_regAsleep, habs, hd, Bool.false_eq_true, if_false]
  exact congrArg Host.Outcome.next (State.busRow_waits hl hb ht)

section
variable (habs : s.regAbsent (a.toNat / 4 * 4) = false) (hawake : s.regAsleep (a.toNat / 4 * 4) = none)
include habs hawake

/-- A narrow write fails the check of the size, whatever stands at its address (R275, R276 step 3). -/
theorem tryAccess_narrow (hn : n ≠ 4) : ({ s with bus := [regAcc a w n p] } : State).tryAccess (regAcc a w n p) =
    ⟨true, true, ({ s with bus := [regAcc a w n p] } : State).busErr 4 (regAcc a w n p)⟩ := by
  unfold State.tryAccess
  simp only [State.setBus_regAbsent, State.setBus_regAsleep, habs, hawake, Bool.false_eq_true, if_false]
  rw [if_pos (by simp [hn])]

/-- An unprivileged write to a privileged register fails the check of the privilege (R276 step 4). -/
theorem tryAccess_unprivileged (hreg : (findReg (a.toNat / 4 * 4)).isSome = true)
    (hpriv : s.regPriv (a.toNat / 4 * 4) = true) :
    ({ s with bus := [regAcc a w 4 false] } : State).tryAccess (regAcc a w 4 false) =
      ⟨true, true, ({ s with bus := [regAcc a w 4 false] } : State).busErr 5 (regAcc a w 4 false)⟩ := by
  have hsome : (findReg (a.toNat / 4 * 4)).isNone = false := Option.isNone_eq_false_iff.2 hreg
  unfold State.tryAccess
  simp only [State.setBus_regAbsent, State.setBus_regAsleep, State.setBus_regPriv, habs, hawake, hpriv, hsome,
    Bool.false_eq_true, if_false, ne_eq, not_true_eq_false, decide_false, Bool.and_false, Bool.not_false, Bool.and_self,
    if_true, State.answerRead]

end

/-- A register with a key is neither a port nor privileged. -/
theorem keyReg_plain {b : Nat} (h : keyReg b = true) :
    readPort b = none ∧ writePort b = none ∧ b ≠ 0x28088 := by
  simp only [keyReg, List.contains_iff_mem, List.mem_cons, List.not_mem_nil, or_false] at h
  rcases h with rfl | rfl | rfl | rfl | rfl <;> decide

/-- A write without the key to a register that has one fails the check of the key (R276 step 5, R280). -/
theorem tryAccess_keyless (habs : s.regAbsent (a.toNat / 4 * 4) = false) (hawake : s.regAsleep (a.toNat / 4 * 4) = none)
    (hreg : (findReg (a.toNat / 4 * 4)).isSome = true) (hkey : keyReg (a.toNat / 4 * 4) = true) (harm : s.armed = false) :
    ({ s with bus := [regAcc a w 4 p] } : State).tryAccess (regAcc a w 4 p) =
      ⟨true, true, ({ s with bus := [regAcc a w 4 p] } : State).busErr 2 (regAcc a w 4 p)⟩ := by
  obtain ⟨hrp, hwp, hseg⟩ := keyReg_plain hkey
  have hsome : (findReg (a.toNat / 4 * 4)).isNone = false := Option.isNone_eq_false_iff.2 hreg
  have hpriv : s.regPriv (a.toNat / 4 * 4) = false := by simp only [State.regPriv, hrp, hwp]
  have hwait : s.portWait true (a.toNat / 4 * 4) = false := by
    simp only [State.portWait, if_neg hseg, if_true, hwp]
  have harm' : ({ s with bus := [regAcc a w 4 p] } : State).armed = false := harm
  unfold State.tryAccess
  simp only [State.setBus_regAbsent, State.setBus_regAsleep, State.setBus_regPriv, State.setBus_portWait, habs, hawake, hpriv,
    hsome, hwait, Bool.false_eq_true, if_false, ne_eq, not_true_eq_false, decide_false, Bool.and_false, Bool.false_and,
    Bool.not_true, if_true]
  unfold State.tryWrite
  rw [if_pos (by rw [hkey, harm']; rfl)]

end

/-! ### Fields that a write gives and keeps -/

/-- A plain write gives the field of `w` bits from `lo`: its bits are all RW (R12). -/
def RegRow.gives (r : RegRow) (lo w : Nat) : Bool :=
  (List.range w).all fun i => bitOf r.rw (lo + i) && !bitOf r.w1c (lo + i)

/-- A field of RW bits reads after a plain write as it was written. -/
theorem getBits_mergeWrite {r : RegRow} {lo w : Nat} {old v : Word} (h : r.gives lo w = true) (hw : lo + w ≤ 32) :
    getBits lo w (mergeWrite r old v) = getBits lo w v := by
  apply Nat.eq_of_testBit_eq
  intro i
  rw [getBits_testBit, getBits_testBit]
  by_cases hi : i < w
  · have hbit := List.all_eq_true.1 h i (List.mem_range.2 hi)
    simp only [bitOf, Bool.and_eq_true, Bool.not_eq_true'] at hbit
    obtain ⟨hrw, hw1c⟩ := hbit
    have hlt : lo + i < 32 := by omega
    simp only [mergeWrite, BitVec.getLsbD_or, BitVec.getLsbD_and, BitVec.getLsbD_not, BitVec.getLsbD_ofNat, hrw, hw1c, hlt,
      decide_true, Bool.and_true, Bool.not_true, Bool.and_false, Bool.false_or, Bool.false_and, Bool.or_false]
  · simp only [hi, decide_false, Bool.false_and]

/-- A field of locked RW bits keeps its value in the word that is written in a write's place (R281). -/
theorem getBits_locked {lo w : Nat} {m v old rw : Word} (h : ∀ i < w, m.getLsbD (lo + i) = true ∧ rw.getLsbD (lo + i) = true) :
    getBits lo w ((v &&& ~~~m) ||| (old &&& m &&& rw)) = getBits lo w old := by
  apply Nat.eq_of_testBit_eq
  intro i
  rw [getBits_testBit, getBits_testBit]
  by_cases hi : i < w
  · obtain ⟨hm, hrw⟩ := h i hi
    simp only [BitVec.getLsbD_or, BitVec.getLsbD_and, BitVec.getLsbD_not, hm, hrw, Bool.not_true, Bool.and_false,
      Bool.false_or, Bool.and_true]
  · simp only [hi, decide_false, Bool.false_and]

/-- A field without locked bits is written as the write has it (R281). -/
theorem getBits_unlocked {lo w : Nat} {m v old rw : Word} (hw : lo + w ≤ 32) (h : ∀ i < w, m.getLsbD (lo + i) = false) :
    getBits lo w ((v &&& ~~~m) ||| (old &&& m &&& rw)) = getBits lo w v := by
  apply Nat.eq_of_testBit_eq
  intro i
  rw [getBits_testBit, getBits_testBit]
  by_cases hi : i < w
  · have hlt : lo + i < 32 := by omega
    simp only [BitVec.getLsbD_or, BitVec.getLsbD_and, BitVec.getLsbD_not, h i hi, hlt, decide_true, Bool.not_false,
      Bool.and_true, Bool.and_false, Bool.false_and, Bool.or_false]
  · simp only [hi, decide_false, Bool.false_and]

/-- Words that differ in a field differ under the mask of its bits. -/
theorem xor_mask_ne_zero {lo w : Nat} {m v old : Word} (h : getBits lo w v ≠ getBits lo w old)
    (hm : ∀ i < w, m.getLsbD (lo + i) = true) : (v ^^^ old) &&& m ≠ 0 := by
  intro e
  refine h (Nat.eq_of_testBit_eq fun i => ?_)
  rw [getBits_testBit, getBits_testBit]
  by_cases hi : i < w
  · have hbit := congrArg (fun x : Word => x.getLsbD (lo + i)) e
    simp only [BitVec.getLsbD_and, BitVec.getLsbD_xor, hm i hi, Bool.and_true] at hbit
    rw [BitVec.ofNat_eq_ofNat, BitVec.getLsbD_zero, bne_eq_false_iff_eq] at hbit
    rw [hbit]
  · simp only [hi, decide_false, Bool.false_and]

/-- Words that agree in their low byte agree under its mask. -/
theorem xor_lowByte_zero {v old : Word} (h : getBits 0 8 v = getBits 0 8 old) : (v ^^^ old) &&& 0xFF#32 = 0 := by
  apply BitVec.eq_of_getLsbD_eq
  intro i hi
  have hbit := congrArg (fun x : Nat => x.testBit i) h
  simp only [getBits_testBit, Nat.zero_add] at hbit
  have hmask : (0xFF#32).getLsbD i = decide (i < 8) := by
    rw [BitVec.getLsbD_ofNat, show (255 : Nat) = 2 ^ 8 - 1 from rfl, Nat.testBit_two_pow_sub_one]
    simp only [hi, decide_true, Bool.true_and]
  rw [BitVec.getLsbD_and, BitVec.getLsbD_xor, hmask, BitVec.ofNat_eq_ofNat, BitVec.getLsbD_zero]
  by_cases h8 : i < 8
  · simp only [h8, decide_true, Bool.true_and] at hbit
    rw [hbit, Bool.xor_self, Bool.false_and]
  · simp only [h8, decide_false, Bool.and_false]

/-- Words that agree in their low byte agree in each field of it. -/
theorem getBits_lowByte {lo w : Nat} {v old : Word} (h : getBits 0 8 v = getBits 0 8 old) (hw : lo + w ≤ 8) :
    getBits lo w v = getBits lo w old := by
  apply Nat.eq_of_testBit_eq
  intro i
  rw [getBits_testBit, getBits_testBit]
  by_cases hi : i < w
  · have hbit := congrArg (fun x : Nat => x.testBit (lo + i)) h
    simp only [getBits_testBit, Nat.zero_add, decide_eq_true (show lo + i < 8 by omega), Bool.true_and] at hbit
    rw [hbit]
  · simp only [hi, decide_false, Bool.false_and]

/-- A register without buffered bits is read as its working value (R284). -/
theorem State.cfgRead_unbuffered (s : State) {b : Nat} (h : bufMask b = 0) : s.cfgRead b = s.rd b := by
  unfold State.cfgRead
  split
  · rfl
  · rw [h, not_zero_word, BitVec.and_allOnes, BitVec.ofNat_eq_ofNat, BitVec.and_zero, BitVec.or_zero]

/-! ### A write that meets the locks -/

/-- The state that a write leaves which passes the checks before the locks: a violation is an error of the bus, and a register locked as a
whole ignores the write (R276 step 6, R281). -/
def State.lockWrote (s : State) (b : Nat) (v : Word) (p : Bool) : State :=
  let m := s.regLocks b v
  let s1 : State := { s with bus := [wrAcc b v p] }
  let s2 := if (s.lockOut b m v).1 then s1.busErr 1 (wrAcc b v p) else s1
  let s3 := if m = wholeLock then s2 else s2.regWrite (wrAcc b v p) b (s.lockOut b m v).2
  { s3 with bus := s3.bus.drop 1 }

theorem State.writeRow_opens {b : Nat} {v : Word} {p : Bool} (ho : s.opens b p = true) (ha : b % 4 = 0)
    (hk : keyReg b = false) (hm : s.mbxHeld b = false) (hw : s.portWait true b = false) :
    s.writeRow b v p = (s.lockWrote b v p).noteLevels := by
  obtain ⟨hl, hb, hreg, habs, hawake, hpriv⟩ := State.opens_iff ho
  have e : b / 4 * 4 = b := by omega
  have ht : ∃ err, ({ s with bus := [wrAcc b v p] } : State).tryAccess (wrAcc b v p) = ⟨true, err,
      let s2 : State := if (s.lockOut b (s.regLocks b v) v).1 then ({ s with bus := [wrAcc b v p] } : State).busErr 1 (wrAcc b v p)
        else { s with bus := [wrAcc b v p] }
      if s.regLocks b v = wholeLock then s2 else s2.regWrite (wrAcc b v p) b (s.lockOut b (s.regLocks b v) v).2⟩ := by
    refine ⟨(s.lockOut b (s.regLocks b v) v).1, ?_⟩
    unfold State.tryAccess
    simp only [e, State.setBus_regAbsent, State.setBus_regAsleep, State.setBus_regPriv, State.setBus_portWait, habs, hawake,
      hpriv, hreg, hw, Bool.false_eq_true, if_false, ne_eq, not_true_eq_false, decide_false, Bool.and_false, Bool.false_and,
      Bool.not_true, if_true]
    unfold State.tryWrite
    simp only [hk, State.setBus_mbxHeld, hm, Bool.false_and, Bool.false_eq_true, if_false, State.useKey, State.setBus_regLocks,
      State.setBus_lockOut]
  obtain ⟨err, ht⟩ := ht
  exact State.busRow_done hl hb rfl ht

section
variable {b : Nat} {v : Word} {p : Bool}

/-- A violation at a register locked as a whole is an error of the bus alone. -/
theorem State.lockWrote_violated (hb : s.bus = []) (hm : s.regLocks b v = wholeLock)
    (hv : (s.lockOut b wholeLock v).1 = true) : s.lockWrote b v p = s.busErr 1 (wrAcc b v p) := by
  have hbus : (s.busErr 1 (wrAcc b v p)).bus = [] := hb
  unfold State.lockWrote
  rw [hm]
  dsimp only
  rw [hv, if_pos rfl, if_pos rfl, State.setBus_busErr]
  exact State.freeBus hbus

/-- A register locked as a whole ignores a write that would change none of its fields. -/
theorem State.lockWrote_ignored (hb : s.bus = []) (hm : s.regLocks b v = wholeLock)
    (hv : (s.lockOut b wholeLock v).1 = false) : s.lockWrote b v p = s := by
  unfold State.lockWrote
  rw [hm]
  dsimp only
  rw [hv, if_neg Bool.false_ne_true, if_pos rfl]
  exact State.freeBus hb

/-- A write that meets no locked bit, or not all of them, acts as its unlocked bits have it. -/
theorem State.lockWrote_acts (hm : s.regLocks b v ≠ wholeLock) (h1 : bufOfMode b = none) (h2 : writePort b = none)
    (h3 : lvlReg b = none) {s2 : State} (hs2 : s2 = if (s.lockOut b (s.regLocks b v) v).1
      then ({ s with bus := [wrAcc b v p] } : State).busErr 1 (wrAcc b v p) else { s with bus := [wrAcc b v p] }) :
    s.lockWrote b v p =
      { s2.blockWrite (wrAcc b v p) b (s.lockOut b (s.regLocks b v) v).2 with
        bus := (s2.blockWrite (wrAcc b v p) b (s.lockOut b (s.regLocks b v) v).2).bus.drop 1 } := by
  unfold State.lockWrote State.regWrite
  dsimp only
  rw [if_neg hm, h1, h2, h3, ← hs2]

end

/-! ### The trigger front ends (R117, R118) -/

theorem tiReg_row : ∀ k : Fin 16, findReg (0x30200 + 4 * k.val) = some ⟨0x30200, 4, 16, 4, 1, 0x0, 0xFF, 0x0, 0x0⟩ ∧
    readPort (0x30200 + 4 * k.val) = none ∧ writePort (0x30200 + 4 * k.val) = none ∧ lvlReg (0x30200 + 4 * k.val) = none ∧
    keyReg (0x30200 + 4 * k.val) = false := by
  decide

theorem tiReg_unbuffered : ∀ k : Fin 16, bufOfMode (0x30200 + 4 * k.val) = none := by decide +kernel

section
variable {k : Fin 16} {w : Word} {p : Bool}

/-- A write to a trigger front end of the awake PD_SEQ passes the checks before the locks. -/
theorem State.tiCfg_opens (hl : s.live = true) (hb : s.bus = []) (h2 : s.awake 2 = true) :
    s.opens (0x30200 + 4 * k.val) p = true ∧ s.mbxHeld (0x30200 + 4 * k.val) = false ∧
      s.portWait true (0x30200 + 4 * k.val) = false := by
  obtain ⟨hrow, hrp, hwp, -, -⟩ := tiReg_row k
  have hdom : regDom (0x30200 + 4 * k.val) = some 2 := by
    unfold regDom
    rw [show (0x30200 + 4 * k.val) / 0x10000 = 3 by omega]
    rfl
  refine ⟨?_, ?_, ?_⟩
  · simp only [State.opens, State.regAbsent, State.regAsleep, State.regPriv, hl, hb, hrow, hrp, hwp, hdom, h2, if_true,
      State.domPresent]
    rfl
  · have : ¬ (0x30200 + 4 * k.val < 0x38) := by omega
    simp only [State.mbxHeld, this, decide_false, Bool.and_false, Bool.false_and]
  · have : ¬ (0x30200 + 4 * k.val = 0x28088) := by omega
    simp only [State.portWait, if_neg this, if_true, hwp]

/-- The row of a write to a trigger front end. -/
theorem registerWrite_tiCfg (hl : s.live = true) (hb : s.bus = []) (h2 : s.awake 2 = true) :
    exec (.registerWrite (BitVec.ofNat 24 (0x30200 + 4 * k.val)) w 4 p) s =
      .next (s.lockWrote (0x30200 + 4 * k.val) w p).noteLevels := by
  obtain ⟨ho, hm, hw⟩ := State.tiCfg_opens (k := k) (p := p) hl hb h2
  obtain ⟨-, -, -, -, hk⟩ := tiReg_row k
  have hto : (BitVec.ofNat 24 (0x30200 + 4 * k.val)).toNat = 0x30200 + 4 * k.val := by
    rw [BitVec.toNat_ofNat, Nat.mod_eq_of_lt (by omega)]
  show Host.Outcome.next (s.busRow (regAcc (BitVec.ofNat 24 (0x30200 + 4 * k.val)) w 4 p)) = _
  rw [regAcc, hto]
  exact congrArg Host.Outcome.next (State.writeRow_opens ho (by omega) hk hm hw)

theorem State.tiCfg_cfgRead : s.cfgRead (0x30200 + 4 * k.val) = s.rd (0x30200 + 4 * k.val) := by
  obtain ⟨hrow, -⟩ := tiReg_row k
  exact s.cfgRead_unbuffered (by rw [bufMask, hrow]; rfl)

theorem State.tiCfg_regLocks : s.regLocks (0x30200 + 4 * k.val) w =
    if 2 ≤ s.fld F.SEQ_STAT_HEAT ∧ s.fld F.SEQ_STAT_HEAT ≤ 4 then wholeLock else 0 := by
  unfold State.regLocks
  rw [show (0x30200 + 4 * k.val) / 0x10000 = 3 by omega]
  show s.evtLocks _ = _
  unfold State.evtLocks
  refine if_congr ⟨fun h => ⟨h.2.2.1, h.2.2.2⟩, fun h => ⟨by omega, by omega, h⟩⟩ rfl rfl

/-- While the heat locks the front ends, a write that would change one is a violation, and one that would not is none (R118, R281). -/
theorem State.tiCfg_lockOut : (s.lockOut (0x30200 + 4 * k.val) wholeLock w).1 =
    decide (getBits 0 8 w ≠ getBits 0 8 (s.rd (0x30200 + 4 * k.val))) := by
  obtain ⟨hrow, -⟩ := tiReg_row k
  have hall : wholeLock = BitVec.allOnes 32 := rfl
  unfold State.lockOut
  simp only [hrow, State.tiCfg_cfgRead, hall, BitVec.and_allOnes, BitVec.ofNat_eq_ofNat, BitVec.and_zero, ne_eq,
    not_true_eq_false, decide_false, Bool.or_false]
  refine decide_eq_decide.2 (not_congr ⟨fun h => ?_, fun h => ?_⟩)
  · by_contra hne
    refine xor_mask_ne_zero (m := 255#32) hne (fun i hi => ?_) h
    rw [BitVec.getLsbD_ofNat, show (255 : Nat) = 2 ^ 8 - 1 from rfl, Nat.testBit_two_pow_sub_one]
    simp only [decide_eq_true (show 0 + i < 32 by omega), decide_eq_true (show 0 + i < 8 by omega), Bool.and_self]
  · exact xor_lowByte_zero h

/-- A write that would change a front end which the heat locks changes nothing but the bus's error registers (R118, R281). -/
theorem registerWrite_tiCfg_locked (hl : s.live = true) (hb : s.bus = []) (h2 : s.awake 2 = true)
    (hlo : 2 ≤ s.fld F.SEQ_STAT_HEAT) (hhi : s.fld F.SEQ_STAT_HEAT ≤ 4)
    (hne : getBits 0 8 w ≠ getBits 0 8 (s.rd (0x30200 + 4 * k.val))) :
    Does (.registerWrite (BitVec.ofNat 24 (0x30200 + 4 * k.val)) w 4 p) s fun t =>
      t.rd (0x30200 + 4 * k.val) = s.rd (0x30200 + 4 * k.val) ∧ t.fld F.GLB_ERR_LOCK_VIOL = 1 ∧
      t.rd 0x50 = BitVec.ofNat 32 (0x30200 + 4 * k.val + 2 ^ 24 + 2 ^ 28 + 2 ^ 29 * b2n p) ∧
      t.fld F.GLB_ERR_ERR_COUNT = min (s.fld F.GLB_ERR_ERR_COUNT + 1) 65535 ∧ t.bus = [] := by
  obtain ⟨hrd, hflag, hcount, -⟩ := State.busErr_loads s (k := 1) (wrAcc (0x30200 + 4 * k.val) w p) (by decide) (by decide)
  have hw : s.lockWrote (0x30200 + 4 * k.val) w p = s.busErr 1 (wrAcc (0x30200 + 4 * k.val) w p) :=
    State.lockWrote_violated hb (State.tiCfg_regLocks.trans (if_pos ⟨hlo, hhi⟩))
      (State.tiCfg_lockOut.trans (decide_eq_true hne))
  refine ⟨_, registerWrite_tiCfg hl hb h2, ?_⟩
  rw [hw]
  refine ⟨?_, hflag, ?_, hcount, hb⟩
  · unfold State.busErr
    rw [State.bump_rd_ne (by show _ ≠ 0x54; omega), State.raise_rd_ne (by show _ ≠ 0x54; omega), State.wr_rd_ne (by omega)]
  · rw [hrd, Nat.mod_eq_of_lt (by show 0x30200 + 4 * k.val < 2 ^ 24; omega)]
    simp only [b2n, if_true, Nat.mul_one]

/-- A write that keeps a front end as it is turns no level of its input (R117). -/
theorem State.tiCfg_blockWrite {x : Access} (heq : getBits 0 8 w = getBits 0 8 (s.rd (0x30200 + 4 * k.val))) :
    s.blockWrite x (0x30200 + 4 * k.val) w = s.plain (0x30200 + 4 * k.val) w := by
  obtain ⟨hrow, -⟩ := tiReg_row k
  have hm : (0x30200 + 4 * k.val - 0x30200) / 4 = k.val := by omega
  have hinv : s.fld (F.EVT_TI_CFG_INVERT k.val) = (s.plain (0x30200 + 4 * k.val) w).fld (F.EVT_TI_CFG_INVERT k.val) := by
    show getBits 4 1 (s.rd (0x30200 + 4 * k.val)) = getBits 4 1 ((s.plain (0x30200 + 4 * k.val) w).rd (0x30200 + 4 * k.val))
    rw [State.plain_rd_self hrow rfl, getBits_mergeWrite (by decide) (by decide)]
    exact getBits_lowByte heq.symm (by decide)
  unfold State.blockWrite
  rw [show (0x30200 + 4 * k.val) / 0x10000 = 3 by omega]
  show s.evtWrite _ _ = _
  unfold State.evtWrite
  rw [if_neg (by omega), if_neg (by omega), if_pos (by omega)]
  unfold State.tiCfgWrite
  rw [hm]
  exact if_pos hinv

/-- A write that keeps a front end as it is, is no violation, whether the heat locks it or not (R118, R281). -/
theorem registerWrite_tiCfg_same (hl : s.live = true) (hb : s.bus = []) (h2 : s.awake 2 = true)
    (heq : getBits 0 8 w = getBits 0 8 (s.rd (0x30200 + 4 * k.val))) :
    Does (.registerWrite (BitVec.ofNat 24 (0x30200 + 4 * k.val)) w 4 p) s fun t =>
      getBits 0 8 (t.rd (0x30200 + 4 * k.val)) = getBits 0 8 w ∧ t.fld F.GLB_ERR_LOCK_VIOL = s.fld F.GLB_ERR_LOCK_VIOL ∧
      t.rd 0x50 = s.rd 0x50 ∧ t.bus = [] := by
  refine ⟨_, registerWrite_tiCfg hl hb h2, ?_⟩
  by_cases hheat : 2 ≤ s.fld F.SEQ_STAT_HEAT ∧ s.fld F.SEQ_STAT_HEAT ≤ 4
  · rw [State.lockWrote_ignored hb (State.tiCfg_regLocks.trans (if_pos hheat))
      (State.tiCfg_lockOut.trans (decide_eq_false (not_not_intro heq)))]
    exact ⟨heq.symm, rfl, rfl, hb⟩
  · obtain ⟨hrow, -, hwp, hlvl, -⟩ := tiReg_row k
    have hm : s.regLocks (0x30200 + 4 * k.val) w = 0 := State.tiCfg_regLocks.trans (if_neg hheat)
    have hv : s.lockOut (0x30200 + 4 * k.val) 0 w = (false, w) := State.lockOut_zero s _ w
    rw [State.lockWrote_acts (by rw [hm]; decide) (tiReg_unbuffered k) hwp hlvl rfl, hm, hv, if_neg Bool.false_ne_true]
    have hw : ({ s with bus := [wrAcc (0x30200 + 4 * k.val) w p] } : State).blockWrite (wrAcc (0x30200 + 4 * k.val) w p)
        (0x30200 + 4 * k.val) w =
        ({ s with bus := [wrAcc (0x30200 + 4 * k.val) w p] } : State).plain (0x30200 + 4 * k.val) w :=
      State.tiCfg_blockWrite heq
    rw [hw]
    refine ⟨?_, ?_, ?_, ?_⟩
    · show getBits 0 8 (State.rd (State.plain _ _ _) _) = _
      rw [State.plain_rd_self hrow rfl, getBits_mergeWrite (by decide) (by decide)]
    · exact State.plain_fld_ne (by show 0x54 ≠ _; omega)
    · exact State.plain_rd_ne (by omega)
    · rw [State.plain_bus]; rfl

end

/-! ### The role of a device whose sequencers are active (R342) -/

/-- A write to MIR_CTRL that leaves the role and asks for no takeover only stores its other fields. -/
theorem State.mirWrite_sameRole {v : Word} (hr : getBits 0 2 v = s.role) (hh : s.fld F.MIR_STAT_HB_NOW = 0)
    (ht : bitOf v.toNat 16 = false) : s.mirWrite 0x130000 v = s.plain 0x130000 (setBits 0 2 s.role v) := by
  have hcmd : cmdBits [16] v = [] := List.filter_cons_of_neg (by rw [ht]; decide)
  have hflag : (s.plain 0x130000 (setBits 0 2 s.role v)).flag F.MIR_STAT_HB_NOW = false := by
    unfold State.flag
    rw [State.plain_fld_ne (by decide), hh]
    rfl
  unfold State.mirWrite
  simp only [if_pos hr, hflag, Bool.false_eq_true, if_false, State.command_none hcmd]

theorem mirCtrl_row : findReg 0x130000 = some ⟨0x130000, 16777216, 1, 4, 1, 0x0, 0x1F3, 0x0, 0x0⟩ := by decide

/-- What the lock of ROLE makes of a write of another role: a violation, the role as it was, the fields beside it as written, and no
takeover asked for (R281). -/
theorem State.lockOut_role {w : Word} (hne : getBits 0 2 w ≠ s.role) :
    ∃ v, s.lockOut 0x130000 3 (setBits 16 1 0 w) = (true, v) ∧ getBits 0 2 v = s.role ∧ bitOf v.toNat 16 = false ∧
      ∀ lo n, 2 ≤ lo → lo + n ≤ 16 → getBits lo n v = getBits lo n w := by
  have hold : s.cfgRead 0x130000 = s.rd 0x130000 := s.cfgRead_unbuffered (by rw [bufMask, mirCtrl_row]; rfl)
  have hrole : getBits 0 2 (setBits 16 1 0 w) = getBits 0 2 w := getBits_setBits_ne 16 1 0 2 0 w (by decide) (by decide)
  have hviol : (setBits 16 1 0 w ^^^ s.rd 0x130000) &&& 3 &&& BitVec.ofNat 32 0x1F3 ≠ 0 := by
    rw [BitVec.and_assoc]
    exact xor_mask_ne_zero (lo := 0) (w := 2) (by rw [hrole]; exact hne) (by decide)
  refine ⟨(setBits 16 1 0 w &&& ~~~3) ||| (s.rd 0x130000 &&& 3 &&& 0x1F3), ?_, getBits_locked (by decide), ?_, ?_⟩
  · unfold State.lockOut
    rw [mirCtrl_row, hold]
    exact Prod.ext (by simp only [decide_eq_true hviol, Bool.true_or]) rfl
  · show BitVec.getLsbD _ 16 = false
    rw [BitVec.getLsbD_or, BitVec.getLsbD_and, BitVec.getLsbD_and, BitVec.getLsbD_and, setBits_getLsbD _ _ _ _ _ (by decide)]
    simp
  · intro lo n hlo hhi
    have hmask : ∀ i < n, (3 : Word).getLsbD (lo + i) = false := fun i hi => by
      rw [show (3 : Word) = BitVec.ofNat 32 (2 ^ 2 - 1) from rfl, BitVec.getLsbD_ofNat, Nat.testBit_two_pow_sub_one,
        decide_eq_false (show ¬ lo + i < 2 by omega), Bool.and_false]
    rw [getBits_unlocked (by omega) hmask, getBits_setBits_ne _ _ _ _ _ _ (by omega) (Or.inr (by omega))]

/-- A write of another role while a sequencer is active keeps the role, stores the rest, and is a violation (R281, R342). -/
theorem roleWrite_locked {w : Word} {p : Bool} (ho : s.opens 0x130000 p = true) (hact : s.anyActive = true)
    (hne : getBits 0 2 w ≠ s.role) (hh : s.fld F.MIR_STAT_HB_NOW = 0) :
    Does (.roleWrite w p) s fun t => t.role = s.role ∧ t.fld F.MIR_CTRL_GAP = getBits 4 4 w ∧
      t.fld F.MIR_CTRL_AUTO_TAKE = getBits 8 1 w ∧ t.fld F.GLB_ERR_LOCK_VIOL = 1 ∧
      t.fld F.GLB_ERR_ERR_COUNT = min (s.fld F.GLB_ERR_ERR_COUNT + 1) 65535 ∧ t.mir = s.mir ∧ t.bus = [] := by
  have hm : s.regLocks 0x130000 (setBits 16 1 0 w) = 3 := if_pos ⟨rfl, Or.inl hact⟩
  obtain ⟨v, hv, hvRole, hvTake, hvOther⟩ := s.lockOut_role hne
  have hexec : exec (.roleWrite w p) s = .next (s.lockWrote 0x130000 (setBits 16 1 0 w) p).noteLevels :=
    congrArg Host.Outcome.next (State.writeRow_opens ho (by decide) (by decide) rfl rfl)
  refine ⟨_, hexec, ?_⟩
  rw [State.lockWrote_acts (by rw [hm]; decide) (by decide +kernel) (by decide) (by decide) rfl, hm, hv, if_pos rfl,
    State.setBus_busErr]
  generalize wrAcc 0x130000 (setBits 16 1 0 w) p = x
  obtain ⟨-, hflag, hcount, -⟩ := State.busErr_loads s (k := 1) x (by decide) (by decide)
  have hkeep : ∀ f : Fld, f.a ≠ 0x54 → f.a ≠ 0x50 → (s.busErr 1 x).fld f = s.fld f :=
    fun f h1 h2 => ((State.put_fld_ne h1).trans (State.put_fld_ne h1)).trans (State.wr_fld_ne h2)
  have hmir : (s.busErr 1 x).mir = s.mir := rfl
  generalize s.busErr 1 x = e at hflag hcount hkeep hmir ⊢
  have heRole : e.role = s.role := hkeep F.MIR_CTRL_ROLE (by decide) (by decide)
  have hw : ({ e with bus := [x] } : State).blockWrite x 0x130000 v =
      ({ e with bus := [x] } : State).plain 0x130000 (setBits 0 2 e.role v) :=
    State.mirWrite_sameRole (hvRole.trans heRole.symm) ((hkeep _ (by decide) (by decide)).trans hh) hvTake
  have hrd := State.plain_rd_self (s := { e with bus := [x] }) (v := setBits 0 2 e.role v) mirCtrl_row rfl
  have hfld : ∀ lo n, RegRow.gives ⟨0x130000, 16777216, 1, 4, 1, 0x0, 0x1F3, 0x0, 0x0⟩ lo n = true → 2 ≤ lo → lo + n ≤ 16 →
      getBits lo n ((({ e with bus := [x] } : State).plain 0x130000 (setBits 0 2 e.role v)).rd 0x130000) = getBits lo n w := by
    intro lo n hg hlo hhi
    rw [hrd, getBits_mergeWrite hg (by omega), getBits_setBits_ne _ _ _ _ _ _ (by omega) (Or.inl (by omega)), hvOther lo n hlo hhi]
  rw [hw]
  refine ⟨?_, hfld 4 4 (by decide) (by decide) (by decide), hfld 8 1 (by decide) (by decide) (by decide),
    (State.plain_fld_ne (by decide)).trans hflag, (State.plain_fld_ne (by decide)).trans hcount,
    (State.plain_mir _ _ _).trans hmir, by rw [State.plain_bus]; rfl⟩
  show getBits 0 2 (State.rd _ 0x130000) = s.role
  refine (congrArg (getBits 0 2) hrd).trans ?_
  rw [getBits_mergeWrite (by decide) (by decide), getBits_setBits_self _ _ _ _ (by decide), heRole]
  exact Nat.mod_eq_of_lt (State.fld_lt s F.MIR_CTRL_ROLE)

/-- Settles O50, check by check in the order of R276. -/
theorem accessChecks : Obligations.AccessChecks := by
  unfold Obligations.AccessChecks
  refine ⟨?ignored, ?asleep, ?size, ?privilege, ?key, ?lock, ?same, ?role⟩
  case ignored => exact fun _ _ _ _ _ hl hb h => registerWrite_ignored hl hb h
  case asleep => exact fun _ _ _ _ _ _ hl hb habs hd => registerWrite_asleep hl hb habs hd
  case size =>
    exact fun _ _ _ _ _ hl hb habs hawake hn => registerWrite_error (by decide) (by decide) hl hb (tryAccess_narrow habs hawake hn)
  case privilege =>
    rintro _ _ _ _ _ hl hb hreg habs hawake rfl hpriv rfl
    exact registerWrite_error (by decide) (by decide) hl hb (tryAccess_unprivileged habs hawake hreg hpriv)
  case key =>
    rintro _ _ _ _ _ hl hb hreg habs hawake rfl hkey harm
    exact registerWrite_error (by decide) (by decide) hl hb (tryAccess_keyless habs hawake hreg hkey harm)
  case lock => exact fun _ _ _ _ hl hb h2 hlo hhi hne _ => registerWrite_tiCfg_locked hl hb h2 hlo hhi hne
  case same => exact fun _ _ _ _ hl hb h2 heq _ => registerWrite_tiCfg_same hl hb h2 heq
  case role => exact fun _ _ _ ho hact hne hh => roleWrite_locked ho hact hne hh

end Sys2Proof.Machine
end

section
/-! SUPPORT. A state in which the report of a domain whose wake is held back changes registers all the same: the row ends with the look
at the levels, which brings PAIR up to date (R344). -/

namespace Sys2Proof.Machine

/-- PD_K0 is being woken while the main PLL sleeps, which holds its wake back (R24); the mirror link is up, and PAIR still shows that
it is down. -/
def State.heldWake : State :=
  let s := (State.reset.put F.SUP_STAT_STAGE 9).put F.MIR_STAT_LINK_UP 1
  { s with sup := { s.sup with por := false, waking := 2 ^ 8 } }

/-- The premises of the clause on a wake that is held back, for PD_K0. -/
theorem State.heldWake_premises : State.heldWake.live = true ∧ bitOf State.heldWake.sup.waking (8#6).toNat = true ∧
    State.heldWake.wakeHeld (8#6).toNat = true ∧ State.heldWake.fld F.MBX_STAT_BUSY = 0 ∧
    State.heldWake.fld F.FABRIC_STAT_BUSY = 0 := by
  decide +kernel

/-- PAIR in the state that a command answers. -/
def pairAfter (o : Host.Outcome State Fault Refusal) : Nat := match o with | .next t => t.pair | _ => 0

/-- PAIR goes from DOWN to LINKED as PD_K0 reports ready in vain. -/
theorem State.heldWake_pair : pairAfter (exec (.domainReady 8#6 ⟨0, 0, 0, 0⟩) State.heldWake) = 1 ∧ State.heldWake.pair = 0 := by
  decide +kernel

/-- Refutes O33: the clause on a wake that is held back asks for unchanged registers, and the row's look at the levels moves PAIR. -/
theorem not_domainCommands : ¬ Obligations.DomainCommands := by
  unfold Obligations.DomainCommands
  rintro ⟨-, -, -, -, hheld, -⟩
  obtain ⟨hlive, hwaking, hwakeHeld, hmbx, hfab⟩ := State.heldWake_premises
  obtain ⟨t, ht, -, -, hregs, -⟩ :=
    hheld State.heldWake 8#6 ⟨0, 0, 0, 0⟩ hlive (by decide) (by decide) hwaking hwakeHeld rfl rfl hmbx hfab rfl
  obtain ⟨hafter, hbefore⟩ := State.heldWake_pair
  have hsame : t.pair = State.heldWake.pair := congrArg (fun g => getBits 0 3 (Sp.get resetOf g F.MIR_STAT_PAIR.a)) hregs
  rw [ht] at hafter
  rw [hbefore] at hsame
  exact absurd (hsame.symm.trans hafter) (by decide)

end Sys2Proof.Machine
end

section
/-! SUPPORT. The look at the levels while the heat is paused: the pair, OUT_EN and the pennants alone. And the mirror link that comes back in
a paused heat that it began in lockstep (R344, R347). -/

namespace Sys2Proof.Machine

section
variable {s : State}

/-- Level events that rise show themselves to the pennants, which touch nothing but the event unit (R122). -/
theorem State.pennants_only (old now : Nat) (l : List Nat) (s : State) : ∃ e, l.foldl (fun t ev =>
    if !bitOf old ev && bitOf now ev then t.pennantEvent ev t.tm.tb else t) s = { s with ev := e } := by
  induction l generalizing s with
  | nil => exact ⟨s.ev, rfl⟩
  | cons x xs ih =>
    rw [List.foldl_cons]
    split
    · obtain ⟨e, he⟩ := ih (s.pennantEvent x s.tm.tb)
      exact ⟨e, he⟩
    · exact ih s

/-- In a pause the look at the levels brings the pair up to date and shows the pennants what has changed; the heat looks at nothing
(R107). -/
theorem State.noteLevels_paused (h : s.fld F.SEQ_STAT_HEAT = 4) : ∃ e, s.noteLevels = { s.pairEval with ev := e } := by
  have hheat : s.pairEval.fld F.SEQ_STAT_HEAT = 4 :=
    (congrArg (getBits _ _) ((Noted.pairEval s).rd F.SEQ_STAT_HEAT.a (by decide))).trans h
  have hlevels : ∀ (e : Ev) (now : Nat), State.heatLevels { s.pairEval with ev := e } now = { s.pairEval with ev := e } :=
    fun e now => if_pos (Or.inl hheat)
  unfold State.noteLevels
  dsimp only
  split
  · exact ⟨s.pairEval.ev, hlevels s.pairEval.ev _⟩
  · obtain ⟨e, he⟩ := State.pennants_only s.pairEval.ev.lvl s.pairEval.levels (List.range 64)
      { s.pairEval with ev := { s.pairEval.ev with lvl := s.pairEval.levels } }
    refine ⟨e, ?_⟩
    rw [he]
    exact hlevels e _

/-- R344 judges a pair to be LINKED or PAIRED, never to be in LOCKSTEP. -/
theorem State.pairEval_ne_lockstep (hup : s.fld F.MIR_STAT_LINK_UP = 1) (hp : s.pair = pairLinked) :
    s.pairEval.pair ≠ pairLockstep := by
  have hdrive : ∀ t : State, t.driveOutEn.pair = t.pair := by
    intro t
    unfold State.driveOutEn
    split
    · rfl
    · exact State.put_fld_apart (f := F.MIR_STAT_PAIR) (g := F.MIR_STAT_OUT_EN) (by decide)
  have hput : ∀ v w : Nat, ((s.put F.MIR_STAT_PAIR v).put F.MIR_STAT_WHY w).pair = v % 8 := fun v w =>
    (State.put_fld_apart (f := F.MIR_STAT_PAIR) (by decide)).trans (State.put_fld_self (by decide))
  unfold State.pairEval
  rw [if_neg (by simp [State.flag, hup, hp]), hdrive, hput]
  split <;> decide

end

/-! ### The counterexample -/

/-- The leader of a pair whose link went down in lockstep, in a heat that is now paused: the pair before is LOCKSTEP. -/
def State.lockstepGone : State :=
  let s := ((((State.reset.put F.SUP_STAT_STAGE 9).put (awakeBit 0x24) 1).put F.MIR_CTRL_ROLE roleLeader).put F.SEQ_STAT_HEAT 4)
  { s with sup := { s.sup with por := false }, mir := { s.mir with before := pairLockstep } }

theorem State.lockstepGone_premises : State.lockstepGone.live = true ∧ State.lockstepGone.awake 0x24 = true ∧
    State.lockstepGone.role ≠ 0 ∧ State.lockstepGone.fld F.MIR_STAT_LINK_UP = 0 ∧ State.lockstepGone.pair < 3 := by
  decide +kernel

/-- PAIR and HEAT in the state that a command answers. -/
def pairAndHeat (o : Host.Outcome State Fault Refusal) : Nat × Nat :=
  match o with
  | .next t => (t.pair, t.fld F.SEQ_STAT_HEAT)
  | _ => (0, 0)

/-- The link comes up again, and PAIR is LOCKSTEP as before (R344, R347). -/
theorem State.lockstepGone_linkUp : pairAndHeat (exec (.mirrorLinkUp 0 0) State.lockstepGone) = (pairLockstep, 4) := by
  decide +kernel

/-- Refutes O38: a link that comes back in the heat in which it went down brings LOCKSTEP back, where the clause on a link that comes up
asks for LINKED of every pair below LOCKSTEP whose partner is not yet known. -/
theorem not_mirrorPair : ¬ Obligations.MirrorPair := by
  unfold Obligations.MirrorPair
  rintro ⟨-, hlink, -⟩
  obtain ⟨hlive, hawake, hrole, hdown, hpair⟩ := State.lockstepGone_premises
  obtain ⟨t, ht, hup, -, -, -, hjudged⟩ := hlink State.lockstepGone 0 0 hlive hawake hrole hdown
  obtain ⟨hlinked, -⟩ := hjudged rfl hpair
  have hafter := State.lockstepGone_linkUp
  rw [ht] at hafter
  have hlockstep : t.noteLevels.pair = pairLockstep := congrArg Prod.fst hafter
  have hheat : t.fld F.SEQ_STAT_HEAT = 4 := (State.noteLevels_fld (by decide)).symm.trans (congrArg Prod.snd hafter)
  obtain ⟨e, he⟩ := State.noteLevels_paused hheat
  rw [he] at hlockstep
  exact State.pairEval_ne_lockstep hup hlinked hlockstep

end Sys2Proof.Machine
end

section
/-! SUPPORT. A state in which the stop of a faulty sequencer also finds EVQ's pointers in disagreement (R294): the fault record of the
mismatch takes LOGQ's last place. -/

namespace Sys2Proof.Machine

section
variable {s : State}

/-- In a pause the look at the levels writes no record. -/
theorem State.noteLevels_q_paused (h : s.fld F.SEQ_STAT_HEAT = 4) : s.noteLevels.q = s.q := by
  obtain ⟨e, he⟩ := State.noteLevels_paused h
  rw [he]
  show s.pairEval.q = s.q
  have hdrive : ∀ t : State, t.driveOutEn.q = t.q := by
    intro t
    unfold State.driveOutEn
    split <;> rfl
  unfold State.pairEval
  split
  · rfl
  · dsimp only
    rw [hdrive]
    rfl

end

/-- A paused heat of SQ0 and SQ1; EVQ's pointers disagree, and LOGQ has room for one record. -/
def State.faultRace : State :=
  let s := ((((State.reset.put F.SUP_STAT_STAGE 9).put F.SEQ_STAT_HEAT 4).put F.SEQ_STAT_HEAT_MASK 3).put
    F.SEQ_STAT_RUN_MASK 3).put (F.SQ_STAT_STATE 0) sqPaused
  { s with sup := { s.sup with por := false }
           q := { s.q with upset := 2 ^ 8, logq := { s.q.logq with recs := List.replicate 1023 [] } } }

theorem State.faultRace_premises : State.faultRace.live = true ∧ State.faultRace.sqActive 0 = true ∧
    State.faultRace.inHeat 0 = true ∧ State.faultRace.logRoom = true := by
  decide +kernel

/-- HEAT, and the second word of LOGQ's last record, in the state that a command answers. -/
def heatAndFault (o : Host.Outcome State Fault Refusal) : Nat × Word :=
  match o with
  | .next t => (t.fld F.SEQ_STAT_HEAT, ((t.lastRec 12).getD []).getD 1 0)
  | _ => (0, 0)

/-- LOGQ's last record is that of the mismatch: source 0x14, code 5 (R294). -/
theorem State.faultRace_seqEcc : heatAndFault (exec (.seqEcc 0 0 false) State.faultRace) = (4, 0x05140000#32) := by
  decide +kernel

/-- Refutes O17: with room for one record in LOGQ, the mismatch of EVQ's pointers that the sequencer's STOP record finds enters it, and
the fault record of SEQ_ECC waits. -/
theorem not_holdsUnderrunsAndFaults : ¬ Obligations.HoldsUnderrunsAndFaults := by
  unfold Obligations.HoldsUnderrunsAndFaults
  rintro ⟨-, -, -, hfault, -⟩
  obtain ⟨hlive, hactive, hheat, hroom⟩ := State.faultRace_premises
  obtain ⟨t, ht, -, -, -, -, -, -, -, -, hlast⟩ := hfault State.faultRace 0 0 false hlive hactive hheat
  have hafter := State.faultRace_seqEcc
  rw [ht] at hafter
  have hpaused : t.fld F.SEQ_STAT_HEAT = 4 := (State.noteLevels_fld (by decide)).symm.trans (congrArg Prod.fst hafter)
  have hrec : t.noteLevels.lastRec 12 = t.lastRec 12 :=
    congrArg (fun q : Qs => q.logq.recs.getLast?) (State.noteLevels_q_paused hpaused)
  have hword := congrArg Prod.snd hafter
  simp only [heatAndFault, hrec, hlast hroom] at hword
  exact absurd hword (by decide)

end Sys2Proof.Machine
end

section
/-! SUPPORT. The domains' power states (R24, R25, R316): what the outputs' and a domain's waking and sleeping change and leave, one rule
per function of the model, and which domains are awake afterwards. -/

namespace Sys2Proof.Machine

/-! ### What a change of the outputs leaves -/

/-- `t` is `s` but for registers, fine channels, free values, the fed tick, capture banks and queues. -/
def OutsOnly (s t : State) : Prop :=
  ∃ g f n m c q, t = { s with regs := g, fc := f, free := n, tm := m, cap := c, q := q }

section
variable {s t u : State}

theorem OutsOnly.refl (s : State) : OutsOnly s s := ⟨s.regs, s.fc, s.free, s.tm, s.cap, s.q, rfl⟩

theorem OutsOnly.trans (h : OutsOnly s t) (k : OutsOnly t u) : OutsOnly s u := by
  obtain ⟨_, _, _, _, _, _, rfl⟩ := h
  obtain ⟨_, _, _, _, _, _, rfl⟩ := k
  exact ⟨_, _, _, _, _, _, rfl⟩

theorem OutsOnly.ite {c : Prop} [Decidable c] (h : OutsOnly s t) (k : OutsOnly s u) : OutsOnly s (if c then t else u) := by
  split
  · exact h
  · exact k

theorem OutsOnly.foldl {α : Type} {l : List α} {f : State → α → State} (h : ∀ t x, OutsOnly t (f t x)) : OutsOnly s (l.foldl f s) :=
  List.foldlRecOn (motive := fun t => OutsOnly s t) l f (OutsOnly.refl s) fun t ht x _ => ht.trans (h t x)

theorem OutsOnly.put {f : Fld} {v : Nat} : OutsOnly s (s.put f v) := ⟨_, _, _, _, _, _, rfl⟩

theorem OutsOnly.setFc {n : Nat} {c : Fc} : OutsOnly s (s.setFc n c) := ⟨_, _, _, _, _, _, rfl⟩

theorem OutsOnly.onlyQ {A : List Nat} (h : OnlyQ A s t) : OutsOnly s t := by
  obtain ⟨⟨_, _, _, rfl⟩, -⟩ := h
  exact ⟨_, _, _, _, _, _, rfl⟩

theorem OutsOnly.offHold {n : Nat} : OutsOnly s (s.offHold n) := OutsOnly.ite (OutsOnly.setFc.trans OutsOnly.put) (OutsOnly.refl s)

theorem OutsOnly.restOuts {hold : Bool} {fcs vps : List Nat} : OutsOnly s (s.restOuts hold fcs vps) :=
  (OutsOnly.foldl fun _ _ => OutsOnly.put.trans OutsOnly.put).trans
    (OutsOnly.foldl fun _ _ => (OutsOnly.put.trans OutsOnly.put).trans OutsOnly.put)

theorem OutsOnly.handOver {fcs vps : List Nat} : OutsOnly s (s.handOver fcs vps) :=
  (OutsOnly.foldl fun _ _ => OutsOnly.offHold).trans (OutsOnly.foldl fun _ _ => OutsOnly.put)

theorem OutsOnly.calStart : OutsOnly s s.calStart :=
  OutsOnly.foldl fun _ _ => OutsOnly.ite (OutsOnly.setFc.trans OutsOnly.put) (OutsOnly.refl _)

theorem OutsOnly.alignOuts {fcs vps : List Nat} : OutsOnly s (s.alignOuts fcs vps) :=
  (OutsOnly.foldl fun _ _ => OutsOnly.offHold.trans OutsOnly.put).trans (OutsOnly.foldl fun _ _ => OutsOnly.put.trans OutsOnly.put)

theorem OutsOnly.fineUp {t : Nat} : OutsOnly s (s.fineUp t) := by
  unfold State.fineUp
  refine OutsOnly.ite (OutsOnly.refl s) (OutsOnly.ite ⟨_, _, _, _, _, _, rfl⟩ ?_)
  extract_lets cs ls ts s1
  have hs1 : OutsOnly s s1 := OutsOnly.foldl fun _ _ => OutsOnly.foldl fun _ _ => ⟨_, _, _, _, _, _, rfl⟩
  exact hs1.trans ⟨_, _, _, _, _, _, rfl⟩

theorem OutsOnly.playOuts {n : Nat} : OutsOnly s (s.playOuts n) :=
  (OutsOnly.foldl fun _ _ => OutsOnly.put.trans OutsOnly.offHold).trans (OutsOnly.foldl fun _ _ => OutsOnly.put.trans OutsOnly.put)

theorem OutsOnly.joinSq {n : Nat} : OutsOnly s (s.joinSq n) :=
  OutsOnly.ite (OutsOnly.playOuts.trans (OutsOnly.foldl fun _ _ => OutsOnly.ite (OutsOnly.refl _) OutsOnly.put)) OutsOnly.playOuts

theorem OutsOnly.joinAll : OutsOnly s s.joinAll :=
  OutsOnly.fineUp.trans (OutsOnly.foldl fun _ _ =>
    OutsOnly.ite (OutsOnly.refl _) (OutsOnly.ite OutsOnly.joinSq (OutsOnly.refl _)))

theorem OutsOnly.joinOuts {d : Nat} : OutsOnly s (s.joinOuts d) := by
  unfold State.joinOuts
  extract_lets s1 bank s2
  have hs1 : OutsOnly s s1 := OutsOnly.joinAll
  have hs2 : OutsOnly s s2 := OutsOnly.ite (hs1.trans ⟨_, _, _, _, _, _, rfl⟩) hs1
  exact OutsOnly.ite ((hs2.trans (OutsOnly.foldl fun _ _ => OutsOnly.put)).trans (OutsOnly.foldl fun _ _ => OutsOnly.put)) hs2

theorem OutsOnly.mem (h : OutsOnly s t) : t.mem = s.mem := by obtain ⟨_, _, _, _, _, _, rfl⟩ := h; rfl
theorem OutsOnly.sup (h : OutsOnly s t) : t.sup = s.sup := by obtain ⟨_, _, _, _, _, _, rfl⟩ := h; rfl

end

/-! ### Which registers a change of the power states leaves -/

/-- `t` is `s` but for what the outputs' changes move, the supervisor, the clock and the mirror link, and for registers of `A`. -/
def PowerOnly (A : Nat → Bool) (s t : State) : Prop :=
  (∃ x y z, OutsOnly { s with sup := x, clk := y, mir := z } t) ∧ ∀ a, A a = false → t.rd a = s.rd a

section
variable {A : Nat → Bool} {s t u : State}

theorem PowerOnly.refl (A : Nat → Bool) (s : State) : PowerOnly A s s := ⟨⟨s.sup, s.clk, s.mir, OutsOnly.refl s⟩, fun _ _ => rfl⟩

theorem PowerOnly.trans (h : PowerOnly A s t) (k : PowerOnly A t u) : PowerOnly A s u := by
  obtain ⟨⟨_, _, _, _, _, _, _, _, _, rfl⟩, hr⟩ := h
  obtain ⟨⟨_, _, _, _, _, _, _, _, _, rfl⟩, kr⟩ := k
  exact ⟨⟨_, _, _, _, _, _, _, _, _, rfl⟩, fun a ha => (kr a ha).trans (hr a ha)⟩

theorem PowerOnly.mono {B : Nat → Bool} (h : PowerOnly A s t) (hAB : ∀ a, B a = false → A a = false) : PowerOnly B s t :=
  ⟨h.1, fun a ha => h.2 a (hAB a ha)⟩

theorem PowerOnly.ite {c : Prop} [Decidable c] (h : PowerOnly A s t) (k : PowerOnly A s u) : PowerOnly A s (if c then t else u) := by
  split
  · exact h
  · exact k

theorem PowerOnly.foldl {α : Type} {l : List α} {f : State → α → State} (h : ∀ t, ∀ x ∈ l, PowerOnly A t (f t x)) :
    PowerOnly A s (l.foldl f s) :=
  List.foldlRecOn (motive := fun t => PowerOnly A s t) l f (PowerOnly.refl A s) fun t ht x hx => ht.trans (h t x hx)

theorem PowerOnly.put {f : Fld} {v : Nat} (h : A f.a = true) : PowerOnly A s (s.put f v) :=
  ⟨⟨_, _, _, OutsOnly.put⟩, fun a ha => State.put_rd_ne fun e => by rw [e, h] at ha; cases ha⟩

/-- A change of the outputs alone. -/
theorem PowerOnly.outs (h : OutsOnly s t) (hw : Woken outReg s t) (hA : ∀ a, A a = false → outReg a = false) : PowerOnly A s t :=
  ⟨⟨_, _, _, h⟩, fun a ha => hw.rd a (hA a ha)⟩

theorem PowerOnly.onlyQ {B : List Nat} (h : OnlyQ B s t) (hB : ∀ a ∈ B, A a = true) : PowerOnly A s t :=
  ⟨⟨_, _, _, OutsOnly.onlyQ h⟩, fun a ha => h.2 a fun hx => by rw [hB a hx] at ha; cases ha⟩

theorem PowerOnly.frame (h : ∃ x y z, t = { s with sup := x, clk := y, mir := z }) : PowerOnly A s t := by
  obtain ⟨x, y, z, rfl⟩ := h
  exact ⟨⟨x, y, z, OutsOnly.refl _⟩, fun _ _ => rfl⟩

theorem PowerOnly.fld (h : PowerOnly A s t) {f : Fld} (hf : A f.a = false) : t.fld f = s.fld f := congrArg _ (h.2 _ hf)

theorem PowerOnly.flag (h : PowerOnly A s t) {f : Fld} (hf : A f.a = false) : t.flag f = s.flag f := State.flag_of_rd (h.2 _ hf)

theorem PowerOnly.mem (h : PowerOnly A s t) : t.mem = s.mem := by obtain ⟨⟨_, _, _, _, _, _, _, _, _, rfl⟩, -⟩ := h; rfl
theorem PowerOnly.bus (h : PowerOnly A s t) : t.bus = s.bus := by obtain ⟨⟨_, _, _, _, _, _, _, _, _, rfl⟩, -⟩ := h; rfl
theorem PowerOnly.plan (h : PowerOnly A s t) : t.plan = s.plan := by obtain ⟨⟨_, _, _, _, _, _, _, _, _, rfl⟩, -⟩ := h; rfl
theorem PowerOnly.mg (h : PowerOnly A s t) : t.mg = s.mg := by obtain ⟨⟨_, _, _, _, _, _, _, _, _, rfl⟩, -⟩ := h; rfl
theorem PowerOnly.bat (h : PowerOnly A s t) : t.bat = s.bat := by obtain ⟨⟨_, _, _, _, _, _, _, _, _, rfl⟩, -⟩ := h; rfl

end

/-! ### Awake domains -/

/-- The registers of the outputs and of the domains' power state. -/
def domReg (a : Nat) : Bool := outReg a || decide (a = 0x120058) || decide (a = 0x12005C)

section
variable {A : Nat → Bool} {s t u : State} {d e : Nat}

theorem domReg_awakeBit (d : Nat) : domReg (awakeBit d).a = true := by
  rcases awakeBit_a d with h | h <;> rw [h] <;> rfl

theorem outReg_of_domReg {a : Nat} (h : domReg a = false) : outReg a = false := by
  simp only [domReg, Bool.or_eq_false_iff] at h
  exact h.1.1

theorem awakeBit_lt (hd : d < 64) : (awakeBit d).lo + (awakeBit d).w ≤ 32 := by
  unfold awakeBit
  split
  · show d + 1 ≤ 32
    omega
  · show d - 32 + 1 ≤ 32
    omega

/-- Two bits of a register are apart. -/
theorem bit_apart {a i j : Nat} (hi : i < 32) (h : i ≠ j) : Fld.apart ⟨a, i, 1⟩ ⟨a, j, 1⟩ = true := by
  refine Bool.or_eq_true_iff.2 (.inr (Bool.and_eq_true_iff.2 ⟨Bool.or_eq_true_iff.2 ?_, decide_eq_true hi⟩))
  rcases Nat.lt_or_gt_of_ne h with h | h
  · exact .inl (decide_eq_true h)
  · exact .inr (decide_eq_true h)

theorem awakeBit_low (h : d < 32) : awakeBit d = ⟨0x120058, d, 1⟩ := if_pos h

theorem awakeBit_high (h : ¬d < 32) : awakeBit d = ⟨0x12005C, d - 32, 1⟩ := if_neg h

theorem awakeBit_apart (he : e < 64) (h : e ≠ d) : Fld.apart (awakeBit e) (awakeBit d) = true := by
  by_cases hlow : e < 32
  · rw [awakeBit_low hlow]
    by_cases hd : d < 32
    · rw [awakeBit_low hd]
      exact bit_apart hlow h
    · rw [awakeBit_high hd]
      rfl
  · rw [awakeBit_high hlow]
    by_cases hd : d < 32
    · rw [awakeBit_low hd]
      rfl
    · rw [awakeBit_high hd]
      exact bit_apart (by omega) (by omega)

/-- A domain whose bit is written is awake as that says, and the others are as they were. -/
theorem State.putAwake_awake {v : Nat} (he : e < 64) (hv : v < 2) :
    (s.put (awakeBit d) v).awake e = if e = d then decide (v ≠ 0) else s.awake e := by
  unfold State.awake State.flag
  split
  · next h =>
    subst h
    rw [State.put_fld_self (awakeBit_lt he)]
    have hw : (awakeBit e).w = 1 := by unfold awakeBit; split <;> rfl
    rw [hw, Nat.pow_one, Nat.mod_eq_of_lt hv]
  · next h => rw [State.put_fld_apart (awakeBit_apart he h)]

theorem State.awake_congr (h : ∀ d, t.rd (awakeBit d).a = s.rd (awakeBit d).a) (e : Nat) : t.awake e = s.awake e :=
  State.flag_of_rd (h e)

theorem outReg_awakeBit (d : Nat) : outReg (awakeBit d).a = false := by
  rcases awakeBit_a d with h | h <;> rw [h] <;> rfl

theorem Woken.awake (h : Woken outReg s t) (e : Nat) : t.awake e = s.awake e :=
  State.awake_congr (fun d => h.rd _ (outReg_awakeBit d)) e

/-- What waking a domain changes: its bit, the outputs, and that it is no longer waking. -/
theorem State.setAwake_outs (s : State) (d : Nat) :
    OutsOnly { s with sup := { s.sup with waking := putBit s.sup.waking d false } } (s.setAwake d) ∧
      Woken outReg (s.put (awakeBit d) 1) (s.setAwake d) := by
  unfold State.setAwake
  extract_lets x s1 u s2
  have ho1 : OutsOnly s s1 := OutsOnly.put.trans OutsOnly.handOver
  have hw1 : Woken outReg (s.put (awakeBit d) 1) s1 := Woken.handOver
  have ho2 : OutsOnly { s with sup := { s.sup with waking := putBit s.sup.waking d false } } s2 := by
    refine OutsOnly.trans ?_ OutsOnly.calStart
    obtain ⟨_, _, _, _, _, _, h⟩ := ho1
    unfold u
    rw [h]
    exact ⟨_, _, _, _, _, _, rfl⟩
  have hw2 : Woken outReg (s.put (awakeBit d) 1) s2 := by
    refine hw1.trans (Woken.trans (t := { s1 with sup := { u with waking := putBit u.waking d false } }) ?_ Woken.calStart)
    exact Woken.frame rfl rfl rfl (fun _ => rfl) rfl rfl rfl
  split
  · exact ⟨ho2.trans OutsOnly.alignOuts, hw2.trans Woken.alignOuts⟩
  · exact ⟨ho2, hw2⟩

theorem State.setAwake_sup (s : State) (d : Nat) : (s.setAwake d).sup = { s.sup with waking := putBit s.sup.waking d false } :=
  (s.setAwake_outs d).1.sup

theorem State.setAwake_awake (he : e < 64) : (s.setAwake d).awake e = (decide (e = d) || s.awake e) := by
  rw [(s.setAwake_outs d).2.awake, State.putAwake_awake he (by decide)]
  split <;> simp [*]

theorem PowerOnly.setAwake : PowerOnly domReg s (s.setAwake d) := by
  obtain ⟨ho, hw⟩ := s.setAwake_outs d
  exact ⟨⟨_, _, _, ho⟩, fun a ha => (hw.rd a (outReg_of_domReg ha)).trans
    (State.put_rd_ne fun h => by rw [h, domReg_awakeBit] at ha; cases ha)⟩

theorem awakeBit_ne {a : Nat} (h : a < 0x120058 ∨ 0x12005C < a) (d : Nat) : (awakeBit d).a ≠ a := by
  rcases awakeBit_a d with e | e <;> rw [e] <;> omega

theorem selfRef_apart_selfRef {c e : Nat} (hc : c < 8) (h : c ≠ e) : Fld.apart (selfRef c) (selfRef e) = true :=
  bit_apart (by omega) (by omega)

/-! ### Sleep -/

/-- The registers that sleep changes beside: those of records, of the channels' self-refresh, of the clock, the timebase and the
mirror link. -/
def sleepReg (a : Nat) : Bool := domReg a || evRegs.contains a || [0xB0000, 0x10008, 0x10104, 0x1010C, 0x130004].contains a

theorem outReg_of_sleepReg {a : Nat} (h : sleepReg a = false) : outReg a = false := by
  simp only [sleepReg, Bool.or_eq_false_iff] at h
  exact outReg_of_domReg h.1.1

theorem sleepReg_evRegs : ∀ a ∈ evRegs, sleepReg a = true := by decide

theorem sleepReg_awakeBit (d : Nat) : sleepReg (awakeBit d).a = true := by
  rcases awakeBit_a d with h | h <;> rw [h] <;> rfl

theorem State.mem_groupOf (hd : d < 64) : d ∈ s.groupOf d := by
  unfold State.groupOf
  split
  · exact List.mem_singleton.2 rfl
  · exact List.mem_filter.2 ⟨List.mem_range.2 hd, by simp⟩

/-- A group's domains stand in ascending order. -/
theorem State.groupOf_sorted (s : State) (d : Nat) : (s.groupOf d).Pairwise (· < ·) := by
  unfold State.groupOf
  split
  · exact List.pairwise_singleton _ _
  · exact List.pairwise_lt_range.filter _

/-- A domain's group depends on PDGRP, on the units and on the channels that the device has. -/
theorem State.groupOf_congr (hg : ∀ a, 0x150080 ≤ a → t.rd a = s.rd a) (hu : t.rd 0x150010 = s.rd 0x150010)
    (hc : t.rd 0xB0004 = s.rd 0xB0004) (d : Nat) : t.groupOf d = s.groupOf d := by
  have hpd : ∀ e, t.pdGroup e = s.pdGroup e := fun e => congrArg _ (hg _ (Nat.le_add_right _ _))
  have hpres : ∀ e, t.domPresent e = s.domPresent e := by
    intro e
    simp only [State.domPresent, State.hasK, State.hasVb, State.hasOther, State.fld, hu, hc]
  unfold State.groupOf
  simp only [hpd, hpres]

theorem PowerOnly.selfRefresh : PowerOnly sleepReg s (s.selfRefresh d) := by
  refine PowerOnly.ite ?_ (PowerOnly.refl _ s)
  exact ((PowerOnly.onlyQ (OnlyQ.takeFree evRegs s) sleepReg_evRegs).trans
    (PowerOnly.onlyQ (State.eventNow_only _ _ _ _) sleepReg_evRegs)).trans (PowerOnly.put rfl)

theorem Woken.restDom {d : Nat} : Woken outReg s (s.restOuts true (domFcs d) (domVps d)) :=
  Woken.restOuts (fun _ => domFcs_lt) (fun _ => domVps_lt)

/-- Sleep of one domain leaves the supervisor's other domains. -/
theorem State.sleepOne_sup (s : State) (d : Nat) : (s.sleepOne d).sup =
    { s.sup with stay := putBit s.sup.stay d false, waking := putBit s.sup.waking d false } := by
  have h : (s.selfRefresh d).sup = s.sup := by
    unfold State.selfRefresh
    dsimp only
    split
    · rw [State.put_sup, State.eventNow_sup, State.takeFree_sup]
    · rfl
  have hr : ((((s.selfRefresh d).put (awakeBit d) 0)).restOuts true (domFcs d) (domVps d)).sup = s.sup := by
    rw [OutsOnly.restOuts.sup, State.put_sup, h]
  unfold State.sleepOne
  dsimp only
  rw [hr]

theorem State.sleepOne_awake (he : e < 64) : (s.sleepOne d).awake e = (!decide (e = d) && s.awake e) := by
  have h : (s.selfRefresh d).awake e = s.awake e := by
    refine State.awake_congr (fun x => ?_) e
    unfold State.selfRefresh
    dsimp only
    split
    · have hx : (awakeBit x).a ≠ 0xB0000 ∧ (awakeBit x).a ∉ evRegs := by
        rcases awakeBit_a x with h | h <;> rw [h] <;> decide
      rw [State.put_rd_ne hx.1, State.eventNow_rd hx.2, State.takeFree_rd]
    · rfl
  have hr : (s.sleepOne d).awake e = ((s.selfRefresh d).put (awakeBit d) 0).awake e :=
    Woken.awake (t := ((s.selfRefresh d).put (awakeBit d) 0).restOuts true (domFcs d) (domVps d)) Woken.restDom e
  rw [hr, State.putAwake_awake he (by decide), h]
  split <;> simp [*]

theorem PowerOnly.sleepOne : PowerOnly sleepReg s (s.sleepOne d) :=
  ((PowerOnly.selfRefresh.trans (PowerOnly.put (sleepReg_awakeBit d))).trans
    (PowerOnly.outs OutsOnly.restOuts Woken.restDom fun _ => outReg_of_sleepReg)).trans (PowerOnly.frame ⟨_, _, _, rfl⟩)

theorem PowerOnly.dramNoRef : PowerOnly sleepReg s s.dramNoRef :=
  PowerOnly.ite (PowerOnly.refl _ s) (PowerOnly.foldl fun _ _ _ => PowerOnly.ite PowerOnly.sleepOne (PowerOnly.refl _ _))

theorem PowerOnly.holdTb : PowerOnly sleepReg s s.holdTb :=
  PowerOnly.ite (((PowerOnly.put rfl).trans (PowerOnly.put rfl)).trans (PowerOnly.put rfl)) (PowerOnly.refl _ s)

theorem PowerOnly.allToHold : PowerOnly sleepReg s s.allToHold :=
  PowerOnly.outs OutsOnly.restOuts (Woken.restOuts (fun _ => List.mem_range.1) (fun _ => List.mem_range.1)) fun _ => outReg_of_sleepReg

theorem PowerOnly.sleepPll : PowerOnly sleepReg s s.sleepPll :=
  ((((((PowerOnly.sleepOne.trans PowerOnly.sleepOne).trans PowerOnly.allToHold).trans (PowerOnly.put rfl)).trans PowerOnly.holdTb).trans
    (PowerOnly.put rfl)).trans PowerOnly.dramNoRef).trans (PowerOnly.frame ⟨_, _, _, rfl⟩)

theorem PowerOnly.pllIdle : PowerOnly sleepReg s s.pllIdle := PowerOnly.ite PowerOnly.sleepPll (PowerOnly.refl _ s)

theorem PowerOnly.sleepDom : PowerOnly sleepReg s (s.sleepDom d) :=
  PowerOnly.ite PowerOnly.sleepPll (PowerOnly.foldl fun _ _ _ => PowerOnly.sleepOne)

theorem PowerOnly.driveOutEn : PowerOnly sleepReg s s.driveOutEn :=
  PowerOnly.ite (PowerOnly.refl _ s) ((PowerOnly.put rfl).trans (PowerOnly.frame ⟨_, _, _, rfl⟩))

theorem PowerOnly.linkLost : PowerOnly sleepReg s s.linkLost := by
  unfold State.linkLost
  refine PowerOnly.ite ?_ (PowerOnly.refl _ s)
  extract_lets s0 s1
  have h0 : PowerOnly sleepReg s s0 := PowerOnly.ite (PowerOnly.refl _ s) (PowerOnly.put rfl)
  exact (((((h0.trans (PowerOnly.frame ⟨_, _, _, rfl⟩)).trans (PowerOnly.put rfl)).trans (PowerOnly.put rfl)).trans
    (PowerOnly.put rfl)).trans PowerOnly.driveOutEn)

theorem PowerOnly.trySleep : PowerOnly sleepReg s (s.trySleep d) :=
  PowerOnly.ite ((PowerOnly.ite PowerOnly.linkLost (PowerOnly.refl _ s)).trans PowerOnly.sleepDom) (PowerOnly.refl _ s)

/-- A domain that may not sleep stays as it is. -/
theorem State.trySleep_stays (hd : d < 64) (h : s.maySleep d = false) : s.trySleep d = s := by
  unfold State.trySleep
  refine if_neg fun hall => ?_
  obtain ⟨ha, hall⟩ := Bool.and_eq_true_iff.1 hall
  have := List.all_eq_true.1 hall d (State.mem_groupOf hd)
  rw [ha, h] at this
  exact absurd this (by decide)

theorem State.sleepAll_awake (l : List Nat) (he : e < 64) :
    (l.foldl (fun t d => t.sleepOne d) s).awake e = (!l.contains e && s.awake e) := by
  induction l generalizing s with
  | nil => rfl
  | cons d l ih =>
    rw [List.foldl_cons, ih, State.sleepOne_awake he, List.contains_cons]
    cases l.contains e <;> simp [Bool.beq_eq_decide_eq]

/-- A domain other than the PLL's sleeps with its group. -/
theorem State.sleepDom_awake (hd : d < 64) (h1 : d ≠ 1) : (s.sleepDom d).awake d = false := by
  unfold State.sleepDom
  rw [if_neg h1]
  refine (State.sleepAll_awake _ hd).trans ?_
  rw [List.contains_iff_mem.2 (State.mem_groupOf hd)]
  rfl

theorem State.selfRefresh_selfRef {c : Nat} (hc : c < 8) (h : d ≠ 0x18 + c) : (s.selfRefresh d).flag (selfRef c) = s.flag (selfRef c) := by
  unfold State.selfRefresh
  extract_lets f
  split
  · next hd =>
    have hf : f = selfRef (d - 24) := rfl
    unfold State.flag
    rw [hf, State.put_fld_apart (selfRef_apart_selfRef hc (by omega)),
      State.eventNow_fld (s := s.takeFree) (f := selfRef c) (show 0xB0000 ∉ evRegs by decide), State.takeFree_fld]
  · rfl

/-- Beside self-refresh, sleep of one domain leaves the channels' register. -/
theorem State.sleepOne_selfRef (c : Nat) : (s.sleepOne d).flag (selfRef c) = (s.selfRefresh d).flag (selfRef c) := by
  have hrd : (s.sleepOne d).rd 0xB0000 = (s.selfRefresh d).rd 0xB0000 := by
    refine (Woken.rd (t := ((s.selfRefresh d).put (awakeBit d) 0).restOuts true (domFcs d) (domVps d)) Woken.restDom _ rfl).trans ?_
    exact State.put_rd_ne (Ne.symm (awakeBit_ne (.inl (by decide)) d))
  exact State.flag_of_rd hrd

/-- A channel in self-refresh stays in it as domains sleep. -/
theorem State.sleepDom_selfRef {c : Nat} (hc : c < 8) (h1 : d ≠ 1) (h : s.flag (selfRef c) = true) :
    (s.sleepDom d).flag (selfRef c) = true := by
  unfold State.sleepDom
  rw [if_neg h1]
  refine List.foldlRecOn (motive := fun t : State => t.flag (selfRef c) = true) _ _ h fun t ht x _ => ?_
  rw [State.sleepOne_selfRef]
  by_cases hx : x = 0x18 + c
  · have hself : t.selfRefresh x = t := by
      refine if_neg fun hd => ?_
      obtain ⟨-, -, -, hf⟩ := hd
      rw [show (⟨0xB0000, 16 + (x - 24), 1⟩ : Fld) = selfRef c by rw [hx]; unfold selfRef; congr 1; omega, ht] at hf
      exact absurd hf (by decide)
    rw [hself, ht]
  · rw [State.selfRefresh_selfRef hc hx, ht]

/-! ### A group that becomes ready -/

/-- The registers that a group's becoming ready changes: those of the domains, of records, of the channels' self-refresh, of the ports'
status and of the domain command. -/
def readyReg (a : Nat) : Bool := domReg a || evRegs.contains a || [0xB0000, 0xE0004, 0xE1004, 0x120054].contains a

theorem domReg_of_readyReg {a : Nat} (h : readyReg a = false) : domReg a = false := by
  simp only [readyReg, Bool.or_eq_false_iff] at h
  exact h.1.1

theorem readyReg_evRegs : ∀ a ∈ evRegs, readyReg a = true := by decide

/-- The registers that a change of the power states moves. -/
def powReg (a : Nat) : Bool := sleepReg a || readyReg a

theorem sleepReg_of_powReg {a : Nat} (h : powReg a = false) : sleepReg a = false := (Bool.or_eq_false_iff.1 h).1

theorem readyReg_of_powReg {a : Nat} (h : powReg a = false) : readyReg a = false := (Bool.or_eq_false_iff.1 h).2

/-- What a domain that becomes ready leaves: the supervisor's record but for which domains wake, the domains that are awake, and those
that are awake or waking. -/
structure Readied (s t : State) : Prop where
  power : PowerOnly readyReg s t
  sup : ∃ w, t.sup = { s.sup with waking := w }
  awake : ∀ e < 64, s.awake e = true → t.awake e = true
  wakes : ∀ e < 64, (s.awake e || bitOf s.sup.waking e) = true → (t.awake e || bitOf t.sup.waking e) = true

theorem Readied.refl (s : State) : Readied s s := ⟨PowerOnly.refl _ s, ⟨_, rfl⟩, fun _ _ h => h, fun _ _ h => h⟩

theorem Readied.trans (h : Readied s t) (k : Readied t u) : Readied s u where
  power := h.power.trans k.power
  sup := by
    obtain ⟨w, hw⟩ := h.sup
    obtain ⟨v, hv⟩ := k.sup
    exact ⟨v, by rw [hv, hw]⟩
  awake := fun e he hs => k.awake e he (h.awake e he hs)
  wakes := fun e he hs => k.wakes e he (h.wakes e he hs)

/-- A change that leaves the supervisor and the bits of the domains' power state. -/
theorem Readied.same (hp : PowerOnly readyReg s t) (hs : t.sup = s.sup) (ha : ∀ d, t.rd (awakeBit d).a = s.rd (awakeBit d).a) :
    Readied s t where
  power := hp
  sup := ⟨_, hs⟩
  awake := fun e _ h => by rwa [State.awake_congr ha e]
  wakes := fun e _ h => by rwa [State.awake_congr ha e, hs]

theorem Readied.put {f : Fld} {v : Nat} (h : readyReg f.a = true) (hd : ∀ d, (awakeBit d).a ≠ f.a) : Readied s (s.put f v) :=
  Readied.same (PowerOnly.put h) rfl fun d => State.put_rd_ne (hd d)

theorem Readied.eventNow {x y z : Nat} : Readied s (s.eventNow x y z) :=
  Readied.same (PowerOnly.onlyQ (State.eventNow_only _ _ _ _) readyReg_evRegs) (State.eventNow_sup _ _ _ _) fun d =>
    State.eventNow_rd (by rcases awakeBit_a d with h | h <;> rw [h] <;> decide)

theorem Readied.setAwake : Readied s (s.setAwake d) where
  power := PowerOnly.setAwake.mono fun _ => domReg_of_readyReg
  sup := ⟨_, State.setAwake_sup s d⟩
  awake := fun e he h => by rw [State.setAwake_awake he, h, Bool.or_true]
  wakes := fun e he h => by
    rw [State.setAwake_awake he, State.setAwake_sup]
    by_cases hed : e = d
    · rw [decide_eq_true hed]
      rfl
    · rw [decide_eq_false hed]
      exact (congrArg (s.awake e || ·) (testBit_putBit_ne (Ne.symm hed))).trans h

/-- The domains of a group that is marked wake, and those that woke. -/
theorem State.markWaking_waking (h : e ∈ s.groupOf d ∨ bitOf s.sup.waking e = true) : bitOf (s.markWaking d).sup.waking e = true :=
  testBit_foldl_putBit h

theorem Readied.markWaking : Readied s (s.markWaking d) where
  power := PowerOnly.frame ⟨_, _, _, rfl⟩
  sup := ⟨_, rfl⟩
  awake := fun _ _ h => h
  wakes := fun e _ h => by
    exact Bool.or_eq_true_iff.2 ((Bool.or_eq_true_iff.1 h).imp_right fun h => State.markWaking_waking (.inr h))

theorem Readied.leaveSelfRef {c : Nat} : Readied s (s.leaveSelfRef c) :=
  ((Readied.markWaking.trans (Readied.put rfl (awakeBit_ne (a := 0xB0000) (.inl (by decide))))).trans Readied.setAwake).trans Readied.eventNow

theorem Readied.portReady {p : Nat} (hp : p < 2) : Readied s (s.portReady p) := by
  unfold State.portReady
  split
  · refine Readied.setAwake.trans (Readied.put ?_ (awakeBit_ne (.inl ?_)))
    · obtain rfl | rfl : p = 0 ∨ p = 1 := by omega
      · rfl
      · rfl
    · show 0xE0004 + 0x1000 * p < 0x120058
      omega
  · exact Readied.refl s

theorem Woken.joinOuts : Woken outReg s (s.joinOuts d) := by
  unfold State.joinOuts
  extract_lets s1 bank s2
  have hs1 : Woken outReg s s1 := Woken.joinAll
  have hs2 : Woken outReg s s2 := Woken.ite (hs1.trans (Woken.frame rfl rfl rfl (fun _ => rfl) rfl rfl rfl)) hs1
  exact Woken.ite ((hs2.trans (Woken.foldl fun _ _ hn => Woken.fcStat (domFcs_lt hn))).trans
    (Woken.foldl fun _ _ hn => Woken.vpStat (domVps_lt hn))) hs2

theorem Readied.joinOuts : Readied s (s.joinOuts d) :=
  Readied.same (PowerOnly.outs OutsOnly.joinOuts Woken.joinOuts fun _ h => outReg_of_domReg (domReg_of_readyReg h)) OutsOnly.joinOuts.sup
    fun d => Woken.joinOuts.rd _ (outReg_awakeBit d)

theorem Readied.readyOne : Readied s (s.readyOne d) := by
  unfold State.readyOne
  split
  · exact Readied.refl s
  · split
    · split
      · exact Readied.leaveSelfRef
      · exact Readied.setAwake
    · split
      · next h => exact Readied.portReady (by omega)
      · exact Readied.setAwake.trans Readied.joinOuts

/-- The state in which a domain that becomes ready is set awake: a channel in self-refresh leaves it first, its group waking (R238). -/
def State.readyFrom (s : State) (d : Nat) : State :=
  if 0x18 ≤ d ∧ d ≤ 0x1F ∧ s.flag (selfRef (d - 24)) = true then (s.markWaking d).put (selfRef (d - 24)) 0 else s

theorem State.readyFrom_selfRef (h : 0x18 ≤ d ∧ d ≤ 0x1F ∧ s.flag (selfRef (d - 24)) = true) :
    s.readyFrom d = (s.markWaking d).put (selfRef (d - 24)) 0 := if_pos h

theorem State.readyFrom_self (h : ¬(0x18 ≤ d ∧ d ≤ 0x1F ∧ s.flag (selfRef (d - 24)) = true)) : s.readyFrom d = s := if_neg h

/-- The registers of the domains' power state and of the channels' self-refresh. -/
def wakeRegs : List Nat := [0x120058, 0x12005C, 0xB0000]

/-- A waking domain that becomes ready is set awake, beside what the outputs, the records and the ports show of it. -/
theorem State.readyOne_eq (hw : bitOf s.sup.waking d = true) : (s.readyOne d).sup = ((s.readyFrom d).setAwake d).sup ∧
    ∀ a ∈ wakeRegs, (s.readyOne d).rd a = ((s.readyFrom d).setAwake d).rd a := by
  unfold State.readyOne
  rw [hw, if_neg (by decide)]
  by_cases hch : 0x18 ≤ d ∧ d ≤ 0x1F
  · rw [if_pos hch]
    by_cases hf : s.flag (selfRef (d - 24)) = true
    · rw [if_pos hf, State.readyFrom_selfRef ⟨hch.1, hch.2, hf⟩]
      have hd : 0x18 + (d - 24) = d := by omega
      unfold State.leaveSelfRef
      rw [hd]
      refine ⟨State.eventNow_sup _ _ _ _, fun a ha => State.eventNow_rd ?_⟩
      fin_cases ha <;> decide
    · rw [if_neg hf, State.readyFrom_self fun h => hf h.2.2]
      exact ⟨rfl, fun _ _ => rfl⟩
  · rw [if_neg hch, State.readyFrom_self fun h => hch ⟨h.1, h.2.1⟩]
    split
    · next hp =>
      have hport : 0x20 + (d - 0x20) = d := by omega
      unfold State.portReady
      rw [hport, hw, Bool.or_true, if_pos rfl]
      refine ⟨State.raise_sup _ _, fun a ha => State.raise_rd_ne ?_⟩
      rcases hp with rfl | rfl <;> fin_cases ha <;> decide
    · refine ⟨OutsOnly.joinOuts.sup, fun a ha => Woken.joinOuts.rd a ?_⟩
      fin_cases ha <;> rfl

theorem State.readyFrom_awake (s : State) (d e : Nat) : (s.readyFrom d).awake e = s.awake e := by
  unfold State.readyFrom
  split
  · exact State.awake_congr (s := s) (fun x => State.put_rd_ne (awakeBit_ne (a := 0xB0000) (.inl (by decide)) x)) e
  · rfl

/-- A domain that wakes is awake once it is ready, and the others are as they were. -/
theorem State.readyOne_awake (he : e < 64) (hw : bitOf s.sup.waking d = true) :
    (s.readyOne d).awake e = (decide (e = d) || s.awake e) := by
  have h := State.awake_congr (fun x => (State.readyOne_eq hw).2 _ (by rcases awakeBit_a x with h | h <;> rw [h] <;> decide)) e
  rw [h, State.setAwake_awake he, State.readyFrom_awake]

theorem State.readyOne_idle (hw : bitOf s.sup.waking d = false) : s.readyOne d = s := by
  unfold State.readyOne
  rw [hw]
  rfl

/-- The waking bit of another domain stays set. -/
theorem State.readyOne_waking (h : d ≠ e) (he : bitOf s.sup.waking e = true) : bitOf (s.readyOne d).sup.waking e = true := by
  by_cases hw : bitOf s.sup.waking d = true
  · rw [(State.readyOne_eq hw).1, State.setAwake_sup]
    refine (testBit_putBit_ne h).trans ?_
    unfold State.readyFrom
    split
    · exact State.markWaking_waking (.inr he)
    · exact he
  · rwa [State.readyOne_idle (Bool.eq_false_iff.2 hw)]

/-- A domain that is no DRAM channel marks no other, and wakes no longer once it is ready. -/
theorem State.readyOne_waking_of_le (hd : 0x20 ≤ d) (e : Nat) :
    bitOf (s.readyOne d).sup.waking e = (!decide (e = d) && bitOf s.sup.waking e) := by
  have hfrom : s.readyFrom d = s := State.readyFrom_self fun h => by omega
  by_cases hw : bitOf s.sup.waking d = true
  · rw [(State.readyOne_eq hw).1, State.setAwake_sup, hfrom]
    by_cases hed : e = d
    · rw [decide_eq_true hed, hed]
      exact testBit_putBit_self _ _ _
    · rw [decide_eq_false hed]
      exact testBit_putBit_ne (Ne.symm hed)
  · rw [State.readyOne_idle (Bool.eq_false_iff.2 hw)]
    by_cases hed : e = d
    · rw [decide_eq_true hed, hed]
      exact Bool.eq_false_iff.2 hw
    · rw [decide_eq_false hed]
      rfl

/-- A channel that wakes leaves self-refresh as it becomes ready. -/
theorem State.readyOne_selfRef {c : Nat} (hc : c < 8) (hw : bitOf s.sup.waking (0x18 + c) = true) :
    (s.readyOne (0x18 + c)).flag (selfRef c) = false := by
  have hrd := (State.readyOne_eq hw).2 0xB0000 (by decide)
  refine (State.flag_of_rd (hrd.trans (PowerOnly.setAwake.2 _ rfl))).trans ?_
  have hd : 0x18 + c - 24 = c := by omega
  unfold State.readyFrom
  rw [hd]
  split
  · refine State.flag_eq_false ((State.put_fld_self ?_).trans rfl)
    show 16 + c + 1 ≤ 32
    omega
  · next h => exact Bool.eq_false_iff.2 fun hf => h ⟨by omega, by omega, hf⟩

/-- A domain that becomes ready leaves the self-refresh of the other channels. -/
theorem State.readyOne_selfRef_ne {c : Nat} (hc : c < 8) (hd : d ≠ 0x18 + c) : (s.readyOne d).flag (selfRef c) = s.flag (selfRef c) := by
  by_cases hw : bitOf s.sup.waking d = true
  · have hrd := (State.readyOne_eq hw).2 0xB0000 (by decide)
    refine (State.flag_of_rd (hrd.trans (PowerOnly.setAwake.2 _ rfl))).trans ?_
    unfold State.readyFrom
    split
    · next h =>
      exact congrArg (fun x => decide (x ≠ 0)) (State.put_fld_apart (s := s.markWaking d) (selfRef_apart_selfRef hc (by omega)))
    · rfl
  · rw [State.readyOne_idle (Bool.eq_false_iff.2 hw)]

/-! ### What sleep leaves of another domain -/

/-- Domain `e` is as awake and as waking as it was, its channel in self-refresh as it was, and the command on a domain stands. -/
structure Spared (e : Nat) (s t : State) : Prop where
  awake : t.awake e = s.awake e
  waking : bitOf t.sup.waking e = bitOf s.sup.waking e
  domJob : t.sup.domJob = s.sup.domJob
  selfRef : ∀ c < 8, e = 0x18 + c → t.flag (selfRef c) = s.flag (selfRef c)

theorem Spared.refl (e : Nat) (s : State) : Spared e s s := ⟨rfl, rfl, rfl, fun _ _ _ => rfl⟩

theorem Spared.trans (h : Spared e s t) (k : Spared e t u) : Spared e s u where
  awake := k.awake.trans h.awake
  waking := k.waking.trans h.waking
  domJob := k.domJob.trans h.domJob
  selfRef := fun c hc he => (k.selfRef c hc he).trans (h.selfRef c hc he)

theorem Spared.ite {c : Prop} [Decidable c] (h : Spared e s t) (k : Spared e s u) : Spared e s (if c then t else u) := by
  split
  · exact h
  · exact k

theorem Spared.foldl {α : Type} {l : List α} {f : State → α → State} (h : ∀ t, ∀ x ∈ l, Spared e t (f t x)) : Spared e s (l.foldl f s) :=
  List.foldlRecOn (motive := fun t => Spared e s t) l f (Spared.refl e s) fun t ht x hx => ht.trans (h t x hx)

theorem Spared.same (hs : t.sup = s.sup) (hr : ∀ a ∈ wakeRegs, t.rd a = s.rd a) : Spared e s t where
  awake := State.awake_congr (fun x => hr _ (by rcases awakeBit_a x with h | h <;> rw [h] <;> decide)) e
  waking := by rw [hs]
  domJob := by rw [hs]
  selfRef := fun _ _ _ => State.flag_of_rd (hr 0xB0000 (by decide))

theorem Spared.put {f : Fld} {v : Nat} (h : f.a ∉ wakeRegs) : Spared e s (s.put f v) :=
  Spared.same rfl fun _ ha => State.put_rd_ne fun hf => h (hf ▸ ha)

theorem Spared.outs (h : OutsOnly s t) (hw : Woken outReg s t) : Spared e s t :=
  Spared.same h.sup fun a ha => hw.rd a (by fin_cases ha <;> rfl)

theorem Spared.sleepOne (he : e < 64) (h : e ≠ d) : Spared e s (s.sleepOne d) where
  awake := by rw [State.sleepOne_awake he, decide_eq_false h, Bool.not_false, Bool.true_and]
  waking := by
    rw [State.sleepOne_sup]
    exact testBit_putBit_ne (Ne.symm h)
  domJob := by rw [State.sleepOne_sup]
  selfRef := fun c hc hec => (State.sleepOne_selfRef c).trans (State.selfRefresh_selfRef hc (hec ▸ Ne.symm h))

theorem Spared.dramNoRef (he : e < 64) (h : s.refOk = true ∨ ¬(0x18 ≤ e ∧ e ≤ 0x1F)) : Spared e s s.dramNoRef := by
  unfold State.dramNoRef
  split
  · exact Spared.refl e s
  · next hr =>
    have hch := h.resolve_left hr
    refine Spared.foldl fun t c hc => Spared.ite (Spared.sleepOne he ?_) (Spared.refl e t)
    have := List.mem_range.1 hc
    omega

theorem Spared.holdTb : Spared e s s.holdTb :=
  Spared.ite (((Spared.put (by decide)).trans (Spared.put (by decide))).trans (Spared.put (by decide))) (Spared.refl e s)

theorem Spared.allToHold : Spared e s s.allToHold :=
  Spared.outs OutsOnly.restOuts (Woken.restOuts (fun _ => List.mem_range.1) (fun _ => List.mem_range.1))

/-- The register that says whether the reference holds is written in its LOCK and COAST alone as the PLL's domain sleeps. -/
theorem State.sleepOne_refValid (h : d = 1 ∨ d = 2) : (s.sleepOne d).fld F.CLK_STAT_REF_VALID = s.fld F.CLK_STAT_REF_VALID := by
  have hs : s.selfRefresh d = s := if_neg fun hd => by omega
  have hw : Woken outReg (s.put (awakeBit d) 0) ((s.put (awakeBit d) 0).restOuts true (domFcs d) (domVps d)) := Woken.restDom
  have hrd : (s.sleepOne d).rd 0x10008 = (s.put (awakeBit d) 0).rd 0x10008 := by
    unfold State.sleepOne
    rw [hs]
    exact hw.rd _ rfl
  exact congrArg _ (hrd.trans (State.put_rd_ne (Ne.symm (awakeBit_ne (.inl (by decide)) d))))

theorem Spared.sleepPll (he : e < 64) (h1 : e ≠ 1) (h2 : e ≠ 2) (h : s.fld F.CLK_STAT_REF_VALID = 1 ∨ ¬(0x18 ≤ e ∧ e ≤ 0x1F)) :
    Spared e s s.sleepPll := by
  unfold State.sleepPll
  extract_lets s1 s2
  have hs1 : Spared e s s1 :=
    (((Spared.sleepOne he h1).trans (Spared.sleepOne he h2)).trans Spared.allToHold).trans (Spared.put (by decide))
  have hv1 : s1.fld F.CLK_STAT_REF_VALID = s.fld F.CLK_STAT_REF_VALID := by
    have hw : Woken outReg ((s.sleepOne 1).sleepOne 2) ((s.sleepOne 1).sleepOne 2).allToHold :=
      Woken.restOuts (fun _ => List.mem_range.1) (fun _ => List.mem_range.1)
    refine (State.put_fld_apart (by decide)).trans ((congrArg (getBits 2 1) (hw.rd 0x10008 rfl)).trans ?_)
    exact (State.sleepOne_refValid (.inr rfl)).trans (State.sleepOne_refValid (.inl rfl))
  have hv2 : (s1.holdTb.put F.CLK_STAT_COAST 0).fld F.CLK_STAT_REF_VALID = s.fld F.CLK_STAT_REF_VALID := by
    rw [State.put_fld_apart (by decide), ← hv1]
    unfold State.holdTb
    split
    · rw [State.bump, State.addTo, State.put_fld_ne (by decide), State.raise_eq, State.put_fld_ne (by decide), State.put_fld_ne (by decide)]
    · rfl
  have hs2 : Spared e s s2 := by
    refine (hs1.trans (Spared.holdTb.trans (Spared.put (by decide)))).trans (Spared.dramNoRef he (h.imp_left fun hr => ?_))
    unfold State.refOk
    rw [State.flag_eq_true (hv2.trans hr), Bool.true_or]
  exact hs2.trans (Spared.same rfl fun _ _ => rfl)

theorem Spared.pllIdle (he : e < 64) (h1 : e ≠ 1) (h2 : e ≠ 2) (h : s.fld F.CLK_STAT_REF_VALID = 1 ∨ ¬(0x18 ≤ e ∧ e ≤ 0x1F)) :
    Spared e s s.pllIdle := Spared.ite (Spared.sleepPll he h1 h2 h) (Spared.refl e s)

/-! ### A group's becoming ready as one -/

theorem State.readyAll_through {P Q : State → Prop} {l : List Nat} (before : ∀ t d, d < e → Q t → Q (t.readyOne d))
    (now : ∀ t, Q t → P (t.readyOne e)) (after : ∀ t d, e < d → P t → P (t.readyOne d)) (hl : l.Pairwise (· < ·)) (he : e ∈ l)
    (hq : Q s) : P (l.foldl (fun t d => t.readyOne d) s) := by
  induction l generalizing s with
  | nil => cases he
  | cons d l ih =>
    obtain ⟨hd, hl⟩ := List.pairwise_cons.1 hl
    rcases List.mem_cons.1 he with rfl | he
    · exact List.foldlRecOn (motive := P) l _ (now s hq) fun t ht x hx => after t x (hd x hx) ht
    · exact ih hl he (before s d (hd e he) hq)

theorem Readied.readyAll (l : List Nat) : Readied s (l.foldl (fun t d => t.readyOne d) s) :=
  List.foldlRecOn (motive := fun t => Readied s t) l _ (Readied.refl s) fun _ ht _ _ => ht.trans Readied.readyOne

/-- A command that waits for an awake domain ends with OK; nothing else does. -/
theorem State.domFinish_eq (s : State) : s.domFinish = s ∨
    s.domFinish = { (s.put F.SUP_DOM_CMD_STATUS stOk).put F.SUP_DOM_CMD_BUSY 0 with sup := { s.sup with domJob := none } } := by
  unfold State.domFinish
  split
  · split
    · exact .inr rfl
    · exact .inl rfl
  · exact .inl rfl

theorem State.domFinish_ends (h : s.sup.domJob = some d) (ha : s.awake d = true) : s.domFinish.sup.domJob = none ∧
    s.domFinish.fld F.SUP_DOM_CMD_STATUS = stOk ∧ s.domFinish.fld F.SUP_DOM_CMD_BUSY = 0 := by
  have he : s.domFinish =
      { (s.put F.SUP_DOM_CMD_STATUS stOk).put F.SUP_DOM_CMD_BUSY 0 with sup := { s.sup with domJob := none } } := by
    unfold State.domFinish
    rw [h]
    exact if_pos ha
  rw [he]
  refine ⟨rfl, ?_, State.put_fld_self (by decide)⟩
  exact (State.put_fld_apart (s := s.put F.SUP_DOM_CMD_STATUS stOk) (by decide)).trans (State.put_fld_self (by decide))

theorem PowerOnly.domFinish : PowerOnly readyReg s s.domFinish := by
  rcases s.domFinish_eq with h | h <;> rw [h]
  · exact PowerOnly.refl _ s
  · exact ((PowerOnly.put rfl).trans (PowerOnly.put rfl)).trans (PowerOnly.frame ⟨_, _, _, rfl⟩)

theorem State.domFinish_sup (s : State) : ∃ j, s.domFinish.sup = { s.sup with domJob := j } := by
  rcases s.domFinish_eq with h | h <;> rw [h]
  · exact ⟨_, rfl⟩
  · exact ⟨_, rfl⟩

theorem State.domFinish_rd {a : Nat} (ha : a ≠ 0x120054) : s.domFinish.rd a = s.rd a := by
  rcases s.domFinish_eq with h | h <;> rw [h]
  exact (State.put_rd_ne (s := s.put F.SUP_DOM_CMD_STATUS stOk) ha).trans (State.put_rd_ne ha)

theorem State.domFinish_awake (s : State) (e : Nat) : s.domFinish.awake e = s.awake e :=
  State.awake_congr (fun x => State.domFinish_rd (awakeBit_ne (.inl (by decide)) x)) e

/-- The group of domain `d`, ready as one, and a command that waited for it answered. -/
def State.groupUp (s : State) (d : Nat) : State := ((s.groupOf d).foldl (fun t e => t.readyOne e) s).domFinish

/-- A group that wakes, and that nothing holds back, becomes ready as one (R24). -/
theorem State.groupReady_eq (hw : bitOf s.sup.waking d = true) (hh : s.wakeHeld d = false) :
    s.groupReady d = ((s.groupUp d).trySleep d).pllIdle := by
  unfold State.groupReady
  rw [hw, hh]
  rfl

theorem PowerOnly.groupUp : PowerOnly readyReg s (s.groupUp d) := (Readied.readyAll _).power.trans PowerOnly.domFinish

theorem PowerOnly.groupReady : PowerOnly powReg s (s.groupReady d) := by
  have hup : PowerOnly powReg s (s.groupUp d) := PowerOnly.mono PowerOnly.groupUp fun _ => readyReg_of_powReg
  have hsleep : PowerOnly powReg (s.groupUp d) ((s.groupUp d).trySleep d).pllIdle :=
    (PowerOnly.trySleep.trans PowerOnly.pllIdle).mono fun _ => sleepReg_of_powReg
  exact PowerOnly.ite (PowerOnly.refl _ s) (hup.trans hsleep)

/-- What `P` says of the group once `d` itself is ready holds of it at the end, where the domains after `d` keep it. -/
theorem State.groupUp_through {P : State → Prop} (hd : d < 64) (hw : bitOf s.sup.waking d = true)
    (now : ∀ t : State, bitOf t.sup.waking d = true → P (t.readyOne d)) (after : ∀ t e, d < e → P t → P (t.readyOne e)) :
    P ((s.groupOf d).foldl (fun t e => t.readyOne e) s) :=
  State.readyAll_through (Q := fun t => bitOf t.sup.waking d = true)
    (fun _ _ hlt ht => State.readyOne_waking (Nat.ne_of_lt hlt) ht) now after (s.groupOf_sorted d) (State.mem_groupOf hd) hw

/-- A domain that woke is awake as its group is ready. -/
theorem State.groupUp_awake (hd : d < 64) (hw : bitOf s.sup.waking d = true) : (s.groupUp d).awake d = true := by
  have hnow : ∀ t : State, bitOf t.sup.waking d = true → (t.readyOne d).awake d = true := fun t ht => by
    rw [State.readyOne_awake hd ht, decide_eq_true rfl, Bool.true_or]
  refine (State.domFinish_awake _ d).trans ?_
  exact State.groupUp_through (P := fun t => t.awake d = true) hd hw hnow fun _ _ _ ht => Readied.readyOne.awake d hd ht

/-- The supervisor's record beside which domains wake and the domain command. -/
theorem State.groupUp_sup (s : State) (d : Nat) : ∃ w j, (s.groupUp d).sup = { s.sup with waking := w, domJob := j } := by
  obtain ⟨w, hw⟩ := (Readied.readyAll (s := s) (s.groupOf d)).sup
  obtain ⟨j, hj⟩ := State.domFinish_sup ((s.groupOf d).foldl (fun t e => t.readyOne e) s)
  exact ⟨w, j, by rw [State.groupUp, hj, hw]⟩

/-- A domain that may not sleep stays as its group's readiness leaves it. -/
theorem Spared.groupReady (hd : d < 64) (hw : bitOf s.sup.waking d = true) (hh : s.wakeHeld d = false)
    (hmay : (s.groupUp d).maySleep d = false) (h1 : d ≠ 1) (h2 : d ≠ 2)
    (h : s.fld F.CLK_STAT_REF_VALID = 1 ∨ ¬(0x18 ≤ d ∧ d ≤ 0x1F)) : Spared d (s.groupUp d) (s.groupReady d) := by
  rw [State.groupReady_eq hw hh, State.trySleep_stays hd hmay]
  exact Spared.pllIdle hd h1 h2 (h.imp_left fun hr => (PowerOnly.groupUp.fld rfl).trans hr)

/-- With nothing that waits, nothing goes on after a change of power. -/
theorem State.settle_idle (hp : s.plan.waitPll = false) (hb : s.bus = []) (hm : s.fld F.MBX_STAT_BUSY = 0)
    (hf : s.fld F.FABRIC_STAT_BUSY = 0) (hr : s.mg.rxq = []) : s.settle = s := by
  have h1 : s.mbxResume = s := if_pos (by rw [State.flag_eq_false hm]; rfl)
  have h2 : s.busGo = s := by
    unfold State.busGo
    rw [hb]
    rfl
  have h3 : s.loadGoesOn = s := by
    unfold State.loadGoesOn
    rw [hp]
    rfl
  have h4 : s.fabGoesOn = s := by
    unfold State.fabGoesOn
    rw [State.flag_eq_false hf]
    rfl
  have h5 : s.rxGoesOn = s := by
    unfold State.rxGoesOn
    rw [hr]
    rfl
  unfold State.settle
  rw [h1, h2, h3, h4, h5]

/-- Nothing that waits goes on after a change of the power states alone. -/
theorem PowerOnly.settle_idle (h : PowerOnly powReg s t) (hp : s.plan.waitPll = false) (hb : s.bus = [])
    (hm : s.fld F.MBX_STAT_BUSY = 0) (hf : s.fld F.FABRIC_STAT_BUSY = 0) (hr : s.mg.rxq = []) : t.settle = t :=
  State.settle_idle (by rw [h.plan, hp]) (h.bus.trans hb) ((h.fld (by decide)).trans hm) ((h.fld (by decide)).trans hf) (by rw [h.mg, hr])

end
end Sys2Proof.Machine
end

section
/-! SUPPORT. Panic, refreshes and the temperature poll (R146, R234–R236, R241): what an event record leaves, what the yields of a rung
leave, and each of their commands on its own. -/

namespace Sys2Proof.Machine

/-- No event or fault record changes a register between EVQ's and SUP_STAT. -/
theorem notMem_evRegs {a : Nat} (hlo : 0x30048 < a) (hhi : a < 0x120000) : a ∉ evRegs := by
  simp only [evRegs, logRegs, List.mem_append, List.mem_cons, List.not_mem_nil, or_false]
  omega

section
variable {s t : State}

/-- EVQ's room depends on the queues and the tick. -/
theorem State.evRoom_congr {src : Nat} (hq : t.q = s.q) (ht : t.tm = s.tm) : t.evRoom src = s.evRoom src := by
  cases s
  cases t
  dsimp only at hq ht
  subst hq ht
  rfl

/-- The record of an event that finds room is EVQ's last. -/
theorem State.eventNow_lastRec {src code data : Nat} (hs : src < 256) (h : s.evRoom src = true) :
    (s.eventNow src code data).lastRec 8 = some (evRec s.tm.tb src code data) := by
  show (s.eventNow src code data).q.evq.recs.getLast? = _
  rw [State.eventNow_room hs h, List.getLast?_concat]

/-! ### Panic -/

theorem panicReg_ne (n : Fin 8) {a : Nat} (h : a < 0xB0100) : (F.DRAM_PORT_PANIC n.val).a ≠ a := by
  show 0xB0100 + 4 * n.val ≠ a
  omega

theorem panicReg_notMem (n : Fin 8) : (F.DRAM_PORT_PANIC n.val).a ∉ evRegs := by
  have hn := n.isLt
  refine notMem_evRegs ?_ ?_
  · show 0x30048 < 0xB0100 + 4 * n.val
    omega
  · show 0xB0100 + 4 * n.val < 0x120000
    omega

/-- A port whose lead falls below MARK enters panic (R146). -/
theorem panicEntry_does {n : Fin 8} {l : BitVec 16} (hlive : s.live = true) (hlead : s.hasLead n.val = true)
    (hout : s.fld (F.DRAM_PORT_PANIC n.val) = 0) (hl : l.toNat < s.fld F.DRAM_PANIC_MARK) :
    Does (.panicEntry n l) s fun t => t.fld (F.DRAM_PORT_PANIC n.val) = 1 ∧ t.fld
      F.DRAM_CNT_PANIC_COUNT = min (s.fld F.DRAM_CNT_PANIC_COUNT + 1) 65535 ∧ t.fld F.DRAM_FLAGS_PANIC_SEEN = 1 ∧ (s.evRoom
      0x15 = true → t.lastRec 8 = some (evRec s.tm.tb 0x15 0x01 (n.val + 2 ^ 32 * l.toNat))) := by
  refine ⟨_, if_pos (by rw [hlive, hlead, State.flag_eq_false hout, decide_eq_true hl]; rfl), ?_, ?_, ?_, fun hr => ?_⟩
  · rw [State.eventNow_fld (panicReg_notMem n), State.raise_eq, State.put_fld_ne (panicReg_ne n (by decide)), State.bump,
      State.addTo, State.put_fld_ne (panicReg_ne n (by decide))]
    exact State.raise_fld_self (Nat.le_of_ble_eq_true rfl)
  · rw [State.eventNow_fld (by decide), State.raise_eq, State.put_fld_ne (by decide), State.bump_fld_self (by decide),
      State.raise_eq, State.put_fld_ne (panicReg_ne n (by decide)).symm]
    rfl
  · rw [State.eventNow_fld (by decide), State.raise_fld_self (by decide)]
    rfl
  · exact State.eventNow_lastRec (by decide) ((State.evRoom_congr rfl rfl).trans hr)

/-- A port in panic whose lead reaches MARK + 16, or that has none, leaves it (R146). -/
theorem panicExit_does {n : Fin 8} {l : Option (BitVec 16)} (hlive : s.live = true) (hin : s.fld (F.DRAM_PORT_PANIC n.val) = 1) :
    (match l with | some x => s.fld F.DRAM_PANIC_MARK + 16 ≤ x.toNat | none => s.hasLead n.val = false) → Does (.panicExit n l) s fun t => t.fld (F.DRAM_PORT_PANIC n.val) = 0 ∧
      (s.evRoom 0x15 = true → t.lastRec 8 = some (evRec s.tm.tb 0x15 0x01 (n.val + 2 ^ 8 + 2 ^ 32 * (match l with | some x => x.toNat | none => 0)))) := by
  intro hl
  refine ⟨((s.put (F.DRAM_PORT_PANIC n.val) 0).eventNow 0x15 0x01 (n.val + 2 ^ 8 + 2 ^ 32 * _)), if_pos ?_, ?_, fun hr => ?_⟩
  · rw [hlive, State.flag_eq_true hin]
    cases l with
    | none => simpa using hl
    | some x => simpa using hl
  · exact (State.eventNow_fld (panicReg_notMem n)).trans (State.put_fld_self (Nat.le_of_ble_eq_true rfl))
  · cases l <;> exact State.eventNow_lastRec (by decide) ((State.evRoom_congr rfl rfl).trans hr)

/-! ### Owed and forced refreshes -/

theorem State.refresh_dch (c : Nat) : (s.refresh c).dch c = { s.dch c with refs := (s.dch c).refs + 1 } := State.setDch_dch_self s c _

/-- What the yields leave of a channel. -/
theorem State.yieldOn_dch {hi lo res idx k : Nat} (c : Nat) : (s.yieldOn hi lo res idx k).dch c = s.dch c := by
  unfold State.yieldOn
  split
  · rfl
  · extract_lets key y s1 set due
    split
    · show (s1.eventNow _ _ _).dch c = _
      rw [State.dch, State.eventNow_dram]
      rfl
    · rfl

theorem State.yieldOn_fld {hi lo res idx k : Nat} {f : Fld} (hf : f.a ∉ evRegs) (hy : f.a ≠ F.PLAN_YIELD_YIELD_COUNT.a) :
    (s.yieldOn hi lo res idx k).fld f = s.fld f := by
  unfold State.yieldOn
  split
  · rfl
  · extract_lets key y s1 set due
    have hk : s1.fld f = s.fld f := State.put_fld_ne hy
    split
    · exact (State.eventNow_fld hf).trans hk
    · exact hk

theorem State.yieldsOf_dch (l : List YieldReport) (c : Nat) : (s.yieldsOf l).dch c = s.dch c :=
  List.foldlRecOn (motive := fun t : State => t.dch c = s.dch c) l _ rfl fun _ ht _ _ => (State.yieldOn_dch c).trans ht

/-- An owed refresh is issued (R234). -/
theorem owedRefresh_runs {c : Fin 8} (hlive : s.live = true) (hc : s.chServes c.val = true) (ho : 0 < (s.dch c.val).owed)
    (hf : s.fetchesOn c.val = 0) : Runs (.owedRefresh c) s fun t => (t.dch c.val).owed = (s.dch c.val).owed - 1 ∧ (t.dch c.val).refs = (s.dch c.val).refs +
    1 := by
  refine ⟨_, if_pos (by rw [hlive, hc, decide_eq_true ho, decide_eq_true hf]; rfl), ?_⟩
  beta_reduce
  rw [State.refresh_dch, State.setDch_dch_self]
  exact ⟨rfl, rfl⟩

/-- A further refresh at POST_MAX forces the oldest (R234). -/
theorem refreshForced_runs {c : Fin 8} (hlive : s.live = true) (hc : s.enabled.contains c.val = true) (hfence : s.fenced c.val = false)
    (ho : s.fld F.DRAM_REF_POST_MAX ≤ (s.dch c.val).owed) : Runs (.refreshForced c) s fun t => (t.dch c.val).refs = (s.dch c.val).refs +
    1 ∧ (t.dch c.val).owed = (s.dch c.val).owed ∧ t.fld F.DRAM_CNT_FORCED_COUNT = min (s.fld F.DRAM_CNT_FORCED_COUNT + 1)
    65535 ∧ t.fld F.DRAM_FLAGS_REF_FORCED = 1 ∧ (s.fetchesOn c.val = 0 → (s.evRoom 0x15 = true → t.lastRec 8 = some (evRec
    s.tm.tb 0x15 0x02 (c.val + 2 ^ 8 * (s.dch c.val).owed + 2 ^ 16 * s.forceCause c.val)))) := by
  refine ⟨_, if_pos (by rw [hlive, hc, hfence, decide_eq_true ho]; rfl), ?_⟩
  have hdch : (s.forceRefresh c.val).dch c.val = { s.dch c.val with refs := (s.dch c.val).refs + 1 } := by
    refine (State.yieldOn_dch c.val).trans ?_
    rw [State.dch, State.eventNow_dram]
    exact State.refresh_dch c.val
  beta_reduce
  rw [hdch]
  refine ⟨rfl, rfl, ?_, ?_, fun hf hr => ?_⟩
  · refine (State.yieldOn_fld (by decide) (by decide)).trans ?_
    rw [State.eventNow_fld (by decide), State.raise_eq, State.put_fld_ne (by decide), State.bump_fld_self (by decide)]
    rfl
  · refine (State.yieldOn_fld (by decide) (by decide)).trans ?_
    exact (State.eventNow_fld (by decide)).trans (State.raise_fld_self (by decide))
  · show (State.yieldRungs _ 2 3 c.val (s.fetchesOn c.val)).lastRec 8 = _
    rw [hf]
    exact State.eventNow_lastRec (by decide) ((State.evRoom_congr rfl rfl).trans hr)

/-! ### The free mode -/

theorem freeModeRefresh_next {c : Fin 8} {l : List YieldReport} (hlive : s.live = true) (hh : s.fld F.SEQ_STAT_HEAT ≠ 3) :
    exec (.freeModeRefresh ⟨c, l⟩) s = .next ((s.freeRefresh c.val).yieldsOf l) := by
  show (if s.live then _ else _) = _
  rw [if_pos hlive, if_neg hh]

theorem freeModeRefresh_issues {c : Fin 8} {l : List YieldReport} (hlive : s.live = true) (hc : s.chServes c.val = true)
    (hh : s.fld F.SEQ_STAT_HEAT ≠ 3) :
    Runs (.freeModeRefresh ⟨c, l⟩) s fun t => (t.dch c.val).refs = (s.dch c.val).refs + 1 ∧ (t.dch c.val).owed = (s.dch
    c.val).owed ∧ (l = [] → t.regs = s.regs) := by
  have hfree : s.freeRefresh c.val = s.refresh c.val := by
    unfold State.freeRefresh
    rw [if_neg hh, if_pos hc]
  refine ⟨_, freeModeRefresh_next hlive hh, ?_⟩
  beta_reduce
  rw [State.yieldsOf_dch, hfree, State.refresh_dch]
  refine ⟨rfl, rfl, ?_⟩
  rintro rfl
  rfl

theorem freeModeRefresh_owes {c : Fin 8} {l : List YieldReport} (hlive : s.live = true) (hc : s.enabled.contains c.val = true)
    (hret : s.flag (retrainBit c.val) = true) (hfence : s.fenced c.val = false) (hh : s.fld F.SEQ_STAT_HEAT ≠ 3)
    (ho : (s.dch c.val).owed < s.fld F.DRAM_REF_POST_MAX) :
    Runs (.freeModeRefresh ⟨c, l⟩) s fun t => (t.dch c.val).refs = (s.dch c.val).refs ∧ (t.dch c.val).owed = (s.dch
    c.val).owed + 1 ∧ (l = [] → t.regs = s.regs) := by
  have hnot : s.chServes c.val = false := by
    unfold State.chServes
    rw [hret]
    simp
  have hfree : s.freeRefresh c.val = s.setDch c.val { s.dch c.val with owed := (s.dch c.val).owed + 1 } := by
    unfold State.freeRefresh State.owe
    rw [if_neg hh, hnot, hc, hret, hfence, if_neg (by simp), if_pos (by rfl), if_neg (by omega)]
  refine ⟨_, freeModeRefresh_next hlive hh, ?_⟩
  beta_reduce
  rw [State.yieldsOf_dch, hfree, State.setDch_dch_self]
  refine ⟨rfl, rfl, ?_⟩
  rintro rfl
  rfl

/-! ### The temperature poll -/

theorem tempFld_apart {c e : Nat} (hc : c < 8) (h : c ≠ e) : Fld.apart (tempFld c) (tempFld e) = true := by
  refine Bool.or_eq_true_iff.2 (.inr (Bool.and_eq_true_iff.2 ⟨Bool.or_eq_true_iff.2 ?_, ?_⟩))
  · rcases Nat.lt_or_gt_of_ne h with h | h
    · exact .inl (decide_eq_true (by show 2 * c + 2 ≤ 2 * e; omega))
    · exact .inr (decide_eq_true (by show 2 * e + 2 ≤ 2 * c; omega))
  · exact decide_eq_true (by show 2 * c + 2 ≤ 32; omega)

/-- The state that a report stores before HOT is judged. -/
theorem State.tempReport_eq (s : State) (c code : Nat) (beyond : Bool) : ∃ u : State,
    u.dch c = { s.dch c with beyond := beyond } ∧ (∀ e, e ≠ c → u.dch e = s.dch e) ∧ u.rd F.DRAM_FLAGS_HOT.a = s.rd F.DRAM_FLAGS_HOT.a ∧
    (∀ f : Fld, f.a = 0xB0014 → u.fld f = (s.put (tempFld c) code).fld f) ∧
    s.tempReport c code beyond = if code = 3 ∨ beyond then (u.raise F.DRAM_FLAGS_HOT).log 0x15 0x03 1 c code else u :=
  ⟨(s.put (tempFld c) code).setDch c { s.dch c with beyond := beyond }, State.setDch_dch_self _ _ _,
    fun _ he => State.setDch_dch_ne he, State.put_rd_ne (show 0xB001C ≠ 0xB0014 by decide), fun _ _ => rfl, rfl⟩

/-- What a report of channel `c` leaves of the temperature fields and of the channels' records. -/
theorem State.tempReport_fld (s : State) (c code : Nat) (beyond : Bool) {f : Fld} (hf : f.a = 0xB0014) :
    (s.tempReport c code beyond).fld f = (s.put (tempFld c) code).fld f := by
  obtain ⟨u, -, -, -, hfld, he⟩ := s.tempReport_eq c code beyond
  rw [he, ← hfld f hf]
  split
  · rw [State.log_fld (by rw [hf]; decide), State.raise_eq, State.put_fld_ne (by rw [hf]; decide)]
  · rfl

theorem State.tempReport_dch (s : State) (c code : Nat) (beyond : Bool) :
    (s.tempReport c code beyond).dch c = { s.dch c with beyond := beyond } ∧
      ∀ e, e ≠ c → (s.tempReport c code beyond).dch e = s.dch e := by
  obtain ⟨u, hself, hne, -, -, he⟩ := s.tempReport_eq c code beyond
  have hdram : (s.tempReport c code beyond).dram = u.dram := by
    rw [he]
    split
    · exact State.log_dram _ _ _ _ _ _
    · rfl
  rw [State.dch, hdram]
  refine ⟨hself, fun e hec => ?_⟩
  rw [State.dch, hdram]
  exact hne e hec

/-- HOT is set by the highest code and by a reading beyond, and stays. -/
theorem State.tempReport_hot (s : State) (c code : Nat) (beyond : Bool)
    (h : s.fld F.DRAM_FLAGS_HOT = 1 ∨ code = 3 ∨ beyond = true) : (s.tempReport c code beyond).fld F.DRAM_FLAGS_HOT = 1 := by
  obtain ⟨u, -, -, hrd, -, he⟩ := s.tempReport_eq c code beyond
  rw [he]
  split
  · exact (State.log_fld (by decide)).trans (State.raise_fld_self (by decide))
  · next hn => exact (congrArg (getBits 3 1) hrd).trans (h.resolve_right hn)

/-- The reports of distinct channels, one after another (R241). -/
theorem State.tempReports (code : Nat → Nat) (beyond : Nat → Bool) : ∀ {l : List Nat} (s : State), l.Nodup → (∀ c ∈ l, c < 8) →
    (∀ c ∈ l, code c < 4) →
    let t := l.foldl (fun t c => t.tempReport c (code c) (beyond c)) s
    (∀ c ∈ l, t.fld (tempFld c) = code c ∧ (t.dch c).beyond = beyond c) ∧
      (∀ c < 8, c ∉ l → t.fld (tempFld c) = s.fld (tempFld c) ∧ t.dch c = s.dch c) ∧
      (s.fld F.DRAM_FLAGS_HOT = 1 ∨ (∃ c ∈ l, code c = 3 ∨ beyond c = true) → t.fld F.DRAM_FLAGS_HOT = 1)
  | [], s, _, _, _ => ⟨by simp, fun _ _ _ => ⟨rfl, rfl⟩, by simp⟩
  | c :: l, s, hn, hl, hcode => by
    obtain ⟨hc, hn⟩ := List.nodup_cons.1 hn
    obtain ⟨hin, hout, hhot⟩ := State.tempReports code beyond (l := l) (s.tempReport c (code c) (beyond c)) hn
      (fun e he => hl e (List.mem_cons_of_mem _ he)) fun e he => hcode e (List.mem_cons_of_mem _ he)
    have hlt := hl c List.mem_cons_self
    have hself : (s.tempReport c (code c) (beyond c)).fld (tempFld c) = code c := by
      rw [State.tempReport_fld s c _ _ rfl, State.put_fld_self (by show 2 * c + 2 ≤ 32; omega)]
      exact Nat.mod_eq_of_lt (hcode c List.mem_cons_self)
    obtain ⟨hdch, hdne⟩ := s.tempReport_dch c (code c) (beyond c)
    refine ⟨fun e he => ?_, fun e he hne => ?_, fun h => hhot ?_⟩
    · rcases List.mem_cons.1 he with rfl | he
      · obtain ⟨hf, hd⟩ := hout e hlt hc
        exact ⟨hf.trans hself, (congrArg Dch.beyond hd).trans (by rw [hdch])⟩
      · exact hin e he
    · obtain ⟨hec, hel⟩ := not_or.1 (mt List.mem_cons.2 hne)
      obtain ⟨hf, hd⟩ := hout e he hel
      exact ⟨hf.trans ((State.tempReport_fld s c _ _ rfl).trans (State.put_fld_apart (tempFld_apart he hec))), hd.trans (hdne e hec)⟩
    · by_cases hnow : s.fld F.DRAM_FLAGS_HOT = 1 ∨ code c = 3 ∨ beyond c = true
      · exact .inl (s.tempReport_hot c _ _ hnow)
      · obtain ⟨hs, hcc⟩ := not_or.1 hnow
        obtain ⟨e, he, hec⟩ := h.resolve_left hs
        rcases List.mem_cons.1 he with rfl | he
        · exact absurd hec hcc
        · exact .inr ⟨e, he, hec⟩

/-- A poll stores each serving channel's report, and sets HOT for the highest or a reading beyond (R241). -/
theorem dramTempPoll_runs {m : List Nat} {b : List Bool} (hlive : s.live = true) :
    Runs (.dramTempPoll m b) s fun t => (∀ c : Fin 8,
      s.chServes c.val = true → t.fld (tempFld c.val) = min (m.getD c.val 0) 3 ∧ (3 ≤ m.getD c.val 0 ∨ b.getD c.val false =
      true → t.fld F.DRAM_FLAGS_HOT = 1) ∧ (t.dch c.val).beyond = b.getD c.val false) ∧ (∀ c : Fin 8, s.chServes c.val = false
      → t.fld (tempFld c.val) = s.fld (tempFld c.val)) := by
  have hin : ∀ c, c ∈ s.enabled.filter (fun c => s.chServes c) ↔ s.chServes c = true := by
    intro c
    rw [List.mem_filter, and_iff_right_iff_imp]
    intro hc
    simp only [State.chServes, Bool.and_eq_true] at hc
    obtain ⟨⟨⟨⟨hc, -⟩, -⟩, -⟩, -⟩ := hc
    exact List.contains_iff_mem.1 hc
  obtain ⟨hmem, hout, hhot⟩ := State.tempReports (fun c => min (m.getD c 0) 3) (fun c => b.getD c false) s
    (s.enabled_nodup.filter fun c => s.chServes c)
    (fun c hc => List.mem_range.1 (List.mem_filter.1 (List.mem_filter.1 hc).1).1) fun c _ => by omega
  refine ⟨_, if_pos hlive, fun c hc => ?_, fun c hc => (hout c.val c.isLt ?_).1⟩
  · have hc := (hin c.val).2 hc
    refine ⟨(hmem c.val hc).1, fun h => hhot (.inr ⟨c.val, hc, h.imp_left fun h => ?_⟩), (hmem c.val hc).2⟩
    exact Nat.min_eq_right h
  · rw [hin, hc]
    simp

/-- An idle channel enters power-down (R237). -/
theorem powerDownEntry_runs {c : Fin 8} (hlive : s.live = true) (hc : s.chServes c.val = true)
    (ho : bitOf s.sup.owned (0x18 + c.val) = false) (hf : s.fetchesOn c.val = 0) : Runs (.powerDownEntry c) s fun t =>
    t.dch c.val = { s.dch c.val with pd := true } ∧ t.regs = s.regs ∧ t.mem = s.mem :=
  ⟨_, if_pos (by rw [hlive, hc, ho, decide_eq_true hf]; rfl), State.setDch_dch_self _ _ _, rfl, rfl⟩

end
end Sys2Proof.Machine
end

section
/-! SUPPORT. Self-refresh (R233, R237, R238): a channel's entry, its exit on its own and with its group. -/

namespace Sys2Proof.Machine

section
variable {s t : State}

theorem notMem_evRegs_high {a : Nat} (h : 0x150080 ≤ a) : a ∉ evRegs := by
  simp only [evRegs, logRegs, List.mem_append, List.mem_cons, List.not_mem_nil, or_false]
  omega

theorem channel_outs (c : Fin 8) : domFcs (0x18 + c.val) = [] ∧ domVps (0x18 + c.val) = [] := by
  have hc := c.isLt
  exact ⟨if_neg (by omega), if_neg (by omega)⟩

theorem State.flag_put_self {f : Fld} (h : f.lo + f.w ≤ 32) (hw : f.w = 1) : (s.put f 1).flag f = true :=
  State.flag_eq_true (by rw [State.put_fld_self h, hw]; rfl)

theorem selfRef_lt (c : Fin 8) : (selfRef c.val).lo + (selfRef c.val).w ≤ 32 := by
  show 16 + c.val + 1 ≤ 32
  omega

/-- A channel in self-refresh that sleeps alone writes no record. -/
theorem State.sleepDom_q (c : Fin 8) (hg : s.groupOf (0x18 + c.val) = [0x18 + c.val]) (hf : s.flag (selfRef c.val) = true) :
    (s.sleepDom (0x18 + c.val)).q = s.q := by
  have hself : s.selfRefresh (0x18 + c.val) = s := by
    refine if_neg fun hd => ?_
    obtain ⟨-, -, -, hn⟩ := hd
    rw [show (⟨0xB0000, 16 + (0x18 + c.val - 24), 1⟩ : Fld) = selfRef c.val by unfold selfRef; congr 1; omega, hf] at hn
    exact absurd hn (by decide)
  unfold State.sleepDom
  rw [if_neg (by omega), hg]
  show (s.sleepOne (0x18 + c.val)).q = s.q
  unfold State.sleepOne
  rw [hself, (channel_outs c).1, (channel_outs c).2]
  rfl

/-- An idle channel whose group is idle enters self-refresh, and sleeps with the group (R237). -/
theorem selfRefreshEntry_runs {c : Fin 8} (hlive : s.live = true) (hc : s.chServes c.val = true)
    (hown : bitOf s.sup.owned (0x18 + c.val) = false) (hstay : bitOf s.sup.stay (0x18 + c.val) = false)
    (ho : (s.dch c.val).owed = 0) (hf : s.fetchesOn c.val = 0) (hj : s.dram.job = .idle ∨ s.dram.job = .save)
    (hm : s.matesIdle c.val = true) : Runs (.selfRefreshEntry c) s fun t => t.flag (selfRef c.val) = true ∧ t.awake (0x18
    + c.val) = false ∧ t.mem = s.mem ∧ (s.groupOf (0x18 + c.val) = [0x18 + c.val] → s.evRoom 0x15 = true → t.lastRec 8 =
    some (evRec s.tm.tb 0x15 0x04 (c.val + 2 ^ 32 * s.fld F.DRAM_SR_IDLE_US))) := by
  have hidle : s.chIdle c.val = true := by
    unfold State.chIdle
    rw [hc, hown, hstay, decide_eq_true ho, decide_eq_true hf, decide_eq_true hj]
    rfl
  refine ⟨_, if_pos (by rw [hlive, hidle, hm]; rfl), ?_⟩
  have hset : ∀ u : State, (u.put (selfRef c.val) 1).flag (selfRef c.val) = true := fun u =>
    State.flag_put_self (selfRef_lt c) rfl
  refine ⟨State.sleepDom_selfRef c.isLt (by omega) (hset _), State.sleepDom_awake (by omega) (by omega), ?_, fun hg hr => ?_⟩
  · rw [PowerOnly.sleepDom.mem, State.put_mem, State.eventNow_mem]
  · have hgroup : ∀ u : State, OnlyQ evRegs s u → (u.put (selfRef c.val) 1).groupOf (0x18 + c.val) = [0x18 + c.val] := by
      intro u hu
      have hrd : ∀ a, a ≠ 0xB0000 → a ∉ evRegs → (u.put (selfRef c.val) 1).rd a = s.rd a := fun a ha he =>
        (State.put_rd_ne ha).trans (hu.2 a he)
      rw [State.groupOf_congr (s := s) (fun a ha => hrd a (by omega) (notMem_evRegs_high ha)) (hrd _ (by decide) (by decide))
        (hrd _ (by decide) (by decide)), hg]
    show (State.sleepDom _ _).q.evq.recs.getLast? = _
    rw [State.sleepDom_q c (hgroup _ (State.eventNow_only _ _ _ _)) (hset _)]
    exact State.eventNow_lastRec (by decide) hr

/-! ### Exit -/

theorem State.calStart_q (s : State) : s.calStart.q = s.q ∧ s.calStart.tm = s.tm :=
  List.foldlRecOn (motive := fun t : State => t.q = s.q ∧ t.tm = s.tm) _ _ ⟨rfl, rfl⟩ fun t ht n _ => by
    split
    · exact ht
    · exact ht

/-- A channel's domain that is set awake hands no output over, and writes no record. -/
theorem State.setAwake_q (c : Fin 8) : (s.setAwake (0x18 + c.val)).q = s.q ∧ (s.setAwake (0x18 + c.val)).tm = s.tm := by
  obtain ⟨hfc, hvp⟩ := channel_outs c
  have halign : ∀ t : State, t.alignOuts (domFcs (0x18 + c.val)) (domVps (0x18 + c.val)) = t := fun t => by
    rw [hfc, hvp]
    rfl
  unfold State.setAwake
  extract_lets s1 u s2
  have h1 : s1.q = s.q ∧ s1.tm = s.tm := by
    unfold s1 State.wakeOuts
    rw [hfc, hvp]
    exact ⟨rfl, rfl⟩
  have h2 : s2.q = s.q ∧ s2.tm = s.tm := by
    obtain ⟨hq, htm⟩ := State.calStart_q { s1 with sup := { u with waking := putBit u.waking (0x18 + c.val) false } }
    exact ⟨hq.trans h1.1, htm.trans h1.2⟩
  rw [halign, ite_self]
  exact h2

theorem State.leaveSelfRef_flag (c : Fin 8) : (s.leaveSelfRef c.val).flag (selfRef c.val) = false := by
  have hp : PowerOnly domReg ((s.markWaking (0x18 + c.val)).put (selfRef c.val) 0)
      (((s.markWaking (0x18 + c.val)).put (selfRef c.val) 0).setAwake (0x18 + c.val)) := PowerOnly.setAwake
  refine State.flag_eq_false ((State.eventNow_fld (show 0xB0000 ∉ evRegs by decide)).trans ((hp.fld rfl).trans ?_))
  exact (State.put_fld_self (selfRef_lt c)).trans (Nat.zero_mod _)

theorem State.leaveSelfRef_awake (c : Fin 8) : (s.leaveSelfRef c.val).awake (0x18 + c.val) = true :=
  Readied.eventNow.awake _ (by omega) (by rw [State.setAwake_awake (by omega), decide_eq_true rfl, Bool.true_or])

/-- A channel that no group holds leaves self-refresh on its own (R238). -/
theorem selfRefreshExit_alone {c : Fin 8} (hlive : s.live = true) (hself : s.flag (selfRef c.val) = true)
    (hfence : s.fenced c.val = false) (href : s.refOk = true) (hg : s.chGrouped c.val = false) (hp : s.plan.waitPll = false)
    (hb : s.bus = []) (hm : s.fld F.MBX_STAT_BUSY = 0) (hf : s.fld F.FABRIC_STAT_BUSY = 0) (hr : s.mg.rxq = []) :
    Does (.selfRefreshExit c) s fun t => t.flag (selfRef c.val) = false ∧ t.awake (0x18 + c.val) = true
      ∧ t.mem = s.mem ∧ (s.evRoom 0x15 = true → t.lastRec 8 = some (evRec s.tm.tb 0x15 0x04 (c.val + 2 ^ 8))) := by
  have hpow : PowerOnly powReg s (s.leaveSelfRef c.val) := Readied.leaveSelfRef.power.mono fun _ => readyReg_of_powReg
  have he : exec (.selfRefreshExit c) s = .next (s.leaveSelfRef c.val).noteLevels := by
    refine (if_pos (by rw [hlive, hself, hfence, href]; rfl)).trans ?_
    rw [hg, if_neg (by decide), hpow.settle_idle hp hb hm hf hr]
  refine ⟨_, he, State.leaveSelfRef_flag c, State.leaveSelfRef_awake c, hpow.mem, fun hroom => ?_⟩
  obtain ⟨hq, htm⟩ := State.setAwake_q (s := (s.markWaking (0x18 + c.val)).put (selfRef c.val) 0) c
  have h := State.eventNow_lastRec (code := 0x04) (data := c.val + 2 ^ 8) (show 0x15 < 256 by decide)
    ((State.evRoom_congr hq htm).trans hroom)
  rwa [htm] at h

/-- A channel's domain never sleeps for want of use: R237 sleeps it by its own command. -/
theorem State.unused_channel (c : Fin 8) : s.unused (0x18 + c.val) = false := by
  unfold State.unused
  rw [if_neg (by omega), if_neg (by omega), if_neg (by omega), if_neg (by omega), if_neg (by omega), if_neg (by omega)]

/-- A grouped channel leaves self-refresh as its group becomes ready (R24, R238). -/
theorem selfRefreshExit_group {c : Fin 8} (hlive : s.live = true) (hself : s.flag (selfRef c.val) = true)
    (hfence : s.fenced c.val = false) (href : s.fld F.CLK_STAT_REF_VALID = 1) (hg : s.chGrouped c.val = true)
    (hw : bitOf s.sup.waking (0x18 + c.val) = true) (hh : s.wakeHeld (0x18 + c.val) = false) (hp : s.plan.waitPll = false)
    (hb : s.bus = []) (hm : s.fld F.MBX_STAT_BUSY = 0) (hf : s.fld F.FABRIC_STAT_BUSY = 0) (hr : s.mg.rxq = []) :
    Does (.selfRefreshExit c) s fun t => t.flag (selfRef c.val) = false ∧ t.awake (0x18 + c.val) = true ∧ t.mem = s.mem := by
  have hd : 0x18 + c.val < 64 := by omega
  have hok : s.refOk = true := by
    unfold State.refOk
    rw [State.flag_eq_true href, Bool.true_or]
  have hflag : (s.groupUp (0x18 + c.val)).flag (selfRef c.val) = false := by
    refine (State.flag_of_rd (State.domFinish_rd (a := 0xB0000) (by decide))).trans ?_
    exact State.groupUp_through (P := fun t => t.flag (selfRef c.val) = false) hd hw (fun t ht => State.readyOne_selfRef c.isLt ht)
      fun t e hlt ht => (State.readyOne_selfRef_ne c.isLt (by omega)).trans ht
  have hmay : (s.groupUp (0x18 + c.val)).maySleep (0x18 + c.val) = false := by
    unfold State.maySleep
    rw [State.unused_channel c, Bool.and_false]
  have hspare := Spared.groupReady hd hw hh hmay (by omega) (by omega) (.inl href)
  have hpow : PowerOnly powReg s (s.groupReady (0x18 + c.val)) := PowerOnly.groupReady
  have he : exec (.selfRefreshExit c) s = .next (s.groupReady (0x18 + c.val)).noteLevels := by
    refine (if_pos (by rw [hlive, hself, hfence, hok]; rfl)).trans ?_
    rw [hg, if_pos rfl, hpow.settle_idle hp hb hm hf hr]
  exact ⟨_, he, (hspare.selfRef _ c.isLt rfl).trans hflag, hspare.awake.trans (State.groupUp_awake hd hw), hpow.mem⟩

theorem selfRefreshExit_noRef {c : Fin 8} (href : s.refOk = false) : Runs (.selfRefreshExit c) s fun t => t = s :=
  ⟨s, if_neg (by rw [href, Bool.and_false]; decide), rfl⟩

/-- Settles O23: each command of the refresh, of self-refresh and of power-down on its own. -/
theorem refreshes : Obligations.Refreshes := by
  unfold Obligations.Refreshes
  refine ⟨fun _ _ _ => panicEntry_does, fun _ _ _ => panicExit_does, fun _ _ => owedRefresh_runs, fun _ _ => refreshForced_runs,
    fun _ _ _ => freeModeRefresh_issues, fun _ _ _ => freeModeRefresh_owes, fun _ _ _ => dramTempPoll_runs,
    fun _ _ => selfRefreshEntry_runs, fun _ _ => selfRefreshExit_alone, fun _ _ => selfRefreshExit_group,
    fun _ _ _ => selfRefreshExit_noRef, fun _ _ => powerDownEntry_runs⟩

end
end Sys2Proof.Machine
end

section
/-! SUPPORT. NET_CTRL (R246, R247, R249): what a write to it does to the port's fields and to the destinations on its links. -/

namespace Sys2Proof.Machine

/-- The address of a port's NET_CTRL. -/
abbrev ctrlReg (pt : Fin 2) : Nat := 0xE0000 + 0x1000 * pt.val

/-- The destination that a change of port `p`'s links to those of `mode` leaves of `d` (R249). -/
def keptDest (mode p : Nat) (d : Option Dest) : Option Dest :=
  match d with
  | some d => if d.pt = p ∧ linkExists mode d.link = false then none else some d
  | none => none

/-- Destination `i` is cleared where it lies on a link of port `p` that the port does not have. -/
def State.dropDest (s : State) (p i : Nat) : State :=
  match s.dest i with
  | some d => if d.pt = p ∧ !linkExists (s.fld (F.NET_CTRL_MODE p)) d.link then s.setDest i none else s
  | none => s

/-- The state with `b` on the bus. -/
def State.withBus (s : State) (b : List Access) : State := { s with bus := b }

theorem State.withBus_fld (s : State) (b : List Access) (f : Fld) : (s.withBus b).fld f = s.fld f := rfl
theorem State.withBus_mem (s : State) (b : List Access) : (s.withBus b).mem = s.mem := rfl
theorem State.withBus_q (s : State) (b : List Access) : (s.withBus b).q = s.q := rfl
theorem State.withBus_awake (s : State) (b : List Access) (e : Nat) : (s.withBus b).awake e = s.awake e := rfl
theorem State.withBus_netPort (s : State) (b : List Access) (q : Nat) : (s.withBus b).netPort q = s.netPort q := rfl
theorem State.withBus_dest (s : State) (b : List Access) (i : Nat) : (s.withBus b).dest i = s.dest i := rfl

/-- `t` is `s` but for BATON's destinations and BAT_OSTAT. -/
def DestsOnly (s t : State) : Prop :=
  (∃ g b, t = { s with regs := g, bat := { s.bat with dests := b } }) ∧ ∀ a, a ≠ F.BAT_OSTAT_DEST.a → t.rd a = s.rd a

section
variable {s t : State} {p i : Nat}

theorem State.dropDests_eq (s : State) (p : Nat) : s.dropDests p = (List.range 5).foldl (fun t i => t.dropDest p i) s := rfl

theorem State.dropDest_cases (s : State) (p i : Nat) :
    s.dropDest p i = s ∧ keptDest (s.fld (F.NET_CTRL_MODE p)) p (s.dest i) = s.dest i ∨
      s.dropDest p i = s.setDest i none ∧ keptDest (s.fld (F.NET_CTRL_MODE p)) p (s.dest i) = none := by
  unfold State.dropDest keptDest
  cases hd : s.dest i with
  | none => exact .inl ⟨rfl, rfl⟩
  | some d =>
    by_cases h : d.pt = p ∧ linkExists (s.fld (F.NET_CTRL_MODE p)) d.link = false
    · exact .inr ⟨if_pos ⟨h.1, by rw [h.2]; rfl⟩, if_pos h⟩
    · exact .inl ⟨if_neg fun hn => h ⟨hn.1, by simpa using hn.2⟩, if_neg h⟩

theorem State.setDest_dest_self (d : Option Dest) : (s.setDest i d).dest i = d := Sp.get_set_self _ _ _ _

theorem State.setDest_dest_ne {j : Nat} (d : Option Dest) (h : j ≠ i) : (s.setDest i d).dest j = s.dest j := Sp.get_set_ne _ _ _ _ _ h

theorem State.dropDest_dest (s : State) (p i j : Nat) :
    (s.dropDest p i).dest j = if j = i then keptDest (s.fld (F.NET_CTRL_MODE p)) p (s.dest j) else s.dest j := by
  split
  · next h =>
    subst h
    rcases s.dropDest_cases p j with ⟨he, hk⟩ | ⟨he, hk⟩ <;> rw [he, hk]
    exact State.setDest_dest_self none
  · next h =>
    rcases s.dropDest_cases p i with ⟨he, -⟩ | ⟨he, -⟩ <;> rw [he]
    exact State.setDest_dest_ne none h

theorem DestsOnly.refl (s : State) : DestsOnly s s := ⟨⟨_, _, rfl⟩, fun _ _ => rfl⟩

theorem DestsOnly.dropDest (h : DestsOnly s t) : DestsOnly s (t.dropDest p i) := by
  rcases t.dropDest_cases p i with ⟨he, -⟩ | ⟨he, -⟩ <;> rw [he]
  · exact h
  · obtain ⟨⟨g, b, rfl⟩, hrd⟩ := h
    exact ⟨⟨_, _, rfl⟩, fun a ha => (State.put_rd_ne ha).trans (hrd a ha)⟩

theorem DestsOnly.dropDests : DestsOnly s (s.dropDests p) :=
  List.foldlRecOn (motive := fun t => DestsOnly s t) _ _ (DestsOnly.refl s) fun _ ht _ _ => ht.dropDest

theorem DestsOnly.fld (h : DestsOnly s t) {f : Fld} (hf : f.a ≠ F.BAT_OSTAT_DEST.a) : t.fld f = s.fld f := congrArg _ (h.2 _ hf)

theorem ctrlMode_ne (hp : p < 2) : (F.NET_CTRL_MODE p).a ≠ F.BAT_OSTAT_DEST.a := by
  obtain rfl | rfl : p = 0 ∨ p = 1 := by omega
  · decide
  · decide

/-- Every destination of a list is kept where its link exists, and no other changes. -/
theorem State.dropList_dest (hp : p < 2) (l : List Nat) (hl : l.Nodup) (j : Nat) :
    (l.foldl (fun t i => t.dropDest p i) s).dest j =
      if j ∈ l then keptDest (s.fld (F.NET_CTRL_MODE p)) p (s.dest j) else s.dest j := by
  induction l generalizing s with
  | nil => rfl
  | cons i l ih =>
    obtain ⟨hi, hl⟩ := List.nodup_cons.1 hl
    rw [List.foldl_cons, ih hl, ((DestsOnly.refl s).dropDest).fld (ctrlMode_ne hp), State.dropDest_dest]
    by_cases hj : j = i
    · subst hj
      rw [if_neg hi, if_pos rfl, if_pos List.mem_cons_self]
    · simp only [List.mem_cons, hj, false_or, if_false]

theorem State.dropDests_dest (hp : p < 2) {j : Nat} (hj : j < 5) :
    (s.dropDests p).dest j = keptDest (s.fld (F.NET_CTRL_MODE p)) p (s.dest j) := by
  rw [State.dropDests_eq, State.dropList_dest hp _ List.nodup_range, if_pos (List.mem_range.2 hj)]

/-! ### A write to NET_CTRL -/

/-- NET_CTRL's row of the register table: MODE, FC, the priorities and QUANTA are RW with EN. -/
theorem findReg_ctrl (pt : Fin 2) : ∃ r, findReg (ctrlReg pt) = some r ∧ r.buf = 0 ∧ r.rw = 0xFFFF07FF ∧ r.w1c = 0 := by
  fin_cases pt
  · exact ⟨_, rfl, rfl, rfl, rfl⟩
  · exact ⟨_, rfl, rfl, rfl, rfl⟩

/-- Every RW field of NET_CTRL reads after the write as it was written. -/
theorem State.plain_ctrl (pt : Fin 2) {v : Word} {lo w : Nat} (h : RegRow.gives ⟨0, 0, 0, 0, 0, 0, 0xFFFF07FF, 0, 0⟩ lo w = true)
    (hw : lo + w ≤ 32) : getBits lo w ((s.plain (ctrlReg pt) v).rd (ctrlReg pt)) = getBits lo w v := by
  obtain ⟨r, hr, hbuf, hrw, hw1c⟩ := findReg_ctrl pt
  rw [State.plain_rd_self hr hbuf]
  refine getBits_mergeWrite ?_ hw
  unfold RegRow.gives at h ⊢
  rwa [hrw, hw1c]

/-- A write to NET_CTRL that passes every check acts on the port. -/
theorem State.wrote_ctrl (s : State) (pt : Fin 2) (v : Word) (p : Bool) : ∃ b c,
    s.wrote (ctrlReg pt) v p = ((s.withBus b).netCtrl pt.val v).withBus c := by
  fin_cases pt
  · exact ⟨_, _, State.wrote_block (by decide) (by decide +kernel) (by decide) (by decide)⟩
  · exact ⟨_, _, State.wrote_block (by decide) (by decide +kernel) (by decide) (by decide)⟩

/-- The state in which NET_CTRL holds the word written and the destinations follow MODE. -/
def State.ctrlSet (s : State) (pt : Fin 2) (v : Word) : State := (s.plain (ctrlReg pt) v).dropDests pt.val

theorem State.ctrlSet_fld (pt : Fin 2) {v : Word} {f : Fld} (ha : f.a = ctrlReg pt)
    (h : RegRow.gives ⟨0, 0, 0, 0, 0, 0, 0xFFFF07FF, 0, 0⟩ f.lo f.w = true) (hw : f.lo + f.w ≤ 32) :
    (s.ctrlSet pt v).fld f = getBits f.lo f.w v := by
  refine (DestsOnly.dropDests.fld ?_).trans ?_
  · rw [ha]
    show 0xE0000 + 0x1000 * pt.val ≠ 0xD00C0
    omega
  · unfold State.fld
    rw [ha]
    exact State.plain_ctrl pt h hw

theorem State.ctrlSet_rd (pt : Fin 2) {v : Word} {a : Nat} (h : a ≠ ctrlReg pt) (ho : a ≠ F.BAT_OSTAT_DEST.a) :
    (s.ctrlSet pt v).rd a = s.rd a := (DestsOnly.dropDests.2 a ho).trans (State.plain_rd_ne h)

theorem State.ctrlSet_frame (pt : Fin 2) (v : Word) : (s.ctrlSet pt v).mem = s.mem ∧ (s.ctrlSet pt v).q = s.q ∧
    (s.ctrlSet pt v).sup = s.sup ∧ (s.ctrlSet pt v).bat.ports = s.bat.ports := by
  obtain ⟨⟨g, b, h⟩, -⟩ := DestsOnly.dropDests (s := s.plain (ctrlReg pt) v) (p := pt.val)
  unfold State.ctrlSet
  rw [h]
  exact ⟨State.plain_mem _ _ _, State.plain_q _ _ _, State.plain_sup _ _ _, by rw [State.plain_bat]⟩

theorem State.ctrlSet_awake (pt : Fin 2) (v : Word) (e : Nat) : (s.ctrlSet pt v).awake e = s.awake e :=
  State.awake_congr (fun d => State.ctrlSet_rd pt (awakeBit_ne (a := 0xE0000 + 0x1000 * pt.val) (.inl (by omega)) d) (awakeBit_ne (.inl (by decide)) d)) e

theorem noteReg_ctrl (pt : Fin 2) : noteReg (F.NET_CTRL_EN pt.val).a = false := by
  fin_cases pt <;> decide +kernel

theorem sleepReg_ctrl (pt : Fin 2) : sleepReg (F.NET_CTRL_EN pt.val).a = false := by
  fin_cases pt <;> rfl

theorem regDom_ctrl (pt : Fin 2) : regDom (ctrlReg pt) = some (0x20 + pt.val) := by fin_cases pt <;> rfl

/-- A register of a domain that is asleep takes no write. -/
theorem State.takes_awake {pt : Fin 2} {v : Word} {p : Bool} (h : s.takes (ctrlReg pt) v p = true) : s.awake (0x20 + pt.val) = true := by
  simp only [State.takes, Bool.and_eq_true] at h
  obtain ⟨⟨⟨⟨⟨⟨ho, -⟩, -⟩, -⟩, -⟩, -⟩, -⟩ := h
  obtain ⟨-, -, -, -, hawake, -⟩ := State.opens_iff ho
  unfold State.regAsleep at hawake
  rw [regDom_ctrl] at hawake
  by_contra hn
  simp [hn] at hawake

/-- A write that sets EN, or leaves it 0, of a port whose domain is awake leaves it at that. -/
theorem State.netCtrl_off (pt : Fin 2) {v : Word} (hoff : s.fld (F.NET_CTRL_EN pt.val) = 0) (ha : s.awake (0x20 + pt.val) = true) :
    s.netCtrl pt.val v = s.ctrlSet pt v := by
  have hwake : (s.ctrlSet pt v).startWake (0x20 + pt.val) = s.ctrlSet pt v := by
    refine if_pos ?_
    rw [State.ctrlSet_awake, ha, Bool.or_true]
  unfold State.netCtrl
  dsimp only
  rw [State.flag_eq_false hoff, Bool.not_false, Bool.true_and, Bool.false_and, if_neg (by decide : ¬(false = true))]
  split
  · exact hwake
  · rfl

/-- A write to NET_CTRL of a port whose EN is 0 sets its fields and clears destinations, and no more. -/
theorem State.wrote_ctrl_off {pt : Fin 2} {v : Word} {p : Bool} (ht : s.takes (ctrlReg pt) v p = true)
    (hoff : s.fld (F.NET_CTRL_EN pt.val) = 0) : ∃ b c,
    s.wrote (ctrlReg pt) v p = ((s.withBus b).ctrlSet pt v).withBus c := by
  obtain ⟨b, c, h⟩ := s.wrote_ctrl pt v p
  have ha : s.awake (0x20 + pt.val) = true := State.takes_awake ht
  have hu : (s.withBus b).netCtrl pt.val v = (s.withBus b).ctrlSet pt v := State.netCtrl_off pt hoff ha
  exact ⟨b, c, by rw [h, hu]⟩

theorem State.wrote_ctrl_fld {pt : Fin 2} {v : Word} {p : Bool} (ht : s.takes (ctrlReg pt) v p = true)
    (hoff : s.fld (F.NET_CTRL_EN pt.val) = 0) (lo w : Nat)
    (h : RegRow.gives ⟨0, 0, 0, 0, 0, 0, 0xFFFF07FF, 0, 0⟩ lo w = true) (hw : lo + w ≤ 32) :
    (s.wrote (ctrlReg pt) v p).fld ⟨ctrlReg pt, lo, w⟩ = getBits lo w v := by
  obtain ⟨b, c, he⟩ := State.wrote_ctrl_off ht hoff
  rw [he, State.withBus_fld]
  exact State.ctrlSet_fld (s := s.withBus b) pt (f := ⟨ctrlReg pt, lo, w⟩) rfl h hw

/-- Setting EN of an awake port holds the fields written (R247). -/
theorem portEnable_awake {pt : Fin 2} {w : Word} {p : Bool} (ht : s.takes (ctrlReg pt) (setBits 0 1 1 w) p = true)
    (hoff : s.fld (F.NET_CTRL_EN pt.val) = 0) : Does (.portEnable pt w p) s fun t => t.fld (F.NET_CTRL_EN pt.val) = 1 ∧ t.fld
    (F.NET_CTRL_MODE pt.val) = getBits 1 2 w ∧ t.fld (F.NET_CTRL_FC pt.val) = getBits 3 2 w ∧ t.fld (F.NET_CTRL_QUANTA
    pt.val) = getBits 16 16 w ∧ t.mem = s.mem ∧ t.q = s.q := by
  refine ⟨_, congrArg Host.Outcome.next (State.cmdRow_takes (f := F.NET_CTRL_EN pt.val) ht), ?_⟩
  refine ⟨?_, ?_, ?_, ?_, ?_⟩
  · exact (State.wrote_ctrl_fld ht hoff 0 1 rfl (by decide)).trans (getBits_setBits_self 0 1 1 w (by decide))
  · exact (State.wrote_ctrl_fld ht hoff 1 2 rfl (by decide)).trans (getBits_setBits_ne 0 1 1 2 1 w (by decide) (by decide))
  · exact (State.wrote_ctrl_fld ht hoff 3 2 rfl (by decide)).trans (getBits_setBits_ne 0 1 3 2 1 w (by decide) (by decide))
  · exact (State.wrote_ctrl_fld ht hoff 16 16 rfl (by decide)).trans (getBits_setBits_ne 0 1 16 16 1 w (by decide) (by decide))
  · obtain ⟨b, c, he⟩ := State.wrote_ctrl_off ht hoff
    obtain ⟨hmem, hq, -, -⟩ := State.ctrlSet_frame (s := s.withBus b) pt (setBits 0 1 1 w)
    rw [State.withBus_mem] at hmem
    rw [State.withBus_q] at hq
    exact ⟨by rw [he, State.withBus_mem, hmem], by rw [he, State.withBus_q, hq]⟩

/-- A write of a port whose EN is 0 takes MODE, and clears the destinations on links that it does not have (R246, R249). -/
theorem modeChange_off {pt : Fin 2} {w : Word} {p : Bool} (ht : s.takes (ctrlReg pt) (setBits 0 1 0 w) p = true)
    (hoff : s.fld (F.NET_CTRL_EN pt.val) = 0) : Does (.modeChange pt w p) s fun t => t.fld (F.NET_CTRL_EN pt.val) = 0 ∧ t.fld
    (F.NET_CTRL_MODE pt.val) = getBits 1 2 w ∧ t.fld (F.NET_CTRL_FC pt.val) = getBits 3 2 w ∧ t.fld
    (F.NET_CTRL_ING_PRIO pt.val) = getBits 5 3 w ∧ t.fld (F.NET_CTRL_CTRL_PRIO pt.val) = getBits 8 3 w ∧ t.fld (F.NET_CTRL_QUANTA pt.val) =
    getBits 16 16 w ∧
    (∀ i : Fin 5, t.dest i.val = (match s.dest i.val with | some d => if d.pt = pt.val ∧ linkExists (getBits 1 2 w) d.link = false then none else some d | none => none)) := by
  refine ⟨s.wrote (ctrlReg pt) (setBits 0 1 0 w) p, ?_, ?_, ?_, ?_, ?_, ?_, ?_, fun i => ?_⟩
  · show Host.Outcome.next (s.writeRow (ctrlReg pt) (setBits 0 1 (s.fld (F.NET_CTRL_EN pt.val)) w) p) = _
    rw [hoff, State.writeRow_takes ht]
  · exact (State.wrote_ctrl_fld ht hoff 0 1 rfl (by decide)).trans (getBits_setBits_self 0 1 0 w (by decide))
  · exact (State.wrote_ctrl_fld ht hoff 1 2 rfl (by decide)).trans (getBits_setBits_ne 0 1 1 2 0 w (by decide) (by decide))
  · exact (State.wrote_ctrl_fld ht hoff 3 2 rfl (by decide)).trans (getBits_setBits_ne 0 1 3 2 0 w (by decide) (by decide))
  · exact (State.wrote_ctrl_fld ht hoff 5 3 rfl (by decide)).trans (getBits_setBits_ne 0 1 5 3 0 w (by decide) (by decide))
  · exact (State.wrote_ctrl_fld ht hoff 8 3 rfl (by decide)).trans (getBits_setBits_ne 0 1 8 3 0 w (by decide) (by decide))
  · exact (State.wrote_ctrl_fld ht hoff 16 16 rfl (by decide)).trans (getBits_setBits_ne 0 1 16 16 0 w (by decide) (by decide))
  · obtain ⟨b, c, he⟩ := State.wrote_ctrl_off ht hoff
    have hmode : ((s.withBus b).plain (ctrlReg pt) (setBits 0 1 0 w)).fld (F.NET_CTRL_MODE pt.val) = getBits 1 2 w :=
      (State.plain_ctrl pt (lo := 1) (w := 2) rfl (by decide)).trans (getBits_setBits_ne 0 1 1 2 0 w (by decide) (by decide))
    have hdest : ((s.withBus b).plain (ctrlReg pt) (setBits 0 1 0 w)).dest i.val = s.dest i.val := by
      rw [State.dest, State.plain_bat]
      rfl
    have hkept := State.dropDests_dest (s := (s.withBus b).plain (ctrlReg pt) (setBits 0 1 0 w)) pt.isLt i.isLt
    rw [hmode, hdest] at hkept
    rw [he, State.withBus_dest]
    exact hkept

/-! ### A port's wake -/

/-- `t` is `s` but for which domains wake and what the PLL's relock changes: every domain that woke wakes, and the same are awake. -/
structure Marked (s t : State) : Prop where
  power : PowerOnly sleepReg s t
  waking : ∀ e, bitOf s.sup.waking e = true → bitOf t.sup.waking e = true
  awake : ∀ e, t.awake e = s.awake e

theorem Marked.refl (s : State) : Marked s s := ⟨PowerOnly.refl _ s, fun _ h => h, fun _ => rfl⟩

theorem Marked.trans {u : State} (h : Marked s t) (k : Marked t u) : Marked s u :=
  ⟨h.power.trans k.power, fun e he => k.waking e (h.waking e he), fun e => (k.awake e).trans (h.awake e)⟩

theorem Marked.markWaking {d : Nat} : Marked s (s.markWaking d) :=
  ⟨PowerOnly.frame ⟨_, _, _, rfl⟩, fun _ he => State.markWaking_waking (.inr he), fun _ => rfl⟩

theorem Marked.wakePll : Marked s s.wakePll := by
  unfold State.wakePll
  split
  · exact Marked.refl s
  · extract_lets s1 s2
    have h1 : Marked s s1 := Marked.markWaking.trans Marked.markWaking
    have hput : Marked s1 (s1.put F.CLK_STAT_LOCK 0) :=
      ⟨PowerOnly.put rfl, fun _ he => he, State.awake_congr fun d => State.put_rd_ne (awakeBit_ne (.inl (by decide)) d)⟩
    have hframe : ∀ (u : State) x y, x.waking = u.sup.waking → Marked u { u with sup := x, clk := y } := fun u x y hx =>
      ⟨PowerOnly.frame ⟨x, y, u.mir, rfl⟩, fun e he => by rwa [hx], fun _ => rfl⟩
    exact (h1.trans hput).trans (hframe _ _ _ rfl)

theorem Marked.wakeBat {d : Nat} : Marked s (s.wakeBat d) := by
  unfold State.wakeBat
  split
  · exact Marked.markWaking
  · exact Marked.refl s

theorem Marked.wakeBats (l : List Nat) : Marked s (l.foldl (fun t e => t.wakeBat e) s) :=
  List.foldlRecOn (motive := fun t => Marked s t) l _ (Marked.refl s) fun _ ht _ _ => ht.trans Marked.wakeBat

/-- A port among the domains that wake takes PD_BAT with it. -/
theorem State.wakeBats_bat {l : List Nat} {d : Nat} (hd : d ∈ l) (hp : d = 0x20 ∨ d = 0x21) (ha : s.awake 0x22 = false) :
    bitOf (l.foldl (fun t e => t.wakeBat e) s).sup.waking 0x22 = true := by
  induction l generalizing s with
  | nil => cases hd
  | cons e l ih =>
    rcases List.mem_cons.1 hd with rfl | hd
    · have he : s.wakeBat d = s.markWaking 0x22 := if_pos ⟨hp, by rw [ha]; rfl⟩
      refine (Marked.wakeBats l).waking 0x22 ?_
      beta_reduce
      rw [he]
      exact State.markWaking_waking (.inl (State.mem_groupOf (by decide)))
    · exact ih hd ((Marked.wakeBat.awake 0x22).trans ha)

/-- A port's wake marks the port, and PD_BAT where it is asleep. -/
theorem State.startWake_port (pt : Fin 2) (hp : s.domPresent (0x20 + pt.val) = true) (ha : s.awake (0x20 + pt.val) = false) :
    Marked s (s.startWake (0x20 + pt.val)) ∧ bitOf (s.startWake (0x20 + pt.val)).sup.waking (0x20 + pt.val) = true ∧
      (s.awake 0x22 = false → bitOf (s.startWake (0x20 + pt.val)).sup.waking 0x22 = true) := by
  unfold State.startWake
  rw [hp, ha, if_neg (by decide)]
  extract_lets g s1
  have h1 : Marked s s1 := by
    unfold s1
    split
    · exact Marked.wakePll
    · exact Marked.refl s
  have h2 : Marked s (s1.markWaking (0x20 + pt.val)) := h1.trans Marked.markWaking
  refine ⟨h2.trans (Marked.wakeBats g), (Marked.wakeBats g).waking _ ?_, fun hbat => ?_⟩
  · exact State.markWaking_waking (.inl (State.mem_groupOf (by omega)))
  · exact State.wakeBats_bat (State.mem_groupOf (by omega)) (by omega) ((h2.awake _).trans hbat)

/-- Setting EN of a port that is asleep waits on the bus for the port's wake, and PD_BAT wakes with it (R25, R249). -/
theorem portEnable_asleep {pt : Fin 2} {w : Word} {p : Bool} (hlive : s.live = true) (hb : s.bus = []) (hp : s.hasOther pt.val = true)
    (ha : s.awake (0x20 + pt.val) = false) :
    Runs (.portEnable pt w p) s fun t => t.bus = [wrAcc (0xE0000 + 0x1000 * pt.val) (setBits 0 1 1 w) p]
    ∧ bitOf t.sup.waking (0x20 + pt.val) = true ∧ (s.awake 0x22 = false → bitOf t.sup.waking 0x22 = true) ∧ t.fld
    (F.NET_CTRL_EN pt.val) = s.fld (F.NET_CTRL_EN pt.val) := by
  have hpres : s.domPresent (0x20 + pt.val) = true := by
    unfold State.domPresent
    rw [if_neg (by omega), if_neg (by omega), if_neg (by omega), if_neg (by omega), if_pos (by omega), Nat.add_sub_cancel_left]
    exact hp
  have habs : s.regAbsent (ctrlReg pt) = false := by
    unfold State.regAbsent
    rw [regDom_ctrl]
    simp [hpres]
  have hasleep : s.regAsleep (ctrlReg pt) = some (0x20 + pt.val) := by
    unfold State.regAsleep
    rw [regDom_ctrl]
    simp [ha]
  have ht : ({ s with bus := [wrAcc (ctrlReg pt) (setBits 0 1 1 w) p] } : State).tryAccess (wrAcc (ctrlReg pt) (setBits 0 1 1 w) p) =
      ⟨false, false, ({ s with bus := [wrAcc (ctrlReg pt) (setBits 0 1 1 w) p] } : State).accessWake (0x20 + pt.val)⟩ := by
    unfold State.tryAccess
    have hword : ctrlReg pt / 4 * 4 = ctrlReg pt := by
      show (0xE0000 + 0x1000 * pt.val) / 4 * 4 = 0xE0000 + 0x1000 * pt.val
      omega
    simp only [wrAcc, hword, State.setBus_regAbsent, State.setBus_regAsleep, habs, hasleep, Bool.false_eq_true, if_false]
  obtain ⟨hm, hport, hbat⟩ := State.startWake_port (s := s.withBus [wrAcc (ctrlReg pt) (setBits 0 1 1 w) p]) pt hpres ha
  refine ⟨_, congrArg Host.Outcome.next (State.busRow_waits hlive hb ht), ?_⟩
  obtain ⟨o, ho⟩ := (Noted.noteLevels (({ s with bus := [wrAcc (ctrlReg pt) (setBits 0 1 1 w) p] } : State).accessWake (0x20 + pt.val))).sup
  refine ⟨?_, ?_, fun h => ?_, ?_⟩
  · rw [State.noteLevels_bus]
    exact hm.power.bus
  · rw [ho]
    exact hport
  · rw [ho]
    exact hbat h
  · rw [State.noteLevels_fld (noteReg_ctrl pt)]
    exact hm.power.fld (sleepReg_ctrl pt)

end
end Sys2Proof.Machine
end

section
/-! SUPPORT. A port's links (R247): what comes up, what it sends, and what goes down. -/

namespace Sys2Proof.Machine

section
variable {s : State} {p : Nat}

/-- A frame that waits at the port and may be sent. -/
def State.goes (s : State) (p : Nat) (f : TxFrame) : Bool := s.linkUp p f.link && !s.txStopped p f.link f.prio

/-- Frames are sent in their order, and nothing else changes. -/
theorem State.sendAll_eq (l : List TxFrame) :
    l.foldl (fun t f => t.send p f.link f.bytes) s = { s with sent := s.sent ++ l.map fun f => ⟨p, f.link, f.bytes⟩ } := by
  induction l generalizing s with
  | nil => rw [List.map_nil, List.append_nil]; rfl
  | cons f l ih =>
    rw [List.foldl_cons, ih]
    simp only [State.send, List.append_assoc, List.map_cons, List.singleton_append]

/-- What waits for a link and may be sent is sent; the rest waits. -/
theorem State.netFlush_eq (s : State) (p : Nat) : s.netFlush p =
    { s.setPort p { s.netPort p with tx := (s.netPort p).tx.filter fun f => !s.goes p f } with
      sent := s.sent ++ ((s.netPort p).tx.filter fun f => s.goes p f).map fun f => ⟨p, f.link, f.bytes⟩ } :=
  State.sendAll_eq _

theorem State.setPort_netPort (x : Port) : (s.setPort p x).netPort p = x := Sp.get_set_self _ _ _ _

theorem linkField_lt (p : Nat) : (F.NET_STAT_LINK_UP p).lo + (F.NET_STAT_LINK_UP p).w ≤ 32 := Nat.le_of_ble_eq_true rfl

/-- A link's bit is as it was put, and the others are as they were. -/
theorem State.putLink_bit (s : State) (p : Nat) (k j : Fin 4) (b : Bool) :
    bitOf ((s.put (F.NET_STAT_LINK_UP p) (putBit (s.fld (F.NET_STAT_LINK_UP p)) k.val b)).fld (F.NET_STAT_LINK_UP p)) j.val =
      if j = k then b else bitOf (s.fld (F.NET_STAT_LINK_UP p)) j.val := by
  have hj : j.val < 4 := j.isLt
  rw [State.put_fld_self (linkField_lt p)]
  unfold bitOf
  show (_ % 2 ^ 4).testBit j.val = _
  rw [Nat.testBit_mod_two_pow, decide_eq_true hj, Bool.true_and]
  split
  · next h => rw [h, testBit_putBit_self]
  · next h => exact testBit_putBit_ne fun e => h (Fin.ext e.symm)

/-- A link that comes up shows it and sends what waits for it (R247). -/
theorem linkUp_runs {pt : Fin 2} {k : Fin 4} (hlive : s.live = true) (hen : s.fld (F.NET_CTRL_EN pt.val) = 1)
    (hready : s.fld (F.NET_STAT_READY pt.val) = 1) (hlink : linkExists (s.fld (F.NET_CTRL_MODE pt.val)) k.val = true) :
    Runs (.linkUp pt k) s fun t => (∀ j : Fin 4,
    bitOf (t.fld (F.NET_STAT_LINK_UP pt.val)) j.val = (decide (j = k) || bitOf (s.fld (F.NET_STAT_LINK_UP pt.val)) j.val)) ∧
    t.sent = s.sent ++ ((s.netPort pt.val).tx.filter (fun f => t.linkUp pt.val f.link && !s.txStopped pt.val f.link
    f.prio)).map (fun f => ⟨pt.val, f.link, f.bytes⟩) ∧ (t.netPort pt.val).tx = (s.netPort pt.val).tx.filter (fun f =>
    !(t.linkUp pt.val f.link && !s.txStopped pt.val f.link f.prio)) := by
  refine ⟨_, if_pos (by rw [hlive, State.flag_eq_true hen, State.flag_eq_true hready, hlink]; rfl), ?_⟩
  rw [State.netFlush_eq]
  refine ⟨fun j => (State.putLink_bit s pt.val k j true).trans ?_, rfl, ?_⟩
  · by_cases h : j = k
    · rw [if_pos h, decide_eq_true h, Bool.true_or]
    · rw [if_neg h, decide_eq_false h, Bool.false_or]
  · exact congrArg Port.tx (State.setPort_netPort _)

/-- A link that goes down clears its bit, and no more (R247). -/
theorem linkDown_runs {pt : Fin 2} {k : Fin 4} (hlive : s.live = true) : Runs (.linkDown pt k) s fun t => (∀ j : Fin 4, bitOf (t.fld
    (F.NET_STAT_LINK_UP pt.val)) j.val = (!decide (j = k) && bitOf (s.fld (F.NET_STAT_LINK_UP pt.val)) j.val)) ∧ t.bat =
    s.bat ∧ t.sent = s.sent ∧ t.mem = s.mem := by
  refine ⟨_, if_pos hlive, fun j => (State.putLink_bit s pt.val k j false).trans ?_, rfl, rfl, rfl⟩
  by_cases h : j = k
  · rw [if_pos h, decide_eq_true h]
    rfl
  · rw [if_neg h, decide_eq_false h]
    rfl

end
end Sys2Proof.Machine
end

section
/-! SUPPORT. A port and PD_BAT that report ready (R24, R249, R316). -/

namespace Sys2Proof.Machine

section
variable {s t : State} {d e : Nat}

theorem State.noteLevels_awake (s : State) (e : Nat) : s.noteLevels.awake e = s.awake e :=
  State.awake_congr (fun d => State.noteLevels_rd (by rcases awakeBit_a d with h | h <;> rw [h] <;> decide +kernel)) e

/-- The look at the levels moves nothing of the supervisor but OUT_EN. -/
theorem State.noteLevels_sup (s : State) : ∃ b, s.noteLevels.sup = { s.sup with outEn := b } := (Noted.noteLevels s).sup

theorem noteReg_netStat (pt : Fin 2) : noteReg (F.NET_STAT_READY pt.val).a = false := by
  fin_cases pt <;> decide +kernel

theorem readyField_lt (p : Nat) : (F.NET_STAT_READY p).lo + (F.NET_STAT_READY p).w ≤ 32 := Nat.le_of_ble_eq_true rfl

theorem State.portReady_ready (pt : Fin 2) (h : s.awake (0x20 + pt.val) = true ∨ bitOf s.sup.waking (0x20 + pt.val) = true) :
    (s.portReady pt.val).fld (F.NET_STAT_READY pt.val) = 1 ∧ (s.portReady pt.val).awake (0x20 + pt.val) = true := by
  have he : s.portReady pt.val = (s.setAwake (0x20 + pt.val)).raise (F.NET_STAT_READY pt.val) := if_pos (Bool.or_eq_true_iff.2 h)
  rw [he]
  refine ⟨State.raise_fld_self (readyField_lt _), ?_⟩
  refine (State.awake_congr (fun x => State.raise_rd_ne (awakeBit_ne (a := 0xE0004 + 0x1000 * pt.val) (.inl (by omega)) x)) _).trans ?_
  rw [State.setAwake_awake (by omega), decide_eq_true rfl, Bool.true_or]

/-- An awake port that reports ready shows it (R249). -/
theorem portReady_awake {pt : Fin 2} (hlive : s.live = true) (ha : s.awake (0x20 + pt.val) = true) (hp : s.plan.waitPll = false)
    (hb : s.bus = []) (hm : s.fld F.MBX_STAT_BUSY = 0) (hf : s.fld F.FABRIC_STAT_BUSY = 0) (hr : s.mg.rxq = []) :
    Runs (.portReady pt) s fun t => t.fld (F.NET_STAT_READY pt.val) = 1 ∧ t.awake (0x20 + pt.val) = true ∧ t.mem = s.mem := by
  have hpow : PowerOnly powReg s (s.portReady pt.val) := (Readied.portReady pt.isLt).power.mono fun _ => readyReg_of_powReg
  have he : exec (.portReady pt) s = .next (s.portReady pt.val).noteLevels := by
    refine (if_pos hlive).trans ?_
    rw [ha, if_pos rfl, hpow.settle_idle hp hb hm hf hr]
  obtain ⟨hready, hawake⟩ := State.portReady_ready pt (.inl ha)
  refine ⟨_, he, ?_, ?_, ?_⟩
  · rw [State.noteLevels_fld (noteReg_netStat pt), hready]
  · rw [State.noteLevels_awake, hawake]
  · rw [State.noteLevels_mem, hpow.mem]

/-! ### A group with a port or with PD_BAT -/

/-- A domain that is no channel wakes no longer once its group is ready. -/
theorem State.groupUp_waking (hd : d < 64) (hlo : 0x20 ≤ d) (hw : bitOf s.sup.waking d = true) :
    bitOf (s.groupUp d).sup.waking d = false := by
  obtain ⟨j, hj⟩ := State.domFinish_sup ((s.groupOf d).foldl (fun t e => t.readyOne e) s)
  rw [State.groupUp, hj]
  refine State.groupUp_through (P := fun t => bitOf t.sup.waking d = false) hd hw (fun t _ => ?_) fun t e hde ht => ?_
  · rw [State.readyOne_waking_of_le hlo, decide_eq_true rfl]
    rfl
  · rw [State.readyOne_waking_of_le (by omega), ht, Bool.and_false]

/-- A command on a domain that woke ends with its group's readiness. -/
theorem State.groupUp_ends (hd : d < 64) (hw : bitOf s.sup.waking d = true) (hj : s.sup.domJob = some d) :
    (s.groupUp d).sup.domJob = none ∧ (s.groupUp d).fld F.SUP_DOM_CMD_STATUS = stOk ∧ (s.groupUp d).fld F.SUP_DOM_CMD_BUSY = 0 := by
  obtain ⟨w, hsup⟩ := (Readied.readyAll (s := s) (s.groupOf d)).sup
  refine State.domFinish_ends (d := d) (by rw [hsup]; exact hj) ?_
  exact (State.domFinish_awake _ d).symm.trans (State.groupUp_awake hd hw)

/-- A domain after a port leaves the port's status. -/
theorem State.readyOne_stat (pt : Fin 2) (h : 0x20 + pt.val < e) :
    (s.readyOne e).rd (F.NET_STAT_READY pt.val).a = s.rd (F.NET_STAT_READY pt.val).a := by
  have hstat : (F.NET_STAT_READY pt.val).a = 0xE0004 + 0x1000 * pt.val := rfl
  have hdom : domReg (F.NET_STAT_READY pt.val).a = false := by fin_cases pt <;> rfl
  unfold State.readyOne
  split
  · rfl
  · rw [if_neg (by omega)]
    split
    · next hport =>
      unfold State.portReady
      split
      · have hne : (F.NET_STAT_READY pt.val).a ≠ (F.NET_STAT_READY (e - 0x20)).a := by
          show 0xE0004 + 0x1000 * pt.val ≠ 0xE0004 + 0x1000 * (e - 0x20)
          omega
        exact (State.raise_rd_ne hne).trans (PowerOnly.setAwake.2 _ hdom)
      · rfl
    · exact (Woken.joinOuts.rd _ (outReg_of_domReg hdom)).trans (PowerOnly.setAwake.2 _ hdom)

/-- A port that woke shows that it is ready as its group is. -/
theorem State.groupUp_ready (pt : Fin 2) (hw : bitOf s.sup.waking (0x20 + pt.val) = true) :
    (s.groupUp (0x20 + pt.val)).fld (F.NET_STAT_READY pt.val) = 1 := by
  have hne : (F.NET_STAT_READY pt.val).a ≠ 0x120054 := by fin_cases pt <;> decide
  refine (congrArg _ (State.domFinish_rd hne)).trans ?_
  refine State.groupUp_through (P := fun t => t.fld (F.NET_STAT_READY pt.val) = 1) (by omega) hw (fun t ht => ?_) fun t e he ht => ?_
  · have hport : t.readyOne (0x20 + pt.val) = t.portReady pt.val := by
      unfold State.readyOne
      rw [ht, if_neg (by decide), if_neg (by omega), if_pos (by omega), Nat.add_sub_cancel_left]
    rw [hport]
    exact (State.portReady_ready pt (.inr ht)).1
  · exact (congrArg _ (State.readyOne_stat pt he)).trans ht

/-- A port's domain is in use while EN is set. -/
theorem State.unused_port (s : State) (pt : Fin 2) : s.unused (0x20 + pt.val) = !s.flag (F.NET_CTRL_EN pt.val) := by
  unfold State.unused
  rw [if_neg (by omega), if_pos (by omega), Nat.add_sub_cancel_left]

/-- Whether a port may sleep is as it was before its group was ready. -/
theorem State.groupUp_maySleep (pt : Fin 2) : (s.groupUp d).maySleep (0x20 + pt.val) = s.maySleep (0x20 + pt.val) := by
  obtain ⟨w, j, hsup⟩ := s.groupUp_sup d
  have hen : readyReg (F.NET_CTRL_EN pt.val).a = false := by fin_cases pt <;> rfl
  unfold State.maySleep
  rw [State.unused_port, State.unused_port, PowerOnly.groupUp.flag hen, hsup]

/-- Whether PD_BAT is used: a port is awake, or wakes. -/
theorem State.unused_bat (s : State) : s.unused 0x22 = [0x20, 0x21].all fun e => !(s.awake e || bitOf s.sup.waking e) := by
  simp only [Bool.not_or]
  rfl

/-- PD_BAT may not sleep once its group is ready, where it might not before. -/
theorem State.groupUp_maySleep_bat (h : s.maySleep 0x22 = false) : (s.groupUp d).maySleep 0x22 = false := by
  have hup := Readied.readyAll (s := s) (s.groupOf d)
  obtain ⟨w, j, hsup⟩ := s.groupUp_sup d
  obtain ⟨i, hfin⟩ := State.domFinish_sup ((s.groupOf d).foldl (fun t e => t.readyOne e) s)
  have hused : s.unused 0x22 = false → (s.groupUp d).unused 0x22 = false := by
    rw [State.unused_bat, State.unused_bat, List.all_eq_false, List.all_eq_false]
    rintro ⟨e, he, hs⟩
    refine ⟨e, he, ?_⟩
    have hlt : e < 64 := by fin_cases he <;> decide
    rw [State.groupUp, State.domFinish_awake, hfin, Bool.not_eq_true, Bool.not_eq_false']
    exact hup.wakes e hlt (by rwa [Bool.not_eq_true, Bool.not_eq_false'] at hs)
  unfold State.maySleep at h ⊢
  rw [Bool.and_eq_false_iff] at h ⊢
  rw [hsup]
  exact h.imp_right hused

/-- A port that woke, and whose domain stays, reports ready with its group (R24, R249, R316). -/
theorem portReady_wakes {pt : Fin 2} (hlive : s.live = true) (ha : s.awake (0x20 + pt.val) = false)
    (hw : bitOf s.sup.waking (0x20 + pt.val) = true) (hh : s.wakeHeld (0x20 + pt.val) = false)
    (hmay : s.maySleep (0x20 + pt.val) = false) (hp : s.plan.waitPll = false) (hb : s.bus = []) (hm : s.fld F.MBX_STAT_BUSY = 0)
    (hf : s.fld F.FABRIC_STAT_BUSY = 0) (hr : s.mg.rxq = []) : Runs (.portReady pt) s fun t => t.fld
    (F.NET_STAT_READY pt.val) = 1 ∧ t.awake (0x20 + pt.val) = true ∧ bitOf t.sup.waking (0x20 + pt.val) = false ∧
    (s.sup.domJob = some (0x20 + pt.val) → t.sup.domJob = none ∧ t.fld F.SUP_DOM_CMD_STATUS = stOk ∧ t.fld
    F.SUP_DOM_CMD_BUSY = 0) ∧ t.mem = s.mem := by
  have hd : 0x20 + pt.val < 64 := by omega
  have hmay' : (s.groupUp (0x20 + pt.val)).maySleep (0x20 + pt.val) = false := (State.groupUp_maySleep pt).trans hmay
  have hspare := Spared.groupReady hd hw hh hmay' (by omega) (by omega) (.inr (by omega))
  have hsleep : PowerOnly sleepReg (s.groupUp (0x20 + pt.val)) (s.groupReady (0x20 + pt.val)) := by
    rw [State.groupReady_eq hw hh, State.trySleep_stays hd hmay']
    exact PowerOnly.pllIdle
  have hpow : PowerOnly powReg s (s.groupReady (0x20 + pt.val)) := PowerOnly.groupReady
  have he : exec (.portReady pt) s = .next (s.groupReady (0x20 + pt.val)).noteLevels := by
    refine (if_pos hlive).trans ?_
    rw [ha, if_neg (by decide), hpow.settle_idle hp hb hm hf hr]
  have hstat : sleepReg (F.NET_STAT_READY pt.val).a = false := by fin_cases pt <;> rfl
  obtain ⟨b, hsup⟩ := (s.groupReady (0x20 + pt.val)).noteLevels_sup
  refine ⟨_, he, ?_, ?_, ?_, fun hj => ?_, ?_⟩
  · rw [State.noteLevels_fld (noteReg_netStat pt), hsleep.fld hstat, State.groupUp_ready pt hw]
  · rw [State.noteLevels_awake, hspare.awake, State.groupUp_awake hd hw]
  · rw [hsup]
    exact hspare.waking.trans (State.groupUp_waking hd (by omega) hw)
  · obtain ⟨hnone, hok, hbusy⟩ := State.groupUp_ends hd hw hj
    refine ⟨?_, ?_, ?_⟩
    · rw [hsup]
      exact hspare.domJob.trans hnone
    · rw [State.noteLevels_fld (by decide +kernel), hsleep.fld rfl, hok]
    · rw [State.noteLevels_fld (by decide +kernel), hsleep.fld rfl, hbusy]
  · rw [State.noteLevels_mem, hpow.mem]

/-- An awake domain that no group holds sleeps alone where nothing uses it. -/
theorem State.trySleep_alone (hg : s.groupOf d = [d]) (ha : s.awake d = true) (hm : s.maySleep d = true) (h1 : d ≠ 1) (h24 : d ≠ 0x24) :
    s.trySleep d = s.sleepOne d := by
  have hall : [d].all (fun e => !s.awake e || s.maySleep e) = true := by
    rw [List.all_cons, hm, Bool.or_true]
    rfl
  have hlink : ¬[d].contains 0x24 = true := by simpa using Ne.symm h24
  unfold State.trySleep State.sleepDom
  rw [hg, ha, hall, Bool.true_and, if_pos rfl, if_neg hlink, if_neg h1, hg]
  rfl

theorem readyReg_high {a : Nat} (h : 0x150080 ≤ a) : readyReg a = false := by
  simp only [readyReg, domReg, outReg, evRegs, logRegs, Bool.or_eq_false_iff, Bool.and_eq_false_iff, decide_eq_false_iff_not,
    List.contains_eq_mem, List.mem_append, List.mem_cons, List.not_mem_nil, or_false]
  omega

/-- A port that woke alone, and that nothing uses any more, sleeps again (R249, R316). -/
theorem portReady_sleeps {pt : Fin 2} (hlive : s.live = true) (ha : s.awake (0x20 + pt.val) = false)
    (hw : bitOf s.sup.waking (0x20 + pt.val) = true) (hg : s.groupOf (0x20 + pt.val) = [0x20 + pt.val])
    (hmay : s.maySleep (0x20 + pt.val) = true) (hp : s.plan.waitPll = false) (hb : s.bus = []) (hm : s.fld F.MBX_STAT_BUSY = 0)
    (hf : s.fld F.FABRIC_STAT_BUSY = 0) (hr : s.mg.rxq = []) : Runs (.portReady pt) s fun t => t.awake
    (0x20 + pt.val) = false ∧ bitOf t.sup.waking (0x20 + pt.val) = false ∧ t.mem = s.mem := by
  have hd : 0x20 + pt.val < 64 := by omega
  have hh : s.wakeHeld (0x20 + pt.val) = false := by
    unfold State.wakeHeld
    rw [hg]
    simp
    omega
  have hgroup : (s.groupUp (0x20 + pt.val)).groupOf (0x20 + pt.val) = [0x20 + pt.val] :=
    (State.groupOf_congr (fun a ha => PowerOnly.groupUp.2 a (readyReg_high ha)) (PowerOnly.groupUp.2 _ rfl)
      (PowerOnly.groupUp.2 _ rfl) _).trans hg
  have hsleep : s.groupReady (0x20 + pt.val) = ((s.groupUp (0x20 + pt.val)).sleepOne (0x20 + pt.val)).pllIdle := by
    rw [State.groupReady_eq hw hh, State.trySleep_alone hgroup (State.groupUp_awake hd hw) ((State.groupUp_maySleep pt).trans hmay)
      (by omega) (by omega)]
  have hspare : Spared (0x20 + pt.val) ((s.groupUp (0x20 + pt.val)).sleepOne (0x20 + pt.val)) (s.groupReady (0x20 + pt.val)) := by
    rw [hsleep]
    exact Spared.pllIdle hd (by omega) (by omega) (.inr (by omega))
  have hpow : PowerOnly powReg s (s.groupReady (0x20 + pt.val)) := PowerOnly.groupReady
  have he : exec (.portReady pt) s = .next (s.groupReady (0x20 + pt.val)).noteLevels := by
    refine (if_pos hlive).trans ?_
    rw [ha, if_neg (by decide), hpow.settle_idle hp hb hm hf hr]
  obtain ⟨b, hsup⟩ := (s.groupReady (0x20 + pt.val)).noteLevels_sup
  refine ⟨_, he, ?_, ?_, ?_⟩
  · rw [State.noteLevels_awake, hspare.awake, State.sleepOne_awake hd, decide_eq_true rfl]
    rfl
  · rw [hsup]
    refine hspare.waking.trans ?_
    rw [State.sleepOne_sup]
    exact testBit_putBit_self _ _ _
  · rw [State.noteLevels_mem, hpow.mem]

/-- PD_BAT that woke, and whose domain stays, is awake with its group (R24, R316). -/
theorem batonReady_wakes (hlive : s.live = true) (hw : bitOf s.sup.waking 0x22 = true) (hh : s.wakeHeld 0x22 = false)
    (hmay : s.maySleep 0x22 = false) (hp : s.plan.waitPll = false) (hb : s.bus = []) (hm : s.fld F.MBX_STAT_BUSY = 0)
    (hf : s.fld F.FABRIC_STAT_BUSY = 0) (hr : s.mg.rxq = []) : Runs .batonReady s fun t => t.awake 0x22 = true ∧
    bitOf t.sup.waking 0x22 = false ∧ t.mem = s.mem := by
  have hspare := Spared.groupReady (by decide) hw hh (State.groupUp_maySleep_bat hmay) (by decide) (by decide) (.inr (by decide))
  have hpow : PowerOnly powReg s (s.groupReady 0x22) := PowerOnly.groupReady
  have he : exec .batonReady s = .next (s.groupReady 0x22).noteLevels := by
    refine (if_pos hlive).trans ?_
    rw [hpow.settle_idle hp hb hm hf hr]
  obtain ⟨b, hsup⟩ := (s.groupReady 0x22).noteLevels_sup
  refine ⟨_, he, ?_, ?_, ?_⟩
  · rw [State.noteLevels_awake, hspare.awake, State.groupUp_awake (by decide) hw]
  · rw [hsup]
    exact hspare.waking.trans (State.groupUp_waking (by decide) (by decide) hw)
  · rw [State.noteLevels_mem, hpow.mem]

end
end Sys2Proof.Machine
end

section
/-! SUPPORT. What disabling a port leaves (R247, R249, R263): the frames and the acknowledgements that its buffer's end sends, which a
port with EN 0 neither sends nor keeps, and the sleep of its domain. -/

namespace Sys2Proof.Machine

/-- `t` is `s` but for BATON's state, what is sent, free values, queues and the registers of records. -/
def NetOnly (s t : State) : Prop :=
  (∃ g b n q o, t = { s with regs := g, bat := b, free := n, q := q, sent := o }) ∧ ∀ a, a ∉ evRegs → t.rd a = s.rd a

/-- Port `p` holds no ingest data and no frame to send. -/
def State.portEmpty (s : State) (p : Nat) : Prop := (s.netPort p).buf = [] ∧ (s.netPort p).tx = []

/-- A change of BATON that leaves a port with EN 0 empty. -/
structure NetOff (p : Nat) (s t : State) : Prop where
  only : NetOnly s t
  empty : s.flag (F.NET_CTRL_EN p) = false → s.portEmpty p → t.portEmpty p

theorem ctrlEn_notMem {p : Nat} (hp : p < 2) : (F.NET_CTRL_EN p).a ∉ evRegs := by
  obtain rfl | rfl : p = 0 ∨ p = 1 := by omega
  · decide
  · decide

section
variable {p : Nat} {s t u : State}

theorem NetOnly.trans (h : NetOnly s t) (k : NetOnly t u) : NetOnly s u := by
  obtain ⟨⟨_, _, _, _, _, rfl⟩, hr⟩ := h
  obtain ⟨⟨_, _, _, _, _, rfl⟩, kr⟩ := k
  exact ⟨⟨_, _, _, _, _, rfl⟩, fun a ha => (kr a ha).trans (hr a ha)⟩

theorem NetOnly.mem (h : NetOnly s t) : t.mem = s.mem := by obtain ⟨⟨_, _, _, _, _, rfl⟩, -⟩ := h; rfl
theorem NetOnly.sup (h : NetOnly s t) : t.sup = s.sup := by obtain ⟨⟨_, _, _, _, _, rfl⟩, -⟩ := h; rfl

/-- A change of no register. -/
theorem NetOnly.frame (h : ∃ b n o, t = { s with bat := b, free := n, sent := o }) : NetOnly s t := by
  obtain ⟨_, _, _, rfl⟩ := h
  exact ⟨⟨_, _, _, _, _, rfl⟩, fun _ _ => rfl⟩

theorem NetOff.refl (p : Nat) (s : State) : NetOff p s s := ⟨NetOnly.frame ⟨_, _, _, rfl⟩, fun _ h => h⟩

theorem NetOff.trans (hp : p < 2) (h : NetOff p s t) (k : NetOff p t u) : NetOff p s u :=
  ⟨h.only.trans k.only, fun hs he => k.empty ((State.flag_of_rd (h.only.2 _ (ctrlEn_notMem hp))).trans hs) (h.empty hs he)⟩

theorem NetOff.foldl {α : Type} {l : List α} {f : State → α → State} (hp : p < 2) (h : ∀ t, ∀ x ∈ l, NetOff p t (f t x)) :
    NetOff p s (l.foldl f s) :=
  List.foldlRecOn (motive := fun t => NetOff p s t) l f (NetOff.refl p s) fun t ht x hx => ht.trans hp (h t x hx)

theorem NetOff.eventNow {a b c : Nat} : NetOff p s (s.eventNow a b c) := by
  obtain ⟨⟨g, q, n, h⟩, hr⟩ := s.eventNow_only a b c
  refine ⟨⟨⟨_, _, _, _, _, h⟩, hr⟩, fun _ he => ?_⟩
  unfold State.portEmpty State.netPort
  rw [State.eventNow_bat]
  exact he

theorem NetOff.send {k : Nat} {q : Nat} {bs : List Byte} : NetOff p s (s.send q k bs) := ⟨NetOnly.frame ⟨_, _, _, rfl⟩, fun _ h => h⟩

/-- A port's record changes in no buffer. -/
theorem NetOff.setPort {q : Nat} {x : Port} (h : q = p → s.portEmpty p → x.buf = [] ∧ x.tx = []) : NetOff p s (s.setPort q x) := by
  refine ⟨NetOnly.frame ⟨_, _, _, rfl⟩, fun _ he => ?_⟩
  unfold State.portEmpty
  by_cases hq : q = p
  · have hx : (s.setPort q x).netPort p = x := by
      rw [hq]
      exact Sp.get_set_self _ _ _ _
    rw [hx]
    exact h hq he
  · have hx : (s.setPort q x).netPort p = s.netPort p := Sp.get_set_ne _ _ _ _ _ (Ne.symm hq)
    rw [hx]
    exact he

theorem NetOff.setSess {x : Sess} : NetOff p s (s.setSess x) := ⟨NetOnly.frame ⟨_, _, _, rfl⟩, fun _ h => h⟩

/-- A frame for a port with EN 0 is dropped. -/
theorem NetOff.netSend {q k prio : Nat} {bs : List Byte} : NetOff p s (s.netSend q k prio bs) := by
  unfold State.netSend
  by_cases hen : s.flag (F.NET_CTRL_EN q) = false
  · rw [hen, if_pos (by rfl)]
    exact NetOff.refl p s
  · rw [if_neg (by simpa using hen)]
    split
    · exact NetOff.send
    · refine ⟨NetOnly.frame ⟨_, _, _, rfl⟩, fun hs he => ?_⟩
      have hq : q ≠ p := fun hq => hen (hq ▸ hs)
      exact (NetOff.setPort fun h => absurd h hq).empty hs he

theorem NetOff.sendAck0 {y : Sess} {flags status : Nat} (hp : p < 2) : NetOff p s (s.sendAck0 y flags status) := by
  have hack : ∀ k mac ip port bs, NetOff p s (s.ackSend y.pt k mac ip port bs) := by
    intro k mac ip port bs
    unfold State.ackSend
    split
    · have hfree : NetOff p s s.takeFree := ⟨NetOnly.frame ⟨_, _, _, rfl⟩, fun _ h => h⟩
      exact hfree.trans hp NetOff.netSend
    · exact NetOff.refl p s
  exact (hack _ _ _ _ _).trans hp NetOff.setSess

theorem NetOff.sendXoff {q quanta : Nat} (hp : p < 2) : NetOff p s (s.sendXoff q quanta) := by
  unfold State.sendXoff
  split
  · exact NetOff.foldl hp fun _ _ _ => NetOff.send
  · exact NetOff.refl p s

/-- Back-pressure begins and ends without a word for a port with EN 0. -/
theorem NetOff.checkBp {q : Nat} (hp : p < 2) : NetOff p s (s.checkBp q) := by
  have hbp : ∀ b, NetOff p s (s.setPort q { s.netPort q with bp := b }) := fun b =>
    NetOff.setPort fun hq he => by rw [hq]; exact he
  unfold State.checkBp
  dsimp only
  split
  · split
    · exact ((hbp _).trans hp (NetOff.sendXoff hp)).trans hp NetOff.eventNow
    · exact NetOff.refl p s
  · split
    · exact (((hbp _).trans hp (NetOff.sendXoff hp)).trans hp NetOff.eventNow).trans hp
        (NetOff.foldl hp fun _ _ _ => NetOff.sendAck0 hp)
    · exact NetOff.refl p s

theorem NetOff.checkBps (hp : p < 2) : NetOff p s s.checkBps := (NetOff.checkBp hp).trans hp (NetOff.checkBp hp)

/-- Data that is lost leaves the buffers, and nothing enters them. -/
theorem NetOff.loseFrom {key ofs : Nat} (hp : p < 2) : NetOff p s (s.loseFrom key ofs) := by
  unfold State.loseFrom
  split
  · exact NetOff.refl p s
  · next y _ =>
    refine NetOff.trans hp (t := if ofs < y.rx then s.setSess { y with rx := ofs } else s) ?_ ?_
    · split
      · exact NetOff.setSess
      · exact NetOff.refl p s
    · exact NetOff.foldl hp fun t q _ => NetOff.setPort fun hq he => by
        obtain ⟨hbuf, htx⟩ := he
        subst hq
        exact ⟨by rw [hbuf]; rfl, htx⟩

/-! ### Nothing wakes as domains sleep -/

/-- No domain that is asleep is awake afterwards. -/
def Slept (s t : State) : Prop := ∀ e < 64, s.awake e = false → t.awake e = false

theorem Slept.refl (s : State) : Slept s s := fun _ _ h => h

theorem Slept.trans (h : Slept s t) (k : Slept t u) : Slept s u := fun e he hs => k e he (h e he hs)

theorem Slept.ite {c : Prop} [Decidable c] (h : Slept s t) (k : Slept s u) : Slept s (if c then t else u) := by
  split
  · exact h
  · exact k

theorem Slept.foldl {α : Type} {l : List α} {f : State → α → State} (h : ∀ t x, Slept t (f t x)) : Slept s (l.foldl f s) :=
  List.foldlRecOn (motive := fun t => Slept s t) l f (Slept.refl s) fun t ht x _ => ht.trans (h t x)

theorem Slept.same (h : ∀ d, t.rd (awakeBit d).a = s.rd (awakeBit d).a) : Slept s t := fun e _ hs => by rwa [State.awake_congr h e]

theorem Slept.put {f : Fld} {v : Nat} (h : f.a < 0x120058 ∨ 0x12005C < f.a) : Slept s (s.put f v) :=
  Slept.same fun d => State.put_rd_ne (awakeBit_ne h d)

theorem Slept.sleepOne {d : Nat} : Slept s (s.sleepOne d) := fun e he hs => by rw [State.sleepOne_awake he, hs, Bool.and_false]

theorem Slept.sleepPll : Slept s s.sleepPll := by
  have hhold : ∀ u : State, Slept u u.allToHold := fun u =>
    Slept.same fun d => (Woken.restOuts (fun _ => List.mem_range.1) (fun _ => List.mem_range.1)).rd _ (outReg_awakeBit d)
  have htb : ∀ u : State, Slept u u.holdTb := fun u =>
    Slept.ite (((Slept.put (.inl (by decide))).trans (Slept.put (.inl (by decide)))).trans (Slept.put (.inl (by decide)))) (Slept.refl u)
  have hdram : ∀ u : State, Slept u u.dramNoRef := fun u =>
    Slept.ite (Slept.refl u) (Slept.foldl fun _ _ => Slept.ite Slept.sleepOne (Slept.refl _))
  unfold State.sleepPll
  extract_lets s1 s2
  have h1 : Slept s s1 := ((Slept.sleepOne.trans Slept.sleepOne).trans (hhold _)).trans (Slept.put (.inl (by decide)))
  have h2 : Slept s s2 := ((h1.trans (htb _)).trans (Slept.put (.inl (by decide)))).trans (hdram _)
  exact h2.trans (Slept.same fun _ => rfl)

theorem Slept.linkLost : Slept s s.linkLost := by
  have hdrive : ∀ u : State, Slept u u.driveOutEn := fun u =>
    Slept.ite (Slept.refl u) ((Slept.put (.inr (by decide))).trans (Slept.same fun _ => rfl))
  unfold State.linkLost
  refine Slept.ite ?_ (Slept.refl s)
  extract_lets s0 m s1
  have h0 : Slept s s0 := Slept.ite (Slept.refl s) (Slept.put (.inr (by decide)))
  have h1 : Slept s0 s1 := Slept.same fun _ => rfl
  have hput : Slept s1 (((s1.put F.MIR_STAT_LINK_UP 0).put F.MIR_STAT_PAIR pairDown).put F.MIR_STAT_WHY 0) :=
    ((Slept.put (.inr (by decide))).trans (Slept.put (.inr (by decide)))).trans (Slept.put (.inr (by decide)))
  exact (h0.trans (h1.trans hput)).trans (hdrive _)

theorem Slept.trySleep {d : Nat} : Slept s (s.trySleep d) :=
  Slept.ite ((Slept.ite Slept.linkLost (Slept.refl s)).trans
    (Slept.ite Slept.sleepPll (Slept.foldl fun _ _ => Slept.sleepOne))) (Slept.refl s)

/-! ### A port that is disabled -/

/-- The state in which a disabled port shows no link and is not ready, before its domain sleeps. -/
def State.portDown (s : State) (p : Nat) : State :=
  let x := s.netPort p
  let s1 := s.setPort p { x with buf := [], tx := [], paused := [] }
  let s2 := x.buf.foldl (fun t b => t.loseFrom b.skey b.ofs) s1
  ((s2.put (F.NET_STAT_LINK_UP p) 0).put (F.NET_STAT_READY p) 0).checkBps

theorem State.portOff_eq (s : State) (p : Nat) : s.portOff p =
    (({ s.portDown p with sup := { (s.portDown p).sup with stay := putBit (s.portDown p).sup.stay (0x20 + p) false } } : State).trySleep
      (0x20 + p)).trySleep 0x22 := rfl

theorem State.portDown_facts (pt : Fin 2) (hoff : s.flag (F.NET_CTRL_EN pt.val) = false) :
    (s.portDown pt.val).portEmpty pt.val ∧ (s.portDown pt.val).fld (F.NET_STAT_LINK_UP pt.val) = 0 ∧
      (s.portDown pt.val).fld (F.NET_STAT_READY pt.val) = 0 ∧ (s.portDown pt.val).mem = s.mem ∧ (s.portDown pt.val).sup = s.sup ∧
      ∀ a, a ∉ evRegs → a ≠ 0xE0004 + 0x1000 * pt.val → (s.portDown pt.val).rd a = s.rd a := by
  have hstat : ∀ f : Fld, f.a = 0xE0004 + 0x1000 * pt.val → f.a ∉ evRegs := fun f hf => notMem_evRegs (by omega) (by omega)
  have hctrl : ∀ g : Fld, g.a = 0xE0004 + 0x1000 * pt.val → (F.NET_CTRL_EN pt.val).a ≠ g.a := fun g hg => by
    rw [hg]
    show 0xE0000 + 0x1000 * pt.val ≠ _
    omega
  unfold State.portDown
  extract_lets x s1 s2
  have h1 : NetOnly s s1 := NetOnly.frame ⟨_, _, _, rfl⟩
  have he1 : s1.portEmpty pt.val := by
    have hx : s1.netPort pt.val = { x with buf := [], tx := [], paused := [] } := Sp.get_set_self _ _ _ _
    unfold State.portEmpty
    rw [hx]
    exact ⟨rfl, rfl⟩
  have h2 : NetOff pt.val s1 s2 := NetOff.foldl pt.isLt fun _ _ _ => NetOff.loseFrom pt.isLt
  have hoff2 : s2.flag (F.NET_CTRL_EN pt.val) = false := (State.flag_of_rd (h2.only.2 _ (ctrlEn_notMem pt.isLt))).trans hoff
  have he2 : s2.portEmpty pt.val := h2.empty hoff he1
  have h3 : NetOff pt.val ((s2.put (F.NET_STAT_LINK_UP pt.val) 0).put (F.NET_STAT_READY pt.val) 0)
      ((s2.put (F.NET_STAT_LINK_UP pt.val) 0).put (F.NET_STAT_READY pt.val) 0).checkBps := NetOff.checkBps pt.isLt
  have hoff3 : ((s2.put (F.NET_STAT_LINK_UP pt.val) 0).put (F.NET_STAT_READY pt.val) 0).flag (F.NET_CTRL_EN pt.val) = false := by
    refine (State.flag_of_rd ((State.put_rd_ne (hctrl _ rfl)).trans (State.put_rd_ne (hctrl _ rfl)))).trans hoff2
  refine ⟨h3.empty hoff3 he2, ?_, ?_, ?_, ?_, fun a ha hne => ?_⟩
  · refine (congrArg _ (h3.only.2 _ (hstat _ rfl))).trans ?_
    refine (State.put_fld_apart ?_).trans ((State.put_fld_self (Nat.le_of_ble_eq_true rfl)).trans rfl)
    fin_cases pt <;> rfl
  · refine (congrArg _ (h3.only.2 _ (hstat _ rfl))).trans ?_
    exact (State.put_fld_self (Nat.le_of_ble_eq_true rfl)).trans rfl
  · exact h3.only.mem.trans (h2.only.mem.trans h1.mem)
  · exact h3.only.sup.trans (h2.only.sup.trans h1.sup)
  · refine (h3.only.2 a ha).trans (((State.put_rd_ne hne).trans (State.put_rd_ne hne)).trans ?_)
    exact (h2.only.2 a ha).trans (h1.2 a ha)

theorem State.ctrlSet_en (pt : Fin 2) (v : Word) : (s.ctrlSet pt v).fld (F.NET_CTRL_EN pt.val) = getBits 0 1 v :=
  State.ctrlSet_fld pt (f := F.NET_CTRL_EN pt.val) rfl (show RegRow.gives _ 0 1 = true from rfl) (show 0 + 1 ≤ 32 by decide)

/-- A write that clears EN disables the port. -/
theorem State.netCtrl_clears (pt : Fin 2) {v : Word} (hon : s.fld (F.NET_CTRL_EN pt.val) = 1) (hv : getBits 0 1 v = 0) :
    s.netCtrl pt.val v = (s.ctrlSet pt v).portOff pt.val := by
  have hoff : ((s.plain (ctrlReg pt) v).dropDests pt.val).flag (F.NET_CTRL_EN pt.val) = false :=
    State.flag_eq_false ((State.ctrlSet_en pt v).trans hv)
  unfold State.netCtrl State.ctrlSet
  dsimp only
  rw [State.flag_eq_true hon, hoff]
  simp only [Bool.not_true, Bool.false_and, Bool.not_false, Bool.and_true, Bool.false_eq_true, if_false, if_true]

/-- What a domain's disabling leaves of a port once the domain's sleep is tried. -/
theorem PowerOnly.portOff (pt : Fin 2) : PowerOnly sleepReg (s.portDown pt.val) (s.portOff pt.val) := by
  rw [State.portOff_eq]
  exact ((PowerOnly.frame ⟨_, _, _, rfl⟩).trans PowerOnly.trySleep).trans PowerOnly.trySleep

/-- A disabled port that the schedule does not own, and that no group holds, sleeps. -/
theorem State.portOff_sleeps (pt : Fin 2) (hoff : s.flag (F.NET_CTRL_EN pt.val) = false)
    (hown : bitOf s.sup.owned (0x20 + pt.val) = false) (hg : s.groupOf (0x20 + pt.val) = [0x20 + pt.val]) :
    (s.portOff pt.val).awake (0x20 + pt.val) = false := by
  obtain ⟨-, -, -, -, hsup, hrd⟩ := State.portDown_facts pt hoff
  rw [State.portOff_eq]
  refine Slept.trySleep _ (by omega) ?_
  set u : State := { s.portDown pt.val with
    sup := { (s.portDown pt.val).sup with stay := putBit (s.portDown pt.val).sup.stay (0x20 + pt.val) false } } with hu
  have hu_rd : ∀ a, u.rd a = (s.portDown pt.val).rd a := fun _ => rfl
  have hgroup : u.groupOf (0x20 + pt.val) = [0x20 + pt.val] :=
    (State.groupOf_congr (fun a ha => hrd a (notMem_evRegs_high ha) (by omega)) (hrd _ (by decide) (by omega))
      (hrd _ (by decide) (by omega)) _).trans hg
  by_cases ha : u.awake (0x20 + pt.val) = true
  · have hmay : u.maySleep (0x20 + pt.val) = true := by
      have hstay : bitOf u.sup.stay (0x20 + pt.val) = false := testBit_putBit_self _ _ _
      have howned : bitOf u.sup.owned (0x20 + pt.val) = false := by
        show bitOf (s.portDown pt.val).sup.owned _ = false
        rw [hsup, hown]
      have hen : u.flag (F.NET_CTRL_EN pt.val) = false :=
        (State.flag_of_rd (hrd _ (ctrlEn_notMem pt.isLt) (by show 0xE0000 + 0x1000 * pt.val ≠ _; omega))).trans hoff
      unfold State.maySleep
      rw [hstay, howned, State.unused_port, hen]
      rfl
    rw [State.trySleep_alone hgroup ha hmay (by omega) (by omega), State.sleepOne_awake (by omega), decide_eq_true rfl]
    rfl
  · exact Slept.trySleep _ (by omega) (Bool.eq_false_iff.2 ha)

/-- A disabled port shows no link and is not ready, and holds nothing. -/
theorem State.portOff_facts (pt : Fin 2) (hoff : s.flag (F.NET_CTRL_EN pt.val) = false) :
    (s.portOff pt.val).fld (F.NET_CTRL_EN pt.val) = s.fld (F.NET_CTRL_EN pt.val) ∧
      (s.portOff pt.val).fld (F.NET_STAT_LINK_UP pt.val) = 0 ∧ (s.portOff pt.val).fld (F.NET_STAT_READY pt.val) = 0 ∧
      (s.portOff pt.val).portEmpty pt.val ∧ (s.portOff pt.val).mem = s.mem := by
  obtain ⟨hempty, hlink, hready, hmem, -, hrd⟩ := State.portDown_facts pt hoff
  have hpow : PowerOnly sleepReg (s.portDown pt.val) (s.portOff pt.val) := PowerOnly.portOff pt
  have hstat : sleepReg (0xE0004 + 0x1000 * pt.val) = false := by fin_cases pt <;> rfl
  have hen : (s.portDown pt.val).fld (F.NET_CTRL_EN pt.val) = s.fld (F.NET_CTRL_EN pt.val) := by
    unfold State.fld
    rw [hrd _ (ctrlEn_notMem pt.isLt) (by show 0xE0000 + 0x1000 * pt.val ≠ _; omega)]
  refine ⟨(hpow.fld (sleepReg_ctrl pt)).trans hen, (hpow.fld hstat).trans hlink, (hpow.fld hstat).trans hready, ?_,
    hpow.mem.trans hmem⟩
  unfold State.portEmpty State.netPort
  rw [hpow.bat]
  exact hempty

/-- Clearing EN takes the links down, empties the port and puts its domain to sleep (R249, R267, R271). -/
theorem portDisable_off {pt : Fin 2} {w : Word} {p : Bool} (ht : s.takes (ctrlReg pt) (setBits 0 1 0 w) p = true)
    (hon : s.fld (F.NET_CTRL_EN pt.val) = 1) : Does (.portDisable pt w p) s fun t => t.fld (F.NET_CTRL_EN pt.val) = 0 ∧ t.fld
    (F.NET_STAT_LINK_UP pt.val) = 0 ∧ t.fld (F.NET_STAT_READY pt.val) = 0 ∧ (t.netPort pt.val).buf = [] ∧ (t.netPort
    pt.val).tx = [] ∧ (bitOf s.sup.owned (0x20 + pt.val) = false → s.groupOf (0x20 + pt.val) = [0x20 + pt.val] → t.awake
    (0x20 + pt.val) = false) ∧ t.mem = s.mem := by
  refine ⟨s.wrote (ctrlReg pt) (setBits 0 1 0 w) p, congrArg Host.Outcome.next (State.offRow_takes (f := F.NET_CTRL_EN pt.val) ht), ?_⟩
  have hv : getBits 0 1 (setBits 0 1 0 w) = 0 := getBits_setBits_self 0 1 0 w (by decide)
  obtain ⟨b, c, he⟩ := s.wrote_ctrl pt (setBits 0 1 0 w) p
  rw [State.netCtrl_clears (s := s.withBus b) pt hon hv] at he
  set u := (s.withBus b).ctrlSet pt (setBits 0 1 0 w) with hu
  have hen : u.fld (F.NET_CTRL_EN pt.val) = 0 := (State.ctrlSet_en pt _).trans hv
  have hoff : u.flag (F.NET_CTRL_EN pt.val) = false := State.flag_eq_false hen
  obtain ⟨hoffen, hlink, hready, ⟨hbuf, htx⟩, hmem⟩ := State.portOff_facts pt hoff
  obtain ⟨humem, -, husup, -⟩ := State.ctrlSet_frame (s := s.withBus b) pt (setBits 0 1 0 w)
  simp only [he, State.withBus_fld, State.withBus_netPort, State.withBus_awake, State.withBus_mem]
  refine ⟨hoffen.trans hen, hlink, hready, hbuf, htx, fun hown hg => ?_, hmem.trans humem⟩
  refine State.portOff_sleeps pt hoff (by rw [husup]; exact hown) ?_
  have hreg : ∀ a, a ≠ ctrlReg pt → a ≠ 0xD00C0 → u.rd a = s.rd a := fun a ha ho => State.ctrlSet_rd (s := s.withBus b) pt ha ho
  have hctrl : ctrlReg pt < 0x150010 := by
    show 0xE0000 + 0x1000 * pt.val < 0x150010
    omega
  have hch : 0xB0004 ≠ ctrlReg pt := by
    show 0xB0004 ≠ 0xE0000 + 0x1000 * pt.val
    omega
  exact (State.groupOf_congr (fun a ha => hreg a (by omega) (by omega)) (hreg _ (Nat.ne_of_gt hctrl) (by decide))
    (hreg _ hch (by decide)) _).trans hg

/-- Settles O25: each command of a port and of its links on its own. -/
theorem portsAndLinks : Obligations.PortsAndLinks := by
  unfold Obligations.PortsAndLinks
  exact ⟨fun _ _ _ _ => portEnable_awake, fun _ _ _ _ => portEnable_asleep, fun _ _ _ _ => portDisable_off,
    fun _ _ _ _ => modeChange_off, fun _ _ => portReady_awake, fun _ _ => portReady_wakes, fun _ _ => portReady_sleeps,
    fun _ => batonReady_wakes, fun _ _ _ => linkUp_runs, fun _ _ _ => linkDown_runs⟩

end
end Sys2Proof.Machine
end

section
/-! SUPPORT. A state in which the applied fabric image gives MAP_ORDER a value of more than three bits (R301). -/

namespace Sys2Proof.Machine

/-- A fabric image that passed its checks is being applied: record kind 1 alone, of eight bytes, with MAP_ORDER 8 in its third. -/
def State.fabricWide : State :=
  let s := ((State.reset.put F.SUP_STAT_STAGE 9).put F.FABRIC_STAT_BUSY 1).put F.FABRIC_STAT_PHASE 2
  { s with
    sup := { s.sup with por := false }
    fab := [0, 0, 0, 0, 0, 0, 1] ++ List.replicate 57 0 ++
      [5, 0, 0, 0, 80, 0, 0, 0, 8, 0, 0, 0, 0, 0, 0, 0, 0, 0, 8, 0, 0, 0, 0, 0] }

theorem State.fabricWide_premises : State.fabricWide.live = true ∧ State.fabricWide.flag F.FABRIC_STAT_BUSY = true ∧
    State.fabricWide.fld F.FABRIC_STAT_PHASE = 2 ∧ fabByte State.fabricWide.fab 5 2 = 8 := by decide +kernel

/-- MAP_ORDER in the state that a command answers. -/
def mapOrderAfter (o : Host.Outcome State Fault Refusal) : Nat :=
  match o with
  | .next t => t.fld F.DRAM_CFG_MAP_ORDER
  | _ => 0

/-- MAP_ORDER is eight bits wide and takes the image's whole byte. -/
theorem State.fabricWide_applied : mapOrderAfter (exec .fabricApplied State.fabricWide) = 8 := by decide +kernel

/-- Refutes O2: MAP_ORDER is the byte of the image, of which the clause on the applied image keeps three bits. -/
theorem not_cellsAndFabric : ¬ Obligations.CellsAndFabric := by
  unfold Obligations.CellsAndFabric
  rintro ⟨-, -, -, -, -, -, -, -, happly⟩
  obtain ⟨hlive, hbusy, hphase, hbyte⟩ := State.fabricWide_premises
  obtain ⟨t, ht, -, -, -, -, -, -, -, -, horder, -⟩ := happly State.fabricWide hlive hbusy hphase
  have hafter := State.fabricWide_applied
  rw [ht] at hafter
  rw [hbyte] at horder
  exact absurd (hafter.symm.trans horder) (by decide)

end Sys2Proof.Machine
end

section
/-! SUPPORT. A state in which CLK_REF is written while its buffered field RET_POLICY stands in a shadow (R284). -/

namespace Sys2Proof.Machine

section
variable {s : State}

/-- In a pause the look at the levels leaves every register but the pair's as it reads. -/
theorem State.noteLevels_rd_paused {a : Nat} (h : s.fld F.SEQ_STAT_HEAT = 4) (ha : a ≠ F.MIR_STAT_PAIR.a) :
    s.noteLevels.rd a = s.rd a := by
  obtain ⟨e, he⟩ := State.noteLevels_paused h
  rw [he]
  show s.pairEval.rd a = s.rd a
  have hdrive : ∀ t : State, t.driveOutEn.rd a = t.rd a := by
    intro t
    unfold State.driveOutEn
    split
    · rfl
    · exact State.put_rd_ne ha
  unfold State.pairEval
  split
  · rfl
  · have hput : ∀ v w : Nat, ((s.put F.MIR_STAT_PAIR v).put F.MIR_STAT_WHY w).rd a = s.rd a := fun v w =>
      (State.put_rd_ne (f := F.MIR_STAT_WHY) ha).trans (State.put_rd_ne ha)
    exact (hdrive _).trans (hput _ _)

end

/-- A paused heat, with CLK_REF's buffered fields in a shadow. -/
def State.refBuffered : State :=
  let s := (State.reset.put F.SUP_STAT_STAGE 9).put F.SEQ_STAT_HEAT 4
  { s with sup := { s.sup with por := false }, shadow := [(0x10000, some 0)] }

theorem State.refBuffered_premises : State.refBuffered.takes 0x10000 0x10 false = true ∧
    State.refBuffered.fld F.CLK_REF_REF_SEL = getBits 0 2 0x10 := by decide +kernel

/-- RET_POLICY and HEAT in the state that a command answers. -/
def policyAndHeat (o : Host.Outcome State Fault Refusal) : Nat × Nat :=
  match o with
  | .next t => (t.fld F.CLK_REF_RET_POLICY, t.fld F.SEQ_STAT_HEAT)
  | _ => (0, 0)

/-- The write's RET_POLICY, 1, goes to the shadow; the register keeps its 0. -/
theorem State.refBuffered_write : policyAndHeat (exec (.refSelWrite 0x10 false) State.refBuffered) = (0, 4) := by decide +kernel

/-- Refutes O3: RET_POLICY is a buffered field, and the write of a shadowed CLK_REF sets it in the shadow alone, where the clause on an
unchanged REF_SEL asks for it in the register. -/
theorem not_relocksBegin : ¬ Obligations.RelocksBegin := by
  unfold Obligations.RelocksBegin
  rintro ⟨-, -, -, -, hsame, -⟩
  obtain ⟨htakes, hsel⟩ := State.refBuffered_premises
  obtain ⟨t, ht, -, hpolicy, -⟩ := hsame State.refBuffered 0x10 false htakes (Or.inl hsel)
  have hafter := State.refBuffered_write
  rw [ht] at hafter
  have hheat : t.fld F.SEQ_STAT_HEAT = 4 := (State.noteLevels_fld (by decide)).symm.trans (congrArg Prod.snd hafter)
  have hkept : t.noteLevels.fld F.CLK_REF_RET_POLICY = t.fld F.CLK_REF_RET_POLICY :=
    congrArg (getBits _ _) (State.noteLevels_rd_paused hheat (by decide))
  exact absurd ((congrArg Prod.fst hafter).symm.trans (hkept.trans hpolicy)) (by decide)

end Sys2Proof.Machine
end

section
/-! SUPPORT. A state in which nothing keeps the PLL awake as a hop locks (R25, R44). -/

namespace Sys2Proof.Machine

/-- A hop's relock is under way with a good reference, and nothing has taken the PLL. -/
def State.lonePll : State :=
  let s := (State.reset.put F.SUP_STAT_STAGE 9).put F.CLK_STAT_REF_VALID 1
  { s with sup := { s.sup with por := false }, clk := { s.clk with relock := .hop } }

theorem State.lonePll_premises : State.lonePll.live = true ∧ State.lonePll.clk.relock = .hop ∧
    State.lonePll.fld F.CLK_STAT_REF_VALID = 1 ∧ State.lonePll.tm.load = none := by decide +kernel

/-- COUNTING in the state that a command answers. -/
def countingAfter (o : Host.Outcome State Fault Refusal) : Nat :=
  match o with
  | .next t => t.fld F.TB_STAT_COUNTING
  | _ => 1

/-- The PLL goes to sleep at the lock, and the timebase is held. -/
theorem State.lonePll_locks : countingAfter (exec (.hopLock ⟨0, 0, 0, 0⟩) State.lonePll) = 0 := by decide +kernel

/-- Refutes O4: a PLL that nothing keeps awake goes to sleep as its lock is declared, and the timebase does not count, where the clause on
a hop's lock guards LOCK alone by the PLL's stay. -/
theorem not_relocksEnd : ¬ Obligations.RelocksEnd := by
  unfold Obligations.RelocksEnd
  rintro ⟨hlock, -⟩
  obtain ⟨hlive, hhop, href, hload⟩ := State.lonePll_premises
  obtain ⟨t, ht, -, -, hcounts, -⟩ := hlock State.lonePll ⟨0, 0, 0, 0⟩ hlive hhop href hload
  have hafter := State.lonePll_locks
  rw [ht] at hafter
  have hheld : t.fld F.TB_STAT_COUNTING = 0 := (State.noteLevels_fld (by decide)).symm.trans hafter
  exact absurd (hcounts.symm.trans hheld) (by decide)

end Sys2Proof.Machine
end

section
/-! SUPPORT. A state in which the reference returns after less time than COAST_TIME has counted (R50, R51). -/

namespace Sys2Proof.Machine

/-- The coast is being measured, and COAST_TIME has counted one microsecond. -/
def State.coasted : State :=
  let s := (State.reset.put F.SUP_STAT_STAGE 9).put F.CLK_COAST_COAST_TIME 1
  { s with sup := { s.sup with por := false }, clk := { s.clk with measuring := true } }

/-- COAST_TIME in the state that a command answers. -/
def coastTimeAfter (o : Host.Outcome State Fault Refusal) : Nat :=
  match o with
  | .next t => t.fld F.CLK_COAST_COAST_TIME
  | _ => 0

/-- COAST_TIME does not count backwards. -/
theorem State.coasted_refBack : coastTimeAfter (exec (.refBack 0 0 0) State.coasted) = 1 := by decide +kernel

theorem State.coasted_premises : State.coasted.live = true ∧ State.coasted.clk.measuring = true := by decide +kernel

/-- Refutes O5: COAST_TIME keeps the greater of its count and the time that the return reports, where the clause on the return asks for
the latter. -/
theorem not_referenceEvents : ¬ Obligations.ReferenceEvents := by
  unfold Obligations.ReferenceEvents
  rintro ⟨-, -, -, -, hback, -⟩
  obtain ⟨hlive, hmeasuring⟩ := State.coasted_premises
  obtain ⟨t, ht, -, -, -, htime, -⟩ := hback State.coasted 0 0 0 hlive hmeasuring
  have hafter := State.coasted_refBack
  rw [ht] at hafter
  exact absurd (hafter.symm.trans htime) (by decide)

end Sys2Proof.Machine
end

section
/-! SUPPORT. A state in which the look at the levels that ends a retraining also finds EVQ's pointers in disagreement (R294): the fault
record of the mismatch takes LOGQ's last place. -/

namespace Sys2Proof.Machine

/-- A retraining of channel 0 ends as sequencer 0's jump is about to be decided and recorded in an upset EVQ. -/
def State.retrainRace : State := (State.upsetRace.put (retrainBit 0) 1).put F.CLK_STAT_REF_VALID 1

theorem State.retrainRace_premises : State.retrainRace.live = true ∧ State.retrainRace.flag (retrainBit 0) = true ∧
    State.retrainRace.refOk = true ∧ State.retrainRace.plan.waitPll = false ∧ State.retrainRace.fld F.MBX_STAT_BUSY = 0 ∧
    State.retrainRace.fld F.FABRIC_STAT_BUSY = 0 ∧ State.retrainRace.logRoom = true := by decide +kernel

/-- The second word of LOGQ's last record in the state that a command answers. -/
def lastFaultAfter (o : Host.Outcome State Fault Refusal) : Word :=
  match o with
  | .next t => ((t.lastRec 12).getD []).getD 1 0
  | _ => 0

/-- LOGQ's last record is that of the mismatch: source 0x14, code 5 (R294). -/
theorem State.retrainRace_done : lastFaultAfter (exec (.retrainDone 0 true true) State.retrainRace) = 0x05140000#32 := by
  decide +kernel

/-- Refutes O24: the retraining's record enters LOGQ, but the mismatch of EVQ's pointers that ends the row puts its own after it. -/
theorem not_trainingAndFences : ¬ Obligations.TrainingAndFences := by
  unfold Obligations.TrainingAndFences
  rintro ⟨-, -, -, -, hdone, -⟩
  obtain ⟨hlive, hflag, href, hwait, hmbx, hfab, hroom⟩ := State.retrainRace_premises
  obtain ⟨t, ht, -, -, -, -, hlast⟩ := hdone State.retrainRace 0 true hlive hflag href hwait rfl hmbx hfab rfl
  have hafter := State.retrainRace_done
  rw [ht] at hafter
  simp only [lastFaultAfter, hlast hroom] at hafter
  exact absurd hafter (by decide)

end Sys2Proof.Machine
end

section
/-! SUPPORT. The passing of time and a preset of the timebase (R44, R47): what they leave unchanged, and which tick they reach. -/

namespace Sys2Proof.Machine

/-- Time has passed to tick `b`: of the clock and the timebase only the tick, the heat tick and the fed tick have moved; the selectors and
the memories stand, and of the registers all but the outputs' and those a look at the events may change. -/
structure Elapsed (b : Nat) (s t : State) : Prop where
  tm : ∃ h f, t.tm = { s.tm with tb := b, heat := h, fed := f }
  clk : t.clk = s.clk
  sel : t.sel = s.sel
  mem : t.mem = s.mem
  rd : ∀ a, noteReg a = false → outReg a = false → t.rd a = s.rd a

section
variable {s t u : State} {b c : Nat}

theorem Elapsed.trans (h : Elapsed b s t) (k : Elapsed c t u) : Elapsed c s u where
  tm := by
    obtain ⟨_, _, ht⟩ := h.tm
    obtain ⟨_, _, hu⟩ := k.tm
    exact ⟨_, _, by rw [hu, ht]⟩
  clk := k.clk.trans h.clk
  sel := k.sel.trans h.sel
  mem := k.mem.trans h.mem
  rd := fun a hn ho => (k.rd a hn ho).trans (h.rd a hn ho)

theorem Elapsed.tb (h : Elapsed b s t) : t.tm.tb = b := by
  obtain ⟨_, _, ht⟩ := h.tm
  rw [ht]

theorem Elapsed.fld (h : Elapsed b s t) {f : Fld} (hn : noteReg f.a = false) (ho : outReg f.a = false) : t.fld f = s.fld f :=
  congrArg _ (h.rd f.a hn ho)

theorem Elapsed.getSel (h : Elapsed b s t) (n : Nat) : t.getSel n = s.getSel n := by
  unfold State.getSel
  rw [h.sel]

theorem Noted.elapsed (h : Noted s t) : Elapsed s.tm.tb s t :=
  ⟨⟨_, _, h.tm⟩, h.clk, h.sel, h.mem, fun a hn _ => h.rd a hn⟩

/-! ### What stands while time passes -/

theorem Noted.lateNotes (s : State) : Noted s s.lateNotes :=
  Noted.foldl _ _ (fun t n => by
    unfold State.lateNote
    dsimp only
    split
    · exact Noted.refl t
    · split
      · exact Noted.setSq t n _
      · exact Noted.ite _ (Noted.refl t) (Noted.setSq t n _)) s

theorem Noted.mirDrain (s : State) (k : Nat) : Noted s (s.mirDrain k) :=
  Noted.ite _ (Noted.refl s) ((Noted.plain s s.eff s.ev s.fc s.vp s.sq _ s.sent s.sup.outEn).trans
    (Noted.foldl _ _ (fun t _ => (Noted.mirSend t _ _).trans (Noted.mirFrame _ _ _ 0)) _))

theorem Noted.linkTime (s : State) (k h : Nat) : Noted s (s.linkTime k h) :=
  (Noted.mirDrain s k).trans
    (Noted.ite _ (Noted.plain _ _ _ _ _ _ _ _ (s.mirDrain k).sup.outEn) (Noted.refl _))

theorem Noted.holdPreps (s : State) : Noted s s.holdPreps :=
  Noted.ite _ (Noted.foldl _ _ (fun t n => by
    unfold State.holdPrep
    dsimp only
    split
    · exact Noted.ite _ (Noted.refl t) ((Noted.setSq t n _).trans (Noted.prepOuts _ _ _ _))
    · exact Noted.refl t) s) (Noted.refl s)

theorem Elapsed.toTick (s : State) (b : Nat) : Elapsed (max s.tm.tb b) s (s.toTick b) := by
  unfold State.toTick
  split
  · next h => exact ⟨⟨_, _, by rw [Nat.max_eq_right (Nat.le_of_lt h)]⟩, rfl, rfl, rfl, fun _ _ _ => rfl⟩
  · next h => exact ⟨⟨s.tm.heat, s.tm.fed, by rw [Nat.max_eq_left (Nat.not_lt.1 h)]⟩, rfl, rfl, rfl, fun _ _ _ => rfl⟩

/-- Of the timebase's own state the ticks that the channels play move the fed tick alone. -/
theorem State.fineUp_tm (s : State) (b : Nat) : ∃ f, (s.fineUp b).tm = { s.tm with fed := f } := by
  unfold State.fineUp
  split
  · exact ⟨_, rfl⟩
  · split
    · exact ⟨_, rfl⟩
    · extract_lets cs ls ts s1
      have hs1 : s1.tm = s.tm :=
        List.foldlRecOn (motive := fun u : State => u.tm = s.tm) _ _ rfl fun _ hu _ _ =>
          List.foldlRecOn (motive := fun v : State => v.tm = s.tm) _ _ hu fun _ hv _ _ => hv
      exact ⟨b, congrArg (fun m : Tm => { m with fed := b }) hs1⟩

theorem Elapsed.fineNow (s : State) : Elapsed s.tm.tb s s.fineNow where
  tm := (State.fineUp_tm s s.tm.tb).elim fun f hf => ⟨_, f, hf⟩
  clk := by
    obtain ⟨_, _, _, _, _, _, h⟩ := OutsOnly.fineUp (s := s) (t := s.tm.tb)
    rw [State.fineNow, h]
  sel := by
    obtain ⟨_, _, _, _, _, _, h⟩ := OutsOnly.fineUp (s := s) (t := s.tm.tb)
    rw [State.fineNow, h]
  mem := Woken.fineNow.mem
  rd := fun a _ ho => Woken.fineNow.rd a ho

/-- The timebase reaches the tick, if it has not passed it. -/
theorem Elapsed.passTo (s : State) (b : Nat) : Elapsed (max s.tm.tb b) s (s.passTo b) := by
  have hlate : s.lateNotes.tm = s.tm := (Noted.lateNotes s).tm
  have htick : Elapsed (max s.tm.tb b) s (s.lateNotes.toTick b) := by
    have h := (Noted.lateNotes s).elapsed.trans (Elapsed.toTick s.lateNotes b)
    rwa [hlate] at h
  have hlink := htick.trans (Noted.linkTime _ (b - s.tm.tb) s.tm.heat).elapsed
  have hprep := hlink.trans (Noted.holdPreps _).elapsed
  have hfine := hprep.trans (Elapsed.fineNow _)
  rwa [hprep.tb, hlink.tb, htick.tb] at hfine

/-! ### A preset of the timebase -/

/-- `t` is `s` after a preset from `old` to `v`, as far as the memories and the start tick go: of the memories only the tick of the last
cut word has moved, and a start tick keeps its distance (log 1). -/
def Preset (old v : Nat) (s t : State) : Prop :=
  (∃ c, t.mem = { s.mem with pvCut := c }) ∧ t.tm.starter = s.tm.starter.map (fun x => x + v - old)

theorem Preset.shiftTb (s : State) (old v : Nat) : Preset old v s (s.shiftTb old v) := by
  unfold State.shiftTb
  extract_lets
  exact List.foldlRecOn (motive := Preset old v s) _ _
    (List.foldlRecOn (motive := Preset old v s) _ _ ⟨⟨_, rfl⟩, rfl⟩ fun _ ht _ _ => ht) fun _ ht _ _ => ht

theorem Preset.ite {old v : Nat} {p : Prop} [Decidable p] (h : Preset old v s t) (k : Preset old v s u) :
    Preset old v s (if p then t else u) := by
  split
  · exact h
  · exact k

theorem Preset.presetTb (s : State) (v : Nat) : Preset s.tm.tb v s (s.presetTb v) := by
  have hfine : s.fineNow.mem = s.mem ∧ s.fineNow.tm.starter = s.tm.starter := by
    obtain ⟨_, _, htm⟩ := (Elapsed.fineNow s).tm
    exact ⟨(Elapsed.fineNow s).mem, by rw [htm]⟩
  have hshift : Preset s.tm.tb v s (s.fineNow.shiftTb s.tm.tb v) := by
    have h := Preset.shiftTb s.fineNow s.tm.tb v
    unfold Preset at h ⊢
    rwa [hfine.1, hfine.2] at h
  unfold State.presetTb
  extract_lets old s0 s1 s2 a
  have hs1 : Preset s.tm.tb v s s1 := List.foldlRecOn (motive := Preset s.tm.tb v s) _ _ hshift fun t ht n _ =>
    Preset.ite (Preset.ite ht ht) ht
  have hs2 : Preset s.tm.tb v s s2 := List.foldlRecOn (motive := Preset s.tm.tb v s) _ _ hs1 fun t ht n _ => Preset.ite ht ht
  clear_value s2
  exact hs2

theorem State.getSel_lt (s : State) (n : Nat) : s.getSel n < 2 ^ 64 := BitVec.isLt _

/-- A preset to what a selector holds reaches it. -/
theorem State.presetTb_tb (s t : State) (n : Nat) : (t.presetTb (s.getSel n)).tm.tb = s.getSel n := Nat.mod_eq_of_lt (s.getSel_lt n)

/-! ### The start tick -/

/-- The state of the start tick: its time has come, and no edge is pending. -/
def State.atStart (s : State) (x : Nat) : State := { s.passTo x with tm := { (s.passTo x).tm with starter := none } }

theorem State.atStart_facts (s : State) (x : Nat) : (s.atStart x).tm.tb = max s.tm.tb x ∧ (s.atStart x).tm.starter = none ∧
    (s.atStart x).getSel 0x0401 = s.getSel 0x0401 ∧ (s.atStart x).fld F.TB_CTRL_ARM = s.fld F.TB_CTRL_ARM :=
  have h := Elapsed.passTo s x
  ⟨h.tb, rfl, h.getSel 0x0401, h.fld (by decide) (by decide)⟩

/-- At the start tick an armed timebase takes TB_PRESET, before the strobes. -/
theorem State.startTick_armed {x : Nat} (h : s.tm.starter = some x) (ha : s.fld F.TB_CTRL_ARM = 1) :
    Noted (((s.atStart x).presetTb (s.getSel 0x0401)).put F.TB_CTRL_ARM 0) s.startTick := by
  obtain ⟨-, -, hsel, harm⟩ := s.atStart_facts x
  have hflag : (s.atStart x).flag F.TB_CTRL_ARM = true := State.flag_eq_true (harm.trans ha)
  rw [← hsel]
  unfold State.startTick
  rw [h]
  show Noted _ (State.strobes (if (s.atStart x).flag F.TB_CTRL_ARM then _ else _) _)
  rw [if_pos hflag]
  exact Noted.strobesAt _ _ _

/-- One that is not armed counts on. -/
theorem State.startTick_unarmed {x : Nat} (h : s.tm.starter = some x) (ha : s.fld F.TB_CTRL_ARM = 0) :
    Noted (s.atStart x) s.startTick := by
  obtain ⟨-, -, -, harm⟩ := s.atStart_facts x
  have hflag : ¬ (s.atStart x).flag F.TB_CTRL_ARM = true := by rw [State.flag_eq_false (harm.trans ha)]; decide
  unfold State.startTick
  rw [h]
  show Noted _ (State.strobes (if (s.atStart x).flag F.TB_CTRL_ARM then _ else _) _)
  rw [if_neg hflag]
  exact Noted.strobesAt _ _ _

/-- START_TICK runs in a counting timebase (R47). -/
theorem startTick_row (hl : s.live = true) (hc : s.fld F.TB_STAT_COUNTING = 1) : exec .startTick s = .next s.startTick.noteLevels :=
  if_pos (by rw [hl, State.flag_eq_true hc]; rfl)

theorem startTick_presets {x : Nat} (hl : s.live = true) (hc : s.fld F.TB_STAT_COUNTING = 1) (h : s.tm.starter = some x)
    (ha : s.fld F.TB_CTRL_ARM = 1) :
    Runs .startTick s fun t => t.tm.tb = s.getSel 0x0401 ∧ t.fld F.TB_CTRL_ARM = 0 ∧ t.tm.starter = none := by
  refine ⟨_, startTick_row hl hc, ?_⟩
  have hnote := (State.startTick_armed h ha).trans (Noted.noteLevels _)
  have harm : noteReg F.TB_CTRL_ARM.a = false := by decide
  have htb : ((s.atStart x).presetTb (s.getSel 0x0401)).tm.tb = s.getSel 0x0401 := s.presetTb_tb _ _
  have hstarter : ((s.atStart x).presetTb (s.getSel 0x0401)).tm.starter = none := (Preset.presetTb (s.atStart x) _).2
  exact ⟨(congrArg Tm.tb hnote.tm).trans htb,
    (congrArg (getBits _ _) (hnote.rd _ harm)).trans (State.put_fld_self (f := F.TB_CTRL_ARM) (by decide)),
    (congrArg Tm.starter hnote.tm).trans hstarter⟩

theorem startTick_counts {x : Nat} (hl : s.live = true) (hc : s.fld F.TB_STAT_COUNTING = 1) (h : s.tm.starter = some x)
    (ha : s.fld F.TB_CTRL_ARM = 0) : Runs .startTick s fun t => t.tm.tb = max s.tm.tb x ∧ t.tm.starter = none := by
  refine ⟨_, startTick_row hl hc, ?_⟩
  have hnote := (State.startTick_unarmed h ha).trans (Noted.noteLevels _)
  obtain ⟨htb, hstarter, -, -⟩ := s.atStart_facts x
  exact ⟨(congrArg Tm.tb hnote.tm).trans htb, (congrArg Tm.starter hnote.tm).trans hstarter⟩

/-! ### LOAD_NOW -/

/-- The state in which LOAD_NOW acts: the access stands on the bus, and TB_CTRL holds its other fields. -/
def State.tbSet (s : State) (b : List Access) (v : Word) : State := (s.withBus b).plain F.TB_CTRL_LOAD_NOW.a v

theorem State.anyActive_congr (h : ∀ n, t.sqState n = s.sqState n) : t.anyActive = s.anyActive := by
  simp only [State.anyActive, State.sqActive, h]

/-- A write to TB_CTRL changes no other register, and nothing of time, the selectors or the memories. -/
theorem State.tbSet_facts (s : State) (b : List Access) (v : Word) : (s.tbSet b v).tm = s.tm ∧ (s.tbSet b v).mem = s.mem ∧
    (s.tbSet b v).getSel 0x0401 = s.getSel 0x0401 ∧ (s.tbSet b v).anyActive = s.anyActive ∧
    (s.tbSet b v).fld F.TB_STAT_COUNTING = s.fld F.TB_STAT_COUNTING := by
  have hstate : ∀ n, (s.tbSet b v).sqState n = s.sqState n := fun n =>
    State.plain_fld_ne (s := s.withBus b) (f := F.SQ_STAT_STATE n) (by
      show 0x20100 + 0x40 * n ≠ 0x10100
      omega)
  have hsel : (s.tbSet b v).sel = s.sel := State.plain_sel (s.withBus b) _ _
  exact ⟨State.plain_tm (s.withBus b) _ _, State.plain_mem (s.withBus b) _ _, by unfold State.getSel; rw [hsel],
    State.anyActive_congr hstate, State.plain_fld_ne (s := s.withBus b) (by decide)⟩

theorem State.clkWrite_loadNow {v : Word} (hb : s.clkBusy = false) (h : cmdBits [1] v = [1]) :
    s.clkWrite F.TB_CTRL_LOAD_NOW.a v = (s.plain F.TB_CTRL_LOAD_NOW.a v).loadNowCmd := by
  show State.command _ _ s.clkBusy _ _ _ = _
  rw [hb, State.command_one h]

/-- LOAD_NOW acts on the timebase where no clock command executes, and the bus is free again. -/
theorem State.wrote_loadNow {v : Word} {p : Bool} (hb : s.clkBusy = false) (h : cmdBits [1] v = [1]) :
    ∃ b c, s.wrote F.TB_CTRL_LOAD_NOW.a v p = (s.tbSet b v).loadNowCmd.withBus c := by
  have hrun := State.clkWrite_loadNow (s := s.withBus [wrAcc F.TB_CTRL_LOAD_NOW.a v p]) hb h
  exact ⟨_, _, (State.wrote_block (by decide) (by decide +kernel) (by decide) (by decide)).trans
    (congrArg (fun t : State => t.withBus (t.bus.drop 1)) hrun)⟩

theorem loadNow_row {w : Word} {p : Bool} (ho : s.orders F.TB_CTRL_LOAD_NOW [1] w p = true) (hb : s.clkBusy = false) :
    ∃ b v c, exec (.loadNow w p) s = .next (((s.tbSet b v).loadNowCmd.withBus c).noteLevels) := by
  unfold State.orders at ho
  obtain ⟨htakes, hbits⟩ := (Bool.and_eq_true _ _).mp ho
  obtain ⟨b, c, hwrote⟩ := State.wrote_loadNow (p := p) hb (of_decide_eq_true hbits)
  have hcmd : s.cmdRow F.TB_CTRL_LOAD_NOW w p = _ := State.cmdRow_takes htakes
  rw [hwrote] at hcmd
  exact ⟨b, _, c, congrArg Host.Outcome.next hcmd⟩

theorem State.loadNowCmd_counts (ha : s.anyActive = false) (hc : s.fld F.TB_STAT_COUNTING = 1) :
    s.loadNowCmd = (((s.passTo (s.tm.tb + 1)).presetTb (s.getSel 0x0401)).noteLevels).clkStatus stOk := by
  have hcount : s.flag F.TB_STAT_COUNTING = true := State.flag_eq_true hc
  unfold State.loadNowCmd State.advance
  simp [ha, hcount]

theorem State.loadNowCmd_held (ha : s.anyActive = false) (hc : s.fld F.TB_STAT_COUNTING = 0) :
    s.loadNowCmd = ({ s with tm := { s.tm with load := some (s.getSel 0x0401) } } : State).clkStatus stOk := by
  have hcount : s.flag F.TB_STAT_COUNTING = false := State.flag_eq_false hc
  unfold State.loadNowCmd
  simp [ha, hcount]

/-- A clock command's status stands through the look at the levels. -/
theorem State.clkStatus_fld (s : State) (c : List Access) :
    ((s.clkStatus stOk).withBus c).noteLevels.fld F.CLK_STAT_CMD_STATUS = stOk :=
  (State.noteLevels_fld (by decide)).trans (State.put_fld_self (s := s) (by decide))

theorem loadNow_presets {w : Word} {p : Bool} (ho : s.orders F.TB_CTRL_LOAD_NOW [1] w p = true) (hb : s.clkBusy = false)
    (ha : s.anyActive = false) (hc : s.fld F.TB_STAT_COUNTING = 1) : Runs (.loadNow w p) s fun t => t.tm.tb = s.getSel 0x0401 ∧
    t.fld F.CLK_STAT_CMD_STATUS = stOk ∧ t.mem.dram = s.mem.dram ∧ t.mem.track = s.mem.track ∧ t.mem.course = s.mem.course ∧
    t.mem.dir = s.mem.dir ∧ t.mem.prof = s.mem.prof ∧ t.mem.pv = s.mem.pv ∧ t.mem.otp = s.mem.otp ∧ t.mem.flash =
    s.mem.flash := by
  obtain ⟨b, v, c, hrow⟩ := loadNow_row ho hb
  obtain ⟨-, hmem, hsel, hactive, hcount⟩ := s.tbSet_facts b v
  rw [State.loadNowCmd_counts (hactive.trans ha) (hcount.trans hc), hsel] at hrow
  set u := (s.tbSet b v).passTo ((s.tbSet b v).tm.tb + 1) with hu
  have hpass : Elapsed _ (s.tbSet b v) u := Elapsed.passTo _ _
  obtain ⟨k, hcut⟩ := (Preset.presetTb u (s.getSel 0x0401)).1
  have hafter : (((u.presetTb (s.getSel 0x0401)).noteLevels.clkStatus stOk).withBus c).noteLevels.mem =
      { s.mem with pvCut := k } := by
    rw [State.noteLevels_mem, ← hmem, ← hpass.mem]
    exact (State.noteLevels_mem _).trans hcut
  refine ⟨_, hrow, ?_, State.clkStatus_fld _ c, ?_⟩
  · rw [State.noteLevels_tm]
    exact (congrArg Tm.tb (State.noteLevels_tm _)).trans (s.presetTb_tb u 0x0401)
  · rw [hafter]
    exact ⟨rfl, rfl, rfl, rfl, rfl, rfl, rfl, rfl⟩

theorem loadNow_waits {w : Word} {p : Bool} (ho : s.orders F.TB_CTRL_LOAD_NOW [1] w p = true) (hb : s.clkBusy = false)
    (ha : s.anyActive = false) (hc : s.fld F.TB_STAT_COUNTING = 0) : Runs (.loadNow w p) s fun t => t.tm =
    { s.tm with load := some (s.getSel 0x0401) } ∧ t.fld F.CLK_STAT_CMD_STATUS = stOk ∧ t.mem = s.mem := by
  obtain ⟨b, v, c, hrow⟩ := loadNow_row ho hb
  obtain ⟨htm, hmem, hsel, hactive, hcount⟩ := s.tbSet_facts b v
  rw [State.loadNowCmd_held (hactive.trans ha) (hcount.trans hc), hsel, htm] at hrow
  exact ⟨_, hrow, State.noteLevels_tm _, State.clkStatus_fld _ c, (State.noteLevels_mem _).trans hmem⟩

end

end Sys2Proof.Machine
end

section
/-! SUPPORT. The edges of STARTER (R47, R285, R333–R336): the registers and the record of an edge, the start tick it fixes, and the
grid's slip. -/

namespace Sys2Proof.Machine

section
variable {s u : State} {c phase ref x : Nat}

/-! ### The capture of an edge -/

/-- The registers that show an edge captured in tick `c`. -/
def State.edgeShown (u : State) (c phase ref : Nat) : State :=
  (((u.put F.SYNC_START_REF_PHASE ref).put F.TB_STAT_START_PHASE phase).raise F.TB_STAT_STARTER_SEEN).setSel 0x0402 c

/-- An edge captured in tick `c`, with its record, fixes the start tick `x` and what waits for it. -/
def State.edgeNoted (u : State) (c phase ref x : Nat) : State :=
  let s3 := (u.edgeShown c phase ref).event (evRec c 0x12 0x01 (phase + 2 ^ 16 * (x % 2 ^ 48)))
  { s3 with tm := { s3.tm with
      starter := some x,
      startAt := if s3.tm.startWait then some x else s3.tm.startAt,
      startWait := false,
      resAt := if s3.tm.resWait then some x else s3.tm.resAt,
      resWait := false } }

/-- An edge while none is pending is noted with the start tick and the slip that it asks for. -/
theorem State.starterEdge_none (h : s.tm.starter = none) : s.starterEdge phase ref =
    (s.starterAim phase ref).2.edgeNoted s.tm.tb phase ref (s.starterAim phase ref).1 := by
  have hnone : ¬ s.tm.starter.isSome = true := by rw [h]; decide
  unfold State.starterEdge
  rw [h]
  exact if_neg hnone

/-- An edge while one is pending sets STARTER_EXTRA (R47). -/
theorem State.starterEdge_some (h : s.tm.starter = some x) (hx : s.tm.tb < x) :
    s.starterEdge phase ref = s.raise F.TB_STAT_STARTER_EXTRA := by
  unfold State.starterEdge
  simp only [h, if_neg (Nat.not_le.2 hx)]
  exact if_pos rfl

theorem State.edgeShown_tm (u : State) : (u.edgeShown c phase ref).tm = u.tm := rfl

theorem State.edgeShown_q (u : State) : (u.edgeShown c phase ref).q = u.q := rfl

/-- The record of an edge changes only EVQ's registers and those of faults. -/
theorem State.edgeNoted_shown {f : Fld} (h : f.a ∉ evRegs) :
    (u.edgeNoted c phase ref x).fld f = (u.edgeShown c phase ref).fld f := by
  have hregs : (u.edgeNoted c phase ref x).regs =
      ((u.edgeShown c phase ref).event (evRec c 0x12 0x01 (phase + 2 ^ 16 * (x % 2 ^ 48)))).regs := rfl
  unfold State.fld State.rd
  rw [hregs]
  exact congrArg (getBits f.lo f.w) (State.event_rd h)

/-- Every register field that no edge writes stands as an edge is noted. -/
theorem State.edgeNoted_fld {f : Fld} (he : f.a ∉ evRegs) (hr : f.apart F.SYNC_START_REF_PHASE = true)
    (hp : f.apart F.TB_STAT_START_PHASE = true) (hs : f.apart F.TB_STAT_STARTER_SEEN = true) :
    (u.edgeNoted c phase ref x).fld f = u.fld f := by
  rw [State.edgeNoted_shown he, State.edgeShown, State.setSel_fld, State.raise_fld_apart hs, State.put_fld_apart hp,
    State.put_fld_apart hr]

theorem State.edgeNoted_refPhase (u : State) : (u.edgeNoted c phase ref x).fld F.SYNC_START_REF_PHASE = ref % 2 ^ 14 := by
  rw [State.edgeNoted_shown (by decide), State.edgeShown, State.setSel_fld, State.raise_fld_apart (by decide),
    State.put_fld_apart (by decide), State.put_fld_self (by decide)]

theorem State.edgeNoted_startPhase (u : State) : (u.edgeNoted c phase ref x).fld F.TB_STAT_START_PHASE = phase % 2 ^ 9 := by
  rw [State.edgeNoted_shown (by decide), State.edgeShown, State.setSel_fld, State.raise_fld_apart (by decide),
    State.put_fld_self (by decide)]

theorem State.edgeNoted_seen (u : State) : (u.edgeNoted c phase ref x).fld F.TB_STAT_STARTER_SEEN = 1 := by
  rw [State.edgeNoted_shown (by decide), State.edgeShown, State.setSel_fld]
  exact State.raise_fld_self (by decide)

/-- The tick of the edge is what the mailbox reads (R289). -/
theorem State.edgeNoted_tick (u : State) : (u.edgeNoted c phase ref x).getSel 0x0402 = c % 2 ^ 64 := by
  have hsel : (u.edgeNoted c phase ref x).sel = (u.edgeShown c phase ref).sel := State.event_sel _ _
  unfold State.getSel
  rw [hsel]
  exact State.setSel_getSel_self _ 0x0402 c

theorem State.edgeNoted_tb (u : State) : (u.edgeNoted c phase ref x).tm.tb = u.tm.tb := by
  show (State.event _ _).tm.tb = _
  rw [State.event_tm, State.edgeShown_tm]

theorem State.edgeNoted_startAt (h : u.tm.startWait = true) : (u.edgeNoted c phase ref x).tm.startAt = some x := by
  have hwait : ((u.edgeShown c phase ref).event (evRec c 0x12 0x01 (phase + 2 ^ 16 * (x % 2 ^ 48)))).tm.startWait = true := by
    rw [State.event_tm, State.edgeShown_tm, h]
  exact if_pos hwait

/-- The record of the edge is EVQ's last, where it finds room. -/
theorem State.edgeNoted_lastRec (h : u.evRoom 0x12 = true) : (u.edgeNoted c phase ref x).lastRec 8 =
    some (evRec c 0x12 0x01 (phase + 2 ^ 16 * (x % 2 ^ 48))) := by
  have hsrc : evSource (evRec c 0x12 0x01 (phase + 2 ^ 16 * (x % 2 ^ 48))) = 0x12 := by
    simp only [evSource, evRec, List.getD_cons_succ, List.getD_cons_zero, BitVec.toNat_ofNat]
    omega
  have hroom : (u.edgeShown c phase ref).evRoom (evSource (evRec c 0x12 0x01 (phase + 2 ^ 16 * (x % 2 ^ 48)))) = true := by
    rw [hsrc, State.evRoom_congr (State.edgeShown_q u) (State.edgeShown_tm u), h]
  show ((u.edgeShown c phase ref).event _).q.evq.recs.getLast? = _
  rw [State.event_room hroom, List.getLast?_concat]

/-! ### The start tick that an edge fixes -/

/-- Without GRID or ARM the start is the first aligned boundary at least 16 ticks later (R47). -/
theorem State.starterAim_first (h : s.fld F.SYNC_CTRL_GRID = 0 ∨ s.fld F.TB_CTRL_ARM = 0) : s.starterAim phase ref =
    (firstAligned s.clk.lockN (s.fld F.TB_STAT_TB_ALIGN) (s.tm.tb + 16), s.put F.SYNC_START_SLIP 0) := by
  have hoff : ¬ (s.flag F.SYNC_CTRL_GRID && s.flag F.TB_CTRL_ARM) = true := by
    rcases h with h | h
    · rw [State.flag_eq_false h, Bool.false_and]; decide
    · rw [State.flag_eq_false h, Bool.and_false]; decide
  exact if_neg hoff

section
variable (hg : s.fld F.SYNC_CTRL_GRID = 1) (ha : s.fld F.TB_CTRL_ARM = 1)
include hg ha

theorem State.gridArmed : (s.flag F.SYNC_CTRL_GRID && s.flag F.TB_CTRL_ARM) = true := by
  rw [State.flag_eq_true hg, State.flag_eq_true ha]
  rfl

/-- With an aligned boundary at E_s + R_s the start is that boundary (R334). -/
theorem State.starterAim_grid (h0 : gridSlip s.clk.lockN (s.fld F.TB_STAT_TB_ALIGN) s.tm.tb phase ref = 0) :
    s.starterAim phase ref = (gridNear s.clk.lockN (s.fld F.TB_STAT_TB_ALIGN) (gridTime s.clk.lockN s.tm.tb phase ref
      (gridWait s.clk.lockN)), s.put F.SYNC_START_SLIP 0) :=
  (if_pos (State.gridArmed hg ha)).trans (if_pos h0)

/-- Outputs at rest allow the slip that brings a boundary there (R335). -/
theorem State.starterAim_slips (h0 : gridSlip s.clk.lockN (s.fld F.TB_STAT_TB_ALIGN) s.tm.tb phase ref ≠ 0) (hr : s.allAtRest = true) :
    s.starterAim phase ref = (gridNear s.clk.lockN (s.fld F.TB_STAT_TB_ALIGN) (gridTime s.clk.lockN s.tm.tb phase ref
      (gridWait s.clk.lockN - gridSlip s.clk.lockN (s.fld F.TB_STAT_TB_ALIGN) s.tm.tb phase ref)),
      ((s.allToHold.outsBack).put F.SYNC_START_SLIP (gridSlip s.clk.lockN (s.fld F.TB_STAT_TB_ALIGN) s.tm.tb phase ref)).bump
        F.SYNC_CNT_SLIP_COUNT) :=
  (if_pos (State.gridArmed hg ha)).trans ((if_neg h0).trans (if_pos hr))

/-- An output that is not at rest allows none: the grid is missed (R336). -/
theorem State.starterAim_misses (h0 : gridSlip s.clk.lockN (s.fld F.TB_STAT_TB_ALIGN) s.tm.tb phase ref ≠ 0) (hr : s.allAtRest = false) :
    s.starterAim phase ref = (firstAligned s.clk.lockN (s.fld F.TB_STAT_TB_ALIGN) ((gridTime s.clk.lockN s.tm.tb phase ref
      (gridWait s.clk.lockN) + 319999) / 320000), (s.put F.SYNC_START_SLIP 0).raise F.SYNC_STAT_GRID_MISS) :=
  (if_pos (State.gridArmed hg ha)).trans ((if_neg h0).trans (if_neg (by rw [hr]; decide)))

end

/-! ### The slip -/

/-- A slip is less than 32 reference periods: the aligned period has no more. -/
theorem gridSlip_lt (n align c phase ref : Nat) : gridSlip n align c phase ref < 32 := by
  have hrefs : alignRefs n ≤ 32 := Nat.div_le_self 32 _
  refine List.foldlRecOn (motive := fun b : Nat => b < 32) _ _ (by decide) fun b hb p hp => ?_
  split
  · exact Nat.lt_of_lt_of_le (List.mem_range.1 hp) hrefs
  · exact hb

/-- A slip of the grid changes the outputs' registers alone. -/
theorem Woken.slip (s : State) : Woken outReg s s.allToHold.outsBack :=
  (Woken.restOuts (fun _ hn => List.mem_range.1 hn) (fun _ hn => List.mem_range.1 hn)).trans
    (Woken.foldl fun _ _ _ => Woken.ite Woken.handOver (Woken.refl _ _))

theorem State.slip_fld {f : Fld} (h : outReg f.a = false) : s.allToHold.outsBack.fld f = s.fld f :=
  congrArg (getBits _ _) ((Woken.slip s).rd f.a h)

/-! ### STARTER_EDGE -/

theorem starterEdge_row {m : Bool} (ph : BitVec 9) (r : BitVec 14) (hl : s.live = true) (hc : s.fld F.TB_STAT_COUNTING = 1) :
    exec (.starterEdge ph r m) s = .next (s.starterEdge ph.toNat (r.toNat + 10000 * b2n m)) :=
  if_pos (by rw [hl, State.flag_eq_true hc]; rfl)

/-- The row of an edge while none is pending. -/
theorem starterEdge_noted {m : Bool} {ph : BitVec 9} {r : BitVec 14} {y : Nat} (hl : s.live = true)
    (hc : s.fld F.TB_STAT_COUNTING = 1) (hn : s.tm.starter = none) (haim : s.starterAim ph.toNat (r.toNat + 10000 * b2n m) = (y, u)) :
    exec (.starterEdge ph r m) s = .next (u.edgeNoted s.tm.tb ph.toNat (r.toNat + 10000 * b2n m) y) := by
  rw [starterEdge_row ph r hl hc, State.starterEdge_none hn, haim]

theorem starterEdge_first {m : Bool} {ph : BitVec 9} {r : BitVec 14} (hl : s.live = true) (hc : s.fld F.TB_STAT_COUNTING = 1)
    (hn : s.tm.starter = none) (ht : s.tm.tb < 2 ^ 64) (h : s.fld F.SYNC_CTRL_GRID = 0 ∨ s.fld F.TB_CTRL_ARM = 0) :
    Runs (.starterEdge ph r m) s fun t =>
    t.tm.starter = some (firstAligned s.clk.lockN (s.fld F.TB_STAT_TB_ALIGN) (s.tm.tb + 16)) ∧ t.fld F.TB_STAT_STARTER_SEEN
    = 1 ∧ t.fld F.TB_STAT_START_PHASE = ph.toNat ∧ t.getSel 0x0402 = s.tm.tb ∧ t.tm.tb = s.tm.tb ∧ (s.tm.startWait = true →
    t.tm.startAt = t.tm.starter) ∧ (s.evRoom 0x12 = true → t.lastRec 8 = some (evRec s.tm.tb 0x12 0x01 (ph.toNat + 2 ^ 16 *
    (firstAligned s.clk.lockN (s.fld F.TB_STAT_TB_ALIGN) (s.tm.tb + 16) % 2 ^ 48)))) := by
  have hroom : s.evRoom 0x12 = true → (s.put F.SYNC_START_SLIP 0).evRoom 0x12 = true := (State.evRoom_congr rfl rfl).trans
  exact ⟨_, starterEdge_noted hl hc hn (State.starterAim_first h), rfl, State.edgeNoted_seen _,
    (State.edgeNoted_startPhase _).trans (Nat.mod_eq_of_lt ph.isLt), (State.edgeNoted_tick _).trans (Nat.mod_eq_of_lt ht),
    State.edgeNoted_tb _, fun hwait => State.edgeNoted_startAt hwait, fun h => State.edgeNoted_lastRec (hroom h)⟩

theorem starterEdge_grid {m : Bool} {ph : BitVec 9} {r : BitVec 14} (hl : s.live = true) (hc : s.fld F.TB_STAT_COUNTING = 1)
    (hn : s.tm.starter = none) (hg : s.fld F.SYNC_CTRL_GRID = 1) (ha : s.fld F.TB_CTRL_ARM = 1) (h0 : gridSlip s.clk.lockN (s.fld
    F.TB_STAT_TB_ALIGN) s.tm.tb ph.toNat (r.toNat + 10000 * b2n m) = 0) : Runs (.starterEdge ph r m) s fun t =>
    t.tm.starter = some (gridNear s.clk.lockN
    (s.fld F.TB_STAT_TB_ALIGN) (gridTime s.clk.lockN s.tm.tb ph.toNat (r.toNat + 10000 * b2n m) (gridWait s.clk.lockN))) ∧
    t.fld F.TB_STAT_STARTER_SEEN = 1 ∧ t.fld F.SYNC_START_SLIP = 0 ∧ t.fld F.SYNC_START_REF_PHASE = (r.toNat + 10000 * b2n
    m) % 2 ^ 14 :=
  ⟨_, starterEdge_noted hl hc hn (State.starterAim_grid hg ha h0), rfl, State.edgeNoted_seen _,
    (State.edgeNoted_fld (by decide) (by decide) (by decide) (by decide)).trans (State.put_fld_self (by decide)),
    State.edgeNoted_refPhase _⟩

theorem starterEdge_slips {m : Bool} {ph : BitVec 9} {r : BitVec 14} {k : Nat} (hl : s.live = true)
    (hc : s.fld F.TB_STAT_COUNTING = 1) (hn : s.tm.starter = none) (hg : s.fld F.SYNC_CTRL_GRID = 1) (ha : s.fld F.TB_CTRL_ARM = 1)
    (hk : gridSlip s.clk.lockN (s.fld F.TB_STAT_TB_ALIGN) s.tm.tb ph.toNat (r.toNat + 10000 * b2n m) = k) (h0 : k ≠ 0)
    (hr : s.allAtRest = true) : Runs (.starterEdge ph
    r m) s fun t => t.tm.starter = some (gridNear s.clk.lockN (s.fld F.TB_STAT_TB_ALIGN) (gridTime s.clk.lockN s.tm.tb
    ph.toNat (r.toNat + 10000 * b2n m) (gridWait s.clk.lockN - k))) ∧ t.fld F.SYNC_START_SLIP = k ∧ t.fld
    F.SYNC_CNT_SLIP_COUNT = min (s.fld F.SYNC_CNT_SLIP_COUNT + 1) 65535 ∧ t.fld F.SYNC_STAT_GRID_MISS = s.fld
    F.SYNC_STAT_GRID_MISS := by
  subst hk
  refine ⟨_, starterEdge_noted hl hc hn (State.starterAim_slips hg ha h0 hr), rfl, ?_, ?_, ?_⟩
  · rw [State.edgeNoted_fld (by decide) (by decide) (by decide) (by decide), State.bump_fld_apart (by decide),
      State.put_fld_self (by decide)]
    exact Nat.mod_eq_of_lt (gridSlip_lt _ _ _ _ _)
  · rw [State.edgeNoted_fld (by decide) (by decide) (by decide) (by decide), State.bump_fld_self (by decide),
      State.put_fld_apart (by decide), State.slip_fld (by decide)]
    rfl
  · rw [State.edgeNoted_fld (by decide) (by decide) (by decide) (by decide), State.bump_fld_apart (by decide),
      State.put_fld_apart (by decide), State.slip_fld (by decide)]

theorem starterEdge_misses {m : Bool} {ph : BitVec 9} {r : BitVec 14} (hl : s.live = true) (hc : s.fld F.TB_STAT_COUNTING = 1)
    (hn : s.tm.starter = none) (hg : s.fld F.SYNC_CTRL_GRID = 1) (ha : s.fld F.TB_CTRL_ARM = 1) (h0 : gridSlip s.clk.lockN (s.fld
    F.TB_STAT_TB_ALIGN) s.tm.tb ph.toNat (r.toNat + 10000 * b2n m) ≠ 0) (hr : s.allAtRest = false) :
    Runs (.starterEdge ph r m) s fun t => t.tm.starter = some
    (firstAligned s.clk.lockN (s.fld F.TB_STAT_TB_ALIGN) (((gridTime s.clk.lockN s.tm.tb ph.toNat (r.toNat + 10000 * b2n m)
    (gridWait s.clk.lockN)) + 319999) / 320000)) ∧ t.fld F.SYNC_STAT_GRID_MISS = 1 ∧ t.fld F.SYNC_START_SLIP = 0 ∧ t.fld
    F.SYNC_CNT_SLIP_COUNT = s.fld F.SYNC_CNT_SLIP_COUNT := by
  refine ⟨_, starterEdge_noted hl hc hn (State.starterAim_misses hg ha h0 hr), rfl, ?_, ?_, ?_⟩
  · rw [State.edgeNoted_fld (by decide) (by decide) (by decide) (by decide)]
    exact State.raise_fld_self (by decide)
  · rw [State.edgeNoted_fld (by decide) (by decide) (by decide) (by decide), State.raise_fld_apart (by decide)]
    exact State.put_fld_self (by decide)
  · rw [State.edgeNoted_fld (by decide) (by decide) (by decide) (by decide), State.raise_fld_apart (by decide),
      State.put_fld_apart (by decide)]

theorem starterEdge_extra {m : Bool} {ph : BitVec 9} {r : BitVec 14} (hl : s.live = true) (hc : s.fld F.TB_STAT_COUNTING = 1)
    (h : s.tm.starter = some x) (hx : s.tm.tb < x) : Runs (.starterEdge ph r m) s fun t =>
    t.fld F.TB_STAT_STARTER_EXTRA = 1 ∧ t.tm = s.tm ∧ t.q = s.q :=
  ⟨_, (starterEdge_row ph r hl hc).trans (congrArg Host.Outcome.next (State.starterEdge_some h hx)),
    State.raise_fld_self (by decide), rfl, rfl⟩

end

/-- Settles O6: each case of an edge, the start tick with ARM and without, and LOAD_NOW of a timebase that counts and of one that is
held. -/
theorem startTicks : Obligations.StartTicks := by
  unfold Obligations.StartTicks
  exact ⟨fun _ _ _ _ => starterEdge_first, fun _ _ _ _ => starterEdge_grid, fun _ _ _ _ _ => starterEdge_slips,
    fun _ _ _ _ => starterEdge_misses, fun _ _ _ _ _ => starterEdge_extra, fun _ _ => startTick_presets,
    fun _ _ => startTick_counts, fun _ _ _ => loadNow_presets, fun _ _ _ => loadNow_waits⟩

end Sys2Proof.Machine
end

section
/-! SUPPORT. The course window and the directory window (R62, R76, R80, R81): the state in which a command of theirs acts, what each
command makes of it, and what stands after the look at the levels. -/

namespace Sys2Proof.Machine

section
variable {s t : State} {a b n k : Nat} {v w : Word} {p : Bool}

/-! ### Words written side by side -/

/-- `n` registers side by side from `b` take the words of `g`. -/
def State.wrWords (s : State) (b n : Nat) (g : Nat → Word) : State :=
  (List.range n).foldl (fun t i => t.wr (b + 4 * i) (g i)) s

theorem State.wrWords_succ (s : State) (b n : Nat) (g : Nat → Word) :
    s.wrWords b (n + 1) g = (s.wrWords b n g).wr (b + 4 * n) (g n) := by
  simp only [State.wrWords, List.range_succ, List.foldl_append, List.foldl_cons, List.foldl_nil]

/-- A register outside the block keeps its word. -/
theorem State.wrWords_rd_ne {g : Nat → Word} (h : ∀ i < n, a ≠ b + 4 * i) : (s.wrWords b n g).rd a = s.rd a := by
  induction n with
  | zero => rfl
  | succ n ih =>
    rw [State.wrWords_succ, State.wr_rd_ne (h n n.lt_succ_self)]
    exact ih fun i hi => h i (Nat.lt_succ_of_lt hi)

theorem State.wrWords_rd {g : Nat → Word} {i : Nat} (hi : i < n) : (s.wrWords b n g).rd (b + 4 * i) = g i := by
  induction n with
  | zero => exact absurd hi i.not_lt_zero
  | succ n ih =>
    rw [State.wrWords_succ]
    by_cases h : i = n
    · rw [h, State.wr_rd_self]
    · rw [State.wr_rd_ne (by omega)]
      exact ih (by omega)

theorem State.wrWords_mem (s : State) (b n : Nat) (g : Nat → Word) : (s.wrWords b n g).mem = s.mem := by
  induction n with
  | zero => rfl
  | succ n ih => rw [State.wrWords_succ, State.wr_mem, ih]

theorem State.wrWords_fld {g : Nat → Word} {f : Fld} (h : ∀ i < n, f.a ≠ b + 4 * i) : (s.wrWords b n g).fld f = s.fld f :=
  congrArg (getBits _ _) (State.wrWords_rd_ne h)

/-- The first `n` words of entry `e` of SQk's course take the words of `g`. -/
def State.setEntry (s : State) (k e n : Nat) (g : Nat → Word) : State :=
  (List.range n).foldl (fun t i => t.setCrs k e i (g i)) s

theorem State.setEntry_succ (s : State) (k e n : Nat) (g : Nat → Word) :
    s.setEntry k e (n + 1) g = (s.setEntry k e n g).setCrs k e n (g n) := by
  simp only [State.setEntry, List.range_succ, List.foldl_append, List.foldl_cons, List.foldl_nil]

/-- Of the memories only the courses change, and no register. -/
theorem State.setEntry_only (s : State) (k e n : Nat) (g : Nat → Word) :
    ∃ c, s.setEntry k e n g = { s with mem := { s.mem with course := c } } := by
  induction n with
  | zero => exact ⟨_, rfl⟩
  | succ n ih =>
    obtain ⟨c, hc⟩ := ih
    rw [State.setEntry_succ, hc]
    exact ⟨_, rfl⟩

theorem State.setEntry_crsWord {g : Nat → Word} {e i : Nat} (hi : i < n) : (s.setEntry k e n g).crsWord k e i = g i := by
  induction n with
  | zero => exact absurd hi i.not_lt_zero
  | succ n ih =>
    rw [State.setEntry_succ]
    by_cases h : i = n
    · rw [h]
      exact Sp.get_set_self _ _ _ _
    · exact (Sp.get_set_ne _ _ _ _ _ (by omega)).trans (ih (by omega))

/-! ### The course window -/

/-- Word `i` of the selected entry as CRS_CMD.READ shows it: zero beyond the course's count (R81). -/
def State.crsShown (s : State) (i : Nat) : Word :=
  if s.fld F.CRS_SEL_ENTRY < s.crsCount (s.fld F.CRS_SEL_SQ) then s.crsWord (s.fld F.CRS_SEL_SQ) (s.fld F.CRS_SEL_ENTRY) i else 0

theorem State.crsRead_eq (s : State) : s.crsRead = ((s.wrWords 0x28004 8 s.crsShown).crsNext).put F.CRS_CMD_STATUS stOk := rfl

/-- The state in which a command of the course window acts: the access stands on the bus, and AUTO_INC holds its value. -/
def State.crsSet (s : State) (c : List Access) (v : Word) : State := (s.withBus c).plain F.CRS_CMD_READ.a v

theorem State.crsSet_rd {c : List Access} (h : a ≠ F.CRS_CMD_READ.a) : (s.crsSet c v).rd a = s.rd a :=
  State.plain_rd_ne (s := s.withBus c) h

theorem State.crsSet_fld {c : List Access} {f : Fld} (h : f.a ≠ F.CRS_CMD_READ.a) : (s.crsSet c v).fld f = s.fld f :=
  congrArg (getBits _ _) (State.crsSet_rd h)

theorem State.crsSet_mem (s : State) (c : List Access) (v : Word) : (s.crsSet c v).mem = s.mem := State.plain_mem (s.withBus c) _ _

theorem State.crsSet_plan (s : State) (c : List Access) (v : Word) : (s.crsSet c v).plan = s.plan := State.plain_plan (s.withBus c) _ _

theorem crsCmd_row : findReg 0x28024 = some ⟨0x28024, 16777216, 1, 4, 1, 0x0, 0x4, 0x0, 0x0⟩ := by decide

theorem State.crsSet_autoInc (s : State) (c : List Access) (v : Word) : (s.crsSet c v).fld F.CRS_CMD_AUTO_INC = getBits 2 1 v := by
  refine (congrArg (getBits 2 1) (State.plain_rd_self (s := s.withBus c) crsCmd_row rfl)).trans ?_
  exact getBits_mergeWrite (by decide) (by decide)

theorem State.crsWord_congr (h : t.mem = s.mem) (n e w : Nat) : t.crsWord n e w = s.crsWord n e w := by
  unfold State.crsWord
  rw [h]

theorem State.crsCount_congr (h : t.plan = s.plan) (n : Nat) : t.crsCount n = s.crsCount n := by
  unfold State.crsCount
  rw [h]

theorem entryOf_congr {g h : Nat → Word} (e : ∀ i < 8, g i = h i) : entryOf g = entryOf h := by
  simp only [entryOf, e 0 (by decide), e 1 (by decide), e 2 (by decide), e 3 (by decide), e 4 (by decide), e 5 (by decide),
    e 6 (by decide)]

/-- The checks of a write depend on no field of CRS_CMD. -/
theorem State.crsSet_crsCheck (s : State) (c : List Access) (v : Word) : (s.crsSet c v).crsCheck = s.crsCheck := by
  have hd : ∀ i < 8, (s.crsSet c v).crsD i = s.crsD i := fun i hi => State.crsSet_rd (by
    show 0x28004 + 4 * i ≠ 0x28024
    omega)
  have hentry := entryOf_congr hd
  have hstate : (s.crsSet c v).sqActive (s.fld F.CRS_SEL_SQ) = s.sqActive (s.fld F.CRS_SEL_SQ) := by
    unfold State.sqActive State.sqState
    rw [State.crsSet_fld (by show 0x20100 + 0x40 * _ ≠ 0x28024; have := s.fld_lt F.CRS_SEL_SQ; simp only at this; omega)]
  have hrouted : (s.crsSet c v).evRouted (entryOf s.crsD).jevt (s.fld F.CRS_SEL_SQ) =
      s.evRouted (entryOf s.crsD).jevt (s.fld F.CRS_SEL_SQ) := by
    unfold State.evRouted
    rw [State.crsSet_fld (by simp only; omega)]
  have hreserved : entryReserved (s.crsSet c v).crsD = entryReserved s.crsD := by
    simp only [entryReserved, hentry, hd 6 (by decide), hd 7 (by decide)]
  have hfree : ((List.range 8).any fun i => ((s.crsSet c v).crsD i ^^^ s.crsWord (s.fld F.CRS_SEL_SQ) (s.fld F.CRS_SEL_ENTRY) i) &&&
      ~~~ crsFree i ≠ 0) = (List.range 8).any fun i => (s.crsD i ^^^ s.crsWord (s.fld F.CRS_SEL_SQ) (s.fld F.CRS_SEL_ENTRY) i) &&&
      ~~~ crsFree i ≠ 0 := by
    rw [Bool.eq_iff_iff, List.any_eq_true, List.any_eq_true]
    exact exists_congr fun i => and_congr_right fun hi => by rw [hd i (List.mem_range.1 hi)]
  unfold State.crsCheck State.flag
  simp only [State.crsSet_fld (s := s) (c := c) (v := v) (f := F.CRS_SEL_SQ) (by decide),
    State.crsSet_fld (s := s) (c := c) (v := v) (f := F.CRS_SEL_ENTRY) (by decide),
    State.crsSet_fld (s := s) (c := c) (v := v) (f := F.PLAN_STAT_PRESENT) (by decide), hstate, hentry, hreserved,
    State.crsCount_congr (s.crsSet_plan c v), State.crsWord_congr (s.crsSet_mem c v), hrouted, hfree]

theorem State.crsSet_crsShown (s : State) (c : List Access) (v : Word) (i : Nat) : (s.crsSet c v).crsShown i = s.crsShown i := by
  simp only [State.crsShown, State.crsSet_fld (s := s) (c := c) (v := v) (f := F.CRS_SEL_SQ) (by decide),
    State.crsSet_fld (s := s) (c := c) (v := v) (f := F.CRS_SEL_ENTRY) (by decide), State.crsCount_congr (s.crsSet_plan c v),
    State.crsWord_congr (s.crsSet_mem c v)]

/-- A command of the course window that passes every check acts, and the bus is free again. -/
theorem State.wrote_crs {i : Nat} (h : cmdBits [0, 1] v = [i]) : ∃ c d, s.wrote F.CRS_CMD_READ.a v p =
    (if i = 0 then (s.crsSet c v).crsRead else (s.crsSet c v).crsWrite).withBus d := by
  have hrun : (s.withBus [wrAcc F.CRS_CMD_READ.a v p]).windowWrite F.CRS_CMD_READ.a v = _ :=
    State.command_one (s := s.crsSet [wrAcc F.CRS_CMD_READ.a v p] v) (st := F.CRS_CMD_STATUS)
      (run := fun i t => if i = 0 then t.crsRead else t.crsWrite) h
  exact ⟨_, _, (State.wrote_block (by decide) (by decide +kernel) (by decide) (by decide)).trans
    (congrArg (fun t : State => t.withBus (t.bus.drop 1)) hrun)⟩

/-- The row of a command of the course window, `f` its bit. -/
theorem crs_row {f : Fld} {i : Instr} (ha : f.a = F.CRS_CMD_READ.a) (hi : exec i s = .next (s.cmdRow f w p))
    (h : s.orders f [0, 1] w p = true) : ∃ c d, exec i s = .next
    (((if f.lo = 0 then (s.crsSet c (setBits f.lo 1 1 w)).crsRead else (s.crsSet c (setBits f.lo 1 1 w)).crsWrite).withBus
      d).noteLevels) := by
  obtain ⟨htakes, hbits⟩ := (Bool.and_eq_true _ _).mp h
  obtain ⟨c, d, hwrote⟩ := State.wrote_crs (s := s) (p := p) (of_decide_eq_true hbits)
  have hrow : s.cmdRow f w p = _ := State.cmdRow_takes htakes
  rw [ha, hwrote] at hrow
  exact ⟨c, d, hi.trans (congrArg Host.Outcome.next hrow)⟩

theorem crsRead_row (h : s.orders F.CRS_CMD_READ [0, 1] w p = true) : ∃ c d,
    exec (.crsRead w p) s = .next (((s.crsSet c (setBits 0 1 1 w)).crsRead.withBus d).noteLevels) :=
  crs_row (f := F.CRS_CMD_READ) (i := .crsRead w p) rfl rfl h

theorem crsWrite_row (h : s.orders F.CRS_CMD_WRITE [0, 1] w p = true) : ∃ c d,
    exec (.crsWrite w p) s = .next (((s.crsSet c (setBits 1 1 1 w)).crsWrite.withBus d).noteLevels) :=
  crs_row (f := F.CRS_CMD_WRITE) (i := .crsWrite w p) rfl rfl h

theorem State.crsNext_only (s : State) : ∃ g, s.crsNext = { s with regs := g } := by
  unfold State.crsNext
  split
  · exact ⟨_, rfl⟩
  · exact ⟨_, rfl⟩

theorem State.crsNext_rd (h : a ≠ F.CRS_SEL_ENTRY.a) : s.crsNext.rd a = s.rd a := by
  unfold State.crsNext
  split
  · exact State.put_rd_ne h
  · rfl

/-- ENTRY moves on by AUTO_INC (R81). -/
theorem State.crsNext_entry (s : State) :
    s.crsNext.fld F.CRS_SEL_ENTRY = (s.fld F.CRS_SEL_ENTRY + s.fld F.CRS_CMD_AUTO_INC) % 65536 := by
  have hinc := s.fld_lt F.CRS_CMD_AUTO_INC
  have hent := s.fld_lt F.CRS_SEL_ENTRY
  simp only at hinc hent
  unfold State.crsNext State.flag
  by_cases h0 : s.fld F.CRS_CMD_AUTO_INC = 0
  · rw [if_neg (by simp [h0]), h0]
    exact (Nat.mod_eq_of_lt hent).symm
  · rw [if_pos (by simp [h0]), State.put_fld_self (by decide)]
    have h1 : s.fld F.CRS_CMD_AUTO_INC = 1 := by omega
    rw [h1]
    rfl

/-- What a command of the course window leaves behind: it completes with OK, and ENTRY moves on. -/
theorem State.crsDone_facts {u : State} {c d : List Access} (hent : u.fld F.CRS_SEL_ENTRY = s.fld F.CRS_SEL_ENTRY)
    (hinc : u.fld F.CRS_CMD_AUTO_INC = (s.crsSet c v).fld F.CRS_CMD_AUTO_INC) :
    ((u.crsNext.put F.CRS_CMD_STATUS stOk).withBus d).noteLevels.fld F.CRS_CMD_STATUS = stOk ∧
    ((u.crsNext.put F.CRS_CMD_STATUS stOk).withBus d).noteLevels.fld F.CRS_SEL_ENTRY =
      (s.fld F.CRS_SEL_ENTRY + getBits 2 1 v) % 65536 ∧
    ((u.crsNext.put F.CRS_CMD_STATUS stOk).withBus d).noteLevels.mem = u.mem := by
  obtain ⟨g, hg⟩ := u.crsNext_only
  refine ⟨?_, ?_, ?_⟩
  · rw [State.noteLevels_fld (by decide)]
    exact State.put_fld_self (s := u.crsNext) (by decide)
  · rw [State.noteLevels_fld (by decide), ← hent, ← State.crsSet_autoInc s c v, ← hinc, ← u.crsNext_entry]
    exact State.put_fld_apart (s := u.crsNext) (by decide)
  · rw [State.noteLevels_mem]
    show u.crsNext.mem = u.mem
    rw [hg]

theorem crsD_noted : ∀ i : Fin 8, noteReg (0x28004 + 4 * i.val) = false := by decide +kernel

theorem crsRead_reads (h : s.orders F.CRS_CMD_READ [0, 1] w p = true) : Runs (.crsRead w p) s fun t =>
    (∀ i : Fin 8, t.rd (0x28004 + 4 * i.val) = if (s.fld F.CRS_SEL_ENTRY) < s.crsCount (s.fld F.CRS_SEL_SQ) then
      s.crsWord (s.fld F.CRS_SEL_SQ) (s.fld F.CRS_SEL_ENTRY) i.val else 0) ∧
    t.fld F.CRS_CMD_STATUS = stOk ∧ t.fld F.CRS_SEL_ENTRY = (s.fld F.CRS_SEL_ENTRY + getBits 2 1 w) % 65536 ∧ t.mem = s.mem := by
  obtain ⟨c, d, hrow⟩ := crsRead_row h
  set u := s.crsSet c (setBits 0 1 1 w)
  rw [u.crsRead_eq] at hrow
  set x := u.wrWords 0x28004 8 u.crsShown
  obtain ⟨hstatus, hentry, hmem⟩ := State.crsDone_facts (u := x) (c := c) (d := d) (v := setBits 0 1 1 w)
    ((State.wrWords_fld (by decide)).trans (State.crsSet_fld (s := s) (by decide))) (State.wrWords_fld (by decide))
  rw [getBits_setBits_ne _ _ _ _ _ _ (by decide) (by decide)] at hentry
  refine ⟨_, hrow, fun i => ?_, hstatus, hentry, hmem.trans ((u.wrWords_mem _ _ _).trans (s.crsSet_mem _ _))⟩
  rw [State.noteLevels_rd (crsD_noted i)]
  calc (x.crsNext.put F.CRS_CMD_STATUS stOk).rd (0x28004 + 4 * i.val) = x.crsNext.rd (0x28004 + 4 * i.val) :=
        State.put_rd_ne (by simp only; omega)
    _ = u.crsShown i.val := (State.crsNext_rd (by simp only; omega)).trans (State.wrWords_rd i.isLt)
    _ = s.crsShown i.val := s.crsSet_crsShown _ _ _

theorem State.crsWrite_eq (h : s.crsCheck = stOk) : s.crsWrite =
    ((s.setEntry (s.fld F.CRS_SEL_SQ) (s.fld F.CRS_SEL_ENTRY) 8 s.crsD).crsNext).put F.CRS_CMD_STATUS stOk := if_pos h

theorem crsWrite_writes (h : s.orders F.CRS_CMD_WRITE [0, 1] w p = true) (hcheck : s.crsCheck = stOk) :
    Runs (.crsWrite w p) s fun t =>
    (∀ i : Fin 8, t.crsWord (s.fld F.CRS_SEL_SQ) (s.fld F.CRS_SEL_ENTRY) i.val = s.rd (0x28004 + 4 * i.val)) ∧
    t.fld F.CRS_CMD_STATUS = stOk ∧ t.fld F.CRS_SEL_ENTRY = (s.fld F.CRS_SEL_ENTRY + getBits 2 1 w) % 65536 ∧ t.mem.track =
    s.mem.track ∧ t.mem.dram = s.mem.dram ∧ t.mem.dir = s.mem.dir := by
  obtain ⟨c, d, hrow⟩ := crsWrite_row h
  set u := s.crsSet c (setBits 1 1 1 w)
  have hsq : u.fld F.CRS_SEL_SQ = s.fld F.CRS_SEL_SQ := State.crsSet_fld (by decide)
  have hent : u.fld F.CRS_SEL_ENTRY = s.fld F.CRS_SEL_ENTRY := State.crsSet_fld (by decide)
  rw [State.crsWrite_eq ((s.crsSet_crsCheck _ _).trans hcheck), hsq, hent] at hrow
  set x := u.setEntry (s.fld F.CRS_SEL_SQ) (s.fld F.CRS_SEL_ENTRY) 8 u.crsD with hx
  obtain ⟨m, hm⟩ := u.setEntry_only (s.fld F.CRS_SEL_SQ) (s.fld F.CRS_SEL_ENTRY) 8 u.crsD
  obtain ⟨hstatus, hentry, hmem⟩ := State.crsDone_facts (s := s) (u := x) (c := c) (d := d) (v := setBits 1 1 1 w)
    (by rw [hx, hm]; exact hent) (by rw [hx, hm]; rfl)
  rw [getBits_setBits_ne _ _ _ _ _ _ (by decide) (by decide)] at hentry
  have hcourse : x.mem = { s.mem with course := m } := by
    rw [hx, hm, ← s.crsSet_mem c (setBits 1 1 1 w)]
  refine ⟨_, hrow, fun i => ?_, hstatus, hentry, ?_⟩
  · rw [State.crsWord_congr hmem, hx, State.setEntry_crsWord i.isLt]
    exact State.crsSet_rd (by simp only; omega)
  · rw [hmem, hcourse]
    exact ⟨rfl, rfl, rfl⟩

/-! ### The directory window -/

theorem State.dirWord_setDir_ne {i j : Nat} (h : i ≠ j) : (s.setDir k i v).dirWord k j = s.dirWord k j :=
  Sp.get_set_ne _ _ _ _ _ (by omega)

theorem State.dirWord_setDir_self (s : State) (k i : Nat) (v : Word) : (s.setDir k i v).dirWord k i = v := Sp.get_set_self _ _ _ _

/-- The second word of a descriptor with READY set to `b`. -/
theorem segOf_ready (d0 d1 d2 : Word) (b : Bool) : segOf d0 (setBits 2 1 (b2n b) d1) d2 = { segOf d0 d1 d2 with ready := b } := by
  simp only [segOf, getBits_setBits_self 2 1 _ _ (by decide), getBits_setBits_ne 2 1 0 1 _ _ (by decide) (by decide),
    getBits_setBits_ne 2 1 1 1 _ _ (by decide) (by decide), getBits_setBits_ne 2 1 3 1 _ _ (by decide) (by decide),
    getBits_setBits_ne 2 1 4 3 _ _ (by decide) (by decide), getBits_setBits_ne 2 1 8 24 _ _ (by decide) (by decide)]
  cases b <;> rfl

theorem segOf_gen (d0 d1 d2 : Word) (g : Nat) :
    segOf d0 d1 (setBits 0 16 g d2) = { segOf d0 d1 d2 with gen := g % 65536 } := by
  simp only [segOf, getBits_setBits_self 0 16 _ _ (by decide)]
  rfl

/-- CLR_READY clears READY and leaves the rest of the descriptor (R76). -/
theorem State.clearReady_seg (s : State) (k : Nat) : (s.clearReady k).seg k = { s.seg k with ready := false } := by
  unfold State.seg State.clearReady
  rw [State.dirWord_setDir_ne (by decide), State.dirWord_setDir_self, State.dirWord_setDir_ne (by decide)]
  exact segOf_ready _ _ _ false

/-- A completed generation sets READY and counts GEN on (R76). -/
theorem State.completeGen_seg (s : State) (k : Nat) :
    (s.completeGen k).seg k = { s.seg k with ready := true, gen := ((s.seg k).gen + 1) % 65536 } := by
  rw [State.seg, State.completeGen]
  rw [State.dirWord_setDir_ne (by decide), State.dirWord_setDir_ne (by decide), State.dirWord_setDir_ne (by decide),
    State.dirWord_setDir_self, State.dirWord_setDir_self, State.dirWord_setDir_ne (by decide), segOf_gen]
  exact congrArg (fun g : Seg => { g with gen := ((s.seg k).gen + 1) % 65536 }) (segOf_ready _ _ _ true)

theorem State.seg_congr (h : t.mem = s.mem) (k : Nat) : t.seg k = s.seg k := by
  unfold State.seg State.dirWord
  rw [h]

theorem State.withBus_readyCheck (s : State) (c : List Access) : (s.withBus c).readyCheck = s.readyCheck := by
  have hactive : (s.withBus c).segActiveNow (s.fld F.SEGD_SEL_SEG) = s.segActiveNow (s.fld F.SEGD_SEL_SEG) :=
    s.setBus_segActiveNow c _
  simp only [State.readyCheck, State.withBus_fld, hactive]
  rfl

/-- A command of the directory window that passes every check acts, and the bus is free again. -/
theorem State.wrote_segd {i : Nat} (h : cmdBits [0, 1, 2] v = [i]) : ∃ c d, s.wrote F.SEGD_CMD_READ.a v p =
    (segdRun i (s.withBus c)).withBus d := by
  have hrun : (s.withBus [wrAcc F.SEGD_CMD_READ.a v p]).windowWrite F.SEGD_CMD_READ.a v = _ :=
    State.command_one (s := s.withBus [wrAcc F.SEGD_CMD_READ.a v p]) (st := F.SEGD_CMD_STATUS) (run := segdRun) h
  exact ⟨_, _, (State.wrote_block (by decide) (by decide +kernel) (by decide) (by decide)).trans
    (congrArg (fun t : State => t.withBus (t.bus.drop 1)) hrun)⟩

/-- The row of a command of the directory window, `f` its bit. -/
theorem segd_row {f : Fld} {i : Instr} (ha : f.a = F.SEGD_CMD_READ.a) (hi : exec i s = .next (s.cmdRow f w p))
    (h : s.orders f [0, 1, 2] w p = true) : ∃ c d, exec i s = .next (((segdRun f.lo (s.withBus c)).withBus d).noteLevels) := by
  obtain ⟨htakes, hbits⟩ := (Bool.and_eq_true _ _).mp h
  obtain ⟨c, d, hwrote⟩ := State.wrote_segd (s := s) (p := p) (of_decide_eq_true hbits)
  have hrow : s.cmdRow f w p = _ := State.cmdRow_takes htakes
  rw [ha, hwrote] at hrow
  exact ⟨c, d, hi.trans (congrArg Host.Outcome.next hrow)⟩

/-- A command of the directory window shows its status. -/
theorem State.segdStatus_fld (u : State) (st : Nat) (d : List Access) (h : st < 256) :
    ((u.put F.SEGD_CMD_STATUS st).withBus d).noteLevels.fld F.SEGD_CMD_STATUS = st :=
  (State.noteLevels_fld (by decide)).trans ((State.put_fld_self (s := u) (by decide)).trans (Nat.mod_eq_of_lt h))

theorem State.segdStatus_mem (u : State) (st : Nat) (d : List Access) :
    ((u.put F.SEGD_CMD_STATUS st).withBus d).noteLevels.mem = u.mem := State.noteLevels_mem _

theorem State.segdStatus_rd (u : State) (st : Nat) (d : List Access) (hn : noteReg a = false) (h : a ≠ F.SEGD_CMD_STATUS.a) :
    ((u.put F.SEGD_CMD_STATUS st).withBus d).noteLevels.rd a = u.rd a :=
  (State.noteLevels_rd hn).trans (State.put_rd_ne (s := u) h)

theorem segdRun_read (h : s.fld F.PLAN_STAT_PRESENT = 1) :
    segdRun 0 s = (s.wrWords 0x28044 4 (s.dirWord (s.fld F.SEGD_SEL_SEG))).put F.SEGD_CMD_STATUS stOk :=
  if_neg (by rw [State.flag_eq_true h]; decide)

theorem segdRun_absent (h : s.fld F.PLAN_STAT_PRESENT = 0) (i : Nat) : segdRun i s = s.put F.SEGD_CMD_STATUS stState :=
  if_pos (by rw [State.flag_eq_false h]; rfl)

/-- SET_READY and CLR_READY pass their checks under a loaded plan alone (R80). -/
theorem State.present_of_readyCheck (h : s.readyCheck = stOk) : s.flag F.PLAN_STAT_PRESENT = true := by
  by_contra hf
  unfold State.readyCheck at h
  rw [Bool.not_eq_true] at hf
  simp [hf, stOk, stState] at h

theorem segdRun_setReady (h : s.readyCheck = stOk) (hr : (s.seg (s.fld F.SEGD_SEL_SEG)).ready = false) :
    segdRun 1 s = (s.completeGen (s.fld F.SEGD_SEL_SEG)).put F.SEGD_CMD_STATUS stOk := by
  simp [segdRun, State.present_of_readyCheck h, State.setReadyCmd, h, hr]

theorem segdRun_clrReady (h : s.readyCheck = stOk) :
    segdRun 2 s = (s.clearReady (s.fld F.SEGD_SEL_SEG)).put F.SEGD_CMD_STATUS stOk := by
  simp [segdRun, State.present_of_readyCheck h, State.clrReadyCmd, h]

theorem segdD_noted : ∀ i : Fin 4, noteReg (0x28044 + 4 * i.val) = false := by decide +kernel

theorem segdRead_reads (h : s.orders F.SEGD_CMD_READ [0, 1, 2] w p = true) (hpres : s.fld F.PLAN_STAT_PRESENT = 1) :
    Runs (.segdRead w p) s fun t => (∀ i : Fin 4, t.rd (0x28044 + 4 * i.val) = s.dirWord (s.fld F.SEGD_SEL_SEG) i.val) ∧
    t.fld F.SEGD_CMD_STATUS = stOk ∧ t.mem = s.mem := by
  obtain ⟨c, d, hrow⟩ := segd_row (f := F.SEGD_CMD_READ) (i := .segdRead w p) rfl rfl h
  rw [segdRun_read (s := s.withBus c) hpres] at hrow
  refine ⟨_, hrow, fun i => ?_, State.segdStatus_fld _ _ _ (by decide), (State.segdStatus_mem _ _ _).trans (State.wrWords_mem _ _ _ _)⟩
  exact (State.segdStatus_rd _ _ _ (segdD_noted i) (by simp only; omega)).trans (State.wrWords_rd i.isLt)

theorem setReady_completes (h : s.orders F.SEGD_CMD_SET_READY [0, 1, 2] w p = true) (hcheck : s.readyCheck = stOk)
    (hready : (s.seg (s.fld F.SEGD_SEL_SEG)).ready = false) : Runs (.setReady w p) s fun t =>
    t.seg (s.fld F.SEGD_SEL_SEG) =
      { s.seg (s.fld F.SEGD_SEL_SEG) with ready := true, gen := ((s.seg (s.fld F.SEGD_SEL_SEG)).gen + 1) % 65536 } ∧
    t.fld F.SEGD_CMD_STATUS = stOk := by
  obtain ⟨c, d, hrow⟩ := segd_row (f := F.SEGD_CMD_SET_READY) (i := .setReady w p) rfl rfl h
  rw [segdRun_setReady ((s.withBus_readyCheck c).trans hcheck) hready] at hrow
  refine ⟨_, hrow, ?_, State.segdStatus_fld _ _ _ (by decide)⟩
  exact (State.seg_congr (State.segdStatus_mem _ _ _) _).trans (State.completeGen_seg _ _)

theorem clrReady_clears (h : s.orders F.SEGD_CMD_CLR_READY [0, 1, 2] w p = true) (hcheck : s.readyCheck = stOk) :
    Runs (.clrReady w p) s fun t => t.seg (s.fld F.SEGD_SEL_SEG) = { s.seg (s.fld F.SEGD_SEL_SEG) with ready := false } ∧
    t.fld F.SEGD_CMD_STATUS = stOk := by
  obtain ⟨c, d, hrow⟩ := segd_row (f := F.SEGD_CMD_CLR_READY) (i := .clrReady w p) rfl rfl h
  rw [segdRun_clrReady ((s.withBus_readyCheck c).trans hcheck)] at hrow
  refine ⟨_, hrow, ?_, State.segdStatus_fld _ _ _ (by decide)⟩
  exact (State.seg_congr (State.segdStatus_mem _ _ _) _).trans (State.clearReady_seg _ _)

theorem setReady_unloaded (h : s.orders F.SEGD_CMD_SET_READY [0, 1, 2] w p = true) (hpres : s.fld F.PLAN_STAT_PRESENT = 0) :
    Runs (.setReady w p) s fun t => t.mem = s.mem ∧ t.fld F.SEGD_CMD_STATUS = stState := by
  obtain ⟨c, d, hrow⟩ := segd_row (f := F.SEGD_CMD_SET_READY) (i := .setReady w p) rfl rfl h
  rw [segdRun_absent (s := s.withBus c) hpres] at hrow
  exact ⟨_, hrow, State.segdStatus_mem _ _ _, State.segdStatus_fld _ _ _ (by decide)⟩

end

/-- Settles O18, window by window and command by command. -/
theorem courseAndDirectoryWindows : Obligations.CourseAndDirectoryWindows := by
  unfold Obligations.CourseAndDirectoryWindows
  exact ⟨fun _ _ _ => crsRead_reads, fun _ _ _ => crsWrite_writes, fun _ _ _ => segdRead_reads, fun _ _ _ => setReady_completes,
    fun _ _ _ => clrReady_clears, fun _ _ _ => setReady_unloaded⟩

end Sys2Proof.Machine
end

section
/-! SUPPORT. What update strobes leave (R285): the sequencers, and every register but the buffered ones and SYNC_STAT. -/

namespace Sys2Proof.Machine

/-- The registers that a strobe may change: those with buffered fields, and SYNC_STAT, whose CLAMP a trim may set (R284, R339). -/
def strobeReg (a : Nat) : Bool := decide (a = F.SYNC_STAT_CLAMP.a) || bufAll.any (fun b => b.addrs.contains a)

/-- `t` has the sequencers of `s`, and its registers but for those of `strobeReg`. -/
structure Strobed (s t : State) : Prop where
  sq : t.sq = s.sq
  rd : ∀ a, strobeReg a = false → t.rd a = s.rd a

section
variable {s t u : State} {a k n : Nat}

theorem Strobed.refl (s : State) : Strobed s s := ⟨rfl, fun _ _ => rfl⟩

theorem Strobed.trans (h : Strobed s t) (g : Strobed t u) : Strobed s u :=
  ⟨g.sq.trans h.sq, fun a ha => (g.rd a ha).trans (h.rd a ha)⟩

theorem Strobed.ite {c : Prop} [Decidable c] (h : Strobed s t) (g : Strobed s u) : Strobed s (if c then t else u) := by
  split
  · exact h
  · exact g

theorem Strobed.foldl {α : Type} {l : List α} {f : State → α → State} (h : ∀ t, ∀ x ∈ l, Strobed t (f t x)) :
    Strobed s (l.foldl f s) :=
  List.foldlRecOn (motive := fun t => Strobed s t) l f (Strobed.refl s) fun t ht x hx => ht.trans (h t x hx)

/-- A change of neither. -/
theorem Strobed.frame (hq : t.sq = s.sq) (hr : t.regs = s.regs) : Strobed s t :=
  ⟨hq, fun a _ => by rw [State.rd, hr]; rfl⟩

theorem Strobed.wr {v : Word} (h : strobeReg a = true) : Strobed s (s.wr a v) :=
  ⟨rfl, fun b hb => State.wr_rd_ne fun e => by rw [e, h] at hb; cases hb⟩

theorem Strobed.schedule {v : Word} : Strobed s (s.schedule k a v) := Strobed.ite (Strobed.frame rfl rfl) (Strobed.refl s)

theorem Strobed.copyShadow (h : strobeReg a = true) : Strobed s (s.copyShadow k a) := by
  unfold State.copyShadow
  split
  · exact Strobed.refl s
  · exact (Strobed.wr h).trans Strobed.schedule

theorem strobeReg_of_mem {b : BufInst} (hb : b ∈ bufAll) (ha : a ∈ b.addrs) : strobeReg a = true := by
  have hany : bufAll.any (fun b => b.addrs.contains a) = true := List.any_eq_true.2 ⟨b, hb, List.contains_iff_mem.2 ha⟩
  rw [strobeReg, hany, Bool.or_true]

theorem Strobed.copyInst {b : BufInst} (h : b ∈ bufAll) : Strobed s (s.copyInst k b) :=
  Strobed.ite (Strobed.foldl fun _ _ ha => Strobed.copyShadow (strobeReg_of_mem h ha)) (Strobed.refl s)

theorem bufGroup0_mem {b : BufInst} (h : b ∈ bufGroup0) : b ∈ bufAll := by
  simp only [bufAll, List.mem_append, h, true_or]

theorem bufFc_mem (h : n < 64) : bufFc n ∈ bufAll := by
  have hm : bufFc n ∈ (List.range 64).map bufFc := List.mem_map_of_mem (List.mem_range.2 h)
  simp only [bufAll, List.mem_append, hm, or_true, true_or]

theorem bufVb_mem (h : n < 4) : bufVb n ∈ bufAll := by
  have hm : bufVb n ∈ (List.range 4).map bufVb := List.mem_map_of_mem (List.mem_range.2 h)
  simp only [bufAll, List.mem_append, hm, or_true, true_or]

theorem bufCapt_mem : bufCapt ∈ bufAll := by
  simp only [bufAll, List.mem_append, List.mem_singleton, or_true]

theorem Strobed.moveDelay {old : State} {j : Nat} : Strobed s (s.moveDelay old j k) :=
  Strobed.ite (Strobed.frame rfl rfl) (Strobed.ite (Strobed.frame rfl rfl) (Strobed.refl s))

theorem Strobed.retrim {old : State} : Strobed s (s.retrim old k) :=
  Strobed.foldl fun _ _ _ => Strobed.ite (Strobed.refl _)
    (Strobed.ite (Strobed.moveDelay.trans (Strobed.wr rfl)) Strobed.moveDelay)

theorem Strobed.addSw {w : Sw} : Strobed s (s.addSw n w) := Strobed.frame rfl rfl

theorem Strobed.strobe {g : Nat} : Strobed s (s.strobe k g) := by
  unfold State.strobe
  extract_lets s1 s2 s3
  have h1 : Strobed s s1 :=
    Strobed.ite ((Strobed.foldl fun _ _ hb => Strobed.copyInst (bufGroup0_mem hb)).trans Strobed.retrim) (Strobed.refl s)
  have h2 : Strobed s1 s2 := Strobed.foldl fun t m hm =>
    have hcopy : Strobed t (t.copyInst k (bufFc m)) := Strobed.copyInst (bufFc_mem (List.mem_range.1 hm))
    Strobed.ite (Strobed.ite (hcopy.trans Strobed.addSw) hcopy) (Strobed.refl t)
  have h3 : Strobed s2 s3 := Strobed.foldl fun t m hm =>
    Strobed.ite (Strobed.copyInst (bufVb_mem (List.mem_range.1 hm))) (Strobed.refl t)
  exact ((h1.trans h2).trans h3).trans (Strobed.ite (Strobed.copyInst bufCapt_mem) (Strobed.refl s3))

theorem Strobed.strobesAt {m : Nat} : Strobed s (s.strobesAt k m) := Strobed.foldl fun _ _ _ => Strobed.strobe

/-- The strobes and the profile load of a decision leave what a strobe leaves (R91, R173). -/
theorem Strobed.prepOuts {e o : Nat} : Strobed s (s.prepOuts n e o) :=
  Strobed.strobesAt.trans (Strobed.ite (Strobed.foldl fun _ _ _ => Strobed.addSw) (Strobed.refl _))

/-- No strobe changes a latch of a sequencer. -/
theorem strobeReg_latch : ∀ n : Fin 8, strobeReg (0x20110 + 0x40 * n.val) = false ∧ strobeReg (0x20114 + 0x40 * n.val) = false := by
  decide +kernel

end
end Sys2Proof.Machine
end

section
/-! SUPPORT. What the time up to a commit tick leaves of a sequencer without a decision (R85, R92): its record but for the late copy in
progress, and the heat tick it reaches. -/

namespace Sys2Proof.Machine

section
variable {s t u : State} {n h : Nat}

/-- What becomes due of late copies changes the copy in progress alone (R151). -/
theorem State.lateNote_sqn (s : State) (m n : Nat) : ∃ f, (s.lateNote m).sqn n = { s.sqn n with lateFrom := f } := by
  have hset : ∀ f, ∃ g, (s.setSq m { s.sqn m with lateFrom := f }).sqn n = { s.sqn n with lateFrom := g } := fun f => by
    by_cases hm : n = m
    · subst hm
      exact ⟨f, State.setSq_sqn_self _ _ _⟩
    · exact ⟨(s.sqn n).lateFrom, State.setSq_sqn_ne hm⟩
  have hsame : ∃ f, s.sqn n = { s.sqn n with lateFrom := f } := ⟨(s.sqn n).lateFrom, rfl⟩
  unfold State.lateNote
  dsimp only
  split
  · exact hsame
  · split
    · exact hset _
    · split
      · exact hsame
      · exact hset _

theorem State.lateNotes_sqn (s : State) (n : Nat) : ∃ f, s.lateNotes.sqn n = { s.sqn n with lateFrom := f } :=
  List.foldlRecOn (motive := fun t : State => ∃ f, t.sqn n = { s.sqn n with lateFrom := f }) (List.range 8) _
    ⟨(s.sqn n).lateFrom, rfl⟩ fun t ⟨f, hf⟩ m _ => by
      obtain ⟨g, hg⟩ := t.lateNote_sqn m n
      exact ⟨g, by rw [hg, hf]⟩

theorem State.toTick_sq (s : State) (k : Nat) : (s.toTick k).sq = s.sq := by
  unfold State.toTick
  split
  · rfl
  · rfl

theorem State.mirFrame_sq (s : State) (k : Nat) (b : List Byte) (g : Nat) : (s.mirFrame k b g).sq = s.sq := by
  unfold State.mirFrame
  split
  · rfl
  · rfl

theorem State.mirFrame_regs (s : State) (k : Nat) (b : List Byte) (g : Nat) : (s.mirFrame k b g).regs = s.regs := by
  unfold State.mirFrame
  split
  · rfl
  · rfl

theorem State.mirMsg_sq (s : State) (ws : List Word) : (s.mirMsg ws).sq = s.sq :=
  (State.mirFrame_sq _ _ _ _).trans (State.mirFrame_sq _ _ _ _)

theorem State.mirDrain_sq (s : State) (k : Nat) : (s.mirDrain k).sq = s.sq := by
  unfold State.mirDrain
  split
  · rfl
  · exact List.foldlRecOn (motive := fun t : State => t.sq = s.sq) _ _ rfl fun t ht r _ => (t.mirMsg_sq r).trans ht

theorem State.linkTime_sq (s : State) (k h : Nat) : (s.linkTime k h).sq = s.sq := by
  unfold State.linkTime State.markNote
  dsimp only
  split
  · exact s.mirDrain_sq k
  · exact s.mirDrain_sq k

theorem State.sqn_congr (h : t.sq = s.sq) (n : Nat) : t.sqn n = s.sqn n := by
  unfold State.sqn
  rw [h]

/-- What a resolved hold loads changes the record of no sequencer without a decision (R91, R102). -/
theorem State.holdPrep_sqn (m : Nat) (hn : (s.sqn n).next = []) : (s.holdPrep m).sqn n = s.sqn n := by
  unfold State.holdPrep
  dsimp only
  split
  · next r e _ hnext =>
    split
    · rfl
    · have hm : n ≠ m := by
        rintro rfl
        rw [hn] at hnext
        cases hnext
      exact (State.sqn_congr Strobed.prepOuts.sq n).trans (State.setSq_sqn_ne hm)
  · rfl

theorem State.holdPreps_sqn (hn : (s.sqn n).next = []) : s.holdPreps.sqn n = s.sqn n := by
  unfold State.holdPreps
  split
  · exact List.foldlRecOn (motive := fun t : State => t.sqn n = s.sqn n) _ _ rfl fun t ht m _ =>
      (State.holdPrep_sqn m (by rw [ht, hn])).trans ht
  · rfl

/-- Until a heat tick comes, the record of a sequencer without a decision stands, but for its late copy. -/
theorem State.arrive_sqn (hn : (s.sqn n).next = []) (h : Nat) : ∃ f, (s.arrive h).sqn n = { s.sqn n with lateFrom := f } := by
  obtain ⟨f, hf⟩ := s.lateNotes_sqn n
  refine ⟨f, ?_⟩
  unfold State.arrive State.passTo
  generalize s.tm.tb + (h - s.tm.heat) = k
  have hlink : ((s.lateNotes.toTick k).linkTime (k - s.tm.tb) s.tm.heat).sqn n = { s.sqn n with lateFrom := f } :=
    (State.sqn_congr (State.linkTime_sq _ _ _) n).trans ((State.sqn_congr (State.toTick_sq _ _) n).trans hf)
  exact (State.sqn_congr Woken.fineNow.sq n).trans ((State.holdPreps_sqn (by rw [hlink]; exact hn)).trans hlink)

theorem State.toTick_heat (s : State) (k : Nat) : (s.toTick k).tm.heat =
    if s.tm.tb < k ∧ s.fld F.SEQ_STAT_HEAT = 3 then s.tm.heat + (k - s.tm.tb) else s.tm.heat := by
  unfold State.toTick
  by_cases hk : s.tm.tb < k
  · simp only [hk, if_true, true_and]
  · simp only [hk, if_false, false_and]

/-- A running heat reaches the tick (R85). -/
theorem State.arrive_heat (hrun : s.fld F.SEQ_STAT_HEAT = 3) (hle : s.tm.heat ≤ h) : (s.arrive h).tm.heat = h := by
  have hlate : s.lateNotes.tm = s.tm := (Noted.lateNotes s).tm
  have hrun' : s.lateNotes.fld F.SEQ_STAT_HEAT = 3 := (congrArg _ ((Noted.lateNotes s).rd _ (by decide))).trans hrun
  unfold State.arrive State.passTo State.passed
  rw [Woken.fineNow.heat, (Noted.holdPreps _).tm, (Noted.linkTime _ _ _).tm, State.toTick_heat, hlate, hrun']
  split <;> omega

theorem State.arrive_mem (s : State) (h : Nat) : (s.arrive h).mem = s.mem := (Elapsed.passTo s _).mem

end
end Sys2Proof.Machine
end

section
/-! SUPPORT. The commit tick of a sequencer's next boundary (R92, R93, R95): what it judges of, in which state, and what READY and an
entry's condition depend on. -/

namespace Sys2Proof.Machine

/-- At heat tick `o` − 48 the state is `u`, and SQn judges boundary `o` of its visit `v` to an entry that reads `x`: it plays, and no
decision, hold, stop or continuation is outstanding (R92). -/
structure State.AtCommit (s : State) (n : Fin 8) (v : Visit) (x : Entry) (o : Nat) (u : State) : Prop where
  plays : s.plays n.val = true
  visit : (s.sqn n.val).visit = some v
  next : (s.sqn n.val).next = []
  hold : (s.sqn n.val).hold = none
  stopReq : (s.sqn n.val).stopReq = none
  entry : x = s.entry n.val v.entry
  boundary : o = nextBoundary x v.f v.cur
  ahead : 48 ≤ o
  due : s.tm.heat ≤ o - 48
  arrives : u = s.arrive (o - 48)
  pend : (s.sqn n.val).pend = none

/-- The state in which SQn judges boundary `o`: its position has moved on, and the exchange zone is open at an opportunity (R95). -/
def State.judged (u : State) (n : Nat) (v : Visit) (x : Entry) (o : Nat) : State :=
  let s2 := u.setSq n { u.sqn n with visit := some { v with cur := o } }
  if isOpp x v.f o then s2.zones n ((u.sqn n).shadow ++ [(o, x.target)]) else s2

/-- The pulse that meets a condition is consumed: its latch is cleared (R93). -/
def State.consumed (w : State) (n ev : Nat) : State := if w.evLevelKind ev then w else w.put (latchFld n ev) 0

/-- The condition is met at an opportunity: the target is selected (R93). -/
def State.jumpOn (w : State) (n : Nat) (x : Entry) (o : Nat) : State :=
  let s4 := w.consumed n x.jevt
  (s4.mirDecision n 0 (o - 48) (1 + 2 ^ 8 * s4.shortOut n x (s4.contReady n x.target))).select n o x.target true

/-- The last end of a visit: the successor is selected, or the sequencer stops (R90). -/
def State.endOn (w : State) (n : Nat) (x : Entry) (o : Nat) : State :=
  match x.endAct with
  | 0 => w.select n o x.succ false
  | 1 => w.addDec n ⟨o, .stop true 0⟩
  | _ => w.addDec n ⟨o, .stop false 0⟩

/-- No jump: the visit goes on within its laps, or ends (R90). -/
def State.goOn (w : State) (n : Nat) (v : Visit) (x : Entry) (o : Nat) : State :=
  let short := w.shortOut n x (!(isLastEnd x v.f o && decide (x.endAct = 0)) || w.contReady n x.succ)
  let s4 := if isOpp x v.f o || isLastEnd x v.f o then w.mirDecision n 0 (o - 48) (2 ^ 8 * short) else w
  if !isLastEnd x v.f o then s4.addDec n ⟨o, .go⟩ else s4.endOn n x o

section
variable {s t u : State} {n : Nat} {v : Visit} {x : Entry} {o : Nat}

theorem State.endOn_natural (h : x.endAct = 0) : s.endOn n x o = s.select n o x.succ false := by
  simp only [State.endOn, h]

theorem State.endOn_stops (h : x.endAct ≠ 0) : s.endOn n x o = s.addDec n ⟨o, .stop (decide (x.endAct = 1)) 0⟩ := by
  unfold State.endOn
  split
  · contradiction
  · next h1 => rw [h1]; rfl
  · next h1 => rw [decide_eq_false h1]

theorem State.jumpOn_selects (s : State) (n : Nat) (x : Entry) (o : Nat) : ∃ arg, s.jumpOn n x o =
    ((s.consumed n x.jevt).mirDecision n 0 (o - 48) arg).select n o x.target true := ⟨_, rfl⟩

theorem State.goOn_within (ho : isOpp x v.f o = false) (hl : isLastEnd x v.f o = false) :
    s.goOn n v x o = s.addDec n ⟨o, .go⟩ := by
  rw [State.goOn, ho, hl]
  rfl

theorem State.goOn_ends (hl : isLastEnd x v.f o = true) : ∃ arg, s.goOn n v x o = (s.mirDecision n 0 (o - 48) arg).endOn n x o := by
  unfold State.goOn
  extract_lets short s4
  have hs4 : s4 = s.mirDecision n 0 (o - 48) (2 ^ 8 * short) := if_pos (by rw [hl, Bool.or_true])
  exact ⟨_, (if_neg (by rw [hl]; decide)).trans (by rw [hs4])⟩

theorem State.applyDue_idle (hn : (s.sqn n).next = []) (k h : Nat) : State.applyDue k n h s = s := by
  cases k with
  | zero => rfl
  | succ k => rw [State.applyDue, hn]; rfl

theorem State.AtCommit.arrived {n : Fin 8} (h : s.AtCommit n v x o u) : ∃ f, u.sqn n.val = { s.sqn n.val with lateFrom := f } := by
  rw [h.arrives]
  exact State.arrive_sqn h.next _

/-- The commit tick's decision: a jump where the condition is met at an opportunity, else the visit goes on (R93). -/
theorem State.AtCommit.commit_eq {n : Fin 8} (h : s.AtCommit n v x o u) : s.commit n.val =
    if isOpp x v.f o && (u.judged n.val v x o).condMet n.val x then (u.judged n.val v x o).jumpOn n.val x o
    else (u.judged n.val v x o).goOn n.val v x o := by
  obtain ⟨f, hf⟩ := h.arrived
  have hbegins : ¬(s.sqState n.val ≠ sqRunning ∨ (s.sqn n.val).hold.isSome = true ∨
      ((s.sqn n.val).next.any fun d => d.leaves && !d.isStop) = true) := by
    have hplays := h.plays
    simp only [State.plays, Bool.and_eq_true, decide_eq_true_eq] at hplays
    simp [hplays.2, h.hold, h.next]
  have hidle : State.applyDue 8 n.val (o - 48) (s.arrive (o - 48)) = u := by
    rw [← h.arrives]
    exact State.applyDue_idle (by rw [hf, h.next]) _ _
  have hvisit : (u.sqn n.val).visit = some v := by rw [hf, h.visit]
  have hnext : (u.sqn n.val).next = [] := by rw [hf, h.next]
  have hpend : (u.sqn n.val).pend = none := by rw [hf, h.pend]
  have hstop : u.stopAt n.val v o = none := by rw [State.stopAt, hf, h.stopReq]
  unfold State.commit
  extract_lets q0
  split
  · next hv => exact absurd (hv.symm.trans h.visit) nofun
  · next v0 hv =>
    obtain rfl : v0 = v := Option.some.inj (hv.symm.trans h.visit)
    rw [if_neg hbegins]
    extract_lets x0 o0 s1 q c s2 lapEnd last opp s3 q3 s4 short s5
    obtain rfl : x0 = x := h.entry.symm
    obtain rfl : o0 = o := h.boundary.symm
    have hs1 : s1 = u := hidle
    clear_value s1
    subst hs1
    have hopp : opp = isOpp x0 v0.f o0 := by
      show (isOpp x0 v0.f o0 && q.pend.isNone) = _
      rw [hpend, Option.isNone_none, Bool.and_true]
    clear_value opp
    subst hopp
    rw [if_neg (not_not_intro hvisit), hnext, List.any_nil, if_neg Bool.false_ne_true, hstop, show q.pend = none from hpend]
    rfl

/-! ### What READY and a condition depend on -/

/-- A look at the events, a pulse or a decision moves no segment. -/
theorem Noted.samePlaces (h : Noted s t) : SamePlaces s t :=
  SamePlaces.of (by rw [h.mem]) (by rw [h.plan]) (State.dramDef_congr fun c => by rw [State.dch, h.dram]; rfl)
    (congrArg _ (h.rd _ (by decide))) fun a ha => h.rd a (noteReg_place ha)

theorem Noted.entry (h : Noted s t) (n e : Nat) : t.entry n e = s.entry n e :=
  congrArg entryOf (funext fun w => State.crsWord_congr h.mem n e w)

theorem Noted.seg (h : Noted s t) (k : Nat) : t.seg k = s.seg k := h.samePlaces.seg k

theorem Noted.segFenced (h : Noted s t) (k : Nat) : t.segFenced k = s.segFenced k := by
  have hp := h.samePlaces
  have hf : t.fld F.DRAM_STAT_FENCED = s.fld F.DRAM_STAT_FENCED := congrArg _ (h.rd _ (by decide))
  simp only [State.segFenced, State.segTouches, State.segBytes, hp.segInDram, hp.seg, hp.lanes, hp.locs, hp.fenced, hf]

/-- READY of the check of R77 depends on the sequencer's resident blocks alone, as far as decisions change it. -/
theorem Noted.contReady (h : Noted s t) (hr : (t.sqn n).resident = (s.sqn n).resident) (e : Nat) :
    t.contReady n e = s.contReady n e := by
  simp only [State.contReady, State.blockResident, h.entry, h.seg, h.segFenced, h.plan, hr]

section
variable (hn : n < 8) (b : Nat)
include hn

/-- The exchange zone's bit is none of another field. -/
theorem State.putZone_fld (s : State) {f : Fld} (h : f.a < 0x20100 ∨ 0x20300 ≤ f.a) : (s.put (F.SQ_STAT_ZONE n) b).fld f = s.fld f :=
  State.put_fld_ne (by simp only; omega)

theorem State.putZone_flag (s : State) {f : Fld} (h : f.a < 0x20100 ∨ 0x20300 ≤ f.a) :
    (s.put (F.SQ_STAT_ZONE n) b).flag f = s.flag f := by
  unfold State.flag
  rw [State.putZone_fld hn b s h]

omit hn in
theorem State.putZone_held (s : State) (m : Nat) :
    (s.put (F.SQ_STAT_ZONE n) b).flag (F.SQ_STAT_HELD m) = s.flag (F.SQ_STAT_HELD m) := by
  unfold State.flag
  rw [State.put_fld_apart (by simp [Fld.apart])]

omit hn in
theorem State.putZone_latched (s : State) (m : Nat) : (s.put (F.SQ_STAT_ZONE n) b).latched n m = s.latched n m := by
  unfold State.latched State.flag latchFld
  split
  · rw [State.put_fld_ne (by simp only; omega)]
  · rw [State.put_fld_ne (by simp only; omega)]

theorem State.putZone_srcLevel (s : State) (m src : Nat) : (s.put (F.SQ_STAT_ZONE n) b).srcLevel m src = s.srcLevel m src := by
  have hsw : (s.put (F.SQ_STAT_ZONE n) b).rd (if m < 32 then 0x30018 else 0x3001C) = s.rd (if m < 32 then 0x30018 else 0x3001C) :=
    State.put_rd_ne (by simp only; split <;> omega)
  have hpanic : ∀ p, (s.put (F.SQ_STAT_ZONE n) b).flag (F.DRAM_PORT_PANIC p) = s.flag (F.DRAM_PORT_PANIC p) := fun p =>
    State.putZone_flag hn b s (.inr (by simp only; omega))
  simp only [State.srcLevel, hsw, hpanic, State.putZone_held, State.putZone_flag hn b s (f := F.MIR_STAT_PFAULT_NOW) (by decide),
    State.putZone_flag hn b s (f := F.MIR_STAT_HB_NOW) (by decide), State.putZone_flag hn b s (f := F.SUP_STAT_OT_NOW) (by decide),
    State.putZone_flag hn b s (f := F.CLK_STAT_COAST) (by decide), State.put_ev]

/-- The condition of an entry does not depend on the exchange zone. -/
theorem State.putZone_condMet (s : State) : (s.put (F.SQ_STAT_ZONE n) b).condMet n x = s.condMet n x := by
  have hroute : (s.put (F.SQ_STAT_ZONE n) b).evRouted x.jevt n = s.evRouted x.jevt n := by
    unfold State.evRouted
    rw [State.putZone_fld hn b s (.inr (by simp only; omega))]
  have hkind : (s.put (F.SQ_STAT_ZONE n) b).evLevelKind x.jevt = s.evLevelKind x.jevt :=
    State.putZone_flag hn b s (.inr (by simp only; omega))
  have hsrc : (s.put (F.SQ_STAT_ZONE n) b).evSrc x.jevt = s.evSrc x.jevt :=
    State.putZone_fld hn b s (.inr (by simp only; omega))
  unfold State.condMet State.evLevel
  rw [hroute, hkind, hsrc, State.putZone_srcLevel hn, State.putZone_latched]

end

/-! ### The state that judges -/

/-- `t` is `u` at the commit tick of boundary `o`: SQn's position has moved on, and nothing that READY, the visit's entry or a shortfall
depends on has changed. -/
structure Poised (n : Nat) (v : Visit) (o : Nat) (u t : State) : Prop where
  noted : Noted u t
  sqn : ∃ z, t.sqn n = { u.sqn n with visit := some { v with cur := o }, shadow := z }

theorem Poised.visit (h : Poised n v o u t) : (t.sqn n).visit = some { v with cur := o } := by
  obtain ⟨z, hz⟩ := h.sqn
  rw [hz]

theorem Poised.next (h : Poised n v o u t) : (t.sqn n).next = (u.sqn n).next := by
  obtain ⟨z, hz⟩ := h.sqn
  rw [hz]

theorem Poised.pend (h : Poised n v o u t) : (t.sqn n).pend = (u.sqn n).pend := by
  obtain ⟨z, hz⟩ := h.sqn
  rw [hz]

theorem Poised.contReady (h : Poised n v o u t) (e : Nat) : t.contReady n e = u.contReady n e := by
  obtain ⟨z, hz⟩ := h.sqn
  exact h.noted.contReady (by rw [hz]) e

/-- A change that leaves the sequencers leaves the sequencer at its commit tick. -/
theorem Poised.trans (h : Poised n v o u s) (hn : Noted s t) (hq : t.sq = s.sq) : Poised n v o u t where
  noted := h.noted.trans hn
  sqn := by
    obtain ⟨z, hz⟩ := h.sqn
    exact ⟨z, (State.sqn_congr hq n).trans hz⟩

theorem Poised.judged (hn : n < 8) : Poised n v o u (u.judged n v x o) := by
  unfold State.judged
  extract_lets q s2
  have h2 : Poised n v o u s2 := ⟨Noted.setSq u n _, _, State.setSq_sqn_self _ _ _⟩
  split
  · exact ⟨h2.noted.trans (Noted.zones s2 n _ hn), _, (State.setSq_sqn_self _ _ _).trans (by rw [State.setSq_sqn_self])⟩
  · exact h2

/-- Moving on to the boundary and opening the exchange zone do not change whether a condition is met. -/
theorem State.judged_condMet (hn : n < 8) : (u.judged n v x o).condMet n x = u.condMet n x := by
  unfold State.judged
  extract_lets q s2
  split
  · exact State.putZone_condMet hn _ (s2.setSq n _)
  · rfl

theorem State.judged_evLevelKind (hn : n < 8) {m : Nat} : (u.judged n v x o).evLevelKind m = u.evLevelKind m := by
  unfold State.judged
  extract_lets q s2
  split
  · exact State.putZone_flag hn _ (s2.setSq n _) (.inr (by simp only; omega))
  · rfl

theorem State.mirDecision_frame (s : State) (m k d arg : Nat) : (s.mirDecision m k d arg).sq = s.sq ∧
    (s.mirDecision m k d arg).regs = s.regs := by
  unfold State.mirDecision
  split
  · exact ⟨(State.mirFrame_sq _ _ _ _).trans (State.mirFrame_sq _ _ _ _), (State.mirFrame_regs _ _ _ _).trans (State.mirFrame_regs _ _ _ _)⟩
  · split
    · exact ⟨rfl, rfl⟩
    · exact ⟨rfl, rfl⟩

theorem Poised.mirDecision (h : Poised n v o u t) (m k d arg : Nat) : Poised n v o u (t.mirDecision m k d arg) :=
  h.trans (Noted.mirDecision t m k d arg) (t.mirDecision_frame m k d arg).1

theorem Poised.put {f : Fld} {y : Nat} (h : Poised n v o u t) (hf : noteReg f.a = true) : Poised n v o u (t.put f y) :=
  h.trans (Noted.put t f y hf) rfl

theorem Poised.consumed (h : Poised n v o u t) (hn : n < 8) (m : Nat) : Poised n v o u (t.consumed n m) := by
  unfold State.consumed
  split
  · exact h
  · exact h.put (noteReg_latch n m hn)

/-- A latch that is cleared reads as clear. -/
theorem State.consumed_latched {m : Nat} (hm : m < 64) (hk : s.evLevelKind m = false) : (s.consumed n m).latched n m = false := by
  rw [State.consumed, hk, if_neg Bool.false_ne_true]
  refine State.flag_eq_false (State.put_fld_self ?_)
  unfold latchFld
  split <;> simp only <;> omega

theorem State.mirDecision_latched (s : State) (m k d arg q ev : Nat) : (s.mirDecision m k d arg).latched q ev = s.latched q ev :=
  State.flag_of_rd (by rw [State.rd, (s.mirDecision_frame m k d arg).2]; rfl)

end
end Sys2Proof.Machine
end

section
/-! SUPPORT. What a decision adds to a sequencer (R77, R90, R93, R99–R102), and the decisions of a commit tick. -/

namespace Sys2Proof.Machine

/-- `t` is `s` after the decisions `l` of SQn: its visit and the time stand. -/
structure Adds (n : Nat) (l : List Dec) (s t : State) : Prop where
  tm : t.tm = s.tm
  visit : (t.sqn n).visit = (s.sqn n).visit
  next : (t.sqn n).next = (s.sqn n).next ++ l

section
variable {s t u w : State} {n e o : Nat} {v : Visit} {x : Entry} {l k : List Dec}

theorem Adds.trans (h : Adds n l s t) (g : Adds n k t u) : Adds n (l ++ k) s u where
  tm := g.tm.trans h.tm
  visit := g.visit.trans h.visit
  next := by rw [g.next, h.next, List.append_assoc]

/-- A change that leaves the sequencers and the time decides nothing. -/
theorem Adds.same (hm : t.tm = s.tm) (hq : t.sq = s.sq) : Adds n [] s t where
  tm := hm
  visit := by rw [State.sqn_congr hq]
  next := by rw [State.sqn_congr hq, List.append_nil]

theorem Adds.raise {f : Fld} : Adds n [] s (s.raise f) := Adds.same rfl rfl

/-- So does one of SQn's record that leaves its visit and its decisions. -/
theorem Adds.setSq {q : Sq} (hv : q.visit = (s.sqn n).visit) (hx : q.next = (s.sqn n).next) : Adds n [] s (s.setSq n q) where
  tm := rfl
  visit := by rw [State.setSq_sqn_self, hv]
  next := by rw [State.setSq_sqn_self, hx, List.append_nil]

theorem Adds.addDec (d : Dec) : Adds n [d] s (s.addDec n d) where
  tm := rfl
  visit := by rw [State.addDec, State.setSq_sqn_self]
  next := by rw [State.addDec, State.setSq_sqn_self]

theorem Adds.takeTail : Adds n [] s (s.takeTail n o) := Adds.setSq rfl rfl

theorem Adds.prepGroup : Adds n [] s (s.prepGroup n e) := by
  unfold State.prepGroup State.stageLoad
  split
  · exact Adds.same rfl rfl
  · split
    · exact Adds.same rfl rfl
    · exact Adds.setSq rfl rfl

theorem Adds.prepVisit : Adds n [] s (s.prepVisit n e o) :=
  (Adds.same (Noted.prepOuts s n e o).tm Strobed.prepOuts.sq).trans Adds.prepGroup

theorem Adds.goTo (j : Bool) : Adds n [⟨o, .visit e j⟩] s (s.goTo n o e j) := by
  have h : Adds n [⟨o, .visit e j⟩] s ((s.prepVisit n e o).addDec n ⟨o, .visit e j⟩) := Adds.prepVisit.trans (Adds.addDec _)
  unfold State.goTo
  split
  · exact h.trans Adds.takeTail
  · exact h

/-- A continuation that is ready is decided (R77). -/
theorem Adds.select {j : Bool} (h : s.contReady n e = true) : Adds n [⟨o, .visit e j⟩] s (s.select n o e j) := by
  rw [State.select, if_pos h]
  exact Adds.goTo j

/-! ### A shortfall -/

/-- A shortfall of visit `v` is counted and recorded before REFILL acts (R99). -/
def State.shortNoted (s : State) (n e : Nat) (v : Visit) : State :=
  ((s.bump (F.SQ_CNT_SHORT_COUNT n)).raise (F.SQ_FLAGS_SHORTFALL n)).sqRec n 0x04
    (v.entry + 2 ^ 16 * e + 2 ^ 32 * s.fld (F.SQ_POS_EXT n) + 2 ^ 40 * (s.entry n v.entry).refill) s.tm.heat

/-- What is left of the state that judges: the sequencers, and what READY depends on. -/
theorem Noted.shortNoted (hn : n < 8) : Noted s (s.shortNoted n e v) :=
  ((Noted.bump s _ (noteReg_cnt n hn)).trans (Noted.raise _ _ (noteReg_flags n hn))).trans (Noted.event _ _)

theorem State.shortNoted_sq (s : State) (n e : Nat) (v : Visit) : (s.shortNoted n e v).sq = s.sq := State.event_sq _ _

theorem evRegs_flags (hn : n < 8) : (F.SQ_FLAGS_SHORTFALL n).a ∉ evRegs := by
  simp only [evRegs, logRegs, List.mem_append, List.mem_cons, List.not_mem_nil, or_false]
  omega

/-- SHORTFALL is set (R99). -/
theorem State.shortNoted_flag (s : State) (e : Nat) (v : Visit) (hn : n < 8) :
    (s.shortNoted n e v).fld (F.SQ_FLAGS_SHORTFALL n) = 1 :=
  (congrArg _ ((State.event_only _ _).2 _ (evRegs_flags hn))).trans
    (State.raise_fld_self (s := s.bump (F.SQ_CNT_SHORT_COUNT n)) (by simp only; decide))

section
variable (hv : (s.sqn n).visit = some v)
include hv

/-- What a shortfall does besides being noted, by REFILL (R99–R102). -/
theorem State.shortfall_eq (o e : Nat) (j : Bool) : s.shortfall n o e j =
    if (s.entry n v.entry).refill = 0 then
      if (s.shortNoted n e v).extFull n (s.entry n v.entry) then (s.shortNoted n e v).decideFallback n o 0 2
      else (((s.shortNoted n e v).setSq n { (s.shortNoted n e v).sqn n with pend := some e, pendJump := j }).raise
        (F.SQ_STAT_PENDING n)).addDec n ⟨o, .go⟩
    else if (s.entry n v.entry).refill = 2 then (s.shortNoted n e v).addDec n ⟨o, .hold e⟩
    else (s.shortNoted n e v).decideFallback n o 0 2 := by
  unfold State.shortfall
  split
  · next h => exact absurd (h.symm.trans hv) nofun
  · next v0 h =>
    obtain rfl : v0 = v := Option.some.inj (h.symm.trans hv)
    extract_lets x ext s1
    have hs1 : s1 = s.shortNoted n e v0 := rfl
    clear_value s1
    subst hs1
    split
    · next h0 => rw [if_pos h0]
    · next h2 => rw [if_neg (by rw [h2]; decide), if_pos h2]
    · next h0 h2 => rw [if_neg h0, if_neg h2]

end

theorem Adds.shortNoted (hn : n < 8) : Adds n [] s (s.shortNoted n e v) :=
  Adds.same (Noted.shortNoted hn).tm (s.shortNoted_sq n e v)

theorem Adds.fallbackOf {c sc : Nat} (hr : (s.entry n e).fbRest = false)
    (hs : (s.seg (s.entry n (s.entry n e).fallback).seg).staged = false)
    (hf : s.segFenced (s.entry n (s.entry n e).fallback).seg = false) :
    Adds n [⟨o, .fallback (some (s.entry n e).fallback) c sc⟩] s (s.fallbackOf n e o c sc) := by
  unfold State.fallbackOf
  extract_lets x g
  rw [if_neg (by simp only [x, g, hr, hs, hf, Bool.false_and, Bool.or_false, Bool.false_eq_true, not_false_eq_true])]
  exact (Adds.prepVisit.trans (Adds.addDec _)).trans Adds.takeTail

/-- A continuation that is ready leaves the registers that no strobe changes. -/
theorem State.select_rd {a : Nat} {j : Bool} (h : s.contReady n e = true) (ha : strobeReg a = false) :
    (s.select n o e j).rd a = s.rd a := by
  have hprep : (s.prepVisit n e o).rd a = s.rd a := by
    unfold State.prepVisit State.prepGroup State.stageLoad
    split
    · exact Strobed.prepOuts.rd a ha
    · split
      · exact Strobed.prepOuts.rd a ha
      · exact Strobed.prepOuts.rd a ha
  rw [State.select, if_pos h]
  unfold State.goTo
  split
  · exact hprep
  · exact hprep

theorem State.select_latched {n : Fin 8} {m : Nat} {j : Bool} (h : s.contReady n.val e = true) :
    (s.select n.val o e j).latched n.val m = s.latched n.val m := by
  obtain ⟨hlow, hhigh⟩ := strobeReg_latch n
  refine State.flag_of_rd (State.select_rd h ?_)
  unfold latchFld
  split
  · exact hlow
  · exact hhigh

/-! ### The decisions of a commit tick -/

section
variable {n : Fin 8} (H : s.AtCommit n v x o u)
include H

theorem State.AtCommit.heat : u.tm.heat = o - 48 := by
  have hplays := H.plays
  simp only [State.plays, Bool.and_eq_true, decide_eq_true_eq] at hplays
  rw [H.arrives]
  exact State.arrive_heat hplays.1.2 H.due

theorem State.AtCommit.entry_eq (hw : Poised n.val v o u w) : w.entry n.val v.entry = x := by
  rw [hw.noted.entry, H.entry, H.arrives]
  exact congrArg entryOf (funext fun i => State.crsWord_congr (s.arrive_mem _) _ _ i)

theorem State.AtCommit.noPend (hw : Poised n.val v o u w) : (w.sqn n.val).pend = none := by
  obtain ⟨f, hf⟩ := H.arrived
  rw [hw.pend, hf, H.pend]

/-- The decisions that are added are the only ones, and the position stands at the boundary, in its commit tick. -/
theorem State.AtCommit.decided (hw : Poised n.val v o u w) (ht : Adds n.val l w t) :
    (t.sqn n.val).next = l ∧ (t.sqn n.val).visit = some { v with cur := o } ∧ t.tm.heat = o - 48 := by
  obtain ⟨f, hf⟩ := H.arrived
  refine ⟨?_, ht.visit.trans hw.visit, ?_⟩
  · rw [ht.next, hw.next, hf, H.next, List.nil_append]
  · rw [ht.tm, hw.noted.tm, H.heat]

theorem State.AtCommit.does {P : State → Prop} (hc : s.commit n.val = t) (h : P t) : Does (.commitDecision n) s P :=
  ⟨t, (if_pos H.plays).trans (by rw [hc]), h⟩

/-- At no opportunity, and at none whose condition is met, the visit goes on. -/
theorem State.AtCommit.commit_goOn (h : isOpp x v.f o = false ∨ u.condMet n.val x = false) :
    s.commit n.val = (u.judged n.val v x o).goOn n.val v x o := by
  rw [H.commit_eq, State.judged_condMet n.isLt]
  rcases h with h | h
  · rw [h, Bool.false_and, if_neg Bool.false_ne_true]
  · rw [h, Bool.and_false, if_neg Bool.false_ne_true]

/-- Within its laps the visit goes on (R90). -/
theorem State.AtCommit.commit_within (ho : isOpp x v.f o = false) (hl : isLastEnd x v.f o = false) :
    s.commit n.val = (u.judged n.val v x o).addDec n.val ⟨o, .go⟩ := by
  rw [H.commit_goOn (.inl ho), State.goOn_within ho hl]

/-- At its last end the visit ends (R90). -/
theorem State.AtCommit.commit_ends (h : isOpp x v.f o = false ∨ u.condMet n.val x = false) (hl : isLastEnd x v.f o = true) :
    ∃ w, Poised n.val v o u w ∧ s.commit n.val = w.endOn n.val x o := by
  obtain ⟨arg, hgo⟩ := State.goOn_ends (s := u.judged n.val v x o) (n := n.val) hl
  exact ⟨_, (Poised.judged n.isLt).mirDecision n.val 0 (o - 48) arg, (H.commit_goOn h).trans hgo⟩

/-- The natural continuation that is not ready is a shortfall (R77, R99). -/
theorem State.AtCommit.commit_short (ho : isOpp x v.f o = false) (hl : isLastEnd x v.f o = true) (ha : x.endAct = 0)
    (hr : u.contReady n.val x.succ = false) :
    ∃ w, Poised n.val v o u w ∧ s.commit n.val = w.shortfall n.val o x.succ false := by
  obtain ⟨w, hw, hc⟩ := H.commit_ends (.inl ho) hl
  refine ⟨w, hw, hc.trans ?_⟩
  rw [State.endOn_natural ha, State.select, hw.contReady, hr, if_neg Bool.false_ne_true]

/-- A condition that is met at an opportunity selects the target; a pulse's latch is clear (R93). -/
theorem State.AtCommit.commit_jumps (ho : isOpp x v.f o = true) (hm : u.condMet n.val x = true) :
    ∃ w, Poised n.val v o u w ∧ (u.evLevelKind x.jevt = false → w.latched n.val x.jevt = false) ∧
      s.commit n.val = w.select n.val o x.target true := by
  have hevt : x.jevt < 64 := by
    rw [H.entry]
    exact getBits_lt 0 6 _
  obtain ⟨arg, hjump⟩ := (u.judged n.val v x o).jumpOn_selects n.val x o
  refine ⟨_, ((Poised.judged (x := x) n.isLt).consumed n.isLt x.jevt).mirDecision n.val 0 (o - 48) arg, fun hk => ?_, ?_⟩
  · rw [State.mirDecision_latched]
    exact State.consumed_latched hevt ((State.judged_evLevelKind n.isLt).trans hk)
  · rw [H.commit_eq, State.judged_condMet n.isLt, ho, hm, ← hjump]
    rfl

end

end
end Sys2Proof.Machine
end

section
/-! SUPPORT. COMMIT_DECISION, case by case (R77, R90, R92, R93, R99–R102). -/

namespace Sys2Proof.Machine

section
variable {s u : State} {n : Fin 8} {v : Visit} {x : Entry} {o : Nat} (H : s.AtCommit n v x o u)
include H

theorem commitDecision_within (ho : isOpp x v.f o = false) (hl : isLastEnd x v.f o = false) :
    Does (.commitDecision n) s fun t => (t.sqn n.val).next = [(⟨o, .go⟩ : Dec)] ∧ (t.sqn n.val).visit = some { v with cur := o } ∧
    t.tm.heat = o - 48 :=
  H.does (H.commit_within ho hl) (H.decided (Poised.judged n.isLt) (Adds.addDec _))

theorem commitDecision_succeeds (h : isOpp x v.f o = false ∨ u.condMet n.val x = false) (hl : isLastEnd x v.f o = true)
    (ha : x.endAct = 0) (hr : u.contReady n.val x.succ = true) : Does (.commitDecision n) s fun t =>
    (t.sqn n.val).next = [(⟨o, .visit x.succ false⟩ : Dec)] ∧ (t.sqn n.val).visit = some { v with cur := o } ∧
    t.tm.heat = o - 48 := by
  obtain ⟨w, hw, hc⟩ := H.commit_ends h hl
  rw [State.endOn_natural ha] at hc
  exact H.does hc (H.decided hw (Adds.select ((hw.contReady _).trans hr)))

theorem commitDecision_stops (h : isOpp x v.f o = false ∨ u.condMet n.val x = false) (hl : isLastEnd x v.f o = true)
    (ha : x.endAct ≠ 0) : Does (.commitDecision n) s fun t =>
    (t.sqn n.val).next = [(⟨o, .stop (decide (x.endAct = 1)) 0⟩ : Dec)] ∧ (t.sqn n.val).visit = some { v with cur := o } ∧
    t.tm.heat = o - 48 := by
  obtain ⟨w, hw, hc⟩ := H.commit_ends h hl
  rw [State.endOn_stops ha] at hc
  exact H.does hc (H.decided hw (Adds.addDec _))

theorem commitDecision_jumps (ho : isOpp x v.f o = true) (hm : u.condMet n.val x = true)
    (hr : u.contReady n.val x.target = true) : Does (.commitDecision n) s fun t =>
    (t.sqn n.val).next = [(⟨o, .visit x.target true⟩ : Dec)] ∧ (t.sqn n.val).visit = some { v with cur := o } ∧ t.tm.heat =
    o - 48 ∧ (u.evLevelKind x.jevt = false → t.latched n.val x.jevt = false) := by
  obtain ⟨w, hw, hlatch, hc⟩ := H.commit_jumps ho hm
  have hready : w.contReady n.val x.target = true := (hw.contReady _).trans hr
  obtain ⟨hnext, hvisit, hheat⟩ := H.decided hw (Adds.select (o := o) (j := true) hready)
  exact H.does hc ⟨hnext, hvisit, hheat, fun hk => (State.select_latched hready).trans (hlatch hk)⟩

section
variable (ho : isOpp x v.f o = false) (hl : isLastEnd x v.f o = true) (ha : x.endAct = 0) (hr : u.contReady n.val x.succ = false)
include ho hl ha hr

theorem commitDecision_holds (hf : x.refill = 2) : Does (.commitDecision n) s fun t =>
    (t.sqn n.val).next = [(⟨o, .hold x.succ⟩ : Dec)] ∧ (t.sqn n.val).visit = some { v with cur := o } ∧ t.tm.heat = o - 48 ∧
    t.fld (F.SQ_FLAGS_SHORTFALL n.val) = 1 := by
  obtain ⟨w, hw, hc⟩ := H.commit_short ho hl ha hr
  rw [State.shortfall_eq hw.visit, H.entry_eq hw, hf, if_neg (by decide), if_pos rfl] at hc
  obtain ⟨hnext, hvisit, hheat⟩ := H.decided hw ((Adds.shortNoted n.isLt).trans (Adds.addDec _))
  exact H.does hc ⟨hnext, hvisit, hheat, w.shortNoted_flag _ _ n.isLt⟩

theorem commitDecision_extends (hf : x.refill = 0) (hx : x.maxExt ≠ 0) : Does (.commitDecision n) s fun t =>
    (t.sqn n.val).next = [(⟨o, .go⟩ : Dec)] ∧ (t.sqn n.val).visit = some { v with cur := o } ∧ t.tm.heat = o - 48 ∧
    (t.sqn n.val).pend = some x.succ ∧ t.fld (F.SQ_STAT_PENDING n.val) = 1 := by
  obtain ⟨w, hw, hc⟩ := H.commit_short ho hl ha hr
  have hroom : (w.shortNoted n.val x.succ { v with cur := o }).extFull n.val x = false := by
    rw [State.extFull, State.sqn_congr (w.shortNoted_sq _ _ _), H.noPend hw]
    exact decide_eq_false hx
  rw [State.shortfall_eq hw.visit, H.entry_eq hw, if_pos hf, hroom, if_neg Bool.false_ne_true] at hc
  set y := w.shortNoted n.val x.succ { v with cur := o }
  have hpends : Adds n.val [] y (y.setSq n.val { y.sqn n.val with pend := some x.succ, pendJump := false }) := Adds.setSq rfl rfl
  obtain ⟨hnext, hvisit, hheat⟩ := H.decided hw
    ((((Adds.shortNoted n.isLt).trans hpends).trans Adds.raise).trans (Adds.addDec ⟨o, .go⟩))
  refine H.does hc ⟨hnext, hvisit, hheat, ?_, State.raise_fld_self (by simp only; decide)⟩
  rw [State.addDec, State.setSq_sqn_self]
  exact congrArg Sq.pend (State.setSq_sqn_self y n.val _)

theorem commitDecision_fallsBack (hf : x.refill = 1) (hb : x.fbRest = false)
    (hs : (u.seg (u.entry n.val x.fallback).seg).staged = false) (hd : u.segFenced (u.entry n.val x.fallback).seg = false) :
    Does (.commitDecision n) s fun t => (t.sqn n.val).next = [(⟨o, .fallback (some x.fallback) 0 2⟩ : Dec)] ∧ (t.sqn
    n.val).visit = some { v with cur := o } ∧ t.tm.heat = o - 48 := by
  obtain ⟨w, hw, hc⟩ := H.commit_short ho hl ha hr
  rw [State.shortfall_eq hw.visit, H.entry_eq hw, hf, if_neg (by decide), if_neg (by decide)] at hc
  set y := w.shortNoted n.val x.succ { v with cur := o } with hy
  have hnoted : Noted u y := hw.noted.trans (Noted.shortNoted n.isLt)
  have hentry : y.entry n.val v.entry = x := ((Noted.shortNoted n.isLt).entry _ _).trans (H.entry_eq hw)
  have hvisit : (y.sqn n.val).visit = some { v with cur := o } := by
    rw [hy, State.sqn_congr (w.shortNoted_sq _ _ _), hw.visit]
  have hdecide : y.decideFallback n.val o 0 2 = y.fallbackOf n.val v.entry o 0 2 := by
    unfold State.decideFallback
    rw [hvisit]
  have hadds : Adds n.val [⟨o, .fallback (some x.fallback) 0 2⟩] y (y.fallbackOf n.val v.entry o 0 2) := by
    have h := Adds.fallbackOf (s := y) (n := n.val) (e := v.entry) (o := o) (c := 0) (sc := 2)
    rw [hentry, hnoted.entry, hnoted.seg, hnoted.segFenced] at h
    exact h hb hs hd
  rw [hdecide] at hc
  exact H.does hc (H.decided hw ((Adds.shortNoted n.isLt).trans hadds))

end
end

/-- Settles O15: the commit tick's chain of choices, each case with what it adds to the sequencer's decisions. -/
theorem commitDecisions : Obligations.CommitDecisions := by
  unfold Obligations.CommitDecisions
  refine ⟨?_, ?_, ?_, ?_, ?_, ?_, ?_⟩
  · exact fun _ _ _ _ _ _ hp hv hn hh hs hx ho hk hd hu he => commitDecision_within ⟨hp, hv, hn, hh, hs, hx, ho, hk, hd, hu, he⟩
  · exact fun _ _ _ _ _ _ hp hv hn hh hs hx ho hk hd hu he => commitDecision_succeeds ⟨hp, hv, hn, hh, hs, hx, ho, hk, hd, hu, he⟩
  · exact fun _ _ _ _ _ _ hp hv hn hh hs hx ho hk hd hu he => commitDecision_stops ⟨hp, hv, hn, hh, hs, hx, ho, hk, hd, hu, he⟩
  · exact fun _ _ _ _ _ _ hp hv hn hh hs hx ho hk hd hu he => commitDecision_jumps ⟨hp, hv, hn, hh, hs, hx, ho, hk, hd, hu, he⟩
  · exact fun _ _ _ _ _ _ hp hv hn hh hs hx ho hk hd hu he => commitDecision_holds ⟨hp, hv, hn, hh, hs, hx, ho, hk, hd, hu, he⟩
  · exact fun _ _ _ _ _ _ hp hv hn hh hs hx ho hk hd hu he hopp hl ha hr hf hm _ =>
      commitDecision_extends ⟨hp, hv, hn, hh, hs, hx, ho, hk, hd, hu, he⟩ hopp hl ha hr hf hm
  · exact fun _ _ _ _ _ _ hp hv hn hh hs hx ho hk hd hu he => commitDecision_fallsBack ⟨hp, hv, hn, hh, hs, hx, ho, hk, hd, hu, he⟩

end Sys2Proof.Machine
end

section
/-! SUPPORT. The passing of time (R44, R84, R85): the state but for the registers, the outputs and what is on its way to them, the
sequencers' own records, the mirror link and the clock; and the registers that it leaves. -/

namespace Sys2Proof.Machine

/-- `t` is `s` but for registers, what is on its way to the outputs, channels, pins, sequencers, the mirror link with its frames, free
values and the timebase's own state. -/
def PassOnly (s t : State) : Prop :=
  ∃ g e f v q m l n x, t = { s with regs := g, eff := e, fc := f, vp := v, sq := q, mir := m, sent := l, free := n, tm := x }

section
variable {s t u : State} {a n k : Nat}

theorem PassOnly.refl (s : State) : PassOnly s s := ⟨_, _, _, _, _, _, _, _, _, rfl⟩

theorem PassOnly.trans (h : PassOnly s t) (g : PassOnly t u) : PassOnly s u := by
  obtain ⟨_, _, _, _, _, _, _, _, _, rfl⟩ := h
  obtain ⟨_, _, _, _, _, _, _, _, _, rfl⟩ := g
  exact ⟨_, _, _, _, _, _, _, _, _, rfl⟩

theorem PassOnly.ite {c : Prop} [Decidable c] (h : PassOnly s t) (g : PassOnly s u) : PassOnly s (if c then t else u) := by
  split
  · exact h
  · exact g

theorem PassOnly.foldl {α : Type} {l : List α} {f : State → α → State} (h : ∀ t x, PassOnly t (f t x)) : PassOnly s (l.foldl f s) :=
  List.foldlRecOn (motive := fun t => PassOnly s t) l f (PassOnly.refl s) fun t ht x _ => ht.trans (h t x)

theorem PassOnly.wr {v : Word} : PassOnly s (s.wr a v) := ⟨_, _, _, _, _, _, _, _, _, rfl⟩

theorem PassOnly.setSq {q : Sq} : PassOnly s (s.setSq n q) := ⟨_, _, _, _, _, _, _, _, _, rfl⟩

theorem PassOnly.setFc {c : Fc} : PassOnly s (s.setFc n c) := ⟨_, _, _, _, _, _, _, _, _, rfl⟩

theorem PassOnly.copyShadow : PassOnly s (s.copyShadow k a) := by
  unfold State.copyShadow
  split
  · exact PassOnly.refl s
  · exact PassOnly.wr.trans (PassOnly.ite ⟨_, _, _, _, _, _, _, _, _, rfl⟩ (PassOnly.refl _))

theorem PassOnly.copyInst {b : BufInst} : PassOnly s (s.copyInst k b) :=
  PassOnly.ite (PassOnly.foldl fun _ _ => PassOnly.copyShadow) (PassOnly.refl s)

theorem PassOnly.moveDelay {old : State} {j : Nat} : PassOnly s (s.moveDelay old j k) :=
  PassOnly.ite PassOnly.setFc (PassOnly.ite ⟨_, _, _, _, _, _, _, _, _, rfl⟩ (PassOnly.refl s))

theorem PassOnly.retrim {old : State} : PassOnly s (s.retrim old k) :=
  PassOnly.foldl fun _ _ => PassOnly.ite (PassOnly.refl _) (PassOnly.ite (PassOnly.moveDelay.trans PassOnly.wr) PassOnly.moveDelay)

theorem PassOnly.strobe {g : Nat} : PassOnly s (s.strobe k g) := by
  unfold State.strobe
  extract_lets s1 s2 s3
  have h1 : PassOnly s s1 := PassOnly.ite ((PassOnly.foldl fun _ _ => PassOnly.copyInst).trans PassOnly.retrim) (PassOnly.refl s)
  have h2 : PassOnly s1 s2 := PassOnly.foldl fun _ _ =>
    PassOnly.ite (PassOnly.ite (PassOnly.copyInst.trans PassOnly.setFc) PassOnly.copyInst) (PassOnly.refl _)
  have h3 : PassOnly s2 s3 := PassOnly.foldl fun _ _ => PassOnly.ite PassOnly.copyInst (PassOnly.refl _)
  exact ((h1.trans h2).trans h3).trans (PassOnly.ite PassOnly.copyInst (PassOnly.refl s3))

theorem PassOnly.prepOuts {e o : Nat} : PassOnly s (s.prepOuts n e o) :=
  (PassOnly.foldl fun _ _ => PassOnly.strobe).trans (PassOnly.ite (PassOnly.foldl fun _ _ => PassOnly.setFc) (PassOnly.refl _))

theorem PassOnly.mirFrame {b : List Byte} : PassOnly s (s.mirFrame k b n) :=
  PassOnly.ite ⟨_, _, _, _, _, _, _, _, _, rfl⟩ (PassOnly.refl s)

theorem PassOnly.mirSend {b : List Byte} : PassOnly s (s.mirSend k b) :=
  PassOnly.trans (t := s.takeFree) ⟨_, _, _, _, _, _, _, _, _, rfl⟩ PassOnly.mirFrame

theorem PassOnly.lateNotes : PassOnly s s.lateNotes := PassOnly.foldl fun t m => by
  unfold State.lateNote
  dsimp only
  split
  · exact PassOnly.refl t
  · split
    · exact PassOnly.setSq
    · exact PassOnly.ite (PassOnly.refl t) PassOnly.setSq

theorem PassOnly.toTick : PassOnly s (s.toTick k) := PassOnly.ite ⟨_, _, _, _, _, _, _, _, _, rfl⟩ (PassOnly.refl s)

theorem PassOnly.linkTime {h : Nat} : PassOnly s (s.linkTime k h) := by
  have hdrain : PassOnly s (s.mirDrain k) := PassOnly.ite (PassOnly.refl s)
    (PassOnly.trans ⟨_, _, _, _, _, _, _, _, _, rfl⟩ (PassOnly.foldl fun _ _ => PassOnly.mirSend.trans PassOnly.mirFrame))
  exact hdrain.trans (PassOnly.ite ⟨_, _, _, _, _, _, _, _, _, rfl⟩ (PassOnly.refl _))

theorem PassOnly.holdPrep : PassOnly s (s.holdPrep n) := by
  unfold State.holdPrep
  dsimp only
  split
  · exact PassOnly.ite (PassOnly.refl s) (PassOnly.setSq.trans PassOnly.prepOuts)
  · exact PassOnly.refl s

theorem PassOnly.fineUp : PassOnly s (s.fineUp k) := by
  unfold State.fineUp
  refine PassOnly.ite (PassOnly.refl s) (PassOnly.ite ⟨_, _, _, _, _, _, _, _, _, rfl⟩ ?_)
  extract_lets cs ls ts s1
  have hs1 : PassOnly s s1 := PassOnly.foldl fun _ _ => PassOnly.foldl fun _ _ => ⟨_, _, _, _, _, _, _, _, _, rfl⟩
  exact hs1.trans ⟨_, _, _, _, _, _, _, _, _, rfl⟩

theorem PassOnly.passTo : PassOnly s (s.passTo k) :=
  (((PassOnly.lateNotes.trans PassOnly.toTick).trans PassOnly.linkTime).trans
    (PassOnly.ite (PassOnly.foldl fun _ _ => PassOnly.holdPrep) (PassOnly.refl _))).trans PassOnly.fineUp

theorem PassOnly.q (h : PassOnly s t) : t.q = s.q := by obtain ⟨_, _, _, _, _, _, _, _, _, rfl⟩ := h; rfl
theorem PassOnly.mem (h : PassOnly s t) : t.mem = s.mem := by obtain ⟨_, _, _, _, _, _, _, _, _, rfl⟩ := h; rfl
theorem PassOnly.plan (h : PassOnly s t) : t.plan = s.plan := by obtain ⟨_, _, _, _, _, _, _, _, _, rfl⟩ := h; rfl
theorem PassOnly.dram (h : PassOnly s t) : t.dram = s.dram := by obtain ⟨_, _, _, _, _, _, _, _, _, rfl⟩ := h; rfl
theorem PassOnly.sup (h : PassOnly s t) : t.sup = s.sup := by obtain ⟨_, _, _, _, _, _, _, _, _, rfl⟩ := h; rfl
theorem PassOnly.sel (h : PassOnly s t) : t.sel = s.sel := by obtain ⟨_, _, _, _, _, _, _, _, _, rfl⟩ := h; rfl
theorem PassOnly.ev (h : PassOnly s t) : t.ev = s.ev := by obtain ⟨_, _, _, _, _, _, _, _, _, rfl⟩ := h; rfl

/-! ### Registers that time leaves -/

/-- The registers that the passing of time may change: those of a strobe, and the outputs'. -/
def timeReg (a : Nat) : Bool := strobeReg a || outReg a

theorem strobeReg_of_timeReg (h : timeReg a = false) : strobeReg a = false := (Bool.or_eq_false_iff.1 h).1

theorem outReg_of_timeReg (h : timeReg a = false) : outReg a = false := (Bool.or_eq_false_iff.1 h).2

theorem State.lateNotes_regs (s : State) : s.lateNotes.regs = s.regs :=
  List.foldlRecOn (motive := fun t : State => t.regs = s.regs) _ _ rfl fun t ht m _ => by
    unfold State.lateNote
    dsimp only
    split
    · exact ht
    · split
      · exact ht
      · split
        · exact ht
        · exact ht

theorem State.toTick_regs (s : State) (k : Nat) : (s.toTick k).regs = s.regs := by
  unfold State.toTick
  split
  · rfl
  · rfl

theorem State.linkTime_regs (s : State) (k h : Nat) : (s.linkTime k h).regs = s.regs := by
  have hdrain : (s.mirDrain k).regs = s.regs := by
    unfold State.mirDrain
    split
    · rfl
    · exact List.foldlRecOn (motive := fun t : State => t.regs = s.regs) _ _ rfl fun t ht r _ =>
        ((State.mirFrame_regs _ _ _ _).trans (State.mirFrame_regs _ _ _ _)).trans ht
  unfold State.linkTime State.markNote
  dsimp only
  split
  · exact hdrain
  · exact hdrain

theorem State.holdPreps_rd (h : strobeReg a = false) : s.holdPreps.rd a = s.rd a := by
  unfold State.holdPreps
  split
  · refine List.foldlRecOn (motive := fun t : State => t.rd a = s.rd a) _ _ rfl fun t ht m _ => ?_
    unfold State.holdPrep
    dsimp only
    split
    · split
      · exact ht
      · exact (Strobed.prepOuts.rd a h).trans ht
    · exact ht
  · rfl

theorem State.rd_of_regs (h : t.regs = s.regs) (a : Nat) : t.rd a = s.rd a := by rw [State.rd, h]; rfl

theorem State.passTo_rd (h : timeReg a = false) : (s.passTo k).rd a = s.rd a := by
  unfold State.passTo State.passed
  rw [Woken.fineNow.rd a (outReg_of_timeReg h), State.holdPreps_rd (strobeReg_of_timeReg h), State.rd_of_regs (State.linkTime_regs _ _ _),
    State.rd_of_regs (State.toTick_regs _ _), State.rd_of_regs s.lateNotes_regs]

/-! ### The sequencers' records and the heat tick -/

theorem State.holdPrep_record (s : State) (m n : Nat) : ∃ p, (s.holdPrep m).sqn n = { s.sqn n with prep := p } := by
  unfold State.holdPrep
  dsimp only
  split
  · split
    · exact ⟨_, rfl⟩
    · by_cases hm : n = m
      · subst hm
        exact ⟨none, (State.sqn_congr Strobed.prepOuts.sq n).trans (State.setSq_sqn_self _ _ _)⟩
      · exact ⟨_, (State.sqn_congr Strobed.prepOuts.sq n).trans (State.setSq_sqn_ne hm)⟩
  · exact ⟨_, rfl⟩

theorem State.holdPreps_record (s : State) (n : Nat) : ∃ p, s.holdPreps.sqn n = { s.sqn n with prep := p } := by
  unfold State.holdPreps
  split
  · exact List.foldlRecOn (motive := fun t : State => ∃ p, t.sqn n = { s.sqn n with prep := p }) _ _ ⟨_, rfl⟩ fun t ⟨p, hp⟩ m _ => by
      obtain ⟨r, hr⟩ := t.holdPrep_record m n
      exact ⟨r, by rw [hr, hp]⟩
  · exact ⟨_, rfl⟩

/-- Time leaves a sequencer's record, but for its late copy and what a resolved hold has loaded. -/
theorem State.passTo_sqn (s : State) (k n : Nat) : ∃ f p, (s.passTo k).sqn n = { s.sqn n with lateFrom := f, prep := p } := by
  obtain ⟨f, hf⟩ := s.lateNotes_sqn n
  unfold State.passTo State.passed
  obtain ⟨p, hp⟩ := ((s.lateNotes.toTick k).linkTime (k - s.tm.tb) s.tm.heat).holdPreps_record n
  refine ⟨f, p, ?_⟩
  rw [State.sqn_congr Woken.fineNow.sq, hp, State.sqn_congr (State.linkTime_sq _ _ _), State.sqn_congr (State.toTick_sq _ _), hf]

theorem State.passTo_heat (s : State) (k : Nat) : (s.passTo k).tm.heat =
    if s.tm.tb < k ∧ s.fld F.SEQ_STAT_HEAT = 3 then s.tm.heat + (k - s.tm.tb) else s.tm.heat := by
  have hlate : s.lateNotes.tm = s.tm := (Noted.lateNotes s).tm
  have hrun : s.lateNotes.fld F.SEQ_STAT_HEAT = s.fld F.SEQ_STAT_HEAT :=
    congrArg (getBits _ _) (State.rd_of_regs s.lateNotes_regs _)
  unfold State.passTo State.passed
  rw [Woken.fineNow.heat, (Noted.holdPreps _).tm, (Noted.linkTime _ _ _).tm, State.toTick_heat, hlate, hrun]

/-- A running heat has reached the tick, or is beyond it (R85). -/
theorem State.arrive_heat_max (hrun : s.fld F.SEQ_STAT_HEAT = 3) (h : Nat) : (s.arrive h).tm.heat = max s.tm.heat h := by
  unfold State.arrive
  rw [State.passTo_heat, hrun]
  split <;> omega

end
end Sys2Proof.Machine
end

section
/-! SUPPORT. Fields of registers that an operation leaves; and those that stand while a sequencer decides (R92–R102). -/

namespace Sys2Proof.Machine

/-- The fields of which `K` holds are in `t` as in `s`. -/
def Leaves (K : Fld → Bool) (s t : State) : Prop := ∀ f, K f = true → t.fld f = s.fld f

section
variable {K : Fld → Bool} {s t u : State}

theorem Leaves.refl (K : Fld → Bool) (s : State) : Leaves K s s := fun _ _ => rfl

theorem Leaves.trans (h : Leaves K s t) (g : Leaves K t u) : Leaves K s u := fun f hf => (g f hf).trans (h f hf)

theorem Leaves.ite {c : Prop} [Decidable c] (h : Leaves K s t) (g : Leaves K s u) : Leaves K s (if c then t else u) := by
  split
  · exact h
  · exact g

theorem Leaves.foldl {α : Type} {l : List α} {f : State → α → State} (h : ∀ t, ∀ x ∈ l, Leaves K t (f t x)) :
    Leaves K s (l.foldl f s) :=
  List.foldlRecOn (motive := fun t => Leaves K s t) l f (Leaves.refl K s) fun t ht x hx => ht.trans (h t x hx)

/-- A change of no register. -/
theorem Leaves.regs (h : t.regs = s.regs) : Leaves K s t := fun f _ => congrArg (getBits f.lo f.w) (State.rd_of_regs h f.a)

/-- A change of registers in which no field of `K` lies. -/
theorem Leaves.rd {A : Nat → Bool} (h : ∀ a, A a = false → t.rd a = s.rd a) (hK : ∀ f, K f = true → A f.a = false) : Leaves K s t :=
  fun f hf => congrArg (getBits f.lo f.w) (h f.a (hK f hf))

theorem Leaves.put {g : Fld} {v : Nat} (h : ∀ f, K f = true → Fld.apart f g = true) : Leaves K s (s.put g v) :=
  fun f hf => State.put_fld_apart (h f hf)

theorem Leaves.wr {a : Nat} {v : Word} (h : ∀ f, K f = true → f.a ≠ a) : Leaves K s (s.wr a v) := fun f hf => State.wr_fld_ne (h f hf)

theorem Leaves.setSq (s : State) (n : Nat) (q : Sq) : Leaves K s (s.setSq n q) := Leaves.regs rfl

theorem Leaves.mono {L : Fld → Bool} (h : Leaves K s t) (hL : ∀ f, L f = true → K f = true) : Leaves L s t := fun f hf => h f (hL f hf)

theorem Leaves.event {r : Rec} (h : ∀ f, K f = true → f.a ∉ evRegs) : Leaves K s (s.event r) := fun f hf => State.event_fld (h f hf)

theorem Leaves.flag (h : Leaves K s t) {f : Fld} (hf : K f = true) : t.flag f = s.flag f := by
  unfold State.flag
  rw [h f hf]

end

/-! ### What stands while a sequencer decides -/

/-- A field is no part of a sequencer's exchange zone, of what it counts of shortfalls, or of its latches. -/
def steadySq (f : Fld) (m : Nat) : Bool :=
  Fld.apart f (F.SQ_STAT_ZONE m) && Fld.apart f (F.SQ_STAT_PENDING m) && Fld.apart f (F.SQ_FLAGS_SHORTFALL m) &&
    decide (f.a ≠ (F.SQ_CNT_SHORT_COUNT m).a) && decide (f.a ≠ (F.SQ_LATCH_LO_LATCH m).a) && decide (f.a ≠ (F.SQ_LATCH_HI_LATCH m).a)

/-- The fields that stand while a sequencer decides and while time passes: none that a strobe, a record, the outputs, a bank's reader, a
shortfall, the exchange zone or a latch changes. -/
def steady (f : Fld) : Bool :=
  !timeReg f.a && !evRegs.contains f.a && decide (f.a ≠ F.TRK_STAT_RET_HIT.a) && (List.range 8).all (steadySq f)

section
variable {f : Fld} {m : Nat} (h : steady f = true)
include h

theorem steady_parts : timeReg f.a = false ∧ f.a ∉ evRegs ∧ f.a ≠ F.TRK_STAT_RET_HIT.a ∧ ∀ m < 8, steadySq f m = true := by
  simpa only [steady, Bool.and_eq_true, Bool.not_eq_true', decide_eq_true_eq, List.all_eq_true, List.mem_range,
    ← Bool.not_eq_true, List.contains_iff_mem, and_assoc] using h

theorem timeReg_of_steady : timeReg f.a = false := (steady_parts h).1

theorem strobeReg_of_steady : strobeReg f.a = false := strobeReg_of_timeReg (timeReg_of_steady h)

theorem outReg_of_steady : outReg f.a = false := outReg_of_timeReg (timeReg_of_steady h)

theorem evRegs_of_steady : f.a ∉ evRegs := (steady_parts h).2.1

theorem steadySq_parts (hm : m < 8) : Fld.apart f (F.SQ_STAT_ZONE m) = true ∧ Fld.apart f (F.SQ_STAT_PENDING m) = true ∧
    Fld.apart f (F.SQ_FLAGS_SHORTFALL m) = true ∧ f.a ≠ (F.SQ_CNT_SHORT_COUNT m).a ∧ f.a ≠ (F.SQ_LATCH_LO_LATCH m).a ∧
    f.a ≠ (F.SQ_LATCH_HI_LATCH m).a := by
  simpa only [steadySq, Bool.and_eq_true, decide_eq_true_eq, and_assoc] using (steady_parts h).2.2.2 m hm

theorem latch_of_steady (hm : m < 8) (ev : Nat) : f.a ≠ (latchFld m ev).a := by
  obtain ⟨-, -, -, -, hlow, hhigh⟩ := steadySq_parts h hm
  unfold latchFld
  split
  · exact hlow
  · exact hhigh

end

theorem apart_of_ne {f g : Fld} (h : f.a ≠ g.a) : Fld.apart f g = true := by simp only [Fld.apart, h, ne_eq, not_false_eq_true, decide_true, Bool.true_or]

section
variable {s t : State} {n e o : Nat}

theorem Strobed.leaves (h : Strobed s t) : Leaves steady s t := Leaves.rd h.rd fun _ => strobeReg_of_steady

theorem Woken.leaves (h : Woken outReg s t) : Leaves steady s t := Leaves.rd h.rd fun _ => outReg_of_steady

theorem Leaves.passTo {k : Nat} : Leaves steady s (s.passTo k) := Leaves.rd (A := timeReg) (fun _ => State.passTo_rd) fun _ => timeReg_of_steady

theorem Leaves.sqRec {c d : Nat} : Leaves steady s (s.sqRec n c d o) := Leaves.event fun _ => evRegs_of_steady

end

/-! ### Deciding -/

/-- Sequencer `n` has decided for tick `o`: its visit and its hold stand, what it adds to its decisions is for `o`, and it leaves the other
sequencers' records, the time and the steady fields. -/
structure Decides (n o : Nat) (s t : State) : Prop where
  leaves : Leaves steady s t
  tm : t.tm = s.tm
  visit : (t.sqn n).visit = (s.sqn n).visit
  hold : (t.sqn n).hold = (s.sqn n).hold
  next : ∀ d ∈ (t.sqn n).next, d ∈ (s.sqn n).next ∨ d.o = o
  others : ∀ m, m ≠ n → t.sqn m = s.sqn m

section
variable {s t u : State} {n e o : Nat}

theorem Decides.refl (s : State) : Decides n o s s := ⟨Leaves.refl _ s, rfl, rfl, rfl, fun _ => .inl, fun _ _ => rfl⟩

theorem Decides.trans (h : Decides n o s t) (g : Decides n o t u) : Decides n o s u where
  leaves := h.leaves.trans g.leaves
  tm := g.tm.trans h.tm
  visit := g.visit.trans h.visit
  hold := g.hold.trans h.hold
  next := fun d hd => (g.next d hd).elim (h.next d) .inr
  others := fun m hm => (g.others m hm).trans (h.others m hm)

theorem Decides.ite {c : Prop} [Decidable c] (h : Decides n o s t) (g : Decides n o s u) : Decides n o s (if c then t else u) := by
  split
  · exact h
  · exact g

theorem Decides.foldl {α : Type} {l : List α} {f : State → α → State} (h : ∀ t, ∀ x ∈ l, Decides n o t (f t x)) :
    Decides n o s (l.foldl f s) :=
  List.foldlRecOn (motive := fun t => Decides n o s t) l f (Decides.refl s) fun t ht x hx => ht.trans (h t x hx)

/-- A change that leaves every sequencer's record. -/
theorem Decides.frame (h : Leaves steady s t) (htm : t.tm = s.tm) (hsq : t.sq = s.sq) : Decides n o s t where
  leaves := h
  tm := htm
  visit := by rw [State.sqn_congr hsq]
  hold := by rw [State.sqn_congr hsq]
  next := fun d hd => .inl (State.sqn_congr hsq n ▸ hd)
  others := fun m _ => State.sqn_congr hsq m

theorem Decides.put {f : Fld} {v : Nat} (h : ∀ g, steady g = true → Fld.apart g f = true) : Decides n o s (s.put f v) :=
  Decides.frame (Leaves.put h) rfl rfl

theorem Decides.woken (h : Woken outReg s t) (htm : t.tm = s.tm) : Decides n o s t := Decides.frame h.leaves htm h.sq

/-- A change of the sequencer's own record alone. -/
theorem Decides.setSq {q : Sq} (hvisit : q.visit = (s.sqn n).visit := by rfl) (hhold : q.hold = (s.sqn n).hold := by rfl)
    (hnext : ∀ d ∈ q.next, d ∈ (s.sqn n).next ∨ d.o = o := by exact fun _ => .inl) : Decides n o s (s.setSq n q) where
  leaves := Leaves.setSq s n q
  tm := rfl
  visit := by rw [State.setSq_sqn_self, hvisit]
  hold := by rw [State.setSq_sqn_self, hhold]
  next := fun d hd => hnext d (State.setSq_sqn_self s n q ▸ hd)
  others := fun _ hm => State.setSq_sqn_ne hm

theorem Decides.sqRec {c d k : Nat} : Decides n o s (s.sqRec n c d k) :=
  Decides.frame Leaves.sqRec (State.event_tm s _) (State.event_sq s _)

theorem Decides.mirDecision {k d arg : Nat} : Decides n o s (s.mirDecision n k d arg) :=
  Decides.frame (Leaves.regs (s.mirDecision_frame n k d arg).2) (Noted.mirDecision s n k d arg).tm
    (s.mirDecision_frame n k d arg).1

theorem Decides.prepVisit {k : Nat} : Decides n o s (s.prepVisit n e k) := by
  have houts : Decides n o s (s.prepOuts n e k) :=
    have h : Strobed s (s.prepOuts n e k) := Strobed.prepOuts
    Decides.frame h.leaves (Noted.prepOuts s n e k).tm h.sq
  have hgroup : ∀ t : State, Decides n o t (t.prepGroup n e) := fun t => by
    unfold State.prepGroup State.stageLoad
    exact Decides.ite (Decides.refl t) (Decides.ite (Decides.refl t) Decides.setSq)
  exact houts.trans (hgroup _)

theorem Decides.addDec {c : Cont} : Decides n o s (s.addDec n ⟨o, c⟩) :=
  Decides.setSq (hnext := fun d hd => (List.mem_append.1 hd).imp id fun hd => congrArg Dec.o (List.mem_singleton.1 hd))

theorem Decides.takeTail {k : Nat} : Decides n o s (s.takeTail n k) := Decides.setSq

theorem Decides.decideFallback {c sc : Nat} : Decides n o s (s.decideFallback n o c sc) := by
  unfold State.decideFallback
  split
  · exact Decides.refl s
  · exact Decides.ite Decides.addDec ((Decides.prepVisit.trans Decides.addDec).trans Decides.takeTail)

section
variable (hn : n < 8)
include hn

theorem Decides.zones {l : List (Nat × Nat)} : Decides n o s (s.zones n l) :=
  Decides.trans Decides.setSq (Decides.put fun _ hf => (steadySq_parts hf hn).1)

theorem Decides.putLatch {ev v : Nat} : Decides n o s (s.put (latchFld n ev) v) :=
  Decides.put fun _ hf => apart_of_ne (latch_of_steady hf hn ev)

theorem Decides.shortfall {j : Bool} : Decides n o s (s.shortfall n o e j) := by
  cases hv : (s.sqn n).visit with
  | none =>
    unfold State.shortfall
    rw [hv]
    exact Decides.refl s
  | some v =>
    have hnoted : Decides n o s (s.shortNoted n e v) :=
      ((Decides.put fun _ hf => apart_of_ne (steadySq_parts hf hn).2.2.2.1).trans
        (Decides.put fun _ hf => (steadySq_parts hf hn).2.2.1)).trans Decides.sqRec
    rw [State.shortfall_eq hv]
    refine Decides.ite (Decides.ite (hnoted.trans Decides.decideFallback) ?_)
      (Decides.ite (hnoted.trans Decides.addDec) (hnoted.trans Decides.decideFallback))
    exact ((hnoted.trans Decides.setSq).trans
      (Decides.put fun _ hf => (steadySq_parts hf hn).2.1)).trans Decides.addDec

theorem Decides.select {j : Bool} : Decides n o s (s.select n o e j) :=
  Decides.ite (Decides.ite ((Decides.prepVisit.trans Decides.addDec).trans Decides.takeTail)
    (Decides.prepVisit.trans Decides.addDec)) (Decides.shortfall hn)

/-- What an event decides at tick `o` is for tick `o + 48` (R97). -/
theorem Decides.immediate : Decides n (o + 48) s (s.immediate n o) := by
  have hlatch : ∀ (u : State) (ev : Nat), Decides n (o + 48) u (if u.evLevelKind ev then u else u.put (latchFld n ev) 0) := fun u _ =>
    Decides.ite (Decides.refl u) (Decides.putLatch hn)
  have hseen : Decides n (o + 48) s (s.setSq n { s.sqn n with imm := true }) := Decides.setSq
  have hsq : ∀ (u : State) (ev : Nat), (if u.evLevelKind ev then u else u.put (latchFld n ev) 0).sq = u.sq := fun u ev => by
    split <;> rfl
  unfold State.immediate
  dsimp only
  split
  · exact Decides.refl s
  · refine Decides.ite (hseen.trans ((hlatch _ _).trans (Decides.trans (Decides.setSq (hnext := ?_))
      ((Decides.zones hn).trans (Decides.mirDecision.trans (Decides.select hn)))))) hseen
    intro d hd
    rw [State.sqn_congr (hsq _ _), State.setSq_sqn_self]
    exact .inl (List.mem_of_mem_filter hd)

end

end
end Sys2Proof.Machine
end

section
/-! SUPPORT. Where a sequencer's data lies, and what time, a visit's end and a visit's beginning leave of it (R76, R90, R98). -/

namespace Sys2Proof.Machine

/-! ### Owners of outputs -/

/-- The field that names the sequencer of a fine channel. -/
def fcOwnFld (c : Nat) : Fld := ⟨(F.FABRIC_FCSQ_OWN (c / 8)).a, 4 * (c % 8), 4⟩

/-- The field that names the sequencer of a vector pin. -/
def vpOwnFld (p : Nat) : Fld := ⟨(F.FABRIC_VPSQ_OWN (p / 8)).a, 4 * (p % 8), 4⟩

section
variable {s t u : State} {n e o k : Nat}

theorem State.fcsOf_congr (h : ∀ c, t.fld (fcOwnFld c) = s.fld (fcOwnFld c)) (n : Nat) : t.fcsOf n = s.fcsOf n :=
  List.filter_congr fun c _ => by
    have hc : getBits (4 * (c % 8)) 4 (t.rd (F.FABRIC_FCSQ_OWN (c / 8)).a) = getBits (4 * (c % 8)) 4 (s.rd (F.FABRIC_FCSQ_OWN (c / 8)).a) :=
      h c
    rw [State.fcOwner, State.fcOwner, hc]

theorem State.vpsOf_congr (h : ∀ p, t.fld (vpOwnFld p) = s.fld (vpOwnFld p)) (n : Nat) : t.vpsOf n = s.vpsOf n :=
  List.filter_congr fun p _ => by
    have hp : getBits (4 * (p % 8)) 4 (t.rd (F.FABRIC_VPSQ_OWN (p / 8)).a) = getBits (4 * (p % 8)) 4 (s.rd (F.FABRIC_VPSQ_OWN (p / 8)).a) :=
      h p
    rw [State.vpOwner, State.vpOwner, hp]

theorem timeReg_of_fabric {a : Nat} (h : 0x150000 ≤ a) : timeReg a = false := by
  have hb : ∀ b ∈ bufAll, ∀ c ∈ b.addrs, c < 0x150000 := by decide +kernel
  have hbuf : bufAll.any (fun b => b.addrs.contains a) = false := by
    rw [List.any_eq_false]
    exact fun b hm hc => Bool.false_ne_true ((contains_of_fabric (hb b hm) h).symm.trans hc)
  simp only [timeReg, strobeReg, outReg, hbuf, Bool.or_false, Bool.or_eq_false_iff, Bool.and_eq_false_iff, decide_eq_false_iff_not]
  omega

theorem steady_of_fabric {f : Fld} (h : 0x150000 ≤ f.a) : steady f = true := by
  have hev : evRegs.contains f.a = false := contains_of_fabric (by decide) h
  have hret : f.a ≠ 0xC0000 := by omega
  have hsq : (List.range 8).all (steadySq f) = true := List.all_eq_true.2 fun m hm => by
    have hm := List.mem_range.1 hm
    obtain ⟨hstat, hflags, hcnt, hlow, hhigh⟩ : f.a ≠ 0x20100 + 0x40 * m ∧ f.a ≠ 0x20108 + 0x40 * m ∧ f.a ≠ 0x2010C + 0x40 * m ∧
      f.a ≠ 0x20110 + 0x40 * m ∧ f.a ≠ 0x20114 + 0x40 * m := by omega
    simp only [steadySq, Bool.and_eq_true, decide_eq_true_eq]
    exact ⟨⟨⟨⟨⟨apart_of_ne hstat, apart_of_ne hstat⟩, apart_of_ne hflags⟩, hcnt⟩, hlow⟩, hhigh⟩
  simp only [steady, timeReg_of_fabric h, hev, hsq, Bool.not_false, Bool.true_and, Bool.and_true, decide_eq_true_eq]
  exact hret

theorem fcOwnFld_fabric (c : Nat) : 0x150000 ≤ (fcOwnFld c).a := Nat.le_trans (by decide) (Nat.le_add_right _ _)

theorem vpOwnFld_fabric (p : Nat) : 0x150000 ≤ (vpOwnFld p).a := Nat.le_trans (by decide) (Nat.le_add_right _ _)

theorem Leaves.fcsOf {K : Fld → Bool} (h : Leaves K s t) (hK : ∀ f, 0x150000 ≤ f.a → K f = true) (n : Nat) : t.fcsOf n = s.fcsOf n :=
  State.fcsOf_congr (fun c => h _ (hK _ (fcOwnFld_fabric c))) n

theorem Leaves.vpsOf {K : Fld → Bool} (h : Leaves K s t) (hK : ∀ f, 0x150000 ≤ f.a → K f = true) (n : Nat) : t.vpsOf n = s.vpsOf n :=
  State.vpsOf_congr (fun p => h _ (hK _ (vpOwnFld_fabric p))) n

theorem timeReg_place {a : Nat} (h : placeReg a = true) : timeReg a = false := by
  simp only [placeReg, Bool.or_eq_true, Bool.and_eq_true, decide_eq_true_eq] at h
  rcases h with rfl | h
  · decide +kernel
  · exact timeReg_of_fabric (by omega)

theorem outReg_place {a : Nat} (h : placeReg a = true) : outReg a = false := outReg_of_timeReg (timeReg_place h)

theorem evRegs_place {a : Nat} (h : placeReg a = true) : a ∉ evRegs := fun hm => by
  revert h
  exact fun h => Bool.false_ne_true ((by decide : ∀ b ∈ evRegs, placeReg b = false) a hm ▸ h)

/-! ### Where a sequencer's data lies -/

/-- The courses, the segments but for READY, the lanes and the staging records of `t` are those of `s`. -/
structure Sited (s t : State) : Prop where
  course : t.mem.course = s.mem.course
  seg : ∀ k, ∃ b, t.seg k = { s.seg k with ready := b }
  lanes : ∀ m, t.lanesOf m = s.lanesOf m
  staged : t.plan.stg = s.plan.stg

theorem Sited.trans (h : Sited s t) (g : Sited t u) : Sited s u where
  course := g.course.trans h.course
  seg := fun k => by
    obtain ⟨_, hk⟩ := h.seg k
    obtain ⟨b, gk⟩ := g.seg k
    exact ⟨b, by rw [gk, hk]⟩
  lanes := fun m => (g.lanes m).trans (h.lanes m)
  staged := g.staged.trans h.staged

/-- A change outside the memories, the plan, and the registers on which places depend. -/
theorem Sited.frame (hm : t.mem = s.mem) (hp : t.plan = s.plan) (hr : ∀ a, placeReg a = true → t.rd a = s.rd a) : Sited s t where
  course := by rw [hm]
  seg := fun k => ⟨(s.seg k).ready, State.seg_congr hm k⟩
  lanes := State.lanesOf_congr (by rw [hp]) hr
  staged := by rw [hp]

theorem Sited.refl (s : State) : Sited s s := Sited.frame rfl rfl fun _ _ => rfl

theorem Sited.setSq {q : Sq} : Sited s (s.setSq n q) := Sited.frame rfl rfl fun _ _ => rfl

theorem Sited.put {f : Fld} {v : Nat} (h : placeReg f.a = false) : Sited s (s.put f v) :=
  Sited.frame rfl rfl fun a ha => State.put_rd_ne fun e => by rw [e, h] at ha; cases ha

theorem Sited.sqRec {c d : Nat} : Sited s (s.sqRec n c d o) :=
  Sited.frame (State.event_mem s _) (State.event_plan s _) fun _ ha => State.event_rd (evRegs_place ha)

theorem Sited.passTo : Sited s (s.passTo k) :=
  have h : PassOnly s (s.passTo k) := PassOnly.passTo
  Sited.frame h.mem h.plan fun _ ha => State.passTo_rd (timeReg_place ha)

theorem Sited.clearReady : Sited s (s.clearReady k) where
  course := rfl
  seg := fun j => by
    by_cases hj : j = k
    · exact ⟨false, hj ▸ s.clearReady_seg k⟩
    · refine ⟨(s.seg j).ready, ?_⟩
      have hword : ∀ w < 3, (s.clearReady k).dirWord j w = s.dirWord j w := fun w hw => Sp.get_set_ne _ _ _ _ _ (by omega)
      unfold State.seg
      rw [hword 0 (by decide), hword 1 (by decide), hword 2 (by decide)]
  lanes := fun _ => rfl
  staged := rfl

/-- The block from which a visit begins depends on where the data lies, and on what the sequencer has resident (R98). -/
theorem Sited.blockFor (h : Sited s t) (hres : (t.sqn n).resident = (s.sqn n).resident) (e : Nat) : t.blockFor n e = s.blockFor n e := by
  have hentry : t.entry n e = s.entry n e := by
    unfold State.entry State.crsWord
    rw [h.course]
  have hdram : ∀ i, t.segInDram i = s.segInDram i := fun i => by
    obtain ⟨b, hb⟩ := h.seg i
    unfold State.segInDram
    rw [hb]
    dsimp only
    rw [h.lanes]
  unfold State.blockFor
  dsimp only
  rw [hentry, hdram, hres, h.staged]

/-! ### The end of a visit -/

theorem PassOnly.capture : PassOnly s (s.capture n o) := by
  have hfine : ∀ (a : State) (c f j : Nat), PassOnly a (s.captureFine a n c f j o) := fun a c f j => by
    unfold State.captureFine
    refine PassOnly.ite (PassOnly.refl a) ?_
    split
    · exact PassOnly.setFc
    · exact PassOnly.refl a
  unfold State.capture
  dsimp only
  split
  · exact PassOnly.refl s
  · refine PassOnly.ite (PassOnly.refl s) (PassOnly.trans (PassOnly.foldl fun a l => ?_) (PassOnly.foldl fun a p => ?_))
    · cases l with
      | fine c f => exact hfine a c f _
      | vec b => exact PassOnly.refl a
    · exact PassOnly.ite ⟨_, _, _, _, _, _, _, _, _, rfl⟩ ⟨_, _, _, _, _, _, _, _, _, rfl⟩

theorem Woken.capture : Woken outReg s (s.capture n o) := by
  have hfine : ∀ (a : State) (c f j : Nat), Woken outReg a (s.captureFine a n c f j o) := fun a c f j => by
    unfold State.captureFine
    refine Woken.ite (Woken.refl _ a) ?_
    split
    · exact Woken.setFc
    · exact Woken.refl _ a
  unfold State.capture
  dsimp only
  split
  · exact Woken.refl _ s
  · refine Woken.ite (Woken.refl _ s) (Woken.trans (Woken.foldl fun a l _ => ?_) (Woken.foldl fun a p hp => ?_))
    · cases l with
      | fine c f => exact hfine a c f _
      | vec b => exact Woken.refl _ a
    · exact Woken.ite (Woken.frame rfl rfl rfl (fun _ => rfl) rfl rfl rfl) (Woken.vpStat (State.vpsOf_lt hp))

theorem Sited.capture : Sited s (s.capture n o) :=
  have h : PassOnly s (s.capture n o) := PassOnly.capture
  Sited.frame h.mem h.plan fun a ha => Woken.capture.rd a (outReg_place ha)

/-- A visit that ends leaves the registers, the timebase, and where data lies; of the records, only its own, by what has been played. -/
theorem State.leaveVisit_frame (s : State) (n o : Nat) : (s.leaveVisit n o).regs = s.regs ∧ (s.leaveVisit n o).tm = s.tm ∧
    (∃ p g, (s.leaveVisit n o).sqn n = { s.sqn n with past := p, gaps := g }) ∧ (∀ m, m ≠ n → (s.leaveVisit n o).sqn m = s.sqn m) ∧
    Sited s (s.leaveVisit n o) := by
  unfold State.leaveVisit
  dsimp only
  split
  · exact ⟨rfl, rfl, ⟨_, _, rfl⟩, fun _ _ => rfl, Sited.refl s⟩
  · next v _ =>
    split
    · exact ⟨rfl, rfl, ⟨_, _, State.setSq_sqn_self _ _ _⟩, fun _ hm => State.setSq_sqn_ne hm, Sited.clearReady.trans Sited.setSq⟩
    · exact ⟨rfl, rfl, ⟨_, _, State.setSq_sqn_self _ _ _⟩, fun _ hm => State.setSq_sqn_ne hm, Sited.setSq⟩

end
end Sys2Proof.Machine
end

section
/-! SUPPORT. Outputs at rest, and what a sequencer's stop and the heat's end do (R24, R83, R86, R155, R184, R212). -/

namespace Sys2Proof.Machine

/-! ### Outputs that stay at rest -/

/-- The bits that say that an output is at rest, and that it is on the hold path. -/
def restFld (f : Fld) : Prop :=
  f.w = 1 ∧ ((∃ c < 64, f.a = 0x80004 + 0x400 * c ∧ (f.lo = 10 ∨ f.lo = 11)) ∨ ∃ p < 128, f.a = 0x90014 + 0x100 * p ∧ (f.lo = 4 ∨ f.lo = 5))

/-- What of the outputs is at rest or on the hold path in `s` is so in `t`. -/
def Rests (s t : State) : Prop := ∀ f, restFld f → s.fld f = 1 → t.fld f = 1

section
variable {s t u : State} {f g : Fld} {n k v : Nat}

theorem restFld_lo (h : restFld f) : f.lo < 32 := by
  obtain ⟨-, ⟨_, _, _, h⟩ | ⟨_, _, _, h⟩⟩ := h <;> omega

theorem outReg_of_restFld (h : restFld f) : outReg f.a = true := by
  simp only [outReg, Bool.and_eq_true, decide_eq_true_eq]
  obtain ⟨-, ⟨_, _, _, _⟩ | ⟨_, _, _, _⟩⟩ := h <;> omega

theorem restFld_fc (h : n < 64) : restFld (F.FC_STAT_AT_REST n) ∧ restFld (F.FC_STAT_ON_HOLD n) :=
  ⟨⟨rfl, .inl ⟨n, h, rfl, .inl rfl⟩⟩, ⟨rfl, .inl ⟨n, h, rfl, .inr rfl⟩⟩⟩

theorem restFld_vp (h : n < 128) : restFld (F.VP_STAT_AT_REST n) ∧ restFld (F.VP_STAT_ON_HOLD n) :=
  ⟨⟨rfl, .inr ⟨n, h, rfl, .inl rfl⟩⟩, ⟨rfl, .inr ⟨n, h, rfl, .inr rfl⟩⟩⟩

theorem Rests.refl (s : State) : Rests s s := fun _ _ => id

theorem Rests.trans (h : Rests s t) (k : Rests t u) : Rests s u := fun f hf hs => k f hf (h f hf hs)

theorem Rests.ite {c : Prop} [Decidable c] (h : Rests s t) (k : Rests s u) : Rests s (if c then t else u) := by
  split
  · exact h
  · exact k

theorem Rests.foldl {α : Type} {l : List α} {f : State → α → State} (h : ∀ t, ∀ x ∈ l, Rests t (f t x)) : Rests s (l.foldl f s) :=
  List.foldlRecOn (motive := fun t => Rests s t) l f (Rests.refl s) fun t ht x hx => ht.trans (h t x hx)

/-- A change of no register of the outputs. -/
theorem Rests.rd (h : ∀ a, outReg a = true → t.rd a = s.rd a) : Rests s t := fun f hf hs => by
  rw [State.fld, h f.a (outReg_of_restFld hf)]
  exact hs

theorem Rests.regs (h : t.regs = s.regs) : Rests s t := Rests.rd fun a _ => State.rd_of_regs h a

theorem Rests.put (h : outReg f.a = false) : Rests s (s.put f v) :=
  Rests.rd fun a ha => State.put_rd_ne fun e => by rw [e, h] at ha; cases ha

/-- A field that no bit of rest lies in is written. -/
theorem Rests.putApart (h : ∀ g, restFld g → Fld.apart g f = true) : Rests s (s.put f v) := fun g hg hs => by
  rw [State.put_fld_apart (h g hg)]
  exact hs

/-- A bit is set. -/
theorem Rests.raise (h : f.w = 1) : Rests s (s.raise f) := fun g hg hs => by
  have hlo := restFld_lo hg
  obtain ⟨a, i, w⟩ := f
  obtain ⟨b, j, x⟩ := g
  obtain rfl : w = 1 := h
  obtain rfl : x = 1 := hg.1
  by_cases hab : b = a
  · subst hab
    by_cases hij : j = i
    · subst hij
      exact State.put_fld_self (f := ⟨b, j, 1⟩) (show j + 1 ≤ 32 by exact hlo)
    · exact (State.put_fld_apart (bit_apart hlo hij)).trans hs
  · exact (State.put_fld_apart (apart_of_ne (f := ⟨b, j, 1⟩) (g := ⟨a, i, 1⟩) hab)).trans hs

theorem Rests.putDrive : Rests s (s.put (F.VP_STAT_DRIVE n) v) := Rests.putApart fun g hg => by
  simp only [Fld.apart, Bool.or_eq_true, Bool.and_eq_true, decide_eq_true_eq]
  obtain ⟨hw, ⟨_, _, _, hlo⟩ | ⟨_, _, _, hlo⟩⟩ := hg <;> omega

theorem Rests.bumpSat : Rests s (s.bump (F.FC_CNT_SAT_COUNT n)) ∧ Rests s (s.bump (F.FC_CNT_ISAT_COUNT n)) := by
  have h (g : Fld) (hg : restFld g) : g.a ≠ 0x80038 + 0x400 * n := by
    obtain ⟨-, ⟨_, _, _, _⟩ | ⟨_, _, _, _⟩⟩ := hg <;> omega
  exact ⟨Rests.putApart fun g hg => apart_of_ne (h g hg), Rests.putApart fun g hg => apart_of_ne (h g hg)⟩

theorem Rests.event {r : Rec} : Rests s (s.event r) := Rests.rd fun a ha => State.event_rd fun hm =>
  Bool.false_ne_true (((by decide : ∀ b ∈ evRegs, outReg b = false) a hm).symm.trans ha)

theorem Rests.fineUp : Rests s (s.fineUp k) := by
  have htick : ∀ (a : State) ls c t, Rests a (a.fineTick ls c t) := fun a ls c t => by
    have hsat : ∀ sat isat, Rests a { a with regs := a.satRegs c sat isat } := fun sat isat => by
      have hs : Rests a (if sat then (a.raise (F.FC_STAT_SAT c)).bump (F.FC_CNT_SAT_COUNT c) else a) :=
        Rests.ite ((Rests.raise rfl).trans Rests.bumpSat.1) (Rests.refl a)
      unfold State.satRegs
      cases sat <;> cases isat
      · exact Rests.refl a
      · exact hs.trans ((Rests.raise rfl).trans Rests.bumpSat.2)
      · exact hs
      · exact hs.trans ((Rests.raise rfl).trans Rests.bumpSat.2)
    exact (hsat _ _).trans (Rests.regs rfl)
  unfold State.fineUp
  refine Rests.ite (Rests.refl s) (Rests.ite (Rests.regs rfl) ?_)
  extract_lets cs ls ts s1
  have hs1 : Rests s s1 := Rests.foldl fun _ _ _ => Rests.foldl fun a c _ => htick a _ c _
  exact hs1.trans (Rests.regs rfl)

/-! ### What a fold brings about -/

/-- What each step of a fold brings about for its own element stands at the end, where every step keeps it for the others. -/
theorem foldl_establishes {σ α : Type} {f : σ → α → σ} {I : σ → Prop} {P : α → σ → Prop} {l : List α} {s : σ} (hI : I s)
    (hstep : ∀ t, I t → ∀ x ∈ l, I (f t x)) (hown : ∀ t, I t → ∀ x ∈ l, P x (f t x))
    (hkeep : ∀ t, I t → ∀ x ∈ l, ∀ y ∈ l, P y t → P y (f t x)) : I (l.foldl f s) ∧ ∀ x ∈ l, P x (l.foldl f s) := by
  induction l generalizing s with
  | nil => exact ⟨hI, fun x hx => absurd hx List.not_mem_nil⟩
  | cons x l ih =>
    have htail : ∀ y ∈ l, y ∈ x :: l := fun y => List.mem_cons_of_mem x
    have hx : x ∈ x :: l := List.mem_cons_self
    obtain ⟨hend, hl⟩ := ih (hstep s hI x hx) (fun t ht y hy => hstep t ht y (htail y hy)) (fun t ht y hy => hown t ht y (htail y hy))
      fun t ht y hy z hz => hkeep t ht y (htail y hy) z (htail z hz)
    refine ⟨hend, fun y hy => ?_⟩
    rcases List.mem_cons.1 hy with rfl | hy
    · exact (List.foldlRecOn (motive := fun t => I t ∧ P y t) l f ⟨hstep s hI y hx, hown s hI y hx⟩ fun t ht z hz =>
        ⟨hstep t ht.1 z (htail z hz), hkeep t ht.1 z (htail z hz) y hx ht.2⟩).2
    · exact hl y hy

/-! ### Outputs sent to rest -/

theorem State.restFc_atRest {hold : Bool} (c : Nat) (h : c = n ∨ s.fld (F.FC_STAT_AT_REST c) = 1) (hc : c < 64) :
    (s.restFc hold n).fld (F.FC_STAT_AT_REST c) = 1 := by
  have hhold : ∀ (t : State) v, (t.put (F.FC_STAT_ON_HOLD n) v).fld (F.FC_STAT_AT_REST c) = t.fld (F.FC_STAT_AT_REST c) := fun t v =>
    State.put_fld_apart (Bool.or_eq_true_iff.2 (.inr rfl))
  refine (hhold _ _).trans ?_
  rcases h with rfl | h
  · exact State.put_fld_self (by show 10 + 1 ≤ 32; decide)
  · exact Rests.raise (f := F.FC_STAT_AT_REST n) rfl _ (restFld_fc hc).1 h

theorem State.restVp_atRest {hold : Bool} (p : Nat) (h : p = n ∨ s.fld (F.VP_STAT_AT_REST p) = 1) (hp : p < 128) :
    (s.restVp hold n).fld (F.VP_STAT_AT_REST p) = 1 := by
  have hhold : ∀ (t : State) v, (t.put (F.VP_STAT_ON_HOLD n) v).fld (F.VP_STAT_AT_REST p) = t.fld (F.VP_STAT_AT_REST p) := fun t v =>
    State.put_fld_apart (Bool.or_eq_true_iff.2 (.inr rfl))
  refine Rests.putDrive _ (restFld_vp hp).1 ((hhold _ _).trans ?_)
  rcases h with rfl | h
  · exact State.put_fld_self (by show 4 + 1 ≤ 32; decide)
  · exact Rests.raise (f := F.VP_STAT_AT_REST n) rfl _ (restFld_vp hp).1 h

/-- The channels and pins of two lists are at rest. -/
def AtRest (fcs vps : List Nat) (s : State) : Prop :=
  (∀ c ∈ fcs, s.fld (F.FC_STAT_AT_REST c) = 1) ∧ ∀ p ∈ vps, s.fld (F.VP_STAT_AT_REST p) = 1

theorem State.restFcs_atRest {hold : Bool} {fcs : List Nat} (hf : ∀ c ∈ fcs, c < 64) :
    ∀ c ∈ fcs, (fcs.foldl (fun t m => t.restFc hold m) s).fld (F.FC_STAT_AT_REST c) = 1 := by
  have hfc : ∀ (t : State) m c, c < 64 → (c = m ∨ t.fld (F.FC_STAT_AT_REST c) = 1) → (t.restFc hold m).fld (F.FC_STAT_AT_REST c) = 1 :=
    fun _ _ c hc h => State.restFc_atRest c h hc
  exact (foldl_establishes (I := fun _ => True) (P := fun c (t : State) => t.fld (F.FC_STAT_AT_REST c) = 1)
    trivial (fun _ _ _ _ => trivial) (fun t _ c hc => hfc t c c (hf c hc) (.inl rfl)) fun t _ m _ c hc h => hfc t m c (hf c hc) (.inr h)).2

theorem State.restVps_atRest {hold : Bool} {vps : List Nat} (hv : ∀ p ∈ vps, p < 128) :
    ∀ p ∈ vps, (vps.foldl (fun t m => t.restVp hold m) s).fld (F.VP_STAT_AT_REST p) = 1 := by
  have hvp : ∀ (t : State) m p, p < 128 → (p = m ∨ t.fld (F.VP_STAT_AT_REST p) = 1) → (t.restVp hold m).fld (F.VP_STAT_AT_REST p) = 1 :=
    fun _ _ p hp h => State.restVp_atRest p h hp
  exact (foldl_establishes (I := fun _ => True) (P := fun p (t : State) => t.fld (F.VP_STAT_AT_REST p) = 1)
    trivial (fun _ _ _ _ => trivial) (fun t _ p hp => hvp t p p (hv p hp) (.inl rfl)) fun t _ m _ p hp h => hvp t m p (hv p hp) (.inr h)).2

theorem State.restVps_fc {hold : Bool} (vps : List Nat) (c : Nat) :
    (vps.foldl (fun t m => t.restVp hold m) s).fld (F.FC_STAT_AT_REST c) = s.fld (F.FC_STAT_AT_REST c) :=
  List.foldlRecOn (motive := fun t : State => t.fld (F.FC_STAT_AT_REST c) = s.fld (F.FC_STAT_AT_REST c)) vps _ rfl fun t ht p _ => by
    have hne : 0x80004 + 0x400 * c ≠ 0x90014 + 0x100 * p := by omega
    unfold State.restVp
    rw [State.put_fld_apart (apart_of_ne hne), State.put_fld_apart (apart_of_ne hne), State.put_fld_apart (apart_of_ne hne), ht]

/-- Every output of a list is at rest after it has been sent there. -/
theorem AtRest.restOuts {hold : Bool} {fcs vps : List Nat} (hf : ∀ c ∈ fcs, c < 64) (hv : ∀ p ∈ vps, p < 128) :
    AtRest fcs vps (s.restOuts hold fcs vps) :=
  ⟨fun c hc => (State.restVps_fc vps c).trans (State.restFcs_atRest hf c hc), State.restVps_atRest hv⟩

theorem AtRest.mono {fcs vps : List Nat} (h : AtRest fcs vps s) (hr : Rests s t) (hf : ∀ c ∈ fcs, c < 64) (hv : ∀ p ∈ vps, p < 128) :
    AtRest fcs vps t :=
  ⟨fun c hc => hr _ (restFld_fc (hf c hc)).1 (h.1 c hc), fun p hp => hr _ (restFld_vp (hv p hp)).1 (h.2 p hp)⟩

theorem Rests.restFc : Rests s (s.restFc true n) :=
  (Rests.raise (f := F.FC_STAT_AT_REST n) rfl).trans (Rests.raise (f := F.FC_STAT_ON_HOLD n) rfl)

theorem Rests.restVp : Rests s (s.restVp true n) :=
  ((Rests.raise (f := F.VP_STAT_AT_REST n) rfl).trans (Rests.raise (f := F.VP_STAT_ON_HOLD n) rfl)).trans Rests.putDrive

theorem Rests.restOuts {fcs vps : List Nat} : Rests s (s.restOuts true fcs vps) :=
  (Rests.foldl fun _ _ _ => Rests.restFc).trans (Rests.foldl fun _ _ _ => Rests.restVp)

/-! ### Sleep -/

/-- The clock's state stands, and what of the outputs is at rest or on the hold path stays so. -/
structure Quiet (s t : State) : Prop where
  tm : t.tm = s.tm
  rests : Rests s t

theorem Quiet.refl (s : State) : Quiet s s := ⟨rfl, Rests.refl s⟩

theorem Quiet.trans (h : Quiet s t) (k : Quiet t u) : Quiet s u := ⟨k.tm.trans h.tm, h.rests.trans k.rests⟩

theorem Quiet.ite {c : Prop} [Decidable c] (h : Quiet s t) (k : Quiet s u) : Quiet s (if c then t else u) := by
  split
  · exact h
  · exact k

theorem Quiet.foldl {α : Type} {l : List α} {f : State → α → State} (h : ∀ t, ∀ x ∈ l, Quiet t (f t x)) : Quiet s (l.foldl f s) :=
  List.foldlRecOn (motive := fun t => Quiet s t) l f (Quiet.refl s) fun t ht x hx => ht.trans (h t x hx)

theorem Quiet.frame (ht : t.tm = s.tm := by rfl) (hr : t.regs = s.regs := by rfl) : Quiet s t := ⟨ht, Rests.regs hr⟩

theorem Quiet.put (h : outReg f.a = false) : Quiet s (s.put f v) := ⟨rfl, Rests.put h⟩

theorem Quiet.putTo {a lo w : Nat} (h : outReg a = false := by rfl) : Quiet s (s.put ⟨a, lo, w⟩ v) := Quiet.put h

theorem Quiet.event {r : Rec} : Quiet s (s.event r) := ⟨State.event_tm s r, Rests.event⟩

/-- Outputs are sent to rest in no time. -/
theorem State.restOuts_tm (s : State) (hold : Bool) (fcs vps : List Nat) : (s.restOuts hold fcs vps).tm = s.tm := by
  have hf : (fcs.foldl (fun t n => t.restFc hold n) s).tm = s.tm :=
    List.foldlRecOn (motive := fun t : State => t.tm = s.tm) _ _ rfl fun _ ht _ _ => ht
  exact List.foldlRecOn (motive := fun t : State => t.tm = s.tm) _ _ hf fun _ ht _ _ => ht

theorem Quiet.restOuts {fcs vps : List Nat} : Quiet s (s.restOuts true fcs vps) := ⟨s.restOuts_tm true fcs vps, Rests.restOuts⟩

theorem Quiet.eventNow {a b c : Nat} : Quiet s (s.eventNow a b c) := Quiet.event

theorem Quiet.selfRefresh : Quiet s (s.selfRefresh n) :=
  Quiet.ite (((Quiet.frame (s := s) (t := s.takeFree)).trans Quiet.eventNow).trans Quiet.putTo) (Quiet.refl s)

theorem Quiet.sleepOne : Quiet s (s.sleepOne n) :=
  ((Quiet.selfRefresh.trans (Quiet.put (outReg_awakeBit n))).trans Quiet.restOuts).trans Quiet.frame

theorem Quiet.dramNoRef : Quiet s s.dramNoRef :=
  Quiet.ite (Quiet.refl s) (Quiet.foldl fun _ _ _ => Quiet.ite Quiet.sleepOne (Quiet.refl _))

theorem Quiet.holdTb : Quiet s s.holdTb := Quiet.ite ((Quiet.trans Quiet.putTo Quiet.putTo).trans Quiet.putTo) (Quiet.refl s)

theorem Quiet.sleepPll : Quiet s s.sleepPll :=
  ((((((Quiet.sleepOne.trans Quiet.sleepOne).trans Quiet.restOuts).trans (Quiet.put (f := F.CLK_STAT_LOCK) rfl)).trans Quiet.holdTb).trans
    (Quiet.put (f := F.CLK_STAT_COAST) rfl)).trans Quiet.dramNoRef).trans Quiet.frame

theorem Quiet.sleepDom : Quiet s (s.sleepDom n) := Quiet.ite Quiet.sleepPll (Quiet.foldl fun _ _ _ => Quiet.sleepOne)

theorem Quiet.driveOutEn : Quiet s s.driveOutEn := Quiet.ite (Quiet.refl s) ((Quiet.put (f := F.MIR_STAT_OUT_EN) rfl).trans Quiet.frame)

theorem Quiet.linkLost : Quiet s s.linkLost := by
  unfold State.linkLost
  refine Quiet.ite ?_ (Quiet.refl s)
  extract_lets s0 m s1
  have h0 : Quiet s s0 := Quiet.ite (Quiet.refl s) Quiet.putTo
  have h1 : Quiet s0 s1 := Quiet.frame
  exact ((((h0.trans h1).trans Quiet.putTo).trans Quiet.putTo).trans Quiet.putTo).trans Quiet.driveOutEn

theorem Quiet.trySleep : Quiet s (s.trySleep n) :=
  Quiet.ite ((Quiet.ite Quiet.linkLost (Quiet.refl s)).trans Quiet.sleepDom) (Quiet.refl s)

theorem PowerOnly.trySleeps {l : List Nat} : PowerOnly sleepReg s (l.foldl (fun t d => t.trySleep d) s) :=
  PowerOnly.foldl fun _ _ _ => PowerOnly.trySleep

theorem Quiet.trySleeps {l : List Nat} : Quiet s (l.foldl (fun t d => t.trySleep d) s) := Quiet.foldl fun _ _ _ => Quiet.trySleep

/-- What a release changes before domains may sleep. -/
def State.released (s : State) (l : List Nat) : State :=
  { s with sup := { s.sup with owned := l.foldl (fun m d => putBit m d false) s.sup.owned,
                               stay := l.foldl (fun m d => putBit m d false) s.sup.stay } }

theorem Quiet.release {l : List Nat} : Quiet s (s.release l) := Quiet.trans (t := s.released l) Quiet.frame Quiet.trySleeps

theorem PowerOnly.release {l : List Nat} : PowerOnly sleepReg s (s.release l) :=
  PowerOnly.trans (t := s.released l) (PowerOnly.frame ⟨_, _, _, rfl⟩) PowerOnly.trySleeps

/-- What the end of a schedule changes before domains may sleep. -/
def State.unowned (s : State) : State := { s with sup := { s.sup with ownedBanks := 0 }, plan := { s.plan with wakeLeft := [] } }

theorem State.releaseOwned_eq (s : State) :
    s.releaseOwned = idleDoms.foldl (fun t d => t.trySleep d) (s.unowned.release ((List.range 64).filter (fun d => bitOf s.sup.owned d))) := rfl

theorem Quiet.releaseOwned : Quiet s s.releaseOwned := by
  have h : Quiet s s.unowned := Quiet.frame
  rw [State.releaseOwned_eq]
  exact (h.trans Quiet.release).trans Quiet.trySleeps

theorem PowerOnly.sq {A : Nat → Bool} (h : PowerOnly A s t) : t.sq = s.sq := by obtain ⟨⟨_, _, _, _, _, _, _, _, _, rfl⟩, -⟩ := h; rfl

/-- The end of a schedule leaves the sequencers, and every register that no sleep changes. -/
theorem State.releaseOwned_frame (s : State) : s.releaseOwned.sq = s.sq ∧ ∀ a, sleepReg a = false → s.releaseOwned.rd a = s.rd a := by
  have h : PowerOnly sleepReg s.unowned s.releaseOwned := by
    rw [State.releaseOwned_eq]
    exact PowerOnly.release.trans PowerOnly.trySleeps
  exact ⟨h.sq, h.2⟩

end
end Sys2Proof.Machine
end

section
/-! SUPPORT. The heat's end, and a sequencer's stop (R83, R86, R112). -/

namespace Sys2Proof.Machine

/-! ### Fields that stand -/

/-- The fields that stand as a visit begins: those that stand while sequencers decide, outside the sequencers' status and position. -/
def visitFld (f : Fld) : Bool :=
  steady f && (List.range 8).all (fun m => decide (f.a ≠ 0x20100 + 0x40 * m) && decide (f.a ≠ 0x20104 + 0x40 * m))

/-- The registers that the heat's end writes beside SEQ_STAT and the sequencers' status: what sleep changes, TL_FREE and PSTATE. -/
def closingReg (a : Nat) : Bool := sleepReg a || decide (a = F.PLAN_TL_FREE.a) || decide (a = F.SUP_STAT_PSTATE.a)

/-- The fields that stand as sequencers stop and as the heat ends. -/
def lasting (f : Fld) : Bool :=
  visitFld f && !closingReg f.a && Fld.apart f F.SEQ_STAT_HEAT && Fld.apart f F.SEQ_STAT_RUN_MASK && Fld.apart f F.SEQ_STAT_HEAT_END

section
variable {f : Fld} {m : Nat}

theorem steady_of_visitFld (h : visitFld f = true) : steady f = true := (Bool.and_eq_true_iff.1 h).1

theorem visitFld_ne (h : visitFld f = true) (hm : m < 8) : f.a ≠ 0x20100 + 0x40 * m ∧ f.a ≠ 0x20104 + 0x40 * m := by
  have hall := List.all_eq_true.1 (Bool.and_eq_true_iff.1 h).2 m (List.mem_range.2 hm)
  simpa only [Bool.and_eq_true, decide_eq_true_eq] using hall

theorem lasting_parts (h : lasting f = true) : visitFld f = true ∧ closingReg f.a = false ∧ Fld.apart f F.SEQ_STAT_HEAT = true ∧
    Fld.apart f F.SEQ_STAT_RUN_MASK = true ∧ Fld.apart f F.SEQ_STAT_HEAT_END = true := by
  simpa only [lasting, Bool.and_eq_true, Bool.not_eq_true', and_assoc] using h

theorem visitFld_of_lasting (h : lasting f = true) : visitFld f = true := (lasting_parts h).1

theorem steady_of_lasting (h : lasting f = true) : steady f = true := steady_of_visitFld (visitFld_of_lasting h)

theorem closingReg_parts {a : Nat} (h : closingReg a = false) : sleepReg a = false ∧ a ≠ F.PLAN_TL_FREE.a ∧ a ≠ F.SUP_STAT_PSTATE.a := by
  simpa only [closingReg, Bool.or_eq_false_iff, decide_eq_false_iff_not, and_assoc] using h

end

/-! ### The heat's end -/

/-- The heat's end is recorded, and no sequencer runs. -/
def State.heatOver (s : State) (n cause : Nat) : State :=
  (((s.fineNow.eventNow n 0x0B (s.fld F.SEQ_STAT_HEAT_MASK + 2 ^ 8 * cause)).raise F.SEQ_STAT_HEAT_END).put F.SEQ_STAT_HEAT 1).put
    F.SEQ_STAT_RUN_MASK 0

/-- A sequencer of the heat is loaded again. -/
def State.loadAgain (t : State) (i : Nat) : State :=
  let t1 := t.put (F.SQ_STAT_STATE i) sqLoaded
  t1.setSq i { past := (t1.sqn i).past, gaps := (t1.sqn i).gaps,
               resident := (t1.sqn i).resident.filter (fun j => (t1.grpRecs i 0).contains j) }

/-- The heat is over, and its sequencers are loaded again. -/
def State.allLoaded (s : State) (n cause : Nat) : State := (s.heatOver n cause).heatSqs.foldl State.loadAgain (s.heatOver n cause)

/-- What the heat's end does beside: the timeline stops, and what the schedule owns is released. -/
def State.windDown (s : State) : State := (((s.raise F.PLAN_TL_FREE).releaseOwned).pairAfterHeat).setPstate

theorem State.endHeat_eq (s : State) (n cause : Nat) : ∃ x e, s.endHeat n cause =
    State.windDown { s.allLoaded n cause with tm := x, ev := e } := ⟨_, _, rfl⟩

section
variable {s t : State} {n cause i : Nat} {f : Fld}

theorem State.heatOver_leaves (hf : lasting f = true) : (s.heatOver n cause).fld f = s.fld f := by
  obtain ⟨-, -, hheat, hrun, hend⟩ := lasting_parts hf
  unfold State.heatOver
  rw [State.put_fld_apart hrun, State.put_fld_apart hheat, State.raise, State.put_fld_apart hend, State.eventNow,
    State.event_fld (evRegs_of_steady (steady_of_lasting hf)), Woken.fineNow.leaves f (steady_of_lasting hf)]

theorem State.heatOver_mask : (s.heatOver n cause).fld F.SEQ_STAT_HEAT_MASK = s.fld F.SEQ_STAT_HEAT_MASK :=
  State.heatOver_leaves (by decide +kernel)

theorem State.heatOver_inHeat : (s.heatOver n cause).inHeat i = s.inHeat i := by
  unfold State.inHeat
  rw [State.heatOver_mask]

theorem State.heatOver_sq : (s.heatOver n cause).sq = s.sq := (State.event_sq _ _).trans Woken.fineNow.sq

theorem State.heatOver_stat : (s.heatOver n cause).fld F.SEQ_STAT_HEAT = 1 ∧ (s.heatOver n cause).fld F.SEQ_STAT_RUN_MASK = 0 ∧
    (s.heatOver n cause).fld F.SEQ_STAT_HEAT_END = 1 := by
  unfold State.heatOver
  refine ⟨?_, State.put_fld_self (by decide), ?_⟩
  · rw [State.put_fld_apart (by decide)]
    exact State.put_fld_self (by decide)
  · rw [State.put_fld_apart (by decide), State.put_fld_apart (by decide)]
    exact State.put_fld_self (by decide)

theorem Rests.heatOver : Rests s (s.heatOver n cause) :=
  (((Rests.fineUp.trans Rests.event).trans (Rests.raise rfl)).trans (Rests.put rfl)).trans (Rests.put rfl)

/-- A sequencer is loaded, without a visit or a decision. -/
def State.Reloaded (t : State) (i : Nat) : Prop := t.sqState i = sqLoaded ∧ (t.sqn i).visit = none ∧ (t.sqn i).next = []

theorem State.loadAgain_reloaded (t : State) (i : Nat) : (t.loadAgain i).Reloaded i := by
  unfold State.Reloaded State.loadAgain
  rw [State.setSq_sqn_self]
  exact ⟨State.put_fld_self (by show 0 + 3 ≤ 32; decide), rfl, rfl⟩

theorem State.loadAgain_keeps {j : Nat} (h : t.Reloaded j) : (t.loadAgain i).Reloaded j := by
  by_cases hij : j = i
  · subst hij
    exact t.loadAgain_reloaded j
  · obtain ⟨hstate, hrest⟩ := h
    have hne : (F.SQ_STAT_STATE j).a ≠ (F.SQ_STAT_STATE i).a := by
      show 0x20100 + 0x40 * j ≠ 0x20100 + 0x40 * i
      omega
    refine ⟨(State.put_fld_apart (apart_of_ne hne)).trans hstate, ?_⟩
    unfold State.loadAgain
    rw [State.setSq_sqn_ne hij]
    exact hrest

/-- A sequencer has no visit and no decision. -/
def State.Bare (t : State) (i : Nat) : Prop := (t.sqn i).visit = none ∧ (t.sqn i).next = []

theorem State.loadAgain_bare {j : Nat} (h : t.Bare j) : (t.loadAgain i).Bare j := by
  by_cases hij : j = i
  · subst hij
    exact (t.loadAgain_reloaded j).2
  · unfold State.Bare State.loadAgain
    rw [State.setSq_sqn_ne hij]
    exact h

theorem Leaves.loadAgain (hi : i < 8) : Leaves visitFld s (s.loadAgain i) :=
  Leaves.trans (Leaves.put (g := F.SQ_STAT_STATE i) fun _ hf => apart_of_ne (visitFld_ne hf hi).1) (Leaves.setSq _ _ _)

theorem Rests.loadAgain (hi : i < 8) : Rests s (s.loadAgain i) := by
  have hout : outReg (0x20100 + 0x40 * i) = false := by
    simp only [outReg, Bool.and_eq_false_iff, decide_eq_false_iff_not]
    omega
  exact (Rests.put (f := F.SQ_STAT_STATE i) hout).trans (Rests.regs rfl)

/-! ### The timeline stops -/

theorem Quiet.pairAfterHeat : Quiet s s.pairAfterHeat := by
  unfold State.pairAfterHeat
  exact Quiet.ite (Quiet.put rfl) (Quiet.ite Quiet.frame (Quiet.refl s))

theorem Quiet.setPstate : Quiet s s.setPstate := Quiet.ite (Quiet.refl s) (Quiet.put (f := F.SUP_STAT_PSTATE) rfl)

theorem Quiet.windDown : Quiet s s.windDown :=
  (((Quiet.put (f := F.PLAN_TL_FREE) (v := 1) rfl).trans Quiet.releaseOwned).trans Quiet.pairAfterHeat).trans Quiet.setPstate

theorem State.pairAfterHeat_sq (s : State) : s.pairAfterHeat.sq = s.sq := by
  unfold State.pairAfterHeat
  split
  · rfl
  · split <;> rfl

theorem State.setPstate_sq (s : State) : s.setPstate.sq = s.sq := by
  unfold State.setPstate
  split <;> rfl

theorem State.windDown_sq (s : State) : s.windDown.sq = s.sq :=
  (State.setPstate_sq _).trans ((State.pairAfterHeat_sq _).trans (State.releaseOwned_frame _).1)

theorem State.windDown_rd {a : Nat} (h : closingReg a = false) : s.windDown.rd a = s.rd a := by
  obtain ⟨hsleep, hfree, hstate⟩ := closingReg_parts h
  have hpair : a ≠ F.MIR_STAT_PAIR.a := fun e => by
    subst e
    exact absurd hsleep (by decide)
  have hpst : ∀ t : State, t.setPstate.rd a = t.rd a := fun t => by
    unfold State.setPstate
    split
    · rfl
    · exact State.put_rd_ne hstate
  have hafter : ∀ t : State, t.pairAfterHeat.rd a = t.rd a := fun t => by
    unfold State.pairAfterHeat
    split
    · exact State.put_rd_ne hpair
    · split <;> rfl
  unfold State.windDown
  rw [hpst, hafter, (State.releaseOwned_frame _).2 a hsleep]
  exact State.put_rd_ne hfree

/-- The heat has ended (R83): what stands of `s`, and what has come. -/
structure HeatOver (s t : State) : Prop where
  heat : t.fld F.SEQ_STAT_HEAT = 1
  run : t.fld F.SEQ_STAT_RUN_MASK = 0
  ended : t.fld F.SEQ_STAT_HEAT_END = 1
  loaded : ∀ i < 8, s.inHeat i = true → t.Reloaded i
  bare : ∀ i, s.Bare i → t.Bare i
  rests : Rests s t
  leaves : Leaves lasting s t

theorem closingReg_stat (hi : i < 8) : closingReg (0x20100 + 0x40 * i) = false :=
  (by decide : ∀ m : Fin 8, closingReg (0x20100 + 0x40 * m.val) = false) ⟨i, hi⟩

theorem State.mem_heatSqs : i ∈ s.heatSqs ↔ i < 8 ∧ s.inHeat i = true := by
  unfold State.heatSqs
  rw [List.mem_filter, List.mem_range]

theorem Leaves.allLoaded : Leaves visitFld (s.heatOver n cause) (s.allLoaded n cause) :=
  Leaves.foldl fun _ _ hi => Leaves.loadAgain (State.mem_heatSqs.1 hi).1

theorem Rests.allLoaded : Rests s (s.allLoaded n cause) :=
  Rests.heatOver.trans (Rests.foldl fun _ _ hi => Rests.loadAgain (State.mem_heatSqs.1 hi).1)

theorem State.allLoaded_reloaded (hi : i < 8) (hin : s.inHeat i = true) : (s.allLoaded n cause).Reloaded i :=
  (foldl_establishes (I := fun _ => True) (P := fun j (t : State) => t.Reloaded j) (l := (s.heatOver n cause).heatSqs) trivial (fun _ _ _ _ => trivial)
    (fun t _ j _ => State.loadAgain_reloaded t j) fun _ _ _ _ _ _ h => State.loadAgain_keeps h).2 i
    (State.mem_heatSqs.2 ⟨hi, by rw [State.heatOver_inHeat, hin]⟩)

theorem State.allLoaded_bare (h : s.Bare i) : (s.allLoaded n cause).Bare i := by
  have hover : (s.heatOver n cause).Bare i := by
    unfold State.Bare
    rw [State.sqn_congr State.heatOver_sq]
    exact h
  exact List.foldlRecOn (motive := fun t : State => t.Bare i) _ _ hover fun _ ht _ _ => State.loadAgain_bare ht

theorem State.endHeat_sq : (s.endHeat n cause).sq = (s.allLoaded n cause).sq := by
  obtain ⟨x, e, heq⟩ := s.endHeat_eq n cause
  rw [heq]
  exact State.windDown_sq _

theorem State.endHeat_fld (hf : closingReg f.a = false) : (s.endHeat n cause).fld f = (s.allLoaded n cause).fld f := by
  obtain ⟨x, e, heq⟩ := s.endHeat_eq n cause
  rw [heq]
  exact congrArg (getBits f.lo f.w) (State.windDown_rd hf)

theorem Rests.endHeat : Rests s (s.endHeat n cause) := by
  obtain ⟨x, e, heq⟩ := s.endHeat_eq n cause
  have hplain : Rests (s.allLoaded n cause) { s.allLoaded n cause with tm := x, ev := e } := Rests.regs rfl
  rw [heq]
  exact (Rests.allLoaded.trans hplain).trans Quiet.windDown.rests

/-- What the heat's end leaves after it has been recorded. -/
theorem State.endHeat_over (hf : closingReg f.a = false) (hv : visitFld f = true) :
    (s.endHeat n cause).fld f = (s.heatOver n cause).fld f := by
  rw [State.endHeat_fld hf]
  exact Leaves.allLoaded f hv

theorem State.endHeat_reloaded (hi : i < 8) (hin : s.inHeat i = true) : (s.endHeat n cause).Reloaded i := by
  obtain ⟨hstate, hrest⟩ := State.allLoaded_reloaded (n := n) (cause := cause) hi hin
  refine ⟨(State.endHeat_fld (f := F.SQ_STAT_STATE i) (closingReg_stat hi)).trans hstate, ?_⟩
  rw [State.sqn_congr State.endHeat_sq]
  exact hrest

theorem State.endHeat_bare (h : s.Bare i) : (s.endHeat n cause).Bare i := by
  unfold State.Bare
  rw [State.sqn_congr State.endHeat_sq]
  exact State.allLoaded_bare h

theorem State.endHeat_heatOver (s : State) (n cause : Nat) : HeatOver s (s.endHeat n cause) where
  heat := (State.endHeat_over (by decide) (by decide +kernel)).trans State.heatOver_stat.1
  run := (State.endHeat_over (by decide) (by decide +kernel)).trans State.heatOver_stat.2.1
  ended := (State.endHeat_over (by decide) (by decide +kernel)).trans State.heatOver_stat.2.2
  loaded := fun _ => State.endHeat_reloaded
  bare := fun _ => State.endHeat_bare
  rests := Rests.endHeat
  leaves := fun _ hf => (State.endHeat_over (lasting_parts hf).2.1 (visitFld_of_lasting hf)).trans (State.heatOver_leaves hf)

/-! ### A sequencer's stop -/

/-- SQn has stopped, before the heat may end with it. -/
def State.stopped (s : State) (n : Nat) (rest : Bool) (cause o : Nat) : State :=
  let e := s.fld (F.SQ_STAT_ENTRY n)
  let s1 := (s.capture n o).leaveVisit n o
  let s2 := if rest then s1.restOuts false (s1.fcsOf n) (s1.vpsOf n) else s1
  let s3 := (((s2.put (F.SQ_STAT_STATE n) sqStopped).put (F.SQ_STAT_HELD n) 0).put (F.SQ_STAT_PENDING n) 0).put
    (F.SQ_STAT_ZONE n) 0
  let s4 := s3.put F.SEQ_STAT_RUN_MASK (putBit (s3.fld F.SEQ_STAT_RUN_MASK) n false)
  let q := s4.sqn n
  let s5 := s4.setSq n { past := q.past, gaps := q.gaps, resident := q.resident, lapAt := q.lapAt }
  (s5.sqRec n 0x09 (e + 2 ^ 16 * cause + 2 ^ 24 * b2n (!rest)) o).noteStop n

theorem State.stopSq_eq (s : State) (n : Nat) (rest : Bool) (cause o : Nat) : s.stopSq n rest cause o =
    if (s.stopped n rest cause o).fld F.SEQ_STAT_RUN_MASK = 0 then
      (s.stopped n rest cause o).endHeat (s.stopped n rest cause o).endSource 0
    else s.stopped n rest cause o := rfl

end
end Sys2Proof.Machine
end

section
/-! SUPPORT. What a sequencer's stop brings, and what the beginning of a visit, a lap and a hold brings (R86, R90, R95, R101, R102). -/

namespace Sys2Proof.Machine

section
variable {s t : State} {n o cause e : Nat} {rest : Bool} {f : Fld}

/-- The visit that ends leaves the steady fields. -/
theorem Leaves.leave : Leaves steady s ((s.capture n o).leaveVisit n o) :=
  (Woken.capture (s := s) (n := n) (o := o)).leaves.trans (Leaves.regs ((s.capture n o).leaveVisit_frame n o).1)

theorem Sited.leave : Sited s ((s.capture n o).leaveVisit n o) := Sited.capture.trans ((s.capture n o).leaveVisit_frame n o).2.2.2.2

theorem State.leave_sqn (s : State) (n o : Nat) : ∃ p g, ((s.capture n o).leaveVisit n o).sqn n = { s.sqn n with past := p, gaps := g } := by
  obtain ⟨-, -, ⟨p, g, h⟩, -⟩ := (s.capture n o).leaveVisit_frame n o
  exact ⟨p, g, h.trans (by rw [State.sqn_congr Woken.capture.sq])⟩

theorem State.leave_heat (s : State) (n o : Nat) : ((s.capture n o).leaveVisit n o).tm.heat = s.tm.heat :=
  (congrArg Tm.heat ((s.capture n o).leaveVisit_frame n o).2.1).trans Woken.capture.heat

/-! ### A stop -/

/-- The outputs of SQn at its stop: at rest, where the stop says so. -/
def State.stopOuts (s : State) (n o : Nat) (rest : Bool) : State :=
  if rest then ((s.capture n o).leaveVisit n o).restOuts false (((s.capture n o).leaveVisit n o).fcsOf n) (((s.capture n o).leaveVisit n o).vpsOf n)
  else (s.capture n o).leaveVisit n o

/-- The status of SQn at its stop. -/
def State.stopStat (s : State) (n : Nat) : State :=
  let s3 := (((s.put (F.SQ_STAT_STATE n) sqStopped).put (F.SQ_STAT_HELD n) 0).put (F.SQ_STAT_PENDING n) 0).put (F.SQ_STAT_ZONE n) 0
  s3.put F.SEQ_STAT_RUN_MASK (putBit (s3.fld F.SEQ_STAT_RUN_MASK) n false)

theorem State.stopped_eq (s : State) (n : Nat) (rest : Bool) (cause o : Nat) : ∃ q d, q.visit = none ∧ q.next = [] ∧
    s.stopped n rest cause o = ((((s.stopOuts n o rest).stopStat n).setSq n q).sqRec n 0x09 d o).noteStop n := ⟨_, _, rfl, rfl, rfl⟩

/-- What is recorded of a stop leaves the registers but those of records. -/
theorem State.stopRec_rd (s : State) (n : Nat) (q : Sq) (d o : Nat) {a : Nat} (ha : a ∉ evRegs) :
    (((s.setSq n q).sqRec n 0x09 d o).noteStop n).rd a = s.rd a := by
  have hstop : ∀ u : State, (u.noteStop n).rd a = u.rd a := fun _ => rfl
  rw [hstop, State.sqRec, State.event_rd ha]
  rfl

theorem State.stopRec_sqn (s : State) (n : Nat) (q : Sq) (d o : Nat) : (((s.setSq n q).sqRec n 0x09 d o).noteStop n).sqn n = q := by
  have hstop : ∀ u : State, (u.noteStop n).sqn n = u.sqn n := fun _ => rfl
  rw [hstop, State.sqRec, State.sqn_congr (State.event_sq _ _), State.setSq_sqn_self]

theorem Leaves.stopOuts : Leaves steady s (s.stopOuts n o rest) := by
  unfold State.stopOuts
  exact Leaves.ite (Leaves.leave.trans (Woken.restOuts (fun _ => State.fcsOf_lt) (fun _ => State.vpsOf_lt)).leaves) Leaves.leave

theorem AtRest.stopOuts : AtRest (s.fcsOf n) (s.vpsOf n) (s.stopOuts n o true) := by
  have h : Leaves steady s ((s.capture n o).leaveVisit n o) := Leaves.leave
  unfold State.stopOuts
  rw [if_pos rfl, h.fcsOf (fun _ => steady_of_fabric) n, h.vpsOf (fun _ => steady_of_fabric) n]
  exact AtRest.restOuts (fun _ => State.fcsOf_lt) (fun _ => State.vpsOf_lt)

theorem State.stopStat_leaves (hn : n < 8) (hf : visitFld f = true) (hrun : Fld.apart f F.SEQ_STAT_RUN_MASK = true) :
    (s.stopStat n).fld f = s.fld f := by
  have hne : f.a ≠ 0x20100 + 0x40 * n := (visitFld_ne hf hn).1
  unfold State.stopStat
  dsimp only
  rw [State.put_fld_apart hrun, State.put_fld_apart (apart_of_ne hne), State.put_fld_apart (apart_of_ne hne),
    State.put_fld_apart (apart_of_ne hne), State.put_fld_apart (apart_of_ne hne)]

theorem State.stopStat_state (hn : n < 8) : (s.stopStat n).sqState n = sqStopped := by
  have hne : (0x20100 + 0x40 * n) ≠ 0x20004 := by omega
  unfold State.stopStat State.sqState
  dsimp only
  rw [State.put_fld_apart (apart_of_ne hne), State.put_fld_apart (by simp), State.put_fld_apart (by simp), State.put_fld_apart (by simp)]
  exact State.put_fld_self (by show 0 + 3 ≤ 32; decide)

theorem putBit_clear_lt {x : Nat} (hx : x < 2 ^ 8) (hn : n < 8) : putBit x n false < 2 ^ 8 := by
  unfold putBit
  split
  · exact hx
  · exact Nat.xor_lt_two_pow hx (Nat.pow_lt_pow_right (by decide) hn)

theorem putBit_clear_self (n : Nat) : putBit (2 ^ n) n false = 0 := by
  simp [putBit, Nat.testBit_two_pow_self]

theorem State.stopStat_run (hn : n < 8) : (s.stopStat n).fld F.SEQ_STAT_RUN_MASK = putBit (s.fld F.SEQ_STAT_RUN_MASK) n false := by
  have hne : 0x20004 ≠ 0x20100 + 0x40 * n := by omega
  have hkept : ((((s.put (F.SQ_STAT_STATE n) sqStopped).put (F.SQ_STAT_HELD n) 0).put (F.SQ_STAT_PENDING n) 0).put
      (F.SQ_STAT_ZONE n) 0).fld F.SEQ_STAT_RUN_MASK = s.fld F.SEQ_STAT_RUN_MASK := by
    rw [State.put_fld_apart (apart_of_ne hne), State.put_fld_apart (apart_of_ne hne), State.put_fld_apart (apart_of_ne hne),
      State.put_fld_apart (apart_of_ne hne)]
  unfold State.stopStat
  dsimp only
  rw [State.put_fld_self (by decide), hkept]
  exact Nat.mod_eq_of_lt (putBit_clear_lt (getBits_lt _ _ _) hn)

theorem Rests.stopStat (hn : n < 8) : Rests s (s.stopStat n) := by
  have hout : outReg (0x20100 + 0x40 * n) = false := by
    simp only [outReg, Bool.and_eq_false_iff, decide_eq_false_iff_not]
    omega
  exact ((((Rests.put hout).trans (Rests.put hout)).trans (Rests.put hout)).trans (Rests.put hout)).trans (Rests.put rfl)

/-- SQn has stopped, and the heat may go on without it. -/
structure Stopped (n : Nat) (rest : Bool) (s t : State) : Prop where
  bare : t.Bare n
  state : t.sqState n = sqStopped
  run : t.fld F.SEQ_STAT_RUN_MASK = putBit (s.fld F.SEQ_STAT_RUN_MASK) n false
  leaves : ∀ f, visitFld f = true → Fld.apart f F.SEQ_STAT_RUN_MASK = true → t.fld f = s.fld f
  atRest : rest = true → AtRest (s.fcsOf n) (s.vpsOf n) t

theorem State.stopped_stopped (s : State) (hn : n < 8) (rest : Bool) (cause o : Nat) : Stopped n rest s (s.stopped n rest cause o) := by
  obtain ⟨q, d, hvisit, hnext, heq⟩ := s.stopped_eq n rest cause o
  have hsq : (s.stopped n rest cause o).sqn n = q := by rw [heq, State.stopRec_sqn]
  have hrd : ∀ a, a ∉ evRegs → (s.stopped n rest cause o).rd a = ((s.stopOuts n o rest).stopStat n).rd a := fun a ha => by
    rw [heq, State.stopRec_rd _ _ _ _ _ ha]
  have hfld : ∀ f : Fld, f.a ∉ evRegs → (s.stopped n rest cause o).fld f = ((s.stopOuts n o rest).stopStat n).fld f := fun f hf =>
    congrArg (getBits f.lo f.w) (hrd f.a hf)
  have hstat : (F.SQ_STAT_STATE n).a ∉ evRegs := (by decide : ∀ m : Fin 8, 0x20100 + 0x40 * m.val ∉ evRegs) ⟨n, hn⟩
  have hrests : Rests ((s.stopOuts n o rest).stopStat n) (s.stopped n rest cause o) := Rests.rd fun a ha => hrd a fun hm =>
    Bool.false_ne_true (((by decide : ∀ b ∈ evRegs, outReg b = false) a hm).symm.trans ha)
  refine ⟨by rw [State.Bare, hsq]; exact ⟨hvisit, hnext⟩, (hfld (F.SQ_STAT_STATE n) hstat).trans (State.stopStat_state hn), ?_, fun f hf hrun => ?_,
    fun hrest => ?_⟩
  · rw [hfld _ (by decide), State.stopStat_run hn, Leaves.stopOuts _ (by decide +kernel)]
  · rw [hfld f (evRegs_of_steady (steady_of_visitFld hf)), State.stopStat_leaves hn hf hrun, Leaves.stopOuts f (steady_of_visitFld hf)]
  · subst hrest
    exact AtRest.stopOuts.mono ((Rests.stopStat hn).trans hrests) (fun _ => State.fcsOf_lt) (fun _ => State.vpsOf_lt)

end
end Sys2Proof.Machine
end

section
/-! SUPPORT. What a decision brings at the outputs as it applies (R90, R95, R101, R102, R112). -/

namespace Sys2Proof.Machine

section
variable {s t u : State} {n o cause e : Nat} {rest j : Bool} {f : Fld}

/-! ### A stop -/

/-- SQn has stopped, and the heat has ended with it where no other sequencer runs (R86). -/
structure StopsAt (n : Nat) (rest : Bool) (s t : State) : Prop where
  bare : t.Bare n
  ends : s.fld F.SEQ_STAT_RUN_MASK = 2 ^ n → t.fld F.SEQ_STAT_HEAT = 1 ∧ t.fld F.SEQ_STAT_HEAT_END = 1 ∧
    ∀ i < 8, s.inHeat i = true → t.sqState i = sqLoaded
  goesOn : putBit (s.fld F.SEQ_STAT_RUN_MASK) n false ≠ 0 → t.sqState n = sqStopped ∧
    t.fld F.SEQ_STAT_HEAT = s.fld F.SEQ_STAT_HEAT ∧ t.fld F.SEQ_STAT_RUN_MASK = putBit (s.fld F.SEQ_STAT_RUN_MASK) n false
  atRest : rest = true → AtRest (s.fcsOf n) (s.vpsOf n) t
  leaves : Leaves lasting s t

theorem State.stopSq_stopsAt (s : State) (hn : n < 8) (rest : Bool) (cause o : Nat) : StopsAt n rest s (s.stopSq n rest cause o) := by
  have hstop := s.stopped_stopped hn rest cause o
  have hheat : (s.stopped n rest cause o).fld F.SEQ_STAT_HEAT = s.fld F.SEQ_STAT_HEAT :=
    hstop.leaves _ (by decide +kernel) (by decide)
  have hmask : ∀ i, (s.stopped n rest cause o).inHeat i = s.inHeat i := fun i => by
    rw [State.inHeat, hstop.leaves F.SEQ_STAT_HEAT_MASK (by decide +kernel) (by decide)]
    rfl
  have hkept : Leaves lasting s (s.stopped n rest cause o) := fun f hf =>
    hstop.leaves f (visitFld_of_lasting hf) (lasting_parts hf).2.2.2.1
  rw [State.stopSq_eq]
  split
  · next h0 =>
    have hover := (s.stopped n rest cause o).endHeat_heatOver (s.stopped n rest cause o).endSource 0
    have h0 : putBit (s.fld F.SEQ_STAT_RUN_MASK) n false = 0 := hstop.run.symm.trans h0
    exact {
      bare := hover.bare n hstop.bare
      ends := fun _ => ⟨hover.heat, hover.ended, fun i hi hin => (hover.loaded i hi ((hmask i).trans hin)).1⟩
      goesOn := fun h => absurd h0 h
      atRest := fun hrest => (hstop.atRest hrest).mono hover.rests (fun _ => State.fcsOf_lt) (fun _ => State.vpsOf_lt)
      leaves := hkept.trans hover.leaves }
  · next h0 =>
    exact {
      bare := hstop.bare
      ends := fun h => absurd (hstop.run.trans (by rw [h, putBit_clear_self])) h0
      goesOn := fun _ => ⟨hstop.state, hheat, hstop.run⟩
      atRest := hstop.atRest
      leaves := hkept }

/-! ### The beginning of a visit -/

/-- The visit to `e` has begun at `o` with the starting block `b` (R90, R91), at heat tick `h`. -/
structure Begun (n e o : Nat) (b : Option Nat) (h : Nat) (t : State) : Prop where
  visit : (t.sqn n).visit = some ⟨e, o, o, b⟩
  hold : (t.sqn n).hold = none
  entry : t.fld (F.SQ_STAT_ENTRY n) = e % 65536
  lap : t.fld (F.SQ_POS_LAP n) = 1
  ext : t.fld (F.SQ_POS_EXT n) = 0
  held : t.fld (F.SQ_STAT_HELD n) = 0
  heat : t.tm.heat = h

/-- SQn enters a visit: its record. -/
def State.entered (s : State) (n e o : Nat) (natural : Bool) : State :=
  let s1 := (s.capture n o).leaveVisit n o
  let q := s1.sqn n
  s1.setSq n { q with visit := some ⟨e, o, o, if natural then none else s1.blockFor n e⟩, lapAt := o, pend := none, pendJump := false,
                      imm := false, hold := none, prep := none,
                      next := q.next.filter (fun d => d.isStop || d.fenced) }

/-- SQn enters a visit: its status and position. -/
def State.enterStat (s : State) (n e : Nat) : State :=
  let s3 := (((s.put (F.SQ_STAT_ENTRY n) e).put (F.SQ_STAT_HELD n) 0).put (F.SQ_STAT_PENDING n) 0).zones n []
  (s3.put (F.SQ_POS_LAP n) 1).put (F.SQ_POS_EXT n) 0

/-- What the first tick of a visit brings beside, for the entry `x`; `old` is the staging group that is left. -/
def State.firstTick (s : State) (n e o : Nat) (x : Entry) (old : Nat) : State :=
  let s5 := if x.latch = 1 ∨ x.latch = 2 then s.clearLatch n x.jevt else s
  let s6 := if x.report then s5.sqRec n 0x03 (e + 2 ^ 16 * x.seg) o else s5
  let s7 := (((s6.firePens n x.pen o).visitSwitch n o).darkLanes n e o).playOuts n
  let s8 := (if s7.grpOf n e = old then s7 else s7.stageRelease n (s7.grpOf n e)).basePins n
  let met := if s8.evLevelKind x.jevt then decide (s8.evLevel x.jevt = x.jsense) else s8.latched n x.jevt
  if x.jmode = 4 ∧ met then s8.immediate n o else s8

theorem State.beginVisit_eq (s : State) (n e o : Nat) (j : Bool) :
    s.beginVisit n e o j = ((s.entered n e o j).enterStat n e).firstTick n e o (s.entry n e) (s.curGrp n) := rfl

theorem Decides.clearLatch (hn : n < 8) {ev k : Nat} : Decides n k s (s.clearLatch n ev) :=
  Decides.ite (Decides.refl s) (Decides.putLatch hn)

theorem Decides.visitSwitch {k : Nat} : Decides n k s (s.visitSwitch n o) := by
  have happly : ∀ (a : State) c tb w, c < 64 → Decides n k a (a.applySw c tb w) := fun a c tb w hc => by
    unfold State.applySw
    extract_lets c0 r st n1 acc s1
    have h1 : Woken outReg a s1 := Woken.setFc
    exact Decides.woken ((h1.trans (Woken.fcStat hc)).trans (Woken.fcStat hc)) rfl
  unfold State.visitSwitch
  refine Decides.foldl fun a c hc => ?_
  have hc : c < 64 := State.fcsOf_lt (List.mem_filter.1 hc).1
  dsimp only
  split
  · exact Decides.refl a
  · refine Decides.ite (happly a c _ _ hc) ?_
    have hdrop : ∀ b : Prop, [Decidable b] → Decides n k a (if b then a.raise (F.FC_STAT_HOP_DROP c) else a) := fun b _ =>
      Decides.ite (Decides.woken (Woken.fcStat hc) rfl) (Decides.refl a)
    have hset : ∀ (b : State) x, Decides n k b (b.setFc c x) := fun b x => Decides.woken Woken.setFc rfl
    exact ((hdrop _).trans (hset _ _)).trans (happly _ c _ _ hc)

theorem Decides.darkLanes {k : Nat} : Decides n k s (s.darkLanes n e o) := by
  have hraise : Decides n k s (s.raise F.TRK_STAT_RET_HIT) := Decides.put fun _ hf => apart_of_ne (steady_parts hf).2.2.1
  have hbanks : ∀ (l : List Nat) (a : State), Decides n k a
      (l.foldl (fun t m => { t with sup := { t.sup with wakingBanks := putBit t.sup.wakingBanks m true } }) a) := fun l a =>
    Decides.foldl fun t m _ => Decides.frame (Leaves.regs rfl) rfl rfl
  have hrest : ∀ (a : State) e', Decides n k a (a.restOuts false (a.darkFcs n e') (a.darkVps n e')) := fun a e' =>
    Decides.woken (Woken.restOuts (fun _ hc => State.fcsOf_lt (List.mem_filter.1 hc).1) fun _ hp => State.vpsOf_lt (List.mem_filter.1 hp).1)
      (a.restOuts_tm _ _ _)
  have hrec : ∀ (a : State) r, Decides n k a (a.event r) := fun a r =>
    Decides.frame (Leaves.event fun _ => evRegs_of_steady) (State.event_tm a r) (State.event_sq a r)
  unfold State.darkLanes
  extract_lets banks s1 s2
  have h2 : Decides n k s s2 := (hraise.trans (hbanks _ _)).trans (hrest _ _)
  exact Decides.ite (Decides.refl s) (Decides.ite h2 (h2.trans (hrec _ _)))

theorem State.playOuts_tm (s : State) (n : Nat) : (s.playOuts n).tm = s.tm := by
  have hoff : ∀ (t : State) c, (t.offHold c).tm = t.tm := fun t c => by
    unfold State.offHold
    split <;> rfl
  have hfcs : ∀ (l : List Nat), (l.foldl (fun t c => (t.put (F.FC_STAT_AT_REST c) 0).offHold c) s).tm = s.tm := fun l =>
    List.foldlRecOn (motive := fun t : State => t.tm = s.tm) l _ rfl fun t ht c _ => (hoff _ c).trans ht
  exact List.foldlRecOn (motive := fun t : State => t.tm = s.tm) _ _ (hfcs _) fun _ ht _ _ => ht

theorem Decides.firePens {pen k : Nat} : Decides n k s (s.firePens n pen o) := Decides.frame (Leaves.regs rfl) rfl rfl

theorem Decides.stageRelease {g k : Nat} : Decides n k s (s.stageRelease n g) := Decides.setSq

theorem Decides.basePins {k : Nat} : Decides n k s (s.basePins n) := Decides.foldl fun _ _ _ => Decides.frame (Leaves.regs rfl) rfl rfl

/-- The first tick of a visit decides at most what its condition brings, and leaves the rest. -/
theorem Decides.firstTick (hn : n < 8) {x : Entry} {old : Nat} : Decides n (o + 48) s (s.firstTick n e o x old) := by
  unfold State.firstTick
  extract_lets s5 s6 s7 s8 met
  have h5 : Decides n (o + 48) s s5 := Decides.ite (Decides.clearLatch hn) (Decides.refl s)
  have h6 : Decides n (o + 48) s5 s6 := Decides.ite Decides.sqRec (Decides.refl s5)
  have h7 : Decides n (o + 48) s6 s7 :=
    ((Decides.firePens.trans Decides.visitSwitch).trans Decides.darkLanes).trans (Decides.woken Woken.playOuts (State.playOuts_tm _ n))
  have h8 : Decides n (o + 48) s7 s8 := Decides.trans (Decides.ite (Decides.refl s7) Decides.stageRelease) Decides.basePins
  have hall : Decides n (o + 48) s s8 := ((h5.trans h6).trans h7).trans h8
  exact Decides.ite (hall.trans (Decides.immediate hn)) hall

/-- Of a sequencer's registers, a strobe changes only two (R284). -/
theorem bufAll_seq : ∀ b ∈ bufAll, ∀ c ∈ b.addrs, 0x20100 ≤ c → c < 0x20300 → c % 64 = 24 ∨ c % 64 = 28 := by decide +kernel

theorem timeReg_seq {a : Nat} (hlo : 0x20100 ≤ a) (hhi : a < 0x20300) (h : a % 64 < 24) : timeReg a = false := by
  have hbuf : bufAll.any (fun b => b.addrs.contains a) = false := by
    rw [List.any_eq_false]
    intro b hb hc
    have := bufAll_seq b hb a (List.contains_iff_mem.1 hc) hlo hhi
    omega
  simp only [timeReg, strobeReg, outReg, hbuf, Bool.or_false, Bool.or_eq_false_iff, Bool.and_eq_false_iff, decide_eq_false_iff_not]
  omega

/-- The fields of a sequencer's own that stand while it decides. -/
theorem steady_sq (m : Fin 8) : steady (F.SQ_STAT_ENTRY m.val) = true ∧ steady (F.SQ_STAT_HELD m.val) = true ∧
    steady (F.SQ_POS_LAP m.val) = true ∧ steady (F.SQ_POS_EXT m.val) = true ∧ steady (F.SQ_FLAGS_HOLD_SEEN m.val) = true ∧
    steady (F.SQ_STAT_STATE m.val) = true := by
  have hrest : ∀ m : Fin 8, ∀ f ∈ [F.SQ_STAT_ENTRY m.val, F.SQ_STAT_HELD m.val, F.SQ_POS_LAP m.val, F.SQ_POS_EXT m.val,
      F.SQ_FLAGS_HOLD_SEEN m.val, F.SQ_STAT_STATE m.val], 0x20100 ≤ f.a ∧ f.a < 0x20300 ∧ f.a % 64 < 24 ∧
      (!evRegs.contains f.a && decide (f.a ≠ F.TRK_STAT_RET_HIT.a) && (List.range 8).all (steadySq f)) = true := by decide +kernel
  have hsteady : ∀ f ∈ [F.SQ_STAT_ENTRY m.val, F.SQ_STAT_HELD m.val, F.SQ_POS_LAP m.val, F.SQ_POS_EXT m.val,
      F.SQ_FLAGS_HOLD_SEEN m.val, F.SQ_STAT_STATE m.val], steady f = true := fun f hf => by
    obtain ⟨hlo, hhi, h24, hr⟩ := hrest m f hf
    rw [steady, timeReg_seq hlo hhi h24]
    exact hr
  refine ⟨hsteady _ ?_, hsteady _ ?_, hsteady _ ?_, hsteady _ ?_, hsteady _ ?_, hsteady _ ?_⟩ <;> simp

theorem lasting_fallback : ∀ m : Fin 8, lasting (F.SQ_FLAGS_FALLBACK m.val) = true := by decide +kernel

theorem State.zones_rd {l : List (Nat × Nat)} {a : Nat} (h : a ≠ 0x20100 + 0x40 * n) : (s.zones n l).rd a = s.rd a := State.put_rd_ne h

theorem State.zones_tm {l : List (Nat × Nat)} : (s.zones n l).tm = s.tm := rfl

theorem State.zones_stat {l : List (Nat × Nat)} {lo w : Nat} (h : Fld.apart ⟨0x20100 + 0x40 * n, lo, w⟩ (F.SQ_STAT_ZONE n) = true) :
    (s.zones n l).fld ⟨0x20100 + 0x40 * n, lo, w⟩ = s.fld ⟨0x20100 + 0x40 * n, lo, w⟩ := State.put_fld_apart h

theorem State.enterStat_pos (s : State) (n e : Nat) :
    (s.enterStat n e).fld (F.SQ_POS_LAP n) = 1 ∧ (s.enterStat n e).fld (F.SQ_POS_EXT n) = 0 := by
  refine ⟨(State.put_fld_apart (by simp)).trans ?_, State.put_fld_self (by show 24 + 8 ≤ 32; decide)⟩
  exact State.put_fld_self (by show 0 + 24 ≤ 32; decide)

theorem State.enterStat_stat (s : State) (n e : Nat) :
    (s.enterStat n e).fld (F.SQ_STAT_ENTRY n) = e % 65536 ∧ (s.enterStat n e).fld (F.SQ_STAT_HELD n) = 0 := by
  have hne : 0x20100 + 0x40 * n ≠ 0x20104 + 0x40 * n := by omega
  unfold State.enterStat
  dsimp only
  constructor
  · rw [State.put_fld_apart (apart_of_ne hne), State.put_fld_apart (apart_of_ne hne), State.zones_stat (by simp),
      State.put_fld_apart (by simp), State.put_fld_apart (by simp)]
    exact State.put_fld_self (by show 16 + 16 ≤ 32; decide)
  · rw [State.put_fld_apart (apart_of_ne hne), State.put_fld_apart (apart_of_ne hne), State.zones_stat (by simp),
      State.put_fld_apart (by simp)]
    exact State.put_fld_self (by show 3 + 1 ≤ 32; decide)

theorem State.zones_sqn {l : List (Nat × Nat)} : (s.zones n l).sqn n = { s.sqn n with shadow := l } := State.setSq_sqn_self s n _

theorem State.enterStat_sqn (s : State) (n e : Nat) : (s.enterStat n e).sqn n = { s.sqn n with shadow := [] } := by
  have hput : ∀ (u : State) (f : Fld) v, (u.put f v).sqn n = u.sqn n := fun _ _ _ => rfl
  unfold State.enterStat
  dsimp only
  rw [hput, hput, State.zones_sqn, hput, hput, hput]

theorem State.enterStat_tm (s : State) (n e : Nat) : (s.enterStat n e).tm = s.tm := rfl

theorem State.entered_tm (s : State) (n e o : Nat) (j : Bool) : (s.entered n e o j).tm = ((s.capture n o).leaveVisit n o).tm := rfl

theorem State.entered_rd (s : State) (n e o : Nat) (j : Bool) (a : Nat) :
    (s.entered n e o j).rd a = ((s.capture n o).leaveVisit n o).rd a := rfl

theorem State.enterStat_rd {a : Nat} (hstat : a ≠ 0x20100 + 0x40 * n) (hpos : a ≠ 0x20104 + 0x40 * n) : (s.enterStat n e).rd a = s.rd a := by
  unfold State.enterStat
  dsimp only
  rw [State.put_rd_ne hpos, State.put_rd_ne hpos, State.zones_rd hstat, State.put_rd_ne hstat, State.put_rd_ne hstat, State.put_rd_ne hstat]

theorem State.entered_visit (s : State) (n e o : Nat) (j : Bool) :
    ((s.entered n e o j).sqn n).visit = some ⟨e, o, o, if j then none else s.blockFor n e⟩ ∧ ((s.entered n e o j).sqn n).hold = none := by
  obtain ⟨p, g, hq⟩ := s.leave_sqn n o
  unfold State.entered
  dsimp only
  rw [State.setSq_sqn_self, Sited.leave.blockFor (by rw [hq]) e]
  exact ⟨rfl, rfl⟩

theorem State.beginVisit_begun (s : State) (hn : n < 8) (e o : Nat) (j : Bool) :
    Begun n e o (if j then none else s.blockFor n e) s.tm.heat (s.beginVisit n e o j) := by
  obtain ⟨hentry, hheld, hlap, hext, -⟩ := steady_sq ⟨n, hn⟩
  obtain ⟨hvisit, hhold⟩ := s.entered_visit n e o j
  have hfirst : Decides n (o + 48) ((s.entered n e o j).enterStat n e) (s.beginVisit n e o j) := by
    rw [State.beginVisit_eq]
    exact Decides.firstTick hn
  exact {
    visit := by rw [hfirst.visit, State.enterStat_sqn, hvisit]
    hold := by rw [hfirst.hold, State.enterStat_sqn, hhold]
    entry := (hfirst.leaves _ hentry).trans (State.enterStat_stat _ n e).1
    held := (hfirst.leaves _ hheld).trans (State.enterStat_stat _ n e).2
    lap := (hfirst.leaves _ hlap).trans (State.enterStat_pos _ n e).1
    ext := (hfirst.leaves _ hext).trans (State.enterStat_pos _ n e).2
    heat := by rw [hfirst.tm, State.enterStat_tm, State.entered_tm, s.leave_heat n o] }

/-- The beginning of a visit leaves what stands outside its sequencer's status and position. -/
theorem Leaves.beginVisit (hn : n < 8) : Leaves visitFld s (s.beginVisit n e o j) := fun f hf => by
  have hf' := steady_of_visitFld hf
  obtain ⟨hstat, hpos⟩ := visitFld_ne hf hn
  have hentered : (s.entered n e o j).fld f = s.fld f := by
    rw [State.fld, State.entered_rd]
    exact Leaves.leave f hf'
  have hset : ((s.entered n e o j).enterStat n e).fld f = (s.entered n e o j).fld f :=
    congrArg (getBits f.lo f.w) (State.enterStat_rd hstat hpos)
  rw [State.beginVisit_eq, (Decides.firstTick hn).leaves f hf', hset, hentered]

/-- The FALLBACK outcome is flagged and recorded. -/
def State.fallNoted (s : State) (n o cause : Nat) : State :=
  let left := match (s.sqn n).visit with | some v => v.entry | none => 0
  let fbe := (s.entry n left)
  (s.raise (F.SQ_FLAGS_FALLBACK n)).sqRec n 0x05 (left + 2 ^ 16 * (if fbe.fbRest then 0xFFFF else fbe.fallback) + 2 ^ 32 * cause) o

theorem State.applyFallback_eq (s : State) (n o : Nat) (dst : Option Nat) (cause sc : Nat) : s.applyFallback n o dst cause sc =
    match dst with
    | some e => (s.fallNoted n o cause).beginVisit n e o false
    | none => (s.fallNoted n o cause).stopSq n true sc o := rfl

theorem Leaves.fallNoted {K : Fld → Bool} (hK : ∀ f, K f = true → f.a ∉ evRegs ∧ f.a ≠ 0x20108 + 0x40 * n) :
    Leaves K s (s.fallNoted n o cause) :=
  (Leaves.put fun f hf => apart_of_ne (hK f hf).2).trans (Leaves.event fun f hf => (hK f hf).1)

theorem State.fallNoted_sq : (s.fallNoted n o cause).sq = s.sq := State.event_sq _ _

theorem State.fallNoted_tm : (s.fallNoted n o cause).tm = s.tm := State.event_tm _ _

theorem State.fallNoted_flag (hn : n < 8) : (s.fallNoted n o cause).fld (F.SQ_FLAGS_FALLBACK n) = 1 := by
  have hev : (F.SQ_FLAGS_FALLBACK n).a ∉ evRegs := evRegs_of_steady (steady_of_lasting (lasting_fallback ⟨n, hn⟩))
  refine (State.event_fld hev).trans ?_
  exact State.put_fld_self (by show 1 + 1 ≤ 32; decide)

theorem Sited.fallNoted (hn : n < 8) : Sited s (s.fallNoted n o cause) := by
  have hplace : placeReg (0x20108 + 0x40 * n) = false := by
    simp only [placeReg, Bool.or_eq_false_iff, Bool.and_eq_false_iff, decide_eq_false_iff_not]
    omega
  exact (Sited.put (f := F.SQ_FLAGS_FALLBACK n) (v := 1) hplace).trans Sited.sqRec

/-- SQn's record as its hold begins. -/
def State.holding (s : State) (n e o : Nat) : State :=
  let s1 := s.capture n o
  let q := s1.sqn n
  let left := q.next.filter (fun d => d.isStop || d.fenced)
  s1.setSq n { q with hold := some ⟨o, e, 16 * s.fld (F.SQ_HOLD_LIMIT_LIMIT16 n), left.any Dec.fenced⟩, off := true,
                      want := q.want.filter (fun g => decide (g.1 < o)), tail := [], next := left }

/-- The status of a hold that begins. -/
def State.holdStat (s : State) (n : Nat) : State := ((s.raise (F.SQ_STAT_HELD n)).raise (F.SQ_FLAGS_HOLD_SEEN n)).zones n []

theorem State.beginHold_eq (s : State) (n e o : Nat) : ∃ d, s.beginHold n e o = ((s.holding n e o).holdStat n).sqRec n 0x06 d o := ⟨_, rfl⟩

theorem State.holding_hold (s : State) (n e o : Nat) : ((s.holding n e o).sqn n).hold = some ⟨o, e, 16 * s.fld (F.SQ_HOLD_LIMIT_LIMIT16 n),
    ((s.sqn n).next.filter (fun d => d.isStop || d.fenced)).any Dec.fenced⟩ := by
  unfold State.holding
  dsimp only
  rw [State.setSq_sqn_self, State.sqn_congr Woken.capture.sq]

theorem State.holding_tm (s : State) (n e o : Nat) : (s.holding n e o).tm = (s.capture n o).tm := rfl

theorem State.holdStat_tm (s : State) (n : Nat) : (s.holdStat n).tm = s.tm := rfl

theorem State.holdStat_sqn (s : State) (n : Nat) : (s.holdStat n).sqn n = { s.sqn n with shadow := [] } := by
  have hput : ∀ (u : State) (f : Fld), (u.raise f).sqn n = u.sqn n := fun _ _ => rfl
  rw [State.holdStat, State.zones_sqn, hput, hput]

theorem State.holdStat_flags (s : State) (n : Nat) :
    (s.holdStat n).fld (F.SQ_STAT_HELD n) = 1 ∧ (s.holdStat n).fld (F.SQ_FLAGS_HOLD_SEEN n) = 1 := by
  have hne : 0x20100 + 0x40 * n ≠ 0x20108 + 0x40 * n := by omega
  unfold State.holdStat State.raise
  constructor
  · rw [State.zones_stat (by simp), State.put_fld_apart (apart_of_ne hne)]
    exact State.put_fld_self (by show 3 + 1 ≤ 32; decide)
  · rw [State.fld, State.zones_rd hne.symm]
    exact State.put_fld_self (by show 2 + 1 ≤ 32; decide)

/-- A hold has begun at `o`, for the entry `e` (R102). -/
theorem State.beginHold_begun (s : State) (hn : n < 8) (e o : Nat) :
    ((s.beginHold n e o).sqn n).hold = some ⟨o, e, 16 * s.fld (F.SQ_HOLD_LIMIT_LIMIT16 n),
        ((s.sqn n).next.filter (fun d => d.isStop || d.fenced)).any Dec.fenced⟩ ∧
      (s.beginHold n e o).fld (F.SQ_STAT_HELD n) = 1 ∧ (s.beginHold n e o).fld (F.SQ_FLAGS_HOLD_SEEN n) = 1 ∧
      (s.beginHold n e o).tm.heat = s.tm.heat := by
  obtain ⟨d, heq⟩ := s.beginHold_eq n e o
  obtain ⟨-, hheld, -, -, hseen, -⟩ := steady_sq ⟨n, hn⟩
  obtain ⟨hheld1, hseen1⟩ := (s.holding n e o).holdStat_flags n
  rw [heq, State.sqRec, State.event_fld (evRegs_of_steady hheld), State.event_fld (evRegs_of_steady hseen),
    State.sqn_congr (State.event_sq _ _), State.event_tm, State.holdStat_sqn, State.holdStat_tm, State.holding_tm, Woken.capture.heat]
  exact ⟨s.holding_hold n e o, hheld1, hseen1, rfl⟩

/-- What waits of a fence's FALLBACK waits still as other decisions are dropped. -/
theorem any_fenced_filter (l : List Dec) : (l.filter (fun d => d.isStop || d.fenced)).any Dec.fenced = l.any Dec.fenced := by
  rw [List.any_filter]
  congr 1
  funext d
  cases d.isStop <;> cases d.fenced <;> rfl

/-! ### A lap -/

/-- SQn's next lap begins: the lap's number, and that of an extra lap. -/
def State.lapOn (s : State) (n o : Nat) : State :=
  let q := s.sqn n
  let s1 := (s.setSq n { q with lapAt := o }).bump (F.SQ_POS_LAP n)
  if q.pend.isSome then s1.put (F.SQ_POS_EXT n) (s1.fld (F.SQ_POS_EXT n) + 1) else s1

/-- What a lap's start brings beside, for the entry `x`. -/
def State.lapStart (s : State) (n o : Nat) (x : Entry) : State :=
  let s3 := if x.latch = 2 then s.clearLatch n x.jevt else s
  if x.penLap then s3.firePens n x.pen o else s3

theorem State.nextLap_eq (s : State) (n o : Nat) : s.nextLap n o =
    match (s.sqn n).visit with
    | none => s
    | some v => (s.lapOn n o).lapStart n o (s.entry n v.entry) := rfl

theorem State.lapOn_sqn (s : State) (n o : Nat) : (s.lapOn n o).sqn n = { s.sqn n with lapAt := o } := by
  have hput : ∀ (u : State) (f : Fld) v, (u.put f v).sqn n = u.sqn n := fun _ _ _ => rfl
  have hbump : ∀ (u : State) (f : Fld), (u.bump f).sqn n = u.sqn n := fun _ _ => rfl
  unfold State.lapOn
  dsimp only
  split
  · rw [hput, hbump, State.setSq_sqn_self]
  · rw [hbump, State.setSq_sqn_self]

theorem State.lapOn_lap (s : State) (n o : Nat) : (s.lapOn n o).fld (F.SQ_POS_LAP n) = min (s.fld (F.SQ_POS_LAP n) + 1) 16777215 := by
  have hset : ∀ q : Sq, (s.setSq n q).fld (F.SQ_POS_LAP n) = s.fld (F.SQ_POS_LAP n) := fun _ => rfl
  have hlap : ∀ q : Sq, ((s.setSq n q).bump (F.SQ_POS_LAP n)).fld (F.SQ_POS_LAP n) = min (s.fld (F.SQ_POS_LAP n) + 1) 16777215 :=
    fun q => by
      rw [State.bump_fld_self (by show 0 + 24 ≤ 32; decide), hset]
      rfl
  unfold State.lapOn
  dsimp only
  split
  · rw [State.put_fld_apart (by simp), hlap]
  · exact hlap _

theorem State.lapOn_tm (s : State) (n o : Nat) : (s.lapOn n o).tm = s.tm := by
  unfold State.lapOn
  dsimp only
  split <;> rfl

/-- The next lap has begun at `o` (R90). -/
theorem State.nextLap_laps {v : Visit} (hv : (s.sqn n).visit = some v) (hn : n < 8) :
    ((s.nextLap n o).sqn n).lapAt = o ∧ ((s.nextLap n o).sqn n).visit = some v ∧
      (s.nextLap n o).fld (F.SQ_POS_LAP n) = min (s.fld (F.SQ_POS_LAP n) + 1) 16777215 ∧ (s.nextLap n o).tm.heat = s.tm.heat := by
  obtain ⟨-, -, hlap, -⟩ := steady_sq ⟨n, hn⟩
  have hrest : Leaves steady (s.lapOn n o) (s.nextLap n o) ∧ (s.nextLap n o).sq = (s.lapOn n o).sq ∧
      (s.nextLap n o).tm = (s.lapOn n o).tm := by
    have hclear : ∀ (u : State) ev, Leaves steady u (u.clearLatch n ev) ∧ (u.clearLatch n ev).sq = u.sq ∧ (u.clearLatch n ev).tm = u.tm :=
      fun u ev => by
        unfold State.clearLatch
        split
        · exact ⟨Leaves.refl _ u, rfl, rfl⟩
        · exact ⟨(Decides.putLatch (o := o) hn).leaves, rfl, rfl⟩
    have hpens : ∀ (u : State) p, Leaves steady u (u.firePens n p o) ∧ (u.firePens n p o).sq = u.sq ∧ (u.firePens n p o).tm = u.tm :=
      fun u p => ⟨Leaves.regs rfl, rfl, rfl⟩
    rw [State.nextLap_eq, hv]
    dsimp only
    generalize s.entry n v.entry = x
    unfold State.lapStart
    extract_lets s3
    have h3 : Leaves steady (s.lapOn n o) s3 ∧ s3.sq = (s.lapOn n o).sq ∧ s3.tm = (s.lapOn n o).tm := by
      unfold s3
      split
      · exact hclear _ _
      · exact ⟨Leaves.refl _ _, rfl, rfl⟩
    obtain ⟨hregs, hsq, htm⟩ := h3
    split
    · obtain ⟨gregs, gsq, gtm⟩ := hpens s3 x.pen
      exact ⟨hregs.trans gregs, gsq.trans hsq, gtm.trans htm⟩
    · exact ⟨hregs, hsq, htm⟩
  obtain ⟨hregs, hsq, htm⟩ := hrest
  rw [State.sqn_congr hsq, State.lapOn_sqn, htm, State.lapOn_tm, hregs _ hlap, State.lapOn_lap]
  exact ⟨rfl, hv, rfl, rfl⟩

end
end Sys2Proof.Machine
end

section
/-! SUPPORT. The decision that applies first, and what has passed by its tick (R84, R90). -/

namespace Sys2Proof.Machine

/-- The decision is taken from SQn's list; a stop takes with it what comes after. -/
def State.takeDec (s : State) (n : Nat) (d : Dec) : State :=
  s.setSq n { s.sqn n with next := (s.sqn n).next.filter (fun x => decide (x ≠ d) && !(d.isStop && decide (d.o ≤ x.o))) }

/-- At the tick of SQn's first decision, the decision has been taken from its list. -/
def State.taken (s : State) (n : Nat) (d : Dec) : State := (s.arrive d.o).takeDec n d

/-- The steady fields, but for SQn's flags. -/
def steadyOff (n : Nat) (f : Fld) : Bool := steady f && decide (f.a ≠ 0x20108 + 0x40 * n)

section
variable {s t u : State} {n o e cause : Nat} {d : Dec} {rest : Bool} {K : Fld → Bool}

theorem steadyOff_stat (n : Nat) (hn : n < 8) : steadyOff n F.SEQ_STAT_HEAT = true ∧ steadyOff n F.SEQ_STAT_RUN_MASK = true ∧
    steadyOff n F.SEQ_STAT_HEAT_MASK = true :=
  (by decide +kernel : ∀ m : Fin 8, steadyOff m.val F.SEQ_STAT_HEAT = true ∧ steadyOff m.val F.SEQ_STAT_RUN_MASK = true ∧
    steadyOff m.val F.SEQ_STAT_HEAT_MASK = true) ⟨n, hn⟩

theorem steadyOff_of_fabric (hn : n < 8) {f : Fld} (h : 0x150000 ≤ f.a) : steadyOff n f = true :=
  Bool.and_eq_true_iff.2 ⟨steady_of_fabric h, decide_eq_true (by omega)⟩

theorem State.applyFirst_eq (s : State) (n : Nat) (d : Dec) : s.applyFirst n d = (s.taken n d).applyDec n d := rfl

theorem State.takeDec_tm (s : State) (n : Nat) (d : Dec) : (s.takeDec n d).tm = s.tm := rfl

theorem State.takeDec_sqn (s : State) (n : Nat) (d : Dec) : (s.takeDec n d).sqn n =
    { s.sqn n with next := (s.sqn n).next.filter (fun x => decide (x ≠ d) && !(d.isStop && decide (d.o ≤ x.o))) } :=
  State.setSq_sqn_self s n _

theorem Leaves.takeDec : Leaves K s (s.takeDec n d) := Leaves.setSq s n _

theorem Sited.takeDec : Sited s (s.takeDec n d) := Sited.setSq

theorem State.taken_sqn (s : State) (n : Nat) (d : Dec) : ∃ f p, (s.taken n d).sqn n = { s.sqn n with
    next := (s.sqn n).next.filter (fun x => decide (x ≠ d) && !(d.isStop && decide (d.o ≤ x.o))), lateFrom := f, prep := p } := by
  obtain ⟨f, p, h⟩ := s.passTo_sqn (s.tm.tb + (d.o - s.tm.heat)) n
  refine ⟨f, p, ?_⟩
  unfold State.taken State.arrive
  rw [State.takeDec_sqn, h]

theorem Leaves.taken : Leaves steady s (s.taken n d) := Leaves.passTo.trans Leaves.takeDec

theorem Sited.taken : Sited s (s.taken n d) := Sited.passTo.trans Sited.takeDec

theorem State.taken_blockFor (s : State) (n e : Nat) (d : Dec) : (s.taken n d).blockFor n e = s.blockFor n e := by
  obtain ⟨f, p, h⟩ := s.taken_sqn n d
  exact Sited.taken.blockFor (by rw [h]) e

theorem State.taken_heat (hrun : s.fld F.SEQ_STAT_HEAT = 3) : (s.taken n d).tm.heat = max s.tm.heat d.o := by
  rw [State.taken, State.takeDec_tm, State.arrive_heat_max hrun]

/-- A sequencer that plays, plays in a running heat. -/
theorem State.plays_running (h : s.plays n = true) : s.fld F.SEQ_STAT_HEAT = 3 := by
  simp only [State.plays, Bool.and_eq_true, decide_eq_true_eq] at h
  exact h.1.2

/-- The first decision applies where the sequencer plays and the decision is of the kind asked for. -/
theorem State.applyIf_first {p : Dec → Bool} (hplays : s.plays n = true) (hd : firstDec (s.sqn n).next = some d) (hp : p d = true) :
    s.applyIf n p = ((s.taken n d).applyDec n d).noteLevels := by
  unfold State.applyIf
  rw [hd]
  dsimp only
  rw [hplays, hp, State.applyFirst_eq]
  rfl

/-! ### What each kind of decision brings -/

theorem if_not {α : Type} (j : Bool) (a b : α) : (if !j then a else b) = if j then b else a := by cases j <;> rfl

theorem State.applyDec_visit (h : (s.sqn n).hold = none) (o e : Nat) (j : Bool) :
    s.applyDec n ⟨o, .visit e j⟩ = s.beginVisit n e o (!j) := by
  unfold State.applyDec
  dsimp only
  rw [h]

/-- A hold's end is recorded as its continuation begins (R102). -/
theorem State.applyDec_resume {h : Hold} (hh : (s.sqn n).hold = some h) (o e : Nat) (j : Bool) :
    s.applyDec n ⟨o, .visit e j⟩ = (s.sqRec n 0x07 ((o - h.o) % 2 ^ 32 + 2 ^ 32 * e) o).beginVisit n e o (!j) := by
  unfold State.applyDec
  dsimp only
  rw [hh]

theorem State.applyDec_stop (s : State) (n o : Nat) (r : Bool) (b : Nat) : s.applyDec n ⟨o, .stop r b⟩ = s.stopSq n r b o := rfl

theorem State.applyDec_hold (s : State) (n o e : Nat) : s.applyDec n ⟨o, .hold e⟩ = s.beginHold n e o := rfl

theorem State.applyDec_fallTo (s : State) (n o e a b : Nat) :
    s.applyDec n ⟨o, .fallback (some e) a b⟩ = (s.fallNoted n o a).beginVisit n e o false := rfl

theorem State.applyDec_fallRest (s : State) (n o a b : Nat) :
    s.applyDec n ⟨o, .fallback none a b⟩ = (s.fallNoted n o a).stopSq n true b o := rfl

/-- A lap's end within the visit: the start that the shadow front end carried has been passed, and the next lap begins (R95). -/
theorem State.applyDec_go {v : Visit} (hv : (s.sqn n).visit = some v) (hend : isLapEnd (s.entry n v.entry) v.f o = true) :
    s.applyDec n ⟨o, .go⟩ = (s.zones n ((s.sqn n).shadow.filter (fun z => decide (o < z.1)))).nextLap n o := by
  have hentry : ∀ l, (s.zones n l).entry n v.entry = s.entry n v.entry := fun _ => rfl
  unfold State.applyDec
  dsimp only
  rw [hv]
  dsimp only
  rw [hentry, hend]
  rfl

/-- What a stop brings, seen from a state that it leaves. -/
theorem StopsAt.seen (h : StopsAt n rest u t) (hleft : Leaves (steadyOff n) s u) (hn : n < 8) :
    (s.fld F.SEQ_STAT_RUN_MASK = 2 ^ n → t.fld F.SEQ_STAT_HEAT = 1 ∧ t.fld F.SEQ_STAT_HEAT_END = 1 ∧
      ∀ i < 8, s.inHeat i = true → t.sqState i = sqLoaded) ∧
    (putBit (s.fld F.SEQ_STAT_RUN_MASK) n false ≠ 0 → t.sqState n = sqStopped ∧ t.fld F.SEQ_STAT_HEAT = s.fld F.SEQ_STAT_HEAT ∧
      t.fld F.SEQ_STAT_RUN_MASK = putBit (s.fld F.SEQ_STAT_RUN_MASK) n false) ∧
    (rest = true → AtRest (s.fcsOf n) (s.vpsOf n) t) := by
  obtain ⟨hheat, hrun, hmask⟩ := steadyOff_stat n hn
  have hin : ∀ i, u.inHeat i = s.inHeat i := fun i => by
    rw [State.inHeat, hleft _ hmask]
    rfl
  have hfcs : u.fcsOf n = s.fcsOf n := hleft.fcsOf (fun _ => steadyOff_of_fabric hn) n
  have hvps : u.vpsOf n = s.vpsOf n := hleft.vpsOf (fun _ => steadyOff_of_fabric hn) n
  obtain ⟨-, hends, hgoes, hrest, -⟩ := h
  simp only [hleft _ hheat, hleft _ hrun, hin, hfcs, hvps] at hends hgoes hrest
  exact ⟨hends, hgoes, hrest⟩

end
end Sys2Proof.Machine
end

section
/-! SUPPORT. The commands by which a decision applies, kind by kind (R83, R86, R90, R95, R101, R102, R112). -/

namespace Sys2Proof.Machine

section
variable {s : State} {n : Fin 8} {o e : Nat} {d : Dec}

/-- What waits of a fence's FALLBACK waits still as a decision of another kind is taken. -/
theorem any_fenced_take {l : List Dec} (hstop : d.isStop = false) (hfence : d.fenced = false) :
    (l.filter (fun x => decide (x ≠ d) && !(d.isStop && decide (d.o ≤ x.o)))).any Dec.fenced = l.any Dec.fenced := by
  rw [List.any_filter]
  congr 1
  funext x
  rw [hstop]
  by_cases hx : x = d
  · rw [hx, hfence, Bool.and_false]
  · simp only [hx, ne_eq, not_false_eq_true, decide_true, Bool.false_and, Bool.not_false, Bool.true_and]

/-- The clauses' account of a visit that begins. -/
def VisitBegins (s : State) (n : Fin 8) (o e : Nat) (j : Bool) (t : State) : Prop :=
  (t.sqn n.val).visit = some ⟨e, o, o, if j then s.blockFor n.val e else none⟩ ∧ t.fld (F.SQ_STAT_ENTRY n.val) = e % 65536 ∧
    t.fld (F.SQ_POS_LAP n.val) = 1 ∧ t.fld (F.SQ_POS_EXT n.val) = 0 ∧ t.fld (F.SQ_STAT_HELD n.val) = 0 ∧ t.tm.heat = max s.tm.heat o

theorem State.visitBegins (hplays : s.plays n.val = true) (u : State) (hblock : u.blockFor n.val e = (s.taken n.val d).blockFor n.val e)
    (htm : u.tm = (s.taken n.val d).tm) (ho : d.o = o) (j : Bool) : VisitBegins s n o e j (u.beginVisit n.val e o (!j)) := by
  have hbegun := u.beginVisit_begun n.isLt e o (!j)
  refine ⟨?_, hbegun.entry, hbegun.lap, hbegun.ext, hbegun.held, ?_⟩
  · rw [hbegun.visit, if_not, hblock, State.taken_blockFor]
  · rw [hbegun.heat, htm, State.taken_heat (State.plays_running hplays), ho]

theorem exchange_visits {j : Bool} (hplays : s.plays n.val = true) (hd : firstDec (s.sqn n.val).next = some ⟨o, .visit e j⟩)
    (hhold : (s.sqn n.val).hold = none) : Does (.exchange n) s (VisitBegins s n o e j) := by
  obtain ⟨f, p, hq⟩ := s.taken_sqn n.val ⟨o, .visit e j⟩
  refine ⟨(s.taken n.val ⟨o, .visit e j⟩).beginVisit n.val e o (!j), ?_, State.visitBegins hplays _ rfl rfl rfl j⟩
  refine congrArg Host.Outcome.next ((State.applyIf_first hplays hd ?_).trans ?_)
  · rw [hhold]
    rfl
  · rw [State.applyDec_visit (by rw [hq]; exact hhold)]

theorem holdResume_visits {j : Bool} {h : Hold} (hplays : s.plays n.val = true)
    (hd : firstDec (s.sqn n.val).next = some ⟨o, .visit e j⟩) (hhold : (s.sqn n.val).hold = some h) :
    Does (.holdResume n) s fun t => (t.sqn n.val).hold = none ∧ VisitBegins s n o e j t := by
  obtain ⟨f, p, hq⟩ := s.taken_sqn n.val ⟨o, .visit e j⟩
  have hnoted : ∀ u : State, Sited u (u.sqRec n.val 0x07 ((o - h.o) % 2 ^ 32 + 2 ^ 32 * e) o) := fun _ => Sited.sqRec
  refine ⟨_, congrArg Host.Outcome.next ((State.applyIf_first hplays hd ?_).trans
    (congrArg State.noteLevels (State.applyDec_resume (by rw [hq]; exact hhold) o e j))), ?_, ?_⟩
  · rw [hhold]
    rfl
  · exact (State.beginVisit_begun _ n.isLt e o (!j)).hold
  · refine State.visitBegins hplays _ ((hnoted _).blockFor ?_ e) (State.event_tm _ _) rfl j
    exact congrArg Sq.resident (State.sqn_congr (State.event_sq _ _) n.val)

theorem lapEnd_goes {v : Visit} (hplays : s.plays n.val = true) (hd : firstDec (s.sqn n.val).next = some ⟨o, .go⟩)
    (hv : (s.sqn n.val).visit = some v) (hend : isLapEnd (s.entry n.val v.entry) v.f o = true) :
    Does (.lapEnd n) s fun t => (t.sqn n.val).lapAt = o ∧ t.fld (F.SQ_POS_LAP n.val) = min (s.fld (F.SQ_POS_LAP n.val) + 1) 16777215 ∧
      (t.sqn n.val).visit = some v ∧ t.tm.heat = max s.tm.heat o := by
  obtain ⟨f, p, hq⟩ := s.taken_sqn n.val ⟨o, .go⟩
  obtain ⟨-, -, hlap, -⟩ := steady_sq n
  have hvt : ((s.taken n.val ⟨o, .go⟩).sqn n.val).visit = some v := by rw [hq]; exact hv
  have hentry : (s.taken n.val ⟨o, .go⟩).entry n.val v.entry = s.entry n.val v.entry := by
    unfold State.entry State.crsWord
    rw [Sited.taken.course]
  generalize hu : (s.taken n.val ⟨o, .go⟩).zones n.val
    (((s.taken n.val ⟨o, .go⟩).sqn n.val).shadow.filter (fun z => decide (o < z.1))) = u
  have huv : (u.sqn n.val).visit = some v := by rw [← hu, State.zones_sqn]; exact hvt
  have hulap : u.fld (F.SQ_POS_LAP n.val) = s.fld (F.SQ_POS_LAP n.val) := by
    have hne : 0x20104 + 0x40 * n.val ≠ 0x20100 + 0x40 * n.val := by omega
    rw [← hu, State.fld, State.zones_rd hne]
    exact Leaves.taken _ hlap
  have hutm : u.tm = (s.taken n.val ⟨o, .go⟩).tm := by rw [← hu, State.zones_tm]
  obtain ⟨hat, hvisit, hnum, hheat⟩ := State.nextLap_laps (o := o) huv n.isLt
  refine ⟨u.nextLap n.val o, congrArg Host.Outcome.next ((State.applyIf_first hplays hd ?_).trans ?_), hat, ?_, hvisit, ?_⟩
  · dsimp only
    rw [hv]
    exact hend
  · rw [State.applyDec_go hvt (by rw [hentry]; exact hend), hu]
  · rw [hnum, hulap]
  · rw [hheat, hutm, State.taken_heat (State.plays_running hplays)]

theorem fallback_visits {a b : Nat} (hplays : s.plays n.val = true) (hd : firstDec (s.sqn n.val).next = some ⟨o, .fallback (some e) a b⟩) :
    Does (.fallback n) s fun t => t.fld (F.SQ_FLAGS_FALLBACK n.val) = 1 ∧ VisitBegins s n o e true t := by
  refine ⟨_, congrArg Host.Outcome.next ((State.applyIf_first hplays hd rfl).trans
    (congrArg State.noteLevels (State.applyDec_fallTo _ n.val o e a b))), ?_, ?_⟩
  · rw [Leaves.beginVisit n.isLt _ (visitFld_of_lasting (lasting_fallback n)), State.fallNoted_flag n.isLt]
  · refine State.visitBegins hplays _ ((Sited.fallNoted n.isLt).blockFor ?_ e) State.fallNoted_tm rfl true
    exact congrArg Sq.resident (State.sqn_congr State.fallNoted_sq n.val)

/-- The clauses' account of a stop: a heat that ends with it, or goes on without the sequencer. -/
def StopEnds (s : State) (n : Fin 8) (t : State) : Prop :=
  (s.fld F.SEQ_STAT_RUN_MASK = 2 ^ n.val → t.fld F.SEQ_STAT_HEAT = 1 ∧ t.fld F.SEQ_STAT_HEAT_END = 1 ∧
      (∀ i : Fin 8, s.inHeat i.val = true → t.sqState i.val = sqLoaded)) ∧
    (putBit (s.fld F.SEQ_STAT_RUN_MASK) n.val false ≠ 0 → t.sqState n.val = sqStopped ∧ t.fld F.SEQ_STAT_HEAT = 3 ∧
      t.fld F.SEQ_STAT_RUN_MASK = putBit (s.fld F.SEQ_STAT_RUN_MASK) n.val false)

theorem StopsAt.ends_of {u t : State} {r : Bool} (hplays : s.plays n.val = true) (h : StopsAt n.val r u t) (hleft : Leaves (steadyOff n.val) s u) :
    StopEnds s n t ∧ (r = true → AtRest (s.fcsOf n.val) (s.vpsOf n.val) t) := by
  obtain ⟨hends, hgoes, hrest⟩ := h.seen hleft n.isLt
  rw [State.plays_running hplays] at hgoes
  refine ⟨⟨fun hm => ?_, hgoes⟩, hrest⟩
  obtain ⟨hheat, hend, hall⟩ := hends hm
  exact ⟨hheat, hend, fun i => hall i.val i.isLt⟩

theorem Leaves.takenOff : Leaves (steadyOff n.val) s (s.taken n.val d) := Leaves.taken.mono fun _ hf => (Bool.and_eq_true_iff.1 hf).1

theorem fallback_stops {a b : Nat} (hplays : s.plays n.val = true) (hd : firstDec (s.sqn n.val).next = some ⟨o, .fallback none a b⟩) :
    Does (.fallback n) s fun t => t.fld (F.SQ_FLAGS_FALLBACK n.val) = 1 ∧ t.Bare n.val ∧ StopEnds s n t ∧
      AtRest (s.fcsOf n.val) (s.vpsOf n.val) t := by
  have hstop := ((s.taken n.val ⟨o, .fallback none a b⟩).fallNoted n.val o a).stopSq_stopsAt n.isLt true b o
  have hnoted : Leaves (steadyOff n.val) (s.taken n.val ⟨o, .fallback none a b⟩)
      ((s.taken n.val ⟨o, .fallback none a b⟩).fallNoted n.val o a) := Leaves.fallNoted fun f hf => by
    obtain ⟨hsteady, hoff⟩ := Bool.and_eq_true_iff.1 hf
    exact ⟨evRegs_of_steady hsteady, of_decide_eq_true hoff⟩
  obtain ⟨hends, hrest⟩ := hstop.ends_of hplays (Leaves.takenOff.trans hnoted)
  refine ⟨_, congrArg Host.Outcome.next ((State.applyIf_first hplays hd rfl).trans
    (congrArg State.noteLevels (State.applyDec_fallRest _ n.val o a b))), ?_, hstop.bare, hends, hrest rfl⟩
  rw [hstop.leaves _ (lasting_fallback n), State.fallNoted_flag n.isLt]

theorem stop_stops {r : Bool} {b : Nat} (hplays : s.plays n.val = true) (hd : firstDec (s.sqn n.val).next = some ⟨o, .stop r b⟩) :
    Does (.stopTakesEffect n) s fun t => t.Bare n.val ∧ StopEnds s n t ∧ (r = true → AtRest (s.fcsOf n.val) (s.vpsOf n.val) t) := by
  have hstop := (s.taken n.val ⟨o, .stop r b⟩).stopSq_stopsAt n.isLt r b o
  exact ⟨_, congrArg Host.Outcome.next ((State.applyIf_first hplays hd rfl).trans
    (congrArg State.noteLevels (State.applyDec_stop _ n.val o r b))), hstop.bare, hstop.ends_of hplays Leaves.takenOff⟩

theorem exchange_holds (hplays : s.plays n.val = true) (hd : firstDec (s.sqn n.val).next = some ⟨o, .hold e⟩) :
    Does (.exchange n) s fun t => (t.sqn n.val).hold = some ⟨o, e, 16 * (s.arrive o).fld (F.SQ_HOLD_LIMIT_LIMIT16 n.val),
      (s.sqn n.val).next.any Dec.fenced⟩ ∧ t.fld (F.SQ_STAT_HELD n.val) = 1 ∧ t.fld (F.SQ_FLAGS_HOLD_SEEN n.val) = 1 ∧
      t.tm.heat = max s.tm.heat o := by
  obtain ⟨f, p, hq⟩ := s.taken_sqn n.val ⟨o, .hold e⟩
  have hlimit : (s.taken n.val ⟨o, .hold e⟩).fld (F.SQ_HOLD_LIMIT_LIMIT16 n.val) = (s.arrive o).fld (F.SQ_HOLD_LIMIT_LIMIT16 n.val) :=
    Leaves.takeDec (K := fun _ => true) _ rfl
  obtain ⟨hhold, hheld, hseen, hheat⟩ := (s.taken n.val ⟨o, .hold e⟩).beginHold_begun n.isLt e o
  refine ⟨_, congrArg Host.Outcome.next ((State.applyIf_first hplays hd rfl).trans
    (congrArg State.noteLevels (State.applyDec_hold _ n.val o e))), ?_, hheld, hseen, ?_⟩
  · rw [hhold, hlimit, any_fenced_filter, hq]
    exact congrArg (fun b => some (Hold.mk _ _ _ b)) (any_fenced_take rfl rfl)
  · rw [hheat, State.taken_heat (State.plays_running hplays)]

end

/-- Settles O16: each kind of decision, by what it does to the state in which it has been taken from its sequencer's list at its tick. -/
theorem decisionsApply : Obligations.DecisionsApply := by
  unfold Obligations.DecisionsApply
  refine ⟨fun s n o e j hp hd hh => exchange_visits hp hd hh, fun s n o v hp hd hv hend => lapEnd_goes hp hd hv hend,
    fun s n o e a b hp hd => fallback_visits hp hd, fun s n o a b hp hd => ?_, fun s n o r b hp hd => ?_,
    fun s n o e hp hd => exchange_holds hp hd, fun s n o e j h hp hd hh => holdResume_visits hp hd hh⟩
  · obtain ⟨t, hexec, hflag, ⟨hvisit, hnext⟩, ⟨hends, hgoes⟩, hfcs, hvps⟩ := fallback_stops hp hd
    exact ⟨t, hexec, hflag, hvisit, hnext, hends, hgoes, hfcs, hvps⟩
  · obtain ⟨t, hexec, ⟨hvisit, hnext⟩, ⟨hends, hgoes⟩, hrest⟩ := stop_stops hp hd
    exact ⟨t, hexec, hvisit, hnext, hends, hgoes, hrest⟩

end Sys2Proof.Machine
end

section
/-! SUPPORT. The command queues (R110, R111, R291, R294): what a record that enters, leaves or completes leaves of them. -/

namespace Sys2Proof.Machine

section
variable {s t u : State} {i n : Nat} {r : Rec}

/-! ### A command queue -/

theorem State.getQ_cmd (s : State) (n : Fin 8) : s.getQ n.val = Sp.get (fun _ => Q.empty) s.q.cmdq n.val := by fin_cases n <;> rfl

theorem State.setQ_cmd (s : State) (n : Fin 8) (v : Q) :
    s.setQ n.val v = { s with q := { s.q with cmdq := Sp.set (fun _ => Q.empty) s.q.cmdq n.val v } } := by fin_cases n <;> rfl

theorem State.setQ_upset (s : State) (i : Nat) (v : Q) : (s.setQ i v).q.upset = s.q.upset := by
  unfold State.setQ
  split <;> rfl

theorem State.enter_upset (s : State) (i : Nat) (r : Rec) : (s.enter i r).q.upset = s.q.upset := by
  unfold State.enter
  dsimp only
  split
  · exact State.setQ_upset _ _ _
  · exact State.setQ_upset _ _ _

/-- Pointers whose copies agree are left as they are (R294). -/
theorem State.ptrCheck_agrees (h : bitOf s.q.upset i = false) : s.ptrCheck i = s := by
  unfold State.ptrCheck
  rw [h]
  rfl

/-! ### Records leave the command queues -/

/-- A queue of the device's own changes, and no command queue. -/
theorem State.enter_cmdq (s : State) (r : Rec) : (s.enter 8 r).q.cmdq = s.q.cmdq ∧ (s.enter 12 r).q.cmdq = s.q.cmdq := by
  constructor
  · unfold State.enter
    dsimp only
    split <;> rfl
  · unfold State.enter
    dsimp only
    split <;> rfl

theorem State.evDrain_cmdq (k : Nat) (s : State) : (State.evDrain k s).q.cmdq = s.q.cmdq := by
  induction k generalizing s with
  | zero => rfl
  | succ k ih =>
    unfold State.evDrain
    split
    · rfl
    · split
      · rfl
      · exact (ih _).trans (State.enter_cmdq _ _).1

theorem State.log_cmdq (s : State) (a b c d e : Nat) : (s.log a b c d e).q.cmdq = s.q.cmdq := by
  have hput : ∀ (t : State) r, (t.logPut r).q.cmdq = t.q.cmdq := fun t r => by
    unfold State.logPut
    split
    · exact (State.enter_cmdq t r).2
    · rfl
  have hlost : s.logLost.q.cmdq = s.q.cmdq := by
    unfold State.logLost
    split
    · exact hput _ _
    · rfl
  unfold State.log
  dsimp only
  split
  · exact (hput _ _).trans hlost
  · exact hlost

theorem State.ptrCheck_cmdq (s : State) : (s.ptrCheck 8).q.cmdq = s.q.cmdq := by
  have hdiscard : ∀ (t : State) k, (t.evDiscard k).q.cmdq = t.q.cmdq := fun t k => by
    unfold State.evDiscard
    dsimp only
    refine (State.evDrain_cmdq _ _).trans ?_
    split
    · rfl
    · exact (State.enter_cmdq _ _).1
  unfold State.ptrCheck State.ptrMismatch
  dsimp only
  split
  · refine (State.log_cmdq _ _ _ _ _ _).trans ?_
    exact hdiscard (s.clearQ 8) (s.level 8)
  · rfl

/-- An event record leaves the command queues. -/
theorem State.event_cmdq (s : State) (r : Rec) : (s.event r).q.cmdq = s.q.cmdq := by
  have hplace : ∀ (t : State) k r, (t.evPlace k r).q.cmdq = t.q.cmdq := fun t k r => by
    unfold State.evPlace
    dsimp only
    split
    · exact (State.ptrCheck_cmdq _).trans (State.enter_cmdq t r).1
    · rfl
  have hlost : s.evLost.q.cmdq = s.q.cmdq := by
    unfold State.evLost
    split
    · exact hplace _ _ _
    · rfl
  unfold State.event
  dsimp only
  split
  · exact (hplace _ _ _).trans hlost
  · exact hlost

/-! ### A word written to a command queue -/

/-- A word joins the record being written; the fourth makes it enter (R110, R291). -/
theorem State.writeQ_getQ (n : Fin 8) (hup : bitOf s.q.upset n.val = false) (w : Word) : (s.writeQ n.val w).getQ n.val =
    if (s.getQ n.val).part.length = 3 then
      { s.getQ n.val with recs := (s.getQ n.val).recs ++ [(s.getQ n.val).part ++ [w]], part := [] }
    else { s.getQ n.val with part := (s.getQ n.val).part ++ [w] } := by
  have hwords : qWords n.val = 4 := (by decide : ∀ m : Fin 8, qWords m.val = 4) n
  unfold State.writeQ
  dsimp only
  rw [hwords, List.length_append, List.length_singleton]
  by_cases h : (s.getQ n.val).part.length = 3
  · rw [if_pos h, if_pos (by omega), State.ptrCheck_agrees (by rw [State.enter_upset, State.setQ_upset, hup]), State.enter_getQ,
      State.setQ_getQ_self]
  · rw [if_neg h, if_neg (by omega), State.setQ_getQ_self]

theorem State.withBus_getQ (s : State) (b : List Access) (n : Fin 8) : (s.withBus b).getQ n.val = s.getQ n.val := by
  rw [State.getQ_cmd, State.getQ_cmd]
  rfl

theorem State.setLastWr_getQ (s : State) (k : Nat) (w : Word) (n : Fin 8) : (s.setLastWr k w).getQ n.val = s.getQ n.val := by
  rw [State.getQ_cmd, State.getQ_cmd]
  rfl

theorem State.setLastWr_upset (s : State) (k : Nat) (w : Word) : (s.setLastWr k w).q.upset = s.q.upset := rfl

theorem cmdqPort : ∀ n : Fin 8, keyReg (0x20120 + 0x40 * n.val) = false ∧ bufOfMode (0x20120 + 0x40 * n.val) = none ∧
    writePort (0x20120 + 0x40 * n.val) = some n.val := by decide +kernel

/-- A write of a command queue's port writes its queue, and the bus is free again. -/
theorem State.wrote_cmdq (s : State) (n : Fin 8) (w : Word) (p : Bool) : ∃ c d,
    s.wrote (0x20120 + 0x40 * n.val) w p = (((s.withBus c).setLastWr n.val w).writeQ n.val w).withBus d := by
  obtain ⟨hkey, hmode, hport⟩ := cmdqPort n
  have hnot : n.val ≠ 14 := by omega
  refine ⟨[wrAcc (0x20120 + 0x40 * n.val) w p], (((s.withBus [wrAcc (0x20120 + 0x40 * n.val) w p]).setLastWr n.val w).writeQ n.val w).bus.drop 1, ?_⟩
  unfold State.wrote State.atBus State.regWrite State.useKey State.portWrite
  simp only [hkey, hmode, hport, hnot, Bool.false_eq_true, if_false]
  rfl

theorem cmdqWordWrite_writes (n : Fin 8) {w : Word} {p : Bool} (h : s.takes (0x20120 + 0x40 * n.val) w p = true)
    (hup : bitOf s.q.upset n.val = false) : Does (.cmdqWordWrite n w p false) s fun t => t.getQ n.val =
      if (s.getQ n.val).part.length = 3 then
        { s.getQ n.val with recs := (s.getQ n.val).recs ++ [(s.getQ n.val).part ++ [w]], part := [] }
      else { s.getQ n.val with part := (s.getQ n.val).part ++ [w] } := by
  obtain ⟨c, d, hwrote⟩ := s.wrote_cmdq n w p
  have hup' : bitOf ((s.withBus c).setLastWr n.val w).q.upset n.val = false := hup
  refine ⟨s.wrote (0x20120 + 0x40 * n.val) w p, ?_, ?_⟩
  · exact congrArg Host.Outcome.next (State.writeRow_takes h)
  · beta_reduce
    rw [hwrote, State.withBus_getQ, State.writeQ_getQ n hup', State.setLastWr_getQ, State.withBus_getQ]

/-! ### A record that is taken -/

/-- The command queues change, and nothing else. -/
def CmdqOnly (s t : State) : Prop := ∃ c, t = { s with q := { s.q with cmdq := c } }

theorem CmdqOnly.leave (s : State) (n : Fin 8) : CmdqOnly s (s.leave n.val) := ⟨_, State.setQ_cmd s n _⟩

theorem State.leave_getQ (s : State) (n : Fin 8) : ((s.leave n.val).getQ n.val).recs = (s.getQ n.val).recs.tail := by
  unfold State.leave
  rw [State.setQ_getQ_self]

theorem CmdqOnly.tm (h : CmdqOnly s t) : t.tm = s.tm := by obtain ⟨_, rfl⟩ := h; rfl
theorem CmdqOnly.sq (h : CmdqOnly s t) : t.sq = s.sq := by obtain ⟨_, rfl⟩ := h; rfl
theorem CmdqOnly.regs (h : CmdqOnly s t) : t.regs = s.regs := by obtain ⟨_, rfl⟩ := h; rfl
theorem CmdqOnly.upset (h : CmdqOnly s t) : t.q.upset = s.q.upset := by obtain ⟨_, rfl⟩ := h; rfl
theorem CmdqOnly.evRoom (h : CmdqOnly s t) (k : Nat) : t.evRoom k = s.evRoom k := by obtain ⟨_, rfl⟩ := h; rfl
theorem CmdqOnly.justSeen (h : CmdqOnly s t) (k : Nat) : t.justSeen k = s.justSeen k := by obtain ⟨_, rfl⟩ := h; rfl
theorem CmdqOnly.contReady (h : CmdqOnly s t) (k e : Nat) : t.contReady k e = s.contReady k e := by obtain ⟨_, rfl⟩ := h; rfl
theorem CmdqOnly.entry (h : CmdqOnly s t) (k e : Nat) : t.entry k e = s.entry k e := by obtain ⟨_, rfl⟩ := h; rfl
theorem CmdqOnly.segFenced (h : CmdqOnly s t) (k : Nat) : t.segFenced k = s.segFenced k := by obtain ⟨_, rfl⟩ := h; rfl

/-- What the time up to the tick in which a record is taken leaves: the queues, the steady fields, and of SQn all but its late copy and what
a resolved hold has loaded. -/
theorem State.nextTake_frame (s : State) (n : Nat) : (s.nextTake n).q.cmdq = s.q.cmdq ∧ (s.nextTake n).q.upset = s.q.upset ∧
    (∀ a, timeReg a = false → (s.nextTake n).rd a = s.rd a) ∧
    ∃ f p, (s.nextTake n).sqn n = { s.sqn n with lateFrom := f, prep := p } := by
  have hadv : ∀ k, (s.advance k).q = s.q ∧ (∀ a, timeReg a = false → (s.advance k).rd a = s.rd a) ∧
      ∃ f p, (s.advance k).sqn n = { s.sqn n with lateFrom := f, prep := p } := fun k => by
    unfold State.advance
    split
    · exact ⟨PassOnly.passTo.q, fun a ha => State.passTo_rd ha, s.passTo_sqn _ n⟩
    · exact ⟨rfl, fun _ _ => rfl, _, _, rfl⟩
  obtain ⟨hq, hrd, hsqn⟩ := hadv 1
  unfold State.nextTake
  dsimp only
  split
  · exact ⟨congrArg Qs.cmdq hq, congrArg Qs.upset hq, hrd, hsqn⟩
  · exact ⟨rfl, rfl, fun _ _ => rfl, _, _, rfl⟩

end
end Sys2Proof.Machine
end

section
/-! SUPPORT. The commands of a queue's record (R111, R112): what each does to the state that has taken the record, and its completion. -/

namespace Sys2Proof.Machine

section
variable {s t u : State} {n : Fin 8} {c : Cmd} {m k : Nat}

/-! ### Completion -/

theorem doneReg : ∀ m : Fin 8, (F.SQ_CMD_DONE_OPCODE m.val).a ∉ evRegs := by decide

/-- The registers after a record has completed with OK. -/
def State.doneWord (s : State) (n : Nat) (c : Cmd) : State := s.wr (F.SQ_CMD_DONE_OPCODE n).a (BitVec.ofNat 32 (c.op + 2 ^ 16 * c.tag))

theorem State.cmdDone_ok (s : State) (n : Nat) (c : Cmd) : s.cmdDone n c stOk =
    (s.doneWord n c).eventNow n 0x0A (c.op + 2 ^ 16 * c.tag + 2 ^ 32 * s.fld (F.SQ_STAT_ENTRY n)) := by
  have hentry : (s.doneWord n c).fld (F.SQ_STAT_ENTRY n) = s.fld (F.SQ_STAT_ENTRY n) := State.wr_fld_ne (by
    show 0x20100 + 0x40 * n ≠ 0x20128 + 0x40 * n
    omega)
  have hword : c.op + 2 ^ 8 * stOk + 2 ^ 16 * c.tag = c.op + 2 ^ 16 * c.tag := by rw [Nat.mul_zero, Nat.add_zero]
  unfold State.cmdDone
  rw [if_pos rfl]
  dsimp only
  rw [hword, ← hentry]
  rfl

/-- A record has completed with OK (R111): SQn_CMD_DONE, and the CMD_DONE record where EVQ has room. -/
structure Completes (n : Fin 8) (c : Cmd) (s t : State) : Prop where
  word : t.rd (F.SQ_CMD_DONE_OPCODE n.val).a = BitVec.ofNat 32 (c.op + 2 ^ 16 * c.tag)
  sq : t.sq = s.sq
  tm : t.tm = s.tm
  queue : t.getQ n.val = s.getQ n.val
  rd : ∀ a, a ∉ evRegs → a ≠ (F.SQ_CMD_DONE_OPCODE n.val).a → t.rd a = s.rd a
  recorded : s.evRoom n.val = true → t.lastRec 8 = some (evRec s.tm.tb n.val 0x0A (c.op + 2 ^ 16 * c.tag + 2 ^ 32 * s.fld (F.SQ_STAT_ENTRY n.val)))

theorem State.cmdDone_completes (s : State) (n : Fin 8) (c : Cmd) : Completes n c s (s.cmdDone n.val c stOk) := by
  rw [State.cmdDone_ok]
  exact {
    word := (State.eventNow_rd (doneReg n)).trans (State.wr_rd_self _ _ _)
    sq := State.event_sq _ _
    tm := State.event_tm _ _
    queue := by
      rw [State.getQ_cmd, State.eventNow, State.event_cmdq, State.getQ_cmd]
      rfl
    rd := fun a hev hne => (State.eventNow_rd hev).trans (State.wr_rd_ne hne)
    recorded := fun h => State.eventNow_lastRec (s := s.doneWord n.val c) (by omega) h }

/-! ### Taking a record -/

theorem steady_role : steady F.MIR_CTRL_ROLE = true := by decide +kernel

/-- The steady fields stand up to the tick in which a record is taken. -/
theorem Leaves.nextTake : Leaves steady s (s.nextTake m) := fun f hf =>
  congrArg (getBits f.lo f.w) ((s.nextTake_frame m).2.2.1 f.a (timeReg_of_steady hf))

/-- A single device that takes a record of SQn at its next tick: the record has left the queue. -/
structure State.Takes (s : State) (n : Fin 8) (op : Nat) (c : Cmd) : Prop where
  live : s.live = true
  awake : s.awake 2 = true
  counting : s.fld F.TB_STAT_COUNTING = 1
  single : s.role = roleSingle
  agrees : bitOf s.q.upset n.val = false
  head : s.cmdHead n.val op = some c
  args : c.argsOk = true

/-- The record has been taken from SQn's queue. -/
def State.tookCmd (s : State) (n : Fin 8) : State := (s.nextTake n.val).leave n.val

theorem State.tookCmd_only (s : State) (n : Fin 8) : CmdqOnly (s.nextTake n.val) (s.tookCmd n) := CmdqOnly.leave _ n

theorem Leaves.tookCmd : Leaves steady s (s.tookCmd n) := Leaves.nextTake.trans (Leaves.regs (s.tookCmd_only n).regs)

theorem State.tookCmd_sqn (s : State) (n : Fin 8) : ∃ f p, (s.tookCmd n).sqn n.val = { s.sqn n.val with lateFrom := f, prep := p } := by
  obtain ⟨-, -, -, f, p, h⟩ := s.nextTake_frame n.val
  exact ⟨f, p, (State.sqn_congr (s.tookCmd_only n).sq n.val).trans h⟩

theorem State.tookCmd_recs (s : State) (n : Fin 8) : ((s.tookCmd n).getQ n.val).recs = (s.getQ n.val).recs.tail := by
  have hq : (s.nextTake n.val).getQ n.val = s.getQ n.val := by rw [State.getQ_cmd, State.getQ_cmd, (s.nextTake_frame n.val).1]
  unfold State.tookCmd
  rw [State.leave_getQ, hq]

/-- A single device waits for nothing. -/
theorem State.leaderDelay_single (h : s.role = roleSingle) (ok : Bool) (m arg : Nat) : s.leaderDelay ok m arg = s := by
  unfold State.leaderDelay
  rw [if_neg]
  rw [h]
  exact fun h => absurd h.1 (by decide)

/-- A legal record acts in the state in which it has been taken, and completes with OK (R111). -/
theorem State.Takes.takeCmd {op : Nat} (h : s.Takes n op c) {legal : State → Bool} {act : State → Cmd → State}
    (hlegal : legal (s.tookCmd n) = true) : s.takeCmd n.val op legal act = (act (s.tookCmd n) c).cmdDone n.val c stOk := by
  obtain ⟨hlive, hawake, hcount, hsingle, hup, hhead, hargs⟩ := h
  have hrole : (s.tookCmd n).role = roleSingle := (Leaves.tookCmd _ steady_role).trans hsingle
  have hcheck : (s.tookCmd n).ptrCheck n.val = s.tookCmd n := State.ptrCheck_agrees (by
    rw [(s.tookCmd_only n).upset, (s.nextTake_frame n.val).2.1, hup])
  unfold State.takeCmd
  rw [hhead]
  dsimp only
  rw [hlive, hawake, State.flag_eq_true hcount]
  simp only [Bool.not_true, Bool.or_false, Bool.false_eq_true, if_false]
  rw [show (s.nextTake n.val).leave n.val = s.tookCmd n from rfl, hcheck, State.leaderDelay_single hrole, hargs, hlegal, hrole]
  simp only [Bool.not_true, Bool.false_eq_true, if_false]
  rw [if_neg (by rintro ⟨-, h⟩; exact absurd h (by decide))]

/-- The clauses' account of a record that has completed. -/
def Accounts (s u : State) (n : Fin 8) (c : Cmd) (t : State) : Prop :=
  t.rd (F.SQ_CMD_DONE_OPCODE n.val).a = BitVec.ofNat 32 (c.op + 2 ^ 16 * c.tag) ∧ (t.getQ n.val).recs = (s.getQ n.val).recs.tail ∧
    (u.evRoom n.val = true → t.lastRec 8 = some (evRec u.tm.tb n.val 0x0A (c.op + 2 ^ 16 * c.tag + 2 ^ 32 * u.fld (F.SQ_STAT_ENTRY n.val))))

/-- An effect that leaves the queues, the tick and ENTRY completes as the clauses say. -/
theorem Completes.accounts {w : State} (h : Completes n c w t) (hq : w.q = (s.tookCmd n).q) (htm : w.tm = (s.tookCmd n).tm)
    (hentry : w.fld (F.SQ_STAT_ENTRY n.val) = (s.tookCmd n).fld (F.SQ_STAT_ENTRY n.val)) : Accounts s (s.nextTake n.val) n c t := by
  have honly := s.tookCmd_only n
  have hfld : (s.tookCmd n).fld (F.SQ_STAT_ENTRY n.val) = (s.nextTake n.val).fld (F.SQ_STAT_ENTRY n.val) :=
    Leaves.regs (K := fun _ => true) honly.regs _ rfl
  refine ⟨h.word, ?_, fun hroom => ?_⟩
  · rw [h.queue, State.getQ_cmd, hq, ← State.getQ_cmd, State.tookCmd_recs]
  · rw [h.recorded ((State.evRoom_congr hq htm).trans ((honly.evRoom n.val).trans hroom)), htm, hentry, hfld, honly.tm]

/-! ### STOP -/

theorem State.runs_tookCmd (h : s.runOrPaused n.val = true) : (s.tookCmd n).runOrPaused n.val = true := by
  have hstate : (s.tookCmd n).sqState n.val = s.sqState n.val := Leaves.tookCmd _ (steady_sq n).2.2.2.2.2
  rw [State.runOrPaused, hstate]
  exact h

theorem State.stopAct_frame (s : State) (n : Nat) (c : Cmd) : (State.stopAct n s c).q = s.q ∧ (State.stopAct n s c).tm = s.tm ∧
    (State.stopAct n s c).regs = s.regs := by
  unfold State.stopAct
  dsimp only
  split
  · exact ⟨rfl, rfl, rfl⟩
  · exact ⟨rfl, rfl, rfl⟩
  · split <;> exact ⟨rfl, rfl, rfl⟩

theorem State.stopAct_now (h : c.arg0 % 4 = 0) :
    State.stopAct m s c = s.addDec m ⟨s.tm.heat + 48, .stop (!bitOf c.arg0 2) 1⟩ := by
  unfold State.stopAct
  rw [h]
  rfl

theorem State.stopAct_lap (h : c.arg0 % 4 = 1) :
    State.stopAct m s c = s.setSq m { s.sqn m with stopReq := some (1, bitOf c.arg0 2, s.tm.heat) } := by
  unfold State.stopAct
  rw [h]
  rfl

theorem State.stopAct_visit (h : c.arg0 % 4 = 2) (hreq : (s.sqn m).stopReq = none) :
    State.stopAct m s c = s.setSq m { s.sqn m with stopReq := some (2, bitOf c.arg0 2, s.tm.heat) } := by
  unfold State.stopAct
  dsimp only
  rw [h, hreq]
  rfl

theorem stop_stands (h : s.Takes n 1 c) (hruns : s.runOrPaused n.val = true) : Runs (.stop n) s fun t =>
    (c.arg0 % 4 = 0 → (t.sqn n.val).next = (s.sqn n.val).next ++
      [(⟨(s.nextTake n.val).tm.heat + 48, .stop (!bitOf c.arg0 2) 1⟩ : Dec)]) ∧
    (c.arg0 % 4 = 1 → (t.sqn n.val).stopReq = some (1, bitOf c.arg0 2, (s.nextTake n.val).tm.heat)) ∧
    (c.arg0 % 4 = 2 → (s.sqn n.val).stopReq = none → (t.sqn n.val).stopReq = some (2, bitOf c.arg0 2, (s.nextTake n.val).tm.heat)) ∧
    Accounts s (s.nextTake n.val) n c t := by
  have hdone := (State.stopAct n.val (s.tookCmd n) c).cmdDone_completes n c
  obtain ⟨hq, htm, hregs⟩ := (s.tookCmd n).stopAct_frame n.val c
  obtain ⟨f, p, hsqn⟩ := s.tookCmd_sqn n
  have hheat : (s.tookCmd n).tm = (s.nextTake n.val).tm := (s.tookCmd_only n).tm
  refine ⟨_, congrArg Host.Outcome.next (h.takeCmd (State.runs_tookCmd hruns)), fun h0 => ?_, fun h1 => ?_, fun h2 hreq => ?_,
    hdone.accounts hq htm (Leaves.regs (K := fun _ => true) hregs _ rfl)⟩
  · rw [State.sqn_congr hdone.sq, State.stopAct_now h0, State.addDec, State.setSq_sqn_self, hsqn, hheat]
  · rw [State.sqn_congr hdone.sq, State.stopAct_lap h1, State.setSq_sqn_self, hheat]
  · rw [State.sqn_congr hdone.sq, State.stopAct_visit h2 (by rw [hsqn]; exact hreq), State.setSq_sqn_self, hheat]

/-! ### LATCH_CLR -/

theorem latchFld_lt {i : Nat} (hi : i < 64) : (latchFld m i).lo + (latchFld m i).w ≤ 32 := by
  unfold latchFld
  split
  · show i + 1 ≤ 32
    omega
  · show i - 32 + 1 ≤ 32
    omega

/-- The latches of two events are apart. -/
theorem latchFld_apart {i j : Nat} (hi : i < 64) (h : i ≠ j) : Fld.apart (latchFld m i) (latchFld m j) = true := by
  have hne : 0x20110 + 0x40 * m ≠ 0x20114 + 0x40 * m := by omega
  unfold latchFld
  split
  · next hlow =>
    split
    · exact bit_apart hlow h
    · exact apart_of_ne hne
  · next hlow =>
    split
    · exact apart_of_ne hne.symm
    · exact bit_apart (by omega) (by omega)

theorem latchReg_ne : ∀ (m : Fin 8) (i : Fin 64), (latchFld m.val i.val).a ∉ evRegs ∧
    (latchFld m.val i.val).a ≠ (F.SQ_CMD_DONE_OPCODE m.val).a ∧ timeReg (latchFld m.val i.val).a = false := by
  have hregs : ∀ m : Fin 8, ∀ a ∈ [0x20110 + 0x40 * m.val, 0x20114 + 0x40 * m.val],
      a ∉ evRegs ∧ a ≠ (F.SQ_CMD_DONE_OPCODE m.val).a ∧ timeReg a = false := by decide +kernel
  intro m i
  refine hregs m _ ?_
  unfold latchFld
  split
  · exact List.mem_cons_self
  · exact List.mem_cons_of_mem _ List.mem_cons_self

/-- Latches are cleared. -/
def State.clearLatches (s : State) (n : Nat) (l : List Nat) : State := l.foldl (fun t i => t.put (latchFld n i) 0) s

theorem State.clearLatches_in {l : List Nat} (hl : ∀ i ∈ l, i < 64) : ∀ i ∈ l, (s.clearLatches m l).fld (latchFld m i) = 0 :=
  (foldl_establishes (I := fun _ => True) (P := fun i (t : State) => t.fld (latchFld m i) = 0) (f := fun t i => State.put t (latchFld m i) 0)
    trivial (fun _ _ _ _ => trivial) (fun _ _ i hi => (State.put_fld_self (latchFld_lt (hl i hi))).trans (Nat.zero_mod _))
    fun t _ i _ j hj h => by
      by_cases hij : j = i
      · subst hij
        exact (State.put_fld_self (latchFld_lt (hl j hj))).trans (Nat.zero_mod _)
      · exact (State.put_fld_apart (latchFld_apart (hl j hj) hij)).trans h).2

theorem State.clearLatches_out {l : List Nat} {i : Nat} (hi : i < 64) (h : i ∉ l) :
    (s.clearLatches m l).fld (latchFld m i) = s.fld (latchFld m i) :=
  List.foldlRecOn (motive := fun t : State => t.fld (latchFld m i) = s.fld (latchFld m i)) l _ rfl fun _ ht _ hj =>
    (State.put_fld_apart (latchFld_apart hi fun e => h (e ▸ hj))).trans ht

theorem State.clearLatches_frame (s : State) (n : Nat) (l : List Nat) : (s.clearLatches n l).q = s.q ∧ (s.clearLatches n l).tm = s.tm :=
  List.foldlRecOn (motive := fun t : State => t.q = s.q ∧ t.tm = s.tm) l _ ⟨rfl, rfl⟩ fun _ ht _ _ => ht

/-- The latches that LATCH_CLR clears. -/
def State.latchClrs (s : State) (n : Nat) (c : Cmd) : List Nat :=
  (List.range 64).filter (fun i => bitOf c.arg1 i && !(s.justSeen i && s.evRouted i n))

theorem State.latchClrAct_eq (s : State) (n : Nat) (c : Cmd) : State.latchClrAct n s c = s.clearLatches n (s.latchClrs n c) := rfl

theorem State.clearLatches_entry (s : State) (n : Nat) (l : List Nat) :
    (s.clearLatches n l).fld (F.SQ_STAT_ENTRY n) = s.fld (F.SQ_STAT_ENTRY n) := by
  have hne : ∀ i, (F.SQ_STAT_ENTRY n).a ≠ (latchFld n i).a := fun i => by
    show 0x20100 + 0x40 * n ≠ _
    unfold latchFld
    split
    · show _ ≠ 0x20110 + 0x40 * n
      omega
    · show _ ≠ 0x20114 + 0x40 * n
      omega
  exact List.foldlRecOn (motive := fun t : State => t.fld (F.SQ_STAT_ENTRY n) = s.fld (F.SQ_STAT_ENTRY n)) l _ rfl fun _ ht i _ =>
    (State.put_fld_apart (apart_of_ne (hne i))).trans ht

theorem latchClr_clears (h : s.Takes n 2 c) (hruns : s.runOrPaused n.val = true) : Runs (.latchClr n) s fun t =>
    (∀ i : Fin 64, bitOf c.arg1 i.val = true → ((s.nextTake n.val).justSeen i.val = false ∨ (s.nextTake n.val).evRouted i.val n.val = false) →
      t.latched n.val i.val = false) ∧
    (∀ i : Fin 64, bitOf c.arg1 i.val = false → t.latched n.val i.val = s.latched n.val i.val) ∧ Accounts s (s.nextTake n.val) n c t := by
  have hdone := (State.latchClrAct n.val (s.tookCmd n) c).cmdDone_completes n c
  have honly := s.tookCmd_only n
  obtain ⟨hq, htm⟩ := (s.tookCmd n).clearLatches_frame n.val ((s.tookCmd n).latchClrs n.val c)
  have hafter : ∀ i : Fin 64, ((State.latchClrAct n.val (s.tookCmd n) c).cmdDone n.val c stOk).fld (latchFld n.val i.val) =
      (State.latchClrAct n.val (s.tookCmd n) c).fld (latchFld n.val i.val) := fun i => by
    obtain ⟨hev, hne, -⟩ := latchReg_ne n i
    exact congrArg (getBits _ _) (hdone.rd _ hev hne)
  refine ⟨_, congrArg Host.Outcome.next (h.takeCmd (State.runs_tookCmd hruns)), fun i hbit hnew => ?_, fun i hbit => ?_,
    hdone.accounts hq htm ((s.tookCmd n).clearLatches_entry n.val _)⟩
  · have hseen : (s.tookCmd n).justSeen i.val = (s.nextTake n.val).justSeen i.val := honly.justSeen i.val
    have hrouted : (s.tookCmd n).evRouted i.val n.val = (s.nextTake n.val).evRouted i.val n.val :=
      congrArg (fun k => bitOf k n.val) (Leaves.regs (K := fun _ => true) honly.regs (F.EVT_MAP_ROUTE i.val) rfl)
    have hin : i.val ∈ (s.tookCmd n).latchClrs n.val c := by
      refine List.mem_filter.2 ⟨List.mem_range.2 i.isLt, ?_⟩
      rw [hbit, hseen, hrouted]
      rcases hnew with h | h
      · rw [h]
        rfl
      · rw [h, Bool.and_false]
        rfl
    have hlt : ∀ j ∈ (s.tookCmd n).latchClrs n.val c, j < 64 := fun j hj => List.mem_range.1 (List.mem_filter.1 hj).1
    have hzero := State.clearLatches_in (s := s.tookCmd n) (m := n.val) hlt i.val hin
    rw [State.latched, State.flag, hafter, State.latchClrAct_eq, hzero]
    rfl
  · have hout : i.val ∉ (s.tookCmd n).latchClrs n.val c := fun hin => by
      have := (List.mem_filter.1 hin).2
      rw [hbit] at this
      cases this
    have hkept : (s.tookCmd n).fld (latchFld n.val i.val) = s.fld (latchFld n.val i.val) :=
      (Leaves.regs (K := fun _ => true) honly.regs _ rfl).trans
        (congrArg (getBits _ _) ((s.nextTake_frame n.val).2.2.1 _ (latchReg_ne n i).2.2))
    rw [State.latched, State.flag, hafter, State.latchClrAct_eq, State.clearLatches_out i.isLt hout, hkept]
    rfl

/-! ### HOLD_END -/

theorem State.holdReady_waits {h : Hold} (hh : (s.sqn m).hold = some h) (hr : s.contReady m h.e = false) : s.holdReady m = s := by
  unfold State.holdReady
  dsimp only
  rw [hh]
  dsimp only
  rw [hr, Bool.not_false, Bool.or_true]
  rfl

/-- The FALLBACK outcome is decided for `o`, whether its visit or a stop. -/
theorem State.fallbackOf_decides (s : State) (n e o cause sc : Nat) :
    ∃ dst, (⟨o, .fallback dst cause sc⟩ : Dec) ∈ ((s.fallbackOf n e o cause sc).sqn n).next := by
  have hadded : ∀ (t : State) (d : Dec), d ∈ ((t.addDec n d).sqn n).next := fun t d => by
    rw [State.addDec, State.setSq_sqn_self]
    exact List.mem_append.2 (.inr (List.mem_singleton.2 rfl))
  unfold State.fallbackOf
  dsimp only
  split
  · exact ⟨none, hadded _ _⟩
  · refine ⟨some (s.entry n e).fallback, ?_⟩
    rw [State.takeTail, State.setSq_sqn_self]
    exact hadded _ _

theorem State.holdExit_decides {h : Hold} {v : Visit} (hh : (s.sqn m).hold = some h) (hexit : h.exit = false)
    (hfence : s.segFenced (s.entry m h.e).seg = false) (hv : (s.sqn m).visit = some v) :
    ((s.holdExit m k 2).sqn m).hold = some { h with exit := true } ∧
      ∃ dst, (⟨k + 48, .fallback dst 2 2⟩ : Dec) ∈ ((s.holdExit m k 2).sqn m).next := by
  have hexits : s.holdExit m k 2 = (s.setSq m { s.sqn m with hold := some { h with exit := true } }).decideFallback m (k + 48) 2 2 := by
    unfold State.holdExit
    dsimp only
    rw [hh]
    dsimp only
    rw [hexit, hfence]
    rfl
  have hdec : ∀ t : State, (t.sqn m).visit = some v → t.decideFallback m (k + 48) 2 2 = t.fallbackOf m v.entry (k + 48) 2 2 :=
    fun t ht => by
      unfold State.decideFallback
      rw [ht]
  rw [hexits]
  constructor
  · rw [Decides.decideFallback.hold, State.setSq_sqn_self]
  · rw [hdec _ (by rw [State.setSq_sqn_self]; exact hv)]
    exact State.fallbackOf_decides _ m v.entry (k + 48) 2 2

theorem holdEnd_decides {h : Hold} {v : Visit} (ht : s.Takes n 3 c) (hruns : s.sqState n.val = sqRunning)
    (hh : (s.sqn n.val).hold = some h) (hexit : h.exit = false) (hv : (s.sqn n.val).visit = some v)
    (hready : (s.nextTake n.val).contReady n.val h.e = false)
    (hfence : (s.nextTake n.val).segFenced ((s.nextTake n.val).entry n.val h.e).seg = false) : Runs (.holdEnd n) s fun t =>
      (t.sqn n.val).hold = some { h with exit := true } ∧
      (t.sqn n.val).next.any (fun d => decide (d.o = (s.nextTake n.val).tm.heat + 48) &&
        (match d.c with | .fallback _ 2 2 => true | _ => false)) = true ∧
      t.rd (F.SQ_CMD_DONE_OPCODE n.val).a = BitVec.ofNat 32 (c.op + 2 ^ 16 * c.tag) := by
  have honly := s.tookCmd_only n
  obtain ⟨f, p, hsqn⟩ := s.tookCmd_sqn n
  have hh' : ((s.tookCmd n).sqn n.val).hold = some h := by rw [hsqn]; exact hh
  have hv' : ((s.tookCmd n).sqn n.val).visit = some v := by rw [hsqn]; exact hv
  have hlegal : (s.tookCmd n).holdOpen n.val = true := by
    have hstate : (s.tookCmd n).sqState n.val = s.sqState n.val := Leaves.tookCmd _ (steady_sq n).2.2.2.2.2
    rw [State.holdOpen, hstate, hruns, hh']
    dsimp only
    rw [hexit]
    rfl
  have hact : State.holdEndAct n.val (s.tookCmd n) c = (s.tookCmd n).holdExit n.val (s.tookCmd n).tm.heat 2 := by
    rw [State.holdEndAct, State.holdReady_waits hh' ((honly.contReady _ _).trans hready)]
  have hdone := (State.holdEndAct n.val (s.tookCmd n) c).cmdDone_completes n c
  obtain ⟨hhold, dst, hmem⟩ := State.holdExit_decides (k := (s.tookCmd n).tm.heat) hh' hexit
    (by rw [honly.entry, honly.segFenced, hfence]) hv'
  refine ⟨_, congrArg Host.Outcome.next (ht.takeCmd hlegal), ?_, ?_, hdone.word⟩
  · rw [State.sqn_congr hdone.sq, hact, hhold]
  · rw [State.sqn_congr hdone.sq, hact]
    refine List.any_eq_true.2 ⟨_, hmem, ?_⟩
    dsimp only
    rw [honly.tm, decide_eq_true rfl]
    rfl

/-! ### MARK -/

theorem mark_marks (h : s.Takes n 4 c) : Runs (.mark n) s fun t => t.sq = (s.nextTake n.val).sq ∧ t.tm = (s.nextTake n.val).tm ∧
    Accounts s (s.nextTake n.val) n c t := by
  have hdone := (s.tookCmd n).cmdDone_completes n c
  have honly := s.tookCmd_only n
  exact ⟨_, congrArg Host.Outcome.next (h.takeCmd (act := fun t _ => t) rfl), hdone.sq.trans honly.sq, hdone.tm.trans honly.tm,
    hdone.accounts rfl rfl rfl⟩

end

/-- Settles O14: a word by what its port does to the queue, and each command by its effect on the state in which its record has been taken. -/
theorem commandRecords : Obligations.CommandRecords := by
  unfold Obligations.CommandRecords
  refine ⟨fun s n w p ht hup => ?_, fun s u n c hlive hawake hcount hsingle hup hu hhead hop hargs hruns => ?_,
    fun s u n c hlive hawake hcount hsingle hup hu hhead hop hargs hruns => ?_,
    fun s u n c h v hlive hawake hcount hsingle hup hu hhead hop hargs hruns hh hexit hv hready hfence => ?_,
    fun s u n c hlive hawake hcount hsingle hup hu hhead hop hargs => ?_⟩
  · obtain ⟨t, hexec, hq⟩ := cmdqWordWrite_writes n ht hup
    exact ⟨t, hexec, fun h => hq.trans (if_neg (by omega)), fun h => hq.trans (if_pos h)⟩
  · subst hu
    exact stop_stands ⟨hlive, hawake, hcount, hsingle, hup, hhead, hargs⟩ hruns
  · subst hu
    exact latchClr_clears ⟨hlive, hawake, hcount, hsingle, hup, hhead, hargs⟩ hruns
  · subst hu
    exact holdEnd_decides ⟨hlive, hawake, hcount, hsingle, hup, hhead, hargs⟩ hruns hh hexit hv hready hfence
  · subst hu
    exact mark_marks ⟨hlive, hawake, hcount, hsingle, hup, hhead, hargs⟩

end Sys2Proof.Machine
end

section
/-! SUPPORT. The ticks for which a leader's command waits (R111, R345): decisions that apply and are made on the way, and what they leave. -/

namespace Sys2Proof.Machine

section
variable {s t u : State} {n o k : Nat} {d : Dec} {f : Fld}

/-! ### The decision of a commit tick -/

/-- SQn's position moves on as its next boundary is judged. -/
def State.moveOn (s : State) (n : Nat) (v : Visit) : State := s.setSq n { s.sqn n with visit := some v }

theorem Leaves.moveOn {K : Fld → Bool} {v : Visit} : Leaves K s (s.moveOn n v) := Leaves.setSq s n _

/-- At a commit tick nothing is decided, or what applies by then applies, and then at most a decision for the boundary is made (R92). -/
theorem State.commit_cases (s : State) (hn : n < 8) : s.commit n = s ∨ ∃ v, (s.sqn n).visit = some v ∧ ∃ o w,
    o = nextBoundary (s.entry n v.entry) v.f v.cur ∧ w = State.applyDue 8 n (o - 48) (s.arrive (o - 48)) ∧
    (s.commit n = w ∨ ∃ v', Decides n o (w.moveOn n v') (s.commit n)) := by
  unfold State.commit
  extract_lets q0
  split
  · exact .inl rfl
  · next v hv =>
    split
    · exact .inl rfl
    · refine .inr ⟨v, hv, ?_⟩
      extract_lets x o s1 q c s2 lapEnd last opp s3 q3 s4 short s5
      refine ⟨o, s1, rfl, rfl, ?_⟩
      split
      · exact .inl rfl
      · refine .inr ⟨{ v with cur := o }, ?_⟩
        have h3 : Decides n o s2 s3 := Decides.ite (Decides.zones hn) (Decides.refl s2)
        have h4 : Decides n o s3 s4 := Decides.ite (Decides.refl s3) (Decides.putLatch hn)
        have h5 : Decides n o s3 s5 := Decides.ite Decides.mirDecision (Decides.refl s3)
        have hstop : Decides n o s3 (s3.setSq n { s3.sqn n with stopReq := none }) := Decides.setSq
        show Decides n o s2 _
        split
        · exact h3
        · split
          · exact h3.trans (hstop.trans Decides.addDec)
          · split
            · exact Decides.ite (h3.trans Decides.addDec) (h3.trans (Decides.mirDecision.trans (Decides.select hn)))
            · refine Decides.ite (h3.trans (h4.trans (Decides.mirDecision.trans (Decides.select hn)))) ?_
              refine Decides.ite (h3.trans (h5.trans Decides.addDec)) ?_
              split
              · exact h3.trans (h5.trans (Decides.select hn))
              · exact h3.trans (h5.trans Decides.addDec)
              · exact h3.trans (h5.trans Decides.addDec)

/-! ### What stands while decisions apply -/

/-- The lasting fields, but for the sequencers' flags. -/
def enduring (f : Fld) : Bool := lasting f && (List.range 8).all (fun m => decide (f.a ≠ 0x20108 + 0x40 * m))

theorem enduring_parts (h : enduring f = true) : lasting f = true ∧ ∀ m < 8, f.a ≠ 0x20108 + 0x40 * m := by
  obtain ⟨hlast, hall⟩ := Bool.and_eq_true_iff.1 h
  exact ⟨hlast, fun m hm => of_decide_eq_true (List.all_eq_true.1 hall m (List.mem_range.2 hm))⟩

theorem lasting_of_enduring (h : enduring f = true) : lasting f = true := (enduring_parts h).1

theorem visitFld_of_enduring (h : enduring f = true) : visitFld f = true := visitFld_of_lasting (lasting_of_enduring h)

theorem steady_of_enduring (h : enduring f = true) : steady f = true := steady_of_visitFld (visitFld_of_enduring h)

theorem Leaves.enduring (h : Leaves steady s t) : Leaves enduring s t := h.mono fun _ => steady_of_enduring

theorem Leaves.enduringVisit (h : Leaves visitFld s t) : Leaves Machine.enduring s t := h.mono fun _ => visitFld_of_enduring

theorem Leaves.enduringStop (h : Leaves lasting s t) : Leaves Machine.enduring s t := h.mono fun _ => lasting_of_enduring

theorem Leaves.zones {l : List (Nat × Nat)} (hn : n < 8) : Leaves steady s (s.zones n l) := (Decides.zones (o := 0) hn).leaves

theorem Leaves.beginHold {e : Nat} (hn : n < 8) : Leaves Machine.enduring s (s.beginHold n e o) := by
  obtain ⟨d, heq⟩ := s.beginHold_eq n e o
  have hheld : Leaves steady s (s.holding n e o) := (Woken.capture (s := s) (n := n) (o := o)).leaves.trans (Leaves.setSq _ _ _)
  have hstat : ∀ t : State, Leaves Machine.enduring t (t.holdStat n) := fun t => by
    have hput : Leaves Machine.enduring t ((t.raise (F.SQ_STAT_HELD n)).raise (F.SQ_FLAGS_HOLD_SEEN n)) :=
      Leaves.trans (Leaves.put (g := F.SQ_STAT_HELD n) fun _ hf => apart_of_ne (visitFld_ne (visitFld_of_enduring hf) hn).1)
        (Leaves.put (g := F.SQ_FLAGS_HOLD_SEEN n) fun _ hf => apart_of_ne ((enduring_parts hf).2 n hn))
    exact hput.trans (Leaves.zones hn).enduring
  rw [heq]
  exact (hheld.enduring.trans (hstat _)).trans Leaves.sqRec.enduring

theorem Leaves.nextLap (hn : n < 8) : Leaves visitFld s (s.nextLap n o) := by
  rw [State.nextLap_eq]
  split
  · exact Leaves.refl _ s
  · next v _ =>
    generalize s.entry n v.entry = x
    have hput : ∀ (t : State) (g : Fld) w, g.a = 0x20104 + 0x40 * n → Leaves visitFld t (t.put g w) := fun t g w hg =>
      Leaves.put fun f hf => apart_of_ne (by rw [hg]; exact (visitFld_ne hf hn).2)
    have hlap : Leaves visitFld s (s.lapOn n o) := by
      have h1 : ∀ q, Leaves visitFld s ((s.setSq n q).bump (F.SQ_POS_LAP n)) := fun q =>
        (Leaves.setSq s n q).trans (hput _ (F.SQ_POS_LAP n) _ rfl)
      unfold State.lapOn
      exact Leaves.ite ((h1 _).trans (hput _ (F.SQ_POS_EXT n) _ rfl)) (h1 _)
    have hstart : Decides n o (s.lapOn n o) ((s.lapOn n o).lapStart n o x) := by
      unfold State.lapStart
      have h3 : Decides n o (s.lapOn n o) (if x.latch = 2 then (s.lapOn n o).clearLatch n x.jevt else s.lapOn n o) :=
        Decides.ite (Decides.clearLatch hn) (Decides.refl _)
      exact Decides.ite (h3.trans Decides.firePens) h3
    exact hlap.trans (hstart.leaves.mono fun _ => steady_of_visitFld)

theorem Leaves.applyDec (hn : n < 8) : Leaves Machine.enduring s (s.applyDec n d) := by
  obtain ⟨o, c⟩ := d
  cases c with
  | go =>
    unfold State.applyDec
    dsimp only
    split
    · exact Leaves.refl _ s
    · exact Leaves.ite ((Leaves.zones hn).enduring.trans (Leaves.nextLap hn).enduringVisit) (Leaves.zones hn).enduring
  | visit e j =>
    cases hh : (s.sqn n).hold with
    | none =>
      rw [State.applyDec_visit hh]
      exact (Leaves.beginVisit hn).enduringVisit
    | some h =>
      rw [State.applyDec_resume hh]
      exact Leaves.sqRec.enduring.trans (Leaves.beginVisit hn).enduringVisit
  | stop r b => exact (State.stopSq_stopsAt s hn r b o).leaves.enduringStop
  | hold e => exact Leaves.beginHold hn
  | fallback dst a b =>
    have hnoted : Leaves Machine.enduring s (s.fallNoted n o a) := Leaves.fallNoted fun f hf =>
      ⟨evRegs_of_steady (steady_of_enduring hf), (enduring_parts hf).2 n hn⟩
    cases dst with
    | none => exact hnoted.trans (State.stopSq_stopsAt _ hn true b o).leaves.enduringStop
    | some e => exact hnoted.trans (Leaves.beginVisit hn).enduringVisit

theorem Leaves.applyDue (hn : n < 8) (k h : Nat) : Leaves Machine.enduring s (State.applyDue k n h s) := by
  induction k generalizing s with
  | zero => exact Leaves.refl _ s
  | succ k ih =>
    unfold State.applyDue
    split
    · next d _ =>
      have hfirst : Leaves Machine.enduring s (s.applyFirst n d) := by
        rw [State.applyFirst_eq]
        exact Leaves.taken.enduring.trans (Leaves.applyDec hn)
      exact Leaves.ite (hfirst.trans ih) (Leaves.refl _ s)
    · exact Leaves.refl _ s

theorem Leaves.arrive {h : Nat} : Leaves steady s (s.arrive h) := Leaves.passTo

theorem Leaves.commitNow (hn : n < 8) : Leaves Machine.enduring s (s.commitNow n) := by
  have hcommit : Leaves Machine.enduring s (s.commit n) := by
    rcases s.commit_cases hn with h | ⟨v, -, o, w, -, rfl, h | ⟨v', h⟩⟩
    · rw [h]
      exact Leaves.refl _ s
    · rw [h]
      exact Leaves.arrive.enduring.trans (Leaves.applyDue hn _ _)
    · exact ((Leaves.arrive.enduring.trans (Leaves.applyDue hn _ _)).trans (Leaves.setSq _ _ _)).trans h.leaves.enduring
  unfold State.commitNow
  split
  · exact Leaves.refl _ s
  · exact Leaves.ite hcommit (Leaves.refl _ s)

theorem Leaves.advance : Leaves steady s (s.advance k) := Leaves.ite Leaves.passTo (Leaves.refl _ s)

theorem Leaves.runTicks (k : Nat) : Leaves Machine.enduring s (State.runTicks k s) := by
  induction k generalizing s with
  | zero => exact Leaves.refl _ s
  | succ k ih =>
    unfold State.runTicks
    dsimp only
    refine (Leaves.advance.enduring.trans (Leaves.ite (Leaves.foldl fun t m hm => ?_) (Leaves.refl _ _))).trans ih
    have hm : m < 8 := (State.mem_heatSqs.1 (List.mem_filter.1 hm).1).1
    exact (Leaves.applyDue hm _ _).trans (Leaves.commitNow hm)

/-- What passes while a leader's command waits leaves the enduring fields. -/
theorem Leaves.leaderDelay {ok : Bool} {arg : Nat} : Leaves Machine.enduring s (s.leaderDelay ok n arg) := by
  have hsent : ∀ at', Leaves Machine.enduring s (if ok then s.mirDecision n 3 at' arg else s) := fun at' =>
    Leaves.ite (Leaves.regs (s.mirDecision_frame n 3 at' arg).2) (Leaves.refl _ s)
  exact Leaves.ite ((hsent _).trans (Leaves.runTicks 16)) (Leaves.refl _ s)

end
end Sys2Proof.Machine
end

section
/-! SUPPORT. A pause (R107, R345): nothing applies up to its tick, decisions due are made, and the sequencers that run stand. -/

namespace Sys2Proof.Machine

section
variable {s t u : State} {n o k H : Nat} {d : Dec} {f : Fld} {rest : Bool}

/-! ### No decision is due -/

theorem firstDec_mem {l : List Dec} (h : firstDec l = some d) : d ∈ l := by
  induction l generalizing d with
  | nil => cases h
  | cons x l ih =>
    rw [firstDec] at h
    cases hl : firstDec l with
    | none =>
      rw [hl] at h
      exact Option.some.inj h ▸ List.mem_cons_self
    | some e =>
      rw [hl] at h
      dsimp only at h
      split at h
      · exact Option.some.inj h ▸ List.mem_cons_of_mem x (ih hl)
      · exact Option.some.inj h ▸ List.mem_cons_self

theorem State.applyDue_none (h : ∀ d ∈ (s.sqn n).next, o < d.o) (k : Nat) : State.applyDue k n o s = s := by
  cases k with
  | zero => rfl
  | succ k =>
    unfold State.applyDue
    split
    · next d hd => exact if_neg (Nat.not_le.2 (h d (firstDec_mem hd)))
    · rfl

/-- No decision is due by heat tick `H` + 16, and the steady fields stand. -/
structure Waits (H : Nat) (s t : State) : Prop where
  leaves : Leaves steady s t
  ahead : ∀ m < 8, ∀ d ∈ (t.sqn m).next, H + 16 < d.o
  heat : H ≤ t.tm.heat

theorem State.passTo_next (s : State) (k m : Nat) : ((s.passTo k).sqn m).next = (s.sqn m).next := by
  obtain ⟨f, p, h⟩ := s.passTo_sqn k m
  rw [h]

/-- The present heat tick is reached in no time. -/
theorem State.arrive_now (s : State) : (s.arrive s.tm.heat).tm.heat = s.tm.heat ∧ (s.arrive s.tm.heat).tm.tb = s.tm.tb := by
  unfold State.arrive
  rw [Nat.sub_self, Nat.add_zero]
  refine ⟨(s.passTo_heat _).trans (if_neg fun h => absurd h.1 (Nat.lt_irrefl _)), ?_⟩
  rw [(Elapsed.passTo s s.tm.tb).tb, Nat.max_self]

/-- A decision that is due to be made is made 48 ticks ahead (R92). -/
theorem Waits.commitNow (h : Waits H s t) (hn : n < 8) (hle : t.tm.heat ≤ H + 16) :
    Waits H s (t.commitNow n) ∧ (t.commitNow n).tm.heat = t.tm.heat ∧ (t.commitNow n).tm.tb = t.tm.tb := by
  have hsame : Waits H s t ∧ t.tm.heat = t.tm.heat ∧ t.tm.tb = t.tm.tb := ⟨h, rfl, rfl⟩
  unfold State.commitNow
  split
  · exact hsame
  · next v hv =>
    split
    · next hdue =>
      rcases t.commit_cases hn with hc | ⟨v', hv', o, w, ho, hw, hc⟩
      · rw [hc]
        exact hsame
      · obtain rfl : v' = v := Option.some.inj (hv'.symm.trans hv)
        obtain rfl : o = t.tm.heat + 48 := ho.trans hdue
        rw [Nat.add_sub_cancel] at hw
        obtain ⟨hheat, htb⟩ := t.arrive_now
        have hnext : ∀ m, ((t.arrive t.tm.heat).sqn m).next = (t.sqn m).next := t.passTo_next _
        have hw : w = t.arrive t.tm.heat := hw.trans (State.applyDue_none (fun d hd => by
          have := h.ahead n hn d (hnext n ▸ hd)
          omega) 8)
        subst hw
        have harrived : Waits H s (t.arrive t.tm.heat) :=
          ⟨h.leaves.trans Leaves.arrive, fun m hm d hd => h.ahead m hm d (hnext m ▸ hd), by rw [hheat]; exact h.heat⟩
        generalize t.arrive t.tm.heat = a at hc hheat htb harrived
        rcases hc with hc | ⟨v'', hdec⟩
        · rw [hc]
          exact ⟨harrived, hheat, htb⟩
        · have hmoved : ∀ m, ((a.moveOn n v'').sqn m).next = (a.sqn m).next := fun m => by
            unfold State.moveOn
            by_cases hmn : m = n
            · rw [hmn, State.setSq_sqn_self]
            · rw [State.setSq_sqn_ne hmn]
          have htm : (a.moveOn n v'').tm = a.tm := rfl
          rw [hdec.tm, htm, hheat, htb]
          refine ⟨⟨(harrived.leaves.trans Leaves.moveOn).trans hdec.leaves, fun m hm d hd => ?_, ?_⟩, rfl, rfl⟩
          · by_cases hmn : m = n
            · subst hmn
              rcases hdec.next d hd with hd | hd
              · exact harrived.ahead m hm d (hmoved m ▸ hd)
              · have := h.heat
                omega
            · rw [hdec.others m hmn, hmoved] at hd
              exact harrived.ahead m hm d hd
          · rw [hdec.tm, htm]
            exact harrived.heat
    · exact hsame

theorem State.advance_heat (s : State) : s.tm.heat ≤ (s.advance 1).tm.heat ∧ (s.advance 1).tm.heat ≤ s.tm.heat + 1 := by
  unfold State.advance
  split
  · rw [State.passTo_heat]
    split <;> omega
  · omega

theorem State.advance_next (s : State) (k m : Nat) : ((s.advance k).sqn m).next = (s.sqn m).next := by
  unfold State.advance
  split
  · exact s.passTo_next _ m
  · rfl

theorem Waits.runTicks (k : Nat) (h : Waits H s t) (hle : t.tm.heat + k ≤ H + 16) :
    Waits H s (State.runTicks k t) ∧ (State.runTicks k t).tm.heat ≤ H + 16 := by
  induction k generalizing t with
  | zero => exact ⟨h, hle⟩
  | succ k ih =>
    obtain ⟨hfrom, hto⟩ := t.advance_heat
    have hstep : Waits H s (t.advance 1) :=
      ⟨h.leaves.trans Leaves.advance, fun m hm d hd => h.ahead m hm d (t.advance_next 1 m ▸ hd), Nat.le_trans h.heat hfrom⟩
    have hround : ∀ l : List Nat, (∀ m ∈ l, m < 8) →
        Waits H s (l.foldl (fun u m => (State.applyDue 8 m u.tm.heat u).commitNow m) (t.advance 1)) ∧
        (l.foldl (fun u m => (State.applyDue 8 m u.tm.heat u).commitNow m) (t.advance 1)).tm.heat = (t.advance 1).tm.heat := fun l hl =>
      List.foldlRecOn (motive := fun u : State => Waits H s u ∧ u.tm.heat = (t.advance 1).tm.heat) l _ ⟨hstep, rfl⟩ fun u hu m hm => by
        obtain ⟨hwaits, hheat⟩ := hu
        rw [State.applyDue_none fun d hd => by
          have := hwaits.ahead m (hl m hm) d hd
          omega]
        obtain ⟨hnow, hsame, -⟩ := hwaits.commitNow (hl m hm) (by omega)
        exact ⟨hnow, hsame.trans hheat⟩
    unfold State.runTicks
    dsimp only
    split
    · obtain ⟨hwaits, hheat⟩ := hround _ fun m hm => (State.mem_heatSqs.1 (List.mem_filter.1 hm).1).1
      exact ih hwaits (by omega)
    · exact ih hstep (by omega)

theorem Waits.leaderDelay {ok : Bool} {m arg : Nat} (h : Waits H s t) (hle : t.tm.heat = H) :
    Waits H s (t.leaderDelay ok m arg) ∧ (t.leaderDelay ok m arg).tm.heat ≤ H + 16 := by
  have hsent : ∀ at', Waits H s (if ok then t.mirDecision m 3 at' arg else t) ∧ (if ok then t.mirDecision m 3 at' arg else t).tm.heat = H :=
    fun at' => by
      obtain ⟨hsq, hregs⟩ := t.mirDecision_frame m 3 at' arg
      have htm := (Noted.mirDecision t m 3 at' arg).tm
      split
      · refine ⟨⟨h.leaves.trans (Leaves.regs hregs), fun i hi d hd => h.ahead i hi d ?_, ?_⟩, ?_⟩
        · rwa [State.sqn_congr hsq] at hd
        · rw [htm]
          exact h.heat
        · rw [htm, hle]
      · exact ⟨h, hle⟩
  unfold State.leaderDelay
  split
  · obtain ⟨hwaits, hheat⟩ := hsent (if t.fld F.SEQ_STAT_HEAT = 3 then t.tm.heat + 16 else t.tm.heat)
    exact hwaits.runTicks 16 (by omega)
  · exact ⟨h, by omega⟩

/-! ### The heat stands -/

/-- The decisions due in the present tick are made. -/
def State.pauseDue (s : State) : State := (s.heatSqs.filter (fun n => s.sqState n = sqRunning)).foldl (fun t n => t.commitNow n) s

/-- The heat stands after its present tick, heat tick `k`. -/
def State.standing (s0 : State) (k : Nat) (rest : Bool) : State :=
  let base := (s0.tm.tb : Int) - k
  let s0' := s0.fineUp (s0.tm.tb + 1)
  let s1 := { s0' with
    ev := { s0'.ev with pauseSeen := if s0.ev.seenTick = s0.tm.tb then s0.ev.seen else 0 },
    tm := { s0'.tm with pausedAt := s0.tm.tb, pauseRest := rest, past := ⟨k + 1, base, base, true⟩ :: s0.tm.past } }
  (s1.put F.SEQ_STAT_HEAT 4).put F.PLAN_TL_FREE 1

/-- The outputs of a sequencer that stands. -/
def State.pauseOuts (t : State) (k n : Nat) (rest : Bool) : State :=
  let t0 := if (t.sqn n).hold.isSome then t else t.capture n (k + 1)
  (if rest then (t0.keepDrives n).restOuts false (t0.fcsOf n) (t0.vpsOf n) else t0).holdNco n

/-- A sequencer stands, by the record `r`. -/
def State.pauseSq (t : State) (k n : Nat) (rest : Bool) (r : Rec) : State := ((t.pauseOuts k n rest).put (F.SQ_STAT_STATE n) sqPaused).event r

theorem State.pauseHeat_eq (hrun : s.pauseDue.fld F.SEQ_STAT_HEAT = 3) (rest : Bool) : ∃ (base : Int) (r : Nat → Rec), s.pauseHeat rest = State.stoppedPens base
    ((s.pauseDue.heatSqs.filter (fun n => s.pauseDue.sqState n = sqRunning)).foldl (fun t n => t.pauseSq s.tm.heat n rest (r n))
      (s.pauseDue.standing s.tm.heat rest)) :=
  ⟨_, fun n => evRec (s.pauseDue.standing s.tm.heat rest).tm.tb n 0x0C s.tm.heat, if_neg (not_not_intro hrun)⟩

theorem Waits.pauseDue (h : Waits H s t) (hle : t.tm.heat ≤ H + 16) :
    Waits H s t.pauseDue ∧ t.pauseDue.tm.heat = t.tm.heat ∧ t.pauseDue.tm.tb = t.tm.tb :=
  List.foldlRecOn (motive := fun u : State => Waits H s u ∧ u.tm.heat = t.tm.heat ∧ u.tm.tb = t.tm.tb) _ _ ⟨h, rfl, rfl⟩
    fun u hu m hm => by
      obtain ⟨hwaits, hheat, htb⟩ := hu
      obtain ⟨hnow, hheat', htb'⟩ := hwaits.commitNow (State.mem_heatSqs.1 (List.mem_filter.1 hm).1).1 (by omega)
      exact ⟨hnow, hheat'.trans hheat, htb'.trans htb⟩

theorem State.standing_facts (s : State) (k : Nat) (rest : Bool) : (s.standing k rest).fld F.SEQ_STAT_HEAT = 4 ∧
    (s.standing k rest).tm.pausedAt = s.tm.tb ∧ (s.standing k rest).tm.pauseRest = rest ∧ (s.standing k rest).tm.tb = s.tm.tb ∧
    (s.standing k rest).tm.heat = s.tm.heat := by
  obtain ⟨g, hg⟩ := s.fineUp_tm (s.tm.tb + 1)
  have htb : (s.standing k rest).tm.tb = (s.fineUp (s.tm.tb + 1)).tm.tb := rfl
  have hheat : (s.standing k rest).tm.heat = (s.fineUp (s.tm.tb + 1)).tm.heat := rfl
  refine ⟨?_, rfl, rfl, by rw [htb, hg], by rw [hheat, hg]⟩
  exact (State.put_fld_apart (by decide)).trans (State.put_fld_self (by decide))

theorem State.capture_tm (s : State) (n o : Nat) : (s.capture n o).tm = s.tm := by
  have hfine : ∀ (a : State) (c g j : Nat), (s.captureFine a n c g j o).tm = a.tm := fun a c g j => by
    unfold State.captureFine
    split
    · rfl
    · split <;> rfl
  have hdrive : ∀ (a : State) p e, (a.leaveDrive p e).tm = a.tm := fun a p e => by
    unfold State.leaveDrive
    split <;> rfl
  unfold State.capture
  dsimp only
  split
  · rfl
  · split
    · rfl
    · refine List.foldlRecOn (motive := fun a : State => a.tm = s.tm) _ _ ?_ fun a ha p _ => (hdrive a p _).trans ha
      refine List.foldlRecOn (motive := fun a : State => a.tm = s.tm) _ _ rfl fun a ha l _ => ?_
      cases l with
      | fine c g => exact (hfine a c g _).trans ha
      | vec b => exact ha

/-- The outputs of a sequencer that stands change in no time, and leave the steady fields. -/
theorem State.pauseOuts_frame (t : State) (k n : Nat) (rest : Bool) :
    Leaves steady t (t.pauseOuts k n rest) ∧ (t.pauseOuts k n rest).tm = t.tm := by
  have hkeep : ∀ a : State, (a.keepDrives n).regs = a.regs ∧ (a.keepDrives n).tm = a.tm := fun a =>
    List.foldlRecOn (motive := fun b : State => b.regs = a.regs ∧ b.tm = a.tm) _ _ ⟨rfl, rfl⟩ fun _ hb _ _ => hb
  have hnco : ∀ a : State, (a.holdNco n).regs = a.regs ∧ (a.holdNco n).tm = a.tm := fun a =>
    List.foldlRecOn (motive := fun b : State => b.regs = a.regs ∧ b.tm = a.tm) _ _ ⟨rfl, rfl⟩ fun b hb c _ => by
      dsimp only
      split
      · exact hb
      · exact hb
  unfold State.pauseOuts
  extract_lets t0
  have h0 : Leaves steady t t0 ∧ t0.tm = t.tm := by
    unfold t0
    split
    · exact ⟨Leaves.refl _ t, rfl⟩
    · exact ⟨Woken.capture.leaves, t.capture_tm n _⟩
  obtain ⟨hleaves, htm⟩ := h0
  split
  · refine ⟨?_, ?_⟩
    · exact ((hleaves.trans (Leaves.regs (hkeep t0).1)).trans
        (Woken.restOuts (fun _ => State.fcsOf_lt) (fun _ => State.vpsOf_lt)).leaves).trans (Leaves.regs (hnco _).1)
    · rw [(hnco _).2, State.restOuts_tm, (hkeep t0).2, htm]
  · exact ⟨hleaves.trans (Leaves.regs (hnco t0).1), (hnco t0).2.trans htm⟩

theorem State.pauseSq_tm (t : State) (k n : Nat) (rest : Bool) (r : Rec) : (t.pauseSq k n rest r).tm = t.tm := by
  have hput : ∀ a : State, (a.put (F.SQ_STAT_STATE n) sqPaused).tm = a.tm := fun _ => rfl
  rw [State.pauseSq, State.event_tm, hput, (t.pauseOuts_frame k n rest).2]

theorem Leaves.pauseSq {r : Rec} (hn : n < 8) : Leaves visitFld t (t.pauseSq k n rest r) :=
  (((t.pauseOuts_frame k n rest).1.mono fun _ => steady_of_visitFld).trans
    (Leaves.put (g := F.SQ_STAT_STATE n) fun _ hf => apart_of_ne (visitFld_ne hf hn).1)).trans
    (Leaves.event fun _ hf => evRegs_of_steady (steady_of_visitFld hf))

/-- A sequencer that stands is PAUSED, and the others are as they were (R107). -/
theorem State.pauseSq_state (m : Fin 8) (r : Rec) :
    (t.pauseSq k n rest r).sqState m.val = if m.val = n then sqPaused else t.sqState m.val := by
  have hsteady : steady (F.SQ_STAT_STATE m.val) = true := (steady_sq m).2.2.2.2.2
  have hrec : (t.pauseSq k n rest r).sqState m.val = ((t.pauseOuts k n rest).put (F.SQ_STAT_STATE n) sqPaused).fld (F.SQ_STAT_STATE m.val) :=
    State.event_fld (evRegs_of_steady hsteady)
  rw [hrec]
  split
  · next h =>
    rw [h]
    exact State.put_fld_self (by show 0 + 3 ≤ 32; decide)
  · next h =>
    have hne : (F.SQ_STAT_STATE m.val).a ≠ (F.SQ_STAT_STATE n).a := by
      show 0x20100 + 0x40 * m.val ≠ 0x20100 + 0x40 * n
      omega
    rw [State.put_fld_apart (apart_of_ne hne)]
    exact (t.pauseOuts_frame k n rest).1 _ hsteady

/-- The sequencers of a list stand. -/
def State.pauseSqs (t : State) (k : Nat) (rest : Bool) (l : List Nat) (r : Nat → Rec) : State := l.foldl (fun a n => a.pauseSq k n rest (r n)) t

theorem State.pauseSqs_tm (t : State) (k : Nat) (rest : Bool) (l : List Nat) (r : Nat → Rec) : (t.pauseSqs k rest l r).tm = t.tm :=
  List.foldlRecOn (motive := fun a : State => a.tm = t.tm) l _ rfl fun a ha n _ => (a.pauseSq_tm k n rest (r n)).trans ha

theorem Leaves.pauseSqs {l : List Nat} {r : Nat → Rec} (hl : ∀ n ∈ l, n < 8) : Leaves visitFld t (t.pauseSqs k rest l r) :=
  Leaves.foldl fun _ n hn => Leaves.pauseSq (hl n hn)

theorem State.pauseSqs_state {l : List Nat} {r : Nat → Rec} (hl : ∀ n ∈ l, n < 8) :
    ∀ n ∈ l, (t.pauseSqs k rest l r).sqState n = sqPaused := by
  have hstep : ∀ (a : State) m n, n < 8 → (a.pauseSq k m rest (r m)).sqState n = if n = m then sqPaused else a.sqState n := fun a m n hn =>
    State.pauseSq_state (t := a) ⟨n, hn⟩ (r m)
  refine (foldl_establishes (I := fun _ => True) (P := fun n (a : State) => a.sqState n = sqPaused) trivial (fun _ _ _ _ => trivial)
    (fun a _ n hn => (hstep a n n (hl n hn)).trans (if_pos rfl)) fun a _ m _ n hn ha => ?_).2
  refine (hstep a m n (hl n hn)).trans ?_
  split
  · rfl
  · exact ha

/-- The heat stands: its state, its tick, and its sequencers (R107). -/
theorem State.pauseHeat_stands (hrun : s.pauseDue.fld F.SEQ_STAT_HEAT = 3) (rest : Bool) :
    (s.pauseHeat rest).fld F.SEQ_STAT_HEAT = 4 ∧ (s.pauseHeat rest).tm.pausedAt = s.pauseDue.tm.tb ∧
    (s.pauseHeat rest).tm.pauseRest = rest ∧ (s.pauseHeat rest).tm.tb = s.pauseDue.tm.tb ∧ (s.pauseHeat rest).tm.heat = s.pauseDue.tm.heat ∧
    ∀ m : Fin 8, s.pauseDue.inHeat m.val = true → s.pauseDue.sqState m.val = sqRunning → (s.pauseHeat rest).sqState m.val = sqPaused := by
  obtain ⟨base, r, heq⟩ := s.pauseHeat_eq hrun rest
  obtain ⟨hheat, hat, hrest, htb, hk⟩ := s.pauseDue.standing_facts s.tm.heat rest
  have hlt : ∀ n ∈ s.pauseDue.heatSqs.filter (fun n => s.pauseDue.sqState n = sqRunning), n < 8 := fun n hn =>
    (State.mem_heatSqs.1 (List.mem_filter.1 hn).1).1
  have hmem : ∀ m : Fin 8, s.pauseDue.inHeat m.val = true → s.pauseDue.sqState m.val = sqRunning →
      m.val ∈ s.pauseDue.heatSqs.filter (fun n => s.pauseDue.sqState n = sqRunning) := fun m hin hst =>
    List.mem_filter.2 ⟨State.mem_heatSqs.2 ⟨m.isLt, hin⟩, decide_eq_true hst⟩
  generalize s.pauseDue.heatSqs.filter (fun n => s.pauseDue.sqState n = sqRunning) = l at heq hlt hmem
  have hpens : ∀ u : State, (State.stoppedPens base u).tm = u.tm ∧ ∀ g, (State.stoppedPens base u).fld g = u.fld g := fun _ => ⟨rfl, fun _ => rfl⟩
  have heq : s.pauseHeat rest = State.stoppedPens base ((s.pauseDue.standing s.tm.heat rest).pauseSqs s.tm.heat rest l r) := heq
  rw [heq, (hpens _).1, (hpens _).2, State.pauseSqs_tm]
  refine ⟨(Leaves.pauseSqs hlt _ (by decide +kernel)).trans hheat, hat, hrest, htb, hk, fun m hin hst => ?_⟩
  exact ((hpens _).2 _).trans (State.pauseSqs_state hlt m.val (hmem m hin hst))

end
end Sys2Proof.Machine
end

section
/-! SUPPORT. The heat commands (R87, R107–R109): the state in which one acts, and PAUSE, RESUME and the resumption tick. -/

namespace Sys2Proof.Machine

section
variable {s t u : State} {n o k H : Nat} {f : Fld} {v w : Word} {p : Bool} {c : List Access}

/-! ### A heat command acts -/

/-- The state in which a heat command acts: the access stands on the bus, and SEQ_CTRL holds what was written. -/
def State.seqSet (s : State) (c : List Access) (v : Word) : State := (s.withBus c).plain F.SEQ_CTRL_START.a v

theorem State.seqSet_rd {a : Nat} (h : a ≠ 0x20000) : (s.seqSet c v).rd a = s.rd a := State.plain_rd_ne (s := s.withBus c) h

theorem State.seqSet_fld (h : f.a ≠ 0x20000) : (s.seqSet c v).fld f = s.fld f := congrArg (getBits _ _) (State.seqSet_rd h)

theorem State.seqSet_tm (s : State) (c : List Access) (v : Word) : (s.seqSet c v).tm = s.tm := State.plain_tm (s.withBus c) _ _

theorem State.seqSet_sq (s : State) (c : List Access) (v : Word) : (s.seqSet c v).sq = s.sq := State.plain_sq (s.withBus c) _ _

theorem State.seqSet_getSel (s : State) (c : List Access) (v : Word) (i : Nat) : (s.seqSet c v).getSel i = s.getSel i := by
  unfold State.getSel
  rw [State.seqSet, State.plain_sel]
  rfl

theorem seqCtrl_row : findReg 0x20000 = some ⟨0x20000, 16777216, 1, 4, 1, 0x0, 0x1F0, 0x0, 0x0⟩ := by decide

/-- The bits of START_SRC, RESUME_SRC and PAUSE_OUT hold what was written. -/
theorem State.seqSet_ctrl {lo b : Nat} (h : RegRow.gives ⟨0x20000, 16777216, 1, 4, 1, 0x0, 0x1F0, 0x0, 0x0⟩ lo b = true) (hb : lo + b ≤ 32) :
    (s.seqSet c v).fld ⟨0x20000, lo, b⟩ = getBits lo b v := by
  refine (congrArg (getBits lo b) (State.plain_rd_self (s := s.withBus c) seqCtrl_row rfl)).trans ?_
  exact getBits_mergeWrite h hb

/-- The register's own state, as the access finds it. -/
theorem State.seqSet_eq (s : State) (v : Word) (p : Bool) : (s.atBus 0x20000 v p).plain 0x20000 v = s.seqSet [wrAcc 0x20000 v p] v := by
  have hkey : keyReg 0x20000 = false := by decide
  unfold State.atBus State.useKey
  rw [hkey]
  rfl

/-- A heat command that passes every check acts, and the bus is free again. -/
theorem State.wrote_seq {i : Nat} (h : cmdBits [0, 1, 2, 3] v = [i]) : ∃ d, s.wrote 0x20000 v p =
    (seqRun i (s.seqSet [wrAcc 0x20000 v p] v)).withBus d := by
  have hrun : (s.withBus [wrAcc 0x20000 v p]).seqWrite 0x20000 v = _ :=
    State.command_one (s := s.seqSet [wrAcc 0x20000 v p] v) (st := F.SEQ_CTRL_STATUS) (run := seqRun) h
  exact ⟨_, (State.wrote_block (by decide) (by decide +kernel) (by decide) (by decide)).trans
    (congrArg (fun t : State => t.withBus (t.bus.drop 1)) hrun)⟩

/-- The row of a heat command, `g` its bit. -/
theorem seq_row {g : Fld} {i : Instr} (ha : g.a = 0x20000) (hi : exec i s = .next (s.cmdRow g w p))
    (h : s.orders g [0, 1, 2, 3] w p = true) : ∃ d, exec i s = .next
    (((seqRun g.lo (s.seqSet [wrAcc 0x20000 (setBits g.lo 1 1 w) p] (setBits g.lo 1 1 w))).withBus d).noteLevels) := by
  obtain ⟨htakes, hbits⟩ := (Bool.and_eq_true _ _).mp h
  obtain ⟨d, hwrote⟩ := State.wrote_seq (s := s) (p := p) (of_decide_eq_true hbits)
  have hrow : s.cmdRow g w p = _ := State.cmdRow_takes htakes
  rw [ha, hwrote] at hrow
  exact ⟨d, hi.trans (congrArg Host.Outcome.next hrow)⟩

/-- A command's STATUS, as the bus is free again. -/
def State.seqDone (s : State) (st : Nat) (d : List Access) : State := (s.seqStatus st).withBus d

theorem State.seqDone_status (s : State) (d : List Access) : (s.seqDone stOk d).fld F.SEQ_CTRL_STATUS = stOk :=
  State.put_fld_self (s := s) (by decide)

theorem State.seqDone_fld {st : Nat} {d : List Access} (h : f.a ≠ 0x20000) : (s.seqDone st d).fld f = s.fld f :=
  State.put_fld_apart (apart_of_ne h)

theorem State.seqDone_tm (s : State) (st : Nat) (d : List Access) : (s.seqDone st d).tm = s.tm := rfl

theorem State.seqDone_sqn (s : State) (st : Nat) (d : List Access) (n : Nat) : (s.seqDone st d).sqn n = s.sqn n := rfl

/-! ### PAUSE -/

theorem State.pauseCmd_runs (hrole : s.role ≠ roleFollower) (hrun : s.fld F.SEQ_STAT_HEAT = 3) : ∃ arg, s.pauseCmd =
    ((s.leaderDelay true 255 arg).pauseHeat ((s.leaderDelay true 255 arg).flag F.SEQ_CTRL_PAUSE_OUT)).seqStatus
      (if ((s.leaderDelay true 255 arg).pauseHeat ((s.leaderDelay true 255 arg).flag F.SEQ_CTRL_PAUSE_OUT)).fld F.SEQ_STAT_HEAT = 4
        then stOk else stState) := by
  unfold State.pauseCmd
  rw [if_neg (by rintro (h | h); exacts [hrole h, h hrun])]
  exact ⟨_, rfl⟩

theorem pause_stands (ho : s.orders F.SEQ_CTRL_PAUSE [0, 1, 2, 3] w p = true) (hrole : s.role ≠ roleFollower)
    (hrun : s.fld F.SEQ_STAT_HEAT = 3) (hnext : ∀ m : Fin 8, ∀ d ∈ (s.sqn m.val).next, s.tm.heat + 16 < d.o) :
    Does (.pause w p) s fun t => t.fld F.SEQ_STAT_HEAT = 4 ∧ t.fld F.SEQ_CTRL_STATUS = stOk ∧
      (∀ m : Fin 8, s.inHeat m.val = true → s.sqState m.val = sqRunning → t.sqState m.val = sqPaused) ∧
      (s.role = roleSingle → t.tm.pausedAt = s.tm.tb ∧ t.tm.heat = s.tm.heat ∧ t.tm.tb = s.tm.tb) ∧
      t.tm.pauseRest = decide (getBits 8 1 w = 1) := by
  obtain ⟨d, hrow⟩ := seq_row (i := .pause w p) rfl rfl ho
  generalize hu : s.seqSet [wrAcc 0x20000 (setBits 1 1 1 w) p] (setBits 1 1 1 w) = u at hrow
  have hfld : ∀ g : Fld, g.a ≠ 0x20000 → u.fld g = s.fld g := fun g hg => by rw [← hu, State.seqSet_fld hg]
  have htm : u.tm = s.tm := by rw [← hu, State.seqSet_tm]
  have hout : u.fld F.SEQ_CTRL_PAUSE_OUT = getBits 8 1 w := by
    rw [← hu, State.seqSet_ctrl rfl (by decide), getBits_setBits_ne 1 1 8 1 _ _ (by decide) (by decide)]
  have hurole : u.role = s.role := hfld _ (by decide)
  obtain ⟨arg, hcmd⟩ := State.pauseCmd_runs (s := u) (by rw [hurole]; exact hrole) (by rw [hfld _ (by decide), hrun])
  have hwaits : Waits s.tm.heat u u := ⟨Leaves.refl _ u, fun m hm x hx => by
    rw [← hu, State.sqn_congr (State.seqSet_sq _ _ _)] at hx
    exact hnext ⟨m, hm⟩ x hx, by rw [htm]⟩
  obtain ⟨hdelay, hle⟩ := hwaits.leaderDelay (ok := true) (m := 255) (arg := arg) (by rw [htm])
  have hsingle : s.role = roleSingle → (u.leaderDelay true 255 arg) = u := fun h =>
    State.leaderDelay_single (by rw [hurole, h]) true 255 arg
  generalize u.leaderDelay true 255 arg = x at hcmd hdelay hle hsingle
  obtain ⟨hdue, hheat, htb⟩ := hdelay.pauseDue hle
  have hrest : x.flag F.SEQ_CTRL_PAUSE_OUT = decide (getBits 8 1 w = 1) := by
    have hlt : getBits 8 1 w < 2 := getBits_lt 8 1 w
    have hx : x.fld F.SEQ_CTRL_PAUSE_OUT = getBits 8 1 w := (hdelay.leaves _ (by decide +kernel)).trans hout
    rw [State.flag, hx]
    exact decide_eq_decide.2 (by omega)
  obtain ⟨hstands, hat, hpause, hptb, hpheat, hstate⟩ := State.pauseHeat_stands (s := x)
    (by rw [hdue.leaves _ (by decide +kernel), hfld _ (by decide), hrun]) (x.flag F.SEQ_CTRL_PAUSE_OUT)
  generalize x.pauseHeat (x.flag F.SEQ_CTRL_PAUSE_OUT) = y at hcmd hstands hat hpause hptb hpheat hstate
  rw [if_pos hstands] at hcmd
  refine ⟨y.seqDone stOk d, hrow.trans ?_, ?_, y.seqDone_status d, fun m hin hst => ?_, fun hs => ?_, ?_⟩
  · rw [show seqRun F.SEQ_CTRL_PAUSE.lo u = u.pauseCmd from rfl, hcmd]
    rfl
  · rw [State.seqDone_fld (by decide), hstands]
  · have hne : (F.SQ_STAT_STATE m.val).a ≠ 0x20000 := by
      show 0x20100 + 0x40 * m.val ≠ 0x20000
      omega
    refine (State.seqDone_fld hne).trans (hstate m ?_ ?_)
    · rw [State.inHeat, hdue.leaves _ (by decide +kernel), hfld _ (by decide)]
      exact hin
    · exact (hdue.leaves _ (steady_sq m).2.2.2.2.2).trans ((hfld _ hne).trans hst)
  · rw [State.seqDone_tm, hat, hpheat, hptb, hheat, htb, hsingle hs, htm]
    exact ⟨rfl, rfl, rfl⟩
  · rw [State.seqDone_tm, hpause, hrest]

/-! ### RESUME -/

theorem resume_accepted (ho : s.orders F.SEQ_CTRL_RESUME [0, 1, 2, 3] w p = true) (hu : u = s.seqSet [wrAcc 0x20000 (setBits 2 1 1 w) p] (setBits 2 1 1 w))
    (hsingle : s.role = roleSingle) (hheat : s.fld F.SEQ_STAT_HEAT = 4) (hat : s.tm.resAt = none) (hwait : s.tm.resWait = false)
    (hsrc : u.fld F.SEQ_CTRL_RESUME_SRC ≠ 3) (htick : u.fld F.SEQ_CTRL_RESUME_SRC = 1 → s.tm.tb + 16 ≤ s.getSel 0x0800) :
    Runs (.resume w p) s fun t => t.fld F.SEQ_CTRL_STATUS = stOk ∧ t.tm = (s.resumeFrom (u.fld F.SEQ_CTRL_RESUME_SRC)).tm := by
  obtain ⟨d, hrow⟩ := seq_row (i := .resume w p) rfl rfl ho
  rw [← hu] at hrow
  have hfld : ∀ g : Fld, g.a ≠ 0x20000 → u.fld g = s.fld g := fun g hg => by rw [hu, State.seqSet_fld hg]
  have htm : u.tm = s.tm := by rw [hu, State.seqSet_tm]
  have hsel : u.getSel 0x0800 = s.getSel 0x0800 := by rw [hu, State.seqSet_getSel]
  have hrole : u.role = roleSingle := (hfld _ (by decide)).trans hsingle
  have hcmd : u.resumeCmd = (u.resumeFrom (u.fld F.SEQ_CTRL_RESUME_SRC)).seqStatus stOk := by
    unfold State.resumeCmd
    dsimp only
    rw [if_neg, if_neg, State.leaderDelay_single hrole]
    · rintro (h | ⟨h, hlt⟩)
      · exact hsrc h
      · have := htick h
        rw [hsel, htm] at hlt
        omega
    · rw [hrole, hfld _ (by decide), hheat, htm, hat, hwait]
      decide
  have hfrom : (u.resumeFrom (u.fld F.SEQ_CTRL_RESUME_SRC)).tm = (s.resumeFrom (u.fld F.SEQ_CTRL_RESUME_SRC)).tm := by
    unfold State.resumeFrom
    dsimp only
    rw [htm, hsel]
  refine ⟨_, hrow, ?_, ?_⟩
  · rw [show seqRun F.SEQ_CTRL_RESUME.lo u = u.resumeCmd from rfl, hcmd, State.noteLevels_fld (by decide)]
    exact State.seqDone_status _ d
  · rw [show seqRun F.SEQ_CTRL_RESUME.lo u = u.resumeCmd from rfl, hcmd, State.noteLevels_tm]
    exact (State.seqDone_tm _ stOk d).trans hfrom

theorem State.resumeFrom_tm (s : State) (src : Nat) :
    (s.resumeFrom src).tm.resWait = decide (src = 0) ∧ (src = 0 → (s.resumeFrom src).tm.resAt = none) ∧
    (src = 1 → (s.resumeFrom src).tm.resAt = some (s.getSel 0x0800)) ∧ (src = 2 → (s.resumeFrom src).tm.resAt = some (s.tm.tb + 1)) :=
  ⟨rfl, fun h => by rw [h]; rfl, fun h => by rw [h]; rfl, fun h => by rw [h]; rfl⟩

end
end Sys2Proof.Machine
end

section
/-! SUPPORT. The resumption tick (R109): the heat runs again, one tick after the one at which it stood. -/

namespace Sys2Proof.Machine

section
variable {s t : State} {n x gap : Nat} {rest : Bool}

/-- The heat runs again. -/
def State.goingOn (s : State) : State :=
  (({ s with tm := { s.tm with resAt := none, heat := s.tm.heat + 1, pauseRest := false },
             plan := { s.plan with row := (s.tm.heat + 1) / 16 } } : State).put F.SEQ_STAT_HEAT 3).put F.PLAN_TL_FREE 0

/-- The outputs of a sequencer that runs again. -/
def State.playAgain (u1 : State) (n : Nat) (rest : Bool) : State :=
  let u2 := (u1.ncoLanes n).foldl (fun a c => if a.flag (F.FC_STAT_RULE c) then
    a.setFc c { a.fcn c with n0 := 2 * a.tm.tb } else a) u1
  let u3 := if (u2.sqn n).visit.isSome then u2.playOuts n else u2
  if rest && (u3.sqn n).hold.isSome then u3.backDrives n else u3

/-- A sequencer runs again, after `gap` ticks. -/
def State.runAgain (u : State) (n gap : Nat) (rest : Bool) : State :=
  let u4 := ((u.put (F.SQ_STAT_STATE n) sqRunning).setSq n { u.sqn n with lead := none }).playAgain n rest
  u4.event (evRec u4.tm.tb n 0x02 gap)

theorem State.resumption_eq (hat : s.tm.resAt = some x) (hstart : s.tm.starter ≠ some x) (hheat : s.fld F.SEQ_STAT_HEAT = 4)
    (hcount : s.fld F.TB_STAT_COUNTING = 1) : ∃ gap rest, s.resumption =
      State.pauseSeen ((((s.passTo x).goingOn).heatSqs.filter (fun n => ((s.passTo x).goingOn).sqState n = sqPaused)).foldl
        (fun u n => u.runAgain n gap rest) (s.passTo x).goingOn) := by
  unfold State.resumption
  rw [hat]
  dsimp only
  rw [if_neg (by simp [hheat, State.flag, hcount]), if_neg hstart, hat, Option.getD_some]
  generalize s.passTo x = y
  exact ⟨((y.tm.tb : Int) - (y.tm.pausedAt + 1)).toNat, y.tm.pauseRest, rfl⟩

/-- A change in no time that leaves the fields of `K`. -/
def Calm (K : Fld → Bool) (s t : State) : Prop := Leaves K s t ∧ t.tm = s.tm

section
variable {K : Fld → Bool} {u : State}

theorem Calm.refl (K : Fld → Bool) (s : State) : Calm K s s := ⟨Leaves.refl K s, rfl⟩

theorem Calm.trans (h : Calm K s t) (g : Calm K t u) : Calm K s u := ⟨h.1.trans g.1, g.2.trans h.2⟩

theorem Calm.ite {c : Prop} [Decidable c] (h : Calm K s t) (g : Calm K s u) : Calm K s (if c then t else u) := by
  split
  · exact h
  · exact g

theorem Calm.foldl {α : Type} {l : List α} {f : State → α → State} (h : ∀ t, ∀ x ∈ l, Calm K t (f t x)) : Calm K s (l.foldl f s) :=
  List.foldlRecOn (motive := fun t => Calm K s t) l f (Calm.refl K s) fun t ht x hx => ht.trans (h t x hx)

theorem Calm.frame (hr : t.regs = s.regs := by rfl) (ht : t.tm = s.tm := by rfl) : Calm K s t := ⟨Leaves.regs hr, ht⟩

theorem Calm.put {f : Fld} {v : Nat} (h : ∀ g, K g = true → Fld.apart g f = true) : Calm K s (s.put f v) := ⟨Leaves.put h, rfl⟩

end

/-- The outputs of a sequencer that runs again leave the steady fields and the time. -/
theorem Calm.playAgain : Calm steady t (t.playAgain n rest) := by
  have hback : ∀ (a : State) p, p < 128 → Calm steady a (a.backDrive p) := fun a p hp => by
    refine ⟨(Woken.backDrive hp).leaves, ?_⟩
    unfold State.backDrive
    split <;> rfl
  unfold State.playAgain
  extract_lets u2 u3
  have h2 : Calm steady t u2 := Calm.foldl fun a c _ => Calm.ite Calm.frame (Calm.refl _ a)
  have h3 : Calm steady u2 u3 := Calm.ite ⟨Woken.playOuts.leaves, State.playOuts_tm u2 n⟩ (Calm.refl _ u2)
  have h4 : Calm steady u3 (u3.backDrives n) := Calm.foldl fun a p hp => hback a p (State.vpsOf_lt hp)
  exact (h2.trans h3).trans (Calm.ite h4 (Calm.refl _ u3))

theorem State.runAgain_tm (t : State) (n gap : Nat) (rest : Bool) : (t.runAgain n gap rest).tm = t.tm := by
  unfold State.runAgain
  dsimp only
  rw [State.event_tm, Calm.playAgain.2]
  rfl

theorem Leaves.runAgain (hn : n < 8) : Leaves visitFld t (t.runAgain n gap rest) := by
  have hset : Leaves visitFld t ((t.put (F.SQ_STAT_STATE n) sqRunning).setSq n { t.sqn n with lead := none }) :=
    Leaves.trans (Leaves.put (g := F.SQ_STAT_STATE n) fun _ hf => apart_of_ne (visitFld_ne hf hn).1) (Leaves.setSq _ _ _)
  exact (hset.trans (Calm.playAgain.1.mono fun _ => steady_of_visitFld)).trans
    (Leaves.event fun _ hf => evRegs_of_steady (steady_of_visitFld hf))

/-- The sequencer runs, and the others are as they were (R109). -/
theorem State.runAgain_state (m : Fin 8) :
    (t.runAgain n gap rest).sqState m.val = if m.val = n then sqRunning else t.sqState m.val := by
  have hsteady : steady (F.SQ_STAT_STATE m.val) = true := (steady_sq m).2.2.2.2.2
  have hset : ∀ q, ((t.put (F.SQ_STAT_STATE n) sqRunning).setSq n q).sqState m.val =
      (t.put (F.SQ_STAT_STATE n) sqRunning).fld (F.SQ_STAT_STATE m.val) := fun _ => rfl
  unfold State.runAgain
  dsimp only
  refine (State.event_fld (evRegs_of_steady hsteady)).trans ((Calm.playAgain.1 _ hsteady).trans ((hset _).trans ?_))
  split
  · next h =>
    rw [h]
    exact State.put_fld_self (by show 0 + 3 ≤ 32; decide)
  · next h =>
    have hne : (F.SQ_STAT_STATE m.val).a ≠ (F.SQ_STAT_STATE n).a := by
      show 0x20100 + 0x40 * m.val ≠ 0x20100 + 0x40 * n
      omega
    exact State.put_fld_apart (apart_of_ne hne)

/-- The events seen in the pause act as the heat runs again: they leave the time and the steady fields. -/
theorem Calm.pauseSeen : Calm steady s s.pauseSeen := by
  have hhop : ∀ (a : State) ev, Calm steady a (a.hopEvent ev) := fun a ev => Calm.foldl fun t c _ => by
    split
    · exact Calm.refl _ t
    · exact Calm.ite Calm.frame (Calm.refl _ t)
  have himm : ∀ (a : State) n k, n < 8 → Calm steady a (a.immediate n k) := fun a n k hn =>
    have h := Decides.immediate (s := a) (o := k) hn
    ⟨h.leaves, h.tm⟩
  unfold State.pauseSeen
  extract_lets _ s0 s1
  have h0 : Calm steady s s0 := Calm.frame
  have h1 : Calm steady s0 s1 := Calm.foldl fun a ev _ => Calm.ite (hhop a ev) (Calm.refl _ a)
  exact (h0.trans h1).trans (Calm.trans Calm.frame (Calm.foldl fun a n hn => Calm.ite (himm a n _ (List.mem_range.1 hn)) (Calm.refl _ a)))

theorem State.goingOn_facts (s : State) : s.goingOn.fld F.SEQ_STAT_HEAT = 3 ∧ s.goingOn.tm.heat = s.tm.heat + 1 ∧
    s.goingOn.tm.tb = s.tm.tb ∧ s.goingOn.tm.resAt = none :=
  ⟨(State.put_fld_apart (by decide)).trans (State.put_fld_self (by decide)), rfl, rfl, rfl⟩

theorem State.goingOn_rd {a : Nat} (h1 : a ≠ F.SEQ_STAT_HEAT.a) (h2 : a ≠ F.PLAN_TL_FREE.a) : s.goingOn.rd a = s.rd a :=
  (State.put_rd_ne h2).trans (State.put_rd_ne h1)

theorem State.goingOn_mask (s : State) : s.goingOn.fld F.SEQ_STAT_HEAT_MASK = s.fld F.SEQ_STAT_HEAT_MASK :=
  (State.put_fld_apart (by decide)).trans (State.put_fld_apart (by decide))

/-- At the resumption tick the heat runs on (R109). -/
theorem resumption_runs (hlive : s.live = true) (hwait : s.tm.resWait = false) (hat : s.tm.resAt = some x)
    (hstart : s.tm.starter ≠ some x) (hheat : s.fld F.SEQ_STAT_HEAT = 4) (hcount : s.fld F.TB_STAT_COUNTING = 1) :
    Does .resumption s fun t => t.fld F.SEQ_STAT_HEAT = 3 ∧ t.tm.heat = s.tm.heat + 1 ∧ t.tm.tb = max s.tm.tb x ∧ t.tm.resAt = none ∧
      ∀ m : Fin 8, s.inHeat m.val = true → s.sqState m.val = sqPaused → t.sqState m.val = sqRunning := by
  obtain ⟨gap, rest, heq⟩ := State.resumption_eq hat hstart hheat hcount
  have hexec : exec .resumption s = .next s.resumption.noteLevels := by
    show (if s.live && !s.tm.resWait then _ else _) = _
    rw [hlive, hwait]
    rfl
  refine ⟨s.resumption, hexec, ?_⟩
  obtain ⟨hgo, hk, htb, hres⟩ := (s.passTo x).goingOn_facts
  have hpass : Leaves steady s (s.passTo x) := Leaves.passTo
  have hlt : ∀ n ∈ (s.passTo x).goingOn.heatSqs.filter (fun n => (s.passTo x).goingOn.sqState n = sqPaused), n < 8 := fun n hn =>
    (State.mem_heatSqs.1 (List.mem_filter.1 hn).1).1
  have hmem : ∀ m : Fin 8, s.inHeat m.val = true → s.sqState m.val = sqPaused →
      m.val ∈ (s.passTo x).goingOn.heatSqs.filter (fun n => (s.passTo x).goingOn.sqState n = sqPaused) := fun m hin hst => by
    refine List.mem_filter.2 ⟨State.mem_heatSqs.2 ⟨m.isLt, ?_⟩, decide_eq_true ?_⟩
    · rw [State.inHeat, State.goingOn_mask, hpass _ (by decide +kernel)]
      exact hin
    · have hrd : ((s.passTo x).goingOn).sqState m.val = (s.passTo x).sqState m.val := congrArg (getBits _ _)
        (State.goingOn_rd (by show 0x20100 + 0x40 * m.val ≠ 0x20004; omega) (by show 0x20100 + 0x40 * m.val ≠ 0x40018; omega))
      rw [hrd]
      exact (hpass _ (steady_sq m).2.2.2.2.2).trans hst
  have hheat' : (s.passTo x).tm.heat = s.tm.heat := (s.passTo_heat x).trans (if_neg (by rw [hheat]; omega))
  have htb' : (s.passTo x).tm.tb = max s.tm.tb x := (Elapsed.passTo s x).tb
  generalize (s.passTo x).goingOn.heatSqs.filter (fun n => (s.passTo x).goingOn.sqState n = sqPaused) = l at heq hlt hmem
  rw [heq]
  generalize (s.passTo x).goingOn = v at hgo hk htb hres
  have htm : (l.foldl (fun u n => u.runAgain n gap rest) v).tm = v.tm :=
    List.foldlRecOn (motive := fun u : State => u.tm = v.tm) l _ rfl fun u hu n _ => (u.runAgain_tm n gap rest).trans hu
  have hleft : Leaves visitFld v (l.foldl (fun u n => u.runAgain n gap rest) v) := Leaves.foldl fun _ n hn => Leaves.runAgain (hlt n hn)
  have hstate : ∀ n ∈ l, (l.foldl (fun u n => u.runAgain n gap rest) v).sqState n = sqRunning := by
    have hstep : ∀ (a : State) m n, n < 8 → (a.runAgain m gap rest).sqState n = if n = m then sqRunning else a.sqState n := fun a m n hn =>
      State.runAgain_state (t := a) ⟨n, hn⟩
    refine (foldl_establishes (I := fun _ => True) (P := fun n (a : State) => a.sqState n = sqRunning) trivial (fun _ _ _ _ => trivial)
      (fun a _ n hn => (hstep a n n (hlt n hn)).trans (if_pos rfl)) fun a _ m _ n hn ha => ?_).2
    refine (hstep a m n (hlt n hn)).trans ?_
    split
    · rfl
    · exact ha
  generalize l.foldl (fun u n => u.runAgain n gap rest) v = u at htm hleft hstate
  obtain ⟨hseen, hseenTm⟩ : Calm steady u u.pauseSeen := Calm.pauseSeen
  rw [hseenTm, htm, hk, htb, hres, hheat', htb']
  refine ⟨(hseen _ (by decide +kernel)).trans ((hleft _ (by decide +kernel)).trans hgo), rfl, rfl, rfl, fun m hin hst => ?_⟩
  exact (hseen _ (steady_sq m).2.2.2.2.2).trans (hstate m.val (hmem m hin hst))

end
end Sys2Proof.Machine
end

section
/-! SUPPORT. ABORT (R83, R108): the sequencers of the heat stop, their outputs go to the hold path, and the heat ends. -/

namespace Sys2Proof.Machine

section
variable {s t u : State} {n c p : Nat} {fcs vps : List Nat}

/-! ### Fabric registers endure -/

theorem domReg_of_fabric {a : Nat} (h : 0x150000 ≤ a) : domReg a = false := by
  simp only [domReg, outReg, Bool.or_eq_false_iff, Bool.and_eq_false_iff, decide_eq_false_iff_not]
  omega

theorem enduring_of_fabric {f : Fld} (h : 0x150000 ≤ f.a) : enduring f = true := by
  have hsleep : sleepReg f.a = false := by
    simp only [sleepReg, domReg_of_fabric h, contains_of_fabric (l := evRegs) (by decide) h,
      contains_of_fabric (l := [0xB0000, 0x10008, 0x10104, 0x1010C, 0x130004]) (by decide) h, Bool.or_self]
  have hclose : closingReg f.a = false := by
    have hfree : f.a ≠ 0x40018 := by omega
    have hpst : f.a ≠ F.SUP_STAT_PSTATE.a := fun e => absurd (e ▸ h) (by decide)
    simp only [closingReg, hsleep, Bool.false_or, Bool.or_eq_false_iff, decide_eq_false_iff_not]
    exact ⟨hfree, hpst⟩
  have hvisit : visitFld f = true := Bool.and_eq_true_iff.2 ⟨steady_of_fabric h, List.all_eq_true.2 fun m hm => by
    have hm := List.mem_range.1 hm
    simp only [Bool.and_eq_true, decide_eq_true_eq]
    omega⟩
  have hstat : f.a ≠ 0x20004 := by omega
  have hlast : lasting f = true := by
    simp only [lasting, hvisit, hclose, Bool.not_false, Bool.and_eq_true]
    exact ⟨⟨⟨⟨trivial, trivial⟩, apart_of_ne hstat⟩, apart_of_ne hstat⟩, apart_of_ne hstat⟩
  refine Bool.and_eq_true_iff.2 ⟨hlast, List.all_eq_true.2 fun m hm => decide_eq_true ?_⟩
  have hm := List.mem_range.1 hm
  omega

/-! ### Outputs on the hold path -/

/-- The channels and pins of two lists are at rest on the hold path. -/
def OnHold (fcs vps : List Nat) (s : State) : Prop :=
  (∀ c ∈ fcs, s.fld (F.FC_STAT_AT_REST c) = 1 ∧ s.fld (F.FC_STAT_ON_HOLD c) = 1) ∧
    ∀ p ∈ vps, s.fld (F.VP_STAT_AT_REST p) = 1 ∧ s.fld (F.VP_STAT_ON_HOLD p) = 1

theorem OnHold.mono (h : OnHold fcs vps s) (hr : Rests s t) (hf : ∀ c ∈ fcs, c < 64) (hv : ∀ p ∈ vps, p < 128) : OnHold fcs vps t :=
  ⟨fun c hc => ⟨hr _ (restFld_fc (hf c hc)).1 (h.1 c hc).1, hr _ (restFld_fc (hf c hc)).2 (h.1 c hc).2⟩,
    fun p hp => ⟨hr _ (restFld_vp (hv p hp)).1 (h.2 p hp).1, hr _ (restFld_vp (hv p hp)).2 (h.2 p hp).2⟩⟩

theorem State.restFc_onHold (hc : c < 64) : (s.restFc true c).fld (F.FC_STAT_AT_REST c) = 1 ∧ (s.restFc true c).fld (F.FC_STAT_ON_HOLD c) = 1 :=
  ⟨State.restFc_atRest c (.inl rfl) hc, State.put_fld_self (by show 11 + 1 ≤ 32; decide)⟩

theorem State.restVp_onHold (hp : p < 128) : (s.restVp true p).fld (F.VP_STAT_AT_REST p) = 1 ∧ (s.restVp true p).fld (F.VP_STAT_ON_HOLD p) = 1 :=
  ⟨State.restVp_atRest p (.inl rfl) hp, Rests.putDrive _ (restFld_vp hp).2 (State.put_fld_self (by show 5 + 1 ≤ 32; decide))⟩

/-- Outputs that are sent to the hold path are there. -/
theorem OnHold.restOuts (hf : ∀ c ∈ fcs, c < 64) (hv : ∀ p ∈ vps, p < 128) : OnHold fcs vps (s.restOuts true fcs vps) := by
  have hfcs : OnHold fcs [] (fcs.foldl (fun t m => t.restFc true m) s) :=
    ⟨(foldl_establishes (I := fun _ => True) (P := fun c (t : State) => t.fld (F.FC_STAT_AT_REST c) = 1 ∧ t.fld (F.FC_STAT_ON_HOLD c) = 1)
      trivial (fun _ _ _ _ => trivial) (fun _ _ c hc => State.restFc_onHold (hf c hc)) fun _ _ _ _ c hc h =>
        ⟨Rests.restFc _ (restFld_fc (hf c hc)).1 h.1, Rests.restFc _ (restFld_fc (hf c hc)).2 h.2⟩).2, fun _ h => absurd h List.not_mem_nil⟩
  have hvps : OnHold [] vps (vps.foldl (fun t m => t.restVp true m) (fcs.foldl (fun t m => t.restFc true m) s)) :=
    ⟨fun _ h => absurd h List.not_mem_nil,
      (foldl_establishes (I := fun _ => True) (P := fun p (t : State) => t.fld (F.VP_STAT_AT_REST p) = 1 ∧ t.fld (F.VP_STAT_ON_HOLD p) = 1)
      trivial (fun _ _ _ _ => trivial) (fun _ _ p hp => State.restVp_onHold (hv p hp)) fun _ _ _ _ p hp h =>
        ⟨Rests.restVp _ (restFld_vp (hv p hp)).1 h.1, Rests.restVp _ (restFld_vp (hv p hp)).2 h.2⟩).2⟩
  exact ⟨(hfcs.mono (Rests.foldl fun _ _ _ => Rests.restVp) hf fun _ h => absurd h List.not_mem_nil).1, hvps.2⟩

/-! ### A sequencer of a heat that is aborted -/

/-- A sequencer of a heat that is aborted stops, and its outputs go to the hold path. -/
def State.abortSq (t : State) (n : Nat) : State :=
  if t.sqActive n then t.faultStop n 5 else (t.restOuts true (t.fcsOf n) (t.vpsOf n)).cancelPens n

theorem State.abortHeat_eq (s : State) :
    s.abortHeat = State.endHeat ((s.advance 1).heatSqs.foldl State.abortSq (s.advance 1))
      (((s.advance 1).heatSqs.foldl State.abortSq (s.advance 1)).heatSqs.headD 0) 1 := rfl

/-- The outputs of a sequencer that a fault stops. -/
def State.faultOuts (s : State) (n : Nat) : State :=
  (s.fineNow.leaveVisit n s.fineNow.seenAt).restOuts true (s.fineNow.fcsOf n) (s.fineNow.vpsOf n)

/-- What is recorded of a stop by a fault. -/
def State.faultRec (s : State) (n e cause : Nat) (q : Sq) : State :=
  (((s.setSq n q).cancelPens n).eventNow n 0x09 (e + 2 ^ 16 * cause)).noteStop n

theorem State.faultStop_eq (s : State) (n cause : Nat) : ∃ e q, s.faultStop n cause = ((s.faultOuts n).stopStat n).faultRec n e cause q :=
  ⟨_, _, rfl⟩

theorem Leaves.faultRec {e cause : Nat} {q : Sq} : Leaves steady s (s.faultRec n e cause q) := by
  have hset : Leaves steady s ((s.setSq n q).cancelPens n) := Leaves.regs rfl
  exact (hset.trans (Leaves.event fun _ => evRegs_of_steady)).trans (Leaves.regs rfl)

theorem Rests.faultRec {e cause : Nat} {q : Sq} : Rests s (s.faultRec n e cause q) := by
  have hset : Rests s ((s.setSq n q).cancelPens n) := Rests.regs rfl
  exact (hset.trans Rests.event).trans (Rests.regs rfl)

theorem Leaves.faultOuts : Leaves steady s (s.faultOuts n) :=
  (Woken.fineNow.leaves.trans (Leaves.regs (State.leaveVisit_frame _ n _).1)).trans
    (Woken.restOuts (fun _ => State.fcsOf_lt) (fun _ => State.vpsOf_lt)).leaves

theorem Rests.faultOuts : Rests s (s.faultOuts n) :=
  (Rests.fineUp.trans (Rests.regs (State.leaveVisit_frame _ n _).1)).trans Rests.restOuts

theorem OnHold.faultOuts : OnHold (s.fcsOf n) (s.vpsOf n) (s.faultOuts n) := by
  have hfine : Leaves steady s s.fineNow := Woken.fineNow.leaves
  rw [← hfine.fcsOf (fun _ => steady_of_fabric), ← hfine.vpsOf (fun _ => steady_of_fabric)]
  exact OnHold.restOuts (fun _ => State.fcsOf_lt) fun _ => State.vpsOf_lt

theorem Leaves.faultStop {cause : Nat} (hn : n < 8) : Leaves Machine.enduring s (s.faultStop n cause) := by
  obtain ⟨e, q, heq⟩ := s.faultStop_eq n cause
  have hstat : Leaves Machine.enduring (s.faultOuts n) ((s.faultOuts n).stopStat n) := fun f hf =>
    State.stopStat_leaves hn (visitFld_of_enduring hf) (lasting_parts (lasting_of_enduring hf)).2.2.2.1
  rw [heq]
  exact (Leaves.faultOuts.enduring.trans hstat).trans Leaves.faultRec.enduring

theorem Rests.afterFault {e cause : Nat} {q : Sq} (hn : n < 8) : Rests s ((s.stopStat n).faultRec n e cause q) :=
  (Rests.stopStat hn).trans Rests.faultRec

theorem Leaves.abortSq (hn : n < 8) : Leaves Machine.enduring s (s.abortSq n) := by
  have hrest : Leaves steady s ((s.restOuts true (s.fcsOf n) (s.vpsOf n)).cancelPens n) :=
    (Woken.restOuts (fun _ => State.fcsOf_lt) (fun _ => State.vpsOf_lt)).leaves.trans (Leaves.regs rfl)
  exact Leaves.ite (Leaves.faultStop hn) hrest.enduring

theorem Rests.abortSq (hn : n < 8) : Rests s (s.abortSq n) := by
  obtain ⟨e, q, heq⟩ := s.faultStop_eq n 5
  unfold State.abortSq
  rw [heq]
  exact Rests.ite (Rests.faultOuts.trans (Rests.afterFault hn)) (Rests.restOuts.trans (Rests.regs rfl))

theorem OnHold.abortSq (hn : n < 8) : OnHold (s.fcsOf n) (s.vpsOf n) (s.abortSq n) := by
  obtain ⟨e, q, heq⟩ := s.faultStop_eq n 5
  have hf : ∀ c ∈ s.fcsOf n, c < 64 := fun _ => State.fcsOf_lt
  have hv : ∀ p ∈ s.vpsOf n, p < 128 := fun _ => State.vpsOf_lt
  unfold State.abortSq
  split
  · rw [heq]
    exact OnHold.faultOuts.mono (Rests.afterFault hn) hf hv
  · exact (OnHold.restOuts hf hv).mono (Rests.regs rfl) hf hv

/-! ### The heat is aborted -/

/-- The heat has been aborted: its end, and the outputs of its sequencers on the hold path. -/
theorem State.abortHeat_over (s : State) : s.abortHeat.fld F.SEQ_STAT_HEAT = 1 ∧ s.abortHeat.fld F.SEQ_STAT_RUN_MASK = 0 ∧
    s.abortHeat.fld F.SEQ_STAT_HEAT_END = 1 ∧
    ∀ i < 8, s.inHeat i = true → s.abortHeat.Reloaded i ∧ OnHold (s.fcsOf i) (s.vpsOf i) s.abortHeat := by
  have hadv : Leaves enduring s (s.advance 1) := Leaves.advance.enduring
  have hlt : ∀ i ∈ (s.advance 1).heatSqs, i < 8 := fun i hi => (State.mem_heatSqs.1 hi).1
  have hin : ∀ i, (s.advance 1).inHeat i = s.inHeat i := fun i => by
    rw [State.inHeat, hadv _ (by decide +kernel)]
    rfl
  obtain ⟨hleft, hheld⟩ := foldl_establishes (I := fun t => Leaves enduring s t)
    (P := fun i (t : State) => OnHold (s.fcsOf i) (s.vpsOf i) t) (f := State.abortSq) hadv
    (fun t ht i hi => ht.trans (Leaves.abortSq (hlt i hi)))
    (fun t ht i hi => by
      have h : OnHold (t.fcsOf i) (t.vpsOf i) (t.abortSq i) := OnHold.abortSq (hlt i hi)
      rwa [ht.fcsOf (fun _ => enduring_of_fabric), ht.vpsOf (fun _ => enduring_of_fabric)] at h)
    fun t _ i hi j _ h => h.mono (Rests.abortSq (hlt i hi)) (fun _ => State.fcsOf_lt) fun _ => State.vpsOf_lt
  rw [State.abortHeat_eq]
  generalize hl : (s.advance 1).heatSqs = l at hlt hleft hheld
  have hmem : ∀ i < 8, s.inHeat i = true → i ∈ l := fun i hi h => hl ▸ State.mem_heatSqs.2 ⟨hi, (hin i).trans h⟩
  generalize l.foldl State.abortSq (s.advance 1) = t at hleft hheld
  have hover := t.endHeat_heatOver (t.heatSqs.headD 0) 1
  have hmask : ∀ i, t.inHeat i = s.inHeat i := fun i => by
    rw [State.inHeat, hleft _ (by decide +kernel)]
    rfl
  exact ⟨hover.heat, hover.run, hover.ended, fun i hi h => ⟨hover.loaded i hi ((hmask i).trans h),
    (hheld i (hmem i hi h)).mono hover.rests (fun _ => State.fcsOf_lt) fun _ => State.vpsOf_lt⟩⟩

theorem State.abortCmd_runs (hrole : s.role ≠ roleFollower) (h2 : 2 ≤ s.fld F.SEQ_STAT_HEAT) (h4 : s.fld F.SEQ_STAT_HEAT ≤ 4) :
    s.abortCmd = ((s.leaderDelay true 255 8).abortHeat).seqStatus stOk := by
  unfold State.abortCmd
  dsimp only
  rw [if_neg (by simp [hrole, h2, h4])]

/-- ABORT ends a heat that is armed, runs or stands (R108). -/
theorem abort_ends {w : Word} {p : Bool} (ho : s.orders F.SEQ_CTRL_ABORT [0, 1, 2, 3] w p = true) (hrole : s.role ≠ roleFollower)
    (h2 : 2 ≤ s.fld F.SEQ_STAT_HEAT) (h4 : s.fld F.SEQ_STAT_HEAT ≤ 4) : Does (.abort w p) s fun t =>
    t.fld F.SEQ_STAT_HEAT = 1 ∧ t.fld F.SEQ_STAT_RUN_MASK = 0 ∧ t.fld F.SEQ_STAT_HEAT_END = 1 ∧ t.fld F.SEQ_CTRL_STATUS = stOk ∧
      ∀ m : Fin 8, s.inHeat m.val = true → t.sqState m.val = sqLoaded ∧ (t.sqn m.val).visit = none ∧ (t.sqn m.val).next = [] ∧
        (∀ c ∈ s.fcsOf m.val, t.fld (F.FC_STAT_AT_REST c) = 1 ∧ t.fld (F.FC_STAT_ON_HOLD c) = 1) ∧
        ∀ c ∈ s.vpsOf m.val, t.fld (F.VP_STAT_AT_REST c) = 1 ∧ t.fld (F.VP_STAT_ON_HOLD c) = 1 := by
  obtain ⟨d, hrow⟩ := seq_row (i := .abort w p) rfl rfl ho
  generalize hu : s.seqSet [wrAcc 0x20000 (setBits 3 1 1 w) p] (setBits 3 1 1 w) = u at hrow
  have hfld : ∀ g : Fld, g.a ≠ 0x20000 → u.fld g = s.fld g := fun g hg => by rw [← hu, State.seqSet_fld hg]
  have hcmd := State.abortCmd_runs (s := u) (by rw [State.role, hfld _ (by decide)]; exact hrole) (by rw [hfld _ (by decide)]; exact h2)
    (by rw [hfld _ (by decide)]; exact h4)
  have hleft : Leaves (fun f => enduring f && decide (f.a ≠ 0x20000)) s (u.leaderDelay true 255 8) := fun f hf => by
    obtain ⟨hend, hne⟩ := Bool.and_eq_true_iff.1 hf
    have hdelay : Leaves enduring u (u.leaderDelay true 255 8) := Leaves.leaderDelay
    exact (hdelay f hend).trans (hfld f (of_decide_eq_true hne))
  have hfab : ∀ f : Fld, 0x150000 ≤ f.a → (enduring f && decide (f.a ≠ 0x20000)) = true := fun f hf =>
    Bool.and_eq_true_iff.2 ⟨enduring_of_fabric hf, decide_eq_true (by omega)⟩
  generalize u.leaderDelay true 255 8 = x at hcmd hleft
  obtain ⟨hheat, hrun, hended, hsqs⟩ := x.abortHeat_over
  generalize x.abortHeat = y at hcmd hheat hrun hended hsqs
  refine ⟨y.seqDone stOk d, hrow.trans ?_, ?_, ?_, ?_, y.seqDone_status d, fun m hin => ?_⟩
  · rw [show seqRun F.SEQ_CTRL_ABORT.lo u = u.abortCmd from rfl, hcmd]
    rfl
  · rw [State.seqDone_fld (by decide), hheat]
  · rw [State.seqDone_fld (by decide), hrun]
  · rw [State.seqDone_fld (by decide), hended]
  · obtain ⟨⟨hstate, hvisit, hnext⟩, hfcs, hvps⟩ := hsqs m.val m.isLt (by
      rw [State.inHeat, hleft _ (by decide +kernel)]
      exact hin)
    rw [hleft.fcsOf hfab] at hfcs
    rw [hleft.vpsOf hfab] at hvps
    rw [State.seqDone_sqn]
    have hdone : ∀ f : Fld, f.a ≠ 0x20000 → (y.seqDone stOk d).fld f = y.fld f := fun f hf => State.seqDone_fld hf
    refine ⟨(hdone _ ?_).trans hstate, hvisit, hnext, fun c hc => ?_, fun c hc => ?_⟩
    · show 0x20100 + 0x40 * m.val ≠ 0x20000
      omega
    · have hne : 0x80004 + 0x400 * c ≠ 0x20000 := by omega
      exact ⟨(hdone _ hne).trans (hfcs c hc).1, (hdone _ hne).trans (hfcs c hc).2⟩
    · have hne : 0x90014 + 0x100 * c ≠ 0x20000 := by omega
      exact ⟨(hdone _ hne).trans (hvps c hc).1, (hdone _ hne).trans (hvps c hc).2⟩

end

/-- Settles O13: PAUSE leaves the heat standing at its tick, RESUME sets the tick of the resumption, at which the heat runs on, and
ABORT ends the heat with its outputs on the hold path. -/
theorem heatStandsAndEnds : Obligations.HeatStandsAndEnds := by
  refine ⟨fun _ _ _ => pause_stands, fun s u w p ho hu hsingle hheat hat hwait hsrc htick => ?_,
    fun _ _ => resumption_runs, fun _ _ _ => abort_ends⟩
  rw [State.seqSet_eq] at hu
  obtain ⟨t, hexec, hok, htm⟩ := resume_accepted ho hu hsingle hheat hat hwait hsrc htick
  exact ⟨t, hexec, hok, htm ▸ State.resumeFrom_tm s _⟩

end Sys2Proof.Machine
end

section
/-! SUPPORT. START (R87, R155, R345): the heat's sequencers are armed, its start tick is set, and the schedule begins. -/

namespace Sys2Proof.Machine

section
variable {s t u : State} {n : Nat}

/-! ### The schedule begins -/

/-- The fields of the sequencing block. -/
def seqFld (f : Fld) : Bool := decide (0x20000 ≤ f.a) && decide (f.a < 0x20300)

section
variable {f : Fld} (h : seqFld f = true)
include h

theorem seqFld_bounds : 0x20000 ≤ f.a ∧ f.a < 0x20300 := by
  simpa only [seqFld, Bool.and_eq_true, decide_eq_true_eq] using h

theorem outReg_of_seqFld : outReg f.a = false := by
  have := seqFld_bounds h
  simp only [outReg, Bool.and_eq_false_iff, decide_eq_false_iff_not]
  omega

theorem notMem_of_seqFld {l : List Nat} (hl : ∀ b ∈ l, b < 0x20000 ∨ 0x20300 ≤ b) : f.a ∉ l := fun hm => by
  have := seqFld_bounds h
  have := hl f.a hm
  omega

theorem reachReg_of_seqFld : reachReg f.a = false := by
  have hev : f.a ∉ evRegs := notMem_of_seqFld h (by decide)
  have hrest : f.a ∉ [0x10008, 0x120058, 0x12005C, 0xB0000, 0xB001C] := notMem_of_seqFld h (by decide)
  simp only [reachReg, outReg_of_seqFld h, List.contains_iff_mem, ← Bool.not_eq_true, Bool.or_eq_true, hev, hrest, Bool.false_eq_true, or_self,
    not_false_eq_true]

theorem sleepReg_of_seqFld : sleepReg f.a = false := by
  have hb := seqFld_bounds h
  have hev : f.a ∉ evRegs := notMem_of_seqFld h (by decide)
  have hrest : f.a ∉ [0xB0000, 0x10008, 0x10104, 0x1010C, 0x130004] := notMem_of_seqFld h (by decide)
  have h1 : f.a ≠ 0x120058 := by omega
  have h2 : f.a ≠ 0x12005C := by omega
  simp only [sleepReg, domReg, outReg_of_seqFld h, List.contains_iff_mem, ← Bool.not_eq_true, Bool.or_eq_true, hev, hrest, h1, h2,
    decide_false, Bool.false_eq_true, or_self, not_false_eq_true]

end

theorem Calm.startWake {d : Nat} : Calm seqFld s (s.startWake d) := by
  have hbat : ∀ (a : State) e, (a.wakeBat e).tm = a.tm := fun a e => by
    unfold State.wakeBat
    split <;> rfl
  have hpll : ∀ a : State, a.wakePll.tm = a.tm := fun a => by
    unfold State.wakePll
    split <;> rfl
  refine ⟨Leaves.rd Woken.startWake.rd fun _ => reachReg_of_seqFld, ?_⟩
  unfold State.startWake
  split
  · rfl
  · refine List.foldlRecOn (motive := fun a : State => a.tm = s.tm) _ _ ?_ fun a ha e _ => (hbat a e).trans ha
    split
    · exact hpll s
    · rfl

theorem Calm.release {l : List Nat} : Calm seqFld s (s.release l) :=
  have hpow : PowerOnly sleepReg s (s.release l) := PowerOnly.release
  have hquiet : Quiet s (s.release l) := Quiet.release
  ⟨Leaves.rd hpow.2 fun _ => sleepReg_of_seqFld, hquiet.tm⟩

/-- A wake record acts upon power alone (R155). -/
theorem Calm.runWake {r : WakeRec} : Calm seqFld s (s.runWake r) := by
  have hbank : ∀ m b, Calm seqFld s (s.bankRecord m b) := fun m b => by
    unfold State.bankRecord
    split
    · exact Calm.refl _ s
    · exact Calm.frame
  unfold State.runWake
  split
  · exact hbank _ _
  · split
    · exact Calm.release
    · extract_lets _ s1 _ s2
      have h1 : Calm seqFld s s1 := Calm.frame
      have h2 : Calm seqFld s1 s2 := Calm.ite Calm.frame (Calm.refl _ s1)
      exact (h1.trans h2).trans Calm.startWake

theorem Calm.beginSchedule : Calm seqFld s s.beginSchedule := by
  unfold State.beginSchedule
  extract_lets _ s1
  have h1 : Calm seqFld s s1 := Calm.frame
  exact h1.trans (Calm.foldl fun _ _ _ => Calm.runWake)

theorem Calm.putFar {a lo w v : Nat} (h : 0x20300 ≤ a) : Calm seqFld s (s.put ⟨a, lo, w⟩ v) :=
  Calm.put fun _ hg => apart_of_ne (by
    have := seqFld_bounds hg
    show _ ≠ a
    omega)

/-- What follows an accepted START leaves the sequencing block and the time. -/
theorem Calm.scheduled : Calm seqFld s ((s.beginSchedule.setPstate).driveOutEn.sendIdent) := by
  have hpst : ∀ a : State, Calm seqFld a a.setPstate := fun a => Calm.ite (Calm.refl _ a) (Calm.putFar (a := 0x120000) (by decide))
  have hout : ∀ a : State, Calm seqFld a a.driveOutEn := fun a => Calm.ite (Calm.refl _ a) (Calm.trans (Calm.putFar (a := 0x130004) (by decide)) Calm.frame)
  have hident : ∀ a : State, Calm seqFld a a.sendIdent := fun a => ⟨Leaves.regs (State.mirFrame_regs _ _ _ _), (Noted.mirSend a _ _).tm⟩
  exact ((Calm.beginSchedule.trans (hpst _)).trans (hout _)).trans (hident _)

/-! ### The heat is armed -/

/-- A sequencer is armed. -/
def State.armSq (t : State) (n : Nat) : State := (t.put (F.SQ_STAT_STATE n) sqArmed).put (F.SQ_STAT_FAULT n) 0

/-- The heat is armed. -/
def State.heatArmed (s : State) : State :=
  ((s.heatSqs.foldl State.armSq s).put F.SEQ_STAT_HEAT 2).put F.SEQ_STAT_RUN_MASK ((s.heatSqs.foldl State.armSq s).fld F.SEQ_STAT_HEAT_MASK)

/-- The tick that START sets for source `src` (R87). -/
def State.startTickOf (s : State) (src : Nat) : Option Nat :=
  match src with
  | 1 => some (s.getSel 0x0800)
  | 2 => some (firstAligned s.clk.lockN (s.fld F.TB_STAT_TB_ALIGN) (s.tm.tb + 16))
  | _ => none

/-- The start tick is set, or awaits STARTER. -/
def State.setStart (s : State) (src : Nat) : State :=
  { s with tm := { s.tm with startAt := s.startTickOf src, startWait := decide (src = 0), startSrc := src },
           mir := { s.mir with fault := false, mine := [] } }

theorem State.startAccept_eq (s : State) : s.startAccept =
    (((s.heatArmed.setStart (s.fld F.SEQ_CTRL_START_SRC)).beginSchedule.setPstate).driveOutEn.sendIdent) := rfl

theorem Leaves.armSq (hn : n < 8) : Leaves visitFld s (s.armSq n) :=
  (Leaves.put (g := F.SQ_STAT_STATE n) fun _ hf => apart_of_ne (visitFld_ne hf hn).1).trans
    (Leaves.put (g := F.SQ_STAT_FAULT n) fun _ hf => apart_of_ne (visitFld_ne hf hn).1)

theorem State.armSq_state {m : Nat} : (s.armSq n).sqState m = if m = n then sqArmed else s.sqState m := by
  unfold State.armSq State.sqState
  split
  · next h =>
    rw [h, State.put_fld_apart (by simp)]
    exact State.put_fld_self (by show 0 + 3 ≤ 32; decide)
  · next h =>
    have hne : 0x20100 + 0x40 * m ≠ 0x20100 + 0x40 * n := by omega
    rw [State.put_fld_apart (apart_of_ne hne), State.put_fld_apart (apart_of_ne hne)]

theorem State.armSqs (s : State) : (∀ n, s.inHeat n = true → n < 8 → (s.heatSqs.foldl State.armSq s).sqState n = sqArmed) ∧
    Leaves visitFld s (s.heatSqs.foldl State.armSq s) ∧ (s.heatSqs.foldl State.armSq s).tm = s.tm ∧
    (s.heatSqs.foldl State.armSq s).clk = s.clk ∧ (s.heatSqs.foldl State.armSq s).sel = s.sel := by
  refine ⟨fun n hin hn => ?_, Leaves.foldl fun _ n hn => Leaves.armSq (State.mem_heatSqs.1 hn).1, ?_⟩
  · refine (foldl_establishes (I := fun _ => True) (P := fun n (a : State) => a.sqState n = sqArmed) trivial (fun _ _ _ _ => trivial)
      (fun a _ n _ => State.armSq_state.trans (if_pos rfl)) fun a _ m _ n _ ha => ?_).2 n (State.mem_heatSqs.2 ⟨hn, hin⟩)
    rw [State.armSq_state, ha, ite_self]
  · exact List.foldlRecOn (motive := fun a : State => a.tm = s.tm ∧ a.clk = s.clk ∧ a.sel = s.sel) _ _ ⟨rfl, rfl, rfl⟩ fun _ ha _ _ => ha

/-- The heat has been armed: its state, its sequencers, and the start tick. -/
structure Armed (s t : State) : Prop where
  heat : t.fld F.SEQ_STAT_HEAT = 2
  run : t.fld F.SEQ_STAT_RUN_MASK = s.fld F.SEQ_STAT_HEAT_MASK
  sqs : ∀ n : Fin 8, s.inHeat n.val = true → t.sqState n.val = sqArmed
  waits : t.tm.startWait = decide (s.fld F.SEQ_CTRL_START_SRC = 0)
  at' : t.tm.startAt = s.startTickOf (s.fld F.SEQ_CTRL_START_SRC)

theorem State.heatArmed_stat (s : State) : s.heatArmed.fld F.SEQ_STAT_HEAT = 2 ∧ s.heatArmed.fld F.SEQ_STAT_RUN_MASK = s.fld F.SEQ_STAT_HEAT_MASK ∧
    ∀ n : Fin 8, s.inHeat n.val = true → s.heatArmed.sqState n.val = sqArmed := by
  obtain ⟨hsqs, hleft, -⟩ := s.armSqs
  refine ⟨(State.put_fld_apart (by decide)).trans (State.put_fld_self (by decide)), ?_, fun n hin => ?_⟩
  · unfold State.heatArmed
    rw [State.put_fld_self (by decide), hleft _ (by decide +kernel)]
    exact Nat.mod_eq_of_lt (getBits_lt _ _ _)
  · have hne : 0x20100 + 0x40 * n.val ≠ 0x20004 := by omega
    exact (State.put_fld_apart (apart_of_ne hne)).trans ((State.put_fld_apart (apart_of_ne hne)).trans (hsqs n.val hin n.isLt))

theorem State.heatArmed_startTickOf (s : State) (src : Nat) : s.heatArmed.startTickOf src = s.startTickOf src := by
  obtain ⟨-, hleft, htm, hclk, hsel⟩ := s.armSqs
  have halign : s.heatArmed.fld F.TB_STAT_TB_ALIGN = s.fld F.TB_STAT_TB_ALIGN :=
    (State.put_fld_apart (by decide)).trans ((State.put_fld_apart (by decide)).trans (hleft _ (by decide +kernel)))
  have htm : s.heatArmed.tm = s.tm := htm
  have hclk : s.heatArmed.clk = s.clk := hclk
  have hsel : s.heatArmed.getSel 0x0800 = s.getSel 0x0800 := by
    show (Sp.get _ (s.heatSqs.foldl State.armSq s).sel _).toNat = _
    rw [hsel]
    rfl
  unfold State.startTickOf
  rw [halign, htm, hclk, hsel]

theorem State.startAccept_armed (s : State) : Armed s s.startAccept := by
  obtain ⟨hheat, hrun, hsqs⟩ := s.heatArmed_stat
  obtain ⟨hleft, htm⟩ : Calm seqFld (s.heatArmed.setStart (s.fld F.SEQ_CTRL_START_SRC)) s.startAccept := Calm.scheduled
  have hset : ∀ (a : State) src (f : Fld), (a.setStart src).fld f = a.fld f := fun _ _ _ => rfl
  exact {
    heat := (hleft _ (by decide)).trans ((hset _ _ _).trans hheat)
    run := (hleft _ (by decide)).trans ((hset _ _ _).trans hrun)
    sqs := fun n hin => (hleft _ ((by decide : ∀ m : Fin 8, seqFld (F.SQ_STAT_STATE m.val) = true) n)).trans ((hset _ _ _).trans (hsqs n hin))
    waits := by
      rw [htm]
      rfl
    at' := by
      rw [htm, ← s.heatArmed_startTickOf]
      rfl }

/-- An accepted START arms the heat (R87). -/
theorem start_arms {w : Word} {p : Bool} (ho : s.orders F.SEQ_CTRL_START [0, 1, 2, 3] w p = true)
    (hu : u = s.seqSet [wrAcc 0x20000 (setBits 0 1 1 w) p] (setBits 0 1 1 w)) (hcheck : u.startCheck = stOk) :
    Does (.start w p) s fun t => Armed u t ∧ t.fld F.SEQ_CTRL_STATUS = stOk := by
  obtain ⟨d, hrow⟩ := seq_row (i := .start w p) rfl rfl ho
  rw [← hu] at hrow
  have hcmd : u.startCmd = u.startAccept.seqStatus stOk := if_pos hcheck
  obtain ⟨hheat, hrun, hsqs, hwait, hat⟩ := u.startAccept_armed
  generalize u.startAccept = y at hcmd hheat hrun hsqs hwait hat
  refine ⟨y.seqDone stOk d, hrow.trans ?_, ⟨?_, ?_, fun n hin => ?_, ?_, ?_⟩, y.seqDone_status d⟩
  · rw [show seqRun F.SEQ_CTRL_START.lo u = u.startCmd from rfl, hcmd]
    rfl
  · rw [State.seqDone_fld (by decide), hheat]
  · rw [State.seqDone_fld (by decide), hrun]
  · have hne : (F.SQ_STAT_STATE n.val).a ≠ 0x20000 := by
      show 0x20100 + 0x40 * n.val ≠ 0x20000
      omega
    exact (State.seqDone_fld hne).trans (hsqs n hin)
  · rw [State.seqDone_tm, hwait]
  · rw [State.seqDone_tm, hat]

end
end Sys2Proof.Machine
end

section
/-! SUPPORT. The start entries of a sequencing block that is not buffered: no strobe changes them (R284, R285). -/

namespace Sys2Proof.Machine

/-- CFG_MODE and the START_ENTRY registers of the sequencing block. -/
def startReg (a : Nat) : Bool := decide (a = 0x2003C) || (List.range 8).any (fun n => decide (a = 0x2011C + 0x40 * n))

/-- Where the sequencing block is not buffered, it stays so, with the start entries. -/
def Unbuf (s t : State) : Prop := s.fld F.SEQ_CFG_MODE_BUFFERED = 0 → ∀ a, startReg a = true → t.rd a = s.rd a

section
variable {s t u : State} {a k n : Nat}

theorem startReg_bounds (h : startReg a = true) : a = 0x2003C ∨ ∃ n < 8, a = 0x2011C + 0x40 * n := by
  simp only [startReg, Bool.or_eq_true, decide_eq_true_eq, List.any_eq_true, List.mem_range] at h
  exact h

theorem Unbuf.refl (s : State) : Unbuf s s := fun _ _ _ => rfl

theorem Unbuf.mode (h : Unbuf s t) (h0 : s.fld F.SEQ_CFG_MODE_BUFFERED = 0) : t.fld F.SEQ_CFG_MODE_BUFFERED = 0 :=
  (congrArg (getBits _ _) (h h0 _ (by decide))).trans h0

theorem Unbuf.trans (h : Unbuf s t) (g : Unbuf t u) : Unbuf s u := fun h0 a ha => (g (h.mode h0) a ha).trans (h h0 a ha)

theorem Unbuf.ite {c : Prop} [Decidable c] (h : Unbuf s t) (g : Unbuf s u) : Unbuf s (if c then t else u) := by
  split
  · exact h
  · exact g

theorem Unbuf.foldl {α : Type} {l : List α} {f : State → α → State} (h : ∀ t, ∀ x ∈ l, Unbuf t (f t x)) : Unbuf s (l.foldl f s) :=
  List.foldlRecOn (motive := fun t => Unbuf s t) l f (Unbuf.refl s) fun t ht x hx => ht.trans (h t x hx)

/-- A change that leaves these registers, buffered or not. -/
theorem Unbuf.rd (h : ∀ a, startReg a = true → t.rd a = s.rd a) : Unbuf s t := fun _ => h

theorem Unbuf.frame (h : t.regs = s.regs := by rfl) : Unbuf s t := Unbuf.rd fun a _ => State.rd_of_regs h a

theorem Unbuf.wr {v : Word} (h : startReg a = false) : Unbuf s (s.wr a v) :=
  Unbuf.rd fun b hb => State.wr_rd_ne fun e => by rw [e, h] at hb; cases hb

theorem Unbuf.put {f : Fld} {v : Nat} (h : startReg f.a = false) : Unbuf s (s.put f v) := Unbuf.wr h

theorem Unbuf.copyShadow (h : startReg a = false) : Unbuf s (s.copyShadow k a) := by
  unfold State.copyShadow
  split
  · exact Unbuf.refl s
  · exact (Unbuf.wr h).trans (Unbuf.ite Unbuf.frame (Unbuf.refl _))

/-- The start entries are buffered by the sequencing block's own mode alone. -/
theorem startReg_bufAll : ∀ b ∈ bufAll, b.mode = 0x2003C ∨ ∀ a ∈ b.addrs, startReg a = false := by decide +kernel

theorem Unbuf.copyInst {b : BufInst} (h : b ∈ bufAll) : Unbuf s (s.copyInst k b) := by
  unfold State.copyInst
  split
  · next hon =>
    rcases startReg_bufAll b h with hmode | hfar
    · rw [hmode] at hon
      exact fun h0 => absurd (hon.symm.trans h0) (by decide)
    · exact Unbuf.foldl fun _ a ha => Unbuf.copyShadow (hfar a ha)
  · exact Unbuf.refl s

theorem Unbuf.retrim {old : State} : Unbuf s (s.retrim old k) := by
  have hmove : ∀ (t : State) j, Unbuf t (t.moveDelay old j k) := fun t j => Unbuf.ite Unbuf.frame (Unbuf.ite Unbuf.frame (Unbuf.refl t))
  exact Unbuf.foldl fun t j _ => Unbuf.ite (Unbuf.refl t) (Unbuf.ite ((hmove t j).trans (Unbuf.put rfl)) (hmove t j))

theorem Unbuf.strobe {g : Nat} : Unbuf s (s.strobe k g) := by
  unfold State.strobe
  extract_lets s1 s2 s3
  have h1 : Unbuf s s1 :=
    Unbuf.ite ((Unbuf.foldl fun _ _ hb => Unbuf.copyInst (bufGroup0_mem hb)).trans Unbuf.retrim) (Unbuf.refl s)
  have h2 : Unbuf s1 s2 := Unbuf.foldl fun t m hm =>
    have hcopy : Unbuf t (t.copyInst k (bufFc m)) := Unbuf.copyInst (bufFc_mem (List.mem_range.1 hm))
    Unbuf.ite (Unbuf.ite (hcopy.trans Unbuf.frame) hcopy) (Unbuf.refl t)
  have h3 : Unbuf s2 s3 := Unbuf.foldl fun t m hm => Unbuf.ite (Unbuf.copyInst (bufVb_mem (List.mem_range.1 hm))) (Unbuf.refl t)
  exact ((h1.trans h2).trans h3).trans (Unbuf.ite (Unbuf.copyInst bufCapt_mem) (Unbuf.refl s3))

theorem Unbuf.prepOuts {e o : Nat} : Unbuf s (s.prepOuts n e o) :=
  Unbuf.trans (Unbuf.foldl fun _ _ _ => Unbuf.strobe) (Unbuf.ite (Unbuf.foldl fun _ _ _ => Unbuf.frame) (Unbuf.refl _))

theorem Unbuf.prepVisit {e o : Nat} : Unbuf s (s.prepVisit n e o) :=
  Unbuf.prepOuts.trans (Unbuf.ite (Unbuf.refl _) (Unbuf.ite (Unbuf.refl _) Unbuf.frame))

theorem Unbuf.holdPreps : Unbuf s s.holdPreps := by
  have hprep : ∀ (t : State) m, Unbuf t (t.holdPrep m) := fun t m => by
    unfold State.holdPrep
    dsimp only
    split
    · exact Unbuf.ite (Unbuf.refl t) (Unbuf.trans Unbuf.frame Unbuf.prepOuts)
    · exact Unbuf.refl t
  exact Unbuf.ite (Unbuf.foldl fun t m _ => hprep t m) (Unbuf.refl s)

theorem outReg_of_startReg (h : startReg a = true) : outReg a = false := by
  have hb := startReg_bounds h
  simp only [outReg, Bool.and_eq_false_iff, decide_eq_false_iff_not]
  omega

/-- Time leaves the start entries of a block that is not buffered. -/
theorem Unbuf.passTo : Unbuf s (s.passTo k) := by
  have hlate : Unbuf s s.lateNotes := Unbuf.frame s.lateNotes_regs
  have htick : Unbuf s.lateNotes (s.lateNotes.toTick k) := Unbuf.frame (State.toTick_regs _ _)
  have hlink : Unbuf (s.lateNotes.toTick k) ((s.lateNotes.toTick k).linkTime (k - s.tm.tb) s.tm.heat) := Unbuf.frame (State.linkTime_regs _ _ _)
  exact (((hlate.trans htick).trans hlink).trans Unbuf.holdPreps).trans (Unbuf.rd fun a ha => Woken.fineNow.rd a (outReg_of_startReg ha))

theorem evRegs_of_startReg (h : startReg a = true) : a ∉ evRegs := fun hm =>
  Bool.false_ne_true (((by decide : ∀ b ∈ evRegs, startReg b = false) a hm).symm.trans h)

theorem Unbuf.event {r : Rec} : Unbuf s (s.event r) := Unbuf.rd fun _ ha => State.event_rd (evRegs_of_startReg ha)

end
end Sys2Proof.Machine
end

section
/-! SUPPORT. Records of one tick in the order of their sources (R127, R291): a record of a source that none exceeds is the last. -/

namespace Sys2Proof.Machine

section
variable {s t : State} {n c k : Nat} {r : Rec}

theorem State.evEnter_q (s : State) (r : Rec) : ∃ l, (s.evEnter r).q =
    { s.q with evq := { s.q.evq with recs := s.q.evq.recs ++ [r] }, evLast := l } := by
  have henter : (s.enter 8 r).q = { s.q with evq := { s.q.evq with recs := s.q.evq.recs ++ [r] } } := by
    unfold State.enter
    dsimp only
    split <;> rfl
  have hkept : (s.evEnter r).q = { (s.enter 8 r).q with evLast := (r :: (s.enter 8 r).q.evLast).take 4 } := rfl
  exact ⟨(r :: s.q.evLast).take 4, by rw [hkept, henter]⟩

/-- EVQ takes a record at once, before the last `k`. -/
theorem State.evPlace_q (k : Nat) (r : Rec) (hhold : s.q.evHold = []) (hfull : s.qFull 8 = false) (hup : bitOf s.q.upset 8 = false) :
    ∃ l, (s.evPlace k r).q = { s.q with evq := { s.q.evq with recs := insertBack k r s.q.evq.recs }, evLast := l } := by
  obtain ⟨l, hl⟩ := s.evEnter_q r
  refine ⟨(s.q.evLast.take k ++ r :: s.q.evLast.drop k).take 4, ?_⟩
  unfold State.evPlace State.ptrCheck
  rw [if_pos (by rw [hhold, hfull]; rfl)]
  dsimp only
  rw [hl, if_neg (by rw [hup]; decide)]

/-- What EVQ needs to take `c` records of sources up to `n`, each at once, so that none of a higher source stands behind. -/
structure EvReady (n c : Nat) (s : State) : Prop where
  hold : s.q.evHold = []
  drop : s.q.evDrop = 0
  upset : bitOf s.q.upset 8 = false
  space : s.level 8 + c ≤ 4096
  behind : s.evBehind n = 0

theorem EvReady.congr (h : EvReady n c s) (hq : t.q = s.q) (ht : t.tm.tb = s.tm.tb) : EvReady n c t where
  hold := by rw [hq, h.hold]
  drop := by rw [hq, h.drop]
  upset := by rw [hq, h.upset]
  space := by
    show t.q.evq.recs.length + c ≤ 4096
    rw [hq]
    exact h.space
  behind := by
    have hb := h.behind
    unfold State.evBehind at hb ⊢
    rw [hq, ht]
    exact hb

theorem EvReady.notFull (h : EvReady n (c + 1) s) : s.qFull 8 = false := by
  have := h.space
  exact decide_eq_false (by show ¬ 4096 ≤ s.level 8; omega)

theorem EvReady.room (h : EvReady n (c + 1) s) : s.evRoom n = true := by
  rw [State.evRoom, h.hold, h.notFull, h.drop, h.behind, h.upset]
  rfl

theorem EvReady.event_q (h : EvReady n (c + 1) s) (r : Rec) : ∃ l x, (s.event r).q = { s.q with
    evq := { s.q.evq with recs := insertBack (s.evBehind (evSource r)) r s.q.evq.recs }, evLast := l, evSrcs := x, evTb := s.tm.tb } := by
  have hlost : s.evLost = s := by
    unfold State.evLost
    rw [h.drop]
    rfl
  unfold State.event
  rw [hlost]
  dsimp only
  rw [if_pos (by simp [State.evSpace, h.hold, h.notFull, h.drop]), State.evPut]
  obtain ⟨l, hl⟩ := State.evPlace_q (s := { s with q := { s.q with
    evSrcs := evSource r :: (if s.q.evTb = s.tm.tb then s.q.evSrcs else []), evTb := s.tm.tb } }) (s.evBehind (evSource r)) r h.hold h.notFull h.upset
  exact ⟨l, _, hl⟩

/-- Behind a record whose source none exceeds there stands none, as long as the last record's source is not higher. -/
theorem State.evBehind_of_last (hhold : s.q.evHold = []) (h : ∀ x ∈ s.q.evq.recs.getLast?, evSource x ≤ n) : s.evBehind n = 0 := by
  unfold State.evBehind
  rw [hhold, List.append_nil]
  dsimp only
  split
  · generalize min s.q.evSrcs.length _ = m
    cases hr : s.q.evq.recs.reverse with
    | nil => simp
    | cons x l =>
      have hx : evSource x ≤ n := h x (by rw [← List.head?_reverse, hr]; rfl)
      cases m with
      | zero => rfl
      | succ m => simp [hx]
  · rfl

/-- Where records of higher sources than `j` stand behind, but none of higher than `n`, the last record's source is at most `n`. -/
theorem State.last_of_evBehind {j : Nat} (hhold : s.q.evHold = []) (hn : s.evBehind n = 0) (hj : s.evBehind j ≠ 0) :
    ∀ x ∈ s.q.evq.recs.getLast?, evSource x ≤ n := by
  intro x hx
  rw [← List.head?_reverse] at hx
  unfold State.evBehind at hn hj
  rw [hhold, List.append_nil] at hn hj
  dsimp only at hn hj
  split at hj
  · next htb =>
    rw [if_pos htb] at hn
    generalize min s.q.evSrcs.length _ = m at hn hj
    cases hr : s.q.evq.recs.reverse with
    | nil => rw [hr] at hx; cases hx
    | cons y l =>
      rw [hr] at hx hn hj
      obtain rfl : y = x := Option.some.inj hx
      cases m with
      | zero => exact absurd rfl hj
      | succ m =>
        by_contra hlt
        simp [Nat.lt_of_not_le hlt] at hn
  · exact absurd rfl hj

theorem insertBack_last {α : Type} {k : Nat} (hk : k ≠ 0) (r : α) {l : List α} (hl : k ≤ l.length) :
    (insertBack k r l).getLast? = l.getLast? := by
  have htail : (l.drop (l.length - k)).getLast? = l.getLast? := by
    rw [List.getLast?_drop, if_neg (by omega)]
  unfold insertBack
  rw [List.getLast?_append, List.getLast?_cons, htail]
  cases hlast : l.getLast? with
  | none =>
    rw [List.getLast?_eq_none_iff] at hlast
    subst hlast
    exact absurd (Nat.le_zero.1 hl) hk
  | some x => rfl

theorem insertBack_length {α : Type} (k : Nat) (r : α) (l : List α) : (insertBack k r l).length = l.length + 1 := by
  simp only [insertBack, List.length_append, List.length_take, List.length_cons, List.length_drop]
  omega

theorem State.evBehind_le (hhold : s.q.evHold = []) (j : Nat) : s.evBehind j ≤ s.q.evq.recs.length := by
  unfold State.evBehind
  rw [hhold, List.append_nil]
  dsimp only
  split
  · refine (List.takeWhile_sublist _).length_le.trans ?_
    rw [List.length_take, List.length_reverse]
    exact Nat.min_le_right _ _
  · exact Nat.zero_le _

/-- A record of a source up to `n` enters, and none of a higher source stands behind. -/
theorem EvReady.event (h : EvReady n (c + 1) s) (hr : evSource r ≤ n) : EvReady n c (s.event r) := by
  obtain ⟨l, x, hq⟩ := h.event_q r
  have hhold : (s.event r).q.evHold = [] := by rw [hq]; exact h.hold
  refine ⟨hhold, by rw [hq]; exact h.drop, by rw [hq]; exact h.upset, ?_, State.evBehind_of_last hhold ?_⟩
  · have := h.space
    show (s.event r).q.evq.recs.length + c ≤ 4096
    rw [hq]
    show (insertBack _ r s.q.evq.recs).length + c ≤ 4096
    rw [insertBack_length]
    show s.level 8 + 1 + c ≤ 4096
    omega
  · rw [hq]
    show ∀ x ∈ (insertBack _ r s.q.evq.recs).getLast?, evSource x ≤ n
    by_cases hk : s.evBehind (evSource r) = 0
    · rw [hk, insertBack_zero, List.getLast?_concat]
      intro x hx
      rw [← Option.some.inj hx]
      exact hr
    · rw [insertBack_last hk r (State.evBehind_le h.hold _)]
      exact State.last_of_evBehind h.hold h.behind hk

end
end Sys2Proof.Machine
end

section
/-! SUPPORT. The start tick (R84, R89): the heat runs from heat tick 0, and its sequencers enter their start entries. -/

namespace Sys2Proof.Machine

section
variable {s t u : State} {n m e x : Nat}

/-! ### A sequencer enters its start entry -/

/-- A sequencer's registers as the heat starts: latches and count of extensions clear, RUNNING. -/
def State.startRegs (t : State) (n : Nat) : State :=
  (((t.wr (F.SQ_LATCH_LO_LATCH n).a 0).wr (F.SQ_LATCH_HI_LATCH n).a 0).put (F.SQ_POS_EXT n) 0).put (F.SQ_STAT_STATE n) sqRunning

/-- A sequencer's record as the heat starts: it has decided its start entry `e`, here with the profile load of `x`. -/
def State.startPrep (t : State) (n e : Nat) (x : Entry) : State :=
  let s5 := ((t.setSq n { resident := (t.sqn n).resident }).clearSw n).prepVisit n e 48
  let s6 := (s5.ncoLanes n).foldl (fun t c =>
    let f := t.fcn c
    if x.profEn then t.setFc c { f with sw := f.sw.map (fun w => if w.kind = 0 then { w with kind := 3 } else w) }
    else t.addSw c (t.mkSw c 4 48 0 0)) s5
  s6.addDec n ⟨48, .visit e false⟩

/-- What leaves registers but those of a strobe, the time, the queues, the selectors, and every other sequencer's record. -/
structure Prepares (n : Nat) (s t : State) : Prop where
  rd : ∀ a, strobeReg a = false → t.rd a = s.rd a
  unbuf : Unbuf s t
  tm : t.tm = s.tm
  q : t.q = s.q
  sel : t.sel = s.sel
  others : ∀ m, m ≠ n → t.sqn m = s.sqn m

theorem Prepares.refl (n : Nat) (s : State) : Prepares n s s := ⟨fun _ _ => rfl, Unbuf.refl s, rfl, rfl, rfl, fun _ _ => rfl⟩

theorem Prepares.trans (h : Prepares n s t) (g : Prepares n t u) : Prepares n s u where
  rd := fun a ha => (g.rd a ha).trans (h.rd a ha)
  unbuf := h.unbuf.trans g.unbuf
  tm := g.tm.trans h.tm
  q := g.q.trans h.q
  sel := g.sel.trans h.sel
  others := fun m hm => (g.others m hm).trans (h.others m hm)

/-- A change of channels alone. -/
theorem Prepares.fcs {f : Sp Fc} : Prepares n s { s with fc := f } := ⟨fun _ _ => rfl, Unbuf.frame, rfl, rfl, rfl, fun _ _ => rfl⟩

/-- A change of the sequencer's own record alone. -/
theorem Prepares.setSq {q : Sq} : Prepares n s (s.setSq n q) :=
  ⟨fun _ _ => rfl, Unbuf.frame, rfl, rfl, rfl, fun _ hm => State.setSq_sqn_ne hm⟩

theorem Prepares.foldl {α : Type} {l : List α} {f : State → α → State} (h : ∀ t, ∀ x ∈ l, Prepares n t (f t x)) :
    Prepares n s (l.foldl f s) :=
  List.foldlRecOn (motive := fun t => Prepares n s t) l f (Prepares.refl n s) fun t ht x hx => ht.trans (h t x hx)

theorem Prepares.prepVisit {o : Nat} : Prepares n s (s.prepVisit n e o) := by
  have houts : Prepares n s (s.prepOuts n e o) :=
    have hpass : PassOnly s (s.prepOuts n e o) := PassOnly.prepOuts
    have hstrobe : Strobed s (s.prepOuts n e o) := Strobed.prepOuts
    ⟨hstrobe.rd, Unbuf.prepOuts, (Noted.prepOuts s n e o).tm, hpass.q, hpass.sel, fun m _ => State.sqn_congr hstrobe.sq m⟩
  have hgroup : ∀ t : State, Prepares n t (t.prepGroup n e) := fun t => by
    unfold State.prepGroup State.stageLoad
    split
    · exact Prepares.refl n t
    · split
      · exact Prepares.refl n t
      · exact Prepares.setSq
  exact houts.trans (hgroup _)

theorem State.prepVisit_next (s : State) (n e o : Nat) : ((s.prepVisit n e o).sqn n).next = (s.sqn n).next := by
  have hgroup : ∀ t : State, ((t.prepGroup n e).sqn n).next = (t.sqn n).next := fun t => by
    unfold State.prepGroup State.stageLoad
    split
    · rfl
    · split
      · rfl
      · dsimp only
        rw [State.setSq_sqn_self]
  unfold State.prepVisit
  rw [hgroup, State.sqn_congr Strobed.prepOuts.sq]

theorem State.clearSw_sq (s : State) (n : Nat) : (s.clearSw n).sq = s.sq :=
  List.foldlRecOn (motive := fun t : State => t.sq = s.sq) _ _ rfl fun _ ht _ _ => ht

/-- The sequencer has decided its start entry for output tick 48, and nothing else (R89). -/
theorem State.startPrep_prepares (t : State) (n e : Nat) (x : Entry) : Prepares n t (t.startPrep n e x) ∧
    ((t.startPrep n e x).sqn n).next = [⟨48, .visit e false⟩] := by
  unfold State.startPrep
  extract_lets s5 s6
  have h5 : Prepares n t s5 :=
    ((Prepares.setSq (s := t)).trans (Prepares.foldl fun _ _ _ => Prepares.fcs)).trans Prepares.prepVisit
  have hnext : (s5.sqn n).next = [] := by
    unfold s5
    rw [State.prepVisit_next, State.sqn_congr (State.clearSw_sq _ n), State.setSq_sqn_self]
  have h6 : Prepares n s5 s6 ∧ s6.sq = s5.sq :=
    List.foldlRecOn (motive := fun a : State => Prepares n s5 a ∧ a.sq = s5.sq) _ _ ⟨Prepares.refl n s5, rfl⟩ fun a ⟨ha, hsq⟩ c _ => by
      dsimp only
      split
      · exact ⟨ha.trans Prepares.fcs, hsq⟩
      · exact ⟨ha.trans Prepares.fcs, hsq⟩
  refine ⟨(h5.trans h6.1).trans Prepares.setSq, ?_⟩
  rw [State.addDec, State.setSq_sqn_self]
  dsimp only
  rw [State.sqn_congr h6.2, hnext]
  rfl

/-- The sequencer is ready to enter its start entry. -/
def State.entering (t : State) (n : Nat) : State :=
  (t.startRegs n).startPrep n (t.fld (F.SQ_START_ENTRY n)) (t.entry n (t.fld (F.SQ_START_ENTRY n)))

theorem State.enterStart_eq (t : State) (n : Nat) : t.enterStart n =
    (t.entering n).sqRec n 0x01 (t.fld (F.SQ_START_ENTRY n) + 2 ^ 16 * (t.entering n).tm.startSrc) 0 := rfl

/-- The registers in which a sequencer enters its start entry. -/
def ownStart (n a : Nat) : Bool :=
  decide (a = 0x20110 + 0x40 * n) || decide (a = 0x20114 + 0x40 * n) || decide (a = 0x20104 + 0x40 * n) || decide (a = 0x20100 + 0x40 * n)

theorem ownStart_ne {a : Nat} (h : ownStart n a = false) :
    a ≠ 0x20110 + 0x40 * n ∧ a ≠ 0x20114 + 0x40 * n ∧ a ≠ 0x20104 + 0x40 * n ∧ a ≠ 0x20100 + 0x40 * n := by
  simpa only [ownStart, Bool.or_eq_false_iff, decide_eq_false_iff_not, and_assoc] using h

theorem State.startRegs_rd {a : Nat} (h : ownStart n a = false) : (t.startRegs n).rd a = t.rd a := by
  obtain ⟨hlow, hhigh, hpos, hstat⟩ := ownStart_ne h
  unfold State.startRegs
  rw [State.put_rd_ne hstat, State.put_rd_ne hpos, State.wr_rd_ne hhigh, State.wr_rd_ne hlow]

/-- Entering touches registers of a strobe, of records, and the sequencer's own. -/
theorem State.enterStart_rd {a : Nat} (hs : strobeReg a = false) (he : a ∉ evRegs) (h : ownStart n a = false) :
    (t.enterStart n).rd a = t.rd a := by
  rw [State.enterStart_eq, State.sqRec, State.event_rd he, State.entering, (State.startPrep_prepares _ n _ _).1.rd a hs, State.startRegs_rd h]

theorem State.entering_frame (t : State) (n : Nat) : (t.entering n).tm = t.tm ∧ (t.entering n).q = t.q ∧ (t.entering n).sel = t.sel ∧
    (∀ m, m ≠ n → (t.entering n).sqn m = t.sqn m) ∧ ((t.entering n).sqn n).next = [⟨48, .visit (t.fld (F.SQ_START_ENTRY n)) false⟩] := by
  obtain ⟨⟨-, -, htm, hq, hsel, hothers⟩, hnext⟩ :=
    (t.startRegs n).startPrep_prepares n (t.fld (F.SQ_START_ENTRY n)) (t.entry n (t.fld (F.SQ_START_ENTRY n)))
  exact ⟨htm, hq, hsel, hothers, hnext⟩

theorem ownStart_of_startReg {a : Nat} (h : startReg a = true) : ownStart n a = false := by
  simp only [ownStart, Bool.or_eq_false_iff, decide_eq_false_iff_not]
  rcases startReg_bounds h with hb | ⟨m, -, hb⟩ <;> omega

theorem Unbuf.enterStart : Unbuf t (t.enterStart n) := by
  have hregs : Unbuf t (t.startRegs n) := Unbuf.rd fun a ha => State.startRegs_rd (ownStart_of_startReg ha)
  rw [State.enterStart_eq]
  exact (hregs.trans (State.startPrep_prepares _ n _ _).1.unbuf).trans Unbuf.event

theorem State.enterStart_tm (t : State) (n : Nat) : (t.enterStart n).tm = t.tm := by
  rw [State.enterStart_eq, State.sqRec, State.event_tm, (t.entering_frame n).1]

theorem State.enterStart_sel (t : State) (n : Nat) : (t.enterStart n).sel = t.sel := by
  rw [State.enterStart_eq, State.sqRec, (Noted.event _ _).sel, (t.entering_frame n).2.2.1]

theorem Leaves.enterStart (hn : n < 8) {f : Fld} (hf : visitFld f = true) : (t.enterStart n).fld f = t.fld f := by
  have hsteady := steady_of_visitFld hf
  obtain ⟨-, -, -, -, hlow, hhigh⟩ := steadySq_parts hsteady hn
  obtain ⟨hstat, hpos⟩ := visitFld_ne hf hn
  refine congrArg (getBits f.lo f.w) (State.enterStart_rd (strobeReg_of_steady hsteady) (evRegs_of_steady hsteady) ?_)
  simp only [ownStart, Bool.or_eq_false_iff, decide_eq_false_iff_not]
  exact ⟨⟨⟨hlow, hhigh⟩, hpos⟩, hstat⟩

/-- The sequencer runs from its start entry: state, latches and count of extensions (R89). -/
def State.Enters (t : State) (n : Nat) : Prop :=
  t.sqState n = sqRunning ∧ t.rd (F.SQ_LATCH_LO_LATCH n).a = 0 ∧ t.rd (F.SQ_LATCH_HI_LATCH n).a = 0 ∧ t.fld (F.SQ_POS_EXT n) = 0

theorem sqRegs_apart (n : Fin 8) : ∀ a ∈ [0x20100 + 0x40 * n.val, 0x20104 + 0x40 * n.val, 0x20110 + 0x40 * n.val, 0x20114 + 0x40 * n.val],
    strobeReg a = false ∧ a ∉ evRegs := by
  have hev : ∀ m : Fin 8, ∀ a ∈ [0x20100 + 0x40 * m.val, 0x20104 + 0x40 * m.val, 0x20110 + 0x40 * m.val, 0x20114 + 0x40 * m.val],
      (0x20100 ≤ a ∧ a < 0x20300 ∧ a % 64 < 24) ∧ a ∉ evRegs := by decide +kernel
  intro a ha
  obtain ⟨⟨hlo, hhi, h24⟩, hout⟩ := hev n a ha
  exact ⟨strobeReg_of_timeReg (timeReg_seq hlo hhi h24), hout⟩

theorem State.startRegs_enters (t : State) (n : Nat) : (t.startRegs n).Enters n := by
  have h1 : 0x20104 + 0x40 * n ≠ 0x20100 + 0x40 * n := by omega
  have h2 : 0x20110 + 0x40 * n ≠ 0x20100 + 0x40 * n := by omega
  have h3 : 0x20110 + 0x40 * n ≠ 0x20104 + 0x40 * n := by omega
  have h4 : 0x20114 + 0x40 * n ≠ 0x20100 + 0x40 * n := by omega
  have h5 : 0x20114 + 0x40 * n ≠ 0x20104 + 0x40 * n := by omega
  have h6 : 0x20110 + 0x40 * n ≠ 0x20114 + 0x40 * n := by omega
  refine ⟨State.put_fld_self (by show 0 + 3 ≤ 32; decide), ?_, ?_, ?_⟩
  · exact (State.put_rd_ne h2).trans ((State.put_rd_ne h3).trans ((State.wr_rd_ne h6).trans (State.wr_rd_self _ _ _)))
  · exact (State.put_rd_ne h4).trans ((State.put_rd_ne h5).trans (State.wr_rd_self _ _ _))
  · exact (State.put_fld_apart (apart_of_ne h1)).trans (State.put_fld_self (by show 24 + 8 ≤ 32; decide))

/-- What stands of the four registers stands of what they say. -/
theorem State.Enters.congr (h : s.Enters n)
    (hrd : ∀ a ∈ [0x20100 + 0x40 * n, 0x20104 + 0x40 * n, 0x20110 + 0x40 * n, 0x20114 + 0x40 * n], t.rd a = s.rd a) : t.Enters n := by
  obtain ⟨hstate, hlow, hhigh, hext⟩ := h
  have hfld : ∀ (f : Fld), f.a ∈ [0x20100 + 0x40 * n, 0x20104 + 0x40 * n, 0x20110 + 0x40 * n, 0x20114 + 0x40 * n] → t.fld f = s.fld f :=
    fun f hf => congrArg (getBits f.lo f.w) (hrd f.a hf)
  exact ⟨(hfld (F.SQ_STAT_STATE n) (by simp)).trans hstate, (hrd _ (by simp)).trans hlow, (hrd _ (by simp)).trans hhigh,
    (hfld (F.SQ_POS_EXT n) (by simp)).trans hext⟩

theorem State.enterStart_enters (t : State) (hn : n < 8) : (t.enterStart n).Enters n := by
  refine State.Enters.congr (t.startRegs_enters n) fun a ha => ?_
  obtain ⟨hs, he⟩ := sqRegs_apart ⟨n, hn⟩ a ha
  rw [State.enterStart_eq, State.sqRec, State.event_rd he, State.entering, (State.startPrep_prepares _ n _ _).1.rd a hs]

theorem State.Enters.other (h : t.Enters m) (hm : m < 8) (hne : m ≠ n) : (t.enterStart n).Enters m := by
  refine h.congr fun a ha => ?_
  obtain ⟨hs, he⟩ := sqRegs_apart ⟨m, hm⟩ a ha
  refine State.enterStart_rd hs he ?_
  simp only [List.mem_cons, List.not_mem_nil, or_false] at ha
  simp only [ownStart, Bool.or_eq_false_iff, decide_eq_false_iff_not]
  omega

theorem State.enterStart_next (t : State) (n : Nat) :
    ((t.enterStart n).sqn n).next = [⟨48, .visit (t.fld (F.SQ_START_ENTRY n)) false⟩] := by
  obtain ⟨-, -, -, -, hnext⟩ := t.entering_frame n
  rw [State.enterStart_eq, State.sqRec, State.sqn_congr (State.event_sq _ _), hnext]

theorem State.enterStart_other (hne : m ≠ n) : (t.enterStart n).sqn m = t.sqn m := by
  obtain ⟨-, -, -, hothers, -⟩ := t.entering_frame n
  rw [State.enterStart_eq, State.sqRec, State.sqn_congr (State.event_sq _ _), hothers m hne]

/-! ### The record of the start -/

theorem evSource_evRec {stamp code data : Nat} (h : n < 256) : evSource (evRec stamp n code data) = n := by
  simp only [evSource, evRec, List.getD_cons_succ, List.getD_cons_zero, BitVec.toNat_ofNat]
  omega

theorem EvReady.enterStart {c : Nat} (h : EvReady n (c + 1) t) (hm : m ≤ n) (hn : n < 8) : EvReady n c (t.enterStart m) := by
  obtain ⟨htm, hq, -⟩ := t.entering_frame m
  have hready : EvReady n (c + 1) (t.entering m) := h.congr hq (by rw [htm])
  rw [State.enterStart_eq]
  exact hready.event ((evSource_evRec (by omega)).trans_le hm)

theorem State.enterStart_lastRec {c : Nat} (h : EvReady n (c + 1) t) (hn : n < 8) (hheat : t.tm.heat = 0) : (t.enterStart n).lastRec 8 =
    some (evRec t.tm.tb n 0x01 (t.fld (F.SQ_START_ENTRY n) + 2 ^ 16 * t.tm.startSrc)) := by
  obtain ⟨htm, hq, -⟩ := t.entering_frame n
  have hready : EvReady n (c + 1) (t.entering n) := h.congr hq (by rw [htm])
  have htb : (t.entering n).tbOf 0 = t.tm.tb := by
    unfold State.tbOf
    rw [htm, hheat]
    rfl
  have hlast : ∀ u : State, u.lastRec 8 = u.q.evq.recs.getLast? := fun _ => rfl
  rw [State.enterStart_eq, State.sqRec, htb, htm, hlast]
  rw [State.event_room (by rw [evSource_evRec (by omega)]; exact hready.room), List.getLast?_concat]

end
end Sys2Proof.Machine
end

section
/-! SUPPORT. The heat's first tick (R89, R130): its sequencers enter in turn, and the record of the highest is the last. -/

namespace Sys2Proof.Machine

section
variable {s t : State} {n x : Nat}

/-! ### The sequencers of the heat -/

/-- The sequencers of the heat end with the highest. -/
theorem State.heatSqs_highest (hn : n < 8) (hin : s.inHeat n = true) (hmax : ∀ m : Fin 8, n < m.val → s.inHeat m.val = false) :
    s.heatSqs = (List.range n).filter (fun m => s.inHeat m) ++ [n] := by
  have hrange : List.range 8 = List.range n ++ [n] ++ (List.range (7 - n)).map (fun i => n + 1 + i) := by
    rw [← List.range_succ, ← List.range_add]
    congr 1
    omega
  have htop : ((List.range (7 - n)).map (fun i => n + 1 + i)).filter (fun m => s.inHeat m) = [] := by
    rw [List.filter_eq_nil_iff]
    intro m hm
    obtain ⟨i, hi, rfl⟩ := List.mem_map.1 hm
    have hi := List.mem_range.1 hi
    have hm : s.inHeat (n + 1 + i) = false := hmax ⟨n + 1 + i, by omega⟩ (by show n < n + 1 + i; omega)
    rw [hm]
    decide
  unfold State.heatSqs
  rw [hrange, List.filter_append, List.filter_append, htop, List.append_nil, List.filter_singleton, hin]
  rfl

theorem EvReady.fewer {c d : Nat} (h : EvReady n d s) (hle : c ≤ d) : EvReady n c s :=
  ⟨h.hold, h.drop, h.upset, Nat.le_trans (Nat.add_le_add_left hle _) h.space, h.behind⟩

theorem EvReady.enterStarts {c : Nat} {l : List Nat} (hn : n < 8) (hl : ∀ m ∈ l, m ≤ n) (h : EvReady n (c + l.length) s) :
    EvReady n c (l.foldl (fun u m => u.enterStart m) s) := by
  induction l generalizing s with
  | nil => exact h
  | cons m l ih =>
    rw [List.foldl_cons]
    exact ih (fun k hk => hl k (List.mem_cons_of_mem m hk)) (EvReady.enterStart (c := c + l.length) h (hl m List.mem_cons_self) hn)

/-- The sequencers of a heat enter their start entries, in turn. -/
def State.enterAll (s : State) : State := s.heatSqs.foldl (fun u n => u.enterStart n) s

theorem State.heatSqs_lt (h : n ∈ s.heatSqs) : n < 8 := (State.mem_heatSqs.1 h).1

theorem State.enterAll_frame (s : State) : s.enterAll.tm = s.tm ∧ s.enterAll.sel = s.sel ∧ ∀ f, visitFld f = true → s.enterAll.fld f = s.fld f :=
  List.foldlRecOn (motive := fun t : State => t.tm = s.tm ∧ t.sel = s.sel ∧ ∀ f, visitFld f = true → t.fld f = s.fld f) _ _
    ⟨rfl, rfl, fun _ _ => rfl⟩ fun t ⟨htm, hsel, hleft⟩ n hn =>
      ⟨(t.enterStart_tm n).trans htm, (t.enterStart_sel n).trans hsel, fun f hf => (Leaves.enterStart (State.heatSqs_lt hn) hf).trans (hleft f hf)⟩

theorem State.enterAll_enters (hn : n < 8) (hin : s.inHeat n = true) : s.enterAll.Enters n :=
  (foldl_establishes (I := fun _ => True) (P := fun m (t : State) => t.Enters m) trivial (fun _ _ _ _ => trivial)
    (fun t _ m hm => t.enterStart_enters (State.heatSqs_lt hm)) fun t _ m _ k hk h => by
      by_cases hkm : k = m
      · subst hkm
        exact t.enterStart_enters (State.heatSqs_lt hk)
      · exact h.other (State.heatSqs_lt hk) hkm).2 n (State.mem_heatSqs.2 ⟨hn, hin⟩)

theorem startReg_entry : ∀ n : Fin 8, startReg (F.SQ_START_ENTRY n.val).a = true := by decide

theorem Unbuf.entry (h : Unbuf s t) (h0 : s.fld F.SEQ_CFG_MODE_BUFFERED = 0) (hn : n < 8) :
    t.fld (F.SQ_START_ENTRY n) = s.fld (F.SQ_START_ENTRY n) := congrArg (getBits _ _) (h h0 _ (startReg_entry ⟨n, hn⟩))

/-- Where the sequencing block is not buffered, each sequencer has decided its start entry as it stands (R89). -/
theorem State.enterAll_next (h0 : s.fld F.SEQ_CFG_MODE_BUFFERED = 0) (hn : n < 8) (hin : s.inHeat n = true) :
    (s.enterAll.sqn n).next = [⟨48, .visit (s.fld (F.SQ_START_ENTRY n)) false⟩] := by
  have hown : ∀ (t : State) m, Unbuf s t → m < 8 → ((t.enterStart m).sqn m).next = [⟨48, .visit (s.fld (F.SQ_START_ENTRY m)) false⟩] :=
    fun t m ht hm => by rw [t.enterStart_next m, ht.entry h0 hm]
  exact (foldl_establishes (I := fun t => Unbuf s t)
    (P := fun m (t : State) => (t.sqn m).next = [⟨48, .visit (s.fld (F.SQ_START_ENTRY m)) false⟩]) (Unbuf.refl s)
    (fun t ht m _ => ht.trans Unbuf.enterStart) (fun t ht m hm => hown t m ht (State.heatSqs_lt hm)) fun t ht m _ k hk h => by
      by_cases hkm : k = m
      · subst hkm
        exact hown t k ht (State.heatSqs_lt hk)
      · rw [State.enterStart_other hkm]
        exact h).2 n (State.mem_heatSqs.2 ⟨hn, hin⟩)

/-- With room for them, the last record is that of the highest sequencer's START (R127, R130). -/
theorem State.enterAll_lastRec (h0 : s.fld F.SEQ_CFG_MODE_BUFFERED = 0) (hheat : s.tm.heat = 0) (hn : n < 8) (hin : s.inHeat n = true)
    (hmax : ∀ m : Fin 8, n < m.val → s.inHeat m.val = false) (hready : EvReady n 8 s) : s.enterAll.lastRec 8 =
    some (evRec s.tm.tb n 0x01 (s.fld (F.SQ_START_ENTRY n) + 2 ^ 16 * s.tm.startSrc)) := by
  have hlen : ((List.range n).filter (fun m => s.inHeat m)).length ≤ n := (List.length_filter_le _ _).trans_eq List.length_range
  have hle : ∀ m ∈ (List.range n).filter (fun m => s.inHeat m), m ≤ n := fun m hm => (List.mem_range.1 (List.mem_filter.1 hm).1).le
  unfold State.enterAll
  rw [State.heatSqs_highest hn hin hmax, List.foldl_append, List.foldl_cons, List.foldl_nil]
  generalize (List.range n).filter (fun m => s.inHeat m) = l at hlen hle
  have hafter : EvReady n 1 (l.foldl (fun u m => u.enterStart m) s) := EvReady.enterStarts hn hle (hready.fewer (by omega))
  have htm : (l.foldl (fun u m => u.enterStart m) s).tm = s.tm :=
    List.foldlRecOn (motive := fun t : State => t.tm = s.tm) _ _ rfl fun t ht m _ => (t.enterStart_tm m).trans ht
  have hunbuf : Unbuf s (l.foldl (fun u m => u.enterStart m) s) := Unbuf.foldl fun _ _ _ => Unbuf.enterStart
  have hlast := State.enterStart_lastRec (c := 0) hafter hn (by rw [htm, hheat])
  rw [htm, hunbuf.entry h0 hn] at hlast
  exact hlast

/-! ### The start tick -/

/-- The heat tick is 0, and no start tick waits. -/
def State.zeroed (s : State) : State :=
  { s with tm := { s.tm with startAt := none, heat := 0, past := [], conf := 511 }, was := [],
           plan := { s.plan with row := 0, asked := 0 } }

/-- Heat tick 0: the heat runs, and its start tick stands in the selector. -/
def State.tickZero (s : State) : State :=
  ((s.zeroed.captStart.setSel 0x0802 s.zeroed.captStart.tm.tb).put F.SEQ_STAT_HEAT 3).put F.PLAN_TL_FREE 0

theorem State.heatStart_eq (hat : s.tm.startAt = some x) (hstart : s.tm.starter = none) (hheat : s.fld F.SEQ_STAT_HEAT = 2)
    (hcount : s.fld F.TB_STAT_COUNTING = 1) : s.heatStart =
      let s4 := (s.passTo x).tickZero.enterAll
      if s4.role = roleFollower ∧ !s4.peerArmed then s4.abortHeat
      else if s4.role ≠ roleSingle ∧ s4.pair = pairPaired ∧ s4.peerArmed then s4.put F.MIR_STAT_PAIR pairLockstep
      else s4 := by
  have hcomes : s.comes x = true := by simp [State.comes, State.flag, hcount]
  have hstarts : ¬ (s.fld F.SEQ_STAT_HEAT ≠ 2 ∨ (!s.comes x) = true) := by
    rw [hheat, hcomes]
    decide
  have hno : (s.tm.starter.isSome && decide (s.tm.starter = s.tm.startAt) && s.flag F.TB_STAT_COUNTING) = false := by
    rw [hstart]
    rfl
  unfold State.heatStart
  rw [hno]
  rw [if_neg Bool.false_ne_true]
  dsimp only
  rw [hat]
  exact if_neg hstarts

theorem State.captStart_frame (s : State) : s.captStart.regs = s.regs ∧ s.captStart.tm = s.tm ∧ s.captStart.q = s.q ∧ s.captStart.sel = s.sel :=
  List.foldlRecOn (motive := fun t : State => t.regs = s.regs ∧ t.tm = s.tm ∧ t.q = s.q ∧ t.sel = s.sel) _ _ ⟨rfl, rfl, rfl, rfl⟩ fun _ ht _ _ => ht

/-- What stands at heat tick 0. -/
structure TickZero (s t : State) : Prop where
  tm : t.tm = { s.tm with startAt := none, heat := 0, past := [], conf := 511 }
  heat : t.fld F.SEQ_STAT_HEAT = 3
  free : t.fld F.PLAN_TL_FREE = 0
  sel : t.getSel 0x0802 = s.tm.tb % 2 ^ 64
  q : t.q = s.q
  mask : t.fld F.SEQ_STAT_HEAT_MASK = s.fld F.SEQ_STAT_HEAT_MASK
  rd : ∀ a, a ≠ 0x20004 → a ≠ 0x40018 → t.rd a = s.rd a

theorem State.tickZero_facts (s : State) : TickZero s s.tickZero := by
  obtain ⟨hregs, htm, hq, -⟩ := s.zeroed.captStart_frame
  unfold State.tickZero
  generalize s.zeroed.captStart = y at hregs htm hq
  have htb : y.tm.tb = s.tm.tb := by
    rw [htm]
    rfl
  have hrd : ∀ a, y.rd a = s.rd a := State.rd_of_regs hregs
  refine ⟨htm, (State.put_fld_apart (by decide)).trans (State.put_fld_self (by decide)), State.put_fld_self (by decide), ?_, hq, ?_,
    fun a h1 h2 => ?_⟩
  · rw [htb]
    exact State.setSel_getSel_self y 0x0802 s.tm.tb
  · exact (State.put_fld_apart (by decide)).trans ((State.put_fld_apart (by decide)).trans (congrArg (getBits _ _) (hrd _)))
  · exact (State.put_rd_ne h2).trans ((State.put_rd_ne h1).trans (hrd a))

/-- What the start tick `x` of a single device brings (R89). -/
theorem State.heatStart_single (hat : s.tm.startAt = some x) (hstart : s.tm.starter = none) (hheat : s.fld F.SEQ_STAT_HEAT = 2)
    (hcount : s.fld F.TB_STAT_COUNTING = 1) (hrole : s.role = roleSingle) : s.heatStart = (s.passTo x).tickZero.enterAll := by
  have hzero := (s.passTo x).tickZero_facts
  have hpass : Leaves steady s (s.passTo x) := Leaves.passTo
  have hsame : (s.passTo x).tickZero.enterAll.role = roleSingle := by
    have h1 : (s.passTo x).tickZero.enterAll.fld F.MIR_CTRL_ROLE = (s.passTo x).tickZero.fld F.MIR_CTRL_ROLE :=
      (State.enterAll_frame _).2.2 _ (by decide +kernel)
    have h2 : (s.passTo x).tickZero.fld F.MIR_CTRL_ROLE = (s.passTo x).fld F.MIR_CTRL_ROLE :=
      congrArg (getBits _ _) (hzero.rd _ (by decide) (by decide))
    exact (h1.trans (h2.trans (hpass _ (by decide +kernel)))).trans hrole
  rw [State.heatStart_eq hat hstart hheat hcount]
  dsimp only
  rw [hsame, if_neg (by rintro ⟨h, -⟩; cases h), if_neg (by rintro ⟨h, -⟩; exact h rfl)]

/-- EVQ's room as the start tick comes. -/
theorem State.tickZero_ready (hhold : s.q.evHold = []) (hdrop : s.q.evDrop = 0) (hup : bitOf s.q.upset 8 = false) (hlevel : s.level 8 + 8 ≤ 4096)
    (hbehind : s.q.evTb ≠ max s.tm.tb x ∨ (x ≤ s.tm.tb ∧ s.evBehind n = 0)) : EvReady n 8 (s.passTo x).tickZero := by
  have hpass : PassOnly s (s.passTo x) := PassOnly.passTo
  have hzero := (s.passTo x).tickZero_facts
  have hq : (s.passTo x).tickZero.q = s.q := hzero.q.trans hpass.q
  have htb : (s.passTo x).tickZero.tm.tb = max s.tm.tb x := by
    rw [hzero.tm]
    exact (Elapsed.passTo s x).tb
  generalize (s.passTo x).tickZero = y at hq htb
  refine ⟨by rw [hq, hhold], by rw [hq, hdrop], by rw [hq, hup], ?_, ?_⟩
  · show y.q.evq.recs.length + 8 ≤ 4096
    rw [hq]
    exact hlevel
  · unfold State.evBehind
    rw [hq, htb]
    rcases hbehind with hne | ⟨hle, h0⟩
    · exact if_neg hne
    · rw [Nat.max_eq_left hle]
      exact h0

/-- At its start tick the heat runs (R84, R89). -/
theorem heatStart_runs (hlive : s.live = true) (hwait : s.tm.startWait = false) (hat : s.tm.startAt = some x) (hstart : s.tm.starter = none)
    (hheat : s.fld F.SEQ_STAT_HEAT = 2) (hcount : s.fld F.TB_STAT_COUNTING = 1) (hrole : s.role = roleSingle) :
    Does .heatStart s fun t => t.fld F.SEQ_STAT_HEAT = 3 ∧ t.tm.heat = 0 ∧ t.tm.tb = max s.tm.tb x ∧
      t.getSel 0x0802 = max s.tm.tb x % 2 ^ 64 ∧ t.tm.startAt = none ∧ t.fld F.PLAN_TL_FREE = 0 ∧
      ∀ m : Fin 8, s.inHeat m.val = true → t.sqState m.val = sqRunning ∧ t.rd (F.SQ_LATCH_LO_LATCH m.val).a = 0 ∧
        t.rd (F.SQ_LATCH_HI_LATCH m.val).a = 0 ∧ t.fld (F.SQ_POS_EXT m.val) = 0 ∧
        (s.fld F.SEQ_CFG_MODE_BUFFERED = 0 → (t.sqn m.val).next = [⟨48, .visit (s.fld (F.SQ_START_ENTRY m.val)) false⟩] ∧
          ((∀ k : Fin 8, m.val < k.val → s.inHeat k.val = false) → s.q.evHold = [] → s.q.evDrop = 0 → bitOf s.q.upset 8 = false →
            s.level 8 + 8 ≤ 4096 → s.q.evTb ≠ max s.tm.tb x ∨ (x ≤ s.tm.tb ∧ s.evBehind m.val = 0) → t.lastRec 8 =
              some (evRec (max s.tm.tb x) m.val 0x01 (s.fld (F.SQ_START_ENTRY m.val) + 2 ^ 16 * s.tm.startSrc)))) := by
  have hexec : exec .heatStart s = .next s.heatStart.noteLevels := by
    show (if s.live && !s.tm.startWait then _ else _) = _
    rw [hlive, hwait]
    rfl
  refine ⟨s.heatStart, hexec, ?_⟩
  have hzero := (s.passTo x).tickZero_facts
  have htb : (s.passTo x).tm.tb = max s.tm.tb x := (Elapsed.passTo s x).tb
  have hsrc : (s.passTo x).tm.startSrc = s.tm.startSrc := by
    obtain ⟨h, f, htm⟩ := (Elapsed.passTo s x).tm
    rw [htm]
  have hpass : Leaves steady s (s.passTo x) := Leaves.passTo
  have hin : ∀ m, (s.passTo x).tickZero.inHeat m = s.inHeat m := fun m => by
    rw [State.inHeat, hzero.mask, hpass _ (by decide +kernel)]
    rfl
  have hunbuf : Unbuf s (s.passTo x).tickZero := Unbuf.passTo.trans (Unbuf.rd fun a ha => hzero.rd a
    (fun e => by subst e; cases ha) (fun e => by subst e; cases ha))
  have hready := fun n => State.tickZero_ready (s := s) (x := x) (n := n)
  rw [State.heatStart_single hat hstart hheat hcount hrole]
  generalize (s.passTo x).tickZero = y at hzero hin hunbuf hready
  obtain ⟨htm, hrun, hfree, hsel, -, -, -⟩ := hzero
  obtain ⟨hall, hsels, hleft⟩ := y.enterAll_frame
  have hget : y.enterAll.getSel 0x0802 = y.getSel 0x0802 := by rw [State.getSel, hsels]; rfl
  dsimp only
  rw [hall, hget, hsel, hleft _ (by decide +kernel), hleft _ (by decide +kernel), htm]
  refine ⟨hrun, rfl, htb, by rw [htb], rfl, hfree, fun m hm => ?_⟩
  have hm : y.inHeat m.val = true := (hin m.val).trans hm
  obtain ⟨hstate, hlow, hhigh, hext⟩ := y.enterAll_enters m.isLt hm
  refine ⟨hstate, hlow, hhigh, hext, fun h0 => ⟨?_, fun hmax hhold hdrop hup hlevel hbehind => ?_⟩⟩
  · rw [y.enterAll_next (hunbuf.mode h0) m.isLt hm, hunbuf.entry h0 m.isLt]
  · rw [y.enterAll_lastRec (hunbuf.mode h0) (by rw [htm]) m.isLt hm (fun k hk => (hin k.val).trans (hmax k hk))
      (hready m.val hhold hdrop hup hlevel hbehind), hunbuf.entry h0 m.isLt, htm]
    dsimp only
    rw [htb, hsrc]

end

/-- Settles O12: START arms the heat and sets its start tick; at that tick the heat runs, and each of its sequencers has decided its
start entry. -/
theorem heatBegins : Obligations.HeatBegins := by
  refine ⟨fun s u w p ho hu hcheck => ?_, fun _ _ => heatStart_runs⟩
  rw [State.seqSet_eq] at hu
  obtain ⟨t, hexec, ⟨hheat, hrun, hsqs, hwait, hat⟩, hok⟩ := start_arms ho hu hcheck
  have hfld : ∀ g : Fld, g.a ≠ 0x20000 → u.fld g = s.fld g := fun g hg => by rw [hu, State.seqSet_fld hg]
  have hmask : u.fld F.SEQ_STAT_HEAT_MASK = s.fld F.SEQ_STAT_HEAT_MASK := hfld _ (by decide)
  have htick : u.getSel 0x0800 = s.getSel 0x0800 := by rw [hu, State.seqSet_getSel]
  have haligned : firstAligned u.clk.lockN (u.fld F.TB_STAT_TB_ALIGN) (u.tm.tb + 16) =
      firstAligned s.clk.lockN (s.fld F.TB_STAT_TB_ALIGN) (s.tm.tb + 16) := by
    rw [hfld _ (by decide), hu, State.seqSet_tm, State.seqSet, State.plain_clk]
    rfl
  refine ⟨t, hexec, hheat, hrun.trans hmask, hok, fun n hin => hsqs n ?_, hwait, fun h => ?_, fun h => ?_, fun h => ?_⟩
  · rw [State.inHeat, hmask]
    exact hin
  · rw [hat, h]
    rfl
  · rw [hat, h, ← htick]
    rfl
  · rw [hat, h, ← haligned]
    rfl

end Sys2Proof.Machine
end
